-- ==== Sys2Proof/Word.lean ====
section
/-!
DEFINITION. Words, bytes and their plainest arithmetic (00_scope R4: bit ranges [msb:lsb], bit 0 least significant),
and the sparse canonical map that registers, tables and memory bytes are held in.
-/

namespace Sys2Proof

/-- One byte of payload, buffer or frame. -/
abbrev Byte := BitVec 8

/-- One 32-bit register or table word (00_scope R5, R10). -/
abbrev Word := BitVec 32

/-- A register word from a number. -/
def word (n : Nat) : Word := BitVec.ofNat 32 n

/-- A byte from a number. -/
def byte (n : Nat) : Byte := BitVec.ofNat 8 n

/-- A sparse map: ascending keys, no entry equal to the key's default value. -/
structure SMap (α : Type) where
  cells : List (Nat × α) := []
deriving DecidableEq, Repr

end Sys2Proof
end

