-- ==== Sys2Proof/Syntax.lean ====
section
/-!
DEFINITION. The commands of the gateway: one constructor of `Instr` per row of spec/opcode_table.json, with the row's
operands. Data that arrives from outside (blocks, frames, markers, readings, PTP messages) is an operand; data inside
the gateway travels through queues of the state.
-/

namespace Sys2Proof

/-- The physical path of a management frame (16_management R441). -/
inductive Path | spi | i3c
deriving DecidableEq, Repr

/-- The supported common command codes of the I3C target (16_management R444). -/
inductive Ccc
  | entdaa (da : Nat) | setdasa (da : Nat) | rstdaa | enec | disec | getpid | getbcr | getdcr | getstatus
deriving DecidableEq, Repr

/-- A PTP message (10_timetable_time R274); times in units of 2^-16 ns. `src` is the sender's port identity; an Announce
carries `ds`, the dataset the default best master clock algorithm compares, in its order (priority1, clock class,
accuracy, variance, priority2, grandmaster identity, steps removed), and its interval in ns. -/
inductive PtpMsg
  | announce (src : Nat) (ds : List Nat) (interval : Nat)
  | sync (src : Nat) (oneStep : Bool) (origin arrival : Nat)
  | followUp (src : Nat) (origin : Nat)
  | delayReqSent (t3 : Nat)
  | delayResp (src : Nat) (t4 : Nat)
deriving DecidableEq, Repr

/-- A received frame of the telemetry port (16_management R458). -/
inductive TlmFrame
  | ptp | pause (quanta : Nat) | other
deriving DecidableEq, Repr

/-- What a bring-up of a module ends with (13_optics R360): the failing status (0 none), the identifier byte, the CMIS
module state, whether page B0h holds the signature, ENTRIES, and whether BER and OSNR are located. -/
structure BringUp where
  status : Fin 19
  ident : Nat
  mstate : Nat
  hopSig : Bool
  entries : Nat
  vdm : Bool
deriving DecidableEq, Repr

/-- One 100 ms reading of a module (13_optics R363): Tx bias, Tx power, Rx power, OSNR, the media margin M in 0.01
decade, and -100 log10 of the pre-FEC BER. -/
structure OptRead where
  txBias : Nat
  txPwr : Nat
  rxPwr : Nat
  osnr : Nat
  margin : Int
  berNlog : Nat
deriving DecidableEq, Repr

/-- What the margin test of a line port measures (12_line_coding_retry R350, R351): were its lanes locked, the corrected
symbols and all symbols of its worst lane, its uncorrectable codewords, and M in 0.1 decade, none without a module reading. -/
structure Margin where
  port : Nat
  lock : Bool
  errs : Nat
  syms : Nat
  ucw : Nat
  media : Option Int
deriving DecidableEq, Repr

/-- The outcome a boot step reports (15_boot_config R420, R421): whether it completed, the status of a failure, the
mask of units that failed both methods (at step 3, bits 0 and 1 the fabric I/O dies, 2 and 3 the line I/O dies; at step 6,
the 64 KiB units of SRAM that repair withdraws), the mask of units that completed by the alternate method, and the
readings of a margin test. -/
structure StepResult where
  ok : Bool
  status : Fin 19
  excluded : Nat
  alternate : Nat
  margins : List Margin
deriving DecidableEq, Repr

/-- An error found by a unit while a command runs (17_power_thermal R482): corrected or uncorrectable, its load
class 0 to 7. -/
structure Err where
  uncorrectable : Bool
  cls : Nat
deriving DecidableEq, Repr

/-- What a scrub access finds in its word (07_buffers_memory R213 to R216): of an error, its load class and, in HBM, the
bank group, bank and row that hold the word. -/
inductive ScrubFind
  | clean
  | corrected (cls bg bank row : Nat)
  | uncorrectable (cls bg bank row : Nat)
deriving DecidableEq, Repr

/-- A word in error that a demand access meets while a command runs (07_buffers_memory R213, R214): in SRAM at a byte
offset, or in HBM at an address with its bank group, bank and row; corrected or uncorrectable; the load class. -/
structure MemErr where
  sram : Bool
  addr : Nat
  ue : Bool
  cls : Nat
  bg : Nat := 0
  bank : Nat := 0
  row : Nat := 0
deriving DecidableEq, Repr

/-- A codeword of a host lane with symbols in error in the bytes a FRAME_RX brings (12_line_coding_retry R335, R336): its
lane, the first and last byte it holds of the lane's share, the symbols in error, and whether its first byte came with
these bytes. -/
structure CwErr where
  lane : Fin 8
  lo : Nat
  hi : Nat
  syms : Nat
  first : Bool := true
deriving DecidableEq, Repr

/-- The commands (spec/opcode_table.json, row for row). -/
inductive Instr
  /-- REGISTER_WRITE (R14). -/
  | registerWrite (p : Path) (addr : Word) (val : Word)
  /-- WINDOW_DATA_ACCESS (R10). -/
  | windowDataAccess (p : Path) (addr : Word) (wr : Option Word)
  /-- RC_READ (R8). -/
  | rcRead (p : Path) (addr : Word)
  /-- LOW_WORD_READ (R9). -/
  | lowWordRead (p : Path) (addr : Word)
  /-- MGMT_FRAME_ABORT (R443). -/
  | mgmtFrameAbort (p : Path)
  /-- MGMT_RESERVED_OPCODE (R442). -/
  | mgmtReservedOpcode (p : Path) (opcode : Byte) (addr : Word)
  /-- MGMT_FRAME_BUSY (R445). -/
  | mgmtFrameBusy (p : Path)
  /-- I3C_CCC (R444). -/
  | i3cCcc (c : Ccc)
  /-- SHADOW_READ (R457). -/
  | shadowRead (p : Path) (addr : Word)
  /-- STEWARD_RESTART (R15). -/
  | stewardRestart (sub : Fin 18)
  /-- EVENT_RATE_EMIT (R509). -/
  | eventRateEmit (code src key : Nat)
  /-- FPC_PORT_ENABLE (R64). -/
  | fpcPortEnable (n : Fin 32)
  /-- FPC_PORT_DISABLE (R64). -/
  | fpcPortDisable (n : Fin 32)
  /-- LINK_TRAINED (R64); `skew` is the spread of the four lanes' alignment markers in ns (R53). -/
  | linkTrained (n : Fin 32) (skew : Nat := 0)
  /-- LINK_STATE_TIMEOUT (R64). -/
  | linkStateTimeout (n : Fin 32)
  /-- FPC_DRAIN_TIMEOUT (R64). -/
  | fpcDrainTimeout (n : Fin 32)
  /-- LINK_BLOCK_TX (R56). -/
  | linkBlockTx (n : Fin 32)
  /-- LINK_BLOCK_RX (R61). -/
  | linkBlockRx (n : Fin 32) (blk : List Byte) (parms : Option (List Nat))
  /-- ACK_TIMEOUT (R62). -/
  | ackTimeout (n : Fin 32)
  /-- LANE_LOSS (R65). -/
  | laneLoss (n : Fin 32) (lane : Fin 4)
  /-- ROUTER_PACKET_RX (R68); `par` is the subsystem whose FIFO gave a word of the payload with a parity error (R17, R70). -/
  | routerPacketRx (src : Fin 33) (par : Option (Fin 18) := none) (mem : Option MemErr := none)
  /-- ESC_TIMEOUT (R80). -/
  | escTimeout (n : Fin 32) (vc : Fin 8)
  /-- ROUTER_ENABLE (R511). -/
  | routerEnable
  /-- ROUTER_DISABLE (R511). -/
  | routerDisable
  /-- EPOCH_WCLOSE (R84). -/
  | epochWclose (val : Word)
  /-- EPOCH_SET_CUR (R86). -/
  | epochSetCur (val : Word)
  /-- EPOCH_IDLE (R83). -/
  | epochIdle (v : Fin 2)
  /-- RT_TBL_WRITE (R84). -/
  | rtTblWrite (val : Word)
  /-- CIRC_TBL_WRITE (R91). -/
  | circTblWrite (val : Word)
  /-- FLOW_ENABLE (R97). -/
  | flowEnable (f : Fin 16384)
  /-- FLOW_DISABLE (R98). -/
  | flowDisable (f : Fin 16384)
  /-- FLOW_DRAIN_TIMEOUT (R98). -/
  | flowDrainTimeout (f : Fin 16384)
  /-- FLOW_CTX_WRITE (R96). -/
  | flowCtxWrite (val : Word)
  /-- RECORD_OPEN (R104). -/
  | recordOpen (val : Word)
  /-- PACKET_ACCEPT (R105). -/
  | packetAccept (mem : Option MemErr := none)
  /-- NACK_TIMEOUT (R110). -/
  | nackTimeout (r : Fin 65536)
  /-- RESEND_TIMEOUT (R111). -/
  | resendTimeout (r : Fin 65536)
  /-- CMPL_ACK_RX (R111). -/
  | cmplAckRx
  /-- CMPL_NACK_RX (R111). -/
  | cmplNackRx
  /-- CTRL_MSG_BAD (R109). -/
  | ctrlMsgBad
  /-- RECORD_CLOSE (R113). -/
  | recordClose (r : Fin 65536)
  /-- CUSTODY_RECORD_OPEN (R112). -/
  | custodyRecordOpen
  /-- CLE_CTX_ENABLE (R123). -/
  | cleCtxEnable (x : Fin 4096)
  /-- CLE_CTX_DISABLE (R144). -/
  | cleCtxDisable (x : Fin 4096)
  /-- CLE_START (R145). -/
  | cleStart (x : Fin 4096)
  /-- CLE_CTX_WRITE (R122). -/
  | cleCtxWrite (val : Word)
  /-- CHUNK_GRANT (R125). -/
  | chunkGrant (x : Fin 4096)
  /-- CHUNK_STAGED (R127). -/
  | chunkStaged (x : Fin 4096) (c : Nat)
  /-- HELD_CONTRIB_TIMEOUT (R129). -/
  | heldContribTimeout
  /-- RXSTAGE_REREQUEST (R130). -/
  | rxstageRerequest
  /-- CHUNK_TIMEOUT (R128). -/
  | chunkTimeout (x : Fin 4096) (c : Nat)
  /-- CHUNK_RELEASE_TIMEOUT (R128). -/
  | chunkReleaseTimeout (x : Fin 4096) (c : Nat)
  /-- PAT_TAKE (R132). -/
  | patTake (churn : Fin 256) (mem : Option MemErr := none)
  /-- PAT_ROUND (R135). -/
  | patRound (churn : Fin 256) (err : Option Err)
  /-- CHECKSUM_CHECK (R139). -/
  | checksumCheck (x : Fin 4096) (c : Nat)
  /-- PARK_TIMEOUT (R143). -/
  | parkTimeout (x : Fin 4096)
  /-- CTX_DRAIN_TIMEOUT (R144). -/
  | ctxDrainTimeout (x : Fin 4096)
  /-- ABORT_RX (R149). -/
  | abortRx
  /-- XFM_SET_ENC (R187). -/
  | xfmSetEnc (cls : Fin 16) (bank : Fin 2)
  /-- XFM_INVALIDATE (R186). -/
  | xfmInvalidate (cls : Fin 16) (bank : Fin 2)
  /-- TABLE_LOAD (R187). -/
  | tableLoad (val : Word)
  /-- RANK_DESC_WRITE (R172). -/
  | rankDescWrite (val : Word)
  /-- SKIM_BLOCK (R185). -/
  | skimBlock (u : Fin 32) (err : Option Err)
  /-- EXPAND_BLOCK (R185). -/
  | expandBlock (u : Fin 32) (err : Option Err)
  /-- PRESS_BLOCK (R190). -/
  | pressBlock (tile : Fin 16) (err : Option Err)
  /-- RANK_ORTHONORMALIZE (R175). -/
  | rankOrthonormalize (d : Fin 64)
  /-- POOL_ENABLE (R203). -/
  | poolEnable (p : Fin 64)
  /-- POOL_DISABLE (R209). -/
  | poolDisable (p : Fin 64)
  /-- BPM_ALLOC (R207). -/
  | bpmAlloc (pool owner : Fin 64)
  /-- BPM_FREE (R208). -/
  | bpmFree (hi : Word)
  /-- BUFFER_REQUEST_SERVED (R206). -/
  | bufferRequestServed
  /-- HBC_RETIRE (R217). -/
  | hbcRetire (stack : Fin 8) (pc : Fin 32)
  /-- SCRUB_STEP (R215). -/
  | scrubStep (sram : Bool) (found : ScrubFind)
  /-- ROW_REMAP (R216); `found` is what reading the row before the repair meets, `repaired` whether a repair resource is left. -/
  | rowRemap (stack : Fin 8) (pc : Fin 32) (bg bank row : Nat) (found : List MemErr) (repaired : Bool)
  /-- HBM_CONTROLLER_FAULT (R218). -/
  | hbmControllerFault (stack : Fin 8)
  /-- KEY_LOAD (R230). -/
  | keyLoad (slot : Fin 4096) (pos : Fin 2)
  /-- KEY_LOAD_DONE (R231). -/
  | keyLoadDone
  /-- KEY_SWITCH (R244). -/
  | keySwitch (slot : Fin 4096) (pos : Fin 2)
  /-- KEY_RETIRE (R245). -/
  | keyRetire (slot : Fin 4096) (pos : Fin 2)
  /-- KEY_ZEROIZE (R248). -/
  | keyZeroize (slot : Fin 4096)
  /-- HELD_KEY_RETIRE (R245). -/
  | heldKeyRetire (slot : Fin 4096) (pos : Fin 2)
  /-- REKEY_READY_RX (R243). -/
  | rekeyReadyRx (g : Fin 8)
  /-- REKEY_RETIRED_RX (R245). -/
  | rekeyRetiredRx (g : Fin 8)
  /-- CIPHER_DISPATCH (R235). -/
  | cipherDispatch (core : Fin 160)
  /-- CIPHER_COMPLETE (R238). -/
  | cipherComplete (core : Fin 160) (err : Option Err)
  /-- ITEM_HANDOVER (R256). -/
  | itemHandover (g : Fin 8)
  /-- SCH_SELECT (R259). -/
  | schSelect (g : Fin 8)
  /-- SCH_DRAIN_TIMEOUT (R257). -/
  | schDrainTimeout (g : Fin 8)
  /-- GCL_ARM (R264). -/
  | gclArm (g : Fin 8) (bank : Fin 2)
  /-- GCL_DISARM (R264). -/
  | gclDisarm (g : Fin 8) (bank : Fin 2)
  /-- HCLEAR (R266). -/
  | hclear (g : Fin 8)
  /-- GATE_TAKEOVER (R264). -/
  | gateTakeover (g : Fin 8)
  /-- QUEUE_SAMPLE (R266). -/
  | queueSample
  /-- TIME_XFER_ENABLE (R295). -/
  | timeXferEnable
  /-- TIME_XFER_DISABLE (R295). -/
  | timeXferDisable
  /-- PTP_MESSAGE_RX (R274); `udp` is the transport it came by, Ethernet where false. -/
  | ptpMessageRx (domain : Nat) (m : PtpMsg) (udp : Bool := false)
  /-- PPS_IN_EDGE (R275). -/
  | ppsInEdge
  /-- TOD_ARM (R275). -/
  | todArm (hi : Word)
  /-- TT_SAMPLE (R278). -/
  | ttSample
  /-- SOURCE_TIMEOUT (R281). -/
  | sourceTimeout
  /-- HOLDOVER_LIMIT (R281). -/
  | holdoverLimit
  /-- SEGMENT_ENABLE (R284). -/
  | segmentEnable (g : Fin 64)
  /-- SEGMENT_DISABLE (R284). -/
  | segmentDisable (g : Fin 64)
  /-- SHARD_CMD (R291). -/
  | shardCmd (bank : Fin 2)
  /-- SEGMENT_END (R284). -/
  | segmentEnd (g : Fin 64)
  /-- TT_NOP (R286). -/
  | ttNop (e : Fin 65536)
  /-- TT_SLOTCLASS (R289). -/
  | ttSlotclass (e : Fin 65536)
  /-- TT_START (R286). -/
  | ttStart (e : Fin 65536)
  /-- TT_GATE (R264). -/
  | ttGate (e : Fin 65536)
  /-- TT_EPOCH (R86). -/
  | ttEpoch (e : Fin 65536)
  /-- TT_KEYSWITCH (R244). -/
  | ttKeyswitch (e : Fin 65536)
  /-- TT_DECODE (R187). -/
  | ttDecode (e : Fin 65536)
  /-- TT_HOP (R373). -/
  | ttHop (e : Fin 65536)
  /-- TT_SHARD (R291). -/
  | ttShard (e : Fin 65536)
  /-- TT_ASTER (R455). -/
  | ttAster (e : Fin 65536)
  /-- TT_SITE_EPOCH (R390). -/
  | ttSiteEpoch (e : Fin 65536)
  /-- LINE_PORT_ENABLE (R328). -/
  | linePortEnable (n : Fin 16)
  /-- LINE_PORT_DISABLE (R328). -/
  | linePortDisable (n : Fin 16)
  /-- LINE_PORT_ON (R337). -/
  | linePortOn (n : Fin 16)
  /-- LINE_TRAIN_TIMEOUT (R337). -/
  | lineTrainTimeout (n : Fin 16)
  /-- LANE_MARKER_RX (R336). -/
  | laneMarkerRx (n : Fin 16) (lane : Fin 8) (m : Option (List Byte))
  /-- FRAME_TX (R301). -/
  | frameTx (n : Fin 16)
  /-- FRAME_RX (R311). -/
  | frameRx (n : Fin 16) (data : List Byte) (fec : List CwErr)
  /-- RAW_DEFECT_SET (R314). -/
  | rawDefectSet (n : Fin 16) (d : Fin 8)
  /-- RAW_DEFECT_CLEAR (R314). -/
  | rawDefectClear (n : Fin 16) (d : Fin 8)
  /-- SDSF_WINDOW_END (R314). -/
  | sdsfWindowEnd (n : Fin 16)
  /-- DEFECT_DECLARED (R316). -/
  | defectDeclared (u : Fin 24) (d : Fin 10)
  /-- DEFECT_CLEARED (R316). -/
  | defectCleared (u : Fin 24) (d : Fin 10)
  /-- PM_SECOND (R319). -/
  | pmSecond (n : Fin 16)
  /-- GROUP_ENABLE (R321). -/
  | groupEnable (g : Fin 8)
  /-- GROUP_DISABLE (R257). -/
  | groupDisable (g : Fin 8)
  /-- GROUP_ON (R321). -/
  | groupOn (g : Fin 8)
  /-- GROUP_START_TIMEOUT (R321). -/
  | groupStartTimeout (g : Fin 8)
  /-- POSITION_READY (R323). -/
  | positionReady (g : Fin 8) (p : Fin 16)
  /-- GROUP_ADD (R325). -/
  | groupAdd (g : Fin 8) (p : Fin 16)
  /-- GROUP_REMOVE (R325). -/
  | groupRemove (g : Fin 8) (p : Fin 16)
  /-- GROUP_CANCEL (R325). -/
  | groupCancel (g : Fin 8)
  /-- ADD_ANNOUNCE (R324). -/
  | addAnnounce (g : Fin 8)
  /-- ADD_TIMEOUT (R325). -/
  | addTimeout (g : Fin 8)
  /-- ROW_RX (R310). -/
  | rowRx (g : Fin 8)
  /-- GCC_HEAD_TIMEOUT (R327). -/
  | gccHeadTimeout (g : Fin 8)
  /-- RETRY_TIMEOUT (R346). -/
  | retryTimeout (g : Fin 8) (req : Fin 65536)
  /-- RETRY_FRAMES_RX (R347). -/
  | retryFramesRx (g : Fin 8)
  /-- RETRY_SEGMENT_RX (R347). -/
  | retrySegmentRx (g : Fin 8)
  /-- RETRY_GONE_RX (R346). -/
  | retryGoneRx (g : Fin 8)
  /-- RETRY_COPY_EXPIRE (R343). -/
  | retryCopyExpire (g : Fin 8)
  /-- MARGIN_RX (R352). -/
  | marginRx (g : Fin 8)
  /-- STEP_LEDGER_RX (R398). -/
  | stepLedgerRx (g : Fin 8)
  /-- MODULE_INTERRUPT (R362). -/
  | moduleInterrupt (n : Fin 16) (acked rxLos : Bool)
  /-- MODULE_BRINGUP_DONE (R360). -/
  | moduleBringupDone (n : Fin 16) (r : BringUp)
  /-- MODULE_POLL (R362). -/
  | modulePoll (n : Fin 16) (answers : Bool)
  /-- FADE_SAMPLE (R363). -/
  | fadeSample (n : Fin 16) (r : OptRead)
  /-- MARGIN_SEND (R367). -/
  | marginSend (g : Fin 8)
  /-- SPARE_ADD_RETRY (R369). -/
  | spareAddRetry (g : Fin 8)
  /-- HOP_NOTICE (R372). -/
  | hopNotice (e : Fin 65536)
  /-- HOP_READBACK (R372). -/
  | hopReadback (n : Fin 16) (idx : Nat)
  /-- HOP_GUARD_END (R373). -/
  | hopGuardEnd (n : Fin 16)
  /-- HOP_STROBE_FALL (R373). -/
  | hopStrobeFall (n : Fin 16)
  /-- HOP_WINDOW_END (R373). -/
  | hopWindowEnd (n : Fin 16)
  /-- HEALTH_SCORE (R374). -/
  | healthScore
  /-- LSAFE_SET (R381). -/
  | lsafeSet
  /-- LSAFE_REL (R381). -/
  | lsafeRel
  /-- REBASE (R366). -/
  | rebase (n : Fin 16)
  /-- CLEAR_EXPEL (R379). -/
  | clearExpel (n : Fin 16)
  /-- MODULE_ACCESS (R383). -/
  | moduleAccess (val : Word)
  /-- SITE_EPOCH_WCLOSE (R390). -/
  | siteEpochWclose (val : Word)
  /-- SITE_EPOCH_SET_CUR (R390). -/
  | siteEpochSetCur (val : Word)
  /-- SITE_EPOCH_IDLE (R390). -/
  | siteEpochIdle (v : Fin 2)
  /-- SRT_TBL_WRITE (R390). -/
  | srtTblWrite (val : Word)
  /-- SITE_AUTO_SWITCH (R391). -/
  | siteAutoSwitch
  /-- SITE_PARTITION (R392). -/
  | sitePartition (s : Fin 16)
  /-- SITE_RECONNECT (R395). -/
  | siteReconnect (s : Fin 16)
  /-- LEDGER_RESEND (R398). -/
  | ledgerResend (j : Fin 65600)
  /-- LEDGER_TMO (R399). -/
  | ledgerTmo (j : Fin 65600)
  /-- JOB_ENTRY_WRITE (R396). -/
  | jobEntryWrite (val : Word)
  /-- POWER_ON (R489). -/
  | powerOn
  /-- COLD_RESET (R489). -/
  | coldReset
  /-- BOOT_WARM (R419). -/
  | bootWarm
  /-- BOOT_STEP_COMPLETE (R421). -/
  | bootStepComplete (r : StepResult)
  /-- BOOT_STEP_LIMIT (R421); the mask of units that have not completed. -/
  | bootStepLimit (notDone : Nat)
  /-- NVM_ERASE (R425). -/
  | nvmErase (slot : Fin 2)
  /-- NVM_PROGRAM (R425). -/
  | nvmProgram (slot : Fin 2) (page : Nat)
  /-- NVM_VERIFY (R425). -/
  | nvmVerify (slot : Fin 2)
  /-- NVM_COMMAND_DONE (R425). -/
  | nvmCommandDone
  /-- OTP_SITE (R427). -/
  | otpSite
  /-- OTP_ROLLBACK_INC (R427). -/
  | otpRollbackInc
  /-- OTP_KEK_FIRST (R428). -/
  | otpKekFirst
  /-- OTP_KEK_NEXT (R428). -/
  | otpKekNext
  /-- OTP_LINEMASK (R427). -/
  | otpLinemask
  /-- OTP_DEBUG_LOCK (R465). -/
  | otpDebugLock
  /-- OTP_ROOT_HASH (R427). -/
  | otpRootHash
  /-- OTP_WRITE_DONE (R427). -/
  | otpWriteDone
  /-- DESCRIPTOR_RX (R430). -/
  | descriptorRx
  /-- ASTER_SCHEDULE (R455). -/
  | asterSchedule
  /-- ASTER_CANCEL (R455). -/
  | asterCancel
  /-- ASTER_LATCH (R456). -/
  | asterLatch
  /-- ASTER_DONE (R456). -/
  | asterDone
  /-- EVENT_LOG_WRITE (R451). -/
  | eventLogWrite
  /-- DATAGRAM_SEND (R459). -/
  | datagramSend
  /-- TLM_FRAME_RX (R458). -/
  | tlmFrameRx (f : TlmFrame)
  /-- TLM_LINK_CHANGE (R459). -/
  | tlmLinkChange (up : Bool)
  /-- MOP_ARM (R462). -/
  | mopArm (val : Word)
  /-- MOP_ARM_EXPIRE (R462). -/
  | mopArmExpire
  /-- ZEROIZE (R462). -/
  | zeroize
  /-- LASER_SAFE (R462). -/
  | laserSafe
  /-- HARD_RESET (R462). -/
  | hardReset
  /-- READ_POWER (R463). -/
  | readPower
  /-- READ_EVENTS (R462). -/
  | readEvents
  /-- READ_JOURNAL (R462). -/
  | readJournal
  /-- ZEROIZE_N_ASSERT (R464). -/
  | zeroizeNAssert
  /-- DBG_ENTER (R465). -/
  | dbgEnter
  /-- PWR_EN_RISE (R473). -/
  | pwrEnRise
  /-- PWR_EN_FALL (R476). -/
  | pwrEnFall
  /-- PRSNT_N_RELEASE (R477). -/
  | prsntNRelease
  /-- INPUT_UNDERVOLTAGE (R477). -/
  | inputUndervoltage (mv : Nat)
  /-- INPUT_OVERVOLTAGE (R470). -/
  | inputOvervoltage (mv : Nat)
  /-- INPUT_OVERCURRENT (R470). -/
  | inputOvercurrent (ma : Nat)
  /-- INPUT_ALARM (R470): a rail's number, or 16 for the input; its voltage; the input power in 0.1 W. -/
  | inputAlarm (rail : Nat) (mv : Nat) (pw : Nat)
  /-- QUIESCE_REQUEST (R475). -/
  | quiesceRequest
  /-- QUIESCE_END (R476). -/
  | quiesceEnd
  /-- QUIESCE_TIMEOUT (R475). -/
  | quiesceTimeout
  /-- THERMAL_SAMPLE (R479). -/
  | thermalSample (temps : List (Option Int))
  /-- TEMP_STEP_END (R481). -/
  | tempStepEnd
  /-- REFCLK_LOSS (R488). -/
  | refclkLoss
  /-- PLL_UNLOCK (R488). -/
  | pllUnlock (i : Fin 16)
  /-- LOCUS_COUNT_CLEAR (R483). -/
  | locusCountClear
  /-- SOAK_PASS (R485). -/
  | soakPass (u : Fin 752) (err : Bool)
  /-- ELC_QUARANTINE (R491). -/
  | elcQuarantine (u : Fin 1024)
  /-- ELC_RELEASE (R491). -/
  | elcRelease (u : Fin 1024)
  /-- COMMAND_CRC_WRONG (R443). -/
  | commandCrcWrong (p : Path)
  /-- PPS_OUT_RISE (R276). -/
  | ppsOutRise
  /-- GEN_HOLD_EXPIRE (R186). -/
  | genHoldExpire (cls : Fin 16) (bank : Fin 2)
  /-- PLL_LOCK (R488). -/
  | pllLock (i : Fin 16)
  /-- MODULE_ACCESS_DONE (R383). -/
  | moduleAccessDone (ack : Bool) (data : Byte)
deriving DecidableEq, Repr

end Sys2Proof
end

