-- ==== Sys2Proof/Config.lean ====
section
/-!
DEFINITION. What the spec leaves open and the machine goes on with: free values. Each is an opaque constant without a
body, applied to the plain counter `State.core.free` (or to the operands it depends on), so no proof knows its value.
-/

namespace Sys2Proof.Config

/-- Which free buffer of a pool an allocation lends (07_buffers_memory R206: not specified). Reduced modulo the number
of free buffers. Assumption log 3. -/
opaque freeBuffer : Nat → Nat

/-- The tANS encoder's choice of the final decoder state of a lane (06_compression R181: any correct encoder).
Assumption log 3. -/
opaque freeLaneState : Nat → Nat

/-- The buffer pointer under which a producer holds the AAD of a request (08_cipher R236 names the field, no rule says
where the AAD lies). Assumption log 3. -/
opaque freeAadPtr : Nat → BitVec 64


/-- The age in microseconds that READ_POWER reports for its samples (16_management R463). Assumption log 3. -/
opaque freeSampleAge : Nat → Nat

/-- Bits of the response of GETPID, GETBCR and GETDCR that the spec does not give (16_management R444).
Assumption log 3. -/
opaque freeCccByte : Nat → BitVec 8

/-- Fill of an error report field whose value the spec names but cannot be derived in the model: the elapsed time of a
guaranteed operation (16_management R468). Assumption log 3. -/
opaque freeElapsed : Nat → Nat

/-- A sensor-free figure: the temporary value of a margin or slope whose rounding R363 or R364 does not state.
Assumption log 3. -/
opaque freeRound : Nat → Int → Int

/-- The event code of STEWARD_RESTART (argument 0, 01_architecture R15) and CAP_CHANGE (argument 1, R20): both are
logged, and no table of the spec gives their codes. Assumption log 3. -/
opaque freeEventCode : Nat → BitVec 16

/-- The arguments of STEWARD_RESTART, which carry the steward's source ID in a place that no table of the spec gives
(01_architecture R15). Assumption log 3. -/
opaque freeRestartArgs : Nat → Nat

/-- The 120-bit alignment marker of a fabric lane and port: R53 of 03_fabric_side says that it carries both numbers, and
gives no layout. Assumption log 113. -/
opaque fabMarker : Nat → Nat → Nat

/-- A field of a message or record whose value the spec leaves open at that place (each use names its rule).
Assumption log 3. -/
opaque freeField : Nat → Nat

end Sys2Proof.Config
end

