-- ==== Sys2Proof/Machine/Codes.lean ====
section
/-!
DEFINITION. Byte order and the linear codes of the protocols: CRC-8 (16_management R442), CRC-16 (03_fabric_side R67),
CRC-32 (R56), the frame scrambler (11_line_framing R304), BIP-16 (R305) and the GF(2^8) erasure code
(12_line_coding_retry R339).
-/

namespace Sys2Proof.Machine

/-- `n` bytes, most significant first (00_scope R4). -/
def beBytes : Nat → Nat → List Byte
  | 0, _ => []
  | n + 1, v => byte (v >>> (8 * n)) :: beBytes n v

/-- `n` bytes, least significant first. -/
def leBytes : Nat → Nat → List Byte
  | 0, _ => []
  | n + 1, v => byte v :: leBytes n (v >>> 8)

/-- The number whose most significant byte is first. -/
def beNat (l : List Byte) : Nat := l.foldl (fun a b => a * 256 + b.toNat) 0

def leNat : List Byte → Nat
  | [] => 0
  | b :: l => b.toNat + 256 * leNat l

/-- Bytes [a, a + n) of a string. -/
def slice (l : List Byte) (a n : Nat) : List Byte := (l.drop a).take n

def byteAt (l : List Byte) (i : Nat) : Nat := (l.getD i 0).toNat

/-- The first `n` bytes, zero-padded. -/
def padTo (n : Nat) (l : List Byte) : List Byte := l.take n ++ List.replicate (n - l.length) 0

/-- One message bit through a CRC register of `w` bits, most significant bit first. -/
def crcBit (w poly : Nat) (r : Nat) (b : Bool) : Nat :=
  let top := r.testBit (w - 1)
  let r' := (r * 2) % 2 ^ w
  if top != b then r' ^^^ poly else r'

/-- A byte, most significant bit first. -/
def crcByte (w poly : Nat) (r : Nat) (x : Byte) : Nat :=
  [7, 6, 5, 4, 3, 2, 1, 0].foldl (fun r i => crcBit w poly r (x.getLsbD i)) r

def crc8 (l : List Byte) : Nat := l.foldl (crcByte 8 0x07) 0
def crc16 (l : List Byte) : Nat := l.foldl (crcByte 16 0x1021) 0xFFFF

/-- CRC-32 with the IEEE 802.3 polynomial; R56 names the polynomial only, and IEEE 802.3 starts from all ones, takes
each byte least significant bit first and complements the result (PRESUMED, log 12). -/
def crc32 (l : List Byte) : Nat :=
  let step := fun r (x : Byte) =>
    [0, 1, 2, 3, 4, 5, 6, 7].foldl (fun r i => crcBit 32 0x04C11DB7 r (x.getLsbD i)) r
  let r := l.foldl step 0xFFFFFFFF
  let rev := (List.range 32).foldl (fun a i => a + (if r.testBit i then 2 ^ (31 - i) else 0)) 0
  rev ^^^ 0xFFFFFFFF

/-- Eight output bits of the additive scrambler x^23 + x^18 + 1, most significant first, and the next state. -/
def scramByte (st : Nat) : Nat × Nat :=
  (List.range 8).foldl (fun (acc : Nat × Nat) _ =>
    let b := (acc.2.testBit 22).xor (acc.2.testBit 17)
    (acc.1 * 2 + b.toNat, (acc.2 * 2 + b.toNat) % 2 ^ 23)) (0, st)

/-- Scramble or descramble a string from a state. -/
def scramble (st : Nat) : List Byte → List Byte
  | [] => []
  | x :: l => let (o, st') := scramByte st
              byte (x.toNat ^^^ o) :: scramble st' l

/-- Bytes 7 to 8,191 of a frame are scrambled from all ones (R304). -/
def scrambleFrame (f : List Byte) : List Byte := f.take 7 ++ scramble (2 ^ 23 - 1) (f.drop 7)

/-- BIP-16 over bytes 8 to 8,191 as transmitted (R305). -/
def bip16 : List Byte → Nat
  | a :: b :: l => (a.toNat * 256 + b.toNat) ^^^ bip16 l
  | [a] => a.toNat * 256
  | [] => 0

def frameBip (f : List Byte) : Nat := bip16 (f.drop 8)

/-- Multiplication in GF(2^8) with polynomial 0x11D (R339). -/
def gfMul (a b : Nat) : Nat :=
  (List.range 8).foldl (fun (acc : Nat × Nat) i =>
    let r := if b.testBit i then acc.1 ^^^ acc.2 else acc.1
    let a2 := acc.2 * 2
    (r, if a2 ≥ 256 then a2 ^^^ 0x11D else a2)) (0, a) |>.1

def gfPow2 : Nat → Nat
  | 0 => 1
  | n + 1 => gfMul 2 (gfPow2 n)

/-- The inverse, as the 254th power. -/
def gfInv (a : Nat) : Nat :=
  (List.range 7).foldl (fun (acc : Nat × Nat) _ => let p := gfMul acc.2 acc.2; (gfMul acc.1 p, p)) (1, a) |>.1

/-- Byte-wise XOR of vectors of one length. -/
def xorBytes (a b : List Byte) : List Byte := List.zipWith (· ^^^ ·) a b

/-- A vector scaled by a field element. -/
def gfScale (k : Nat) (a : List Byte) : List Byte := a.map (fun x => byte (gfMul k x.toNat))

end Sys2Proof.Machine
end

