-- ==== Sys2Proof/Machine/Operands.lean ====
section
/-!
DEFINITION. Reading the operands of commands and the fields of words: bit fields [msb:lsb] (00_scope R4), signed
fields, event arguments (16_management R449) and unit masks.
-/

namespace Sys2Proof

/-- Field [hi:lo] of a number (R4). -/
def fld (w hi lo : Nat) : Nat := (w >>> lo) % 2 ^ (hi + 1 - lo)

/-- `w` with field [hi:lo] replaced by the low bits of `v`. -/
def setFld (w hi lo v : Nat) : Nat :=
  w - (fld w hi lo) * 2 ^ lo + (v % 2 ^ (hi + 1 - lo)) * 2 ^ lo

/-- One bit of a number. -/
def bitAt (w i : Nat) : Bool := w.testBit i

namespace Machine

/-- A signed field. -/
def signed (w v : Nat) : Int := if v.testBit (w - 1) then (v : Int) - 2 ^ w else v

/-- An integer as a field of `w` bits, two's complement. -/
def toFld (w : Nat) (i : Int) : Nat := (i % (2 ^ w : Int)).toNat

/-- Event arguments from fields [hi:lo] (16_management R449). -/
def args (l : List (Nat × Nat × Nat)) : Nat :=
  l.foldl (fun a f => a + (f.2.2 % 2 ^ (f.1 + 1 - f.2.1)) * 2 ^ f.2.1) 0

/-- Indices below `n` whose bit stands in a mask. -/
def bitsOf (n m : Nat) : List Nat := (List.range n).filter (fun i => m.testBit i)

/-- How many of the low `n` bits of a mask stand. -/
def popCount (n m : Nat) : Nat := (bitsOf n m).length

/-- A mask with bit `i` set to `b`. -/
def setBit (m i : Nat) (b : Bool) : Nat :=
  if b then m ||| 2 ^ i else if m.testBit i then m - 2 ^ i else m

end Machine

end Sys2Proof
end

