-- ==== Sys2Proof/Machine/State.lean ====
section
/-!
DEFINITION. The state of the gateway: plain data, everything the spec gives it. It stands in four parts: `otp` (the
OTP banks), `nvm` (the flash and what the journal, ledger and remap records hold), `aon` (Marigold: the always-on
island, 17_power_thermal R489) and `core` (every domain outside Marigold, which a warm boot resets). Registers and
tables are sparse words over their reset values (Machine/RegMap.lean); units that do more than hold words have typed
state here. Times are nanoseconds of the free-running count (10_timetable_time R271) unless said otherwise.
-/

namespace Sys2Proof.Machine

/-- No command of this model faults: the block has no fault of its own (INVENTORY, Faults). The one constructor keeps
the type inhabited; no meaning raises it. Safe: nothing stops on it. -/
inductive Fault
  /-- Raised by nothing. -/
  | none
deriving DecidableEq, Repr

/-- Why a command has no next state. -/
inductive Refusal
  /-- Raised only by an arm of `exec` whose command has no meaning yet. Safe: the run stops. -/
  | notModelled (mnemonic : String)
deriving DecidableEq, Repr

/-! ### Functions (15_boot_config R434) -/

inductive FState | off | starting | on | draining | faulted
deriving DecidableEq, Repr

/-- A function: FSTATE, PEND_EN, the status of its last command, and when it entered its state. -/
structure Fn where
  fst : FState := .off
  pend : Bool := false
  last : Nat := 0
  since : Nat := 0
deriving DecidableEq, Repr

/-- The functions of 15_boot_config (table before R434). -/
inductive FnId
  | ofl (n : Nat) | router | flow (f : Nat) | ctx (x : Nat) | pool (p : Nat) | linePort (n : Nat) | group (g : Nat)
  | segment (g : Nat) | timeXfer | hbc
deriving DecidableEq, Repr

/-! ### Events (16_management R449, R509) -/

/-- An event record; `time` is TIME and FRAC together, in units of 2^-16 ns. -/
structure Event where
  time : Nat := 0
  src : Nat := 0
  seq : Nat := 0
  code : Nat := 0
  sev : Nat := 0
  args : Nat := 0
deriving DecidableEq, Repr

/-- A running rate-limit interval of one (code, source, key): where the count stands in the arguments, when the
interval ends, what was counted since. -/
structure Lim where
  code : Nat
  src : Nat
  key : Nat
  ends : Nat
  interval : Nat
  count : Nat := 0
  cntLo : Nat := 0
  cntW : Nat := 32
  time : Nat := 0
  args : Nat := 0
deriving DecidableEq, Repr

/-- Event intake, source sequences and limiters (R19, R451, R452, R509). -/
structure Evl where
  running : Bool := false
  intake : List Event := []
  dropped : Nat := 0
  seqs : SMap Nat := {}
  lims : List Lim := []
deriving DecidableEq, Repr

/-! ### Management port, aster, telemetry (16_management) -/

/-- What a management frame is answered with (R442): STATUS, DATA of a read, GEN of a shadow read. -/
structure Resp where
  path : Path := .spi
  status : Nat := 0
  data : Option Word := none
  gen : Option Nat := none
deriving DecidableEq, Repr

structure Mgt where
  resp : Option Resp := none
  busyResp : Option Resp := none     -- the answer to a frame that met one in progress on the other path (R445)
  wire : List Byte := []             -- the bytes of `resp` as sent: SYNC to CRC-8 (R442)
  cccResp : List Byte := []
  ibiEn : Bool := false
  ibiRaised : Nat := 0
  alertLow : Bool := false
  asterT : Option Nat := none
  latching : Bool := false
  gen : Nat := 0
  shadGen : Nat := 0
deriving DecidableEq, Repr

/-- A telemetry record waiting for export: TYPE and body (R460). -/
structure TlmRec where
  typ : Nat
  body : List Byte
deriving DecidableEq, Repr

structure Tlm where
  link : Bool := false
  fifo : List TlmRec := []
  hiFlag : Bool := false
  curT : Nat := 0
  seq : Nat := 0
  pauseTill : Nat := 0
  lastDgram : List Byte := []
deriving DecidableEq, Repr

/-! ### Fabric ports and router (03_fabric_side) -/

/-- A packet: its 32 B header as a number of 256 bits (R66), its flit bytes, the data slots received, where it came
from (port 0 to 31, or 32 for a unit of the gateway). -/
structure Packet where
  hdr : BitVec 256
  data : List Byte
  slots : Nat
  inPort : Nat
deriving DecidableEq, Repr

/-- A non-idle slot held for retry (R60): its LSN, type (1 header, 2 data, 3 last), bytes, and when it was sent. -/
structure TxSlot where
  lsn : Nat
  typ : Nat
  vc : Nat := 0
  data : List Byte
  t : Nat
deriving DecidableEq, Repr

/-- A packet waiting at an output, with the time it reached the head of its queue (R80) and whether it moved to
escape on this gateway (R81). -/
structure QPkt where
  pkt : Packet
  headT : Nat := 0
deriving DecidableEq, Repr

structure OflPort where
  laneOk : Nat := 0
  link : Nat := 0
  cause : Nat := 0
  tries : Nat := 0
  t0 : Nat := 0
  enT : Nat := 0
  nextLsn : Nat := 0
  unacked : List TxSlot := []
  replay : List TxSlot := []
  replays : Nat := 0
  expLsn : Nat := 0
  nakOut : Bool := false
  nakDue : Bool := false
  crcRun : Nat := 0
  goodRun : Nat := 0
  parms : Bool := false
  peerBuf : SMap Nat := {}
  sent : SMap Nat := {}
  freedIn : SMap Nat := {}
  freedOut : SMap Nat := {}
  rxPart : Option Packet := none
  rxq : List Packet := []
  txq : SMap (List QPkt) := {}
  cur : List (Nat × List Byte) := []
  curEp : Nat := 2                   -- epoch of the packet being sent, 2: not in flight by R83
  curVc : Nat := 0
  deficit : SMap Nat := {}
  vc0win : List Bool := []
  rr : Nat := 0
  rrIn : Nat := 0                    -- the input its output stands at (01_architecture R25)
  crStep : Nat := 0
  lastBlk : List Byte := []
  parmTx : List Nat := []            -- receive buffer sizes it announces in PARAM (R64)
  parmAck : Bool := false            -- it has acknowledged the peer's
  fecBits : List Bool := []          -- bits sent that do not fill a codeword yet (R53)
  fecCw : Nat := 0                   -- codewords sent since its lanes trained
  laneOut : List (List Nat) := []    -- symbols of the four lanes sent with the last block
deriving DecidableEq, Repr

/-- One two-version epoch (R83 to R86; R390): CUR, WOPEN, IDLE, the in-flight counts, when each last became 0. -/
structure Epoch where
  cur : Nat := 0
  wopen : Nat := 0
  idle : Nat := 0
  infl0 : Nat := 0
  infl1 : Nat := 0
  zt0 : Nat := 0
  zt1 : Nat := 0
deriving DecidableEq, Repr

/-- A packet delivered to the flow context store, with the remote site of ACTION 4 (R75). -/
structure Deliv where
  pkt : Packet
  site : Option Nat := none
deriving DecidableEq, Repr

structure Frt where
  ep : Epoch := {}
  sep : Epoch := {}
  low : SMap (Option Word) := {}
  own : List Packet := []
  data : List Deliv := []
  ctl : List Packet := []
  desc : List Packet := []
  failT : SMap Nat := {}
  autoT : Nat := 0
deriving DecidableEq, Repr

/-! ### Buffers (07_buffers_memory) -/

/-- Who asks for a buffer inside the gateway (R206). -/
inductive BufUser
  | chunkRec (x c : Nat) | result (x c : Nat) | stage (x c : Nat) | rx (id : Nat) | custody (flow base : Nat)
deriving DecidableEq, Repr

structure BufReq where
  user : BufUser
  owner : Nat
  size : Nat
  mem : Nat
  either : Bool := false   -- SRAM first, HBM when no SRAM pool of the size can serve
deriving DecidableEq, Repr

structure Bpm where
  alloc : SMap Nat := {}             -- buffer pointer -> owner + 1
  waits : List BufReq := []
  granted : List (BufUser × Nat) := []
  rr : SMap Nat := {}                -- pool -> the owner class its pointer stands at (01_architecture R24)
deriving DecidableEq, Repr

/-- Deep memory (R198, R213 to R219). -/
structure Hbc where
  stackMask : Nat := 0
  conserv : Nat := 0
  retired : SMap Nat := {}           -- slice -> cause (0 in service)
  pcCause : SMap Nat := {}           -- 32 * stack + pc -> cause
  ueTimes : SMap (List Nat) := {}    -- 32 * stack + pc -> times of uncorrectable errors
  allPoison : Bool := false
  sramPos : Nat := 0
  hbmPos : Nat := 0
  sramT : Nat := 0
  hbmT : Nat := 0
  sramLate : Bool := false
  hbmLate : Bool := false
  wheyWin : List (Nat × Nat) := []   -- whey traffic: 1 ms window, bytes; newest first
  rowCe : SMap (List Nat) := {}      -- row -> addresses with corrected errors in the scrub period (R216)
  rowDue : SMap Nat := {}            -- row -> a remap is due: 1, or 2 for an uncorrectable error
  scrub : Nat := 0x4018000A          -- HBC_SCRUB as the passes in progress follow it (R223): SRAM
  scrubH : Nat := 0x4018000A         -- and HBM
deriving DecidableEq, Repr

/-! ### Flows (04_flows) -/

/-- A message verified off the line, waiting for a custody record (R104, R112). -/
structure CustMsg where
  flow : Nat
  base : Nat
  size : Nat
  cmpl : Nat
  ptr : Nat
deriving DecidableEq, Repr

/-- A message being received from the line: its invocations verified so far (R226, R310). -/
structure RxMsg where
  flow : Nat
  base : Nat
  size : Nat
  cmpl : Nat
  ptr : Nat
  got : List Nat := []
  raw : List (Nat × List Byte) := []
deriving DecidableEq, Repr

structure Fcs where
  recT : SMap Nat := {}              -- record -> start of its running timer + 1
  ackEnd : SMap Nat := {}            -- flow -> highest completed send end + 1 since ENABLE
  grantSeq : SMap Nat := {}          -- flow -> SEQ_BASE of the next chunk record + 1
  custody : List CustMsg := []
  rxMsgs : List RxMsg := []
  had : List (Nat × Nat × Nat) := []   -- message invocations verified into a send record: flow, SEQ_BASE, INV (12_line R348)
deriving DecidableEq, Repr

/-! ### The collective engine (05_collectives, 02_arithmetic, 14_sites) -/

/-- One element as the churns see it (R28, R29, R49): an exact value, or non-finite, or poisoned. `inf` is +1 or -1
for an infinity, 0 for a NaN; `negZero` keeps the sign of a zero for MAX and MIN. -/
inductive Elem
  | fin (neg : Bool) (m : Nat) (q : Int)
  | inf (neg : Bool)
  | nan
  | poison
deriving DecidableEq, Repr

/-- A contributor slot of a chunk (R46 to R49): the elements as last presented, whether its contribution is present
and final, the checksum it carried. -/
structure CSlot where
  present : Bool := false
  final : Bool := false
  elems : List Elem := []
  csum : Nat := 0
  items : List Nat := []                 -- receive staging items of its invocations
  asked : Bool := false                  -- its decryptions are queued
  parts : List (Nat × List Byte) := []   -- plaintext of invocations delivered to the churns
  verified : List Nat := []              -- invocations whose tag verified
  added : Bool := false                  -- its elements are in the accumulators
  count : Nat := 0                       -- elements its stream added (R48)
  lack : List Nat := []                  -- pats run again that its elements have not entered yet (05_collectives R134)
  removing : Bool := false               -- its subtraction is under way (R47)
  up : Bool := false                     -- a segment of it was given up (08_cipher R241)
  cut : Bool := false                    -- its subtraction ends in a run from staging, not in a re-delivery (08_cipher R238)
deriving DecidableEq, Repr

/-- A pat of a chunk (R124, R132): queued at a creamery, held by a churn, or rounded. -/
inductive PatPlace | idle | queued (creamery : Nat) | held (churn : Nat) | rounded
deriving DecidableEq, Repr

inductive ChunkPhase | granted | admitted | staged | ready | released | checked | failed
deriving DecidableEq, Repr

/-- A chunk from its grant to its check. `wait` holds what staging waits for: press pats and skimmer blocks. -/
structure Chunk where
  x : Nat
  c : Nat
  phase : ChunkPhase := .granted
  status : Nat := 0
  admT : Nat := 0
  buf : Option Nat := none               -- fabric buffer of the receive record
  raw : List Byte := []                  -- the contribution as admitted
  rawPsn : List Bool := []               -- per element: poisoned
  whey : Option (List Elem) := none      -- its whey, read for the press
  rot : List (Nat × List Nat × List Nat) := []   -- pat, v and u of its elements (06_compression R163)
  coded : List Byte := []                -- LOSSLESS segment from the skimmers
  ready2 : Bool := false                 -- skimmers and press are done with it
  line : List Byte := []                 -- line-format contribution, staged
  csum : Nat := 0
  stagePtr : Option Nat := none
  decided : Bool := false                -- every present slot final, status set
  home : Nat := 0                        -- its home creamery, fixed at READY (R131)
  part : Bool := false                   -- READY without a partitioned site's contribution
  slots : SMap CSlot := {}
  pats : List PatPlace := []
  acc : List (BitVec 200) := []
  taken : Bool := false                  -- some pat was taken: the accumulators are in use
  churns : List Nat := []                -- every churn that held a pat of it (17_power_thermal R482)
  res : List (Nat × List Byte) := []     -- result bytes by pat
  sat : Nat := 0
  resPtr : Option Nat := none
  sent : List Nat := []                  -- result packets sent
deriving DecidableEq, Repr

/-- A segment in receive staging (R130): its 64 B header, ciphertext, key epoch, group and place, its buffer, and the
job fields of its PLACE. -/
structure RxItem where
  id : Nat
  hdr : List Byte
  ct : List Byte
  ke : Nat
  g : Nat
  gseq : Nat
  pos : Nat
  cell : Nat
  ptr : Option Nat := none
  t : Nat := 0
  held : Bool := false
  asked : Bool := false
  done : Bool := false
  noted : Bool := false                  -- its generations were seen to arrive (06_compression R186)
deriving DecidableEq, Repr

/-- A segment refused receive staging (R130). -/
structure RxRefused where
  g : Nat
  gseq : Nat
  pos : Nat
  cell : Nat
  big : Bool
  key : List Byte
  t : Nat
deriving DecidableEq, Repr

/-- A parked START (R141, R154). -/
structure Park where
  e : Nat
  x : Nat
  seq : Nat
  step : Nat
  predCtx : Nat
  predSeq : Nat
  elems : Nat                        -- ELEMS of the shard map's entry, 0 the context's
  due : Option Nat
  t : Nat
deriving DecidableEq, Repr

/-- A context's PHASE (05_collectives R121), the highest status of the chunks completed (R147), ELEMS taken from the shard
map (10_timetable_time R290; 0 the context's), the due slot and each site's reference slot + 1 (R292). -/
structure CtxRun where
  phase : Nat := 0
  worst : Nat := 0
  elems : Nat := 0
  due : Option Nat := none
  ref : SMap Nat := {}
deriving DecidableEq, Repr

structure Cle where
  runs : SMap CtxRun := {}
  chunks : List Chunk := []
  queues : SMap (List (Nat × Nat × Nat)) := {}   -- creamery -> (context, chunk, pat)
  park : List Park := []
  rx : List RxItem := []
  rxNext : Nat := 0
  refused : List RxRefused := []
  aborts : List (Nat × Nat) := []
  failQ : List (Nat × Nat × Nat) := []           -- chunks to fail: context, chunk, status
  suspects : List Nat := []                      -- churns a checksum mismatch is still to be recorded against
deriving DecidableEq, Repr

structure Site where
  pend : Nat := 0
  part : Nat := 0
  failT : SMap Nat := {}             -- group -> start of raw group signal fail + 1
  clearT : SMap Nat := {}            -- group -> start of ON without raw group signal fail + 1
  ledT : SMap Nat := {}              -- job entry -> entry to RECONCILING + 1
  ledSent : SMap Nat := {}           -- job entry -> last ledger round + 1
  ledGot : SMap Nat := {}            -- job entry -> mask of sites whose ledger arrived
  ledDiv : SMap Nat := {}            -- job entry -> mask of sites found diverged
  ansT : SMap Nat := {}              -- 16 * job entry + site -> last answer + 1
  lastLed : SMap (List Byte) := {}   -- job -> last ledger sent
  firstW : SMap Nat := {}            -- job entry -> 1: FIRST_STEP waits for the next START (R392)
deriving DecidableEq, Repr

/-! ### Transform and compression (06_compression) -/

/-- A table bank (R184 to R187): loaded, encode bank, and whether a block of its generation arrived within the hold. -/
structure Bank where
  valid : Bool := false
  enc : Bool := false
  lastT : Nat := 0
  held : Bool := false
deriving DecidableEq, Repr

/-- A rank step in progress (R171 to R177): Q, P and P-hat as binary32 encodings. -/
structure Rank where
  round : Nat := 0
  qValid : Bool := false
  q : List Nat := []
  p : List Nat := []
  phat : List Nat := []
  qNew : List Nat := []
  step : Nat := 0
  seq : Nat := 0
  next : Nat := 0                    -- blocks of G combined, in order (R170)
  sent : Nat := 0                    -- chunks of P-hat whose record was opened
  held : List Nat := []              -- G chunks staged and not read back
deriving DecidableEq, Repr

/-- What a lossless segment or a press job is for. -/
inductive XUse
  | msgOut (base size cmpl src : Nat)
  | contrib (x c : Nat)
  | gStage (x c : Nat)
  | msgIn (base : Nat)
  | gBack (x c : Nat)
  | slotAdd (x c s : Nat)                -- a contribution on its way to the churns (06_compression R189)
  | slotSub (x c s : Nat)                -- its subtraction
deriving DecidableEq, Repr

/-- A block in a unit's queue: flow, segment, index within it, bytes, whether they read poisoned. -/
structure XBlk where
  flow : Nat
  seg : Nat
  idx : Nat
  data : List Byte
  psn : Bool := false
deriving DecidableEq, Repr

/-- A segment in work: how many blocks it has, the blocks done (index, bytes, poisoned). -/
structure XSeg where
  id : Nat
  flow : Nat
  use : XUse
  n : Nat
  done : List (Nat × List Byte × Bool) := []
deriving DecidableEq, Repr

structure Xfm where
  banks : SMap Bank := {}            -- 2 * class + bank
  ranks : SMap Rank := {}
  segs : List XSeg := []
  segNext : Nat := 0
  skimQ : List XBlk := []
  expQ : List XBlk := []
  pressQ : List XBlk := []
  wheyRead : SMap Nat := {}          -- flow * 2^26 + chunk -> 1: its whey was read since the flow's ENABLE
  rr : SMap Nat := {}                -- expander -> the flow its pointer stands at (01_architecture R24)
  rrPress : Nat := 0
deriving DecidableEq, Repr

/-! ### Cipher (08_cipher) -/

structure KeyPos where
  loaded : Bool := false
  key : BitVec 256 := 0
  salt : Nat := 0
  keyId : Nat := 0
  loadSeq : Nat := 0
  used : Nat := 0
  held : Bool := false
  lastArr : Nat := 0
  prevId : Nat := 0
deriving DecidableEq, Repr

structure KeySlot where
  owner : Nat := 0
  purpose : Nat := 0
  p0 : KeyPos := {}
  p1 : KeyPos := {}
  txPos : Nat := 0
  ready : Nat := 0
  rack : Nat := 0
  ackWait : Bool := false
  tagFail : Nat := 0
  tagT : List Nat := []
  alarmed : Bool := false
deriving DecidableEq, Repr

/-- What a request is made for (R225, R236). -/
inductive ReqUse
  | msgOut (flow base size cmpl inv : Nat)
  | contribOut (x c inv dst : Nat)
  | resultOut (x c inv dst : Nat)
  | statusOut (x c dst : Nat)
  | msgIn (flow base inv item : Nat)
  | contribIn (x c slot inv item : Nat)
  | resultIn (x c inv item : Nat)
  | statusIn (x c item : Nat)
deriving DecidableEq, Repr

/-- A cipher request (R236) with the bytes its pointers name. -/
structure Req where
  op : Nat
  slot : Nat
  epoch : Nat
  owner : Nat
  flow : Nat
  use : ReqUse
  src : Nat := 0
  dst : Nat := 0
  aadPtr : BitVec 64 := 0
  aad : List Byte := []
  data : List Byte := []
  iv : List Byte := []
  tag : List Byte := []
  hdr : List Byte := []
  g : Nat := 0
  ver : Nat := 0
deriving DecidableEq, Repr

/-- A request running on a core: the request, the key position read at dispatch, the output and whether the tag
verifies. -/
structure Run where
  req : Req
  pos : Nat
  out : List Byte
  ok : Bool
deriving DecidableEq, Repr

/-- An item for the scheduler (R256): header, ciphertext, size B, key epoch, version stamp, queue, origin. -/
structure Item where
  g : Nat
  q : Nat
  hdr : List Byte
  ct : List Byte
  bytes : Nat
  ke : Nat
  grp : Bool
  ver : Nat
  t : Nat := 0
  use : ReqUse
  fstamp : Nat := 0
  stamped : Bool := false
  nofit : Bool := false
deriving DecidableEq, Repr

structure KCmd where
  slot : Nat
  pos : Nat
  status : Nat
  boot : Bool := false
deriving DecidableEq, Repr

/-- What a slot write that waits for the slot's requests in flight does (R231): a LOAD that completes, a SWITCH (by the
timetable or not), a RETIRE, an automatic retirement. -/
inductive SlotOp | load | switch (tt : Bool) | retire | held
deriving DecidableEq, Repr

structure SlotWrite where
  slot : Nat
  pos : Nat
  op : SlotOp
deriving DecidableEq, Repr

/-- Delivery attempts of a segment (R241): its identity and how often its tag failed. -/
structure Deliveries where
  key : Nat × Nat × Nat × Nat
  fails : Nat
deriving DecidableEq, Repr

structure Cip where
  slots : SMap KeySlot := {}
  kcmd : Option KCmd := none
  blob : List Byte := []
  next : Nat := 0
  blkEnd : Nat := 0
  kek : Option (BitVec 256) := none
  noLoad : Bool := false
  queues : SMap (List Req) := {}
  qwait : SMap (List Req) := {}          -- requests whose producers wait for room in the queue (R235)
  writes : List SlotWrite := []          -- slot writes that wait for requests in flight (R231)
  cores : SMap (Option Run) := {}
  rr : Nat := 0
  hand : SMap (List Item) := {}
  handWait : SMap Nat := {}
  dels : List Deliveries := []
deriving DecidableEq, Repr

/-! ### Scheduler (09_scheduling) -/

structure SchG where
  qs : SMap (List Item) := {}
  v : Nat := 0
  fLast : SMap Nat := {}
  act : Option (Nat × Nat) := none   -- bank, BASE
  armed : Option Nat := none
  endRow : Nat := 0                  -- where the item taken last ends: row and cell of the payload stream
  endCell : Nat := 0
  sending : List (Nat × Nat × Nat) := []   -- queue, first and end tick of the items being sent
  sampT : Nat := 0                   -- the whole us sampled last + 1 (R266)
  samp : List (Nat × Nat) := []      -- the bins of that sample: queue, word of its histograms
deriving DecidableEq, Repr

/-! ### Time (10_timetable_time) -/

/-- A port that announces itself as a PTP master (R274): its identity, its dataset, when its last two Announce messages
came (the earlier one plus 1, 0 none), their interval in ns. -/
structure PtpPeer where
  src : Nat
  ds : List Nat
  t : Nat
  prev : Nat := 0
  interval : Nat
deriving DecidableEq, Repr

structure Tim where
  run : Nat := 0                     -- free-running count, 2^-16 ns
  glob : Nat := 0                    -- global time, 2^-16 ns
  frac : Int := 0                    -- remainder of the frequency correction
  freq : Int := 0                    -- 0.001 ppm
  tstate : Nat := 0
  level : Nat := 15
  alarm : Nat := 0
  noStep : Bool := false             -- boot step 14 completed
  tol : Nat := 100                   -- tolerance of ACQUIRING in ns
  samples : List Int := []           -- line samples toward a filtered offset, ps
  good : Nat := 0
  goodRef : Nat := 0
  bad : Nat := 0
  badRef : Nat := 0
  lastRef : Nat := 0                 -- the last PTP or PPS sample
  lastLine : Nat := 0                -- the last line sample accepted
  lostRef : Bool := false            -- HOLDOVER was entered from LOCKED_REF
  holdT : Nat := 0
  ptpMaster : Option Nat := none
  ptpPeers : List PtpPeer := []
  ptpT1 : Nat := 0
  ptpT2 : Nat := 0
  ptpT3 : Nat := 0
  ptpHave : Nat := 0
  ptpOffset : Int := 0
  ptpDelay : Int := 0
  syncInt : Nat := 1000000000
  srcPort : Option Nat := none       -- the member that time is taken from, and since when (global)
  srcT : Nat := 0
  ppsArmed : Bool := false
  ppsNext : Option Nat := none
  ppsOutT : Nat := 0
  ppsOut : Bool := false
  estSum : SMap Int := {}
  estN : SMap Nat := {}
deriving DecidableEq, Repr

/-- A timetable segment that is ON: cycle, next entry, and the firing time it waits for (R284, R285). -/
structure SegRun where
  cycle : Nat := 0
  idx : Nat := 0
  done : List Nat := []              -- fired in this cycle ahead of `idx` (R287)
deriving DecidableEq, Repr

/-- Pattern in force of a group (R289): pattern, the slot it counts from, a take-over waiting for its slot. -/
structure PatRun where
  cur : Nat := 0
  base : Nat := 0
  prev : Nat := 0                    -- in force before slot `base`
  prevBase : Nat := 0
deriving DecidableEq, Repr

structure Ttx where
  segs : SMap SegRun := {}
  pats : SMap PatRun := {}
  shard : Option Nat := none
  recent : List Nat := []                  -- times of the last 64 firings, newest first (R287)
  hops : SMap Nat := {}
deriving DecidableEq, Repr

/-! ### Line ports and groups (11_line_framing, 12_line_coding_retry) -/

/-- An alignment candidate (R311): the stream index of its alignment word, its multiframe indicator, passes so far. -/
structure Cand where
  at_ : Nat
  mfi : Option Nat
  passes : Nat
deriving DecidableEq, Repr

/-- The receiver's alignment (R311 to R313). -/
structure Align where
  n : Nat := 0
  win : List Byte := []
  cands : List Cand := []
  inIf : Bool := false
  at_ : Nat := 0
  buf : List Byte := []
  bufEr : Bool := false              -- a byte of `buf`, in OOF of `win`, is marked
  bufT : Nat := 0                    -- global time of the first byte of `buf`, 2^-16 ns
  miss : Nat := 0
  inMf : Bool := false
  mfi : Nat := 0
  disc : Nat := 0
  cont : Nat := 0
deriving DecidableEq, Repr

structure LaneRx where
  lock : Bool := false
  good : Nat := 0
  miss : Nat := 0
  mf : Nat := 0
  t : Nat := 0                       -- when its last marker came
deriving DecidableEq, Repr

/-- A line port. -/
structure LPort where
  al : Align := {}
  alT : Nat := 0                     -- entry to the present alignment state
  mfT : Nat := 0
  lanes : SMap LaneRx := {}
  tries : Nat := 0
  prevBip : Option Nat := none       -- BIP computed over the last frame received
  txBip : Nat := 0                   -- BIP of the last frame sent
  prevAis : Bool := false
  errLast : Bool := false
  aisRun : Nat := 0
  noAisRun : Nat := 0
  bdiRun : Nat := 0
  noBdiRun : Nat := 0
  raw : Nat := 0
  eff : Nat := 0                     -- raw and unmasked (R315)
  full : Nat := 0                    -- raw, masked ones too
  decl : Nat := 0
  rawT : SMap Nat := {}              -- defect -> since when present and unmasked; 8 + defect -> since when absent
  rawLim : SMap Nat := {}            -- defect -> the integration time in force, ns (R331)
  misconn : Bool := false
  condLos : Bool := false            -- a lane is without lock, and since when that is so or not
  losT : Nat := 0
  modLos : Bool := false             -- the module reports loss of signal, and since when it does or not
  modT : Nat := 0
  skewBad : Bool := false
  skewT : Nat := 0
  winFrames : Nat := 0
  winErr : Nat := 0
  secErr : Nat := 0
  secRaw : Nat := 0                  -- raw defects seen in the second (R319), and for the health score (R374)
  hsRaw : Nat := 0
  secFeErr : Nat := 0
  secDone : Nat := 0                 -- the whole second classified last + 1
  neHist : List (Bool × Bool × Nat × Bool) := []   -- not yet counted, oldest first: ES, SES, errored, unavailable
  feHist : List (Bool × Bool × Nat × Bool) := []
  neUnav : Bool := false
  feUnav : Bool := false
  txNext : Nat := 0                  -- the frame sent last + 1
  txAis : Bool := false
  txLast : List Byte := []           -- the frame sent last, as transmitted
  gid : Nat := 0
  member : Nat := 0
  peerSite : Nat := 0
  peerGw : Nat := 0
  peerKnown : Bool := false
  peerLevel : Nat := 15
  rxT : Nat := 0                     -- receive time of the peer's most recent frame 0
  rxMf : Nat := 0
  ptTx : Nat := 0
  ptRx : Nat := 0
  hopAt : Nat := 0                   -- when the port hopped or left a guard slot last, global (R278)
  tt : Option (Int × Int × Nat) := none   -- last completed round: (t2-t1)-(t4-t3), (t2-t1)+(t4-t3), its start
  rxAt : Nat := 0                    -- start of the frame received last, 2^-16 ns
  store : List (List Byte × Bool × Nat) := []   -- transit: frame, erased, its start
  trActive : Bool := false
  trPrimed : Bool := false
  invBip : Bool := false
  codBits : SMap (List Bool) := {}   -- lane -> payload bits not yet in a codeword (R335)
  codOut : List (List (List Nat)) := []   -- the codewords sent with the last frame, by lane
  ucwSec : Nat := 0
  corAt : Nat := 0                   -- the 100 ms interval of laneCor
  laneCor : SMap Nat := {}           -- lane -> symbols corrected in that interval
  laneOld : SMap Nat := {}           -- in the interval before it
  laneUcw : SMap Nat := {}           -- lane -> uncorrectable codewords
deriving DecidableEq, Repr

/-- A segment on the line: header, ciphertext, key epoch, whether a group-slot segment. -/
structure Seg where
  hdr : List Byte
  ct : List Byte
  ke : Nat
  grp : Bool
  ver : Nat := 0
  resend : Bool := false
  held : Bool := false                     -- its version counts it as not wholly sent
  use : Option ReqUse := none
  at_ : Nat × Nat := (0, 0)                -- row and cell of the payload stream where its header may start
deriving DecidableEq, Repr

/-- A retry copy (R343): the segment, where its header started, the frames it touched, when it was sent. -/
structure RCopy where
  seg : Seg
  gseq : Nat
  pos : Nat
  cell : Nat
  frames : List (Nat × Nat)
  t : Nat
  slice : Nat := 0                       -- the slice whose retry part holds it
  gone : Bool := false                   -- that slice was retired
deriving DecidableEq, Repr

/-- A segment queued for resend: the request it answers, and when its copy was made (R347). -/
structure Resend where
  seg : Seg
  id : Nat
  gseq : Nat
  t : Nat
deriving DecidableEq, Repr

/-- A received row under assembly (R323, R340): per position the frame bytes after descrambling and the erased flag. -/
structure RxRow where
  gseq : Nat
  frames : List (Nat × List Byte × Bool)
  t : Nat
deriving DecidableEq, Repr

/-- A segment partly received. -/
structure RxPart where
  bytes : List Byte
  total : Nat
  ke : Nat
  gseq : Nat
  pos : Nat
  cell : Nat
  item : Option Nat := none              -- its receive staging item
  drop : Bool := false                   -- discarded at its header
deriving DecidableEq, Repr

/-- A retry request in flight (R346). -/
structure RReq where
  id : Nat
  frames : Bool
  gseq : Nat
  rows : Nat := 1
  mask : Nat := 0
  pos : Nat := 0
  cell : Nat := 0
  key : List Byte := []                  -- identity of the segment asked for
  t : Nat
  tries : Nat
deriving DecidableEq, Repr

structure LGroup where
  txSvc : Nat := 0
  rxSvc : Nat := 0
  init : Nat := 0
  parity : Nat := 0
  chosen : Nat := 0
  chg : Option (Nat × Nat × Nat) := none   -- NEXT, CHG_SEQ, the first frame that announces them
  rowChg : Option (Nat × Nat) := none      -- NEXT and CHG_SEQ as the row built last announces them
  addWait : Option (Nat × Nat) := none     -- position, time
  rxReady : Nat := 0
  peerReady : Nat := 0
  peerMargin : Option Nat := none
  ownMargin : Nat := 0
  marginT : Nat := 0
  dcomp : Nat := 0
  delays : SMap Nat := {}                  -- position -> differential delay in ns + 1
  hbm : Nat := 0
  arrT : SMap Int := {}                    -- position -> arrival minus start of its newest frame, ns
  arrSeen : Nat := 0                       -- positions measured
  gcc : List (List Byte) := []
  gccT : Nat := 0
  gccCopy : Nat := 0
  gccAt : List (Nat × List Byte) := []     -- the row's GCC copy: position, message
  rowF : Nat := 0                          -- the row built last + 1
  rowSvc : Nat := 0
  rowPay : List (Nat × List Byte × Nat × Nat) := []  -- position, payload, byte 30, KEY_EPOCH bit or byte 31 of parity
  startRow : Option Nat := none            -- first data row after ON
  txSegs : List Seg := []
  txCur : List Byte := []
  txVer : Option Nat := none               -- version the segment being sent holds
  copies : List RCopy := []
  resend : List Resend := []
  seenReq : List (Nat × Nat) := []
  rows : List RxRow := []
  nextSeq : Option Nat := none             -- GSEQ of the row expected next
  part : Option RxPart := none
  skip : Bool := false
  reqs : List RReq := []
  reqNext : Nat := 0
  gccIn : List (List Byte × Nat) := []
  sigRaw : Nat := 0                        -- bit 0 GSF, bit 1 GSD
  sigLim : SMap Nat := {}
  sigDecl : Nat := 0
  sigT : SMap Nat := {}
  kRow : Nat := 0
  mRow : Nat := 0
  addT : Nat := 0                          -- when the change announced was commanded
  spareRetryT : Nat := 0
  spareFor : Option (Nat × Nat) := none    -- fading position, spare
deriving DecidableEq, Repr

/-! ### Optics (13_optics) -/

inductive HopPhase | idle | noticed | armed | guard | dark | window
deriving DecidableEq, Repr

structure Optic where
  present : Bool := false
  mstate : Nat := 0
  ident : Nat := 0
  hopCap : Bool := false
  entries : Nat := 0
  vdm : Bool := false
  noAck : Nat := 0
  txdis : Bool := true
  fade : Nat := 0
  hist : List (Nat × Int) := []            -- (time, M), newest first
  advClear : Nat := 0
  projClear : Nat := 0
  baseSum : Nat × Nat := (0, 0)
  baseN : Nat := 0
  baseRun : Bool := false                  -- samples toward a baseline are summed
  base : Option (Nat × Nat) := none        -- sums of Tx bias and Tx power over the 600 samples of the baseline
  read : Bool := false
  score : Nat := 1000
  below : Nat := 0
  belowRun : Bool := false
  belowT : Nat := 0
  expelled : Bool := false
  goodT : Nat := 0
  wouldT : Nat := 0
  fixed : Bool := true
  chan : Nat := 0
  eq : Option Word := none                 -- host-side equalization written into the module at ENABLE (R360)
  hop : HopPhase := .idle
  hopEntry : Nat := 0
  hopTt : Nat := 0
  hopT : Nat := 0                          -- T of the entry, then G0
  hopDold : Nat := 0
  hopOld : Option (Nat × Nat) := none      -- old group and position, received until the strobe falls
  hopRead : Bool := false
  hopIfT : Nat := 0
  strobe : Bool := false
  nextIdx : Nat := 0
deriving DecidableEq, Repr

/-- A peer gateway's score (R375). -/
structure Peer where
  site : Nat
  gw : Nat
  score : Nat := 1000
  below : Nat := 0
  giveups : Nat := 0
  alarm : Bool := false
  belowRun : Bool := false
  goodT : Nat := 0
  expelled : Bool := false
deriving DecidableEq, Repr

structure Opc where
  ports : SMap Optic := {}
  peers : List Peer := []
  lsafe : Bool := false
  eqCodes : List Word := []          -- the 16 port words of LINE_PHY (15_boot_config R415)
  acc : Option (Nat × Bool × Nat × Nat × Nat) := none
  accRes : Nat := 0
  expels : SMap (List Nat) := {}
  susp : Nat := 0
  suspT : SMap Nat := {}
  hsSec : Nat := 0                         -- the whole second scored last + 1
  mtest : Nat := 0                         -- ports under the margin test (12_line_coding_retry R350)
deriving DecidableEq, Repr

/-! ### Everything a warm boot resets -/

/-- The units in service in this start (01_architecture R20): bit masks, as the capability table shows them. -/
structure Svc where
  ofl : Nat := 0
  line : Nat := 0
  churn : Nat := 0
  press : Nat := 0
  skim : Nat := 0
  expd : Nat := 0
  ciph : Nat := 0
  pc : Nat := 0        -- bit 32 * stack + p: HBM pseudo-channel
  stackSet : Nat := 0
  slices : Nat := 0    -- usable HBM, in units of 256 MiB
  sram : Nat := 0      -- usable SRAM, in units of 64 KiB
  skip : Nat := 0
deriving DecidableEq, Repr

/-- Record lists being applied (R416, R417): what is left of them, the index of the next record, and when its WAIT, if it
is one, times out. -/
structure RecRun where
  lists : List (List Word)
  idx : Nat := 0
  due : Option Nat := none
deriving DecidableEq, Repr

/-- A descriptor whose records are being applied (R430 to R432). -/
structure DescRun where
  ctrl : Nat
  dseq : Nat
  recs : RecRun
deriving DecidableEq, Repr

structure Core where
  regs : SMap Word := {}
  tbl : SMap Word := {}
  shad : SMap Word := {}
  hold : SMap (Option Word) := {}
  shHold : SMap (Option Word) := {}
  fns : SMap Fn := {}
  tim : Tim := {}
  ttx : Ttx := {}
  evl : Evl := {}
  mgt : Mgt := {}
  tlm : Tlm := {}
  fpc : SMap OflPort := {}
  frt : Frt := {}
  fcs : Fcs := {}
  mem : SMap Byte := {}
  psn : SMap Bool := {}
  bpm : Bpm := {}
  hbc : Hbc := {}
  cle : Cle := {}
  site : Site := {}
  xfm : Xfm := {}
  cip : Cip := {}
  sch : SMap SchG := {}
  shpr : SMap Int := {}
  lport : SMap LPort := {}
  lgrp : SMap LGroup := {}
  opc : Opc := {}
  ident : List Word := []
  dseq : SMap Nat := {}
  desc : Option DescRun := none
  svc : Svc := {}
  free : Nat := 0
deriving DecidableEq, Repr

/-! ### OTP, flash, Marigold (15_boot_config, 16_management, 17_power_thermal) -/

/-- The OTP banks: writes used and values in force (R426, R439), the unfinished write, the debug lock and session. -/
structure Otp where
  siteUsed : Nat := 0
  siteVal : Option Nat := none
  siteNext : Option Nat := none
  rbUsed : Nat := 0
  rollback : Nat := 0
  kekUsed : Nat := 0
  kekGen : Nat := 0
  kek : Option (BitVec 256) := none
  lmUsed : Nat := 0
  lineMask : Nat := 0xFFFF
  lineNext : Nat := 0xFFFF
  dbgUsed : Nat := 0
  locked : Bool := false
  session : Bool := false
  rootUsed : Nat := 0
  root : Option (List Byte) := none
  rootNext : Option (List Byte) := none
  busy : Option (Nat × List Word) := none
  last : Nat := 0
deriving DecidableEq, Repr

/-- A journal record (R424). -/
structure JRec where
  step : Nat
  mark : Nat
  method : Nat
  warm : Bool
  image : Nat
  status : Nat
  bootNum : Nat
  time : Nat
  arg : Nat
deriving DecidableEq, Repr

/-- The flash: slot bytes (key: slot * 24 MiB + offset, default erased 0xFF), journal, ledger, remap records. -/
structure Nvm where
  slots : SMap Byte := {}
  journal : List JRec := []
  bootNum : Nat := 0
  ledger : List Nat := []
  remaps : List (Nat × Nat × Nat) := []
  phy : SMap (Option Word) := {}     -- values in force of lanes 0 to 127 fabric, 128 to 255 line host; none: the default preset (R415)
  busy : Option (Nat × Nat × Nat) := none
  st : Nat := 0
deriving DecidableEq, Repr

inductive PState | standby | ramping | on | quiescing | safe | tripped | fail
deriving DecidableEq, Repr

structure Sensor where
  valid : Bool := false
  temp : Int := 0
  hist : List Int := []
deriving DecidableEq, Repr

/-- Quarantine of a unit (R483 to R486). -/
structure Quar where
  state : Nat := 0
  bin : Nat := 0
  cls : Nat := 0
  passes : Nat := 0
deriving DecidableEq, Repr

structure Pwr where
  pst : PState := .standby
  pdT : Option Nat := none           -- when the power-down under way ends
  pwrEn : Bool := false
  qreq : Bool := false
  safeRm : Bool := false
  vinOk : Bool := true
  vin : Nat := 0
  iin : Nat := 0
  pin : Nat := 0
  rails : SMap Nat := {}
  quStage : Nat := 0
  quT : Nat := 0
  quUndrained : Nat := 0
  trip : Bool := false               -- THERM_TRIP_N is low
  tripBack : Bool := false           -- a reset released THERM_TRIP_N before R480 did (18_pins_package R497)
  sens : SMap Sensor := {}
  thr : SMap Nat := {}               -- group -> thresholds in force, bit 0 WARN, 1 THROTTLE, 2 TRIP
  cool : SMap Nat := {}              -- 4 * group + threshold -> samples since below by 5 C
  stepT : Option (Nat × Nat) := none -- last sample above the rate, and its sensor
  refclk : Bool := false
  lock : Nat := 0
  held : Nat := 0                    -- PLLs that lost lock: their domains are held in reset until they lock (R488)
  quar : SMap Quar := {}
  day : Nat := 0                     -- the multiple of 24 h at which the locus counts cleared last
deriving DecidableEq, Repr

structure Boot where
  phase : Nat := 0
  step : Nat := 0
  wait : Bool := false               -- the step has not started: PWR_EN, or a quiesce, holds it
  warm : Bool := false
  image : Nat := 0
  method : Nat := 0
  haltSt : Nat := 0
  t0 : Nat := 0
  stepT : Nat := 0
  ms : Nat := 0
  badStack : Nat := 0                -- stacks whose controller faulted: excluded at the next step 5
  altRails : Bool := false           -- a rail was out of tolerance: step 2 uses its alternate next
  svn : Nat := 0
  gw : Nat := 0
  build : Nat := 0
  recs : Option RecRun := none
  warmDue : Bool := false            -- an HBM controller faulted: a warm boot follows (07_buffers_memory R218)
deriving DecidableEq, Repr

structure Mop where
  arm : Option (Nat × Nat) := none
  op : Nat := 0
  st : Nat := 0
  elapsed : Nat := 0
deriving DecidableEq, Repr

structure Aon where
  regs : SMap Word := {}
  tbl : SMap Word := {}
  shad : SMap Word := {}
  hold : SMap (Option Word) := {}
  boot : Boot := {}
  mop : Mop := {}
  pwr : Pwr := {}
  store : List Event := []
  storeNew : Nat := 0                -- records of the current start among them
  capGen : Nat := 0
  now : Nat := 0                     -- ns, Marigold's own count
  seqs : SMap Nat := {}              -- event sequences of the sources in Marigold's domain
  lims : List Lim := []
deriving DecidableEq, Repr

/-- The gateway, and the commands waiting for it, first in, first out. -/
structure State where
  pending : List Instr
  core : Core
  aon : Aon
  nvm : Nvm
  otp : Otp
deriving DecidableEq, Repr

/-- The machine right after a cold reset with no OTP write and an empty flash: every register at its Reset column
(Machine/RegMap.lean: no word differs from it), every function OFF, every queue empty. -/
def State.reset : State := { pending := [], core := {}, aon := {}, nvm := {}, otp := {} }

end Sys2Proof.Machine
end

