-- ==== Sys2Proof/Machine/Flags.lean ====
section
/-!
DEFINITION. Status codes (00_scope R12), which of them count as busy (R11), saturating counters (03_fabric_side R88)
and how a function's state shows in a status field (15_boot_config R434).
-/

namespace Sys2Proof.Machine

/-! ### Status codes (R12) -/

abbrev stOk : Nat := 0x00
abbrev stBusy : Nat := 0x01
abbrev stEpochBusy : Nat := 0x02
abbrev stTableBusy : Nat := 0x03
abbrev stLen : Nat := 0x04
abbrev stSlot : Nat := 0x05
abbrev stTag : Nat := 0x06
abbrev stRange : Nat := 0x07
abbrev stAlign : Nat := 0x08
abbrev stPartitioned : Nat := 0x09
abbrev stDiverged : Nat := 0x0A
abbrev stCorrupt : Nat := 0x0B
abbrev stOverflow : Nat := 0x0C
abbrev stOrder : Nat := 0x0D
abbrev stPend : Nat := 0x0E
abbrev stLocked : Nat := 0x0F
abbrev stPoison : Nat := 0x10
abbrev stTimeout : Nat := 0x11
abbrev stDenied : Nat := 0x12

/-- The statuses of a table access that leave WORD where it stands (R11). -/
def isBusySt (st : Nat) : Bool := st == stBusy || st == stEpochBusy || st == stTableBusy || st == stPend

/-- A counter of R88: it stops at its greatest value. -/
def satAdd (w n m : Nat) : Nat := min (n + m) (2 ^ w - 1)

/-- FSTATE as its field shows it (R434). -/
def FState.code : FState → Nat
  | .off => 0 | .starting => 1 | .on => 2 | .draining => 3 | .faulted => 4

/-- PHASE of a context after a change of FSTATE (05_collectives R144). -/
def ctxPhase (n : FState) (old : Nat) : Nat :=
  match n with
  | .off => 0 | .starting => 0 | .on => 1 | .draining => old | .faulted => 5

end Sys2Proof.Machine
end

