-- ==== Sys2Proof/Machine/Sparse.lean ====
section
/-!
DEFINITION. Reading and writing a sparse map. A cell that would hold its key's default is removed, so that equal
contents are equal data; `SMap.wf` is that canonical form.
-/

namespace Sys2Proof

variable {α : Type}

/-- The cell of key `k`, or the default `d` of that key. -/
def lookupCell (d : α) (k : Nat) : List (Nat × α) → α
  | [] => d
  | (j, v) :: m => if j = k then v else lookupCell d k m

/-- Insert before the first greater key. -/
def insertCell (k : Nat) (v : α) : List (Nat × α) → List (Nat × α)
  | [] => [(k, v)]
  | (j, w) :: m => if k < j then (k, v) :: (j, w) :: m else (j, w) :: insertCell k v m

/-- Remove every cell of key `k`. -/
def eraseCell (k : Nat) : List (Nat × α) → List (Nat × α)
  | [] => []
  | (j, w) :: m => if j = k then eraseCell k m else (j, w) :: eraseCell k m

def SMap.get (m : SMap α) (d : α) (k : Nat) : α := lookupCell d k m.cells

def SMap.set [DecidableEq α] (m : SMap α) (d : α) (k : Nat) (v : α) : SMap α :=
  if v = d then { cells := eraseCell k m.cells } else { cells := insertCell k v (eraseCell k m.cells) }

/-- Change the cell of key `k` by a function. -/
def SMap.upd [DecidableEq α] (m : SMap α) (d : α) (k : Nat) (f : α → α) : SMap α := m.set d k (f (m.get d k))

/-- The keys held. -/
def SMap.keys (m : SMap α) : List Nat := m.cells.map Prod.fst

/-- The keys ascend strictly from a bound. -/
def ascending : Option Nat → List (Nat × α) → Bool
  | _, [] => true
  | none, (j, _) :: m => ascending (some j) m
  | some b, (j, _) :: m => decide (b < j) && ascending (some j) m

/-- Canonical form: ascending keys, no cell at its default. -/
def SMap.wf [DecidableEq α] (m : SMap α) (d : Nat → α) : Bool :=
  ascending none m.cells && m.cells.all (fun c => decide (c.2 ≠ d c.1))

/-- Two default-0 counters added at a key. -/
def SMap.inc (m : SMap Nat) (k : Nat) (by' : Nat) : SMap Nat := m.upd 0 k (· + by')

end Sys2Proof
end

