-- ==== Sys2Proof/Machine/RegMap.lean ====
section
/-!
DEFINITION. The registers: address, instances, reset value, access class and writable fields with their ranges, row by
row of the spec's register tables (19_register_index; each row's rule stands beside it). A window pair is two rows.
-/

namespace Sys2Proof.Machine

/-- How a register is accessed (00_scope R6, R8 to R11; 03_fabric_side R88). `cnt` is an RC counter of R88, `cum` an
RO cumulative one, Lo and Hi the words of a 64-bit pair. -/
inductive Acc
  | ro | roLo | roHi | rw | rwLo | rwHi | wo | w1c | rc | cnt | cum | cumLo | cumHi | winAddr | winData
deriving DecidableEq, Repr

/-- A writable field [hi:lo] with the range its description states (R510). -/
structure RField where
  hi : Nat
  lo : Nat
  min : Nat
  max : Nat
deriving DecidableEq, Repr

structure RegRow where
  base : Nat
  n : Nat
  stride : Nat
  reset : Nat
  acc : Acc
  fields : List RField
  words : Nat
deriving DecidableEq, Repr

def regRows0 : List RegRow := [
  ⟨0x0, 1, 0x0, 0x72160101, .ro, [], 0⟩,  -- SUP_IDENT R1
  ⟨0x100, 1, 0x0, 0x0, .ro, [], 0⟩,  -- SUP_CAP_GEN R22
  ⟨0x104, 1, 0x0, 0x0, .ro, [], 0⟩,  -- SUP_CAP_OFL R22
  ⟨0x108, 1, 0x0, 0x0, .ro, [], 0⟩,  -- SUP_CAP_LINE R22
  ⟨0x10C, 1, 0x0, 0x0, .ro, [], 0⟩,  -- SUP_CAP_CLE R22
  ⟨0x110, 1, 0x0, 0x0, .ro, [], 0⟩,  -- SUP_CAP_XFM R22
  ⟨0x114, 1, 0x0, 0x0, .ro, [], 0⟩,  -- SUP_CAP_CIP R22
  ⟨0x118, 1, 0x0, 0x0, .ro, [], 0⟩,  -- SUP_CAP_HBM R22
  ⟨0x11C, 1, 0x0, 0x0, .ro, [], 0⟩,  -- SUP_CAP_SRAM R22
  ⟨0x120, 1, 0x0, 0x0, .ro, [], 0⟩,  -- SUP_CAP_BOOT R22
  ⟨0x180, 1, 0x0, 0, .winAddr, [⟨23,0,0,16777215⟩], 24⟩,  -- SUP_CAPU_TBL_ADDR R23
  ⟨0x184, 1, 0x0, 0, .winData, [], 24⟩,
  ⟨0x200, 1, 0x0, 0x0, .wo, [⟨3,0,0,15⟩], 0⟩,  -- SUP_MOP_ARM R468
  ⟨0x204, 1, 0x0, 0x0, .wo, [⟨3,0,0,15⟩], 0⟩,  -- SUP_MOP R468
  ⟨0x208, 1, 0x0, 0x0, .ro, [], 0⟩,  -- SUP_MOP_STAT R468
  ⟨0x210, 1, 0x0, 0, .winAddr, [⟨23,0,0,16777215⟩], 1024⟩,  -- SUP_MRES_TBL_ADDR R468
  ⟨0x214, 1, 0x0, 0, .winData, [], 1024⟩,
  ⟨0x10000, 1, 0x0, 0x0, .ro, [], 0⟩,  -- BOOT_STAT R438
  ⟨0x10004, 1, 0x0, 0x0, .rw, [⟨0,0,0,1⟩], 0⟩,  -- BOOT_CTRL R438
  ⟨0x10008, 1, 0x0, 0x0, .ro, [], 0⟩,  -- BOOT_NUM R438
  ⟨0x1000C, 1, 0x0, 0x0, .ro, [], 0⟩,  -- BOOT_IMAGE R438
  ⟨0x10010, 1, 0x0, 0x0, .roLo, [], 0⟩,  -- BOOT_BUILD_LO R438
  ⟨0x10014, 1, 0x0, 0x0, .roHi, [], 0⟩,  -- BOOT_BUILD_HI R438
  ⟨0x10018, 1, 0x0, 0x0, .ro, [], 0⟩,  -- BOOT_TIME R438
  ⟨0x1001C, 1, 0x0, 0x0, .wo, [⟨31,28,0,15⟩], 0⟩,  -- BOOT_FCMD R438
  ⟨0x10020, 1, 0x0, 0x0, .wo, [⟨31,28,0,15⟩, ⟨27,27,0,1⟩, ⟨16,0,0,131071⟩], 0⟩,  -- BOOT_NVM_CMD R438
  ⟨0x10024, 1, 0x0, 0x0, .ro, [], 0⟩,  -- BOOT_NVM_STAT R438
  ⟨0x10100, 1, 0x0, 0, .winAddr, [⟨23,0,0,16777215⟩], 512⟩,  -- BOOT_JNL_TBL_ADDR R438
  ⟨0x10104, 1, 0x0, 0, .winData, [], 512⟩,
  ⟨0x10108, 1, 0x0, 0, .winAddr, [⟨23,0,0,16777215⟩], 64⟩,  -- BOOT_NVMB_TBL_ADDR R438
  ⟨0x1010C, 1, 0x0, 0, .winData, [], 64⟩,
  ⟨0x10200, 1, 0x0, 0x0, .cnt, [], 0⟩,  -- BOOT_DESC_OK_CNT R438
  ⟨0x10204, 1, 0x0, 0x0, .cnt, [], 0⟩,  -- BOOT_DESC_REJ_CNT R438
  ⟨0x10208, 1, 0x0, 0x0, .cnt, [], 0⟩,  -- BOOT_REC_FAIL_CNT R438
  ⟨0x20000, 1, 0x0, 0x0, .ro, [], 0⟩,  -- OTP_STAT R439
  ⟨0x20004, 1, 0x0, 0x0, .wo, [⟨31,28,0,15⟩], 0⟩,  -- OTP_CMD R439
  ⟨0x20010, 12, 0x4, 0x0, .wo, [⟨31,0,0,4294967295⟩], 0⟩,  -- OTP_DATA R439
  ⟨0x20040, 1, 0x0, 0x0, .ro, [], 0⟩,  -- OTP_VALUE R439
  ⟨0x20044, 1, 0x0, 0xFFFF, .ro, [], 0⟩,  -- OTP_LINEMASK R439
  ⟨0x20048, 1, 0x0, 0x0, .ro, [], 0⟩,  -- OTP_USED R439
  ⟨0x40000, 1, 0x0, 0x0, .ro, [], 0⟩,  -- PWR_STAT R490
  ⟨0x40004, 1, 0x0, 0x0, .ro, [], 0⟩,  -- PWR_VIN R490
  ⟨0x40008, 1, 0x0, 0x0, .ro, [], 0⟩,  -- PWR_PIN R490
  ⟨0x4000C, 1, 0x0, 0x7D0, .rw, [⟨15,0,1,65535⟩], 0⟩,  -- PWR_QLIM R490
  ⟨0x40100, 1, 0x0, 0x0, .ro, [], 0⟩,  -- THM_STAT R490
  ⟨0x40110, 1, 0, 0x5F697300, .rw, [⟨31,24,0,255⟩, ⟨23,16,0,255⟩, ⟨15,8,0,255⟩], 0⟩,  -- THM_GRP0 R479
  ⟨0x40114, 1, 0, 0x5F697300, .rw, [⟨31,24,0,255⟩, ⟨23,16,0,255⟩, ⟨15,8,0,255⟩], 0⟩,  -- THM_GRP1 R479
  ⟨0x40118, 1, 0, 0x555F6900, .rw, [⟨31,24,0,255⟩, ⟨23,16,0,255⟩, ⟨15,8,0,255⟩], 0⟩,  -- THM_GRP2 R479
  ⟨0x4011C, 1, 0, 0x6E788200, .rw, [⟨31,24,0,255⟩, ⟨23,16,0,255⟩, ⟨15,8,0,255⟩], 0⟩,  -- THM_GRP3 R479
  ⟨0x40120, 1, 0, 0x5F697300, .rw, [⟨31,24,0,255⟩, ⟨23,16,0,255⟩, ⟨15,8,0,255⟩], 0⟩,  -- THM_GRP4 R479
  ⟨0x40130, 1, 0x0, 0x320503E8, .rw, [⟨31,24,10,255⟩, ⟨23,16,0,20⟩, ⟨15,0,1,65535⟩], 0⟩,  -- THM_STEP R490
  ⟨0x40180, 1, 0x0, 0, .winAddr, [⟨23,0,0,16777215⟩], 16⟩,  -- PWR_RAIL_TBL_ADDR R490
  ⟨0x40184, 1, 0x0, 0, .winData, [], 16⟩,
  ⟨0x40188, 1, 0x0, 0, .winAddr, [⟨23,0,0,16777215⟩], 48⟩,  -- THM_SNS_TBL_ADDR R490
  ⟨0x4018C, 1, 0x0, 0, .winData, [], 48⟩,
  ⟨0x40200, 1, 0x0, 0x0, .cnt, [], 0⟩,  -- PWR_QUIESCE_CNT R493
  ⟨0x40204, 1, 0x0, 0x0, .cnt, [], 0⟩,  -- THM_STEP_CNT R493
  ⟨0x40208, 1, 0x0, 0x0, .cnt, [], 0⟩,  -- ELC_QUAR_CNT R493
  ⟨0x4020C, 1, 0x0, 0x0, .cnt, [], 0⟩,  -- ELC_CLEAR_CNT R493
  ⟨0x40210, 1, 0x0, 0x0, .cnt, [], 0⟩  -- ELC_WOULD_CNT R493
]

def regRows1 : List RegRow := [
  ⟨0x40300, 1, 0x0, 0x8000100, .rw, [⟨31,24,1,255⟩, ⟨15,0,1,65535⟩], 0⟩,  -- ELC_THR R491
  ⟨0x40304, 1, 0x0, 0x10244102, .rw, [⟨31,24,0,255⟩, ⟨23,20,0,15⟩, ⟨19,16,0,15⟩, ⟨15,12,0,15⟩, ⟨11,4,0,255⟩, ⟨3,0,0,15⟩], 0⟩,  -- ELC_QMAX R491
  ⟨0x40308, 1, 0x0, 0x2580000, .rw, [⟨31,16,1,65535⟩], 0⟩,  -- ELC_SOAK R491
  ⟨0x4030C, 1, 0x0, 0x0, .wo, [⟨31,28,0,15⟩, ⟨9,0,0,1023⟩], 0⟩,  -- ELC_CMD R491
  ⟨0x40380, 1, 0x0, 0, .winAddr, [⟨23,0,0,16777215⟩], 752⟩,  -- ELC_U_TBL_ADDR R491
  ⟨0x40384, 1, 0x0, 0, .winData, [], 752⟩,
  ⟨0x40388, 1, 0x0, 0, .winAddr, [⟨23,0,0,16777215⟩], 60160⟩,  -- ELC_CNT_TBL_ADDR R491
  ⟨0x4038C, 1, 0x0, 0, .winData, [], 60160⟩,
  ⟨0x60000, 1, 0x0, 0x0, .ro, [], 0⟩,  -- CLK_STAT R492
  ⟨0x60200, 1, 0x0, 0x0, .cnt, [], 0⟩,  -- CLK_UNLOCK_CNT R493
  ⟨0x80000, 1, 0x0, 0xF000000, .ro, [], 0⟩,  -- TBS_STAT R295
  ⟨0x80004, 1, 0x0, 0x64, .rw, [⟨31,30,0,2⟩, ⟨29,27,0,7⟩, ⟨26,20,0,127⟩, ⟨19,19,0,1⟩, ⟨15,0,1,65535⟩], 0⟩,  -- TBS_CFG R295
  ⟨0x80008, 1, 0x0, 0x0, .wo, [⟨31,28,0,15⟩], 0⟩,  -- TBS_TCMD R295
  ⟨0x80010, 1, 0x0, 0x0, .roLo, [], 0⟩,  -- TBS_TIME_LO R295
  ⟨0x80014, 1, 0x0, 0x0, .roHi, [], 0⟩,  -- TBS_TIME_HI R295
  ⟨0x80018, 1, 0x0, 0x0, .roHi, [], 0⟩,  -- TBS_FRAC R295
  ⟨0x8001C, 1, 0x0, 0x0, .ro, [], 0⟩,  -- TBS_OFFSET R295
  ⟨0x80020, 1, 0x0, 0x0, .ro, [], 0⟩,  -- TBS_FREQ R295
  ⟨0x80024, 1, 0x0, 0x0, .rwLo, [⟨31,0,0,4294967295⟩], 0⟩,  -- TBS_TOD_LO R295
  ⟨0x80028, 1, 0x0, 0x0, .rwHi, [⟨31,0,0,4294967295⟩], 0⟩,  -- TBS_TOD_HI R295
  ⟨0x80100, 16, 0x10, 0x0, .rw, [⟨31,0,0,4294967295⟩], 0⟩,  -- TBS_P_ASYM R295
  ⟨0x80104, 16, 0x10, 0x0, .ro, [], 0⟩,  -- TBS_P_DELAY R295
  ⟨0x80108, 16, 0x10, 0x0, .ro, [], 0⟩,  -- TBS_P_RAW R295
  ⟨0x8010C, 16, 0x10, 0x0, .ro, [], 0⟩,  -- TBS_P_ASYM_EST R295
  ⟨0x80200, 1, 0x0, 0x0, .cnt, [], 0⟩,  -- TBS_PTP_SYNC_CNT R296
  ⟨0x80204, 1, 0x0, 0x0, .cnt, [], 0⟩,  -- TBS_TT_SAMP_CNT R296
  ⟨0x80208, 1, 0x0, 0x0, .cnt, [], 0⟩,  -- TBS_TT_DISC_CNT R296
  ⟨0x8020C, 1, 0x0, 0x0, .cnt, [], 0⟩,  -- TBS_UNLOCK_CNT R296
  ⟨0xA0000, 1, 0x0, 0x0, .ro, [], 0⟩,  -- TTX_STAT R297
  ⟨0xA0004, 1, 0x0, 0x0, .wo, [⟨31,28,0,15⟩, ⟨8,8,0,1⟩, ⟨5,0,0,63⟩], 0⟩,  -- TTX_SCMD R297
  ⟨0xA0040, 8, 0x4, 0x0, .rw, [⟨3,0,0,15⟩], 0⟩,  -- TTX_G_PAT R297
  ⟨0xA0100, 1, 0x0, 0, .winAddr, [⟨23,0,0,16777215⟩], 262144⟩,  -- TTX_ENT_TBL_ADDR R298
  ⟨0xA0104, 1, 0x0, 0, .winData, [], 262144⟩,
  ⟨0xA0108, 1, 0x0, 0, .winAddr, [⟨23,0,0,16777215⟩], 512⟩,  -- TTX_SEG_TBL_ADDR R298
  ⟨0xA010C, 1, 0x0, 0, .winData, [], 512⟩,
  ⟨0xA0110, 1, 0x0, 0, .winAddr, [⟨23,0,0,16777215⟩], 128⟩,  -- TTX_SST_TBL_ADDR R298
  ⟨0xA0114, 1, 0x0, 0, .winData, [], 128⟩,
  ⟨0xA0118, 1, 0x0, 0, .winAddr, [⟨23,0,0,16777215⟩], 128⟩,  -- TTX_PAT_TBL_ADDR R298
  ⟨0xA011C, 1, 0x0, 0, .winData, [], 128⟩,
  ⟨0xA0120, 1, 0x0, 0, .winAddr, [⟨23,0,0,16777215⟩], 16384⟩,  -- TTX_SHD_TBL_ADDR R298
  ⟨0xA0124, 1, 0x0, 0, .winData, [], 16384⟩,
  ⟨0xA0128, 1, 0x0, 0, .winAddr, [⟨23,0,0,16777215⟩], 2048⟩,  -- TTX_LATE_TBL_ADDR R298
  ⟨0xA012C, 1, 0x0, 0, .winData, [], 2048⟩,
  ⟨0xA0200, 1, 0x0, 0x0, .cnt, [], 0⟩,  -- TTX_FIRED_CNT R299
  ⟨0xA0204, 1, 0x0, 0x0, .cnt, [], 0⟩,  -- TTX_REFUSED_CNT R299
  ⟨0xA0208, 1, 0x0, 0x0, .cnt, [], 0⟩,  -- TTX_LATE_CNT R299
  ⟨0x100000, 32, 0x1000, 0x0, .rw, [⟨0,0,0,1⟩], 0⟩,  -- FPC_P_CTRL R87
  ⟨0x100004, 32, 0x1000, 0x0, .ro, [], 0⟩,  -- FPC_P_STAT R87
  ⟨0x100008, 32, 0x1000, 0x80190, .rw, [⟨19,16,1,15⟩, ⟨15,0,10,65535⟩], 0⟩,  -- FPC_P_LLCFG R87
  ⟨0x10000C, 32, 0x1000, 0x10403060, .rw, [⟨31,24,0,255⟩, ⟨23,16,0,255⟩, ⟨15,8,0,255⟩, ⟨7,0,0,255⟩], 0⟩,  -- FPC_P_VCW0 R87
  ⟨0x100010, 32, 0x1000, 0x8, .rw, [⟨15,8,0,255⟩, ⟨7,0,0,255⟩], 0⟩,  -- FPC_P_VCW1 R87
  ⟨0x100020, 32, 0x1000, 0x80, .rw, [⟨12,0,0,8191⟩], 0⟩,  -- FPC_P_RXBUF0 R87
  ⟨0x100024, 32, 0x1000, 0x580, .rw, [⟨12,0,0,8191⟩], 0⟩,  -- FPC_P_RXBUF1 R87
  ⟨0x100028, 32, 0x1000, 0x300, .rw, [⟨12,0,0,8191⟩], 0⟩,  -- FPC_P_RXBUF2 R87
  ⟨0x10002C, 32, 0x1000, 0x300, .rw, [⟨12,0,0,8191⟩], 0⟩,  -- FPC_P_RXBUF3 R87
  ⟨0x100030, 32, 0x1000, 0x180, .rw, [⟨12,0,0,8191⟩], 0⟩,  -- FPC_P_RXBUF4 R87
  ⟨0x100034, 32, 0x1000, 0x100, .rw, [⟨12,0,0,8191⟩], 0⟩,  -- FPC_P_RXBUF5 R87
  ⟨0x100038, 32, 0x1000, 0x0, .rw, [⟨12,0,0,8191⟩], 0⟩,  -- FPC_P_RXBUF6 R87
  ⟨0x10003C, 32, 0x1000, 0x180, .rw, [⟨12,0,0,8191⟩], 0⟩,  -- FPC_P_RXBUF7 R87
  ⟨0x100040, 32, 0x1000, 0x0, .cnt, [], 0⟩  -- FPC_P_CRC_CNT R88
]

def regRows2 : List RegRow := [
  ⟨0x100044, 32, 0x1000, 0x0, .cnt, [], 0⟩,  -- FPC_P_REPLAY_CNT R88
  ⟨0x100048, 32, 0x1000, 0x0, .cnt, [], 0⟩,  -- FPC_P_NAK_CNT R88
  ⟨0x100050, 32, 0x1000, 0x0, .cumLo, [], 0⟩,  -- FPC_P_TXFLIT_LO R88
  ⟨0x100054, 32, 0x1000, 0x0, .cumHi, [], 0⟩,  -- FPC_P_TXFLIT_HI R88
  ⟨0x100058, 32, 0x1000, 0x0, .cumLo, [], 0⟩,  -- FPC_P_RXFLIT_LO R88
  ⟨0x10005C, 32, 0x1000, 0x0, .cumHi, [], 0⟩,  -- FPC_P_RXFLIT_HI R88
  ⟨0x140000, 1, 0x0, 0x0, .ro, [], 0⟩,  -- FRT_STAT R89
  ⟨0x140004, 1, 0x0, 0xC8, .rw, [⟨15,0,25,6500⟩], 0⟩,  -- FRT_ESC_TIMEOUT R89
  ⟨0x140008, 1, 0x0, 0x0, .rw, [⟨13,12,0,3⟩, ⟨0,0,0,1⟩], 0⟩,  -- FRT_EPOCH R89
  ⟨0x14000C, 1, 0x0, 0x0, .ro, [], 0⟩,  -- FRT_INFL0 R89
  ⟨0x140010, 1, 0x0, 0x0, .ro, [], 0⟩,  -- FRT_INFL1 R89
  ⟨0x140018, 1, 0x0, 0x0, .rw, [⟨31,0,0,4294967295⟩], 0⟩,  -- FRT_ESC_PORTDIR R89
  ⟨0x140100, 1, 0x0, 0, .winAddr, [⟨23,0,0,16777215⟩], 1048576⟩,  -- FRT_RT_TBL_ADDR R90
  ⟨0x140104, 1, 0x0, 0, .winData, [], 1048576⟩,
  ⟨0x140108, 1, 0x0, 0, .winAddr, [⟨23,0,0,16777215⟩], 8192⟩,  -- FRT_CIRC_TBL_ADDR R90
  ⟨0x14010C, 1, 0x0, 0, .winData, [], 8192⟩,
  ⟨0x140110, 1, 0x0, 0, .winAddr, [⟨23,0,0,16777215⟩], 65536⟩,  -- FRT_ESC_TBL_ADDR R90
  ⟨0x140114, 1, 0x0, 0, .winData, [], 65536⟩,
  ⟨0x140200, 1, 0x0, 0x0, .cnt, [], 0⟩,  -- FRT_BADHDR_CNT R92
  ⟨0x140204, 1, 0x0, 0x0, .cnt, [], 0⟩,  -- FRT_NOROUTE_CNT R92
  ⟨0x140208, 1, 0x0, 0x0, .cnt, [], 0⟩,  -- FRT_TTL_CNT R92
  ⟨0x14020C, 1, 0x0, 0x0, .cnt, [], 0⟩,  -- FRT_STALE_CNT R92
  ⟨0x140210, 1, 0x0, 0x0, .cnt, [], 0⟩,  -- FRT_ESC_MOVE_CNT R92
  ⟨0x140214, 1, 0x0, 0x0, .cnt, [], 0⟩,  -- FRT_ESC_VIOL_CNT R92
  ⟨0x140218, 1, 0x0, 0x0, .cnt, [], 0⟩,  -- FRT_CIRC_MISS_CNT R92
  ⟨0x14021C, 1, 0x0, 0x0, .cnt, [], 0⟩,  -- FRT_VC6_CNT R92
  ⟨0x140220, 1, 0x0, 0x0, .cnt, [], 0⟩,  -- FRT_SITE_DROP_CNT R408
  ⟨0x140400, 1, 0x0, 0x0, .ro, [], 0⟩,  -- FRT_SITE R408
  ⟨0x140404, 1, 0x0, 0x0, .rw, [⟨13,12,0,3⟩, ⟨0,0,0,1⟩], 0⟩,  -- FRT_SEPOCH R408
  ⟨0x140408, 1, 0x0, 0x0, .ro, [], 0⟩,  -- FRT_SINFL0 R408
  ⟨0x14040C, 1, 0x0, 0x0, .ro, [], 0⟩,  -- FRT_SINFL1 R408
  ⟨0x140410, 1, 0x0, 0x32, .rw, [⟨31,31,0,1⟩, ⟨15,0,1,65535⟩], 0⟩,  -- FRT_SAUTO R408
  ⟨0x140420, 1, 0x0, 0, .winAddr, [⟨23,0,0,16777215⟩], 32⟩,  -- FRT_SRT_TBL_ADDR R408
  ⟨0x140424, 1, 0x0, 0, .winData, [], 32⟩,
  ⟨0x180000, 1, 0x0, 0x0, .ro, [], 0⟩,  -- FCS_STAT R114
  ⟨0x180010, 1, 0x0, 0xC80032, .rw, [⟨31,16,2,65535⟩, ⟨15,0,1,65534⟩], 0⟩,  -- FCS_TIMER R114
  ⟨0x180014, 1, 0x0, 0x44, .rw, [⟨7,4,1,15⟩, ⟨3,0,1,15⟩], 0⟩,  -- FCS_RETRY R114
  ⟨0x180018, 1, 0x0, 0x64, .rw, [⟨15,0,1,65535⟩], 0⟩,  -- FCS_DRAIN R114
  ⟨0x180020, 1, 0x0, 0x0, .wo, [⟨31,28,0,15⟩, ⟨13,0,0,16383⟩], 0⟩,  -- FCS_FCMD R114
  ⟨0x180024, 1, 0x0, 0x0, .wo, [⟨31,28,0,15⟩, ⟨15,0,0,65535⟩], 0⟩,  -- FCS_RCMD R114
  ⟨0x180100, 1, 0x0, 0, .winAddr, [⟨23,0,0,16777215⟩], 1048576⟩,  -- FCS_CTX_TBL_ADDR R115
  ⟨0x180104, 1, 0x0, 0, .winData, [], 1048576⟩,
  ⟨0x180108, 1, 0x0, 0, .winAddr, [⟨23,0,0,16777215⟩], 1048576⟩,  -- FCS_CR_TBL_ADDR R115
  ⟨0x18010C, 1, 0x0, 0, .winData, [], 1048576⟩,
  ⟨0x180110, 1, 0x0, 0, .winAddr, [⟨23,0,0,16777215⟩], 16384⟩,  -- FCS_FST_TBL_ADDR R115
  ⟨0x180114, 1, 0x0, 0, .winData, [], 16384⟩,
  ⟨0x180200, 1, 0x0, 0x0, .cnt, [], 0⟩,  -- FCS_NOFLOW_CNT R116
  ⟨0x180204, 1, 0x0, 0x0, .cnt, [], 0⟩,  -- FCS_SRC_CNT R116
  ⟨0x180208, 1, 0x0, 0x0, .cnt, [], 0⟩,  -- FCS_STRAY_CNT R116
  ⟨0x18020C, 1, 0x0, 0x0, .cnt, [], 0⟩,  -- FCS_ALIGN_CNT R116
  ⟨0x180210, 1, 0x0, 0x0, .cnt, [], 0⟩,  -- FCS_DUP_CNT R116
  ⟨0x180214, 1, 0x0, 0x0, .cnt, [], 0⟩,  -- FCS_POISON_CNT R116
  ⟨0x180218, 1, 0x0, 0x0, .cnt, [], 0⟩,  -- FCS_NACK_CNT R116
  ⟨0x18021C, 1, 0x0, 0x0, .cnt, [], 0⟩,  -- FCS_RESEND_CNT R116
  ⟨0x180220, 1, 0x0, 0x0, .cnt, [], 0⟩,  -- FCS_TIMEOUT_CNT R116
  ⟨0x180224, 1, 0x0, 0x0, .cnt, [], 0⟩,  -- FCS_CTLBAD_CNT R116
  ⟨0x200000, 1, 0x0, 0x0, .ro, [], 0⟩,  -- CLE_STAT R153
  ⟨0x200004, 1, 0x0, 0x0, .wo, [⟨31,28,0,15⟩, ⟨11,0,0,4095⟩], 0⟩,  -- CLE_CTX_CTRL R153
  ⟨0x200008, 1, 0x0, 0x0, .rw, [⟨31,0,0,4294967295⟩], 0⟩,  -- CLE_START_SEQ R153
  ⟨0x20000C, 1, 0x0, 0x0, .rw, [⟨31,0,0,4294967295⟩], 0⟩  -- CLE_START_STEP R153
]

def regRows3 : List RegRow := [
  ⟨0x200010, 1, 0x0, 0xFFF, .rw, [⟨11,0,0,4095⟩], 0⟩,  -- CLE_START_PRED R153
  ⟨0x200014, 1, 0x0, 0x0, .rw, [⟨31,0,0,4294967295⟩], 0⟩,  -- CLE_START_PSEQ R153
  ⟨0x200018, 1, 0x0, 0x2, .rw, [⟨4,0,1,16⟩], 0⟩,  -- CLE_STEAL R153
  ⟨0x20001C, 1, 0x0, 0x640000, .rw, [⟨31,16,1,65535⟩], 0⟩,  -- CLE_PARK R153
  ⟨0x200020, 1, 0x0, 0x0, .rc, [], 0⟩,  -- CLE_PARK_HWM R153
  ⟨0x200024, 1, 0x0, 0x3E01000, .rw, [⟨25,20,0,63⟩, ⟨12,0,1,8191⟩], 0⟩,  -- CLE_RXSTAGE R153
  ⟨0x200100, 1, 0x0, 0, .winAddr, [⟨23,0,0,16777215⟩], 131072⟩,  -- CLE_CTX_TBL_ADDR R154
  ⟨0x200104, 1, 0x0, 0, .winData, [], 131072⟩,
  ⟨0x200108, 1, 0x0, 0, .winAddr, [⟨23,0,0,16777215⟩], 4096⟩,  -- CLE_CST_TBL_ADDR R154
  ⟨0x20010C, 1, 0x0, 0, .winData, [], 4096⟩,
  ⟨0x200110, 1, 0x0, 0, .winAddr, [⟨23,0,0,16777215⟩], 1024⟩,  -- CLE_PARK_TBL_ADDR R154
  ⟨0x200114, 1, 0x0, 0, .winData, [], 1024⟩,
  ⟨0x200200, 1, 0x0, 0x0, .cnt, [], 0⟩,  -- CLE_CHUNK_CNT R155
  ⟨0x200204, 1, 0x0, 0x0, .cnt, [], 0⟩,  -- CLE_CORRUPT_CNT R155
  ⟨0x200208, 1, 0x0, 0x0, .cnt, [], 0⟩,  -- CLE_TIMEOUT_CNT R155
  ⟨0x20020C, 1, 0x0, 0x0, .cnt, [], 0⟩,  -- CLE_PART_CNT R155
  ⟨0x200210, 1, 0x0, 0x0, .cnt, [], 0⟩,  -- CLE_PARK_CNT R155
  ⟨0x200214, 1, 0x0, 0x0, .cnt, [], 0⟩,  -- CLE_ORDER_CNT R155
  ⟨0x200218, 1, 0x0, 0x0, .cnt, [], 0⟩,  -- CLE_XSTEAL_CNT R155
  ⟨0x20021C, 1, 0x0, 0x0, .cnt, [], 0⟩,  -- CLE_REQUEUE_CNT R155
  ⟨0x200220, 1, 0x0, 0x0, .cnt, [], 0⟩,  -- CLE_ROLLBACK_CNT R155
  ⟨0x200224, 1, 0x0, 0x0, .cnt, [], 0⟩,  -- CLE_STRAY_CNT R155
  ⟨0x200228, 1, 0x0, 0x0, .cnt, [], 0⟩,  -- CLE_SEQ_ERR_CNT R155
  ⟨0x20022C, 1, 0x0, 0x0, .cnt, [], 0⟩,  -- CLE_ABORT_RX_CNT R155
  ⟨0x200230, 1, 0x0, 0x0, .cnt, [], 0⟩,  -- CLE_PARTDECL_CNT R409
  ⟨0x200234, 1, 0x0, 0x0, .cnt, [], 0⟩,  -- CLE_DIVERGE_CNT R409
  ⟨0x200238, 1, 0x0, 0x0, .cnt, [], 0⟩,  -- CLE_LEDGER_TMO_CNT R409
  ⟨0x20023C, 1, 0x0, 0x0, .cnt, [], 0⟩,  -- CLE_RXDROP_CNT R155
  ⟨0x200400, 1, 0x0, 0x6401F4, .rw, [⟨31,16,1,65535⟩, ⟨15,0,1,65535⟩], 0⟩,  -- CLE_PART_CFG R409
  ⟨0x200404, 1, 0x0, 0x3E8, .rw, [⟨15,0,1,65535⟩], 0⟩,  -- CLE_PART_CFG2 R409
  ⟨0x200408, 1, 0x0, 0x0, .ro, [], 0⟩,  -- CLE_PART_STAT R409
  ⟨0x20040C, 1, 0x0, 0x0, .ro, [], 0⟩,  -- CLE_PEPOCH R409
  ⟨0x200410, 1, 0x0, 0, .winAddr, [⟨23,0,0,16777215⟩], 512⟩,  -- CLE_JOB_TBL_ADDR R409
  ⟨0x200414, 1, 0x0, 0, .winData, [], 512⟩,
  ⟨0x20F000, 1, 0x0, 0x33F1F, .ro, [], 0⟩,  -- CLE_AR_FMTCAP R51
  ⟨0x20F004, 1, 0x0, 0x0, .cnt, [], 0⟩,  -- CLE_AR_OVF_CNT R51
  ⟨0x20F008, 1, 0x0, 0x0, .cnt, [], 0⟩,  -- CLE_AR_SAT_CNT R51
  ⟨0x20F00C, 1, 0x0, 0x0, .cnt, [], 0⟩,  -- CLE_AR_POISON_CNT R51
  ⟨0x20F010, 1, 0x0, 0x0, .ro, [], 0⟩,  -- CLE_AR_LAST R51
  ⟨0x20F014, 1, 0x0, 0x0, .ro, [], 0⟩,  -- CLE_AR_LAST_CHUNK R51
  ⟨0x280000, 1, 0x0, 0x0, .ro, [], 0⟩,  -- XFM_STAT R192
  ⟨0x280004, 1, 0x0, 0x3C, .rw, [⟨15,0,10,65535⟩], 0⟩,  -- XFM_GEN_HOLD R192
  ⟨0x280008, 1, 0x0, 0x0, .wo, [⟨31,28,0,15⟩, ⟨4,4,0,1⟩, ⟨3,0,0,15⟩], 0⟩,  -- XFM_CLS_CMD R192
  ⟨0x280100, 1, 0x0, 0, .winAddr, [⟨23,0,0,16777215⟩], 8192⟩,  -- XFM_CLS_TBL_ADDR R193
  ⟨0x280104, 1, 0x0, 0, .winData, [], 8192⟩,
  ⟨0x280108, 1, 0x0, 0, .winAddr, [⟨23,0,0,16777215⟩], 32⟩,  -- XFM_CST_TBL_ADDR R193
  ⟨0x28010C, 1, 0x0, 0, .winData, [], 32⟩,
  ⟨0x280110, 1, 0x0, 0, .winAddr, [⟨23,0,0,16777215⟩], 1024⟩,  -- XFM_RANK_TBL_ADDR R193
  ⟨0x280114, 1, 0x0, 0, .winData, [], 1024⟩,
  ⟨0x280200, 1, 0x0, 0x0, .cnt, [], 0⟩,  -- XFM_RAW_BLK_CNT R194
  ⟨0x280204, 1, 0x0, 0x0, .cnt, [], 0⟩,  -- XFM_NOSYM_CNT R194
  ⟨0x280208, 1, 0x0, 0x0, .cnt, [], 0⟩,  -- XFM_NOGEN_CNT R194
  ⟨0x28020C, 1, 0x0, 0x0, .cnt, [], 0⟩,  -- XFM_DECERR_CNT R194
  ⟨0x280210, 1, 0x0, 0x0, .cnt, [], 0⟩,  -- XFM_NONFIN_CNT R194
  ⟨0x280214, 1, 0x0, 0x0, .cnt, [], 0⟩,  -- XFM_XSTEAL_CNT R194
  ⟨0x280218, 1, 0x0, 0x0, .cnt, [], 0⟩,  -- XFM_REDO_CNT R194
  ⟨0x28021C, 1, 0x0, 0x0, .cnt, [], 0⟩,  -- XFM_DEFICIENT_CNT R194
  ⟨0x300000, 1, 0x0, 0x0, .ro, [], 0⟩,  -- BPM_STAT R220
  ⟨0x300004, 1, 0x0, 0x0, .wo, [⟨31,28,0,15⟩, ⟨5,0,0,63⟩], 0⟩,  -- BPM_PCMD R220
  ⟨0x300008, 1, 0x0, 0x0, .wo, [⟨13,8,0,63⟩, ⟨5,0,0,63⟩], 0⟩  -- BPM_ALLOC R220
]

def regRows4 : List RegRow := [
  ⟨0x30000C, 1, 0x0, 0x0, .roLo, [], 0⟩,  -- BPM_ALLOC_PTR_LO R220
  ⟨0x300010, 1, 0x0, 0x0, .roHi, [], 0⟩,  -- BPM_ALLOC_PTR_HI R220
  ⟨0x300014, 1, 0x0, 0x0, .wo, [⟨31,0,0,4294967295⟩], 0⟩,  -- BPM_FREE_LO R220
  ⟨0x300018, 1, 0x0, 0x0, .wo, [⟨31,31,0,1⟩, ⟨21,16,0,63⟩, ⟨5,0,0,63⟩], 0⟩,  -- BPM_FREE_HI R220
  ⟨0x300100, 1, 0x0, 0, .winAddr, [⟨23,0,0,16777215⟩], 256⟩,  -- BPM_POOL_TBL_ADDR R221
  ⟨0x300104, 1, 0x0, 0, .winData, [], 256⟩,
  ⟨0x300108, 1, 0x0, 0, .winAddr, [⟨23,0,0,16777215⟩], 64⟩,  -- BPM_PST_TBL_ADDR R221
  ⟨0x30010C, 1, 0x0, 0, .winData, [], 64⟩,
  ⟨0x300110, 1, 0x0, 0, .winAddr, [⟨23,0,0,16777215⟩], 8192⟩,  -- BPM_OWN_TBL_ADDR R221
  ⟨0x300114, 1, 0x0, 0, .winData, [], 8192⟩,
  ⟨0x300118, 1, 0x0, 0, .winAddr, [⟨23,0,0,16777215⟩], 4096⟩,  -- BPM_USE_TBL_ADDR R221
  ⟨0x30011C, 1, 0x0, 0, .winData, [], 4096⟩,
  ⟨0x300200, 1, 0x0, 0x0, .cnt, [], 0⟩,  -- BPM_BADRET_CNT R222
  ⟨0x300204, 1, 0x0, 0x0, .cnt, [], 0⟩,  -- BPM_WAIT_CNT R222
  ⟨0x300208, 1, 0x0, 0x0, .cnt, [], 0⟩,  -- BPM_ALLOC_BUSY_CNT R222
  ⟨0x30020C, 1, 0x0, 0x0, .cnt, [], 0⟩,  -- BPM_OPENCHK_CNT R222
  ⟨0x340000, 8, 0x4000, 0x0, .ro, [], 0⟩,  -- HBC_S_STAT R223
  ⟨0x340010, 8, 0x4000, 0x0, .cnt, [], 0⟩,  -- HBC_S_CE_CNT R223
  ⟨0x340014, 8, 0x4000, 0x0, .cnt, [], 0⟩,  -- HBC_S_UE_CNT R223
  ⟨0x340100, 8, 0x4000, 0, .winAddr, [⟨23,0,0,16777215⟩], 32⟩,  -- HBC_S_PC_TBL_ADDR R223
  ⟨0x340104, 8, 0x4000, 0, .winData, [], 32⟩,
  ⟨0x360000, 1, 0x0, 0x0, .ro, [], 0⟩,  -- HBC_STAT R223
  ⟨0x360004, 1, 0x0, 0x84, .rw, [⟨9,0,0,1023⟩], 0⟩,  -- HBC_BUDGET R223
  ⟨0x360008, 1, 0x0, 0x0, .ro, [], 0⟩,  -- HBC_BUDGET_USE R223
  ⟨0x36000C, 1, 0x0, 0x4018000A, .rw, [⟨31,28,1,15⟩, ⟨27,16,1,4095⟩, ⟨15,0,1,65535⟩], 0⟩,  -- HBC_SCRUB R223
  ⟨0x360010, 1, 0x0, 0x0, .wo, [⟨31,28,0,15⟩, ⟨7,5,0,7⟩, ⟨4,0,0,31⟩], 0⟩,  -- HBC_CMD R223
  ⟨0x360020, 1, 0x0, 0x0, .cnt, [], 0⟩,  -- HBC_SRAM_CE_CNT R223
  ⟨0x360024, 1, 0x0, 0x0, .cnt, [], 0⟩,  -- HBC_SRAM_UE_CNT R223
  ⟨0x360028, 1, 0x0, 0x0, .ro, [], 0⟩,  -- HBC_SRAM_LAST_UE R223
  ⟨0x360100, 1, 0x0, 0, .winAddr, [⟨23,0,0,16777215⟩], 18⟩,  -- HBC_FPAR_TBL_ADDR R219
  ⟨0x360104, 1, 0x0, 0, .winData, [], 18⟩,
  ⟨0x380000, 1, 0x0, 0x0, .ro, [], 0⟩,  -- SCH_STAT R267
  ⟨0x380004, 1, 0x0, 0x0, .wo, [⟨31,28,0,15⟩, ⟨6,4,0,7⟩, ⟨0,0,0,1⟩], 0⟩,  -- SCH_GCMD R267
  ⟨0x380040, 8, 0x4, 0x0, .ro, [], 0⟩,  -- SCH_G_GSTAT R267
  ⟨0x380100, 1, 0x0, 0, .winAddr, [⟨23,0,0,16777215⟩], 1024⟩,  -- SCH_QCFG_TBL_ADDR R268
  ⟨0x380104, 1, 0x0, 0, .winData, [], 1024⟩,
  ⟨0x380108, 1, 0x0, 0, .winAddr, [⟨23,0,0,16777215⟩], 512⟩,  -- SCH_SHP_TBL_ADDR R268
  ⟨0x38010C, 1, 0x0, 0, .winData, [], 512⟩,
  ⟨0x380110, 1, 0x0, 0, .winAddr, [⟨23,0,0,16777215⟩], 65600⟩,  -- SCH_GCL_TBL_ADDR R268
  ⟨0x380114, 1, 0x0, 0, .winData, [], 65600⟩,
  ⟨0x380118, 1, 0x0, 0, .winAddr, [⟨23,0,0,16777215⟩], 2048⟩,  -- SCH_QST_TBL_ADDR R268
  ⟨0x38011C, 1, 0x0, 0, .winData, [], 2048⟩,
  ⟨0x380120, 1, 0x0, 0, .winAddr, [⟨23,0,0,16777215⟩], 16384⟩,  -- SCH_HIST_TBL_ADDR R268
  ⟨0x380124, 1, 0x0, 0, .winData, [], 16384⟩,
  ⟨0x380200, 1, 0x0, 0x0, .cnt, [], 0⟩,  -- SCH_FULL_CNT R269
  ⟨0x380204, 1, 0x0, 0x0, .cnt, [], 0⟩,  -- SCH_DISC_CNT R269
  ⟨0x380208, 1, 0x0, 0x0, .cnt, [], 0⟩,  -- SCH_NOFIT_CNT R269
  ⟨0x38020C, 1, 0x0, 0x0, .cnt, [], 0⟩,  -- SCH_GATE_REF_CNT R269
  ⟨0x3C0000, 1, 0x0, 0x0, .ro, [], 0⟩,  -- CIP_STAT R249
  ⟨0x3C0004, 1, 0x0, 0x0, .wo, [⟨31,28,0,15⟩, ⟨12,12,0,1⟩, ⟨11,0,0,4095⟩], 0⟩,  -- CIP_KCMD R249
  ⟨0x3C0008, 1, 0x0, 0x3C, .rw, [⟨15,0,10,65535⟩], 0⟩,  -- CIP_KEYHOLD R249
  ⟨0x3C000C, 1, 0x0, 0x1003, .rw, [⟨23,8,1,65535⟩, ⟨3,0,1,15⟩], 0⟩,  -- CIP_TAGCFG R249
  ⟨0x3C0010, 1, 0x0, 0x0, .ro, [], 0⟩,  -- CIP_SENDER R249
  ⟨0x3C0014, 1, 0x0, 0x0, .ro, [], 0⟩,  -- CIP_LEDGER R249
  ⟨0x3C0040, 8, 0x4, 0x0, .rw, [⟨31,31,0,1⟩, ⟨11,0,0,4095⟩], 0⟩,  -- CIP_G_SLOT R249
  ⟨0x3C0080, 16, 0x4, 0x0, .ro, [], 0⟩,  -- CIP_Q_STAT R249
  ⟨0x3C0100, 1, 0x0, 0, .winAddr, [⟨23,0,0,16777215⟩], 16⟩,  -- CIP_BLOB_TBL_ADDR R250
  ⟨0x3C0104, 1, 0x0, 0, .winData, [], 16⟩,
  ⟨0x3C0108, 1, 0x0, 0, .winAddr, [⟨23,0,0,16777215⟩], 32768⟩,  -- CIP_KSLOT_TBL_ADDR R250
  ⟨0x3C010C, 1, 0x0, 0, .winData, [], 32768⟩]

def regRows5 : List RegRow := [
  ⟨0x3C0110, 1, 0x0, 0, .winAddr, [⟨23,0,0,16777215⟩], 17⟩,  -- CIP_LASTERR_TBL_ADDR R250
  ⟨0x3C0114, 1, 0x0, 0, .winData, [], 17⟩,
  ⟨0x3C0200, 1, 0x0, 0x0, .cnt, [], 0⟩,  -- CIP_TAG_CNT R251
  ⟨0x3C0204, 1, 0x0, 0x0, .cnt, [], 0⟩,  -- CIP_GIVEUP_CNT R251
  ⟨0x3C0208, 1, 0x0, 0x0, .cnt, [], 0⟩,  -- CIP_LEN_CNT R251
  ⟨0x3C020C, 1, 0x0, 0x0, .cnt, [], 0⟩,  -- CIP_SLOT_CNT R251
  ⟨0x3C0210, 1, 0x0, 0x0, .cnt, [], 0⟩,  -- CIP_NOKEY_CNT R251
  ⟨0x3C0214, 1, 0x0, 0x0, .cnt, [], 0⟩,  -- CIP_UNWRAP_CNT R251
  ⟨0x3C0218, 1, 0x0, 0x0, .cnt, [], 0⟩,  -- CIP_REDO_CNT R251
  ⟨0x3C021C, 1, 0x0, 0x0, .cnt, [], 0⟩,  -- CIP_KMSG_CNT R251
  ⟨0x3C0220, 1, 0x0, 0x0, .cumLo, [], 0⟩,  -- CIP_INV_LO R251
  ⟨0x3C0224, 1, 0x0, 0x0, .cumHi, [], 0⟩,  -- CIP_INV_HI R251
  ⟨0x400000, 16, 0x1000, 0x0, .rw, [⟨0,0,0,1⟩], 0⟩,  -- LFR_P_CTRL R328
  ⟨0x400004, 16, 0x1000, 0x0, .ro, [], 0⟩,  -- LFR_P_STAT R328
  ⟨0x400008, 16, 0x1000, 0x0, .ro, [], 0⟩,  -- LFR_P_DEFECT R328
  ⟨0x40000C, 16, 0x1000, 0x0, .rw, [⟨31,31,0,1⟩, ⟨30,28,0,7⟩, ⟨27,24,0,15⟩], 0⟩,  -- LFR_P_CFG R328
  ⟨0x400010, 16, 0x1000, 0x40000010, .rw, [⟨31,16,1,65535⟩, ⟨15,0,1,65535⟩], 0⟩,  -- LFR_P_SDSF R328
  ⟨0x400014, 16, 0x1000, 0x0, .ro, [], 0⟩,  -- LFR_P_RXID R328
  ⟨0x400040, 16, 0x1000, 0x0, .cnt, [], 0⟩,  -- LFR_P_BIP_CNT R329
  ⟨0x400044, 16, 0x1000, 0x0, .cnt, [], 0⟩,  -- LFR_P_OOF_CNT R329
  ⟨0x400048, 16, 0x1000, 0x0, .cnt, [], 0⟩,  -- LFR_P_OOM_CNT R329
  ⟨0x40004C, 16, 0x1000, 0x0, .cnt, [], 0⟩,  -- LFR_P_MISCONN_CNT R329
  ⟨0x400050, 16, 0x1000, 0x0, .cum, [], 0⟩,  -- LFR_P_NE_ES R329
  ⟨0x400054, 16, 0x1000, 0x0, .cum, [], 0⟩,  -- LFR_P_NE_SES R329
  ⟨0x400058, 16, 0x1000, 0x0, .cum, [], 0⟩,  -- LFR_P_NE_UAS R329
  ⟨0x40005C, 16, 0x1000, 0x0, .cum, [], 0⟩,  -- LFR_P_FE_ES R329
  ⟨0x400060, 16, 0x1000, 0x0, .cum, [], 0⟩,  -- LFR_P_FE_SES R329
  ⟨0x400064, 16, 0x1000, 0x0, .cum, [], 0⟩,  -- LFR_P_FE_UAS R329
  ⟨0x400068, 16, 0x1000, 0x0, .cumLo, [], 0⟩,  -- LFR_P_NE_BBE_LO R329
  ⟨0x40006C, 16, 0x1000, 0x0, .cumHi, [], 0⟩,  -- LFR_P_NE_BBE_HI R329
  ⟨0x400070, 16, 0x1000, 0x0, .cumLo, [], 0⟩,  -- LFR_P_FE_BBE_LO R329
  ⟨0x400074, 16, 0x1000, 0x0, .cumHi, [], 0⟩,  -- LFR_P_FE_BBE_HI R329
  ⟨0x420000, 8, 0x1000, 0x0, .rw, [⟨0,0,0,1⟩], 0⟩,  -- LFR_G_CTRL R330
  ⟨0x420004, 8, 0x1000, 0x0, .ro, [], 0⟩,  -- LFR_G_STAT R330
  ⟨0x420008, 8, 0x1000, 0x80, .rw, [⟨31,16,0,65535⟩, ⟨15,12,0,15⟩, ⟨11,7,0,31⟩], 0⟩,  -- LFR_G_CFG R330
  ⟨0x42000C, 8, 0x1000, 0x0, .rw, [⟨31,16,0,65535⟩, ⟨15,0,0,65535⟩], 0⟩,  -- LFR_G_MEMBERS R330
  ⟨0x420010, 8, 0x1000, 0x0, .rw, [⟨15,0,0,65535⟩], 0⟩,  -- LFR_G_PARITY R330
  ⟨0x420014, 8, 0x1000, 0x0, .ro, [], 0⟩,  -- LFR_G_SVC R330
  ⟨0x420018, 8, 0x1000, 0x0, .ro, [], 0⟩,  -- LFR_G_READY R330
  ⟨0x42001C, 8, 0x1000, 0x0, .wo, [⟨31,28,0,15⟩, ⟨3,0,0,15⟩], 0⟩,  -- LFR_G_CMD R330
  ⟨0x420020, 8, 0x1000, 0x64, .rw, [⟨15,0,1,65535⟩], 0⟩,  -- LFR_G_ADDTMO R330
  ⟨0x420024, 8, 0x1000, 0x0, .ro, [], 0⟩,  -- LFR_G_DCOMP R330
  ⟨0x420028, 8, 0x1000, 0xFA0, .ro, [], 0⟩,  -- LFR_G_SKEWMAX R330
  ⟨0x42002C, 8, 0x1000, 0x0, .ro, [], 0⟩,  -- LFR_G_ADDTIME R330
  ⟨0x420100, 8, 0x1000, 0, .winAddr, [⟨23,0,0,16777215⟩], 16⟩,  -- LFR_G_MDL_TBL_ADDR R330
  ⟨0x420104, 8, 0x1000, 0, .winData, [], 16⟩,
  ⟨0x420200, 8, 0x1000, 0x0, .cnt, [], 0⟩,  -- LFR_G_SEGLOST_CNT R330
  ⟨0x420204, 8, 0x1000, 0x0, .cnt, [], 0⟩,  -- LFR_G_SEGBAD_CNT R330
  ⟨0x420208, 8, 0x1000, 0x0, .cnt, [], 0⟩,  -- LFR_G_OHMIS_CNT R330
  ⟨0x42020C, 8, 0x1000, 0x0, .cnt, [], 0⟩,  -- LFR_G_GCCBAD_CNT R330
  ⟨0x420210, 8, 0x1000, 0x0, .cnt, [], 0⟩,  -- LFR_G_GCCDROP_CNT R330
  ⟨0x420214, 8, 0x1000, 0x0, .cnt, [], 0⟩,  -- LFR_G_SEGFLOW_CNT R330
  ⟨0x430000, 1, 0x0, 0x0, .ro, [], 0⟩,  -- LFR_STAT R331
  ⟨0x430008, 1, 0x0, 0x1E, .rw, [⟨7,0,1,100⟩], 0⟩,  -- LFR_PM R331
  ⟨0x430010, 8, 0x4, 0x3E800FA, .rw, [⟨31,16,0,65535⟩, ⟨15,0,0,65535⟩], 0⟩,  -- LFR_INT R331
  ⟨0x430100, 16, 0x4, 0x0, .rw, [⟨31,31,0,1⟩, ⟨27,24,0,15⟩], 0⟩,  -- LFR_TRN_P R410
  ⟨0x430200, 1, 0x0, 0x0, .cnt, [], 0⟩,  -- LFR_TRN_SLIP_CNT R410
  ⟨0x480000, 16, 0x100, 0x0, .ro, [], 0⟩,  -- LCD_P_STAT R354
  ⟨0x480004, 16, 0x100, 0x0, .ro, [], 0⟩,  -- LCD_P_MARGIN R354
  ⟨0x480010, 16, 0x100, 0x0, .cumLo, [], 0⟩  -- LCD_P_CSYM_LO R354
]

def regRows6 : List RegRow := [
  ⟨0x480014, 16, 0x100, 0x0, .cumHi, [], 0⟩,  -- LCD_P_CSYM_HI R354
  ⟨0x480018, 16, 0x100, 0x0, .cnt, [], 0⟩,  -- LCD_P_CCW_CNT R354
  ⟨0x48001C, 16, 0x100, 0x0, .cnt, [], 0⟩,  -- LCD_P_UCW_CNT R354
  ⟨0x480020, 16, 0x100, 0x0, .cnt, [], 0⟩,  -- LCD_P_ERASED_CNT R354
  ⟨0x480080, 16, 0x100, 0, .winAddr, [⟨23,0,0,16777215⟩], 16⟩,  -- LCD_P_LANE_TBL_ADDR R354
  ⟨0x480084, 16, 0x100, 0, .winData, [], 16⟩,
  ⟨0x481000, 8, 0x100, 0x0, .ro, [], 0⟩,  -- LCD_G_STAT R355
  ⟨0x481010, 8, 0x100, 0x0, .rw, [⟨31,16,0,65535⟩, ⟨15,0,0,65535⟩], 0⟩,  -- LCD_G_FB0_W0 R355
  ⟨0x481014, 8, 0x100, 0x0, .rw, [⟨31,31,0,1⟩], 0⟩,  -- LCD_G_FB0_W1 R355
  ⟨0x481018, 8, 0x100, 0x0, .rw, [⟨31,16,0,65535⟩, ⟨15,0,0,65535⟩], 0⟩,  -- LCD_G_FB1_W0 R355
  ⟨0x48101C, 8, 0x100, 0x0, .rw, [⟨31,31,0,1⟩], 0⟩,  -- LCD_G_FB1_W1 R355
  ⟨0x481020, 8, 0x100, 0x0, .rw, [⟨31,16,0,65535⟩, ⟨15,0,0,65535⟩], 0⟩,  -- LCD_G_FB2_W0 R355
  ⟨0x481024, 8, 0x100, 0x0, .rw, [⟨31,31,0,1⟩], 0⟩,  -- LCD_G_FB2_W1 R355
  ⟨0x481028, 8, 0x100, 0x0, .rw, [⟨31,16,0,65535⟩, ⟨15,0,0,65535⟩], 0⟩,  -- LCD_G_FB3_W0 R355
  ⟨0x48102C, 8, 0x100, 0x0, .rw, [⟨31,31,0,1⟩], 0⟩,  -- LCD_G_FB3_W1 R355
  ⟨0x481040, 8, 0x100, 0x0, .cnt, [], 0⟩,  -- LCD_G_REBUILT_CNT R355
  ⟨0x481044, 8, 0x100, 0x0, .cnt, [], 0⟩,  -- LCD_G_UNREC_CNT R355
  ⟨0x481048, 8, 0x100, 0x0, .cnt, [], 0⟩,  -- LCD_G_REQ_CNT R355
  ⟨0x48104C, 8, 0x100, 0x0, .cnt, [], 0⟩,  -- LCD_G_RESEND_CNT R355
  ⟨0x481050, 8, 0x100, 0x0, .cnt, [], 0⟩,  -- LCD_G_GONE_CNT R355
  ⟨0x481054, 8, 0x100, 0x0, .cnt, [], 0⟩,  -- LCD_G_GIVEUP_CNT R355
  ⟨0x481058, 8, 0x100, 0x0, .cnt, [], 0⟩,  -- LCD_G_DUP_CNT R355
  ⟨0x482000, 1, 0x0, 0x0, .ro, [], 0⟩,  -- LCD_STAT R356
  ⟨0x482004, 1, 0x0, 0x1F44000, .rw, [⟨31,16,100,500⟩, ⟨15,12,1,15⟩, ⟨11,0,0,4095⟩], 0⟩,  -- LCD_RETRY R356
  ⟨0x482008, 1, 0x0, 0x0, .ro, [], 0⟩,  -- LCD_RETRY_EFF R356
  ⟨0x48200C, 1, 0x0, 0xA322814, .rw, [⟨31,24,1,255⟩, ⟨23,16,0,255⟩, ⟨15,8,0,255⟩, ⟨7,0,5,40⟩], 0⟩,  -- LCD_MARGIN_CFG R356
  ⟨0x4C0000, 16, 0x100, 0x4000100, .ro, [], 0⟩,  -- OPC_P_STAT R382
  ⟨0x4C0004, 16, 0x100, 0x3E8, .ro, [], 0⟩,  -- OPC_P_SCORE R382
  ⟨0x4C0008, 16, 0x100, 0x0, .ro, [], 0⟩,  -- OPC_P_MON0 R382
  ⟨0x4C000C, 16, 0x100, 0x0, .ro, [], 0⟩,  -- OPC_P_MON1 R382
  ⟨0x4C0010, 16, 0x100, 0x0, .ro, [], 0⟩,  -- OPC_P_MON2 R382
  ⟨0x4C0014, 16, 0x100, 0xFFFF, .ro, [], 0⟩,  -- OPC_P_TREND R382
  ⟨0x4C0018, 16, 0x100, 0x0, .ro, [], 0⟩,  -- OPC_P_BASE R382
  ⟨0x4C1000, 1, 0x0, 0x0, .ro, [], 0⟩,  -- OPC_STAT R383
  ⟨0x4C1004, 1, 0x0, 0x0, .wo, [⟨31,28,0,15⟩, ⟨3,0,0,15⟩], 0⟩,  -- OPC_CTRL R383
  ⟨0x4C1008, 1, 0x0, 0xA05031E, .rw, [⟨31,24,1,255⟩, ⟨23,16,0,255⟩, ⟨15,8,0,255⟩, ⟨7,0,1,255⟩], 0⟩,  -- OPC_FADE R383
  ⟨0x4C100C, 1, 0x0, 0x3C10012C, .rw, [⟨31,24,1,255⟩, ⟨23,20,0,15⟩, ⟨9,0,1,949⟩], 0⟩,  -- OPC_EXP R383
  ⟨0x4C1010, 1, 0x0, 0x3C030A, .rw, [⟨31,16,1,65535⟩, ⟨11,8,2,15⟩, ⟨7,0,1,255⟩], 0⟩,  -- OPC_EXP2 R383
  ⟨0x4C1014, 1, 0x0, 0x0, .rw, [⟨7,6,0,2⟩, ⟨5,4,0,2⟩, ⟨3,2,0,2⟩, ⟨1,0,0,2⟩], 0⟩,  -- OPC_BUSCFG R383
  ⟨0x4C1020, 1, 0x0, 0x0, .wo, [⟨31,31,0,1⟩, ⟨30,27,0,15⟩, ⟨26,19,0,255⟩, ⟨18,11,0,255⟩, ⟨10,3,0,255⟩], 0⟩,  -- OPC_MACC R383
  ⟨0x4C1024, 1, 0x0, 0x0, .ro, [], 0⟩,  -- OPC_MRES R383
  ⟨0x4C1040, 8, 0x4, 0x0, .ro, [], 0⟩,  -- OPC_G_EXP R383
  ⟨0x4C1100, 1, 0x0, 0, .winAddr, [⟨23,0,0,16777215⟩], 8192⟩,  -- OPC_HOP_TBL_ADDR R384
  ⟨0x4C1104, 1, 0x0, 0, .winData, [], 8192⟩,
  ⟨0x4C1200, 1, 0x0, 0x0, .cnt, [], 0⟩,  -- OPC_I2C_ERR_CNT R385
  ⟨0x4C1204, 1, 0x0, 0x0, .cnt, [], 0⟩,  -- OPC_SPARE_CNT R385
  ⟨0x4C1208, 1, 0x0, 0x0, .cnt, [], 0⟩,  -- OPC_EXPEL_CNT R385
  ⟨0x4C120C, 1, 0x0, 0x0, .cnt, [], 0⟩,  -- OPC_WOULD_CNT R385
  ⟨0x4C1210, 1, 0x0, 0x0, .cnt, [], 0⟩,  -- OPC_HOP_CNT R385
  ⟨0x4C1214, 1, 0x0, 0x0, .cnt, [], 0⟩,  -- OPC_HOPFAIL_CNT R385
  ⟨0x500000, 1, 0x0, 0x0, .ro, [], 0⟩,  -- MGT_STAT R466
  ⟨0x500004, 1, 0x0, 0x0, .ro, [], 0⟩,  -- MGT_BADADDR R466
  ⟨0x500008, 1, 0x0, 0x0, .w1c, [⟨4,2,0,7⟩, ⟨0,0,0,1⟩], 0⟩,  -- MGT_ALERT_STAT R466
  ⟨0x50000C, 1, 0x0, 0x5, .rw, [⟨4,2,0,7⟩, ⟨0,0,0,1⟩], 0⟩,  -- MGT_ALERT_EN R466
  ⟨0x500010, 1, 0x0, 0x0, .rwLo, [⟨31,0,0,4294967295⟩], 0⟩,  -- MGT_ASTER_T_LO R466
  ⟨0x500014, 1, 0x0, 0x0, .rwHi, [⟨31,0,0,4294967295⟩], 0⟩,  -- MGT_ASTER_T_HI R466
  ⟨0x500018, 1, 0x0, 0x0, .wo, [⟨31,28,0,15⟩], 0⟩,  -- MGT_ASTER_CMD R466
  ⟨0x50001C, 1, 0x0, 0x0, .ro, [], 0⟩,  -- MGT_ASTER_STAT R466
  ⟨0x500100, 1, 0x0, 0x3000000, .rw, [⟨31,31,0,1⟩, ⟨30,30,0,1⟩, ⟨29,29,0,1⟩, ⟨28,28,0,1⟩, ⟨27,24,0,7⟩], 0⟩,  -- TLM_CFG R466
  ⟨0x500104, 1, 0x0, 0x0, .rw, [⟨16,0,0,131071⟩], 0⟩  -- TLM_BLKMASK R466
]

def regRows7 : List RegRow := [
  ⟨0x500108, 1, 0x0, 0x0, .rw, [⟨31,0,0,4294967295⟩], 0⟩,  -- TLM_SMAC_LO R466
  ⟨0x50010C, 1, 0x0, 0x0, .rw, [⟨15,0,0,65535⟩], 0⟩,  -- TLM_SMAC_HI R466
  ⟨0x500110, 1, 0x0, 0x0, .rw, [⟨31,0,0,4294967295⟩], 0⟩,  -- TLM_DMAC_LO R466
  ⟨0x500114, 1, 0x0, 0x0, .rw, [⟨15,0,0,65535⟩], 0⟩,  -- TLM_DMAC_HI R466
  ⟨0x500118, 1, 0x0, 0x0, .rw, [⟨31,0,0,4294967295⟩], 0⟩,  -- TLM_SIP R466
  ⟨0x50011C, 1, 0x0, 0x0, .rw, [⟨31,0,0,4294967295⟩], 0⟩,  -- TLM_DIP R466
  ⟨0x500120, 1, 0x0, 0x0, .rw, [⟨31,16,0,65535⟩, ⟨15,0,0,65535⟩], 0⟩,  -- TLM_UDP R466
  ⟨0x500124, 1, 0x0, 0x18020000, .rw, [⟨29,20,2,512⟩, ⟨19,10,0,1023⟩], 0⟩,  -- TLM_FIFO R466
  ⟨0x500128, 1, 0x0, 0x0, .ro, [], 0⟩,  -- TLM_STAT R466
  ⟨0x500200, 1, 0x0, 0x0, .cnt, [], 0⟩,  -- MGT_CRC_CNT R466
  ⟨0x500204, 1, 0x0, 0x0, .cnt, [], 0⟩,  -- MGT_BADACC_CNT R466
  ⟨0x500208, 1, 0x0, 0x0, .cnt, [], 0⟩,  -- MGT_ABORT_CNT R466
  ⟨0x50020C, 1, 0x0, 0x0, .cnt, [], 0⟩,  -- MGT_BUSY_CNT R466
  ⟨0x500210, 1, 0x0, 0x0, .cnt, [], 0⟩,  -- TLM_DGRAM_CNT R466
  ⟨0x500214, 1, 0x0, 0x0, .cnt, [], 0⟩,  -- TLM_DROP_CNT R466
  ⟨0x500218, 1, 0x0, 0x0, .cnt, [], 0⟩,  -- TLM_RXDISC_CNT R466
  ⟨0x540000, 1, 0x0, 0x0, .ro, [], 0⟩,  -- SEC_DEBUG R468
  ⟨0x580000, 1, 0x0, 0x0, .ro, [], 0⟩,  -- EVL_STAT R467
  ⟨0x580004, 1, 0x0, 0x0, .ro, [], 0⟩,  -- EVL_WRITTEN R467
  ⟨0x580008, 1, 0x0, 0x4, .rw, [⟨3,0,0,15⟩], 0⟩,  -- EVL_CFG R467
  ⟨0x580100, 1, 0x0, 0, .winAddr, [⟨23,0,0,16777215⟩], 524288⟩,  -- EVL_LOG_TBL_ADDR R467
  ⟨0x580104, 1, 0x0, 0, .winData, [], 524288⟩,
  ⟨0x580108, 1, 0x0, 0, .winAddr, [⟨23,0,0,16777215⟩], 8192⟩,  -- EVL_SEV_TBL_ADDR R467
  ⟨0x58010C, 1, 0x0, 0, .winData, [], 8192⟩,
  ⟨0x580200, 1, 0x0, 0x0, .cnt, [], 0⟩  -- EVL_DROP_CNT R467
]

/-- Every register of the gateway. -/
def regRows : List RegRow :=
  regRows0 ++ regRows1 ++ regRows2 ++ regRows3 ++ regRows4 ++ regRows5 ++ regRows6 ++ regRows7

/-- The instance of a row an address names. -/
def RegRow.inst (r : RegRow) (a : Nat) : Option Nat :=
  if a < r.base then none
  else if r.n ≤ 1 then (if a = r.base then some 0 else none)
  else if (a - r.base) % r.stride = 0 ∧ (a - r.base) / r.stride < r.n then some ((a - r.base) / r.stride) else none

def findRow (a : Nat) : List RegRow → Option (RegRow × Nat)
  | [] => none
  | r :: rs => match r.inst a with
    | some i => some (r, i)
    | none => findRow a rs

/-- The register at an address, with its instance; none where no block maps it (19_register_index R507). -/
def regAt (a : Nat) : Option (RegRow × Nat) := findRow a regRows

/-- The reset value of a register. -/
def regReset (a : Nat) : Word :=
  match regAt a with
  | some (r, _) => word r.reset
  | none => 0

/-- The registers Marigold holds (16_management R441): SUP, BOOT, OTP, PWR/THM/ELC, CLK. -/
def isAon (a : Nat) : Bool := decide (a < 0x80000)

/-- A table word's key: the ADDR register of its window, and the word index. -/
def tkey (win w : Nat) : Nat := win * 2 ^ 24 + w

/-! The addresses by name. -/
namespace Reg

abbrev SUP_IDENT : Nat := 0x0
abbrev SUP_CAP_GEN : Nat := 0x100
abbrev SUP_CAP_OFL : Nat := 0x104
abbrev SUP_CAP_LINE : Nat := 0x108
abbrev SUP_CAP_CLE : Nat := 0x10C
abbrev SUP_CAP_XFM : Nat := 0x110
abbrev SUP_CAP_CIP : Nat := 0x114
abbrev SUP_CAP_HBM : Nat := 0x118
abbrev SUP_CAP_SRAM : Nat := 0x11C
abbrev SUP_CAP_BOOT : Nat := 0x120
abbrev SUP_CAPU_TBL : Nat := 0x180
abbrev SUP_MOP_ARM : Nat := 0x200
abbrev SUP_MOP : Nat := 0x204
abbrev SUP_MOP_STAT : Nat := 0x208
abbrev SUP_MRES_TBL : Nat := 0x210
abbrev BOOT_STAT : Nat := 0x10000
abbrev BOOT_CTRL : Nat := 0x10004
abbrev BOOT_NUM : Nat := 0x10008
abbrev BOOT_IMAGE : Nat := 0x1000C
abbrev BOOT_BUILD_LO : Nat := 0x10010
abbrev BOOT_BUILD_HI : Nat := 0x10014
abbrev BOOT_TIME : Nat := 0x10018
abbrev BOOT_FCMD : Nat := 0x1001C
abbrev BOOT_NVM_CMD : Nat := 0x10020
abbrev BOOT_NVM_STAT : Nat := 0x10024
abbrev BOOT_JNL_TBL : Nat := 0x10100
abbrev BOOT_NVMB_TBL : Nat := 0x10108
abbrev BOOT_DESC_OK_CNT : Nat := 0x10200
abbrev BOOT_DESC_REJ_CNT : Nat := 0x10204
abbrev BOOT_REC_FAIL_CNT : Nat := 0x10208
abbrev OTP_STAT : Nat := 0x20000
abbrev OTP_CMD : Nat := 0x20004
abbrev OTP_DATA (n : Nat) : Nat := 0x20010 + n * 0x4
abbrev OTP_VALUE : Nat := 0x20040
abbrev OTP_LINEMASK : Nat := 0x20044
abbrev OTP_USED : Nat := 0x20048
abbrev PWR_STAT : Nat := 0x40000
abbrev PWR_VIN : Nat := 0x40004
abbrev PWR_PIN : Nat := 0x40008
abbrev PWR_QLIM : Nat := 0x4000C
abbrev THM_STAT : Nat := 0x40100
abbrev THM_GRP (n : Nat) : Nat := 0x40110 + n * 0x4
abbrev THM_STEP : Nat := 0x40130
abbrev PWR_RAIL_TBL : Nat := 0x40180
abbrev THM_SNS_TBL : Nat := 0x40188
abbrev PWR_QUIESCE_CNT : Nat := 0x40200
abbrev THM_STEP_CNT : Nat := 0x40204
abbrev ELC_QUAR_CNT : Nat := 0x40208
abbrev ELC_CLEAR_CNT : Nat := 0x4020C
abbrev ELC_WOULD_CNT : Nat := 0x40210
abbrev ELC_THR : Nat := 0x40300
abbrev ELC_QMAX : Nat := 0x40304
abbrev ELC_SOAK : Nat := 0x40308
abbrev ELC_CMD : Nat := 0x4030C
abbrev ELC_U_TBL : Nat := 0x40380
abbrev ELC_CNT_TBL : Nat := 0x40388
abbrev CLK_STAT : Nat := 0x60000
abbrev CLK_UNLOCK_CNT : Nat := 0x60200
abbrev TBS_STAT : Nat := 0x80000
abbrev TBS_CFG : Nat := 0x80004
abbrev TBS_TCMD : Nat := 0x80008
abbrev TBS_TIME_LO : Nat := 0x80010
abbrev TBS_TIME_HI : Nat := 0x80014
abbrev TBS_FRAC : Nat := 0x80018
abbrev TBS_OFFSET : Nat := 0x8001C
abbrev TBS_FREQ : Nat := 0x80020
abbrev TBS_TOD_LO : Nat := 0x80024
abbrev TBS_TOD_HI : Nat := 0x80028
abbrev TBS_P_ASYM (n : Nat) : Nat := 0x80100 + n * 0x10
abbrev TBS_P_DELAY (n : Nat) : Nat := 0x80104 + n * 0x10
abbrev TBS_P_RAW (n : Nat) : Nat := 0x80108 + n * 0x10
abbrev TBS_P_ASYM_EST (n : Nat) : Nat := 0x8010C + n * 0x10
abbrev TBS_PTP_SYNC_CNT : Nat := 0x80200
abbrev TBS_TT_SAMP_CNT : Nat := 0x80204
abbrev TBS_TT_DISC_CNT : Nat := 0x80208
abbrev TBS_UNLOCK_CNT : Nat := 0x8020C
abbrev TTX_STAT : Nat := 0xA0000
abbrev TTX_SCMD : Nat := 0xA0004
abbrev TTX_G_PAT (n : Nat) : Nat := 0xA0040 + n * 0x4
abbrev TTX_ENT_TBL : Nat := 0xA0100
abbrev TTX_SEG_TBL : Nat := 0xA0108
abbrev TTX_SST_TBL : Nat := 0xA0110
abbrev TTX_PAT_TBL : Nat := 0xA0118
abbrev TTX_SHD_TBL : Nat := 0xA0120
abbrev TTX_LATE_TBL : Nat := 0xA0128
abbrev TTX_FIRED_CNT : Nat := 0xA0200
abbrev TTX_REFUSED_CNT : Nat := 0xA0204
abbrev TTX_LATE_CNT : Nat := 0xA0208
abbrev FPC_P_CTRL (n : Nat) : Nat := 0x100000 + n * 0x1000
abbrev FPC_P_STAT (n : Nat) : Nat := 0x100004 + n * 0x1000
abbrev FPC_P_LLCFG (n : Nat) : Nat := 0x100008 + n * 0x1000
abbrev FPC_P_VCW0 (n : Nat) : Nat := 0x10000C + n * 0x1000
abbrev FPC_P_VCW1 (n : Nat) : Nat := 0x100010 + n * 0x1000
abbrev FPC_P_RXBUF0 (n : Nat) : Nat := 0x100020 + n * 0x1000
abbrev FPC_P_RXBUF1 (n : Nat) : Nat := 0x100024 + n * 0x1000
abbrev FPC_P_RXBUF2 (n : Nat) : Nat := 0x100028 + n * 0x1000
abbrev FPC_P_RXBUF3 (n : Nat) : Nat := 0x10002C + n * 0x1000
abbrev FPC_P_RXBUF4 (n : Nat) : Nat := 0x100030 + n * 0x1000
abbrev FPC_P_RXBUF5 (n : Nat) : Nat := 0x100034 + n * 0x1000
abbrev FPC_P_RXBUF6 (n : Nat) : Nat := 0x100038 + n * 0x1000
abbrev FPC_P_RXBUF7 (n : Nat) : Nat := 0x10003C + n * 0x1000
abbrev FPC_P_CRC_CNT (n : Nat) : Nat := 0x100040 + n * 0x1000
abbrev FPC_P_REPLAY_CNT (n : Nat) : Nat := 0x100044 + n * 0x1000
abbrev FPC_P_NAK_CNT (n : Nat) : Nat := 0x100048 + n * 0x1000
abbrev FPC_P_TXFLIT_LO (n : Nat) : Nat := 0x100050 + n * 0x1000
abbrev FPC_P_TXFLIT_HI (n : Nat) : Nat := 0x100054 + n * 0x1000
abbrev FPC_P_RXFLIT_LO (n : Nat) : Nat := 0x100058 + n * 0x1000
abbrev FPC_P_RXFLIT_HI (n : Nat) : Nat := 0x10005C + n * 0x1000
abbrev FRT_STAT : Nat := 0x140000
abbrev FRT_ESC_TIMEOUT : Nat := 0x140004
abbrev FRT_EPOCH : Nat := 0x140008
abbrev FRT_INFL0 : Nat := 0x14000C
abbrev FRT_INFL1 : Nat := 0x140010
abbrev FRT_ESC_PORTDIR : Nat := 0x140018
abbrev FRT_RT_TBL : Nat := 0x140100
abbrev FRT_CIRC_TBL : Nat := 0x140108
abbrev FRT_ESC_TBL : Nat := 0x140110
abbrev FRT_BADHDR_CNT : Nat := 0x140200
abbrev FRT_NOROUTE_CNT : Nat := 0x140204
abbrev FRT_TTL_CNT : Nat := 0x140208
abbrev FRT_STALE_CNT : Nat := 0x14020C
abbrev FRT_ESC_MOVE_CNT : Nat := 0x140210
abbrev FRT_ESC_VIOL_CNT : Nat := 0x140214
abbrev FRT_CIRC_MISS_CNT : Nat := 0x140218
abbrev FRT_VC6_CNT : Nat := 0x14021C
abbrev FRT_SITE_DROP_CNT : Nat := 0x140220
abbrev FRT_SITE : Nat := 0x140400
abbrev FRT_SEPOCH : Nat := 0x140404
abbrev FRT_SINFL0 : Nat := 0x140408
abbrev FRT_SINFL1 : Nat := 0x14040C
abbrev FRT_SAUTO : Nat := 0x140410
abbrev FRT_SRT_TBL : Nat := 0x140420
abbrev FCS_STAT : Nat := 0x180000
abbrev FCS_TIMER : Nat := 0x180010
abbrev FCS_RETRY : Nat := 0x180014
abbrev FCS_DRAIN : Nat := 0x180018
abbrev FCS_FCMD : Nat := 0x180020
abbrev FCS_RCMD : Nat := 0x180024
abbrev FCS_CTX_TBL : Nat := 0x180100
abbrev FCS_CR_TBL : Nat := 0x180108
abbrev FCS_FST_TBL : Nat := 0x180110
abbrev FCS_NOFLOW_CNT : Nat := 0x180200
abbrev FCS_SRC_CNT : Nat := 0x180204
abbrev FCS_STRAY_CNT : Nat := 0x180208
abbrev FCS_ALIGN_CNT : Nat := 0x18020C
abbrev FCS_DUP_CNT : Nat := 0x180210
abbrev FCS_POISON_CNT : Nat := 0x180214
abbrev FCS_NACK_CNT : Nat := 0x180218
abbrev FCS_RESEND_CNT : Nat := 0x18021C
abbrev FCS_TIMEOUT_CNT : Nat := 0x180220
abbrev FCS_CTLBAD_CNT : Nat := 0x180224
abbrev CLE_STAT : Nat := 0x200000
abbrev CLE_CTX_CTRL : Nat := 0x200004
abbrev CLE_START_SEQ : Nat := 0x200008
abbrev CLE_START_STEP : Nat := 0x20000C
abbrev CLE_START_PRED : Nat := 0x200010
abbrev CLE_START_PSEQ : Nat := 0x200014
abbrev CLE_STEAL : Nat := 0x200018
abbrev CLE_PARK : Nat := 0x20001C
abbrev CLE_PARK_HWM : Nat := 0x200020
abbrev CLE_RXSTAGE : Nat := 0x200024
abbrev CLE_CTX_TBL : Nat := 0x200100
abbrev CLE_CST_TBL : Nat := 0x200108
abbrev CLE_PARK_TBL : Nat := 0x200110
abbrev CLE_CHUNK_CNT : Nat := 0x200200
abbrev CLE_CORRUPT_CNT : Nat := 0x200204
abbrev CLE_TIMEOUT_CNT : Nat := 0x200208
abbrev CLE_PART_CNT : Nat := 0x20020C
abbrev CLE_PARK_CNT : Nat := 0x200210
abbrev CLE_ORDER_CNT : Nat := 0x200214
abbrev CLE_XSTEAL_CNT : Nat := 0x200218
abbrev CLE_REQUEUE_CNT : Nat := 0x20021C
abbrev CLE_ROLLBACK_CNT : Nat := 0x200220
abbrev CLE_STRAY_CNT : Nat := 0x200224
abbrev CLE_SEQ_ERR_CNT : Nat := 0x200228
abbrev CLE_ABORT_RX_CNT : Nat := 0x20022C
abbrev CLE_PARTDECL_CNT : Nat := 0x200230
abbrev CLE_DIVERGE_CNT : Nat := 0x200234
abbrev CLE_LEDGER_TMO_CNT : Nat := 0x200238
abbrev CLE_RXDROP_CNT : Nat := 0x20023C
abbrev CLE_PART_CFG : Nat := 0x200400
abbrev CLE_PART_CFG2 : Nat := 0x200404
abbrev CLE_PART_STAT : Nat := 0x200408
abbrev CLE_PEPOCH : Nat := 0x20040C
abbrev CLE_JOB_TBL : Nat := 0x200410
abbrev CLE_AR_FMTCAP : Nat := 0x20F000
abbrev CLE_AR_OVF_CNT : Nat := 0x20F004
abbrev CLE_AR_SAT_CNT : Nat := 0x20F008
abbrev CLE_AR_POISON_CNT : Nat := 0x20F00C
abbrev CLE_AR_LAST : Nat := 0x20F010
abbrev CLE_AR_LAST_CHUNK : Nat := 0x20F014
abbrev XFM_STAT : Nat := 0x280000
abbrev XFM_GEN_HOLD : Nat := 0x280004
abbrev XFM_CLS_CMD : Nat := 0x280008
abbrev XFM_CLS_TBL : Nat := 0x280100
abbrev XFM_CST_TBL : Nat := 0x280108
abbrev XFM_RANK_TBL : Nat := 0x280110
abbrev XFM_RAW_BLK_CNT : Nat := 0x280200
abbrev XFM_NOSYM_CNT : Nat := 0x280204
abbrev XFM_NOGEN_CNT : Nat := 0x280208
abbrev XFM_DECERR_CNT : Nat := 0x28020C
abbrev XFM_NONFIN_CNT : Nat := 0x280210
abbrev XFM_XSTEAL_CNT : Nat := 0x280214
abbrev XFM_REDO_CNT : Nat := 0x280218
abbrev XFM_DEFICIENT_CNT : Nat := 0x28021C
abbrev BPM_STAT : Nat := 0x300000
abbrev BPM_PCMD : Nat := 0x300004
abbrev BPM_ALLOC : Nat := 0x300008
abbrev BPM_ALLOC_PTR_LO : Nat := 0x30000C
abbrev BPM_ALLOC_PTR_HI : Nat := 0x300010
abbrev BPM_FREE_LO : Nat := 0x300014
abbrev BPM_FREE_HI : Nat := 0x300018
abbrev BPM_POOL_TBL : Nat := 0x300100
abbrev BPM_PST_TBL : Nat := 0x300108
abbrev BPM_OWN_TBL : Nat := 0x300110
abbrev BPM_USE_TBL : Nat := 0x300118
abbrev BPM_BADRET_CNT : Nat := 0x300200
abbrev BPM_WAIT_CNT : Nat := 0x300204
abbrev BPM_ALLOC_BUSY_CNT : Nat := 0x300208
abbrev BPM_OPENCHK_CNT : Nat := 0x30020C
abbrev HBC_S_STAT (n : Nat) : Nat := 0x340000 + n * 0x4000
abbrev HBC_S_CE_CNT (n : Nat) : Nat := 0x340010 + n * 0x4000
abbrev HBC_S_UE_CNT (n : Nat) : Nat := 0x340014 + n * 0x4000
abbrev HBC_S_PC_TBL (n : Nat) : Nat := 0x340100 + n * 0x4000
abbrev HBC_STAT : Nat := 0x360000
abbrev HBC_BUDGET : Nat := 0x360004
abbrev HBC_BUDGET_USE : Nat := 0x360008
abbrev HBC_SCRUB : Nat := 0x36000C
abbrev HBC_CMD : Nat := 0x360010
abbrev HBC_SRAM_CE_CNT : Nat := 0x360020
abbrev HBC_SRAM_UE_CNT : Nat := 0x360024
abbrev HBC_SRAM_LAST_UE : Nat := 0x360028
abbrev HBC_FPAR_TBL : Nat := 0x360100
abbrev SCH_STAT : Nat := 0x380000
abbrev SCH_GCMD : Nat := 0x380004
abbrev SCH_G_GSTAT (n : Nat) : Nat := 0x380040 + n * 0x4
abbrev SCH_QCFG_TBL : Nat := 0x380100
abbrev SCH_SHP_TBL : Nat := 0x380108
abbrev SCH_GCL_TBL : Nat := 0x380110
abbrev SCH_QST_TBL : Nat := 0x380118
abbrev SCH_HIST_TBL : Nat := 0x380120
abbrev SCH_FULL_CNT : Nat := 0x380200
abbrev SCH_DISC_CNT : Nat := 0x380204
abbrev SCH_NOFIT_CNT : Nat := 0x380208
abbrev SCH_GATE_REF_CNT : Nat := 0x38020C
abbrev CIP_STAT : Nat := 0x3C0000
abbrev CIP_KCMD : Nat := 0x3C0004
abbrev CIP_KEYHOLD : Nat := 0x3C0008
abbrev CIP_TAGCFG : Nat := 0x3C000C
abbrev CIP_SENDER : Nat := 0x3C0010
abbrev CIP_LEDGER : Nat := 0x3C0014
abbrev CIP_G_SLOT (n : Nat) : Nat := 0x3C0040 + n * 0x4
abbrev CIP_Q_STAT (n : Nat) : Nat := 0x3C0080 + n * 0x4
abbrev CIP_BLOB_TBL : Nat := 0x3C0100
abbrev CIP_KSLOT_TBL : Nat := 0x3C0108
abbrev CIP_LASTERR_TBL : Nat := 0x3C0110
abbrev CIP_TAG_CNT : Nat := 0x3C0200
abbrev CIP_GIVEUP_CNT : Nat := 0x3C0204
abbrev CIP_LEN_CNT : Nat := 0x3C0208
abbrev CIP_SLOT_CNT : Nat := 0x3C020C
abbrev CIP_NOKEY_CNT : Nat := 0x3C0210
abbrev CIP_UNWRAP_CNT : Nat := 0x3C0214
abbrev CIP_REDO_CNT : Nat := 0x3C0218
abbrev CIP_KMSG_CNT : Nat := 0x3C021C
abbrev CIP_INV_LO : Nat := 0x3C0220
abbrev CIP_INV_HI : Nat := 0x3C0224
abbrev LFR_P_CTRL (n : Nat) : Nat := 0x400000 + n * 0x1000
abbrev LFR_P_STAT (n : Nat) : Nat := 0x400004 + n * 0x1000
abbrev LFR_P_DEFECT (n : Nat) : Nat := 0x400008 + n * 0x1000
abbrev LFR_P_CFG (n : Nat) : Nat := 0x40000C + n * 0x1000
abbrev LFR_P_SDSF (n : Nat) : Nat := 0x400010 + n * 0x1000
abbrev LFR_P_RXID (n : Nat) : Nat := 0x400014 + n * 0x1000
abbrev LFR_P_BIP_CNT (n : Nat) : Nat := 0x400040 + n * 0x1000
abbrev LFR_P_OOF_CNT (n : Nat) : Nat := 0x400044 + n * 0x1000
abbrev LFR_P_OOM_CNT (n : Nat) : Nat := 0x400048 + n * 0x1000
abbrev LFR_P_MISCONN_CNT (n : Nat) : Nat := 0x40004C + n * 0x1000
abbrev LFR_P_NE_ES (n : Nat) : Nat := 0x400050 + n * 0x1000
abbrev LFR_P_NE_SES (n : Nat) : Nat := 0x400054 + n * 0x1000
abbrev LFR_P_NE_UAS (n : Nat) : Nat := 0x400058 + n * 0x1000
abbrev LFR_P_FE_ES (n : Nat) : Nat := 0x40005C + n * 0x1000
abbrev LFR_P_FE_SES (n : Nat) : Nat := 0x400060 + n * 0x1000
abbrev LFR_P_FE_UAS (n : Nat) : Nat := 0x400064 + n * 0x1000
abbrev LFR_P_NE_BBE_LO (n : Nat) : Nat := 0x400068 + n * 0x1000
abbrev LFR_P_NE_BBE_HI (n : Nat) : Nat := 0x40006C + n * 0x1000
abbrev LFR_P_FE_BBE_LO (n : Nat) : Nat := 0x400070 + n * 0x1000
abbrev LFR_P_FE_BBE_HI (n : Nat) : Nat := 0x400074 + n * 0x1000
abbrev LFR_G_CTRL (n : Nat) : Nat := 0x420000 + n * 0x1000
abbrev LFR_G_STAT (n : Nat) : Nat := 0x420004 + n * 0x1000
abbrev LFR_G_CFG (n : Nat) : Nat := 0x420008 + n * 0x1000
abbrev LFR_G_MEMBERS (n : Nat) : Nat := 0x42000C + n * 0x1000
abbrev LFR_G_PARITY (n : Nat) : Nat := 0x420010 + n * 0x1000
abbrev LFR_G_SVC (n : Nat) : Nat := 0x420014 + n * 0x1000
abbrev LFR_G_READY (n : Nat) : Nat := 0x420018 + n * 0x1000
abbrev LFR_G_CMD (n : Nat) : Nat := 0x42001C + n * 0x1000
abbrev LFR_G_ADDTMO (n : Nat) : Nat := 0x420020 + n * 0x1000
abbrev LFR_G_DCOMP (n : Nat) : Nat := 0x420024 + n * 0x1000
abbrev LFR_G_SKEWMAX (n : Nat) : Nat := 0x420028 + n * 0x1000
abbrev LFR_G_ADDTIME (n : Nat) : Nat := 0x42002C + n * 0x1000
abbrev LFR_G_MDL_TBL (n : Nat) : Nat := 0x420100 + n * 0x1000
abbrev LFR_G_SEGLOST_CNT (n : Nat) : Nat := 0x420200 + n * 0x1000
abbrev LFR_G_SEGBAD_CNT (n : Nat) : Nat := 0x420204 + n * 0x1000
abbrev LFR_G_OHMIS_CNT (n : Nat) : Nat := 0x420208 + n * 0x1000
abbrev LFR_G_GCCBAD_CNT (n : Nat) : Nat := 0x42020C + n * 0x1000
abbrev LFR_G_GCCDROP_CNT (n : Nat) : Nat := 0x420210 + n * 0x1000
abbrev LFR_G_SEGFLOW_CNT (n : Nat) : Nat := 0x420214 + n * 0x1000
abbrev LFR_STAT : Nat := 0x430000
abbrev LFR_PM : Nat := 0x430008
abbrev LFR_INT (n : Nat) : Nat := 0x430010 + n * 0x4
abbrev LFR_TRN_P (n : Nat) : Nat := 0x430100 + n * 0x4
abbrev LFR_TRN_SLIP_CNT : Nat := 0x430200
abbrev LCD_P_STAT (n : Nat) : Nat := 0x480000 + n * 0x100
abbrev LCD_P_MARGIN (n : Nat) : Nat := 0x480004 + n * 0x100
abbrev LCD_P_CSYM_LO (n : Nat) : Nat := 0x480010 + n * 0x100
abbrev LCD_P_CSYM_HI (n : Nat) : Nat := 0x480014 + n * 0x100
abbrev LCD_P_CCW_CNT (n : Nat) : Nat := 0x480018 + n * 0x100
abbrev LCD_P_UCW_CNT (n : Nat) : Nat := 0x48001C + n * 0x100
abbrev LCD_P_ERASED_CNT (n : Nat) : Nat := 0x480020 + n * 0x100
abbrev LCD_P_LANE_TBL (n : Nat) : Nat := 0x480080 + n * 0x100
abbrev LCD_G_STAT (n : Nat) : Nat := 0x481000 + n * 0x100
abbrev LCD_G_FB0_W0 (n : Nat) : Nat := 0x481010 + n * 0x100
abbrev LCD_G_FB0_W1 (n : Nat) : Nat := 0x481014 + n * 0x100
abbrev LCD_G_FB1_W0 (n : Nat) : Nat := 0x481018 + n * 0x100
abbrev LCD_G_FB1_W1 (n : Nat) : Nat := 0x48101C + n * 0x100
abbrev LCD_G_FB2_W0 (n : Nat) : Nat := 0x481020 + n * 0x100
abbrev LCD_G_FB2_W1 (n : Nat) : Nat := 0x481024 + n * 0x100
abbrev LCD_G_FB3_W0 (n : Nat) : Nat := 0x481028 + n * 0x100
abbrev LCD_G_FB3_W1 (n : Nat) : Nat := 0x48102C + n * 0x100
abbrev LCD_G_REBUILT_CNT (n : Nat) : Nat := 0x481040 + n * 0x100
abbrev LCD_G_UNREC_CNT (n : Nat) : Nat := 0x481044 + n * 0x100
abbrev LCD_G_REQ_CNT (n : Nat) : Nat := 0x481048 + n * 0x100
abbrev LCD_G_RESEND_CNT (n : Nat) : Nat := 0x48104C + n * 0x100
abbrev LCD_G_GONE_CNT (n : Nat) : Nat := 0x481050 + n * 0x100
abbrev LCD_G_GIVEUP_CNT (n : Nat) : Nat := 0x481054 + n * 0x100
abbrev LCD_G_DUP_CNT (n : Nat) : Nat := 0x481058 + n * 0x100
abbrev LCD_STAT : Nat := 0x482000
abbrev LCD_RETRY : Nat := 0x482004
abbrev LCD_RETRY_EFF : Nat := 0x482008
abbrev LCD_MARGIN_CFG : Nat := 0x48200C
abbrev OPC_P_STAT (n : Nat) : Nat := 0x4C0000 + n * 0x100
abbrev OPC_P_SCORE (n : Nat) : Nat := 0x4C0004 + n * 0x100
abbrev OPC_P_MON0 (n : Nat) : Nat := 0x4C0008 + n * 0x100
abbrev OPC_P_MON1 (n : Nat) : Nat := 0x4C000C + n * 0x100
abbrev OPC_P_MON2 (n : Nat) : Nat := 0x4C0010 + n * 0x100
abbrev OPC_P_TREND (n : Nat) : Nat := 0x4C0014 + n * 0x100
abbrev OPC_P_BASE (n : Nat) : Nat := 0x4C0018 + n * 0x100
abbrev OPC_STAT : Nat := 0x4C1000
abbrev OPC_CTRL : Nat := 0x4C1004
abbrev OPC_FADE : Nat := 0x4C1008
abbrev OPC_EXP : Nat := 0x4C100C
abbrev OPC_EXP2 : Nat := 0x4C1010
abbrev OPC_BUSCFG : Nat := 0x4C1014
abbrev OPC_MACC : Nat := 0x4C1020
abbrev OPC_MRES : Nat := 0x4C1024
abbrev OPC_G_EXP (n : Nat) : Nat := 0x4C1040 + n * 0x4
abbrev OPC_HOP_TBL : Nat := 0x4C1100
abbrev OPC_I2C_ERR_CNT : Nat := 0x4C1200
abbrev OPC_SPARE_CNT : Nat := 0x4C1204
abbrev OPC_EXPEL_CNT : Nat := 0x4C1208
abbrev OPC_WOULD_CNT : Nat := 0x4C120C
abbrev OPC_HOP_CNT : Nat := 0x4C1210
abbrev OPC_HOPFAIL_CNT : Nat := 0x4C1214
abbrev MGT_STAT : Nat := 0x500000
abbrev MGT_BADADDR : Nat := 0x500004
abbrev MGT_ALERT_STAT : Nat := 0x500008
abbrev MGT_ALERT_EN : Nat := 0x50000C
abbrev MGT_ASTER_T_LO : Nat := 0x500010
abbrev MGT_ASTER_T_HI : Nat := 0x500014
abbrev MGT_ASTER_CMD : Nat := 0x500018
abbrev MGT_ASTER_STAT : Nat := 0x50001C
abbrev TLM_CFG : Nat := 0x500100
abbrev TLM_BLKMASK : Nat := 0x500104
abbrev TLM_SMAC_LO : Nat := 0x500108
abbrev TLM_SMAC_HI : Nat := 0x50010C
abbrev TLM_DMAC_LO : Nat := 0x500110
abbrev TLM_DMAC_HI : Nat := 0x500114
abbrev TLM_SIP : Nat := 0x500118
abbrev TLM_DIP : Nat := 0x50011C
abbrev TLM_UDP : Nat := 0x500120
abbrev TLM_FIFO : Nat := 0x500124
abbrev TLM_STAT : Nat := 0x500128
abbrev MGT_CRC_CNT : Nat := 0x500200
abbrev MGT_BADACC_CNT : Nat := 0x500204
abbrev MGT_ABORT_CNT : Nat := 0x500208
abbrev MGT_BUSY_CNT : Nat := 0x50020C
abbrev TLM_DGRAM_CNT : Nat := 0x500210
abbrev TLM_DROP_CNT : Nat := 0x500214
abbrev TLM_RXDISC_CNT : Nat := 0x500218
abbrev SEC_DEBUG : Nat := 0x540000
abbrev EVL_STAT : Nat := 0x580000
abbrev EVL_WRITTEN : Nat := 0x580004
abbrev EVL_CFG : Nat := 0x580008
abbrev EVL_LOG_TBL : Nat := 0x580100
abbrev EVL_SEV_TBL : Nat := 0x580108
abbrev EVL_DROP_CNT : Nat := 0x580200

end Reg

end Sys2Proof.Machine
end

