-- ==== Sys2Proof/Machine/Ops.lean ====
section
/-!
DEFINITION. The named operations every family shares: reading and writing registers and
table words, counters (03_fabric_side R88), time (10_timetable_time R271), events (16_management R449 to R452, R509),
the transitions of a function (15_boot_config R434 to R436), and memory bytes.
-/

namespace Sys2Proof.Machine

/-! ### Registers -/

/-- The value a register holds, its Reset column where nothing has written it. -/
def Core.rd (k : Core) (a : Nat) : Nat := (k.regs.get (regReset a) a).toNat

def Core.wr (k : Core) (a v : Nat) : Core := { k with regs := k.regs.set (regReset a) a (word v) }

/-- Field [hi:lo] of a register. -/
def Core.fd (k : Core) (a hi lo : Nat) : Nat := fld (k.rd a) hi lo

def Core.wrf (k : Core) (a hi lo v : Nat) : Core := k.wr a (setFld (k.rd a) hi lo v)

/-- The same for the registers Marigold holds (16_management R441). -/
def Aon.rd (k : Aon) (a : Nat) : Nat := (k.regs.get (regReset a) a).toNat

def Aon.wr (k : Aon) (a v : Nat) : Aon := { k with regs := k.regs.set (regReset a) a (word v) }

def Aon.fd (k : Aon) (a hi lo : Nat) : Nat := fld (k.rd a) hi lo

def Aon.wrf (k : Aon) (a hi lo v : Nat) : Aon := k.wr a (setFld (k.rd a) hi lo v)

/-- Advance a counter register by `n`. -/
def Core.cntN (k : Core) (a n : Nat) : Core := k.wr a (satAdd 32 (k.rd a) n)

def Core.cnt (k : Core) (a : Nat) : Core := k.cntN a 1

def Aon.cnt (k : Aon) (a : Nat) : Aon := k.wr a (satAdd 32 (k.rd a) 1)

/-- Advance a 64-bit cumulative counter whose low word is at `a`. -/
def Core.cum (k : Core) (a n : Nat) : Core :=
  let v := satAdd 64 (k.rd a + 2 ^ 32 * k.rd (a + 4)) n
  (k.wr a v).wr (a + 4) (v >>> 32)

/-! ### Table words -/

/-- The severities that do not reset to 2 (16_management R450): code, severity. -/
def sevResets : List (Nat × Nat) :=
  [(0x0101, 4), (0x0402, 5), (0x0403, 5), (0x0700, 4), (0x0702, 4), (0x0903, 5), (0x0A00, 3), (0x0D01, 4),
   (0x0E00, 4), (0x0F02, 4), (0x1000, 3)]

def sevReset (code : Nat) : Nat := ((sevResets.find? (fun p => p.1 = code)).map Prod.snd).getD 2

/-- A table word at reset: 0, but the severity map (R450), the weights and capacities of the scheduler's queues
(09_scheduling R268) and timetable pattern 0 (10_timetable_time R298). -/
def tblReset (win w : Nat) : Word :=
  if win = Reg.EVL_SEV_TBL then
    word ((List.range 8).foldl (fun a i => a + sevReset (8 * w + i) * 16 ^ i) 0)
  else if win = Reg.SCH_QCFG_TBL then (if w % 2 = 0 then 0x400 else 0x0101)
  else if win = Reg.TTX_PAT_TBL then (if w = 1 then 0x80 else if w = 4 then 0x80000013 else 0)
  else 0

/-- Word `w` of the table behind window `win`. -/
def Core.tb (k : Core) (win w : Nat) : Nat := (k.tbl.get (tblReset win w) (tkey win w)).toNat

def Core.tbw (k : Core) (win w v : Nat) : Core :=
  { k with tbl := k.tbl.set (tblReset win w) (tkey win w) (word v) }

def Core.tbf (k : Core) (win w hi lo : Nat) : Nat := fld (k.tb win w) hi lo

def Core.tbwf (k : Core) (win w hi lo v : Nat) : Core := k.tbw win w (setFld (k.tb win w) hi lo v)

def Aon.tb (k : Aon) (win w : Nat) : Nat := (k.tbl.get (tblReset win w) (tkey win w)).toNat

def Aon.tbw (k : Aon) (win w v : Nat) : Aon :=
  { k with tbl := k.tbl.set (tblReset win w) (tkey win w) (word v) }

/-- Words [w, w + n) as one number, the first word least significant (R4). -/
def Core.tbn (k : Core) (win w : Nat) : Nat → Nat
  | 0 => 0
  | n + 1 => k.tb win w + 2 ^ 32 * k.tbn win (w + 1) n

/-! ### Writing a register by its row (R6, R7, R510) -/

/-- Every field of the value lies in the range its description states. -/
def RegRow.inRange (r : RegRow) (v : Nat) : Bool :=
  r.fields.all (fun f => decide (f.min ≤ fld v f.hi f.lo ∧ fld v f.hi f.lo ≤ f.max))

/-- The bits of a value that a row's fields take; reserved bits stay 0 (R7). -/
def RegRow.take (r : RegRow) (v : Nat) : Nat :=
  r.fields.foldl (fun a f => a + fld v f.hi f.lo * 2 ^ f.lo) 0

/-- A write of an RW register as its row gives it: held when every field is in range, else ST_RANGE. -/
def Core.rw (k : Core) (a v : Nat) : Core × Nat :=
  match regAt a with
  | none => (k, stRange)
  | some (r, _) => if r.inRange v then (k.wr a (r.take v), stOk) else (k, stRange)

def Aon.rw (k : Aon) (a v : Nat) : Aon × Nat :=
  match regAt a with
  | none => (k, stRange)
  | some (r, _) => if r.inRange v then (k.wr a (r.take v), stOk) else (k, stRange)

/-! ### Time (R271, R272) -/

/-- The free-running count in nanoseconds: what timers and limits are measured on. -/
def Core.now (k : Core) : Nat := k.tim.run / 65536

/-- Global time in nanoseconds. -/
def Core.gns (k : Core) : Nat := k.tim.glob / 65536

/-- The frame of a global time in ns, and the start of a frame in units of 2^-16 ns (R272). -/
def frameOf (t : Nat) : Nat := 25 * t / 2048
def frameStart (f : Nat) : Nat := f * 2048 * 65536 / 25

/-- The frame at the present global time. -/
def Core.frame (k : Core) : Nat := 25 * k.tim.glob / (2048 * 65536)

/-- The frame number of a GSEQ, nearest to the present one. -/
def Core.frameNear (k : Core) (gseq : Nat) : Nat :=
  ((k.frame : Int) + signed 32 ((gseq + 2 ^ 32 - k.frame % 2 ^ 32) % 2 ^ 32)).toNat

/-- The slot of a global time in ns (R272). -/
def slotOf (t : Nat) : Nat := 25 * t / 32768

/-! ### Events -/

/-- The severity of a code (R450). -/
def Core.sev (k : Core) (code : Nat) : Nat := k.tbf Reg.EVL_SEV_TBL (code / 8) (4 * (code % 8) + 3) (4 * (code % 8))

/-- A record from the audit unit (R452). -/
def isAudit (src : Nat) : Bool := src == 0x8001

/-- A record arrives at the intake: while the log runs it holds 1,024, the audit unit's records apart, which wait
(R452). -/
def Core.intake (k : Core) (e : Event) : Core :=
  if k.evl.running && decide (k.evl.intake.length ≥ 1024) && !isAudit e.src then
    let k := k.cnt Reg.EVL_DROP_CNT
    { k.wrf Reg.MGT_ALERT_STAT 2 2 1 with evl := { k.evl with dropped := k.evl.dropped + 1 } }
  else { k with evl := { k.evl with intake := k.evl.intake ++ [e] } }

/-- An event observed at time `t` (units of 2^-16 ns), sequence number given now (R19, R449). -/
def Core.emitAt (k : Core) (t src code a : Nat) : Core :=
  let n := k.evl.seqs.get 0 src
  let k := { k with evl := { k.evl with seqs := k.evl.seqs.set 0 src ((n + 1) % 2 ^ 32) } }
  k.intake { time := t, src := src, seq := n, code := code, sev := k.sev code, args := a }

/-- An event of a source outside Marigold's domain, now. -/
def Core.emit (k : Core) (src code : Nat) (l : List (Nat × Nat × Nat)) : Core := k.emitAt k.tim.glob src code (args l)

/-- Does a limiter stand for this code, source and key? -/
def Lim.is (l : Lim) (code src key : Nat) : Bool := l.code == code && l.src == src && l.key == key

/-- Emit what a limiter counted, and start its next interval (R509 item 2). -/
def Core.flushLim (k : Core) (l : Lim) : Core :=
  let cnt := min l.count (2 ^ l.cntW - 1)
  let k := k.emitAt l.time l.src l.code (l.args + cnt * 2 ^ l.cntLo)
  let rest := k.evl.lims.filter (fun m => !m.is l.code l.src l.key)
  { k with evl := { k.evl with
      lims := rest ++ [{ l with ends := k.now + l.interval, count := 0, time := 0, args := 0 }] } }

/-- One more occurrence within the interval (R509 items 2 to 4). -/
def Lim.add (l : Lim) (t a n : Nat) : Lim :=
  if l.count = 0 then { l with count := n, time := t, args := a } else { l with count := l.count + n }

/-- An occurrence of a limited event: emitted at once with its count, or counted (R509). `n` occurrences, a count
field of `w` bits at `lo`, an interval of `iv` ns; `a` the other arguments. -/
def Core.emitLimN (k : Core) (src code key iv lo w n : Nat) (l : List (Nat × Nat × Nat)) : Core :=
  match k.evl.lims.find? (fun m => m.is code src key) with
  | none =>
    let k := k.emitAt k.tim.glob src code (args l + min n (2 ^ w - 1) * 2 ^ lo)
    { k with evl := { k.evl with lims := k.evl.lims ++
        [{ code := code, src := src, key := key, ends := k.now + iv, interval := iv, cntLo := lo, cntW := w }] } }
  | some m =>
    if k.now < m.ends then
      { k with evl := { k.evl with lims := k.evl.lims.map (fun x =>
          if x.is code src key then x.add k.tim.glob (args l) n else x) } }
    else if m.count = 0 then
      let k := k.emitAt k.tim.glob src code (args l + min n (2 ^ w - 1) * 2 ^ lo)
      { k with evl := { k.evl with lims := k.evl.lims.map (fun x =>
          if x.is code src key then { x with ends := k.now + iv } else x) } }
    else
      let k := k.flushLim m
      { k with evl := { k.evl with lims := k.evl.lims.map (fun x =>
          if x.is code src key then x.add k.tim.glob (args l) n else x) } }

/-- One occurrence, interval 1 ms. -/
def Core.emitLim (k : Core) (src code key lo w : Nat) (l : List (Nat × Nat × Nat)) : Core :=
  k.emitLimN src code key 1000000 lo w 1 l

/-! ### Functions (R434 to R436) -/

/-- Where a function's state is kept. -/
def FnId.code : FnId → Nat
  | .ofl n => n
  | .router => 32
  | .timeXfer => 33
  | .hbc => 34
  | .pool p => 64 + p
  | .linePort n => 128 + n
  | .group g => 160 + g
  | .segment g => 192 + g
  | .flow f => 0x10000 + f
  | .ctx x => 0x20000 + x

def Core.fn (k : Core) (i : FnId) : Fn := k.fns.get {} i.code

def Core.fst (k : Core) (i : FnId) : FState := (k.fn i).fst

def Core.isOn (k : Core) (i : FnId) : Bool := (k.fst i) == .on

def Core.isOff (k : Core) (i : FnId) : Bool := (k.fst i) == .off

def Core.setFn (k : Core) (i : FnId) (f : Fn) : Core := { k with fns := k.fns.set {} i.code f }

def Core.phase (k : Core) (x : Nat) : Nat := (k.cle.runs.get {} x).phase

def Core.putPhase (k : Core) (x ph : Nat) : Core :=
  { k with cle := { k.cle with runs := k.cle.runs.upd {} x (fun r => { r with phase := ph }) } }

/-- COLL_STATE (05_collectives R156). -/
def Core.ctxEvent (k : Core) (x n ph o oph st : Nat) : Core :=
  k.emit 0x2110 0x0400 [(107, 96, x), (95, 93, n), (92, 90, ph), (89, 87, o), (86, 84, oph), (7, 0, st)]

/-- The event a change of state logs, where the function's chapter gives one: FLOW_STATE (R117), COLL_STATE (R156),
POOL_STATE (R224), PORT_STATE and GROUP_STATE (R332), SEG_STATE (R299). -/
def Core.fnEvent (k : Core) (i : FnId) (o n : FState) (st : Nat) : Core :=
  match i with
  | .flow f => k.emit 0x1800 0x0300 [(107, 94, f), (93, 91, n.code), (90, 88, o.code), (7, 0, st)]
  | .ctx x =>
    let ph := k.phase x
    (k.putPhase x (ctxPhase n ph)).ctxEvent x n.code (ctxPhase n ph) o.code ph st
  | .pool p => k.emit (0x3000 + p) 0x0600 [(93, 91, n.code), (90, 88, o.code), (7, 0, st)]
  | .linePort p => k.emit (0x5000 + p) 0x0A01 [(93, 91, n.code), (90, 88, o.code), (7, 0, st)]
  | .group g => k.emit (0x5010 + g) 0x0A02 [(107, 105, g), (93, 91, n.code), (90, 88, o.code), (7, 0, st)]
  | .segment g => k.emit 0x6802 0x0D02
      [(107, 102, g), (101, 99, n.code), (98, 96, o.code), (95, 64, (k.ttx.segs.get {} g).cycle), (7, 0, st)]
  | _ => k

/-- A change of state, with its event and the time it came. -/
def Core.setFst (k : Core) (i : FnId) (n : FState) (st : Nat) : Core :=
  let f := k.fn i
  (k.setFn i { f with fst := n, since := k.now }).fnEvent i f.fst n st

/-- The status of the last command of the function. -/
def Core.fnLast (k : Core) (i : FnId) (st : Nat) : Core := k.setFn i { k.fn i with last := st }

/-- OFF to STARTING, the checks of the owning chapter, then `start`, or back to OFF with the failing status. -/
def Core.fnStart (k : Core) (i : FnId) (check : Core → Nat) (start : Core → Core) : Core × Nat :=
  let k := k.setFst i .starting stOk
  if check k = stOk then (start k, stOk) else (k.setFst i .off (check k), check k)

/-- ENABLE (R434, R436). -/
def Core.fnEnable (k : Core) (i : FnId) (check : Core → Nat) (start : Core → Core) : Core × Nat :=
  match k.fst i with
  | .off => k.fnStart i check start
  | .starting => (k, stBusy)
  | .on => (k, stOk)
  | .draining =>
    if (k.fn i).pend then (k, stPend) else (k.setFn i { k.fn i with pend := true }, stOk)
  | .faulted => (k, stBusy)

/-- DISABLE (R434, R436); `drain` is what entering DRAINING does, `clear` what leaving FAULTED does. -/
def Core.fnDisable (k : Core) (i : FnId) (drain clear : Core → Core) : Core × Nat :=
  match k.fst i with
  | .off => (k, stOk)
  | .starting => (k, stBusy)
  | .on => (drain (k.setFst i .draining stOk), stOk)
  | .draining =>
    if (k.fn i).pend then (k.setFn i { k.fn i with pend := false }, stOk) else (k, stPend)
  | .faulted => (clear (k.setFst i .off stOk), stOk)

/-- A drain that completes, or reaches its limit: OFF, and a fresh start when PEND_EN stands, whose checks' status is then
the function's last (R434, R436). -/
def Core.fnDrained (k : Core) (i : FnId) (st : Nat) (check : Core → Nat) (start : Core → Core) : Core :=
  if k.fst i = .draining then
    let p := (k.fn i).pend
    let k := k.setFst i .off st
    let k := k.setFn i { k.fn i with pend := false }
    if p then (let r := k.fnStart i check start; r.1.fnLast i r.2) else k
  else k

/-- A fault: FAULTED, PEND_EN cleared (R434). -/
def Core.fnFault (k : Core) (i : FnId) (st : Nat) : Core :=
  match k.fst i with
  | .off => k
  | .faulted => k
  | _ => let k := k.setFst i .faulted st
         k.setFn i { k.fn i with pend := false }

/-! ### Memory bytes and poison (07_buffers_memory R196, R199, R214) -/

/-- Where HBM begins among the memory addresses of the model: below lies SRAM. -/
abbrev hbmBase : Nat := 2 ^ 38

/-- The canonical form of the memory: addresses strictly rising, no entry equal to 0, which an unlisted byte reads as. -/
def Memory.wf (m : SMap Byte) : Bool := m.wf (fun _ => 0)

def Core.mrd (k : Core) (a : Nat) : Nat → List Byte
  | 0 => []
  | n + 1 => k.mem.get 0 a :: k.mrd (a + 1) n

/-- Bytes written from an address on. -/
def memPut (m : SMap Byte) (a : Nat) : List Byte → SMap Byte
  | [] => m
  | b :: l => memPut (m.set 0 a b) (a + 1) l

/-- Bytes of a memory word: SRAM is protected over 8 B, HBM over 32 B (R213). -/
def memWord (a : Nat) : Nat := if a < hbmBase then 8 else 32

/-- The words that [a, a + n) touches, each by its first byte. -/
def memWords (a n : Nat) : List Nat :=
  let w := memWord a
  (List.range ((a % w + n + w - 1) / w)).map (fun i => a - a % w + w * i)

/-- Is any word of [a, a + n) poisoned? -/
def Core.psnIn (k : Core) (a n : Nat) : Bool := (memWords a n).any (fun w => k.psn.get false w)

/-- Poison the words of [a, a + n), or clear them. -/
def Core.setPsn (k : Core) (a n : Nat) (b : Bool) : Core :=
  { k with psn := (memWords a n).foldl (fun (m : SMap Bool) w => m.set false w b) k.psn }

/-- Data written: its words are no longer poisoned (R214); the last one counts as written whole. -/
def Core.mwr (k : Core) (a : Nat) (l : List Byte) : Core :=
  ({ k with mem := memPut k.mem a l } : Core).setPsn a l.length false

/-- The next free value's argument. -/
def Core.fresh (k : Core) : Core := { k with free := k.free + 1 }

/-! ### Choosing among requesters (01_architecture R24) -/

/-- The first index at or after the pointer, wrapping, that claims; indices below `n`. -/
def rrPick (n ptr : Nat) (claims : Nat → Bool) : Option Nat :=
  ((List.range n).map (fun i => (ptr + i) % n)).find? claims

/-! ### Window pairs (00_scope R10, R11) -/

/-- The status of a write or read through a window's DATA register, kept in LAST_ST of its ADDR register; a record's
access leaves it as it stands (15_boot_config R417). -/
def Core.winSt (k : Core) (win : Nat) (mg : Bool) (st : Nat) : Core := if mg then k.wrf win 31 24 st else k

/-- WORD advances by 1. -/
def Core.winAdv (k : Core) (win : Nat) : Core := k.wrf win 23 0 (k.fd win 23 0 + 1)

/-- A write to the DATA register of window `win` over a table of `words` words; `f` writes one word of the table. -/
def Core.winWrite (k : Core) (win words : Nat) (mg : Bool) (f : Core → Nat → Nat → Core × Nat) (v : Nat) :
    Core × Nat :=
  let w := k.fd win 23 0
  if words ≤ w then (k.winSt win mg stRange, stRange)
  else
    let r := f k w v
    let k' := r.1.winSt win mg r.2
    (if isBusySt r.2 then k' else k'.winAdv win, r.2)

/-- A table word written as it is, reserved bits (outside `mask`) 0. -/
def tblPlain (win mask : Nat) (k : Core) (w v : Nat) : Core × Nat := (k.tbw win w (v &&& mask), stOk)

/-- A read-only table: a write has no effect and reports ST_RANGE. -/
def tblRo (k : Core) (_w _v : Nat) : Core × Nat := (k, stRange)

/-! ### The whole machine -/

/-- While the log is not running, records go to Marigold's store only, which keeps the last 64 (R451, R454). -/
def State.drainEvents (s : State) : State :=
  if s.core.evl.running then s
  else
    { s with
      core := { s.core with evl := { s.core.evl with intake := [] } }
      aon := { s.aon with
        store := (s.aon.store ++ s.core.evl.intake).drop (s.aon.store.length + s.core.evl.intake.length - 64)
        storeNew := min 64 (s.aon.storeNew + s.core.evl.intake.length) } }

/-- Is ALERT_N driven low (16_management R448)? -/
def State.alertNow (s : State) : Bool :=
  s.aon.boot.phase == 2 || (s.core.rd Reg.MGT_ALERT_STAT &&& s.core.rd Reg.MGT_ALERT_EN) != 0

/-- ALERT_N follows its sources; each time it becomes asserted an enabled in-band interrupt is raised (R444). -/
def State.alertChk (s : State) : State :=
  let m := s.core.mgt
  if s.alertNow = m.alertLow then s
  else
    { s with core := { s.core with mgt := { m with
      alertLow := s.alertNow, ibiRaised := if s.alertNow && m.ibiEn then m.ibiRaised + 1 else m.ibiRaised } } }

/-- An event of Marigold's domain observed at `t`; a warm boot does not reset its source's sequence (R19). -/
def State.emitAAt (s : State) (t src code a : Nat) : State :=
  let n := s.aon.seqs.get 0 src
  let e : Event := { time := t, src := src, seq := n, code := code, sev := s.core.sev code, args := a }
  ({ s with core := s.core.intake e
            aon := { s.aon with seqs := s.aon.seqs.set 0 src ((n + 1) % 2 ^ 32) } } : State).drainEvents.alertChk

/-- The same, now. -/
def State.emitA (s : State) (src code : Nat) (l : List (Nat × Nat × Nat)) : State := s.emitAAt s.core.tim.glob src code (args l)

/-- A change of the units in service, once the capability table is filled, advances SUP_CAP_GEN and logs CAP_CHANGE
from the supervisor (R20). DESIGN CHOICE: the spec gives CAP_CHANGE no arguments and lists it in no table; the model sends
them as 0 (assumption log 19). -/
def State.capCheck (s : State) (old : Svc) : State :=
  if s.aon.capGen ≠ 0 ∧ s.core.svc ≠ old then
    ({ s with aon := { s.aon with capGen := (s.aon.capGen + 1) % 2 ^ 32 } } : State).emitA 0x0000
      (Config.freeEventCode 1).toNat []
  else s

/-- `ns` nanoseconds pass (R271, R276): the free-running count advances by them, global time by them times the frequency
correction (0.001 ppm), carried exactly, and Marigold's own count by them. -/
def Tim.advance (t : Tim) (ns : Nat) : Tim :=
  let add : Int := (ns : Int) * 65536 * (10 ^ 9 + t.freq) + t.frac
  { t with run := t.run + ns * 65536
           glob := (((t.glob : Int) + add / 10 ^ 9).toNat) % 2 ^ 80
           frac := add % 10 ^ 9 }

def State.tick (s : State) (ns : Nat) : State :=
  { s with core := { s.core with tim := s.core.tim.advance ns }
           aon := { s.aon with now := s.aon.now + ns } }

/-- A command that acts on the domains outside Marigold alone. -/
def State.onCore (s : State) (f : Core → Core) : State :=
  (({ s with core := f s.core } : State).drainEvents.alertChk).capCheck s.core.svc

/-- Do the blocks outside Marigold answer management (19_register_index R508)? Boot step 3 has completed in this start
and the core is powered. -/
def State.answers (s : State) : Bool :=
  (s.aon.boot.phase == 1 || decide (4 ≤ s.aon.boot.step)) && !bitAt s.aon.pwr.held 0 &&
  (s.aon.pwr.pst == .ramping || s.aon.pwr.pst == .on || s.aon.pwr.pst == .quiescing || s.aon.pwr.pst == .safe)

/-- A management write to a block outside Marigold whose status shows in bits [7:0] of register `stat`; no effect while
the block does not answer (R508). -/
def State.mgmt (s : State) (stat : Nat) (f : Core → Core × Nat) : State :=
  if s.answers then s.onCore (fun k => (f k).1.wrf stat 7 0 (f k).2) else s

/-- A management write through a window: its status shows in the window's ADDR register and, being a write to a register
of the block, in the block's `stat`. -/
def State.mgmtWin (s : State) (stat win words : Nat) (f : Core → Nat → Nat → Core × Nat) (v : Nat) : State :=
  s.mgmt stat (fun k => k.winWrite win words true f v)

end Sys2Proof.Machine
end

