-- ==== Sys2Proof/Machine/Arith.lean ====
section
/-!
DEFINITION. Number formats and exact accumulation (02_arithmetic R27 to R49): decoding to exact values, the window
grid, the 61-bit checksum, the one final rounding, MX blocks, and MAX and MIN. Pure functions.
-/

namespace Sys2Proof.Machine

/-! ### Formats (R27) -/

/-- A scalar element format: bits, exponent bits, mantissa bits, bias, and which encodings are not finite: 0 none,
1 IEEE infinities and NaNs, 2 S.1111.111 only, 3 an integer of that many bits. -/
structure EFmt where
  bits : Nat
  ebits : Nat
  mbits : Nat
  bias : Nat
  style : Nat
deriving DecidableEq, Repr

def eFp32 : EFmt := ⟨32, 8, 23, 127, 1⟩
def eBf16 : EFmt := ⟨16, 8, 7, 127, 1⟩
def eFp16 : EFmt := ⟨16, 5, 10, 15, 1⟩
def eE4m3 : EFmt := ⟨8, 4, 3, 7, 2⟩
def eE5m2 : EFmt := ⟨8, 5, 2, 15, 1⟩
def eE3m2 : EFmt := ⟨6, 3, 2, 3, 0⟩
def eE2m3 : EFmt := ⟨6, 2, 3, 1, 0⟩
def eE2m1 : EFmt := ⟨4, 2, 1, 1, 0⟩
def eInt8 : EFmt := ⟨8, 0, 0, 0, 3⟩
def eInt32 : EFmt := ⟨32, 0, 0, 0, 3⟩

/-- A format code: its element format, whether MX, and emax of R39. -/
def fmtOf (code : Nat) : Option (EFmt × Bool × Nat) :=
  match code with
  | 0x00 => some (eFp32, false, 0)
  | 0x01 => some (eBf16, false, 0)
  | 0x02 => some (eFp16, false, 0)
  | 0x03 => some (eE4m3, false, 0)
  | 0x04 => some (eE5m2, false, 0)
  | 0x08 => some (eE4m3, true, 8)
  | 0x09 => some (eE5m2, true, 15)
  | 0x0A => some (eE3m2, true, 4)
  | 0x0B => some (eE2m3, true, 2)
  | 0x0C => some (eE2m1, true, 2)
  | 0x0D => some (eInt8, true, 0)
  | 0x10 => some (eInt8, false, 0)
  | 0x11 => some (eInt32, false, 0)
  | _ => none

def fmtOk (code : Nat) : Bool := (fmtOf code).isSome

def isMx (code : Nat) : Bool :=
  match fmtOf code with
  | some (_, b, _) => b
  | none => false

/-- Bytes of `n` elements in a format (05_collectives R124): MX blocks of 32 elements with one scale byte each. -/
def fmtBytes (code n : Nat) : Nat :=
  match fmtOf code with
  | some (f, true, _) => ((n + 31) / 32) * (1 + 4 * f.bits)
  | some (f, false, _) => n * f.bits / 8
  | none => 0

/-! ### Decoding (R28, R29) -/

/-- A floating-point encoding, its exponent shifted by `sh` (the shared scale). -/
def decodeFp (f : EFmt) (sh : Int) (v : Nat) : Elem :=
  let s := v.testBit (f.bits - 1)
  let e := fld v (f.bits - 2) f.mbits
  let m := if f.mbits = 0 then 0 else fld v (f.mbits - 1) 0
  if f.style = 1 ∧ e = 2 ^ f.ebits - 1 then (if m = 0 then .inf s else .nan)
  else if f.style = 2 ∧ e = 2 ^ f.ebits - 1 ∧ m = 2 ^ f.mbits - 1 then .nan
  else if e = 0 then .fin s m (1 - (f.bias : Int) - f.mbits + sh)
  else .fin s (2 ^ f.mbits + m) ((e : Int) - f.bias - f.mbits + sh)

/-- An integer encoding scaled by 2^sh. -/
def decodeInt (f : EFmt) (sh : Int) (v : Nat) : Elem :=
  let i := signed f.bits v
  .fin (decide (i < 0)) i.natAbs sh

def decodeScalar (f : EFmt) (v : Nat) : Elem := if f.style = 3 then decodeInt f 0 v else decodeFp f 0 v

/-- An element of an MX block with shared scale `x` (R28): MXINT8 elements are in units of 2^-6. -/
def decodeMx (f : EFmt) (x v : Nat) : Elem :=
  if x = 255 then .nan
  else if f.style = 3 then decodeInt f ((x : Int) - 133) v
  else decodeFp f ((x : Int) - 127) v

/-- Element `i` of a packed block body of elements of `b` bits, element 0 in the most significant bits of the first
byte (06_compression R160). -/
def packedElem (b : Nat) (body : List Byte) (i : Nat) : Nat := fld (beNat body) (32 * b - 1 - b * i) (32 * b - b - b * i)

def decodeMxBlock (f : EFmt) (blk : List Byte) : List Elem :=
  let body := padTo (4 * f.bits) (blk.drop 1)
  (List.range 32).map (fun i => decodeMx f (byteAt blk 0) (packedElem f.bits body i))

/-- A string cut into pieces of `z` bytes. -/
def chop (z : Nat) : Nat → List Byte → List (List Byte)
  | 0, _ => []
  | n + 1, l => l.take z :: chop z n (l.drop z)

/-- The first `n` elements of a contribution in a format. -/
def decodeElems (code n : Nat) (data : List Byte) : List Elem :=
  match fmtOf code with
  | some (f, true, _) => (((chop (1 + 4 * f.bits) ((n + 31) / 32) data).map (decodeMxBlock f)).flatten).take n
  | some (f, false, _) => (chop (f.bits / 8) n data).map (fun b => decodeScalar f (leNat b))
  | none => []

/-! ### The window (R32, R33, R35) -/

/-- Grid integer of an exact value at window base `wb`: truncation toward zero (R32). -/
def gridInt (wb : Int) (neg : Bool) (m : Nat) (q : Int) : Int :=
  let d := q - wb
  let mag := if 0 ≤ d then m <<< d.toNat else m >>> (-d).toNat
  if neg then -(mag : Int) else mag

/-- What an element does under SUM: its grid integer, or nothing where it is non-finite, poisoned or out of the window
(R35, R49). -/
def addend (wb : Int) : Elem → Option Int
  | .fin s m q => let a := gridInt wb s m q
                  if a.natAbs < 2 ^ 191 then some a else none
  | _ => none

def Elem.overflows (wb : Int) : Elem → Bool
  | .fin s m q => decide (2 ^ 191 ≤ (gridInt wb s m q).natAbs)
  | _ => false

def Elem.nonfinite : Elem → Bool
  | .inf _ => true
  | .nan => true
  | _ => false

/-- A floating-point or MX contribution at an ISUM collective is refused element by element (R40). -/
def isumForeign (op code : Nat) : Bool := op == 3 && code != 0x10 && code != 0x11

/-- The checksum prime 2^61 - 1 (R43). -/
abbrev ckP : Nat := 2 ^ 61 - 1

/-- The checksum of values in element order, 0 for an addend that does not enter (R43). -/
def checksum (l : List Int) : Nat :=
  ((l.zipIdx.map (fun x => ((x.2 : Int) + 1) * (x.1 % (ckP : Int)))).sum % (ckP : Int)).toNat

def contribSum (wb : Int) (l : List Elem) : Nat := checksum (l.map (fun e => (addend wb e).getD 0))

/-- An accumulator of 200 bits as an integer (R33). -/
def accInt (a : BitVec 200) : Int := a.toInt

/-- Add (or subtract) a contribution's elements into the accumulators. -/
def accumulate (wb : Int) (sub : Bool) (acc : List (BitVec 200)) (l : List Elem) : List (BitVec 200) :=
  List.zipWith (fun a e => match addend wb e with
    | some i => if sub then a - BitVec.ofInt 200 i else a + BitVec.ofInt 200 i
    | none => a) acc l

/-- The same on the pats (1,024 elements each) that `pats` names; elements the stream does not carry add nothing. -/
def accumulateOn (wb : Int) (sub : Bool) (pats : Nat → Bool) (acc : List (BitVec 200)) (l : List Elem) : List (BitVec 200) :=
  let e := l ++ List.replicate (acc.length - l.length) (.fin false 0 0)
  List.zipWith (fun (a : BitVec 200 × Bool) (z : BitVec 200) => if a.2 then z else a.1)
    (acc.zipIdx.map (fun a => (a.1, pats (a.2 / 1024)))) (accumulate wb sub acc e)

/-- Elements that `n` bytes of a format hold. -/
def fmtElems (code n : Nat) : Nat :=
  match fmtOf code with
  | some (f, true, _) => 32 * (n / (1 + 4 * f.bits))
  | some (f, false, _) => n / (f.bits / 8)
  | none => 0

/-! ### The final rounding (R36 to R38) -/

/-- floor(log2(n / d)) of a positive rational. -/
def log2Rat (n d : Nat) : Int :=
  let l := (n.log2 : Int) - d.log2
  -- 2^l <= n/d unless n/d lies below it
  let ge := fun (l : Int) => if 0 ≤ l then decide (d * 2 ^ l.toNat ≤ n) else decide (d ≤ n * 2 ^ (-l).toNat)
  if ge (l + 1) then l + 1 else if ge l then l else l - 1

/-- n / d rounded to the nearest integer, ties to even. -/
def rne (n d : Nat) : Nat :=
  let q := n / d
  let r := n % d
  if 2 * r > d ∨ (2 * r = d ∧ q % 2 = 1) then q + 1 else q

/-- The greatest finite encoding of a floating format, sign aside. -/
def EFmt.maxEnc (f : EFmt) : Nat :=
  if f.style = 1 then (2 ^ f.ebits - 1) * 2 ^ f.mbits - 1
  else if f.style = 2 then 2 ^ (f.ebits + f.mbits) - 2
  else 2 ^ (f.ebits + f.mbits) - 1

/-- |n / d| rounded once into a floating format: the encoding without sign, possibly beyond the greatest finite one. -/
def roundFp (f : EFmt) (n d : Nat) : Nat :=
  if n = 0 then 0
  else
    let emin : Int := 1 - (f.bias : Int)
    let e := max (log2Rat n d) emin
    let s := e - f.mbits          -- the quantum is 2^s
    let r := if 0 ≤ s then rne n (d * 2 ^ s.toNat) else rne (n * 2 ^ (-s).toNat) d
    (e + f.bias - 1).toNat * 2 ^ f.mbits + r

/-- A rounded element: its encoding, and whether it lay beyond the output range. -/
structure Rounded where
  enc : Nat
  beyond : Bool
deriving DecidableEq, Repr

/-- Sign and |n / d| to a scalar format (R36 to R38): beyond the range, the range end with the sign. -/
def roundScalar (f : EFmt) (neg : Bool) (n d : Nat) : Rounded :=
  if f.style = 3 then
    let r := rne n d
    let lim := if neg then 2 ^ (f.bits - 1) else 2 ^ (f.bits - 1) - 1
    let b := decide (lim < r)
    let v := if b then lim else r
    { enc := if neg then (2 ^ f.bits - v) % 2 ^ f.bits else v, beyond := b }
  else
    let r := roundFp f n d
    let b := decide (f.maxEnc < r)
    let v := if b then f.maxEnc else r
    { enc := (if neg then 2 ^ (f.bits - 1) else 0) + v, beyond := b }

/-- An infinity in a scalar format: itself where the format has one, else beyond the range (R41). -/
def roundInf (f : EFmt) (neg : Bool) : Rounded :=
  let s := if neg then 2 ^ (f.bits - 1) else 0
  if f.style = 1 then { enc := s + (2 ^ f.ebits - 1) * 2 ^ f.mbits, beyond := false }
  else if f.style = 3 then { enc := if neg then 2 ^ (f.bits - 1) else 2 ^ (f.bits - 1) - 1, beyond := true }
  else { enc := s + f.maxEnc, beyond := true }

/-- A value to be rounded: sign and |n / d|, or an infinity. -/
inductive RVal
  | num (neg : Bool) (n d : Nat)
  | inf (neg : Bool)
deriving DecidableEq, Repr

/-- m x 2^q / div. -/
def rval (neg : Bool) (m : Nat) (q : Int) (div : Nat) : RVal :=
  if 0 ≤ q then .num neg (m * 2 ^ q.toNat) div else .num neg m (div * 2 ^ (-q).toNat)

def roundVal (f : EFmt) : RVal → Rounded
  | .num s n d => roundScalar f s n d
  | .inf s => roundInf f s

/-! ### MX output blocks (R39) -/

/-- The shared scale of a block: 0 for an all-zero block, else floor(log2 amax) - emax + 127 within 0 to 254, with
whether it was clamped at 254. DESIGN CHOICE: an infinity that MAX or MIN selected, of which no amax can be taken, is left
out of it (assumption log 106). -/
def mxScale (emax : Nat) (l : List RVal) : Nat × Bool :=
  let best := l.foldl (fun (b : Option Int) v => match v with
    | .num _ n d => if n = 0 then b else
        let x := log2Rat n d
        match b with
        | none => some x
        | some y => some (max x y)
    | .inf _ => b) none
  match best with
  | none => (0, false)
  | some x =>
    let y := x - emax + 127
    if y < 0 then (0, false) else if 254 < y then (254, true) else (y.toNat, false)

/-- One element at scale 2^(x - 127), saturated to the format (R39 steps 3 to 5). -/
def mxElem (f : EFmt) (x : Nat) (clamped : Bool) (v : RVal) : Rounded :=
  match v with
  | .inf s => if f.style = 3 then { enc := if s then 256 - 127 else 127, beyond := true } else roundInf f s
  | .num s n d =>
    -- value / 2^(x - 127)
    let sh : Int := (x : Int) - 127
    let n' := if sh < 0 then n * 2 ^ (-sh).toNat else n
    let d' := if sh < 0 then d else d * 2 ^ sh.toNat
    if f.style = 3 then
      let r := rne (n' * 64) d'
      let b := decide (127 < r)
      let m := if b then 127 else r
      { enc := if s then (256 - m) % 256 else m, beyond := b && clamped }
    else
      let r := roundScalar f s n' d'
      { r with beyond := r.beyond && clamped }

/-- 32 elements of `b` bits packed into 4 x b bytes, element 0 most significant (06_compression R160). -/
def packElems (b : Nat) (l : List Nat) : List Byte := beBytes (4 * b) (l.foldl (fun a x => a * 2 ^ b + x) 0)

/-- A block of 32 values; a short block is filled with zeros. -/
def encodeMxBlock (f : EFmt) (emax : Nat) (l : List RVal) : List Byte × List Rounded :=
  let l := l ++ List.replicate (32 - l.length) (.num false 0 1)
  let (x, c) := mxScale emax l
  let r := l.map (mxElem f x c)
  (byte x :: packElems f.bits (r.map Rounded.enc), r)

/-- Values into pieces of 32. -/
def chopV : Nat → List RVal → List (List RVal)
  | 0, _ => []
  | n + 1, l => l.take 32 :: chopV n (l.drop 32)

/-- A run of values in a format: the bytes, and each element's rounding. -/
def encodeElems (code : Nat) (l : List RVal) : List Byte × List Rounded :=
  match fmtOf code with
  | some (f, true, emax) =>
    let r := (chopV ((l.length + 31) / 32) l).map (encodeMxBlock f emax)
    ((r.map Prod.fst).flatten, ((r.map Prod.snd).flatten).take l.length)
  | some (f, false, _) =>
    let r := l.map (roundVal f)
    ((r.map (fun x => leBytes (f.bits / 8) x.enc)).flatten, r)
  | none => ([], [])

/-! ### MAX and MIN (R41) -/

/-- The place of an exact value in the order of R41: a sign-aware comparison, -0 below +0, infinities outermost. -/
def Elem.lt (a b : Elem) : Bool :=
  match a, b with
  | .inf s, .inf t => s && !t
  | .inf s, _ => s
  | _, .inf t => !t
  | .fin s m q, .fin t n r =>
    let lo := min q r
    let x := (m <<< (q - lo).toNat : Nat)
    let y := (n <<< (r - lo).toNat : Nat)
    if s && !t then true
    else if !s && t then false
    else if s then decide (y < x) else decide (x < y)
  | _, _ => false

/-- The selection of MAX or MIN over the contributions of one element; a NaN or a poisoned one takes no part. -/
def selectElem (isMax : Bool) (l : List Elem) : Option Elem :=
  l.foldl (fun b e => match e with
    | .nan => b
    | .poison => b
    | e => match b with
      | none => some e
      | some x => some (if isMax then (if x.lt e then e else x) else (if e.lt x then e else x))) none

def elemVal : Elem → RVal
  | .fin s m q => rval s m q 1
  | .inf s => .inf s
  | _ => .num false 0 1

/-! ### The arithmetic descriptor (R30, R31) -/

structure Arith where
  op : Nat
  outFail : Bool
  inFmt : Nat
  outFmt : Nat
  wbase : Int
  reserved : Nat
deriving DecidableEq, Repr

def arithOf (w : Nat) : Arith :=
  { op := fld w 31 29, outFail := bitAt w 28, inFmt := fld w 27 23, outFmt := fld w 22 18
    wbase := signed 12 (fld w 11 0), reserved := fld w 17 12 }

/-- R31. -/
def Arith.ok (a : Arith) : Bool :=
  let int := fun c => c == 0x10 || c == 0x11
  a.reserved == 0 && fmtOk a.inFmt && fmtOk a.outFmt &&
  (match a.op with
    | 0 => true
    | 1 => a.wbase == 0
    | 2 => a.wbase == 0
    | 3 => a.wbase == 0 && int a.inFmt && int a.outFmt
    | _ => false)

end Sys2Proof.Machine
end

