-- ==== Sys2Proof/Machine/Codec.lean ====
section
/-!
DEFINITION. The arithmetic and the codes of compression (06_compression): binary32 operations, quantization, rotation,
the press's products, Cholesky-QR, and lossless blocks with their tANS tables. Pure functions.
-/

namespace Sys2Proof.Machine

/-! ### Binary32 (R163, R170): values are encodings -/

abbrev f32Inf : Nat := 0x7F800000
abbrev f32Nan : Nat := 0x7FC00000

def f32Dec (v : Nat) : Elem := decodeFp eFp32 0 v

/-- Sign and |n / d| rounded to nearest, ties to even; beyond the range, an infinity. -/
def f32Enc (neg : Bool) (n d : Nat) : Nat := (if neg then 2 ^ 31 else 0) + min (roundFp eFp32 n d) f32Inf

/-- m x 2^q rounded. -/
def f32Of (neg : Bool) (m : Nat) (q : Int) : Nat :=
  if 0 ≤ q then f32Enc neg (m * 2 ^ q.toNat) 1 else f32Enc neg m (2 ^ (-q).toNat)

def Elem.neg : Elem → Elem
  | .fin s m q => .fin (!s) m q
  | .inf s => .inf (!s)
  | e => e

/-- An exact value, rounded once. -/
def Elem.f32 : Elem → Nat
  | .fin s m q => f32Of s m q
  | .inf s => (if s then 2 ^ 31 else 0) + f32Inf
  | _ => f32Nan

/-- The exact sum of two values, rounded once; the sign of an exact zero as IEEE 754 gives it. -/
def elemAdd (a b : Elem) : Nat :=
  match a, b with
  | .fin s m q, .fin t n r =>
    let lo := min q r
    let x : Int := ((m <<< (q - lo).toNat : Nat) : Int) * (if s then -1 else 1)
    let y : Int := ((n <<< (r - lo).toNat : Nat) : Int) * (if t then -1 else 1)
    let z := x + y
    if z = 0 then (if m = 0 ∧ n = 0 ∧ s = true ∧ t = true then 2 ^ 31 else 0)
    else f32Of (decide (z < 0)) z.natAbs lo
  | .inf s, .inf t => if s = t then (Elem.inf s).f32 else f32Nan
  | .inf s, .fin _ _ _ => (Elem.inf s).f32
  | .fin _ _ _, .inf t => (Elem.inf t).f32
  | _, _ => f32Nan

def f32Add (a b : Nat) : Nat := elemAdd (f32Dec a) (f32Dec b)

def f32Sub (a b : Nat) : Nat := elemAdd (f32Dec a) (f32Dec b).neg

def f32Mul (a b : Nat) : Nat :=
  match f32Dec a, f32Dec b with
  | .fin s m q, .fin t n r => f32Of (s != t) (m * n) (q + r)
  | .inf s, .inf t => (Elem.inf (s != t)).f32
  | .inf s, .fin t n _ => if n = 0 then f32Nan else (Elem.inf (s != t)).f32
  | .fin s m _, .inf t => if m = 0 then f32Nan else (Elem.inf (s != t)).f32
  | _, _ => f32Nan

def f32Div (a b : Nat) : Nat :=
  match f32Dec a, f32Dec b with
  | .fin s m q, .fin t n r =>
    if n = 0 then (if m = 0 then f32Nan else (Elem.inf (s != t)).f32)
    else
      let e := q - r
      if 0 ≤ e then f32Enc (s != t) (m * 2 ^ e.toNat) n else f32Enc (s != t) m (n * 2 ^ (-e).toNat)
  | .inf s, .fin t _ _ => (Elem.inf (s != t)).f32
  | .fin s _ _, .inf t => if s = t then 0 else 2 ^ 31
  | _, _ => f32Nan

/-- The integer square root of a number below 2^90, bit by bit. -/
def isqrt (n : Nat) : Nat :=
  (List.range 46).foldl (fun r i => if (r + 2 ^ (45 - i)) ^ 2 ≤ n then r + 2 ^ (45 - i) else r) 0

def f32Sqrt (a : Nat) : Nat :=
  match f32Dec a with
  | .fin s m q =>
    if m = 0 then a
    else if s then f32Nan
    else
      let m := if q % 2 = 0 then m else 2 * m
      let q := if q % 2 = 0 then q else q - 1
      let r := isqrt (m * 2 ^ 60)
      f32Of false (2 * r + (if r * r = m * 2 ^ 60 then 0 else 1)) (q / 2 - 31)
  | .inf false => f32Inf
  | _ => f32Nan

/-- a > b; false where either is a NaN. -/
def f32Gt (a b : Nat) : Bool :=
  match f32Dec a, f32Dec b with
  | .fin s m q, .fin t n r => !(m == 0 && n == 0) && (Elem.fin t n r).lt (.fin s m q)
  | .nan, _ => false
  | _, .nan => false
  | x, y => y.lt x

def f32Finite (a : Nat) : Bool :=
  match f32Dec a with
  | .fin _ _ _ => true
  | _ => false

/-- Rounded once to BF16 (R36): an infinity stays one, a NaN is 0x7FC0. -/
def toBf16 (e : Elem) : Nat :=
  match e with
  | .fin s m q => (match rval s m q 1 with
    | .num s n d => (roundScalar eBf16 s n d).enc
    | .inf _ => 0)
  | .inf s => (roundInf eBf16 s).enc
  | _ => 0x7FC0

/-- A binary32 value rounded to BF16, as binary32. -/
def f32ToBf (a : Nat) : Nat := toBf16 (f32Dec a) * 65536

/-! ### Quantization (R161) -/

/-- One block of 32 values to an MX format: the block, and whether it is non-finite. -/
def quantBlock (code : Nat) (v : List Elem) : List Byte × Bool :=
  match fmtOf code with
  | some (f, _, emax) =>
    if v.any Elem.nonfinite then (255 :: List.replicate (4 * f.bits) 0, true)
    else ((encodeMxBlock f emax (v.map elemVal)).1, false)
  | none => ([], false)

/-! ### Rotation (R166 to R169) -/

def mix64 (z : Nat) : Nat :=
  let z := ((z ^^^ (z >>> 30)) * 0xBF58476D1CE4E5B9) % 2 ^ 64
  let z := ((z ^^^ (z >>> 27)) * 0x94D049BB133111EB) % 2 ^ 64
  z ^^^ (z >>> 31)

/-- Is the sign of element `g` negative? -/
def signNeg (seed step g : Nat) : Bool :=
  let s := mix64 (seed ^^^ (step * 2 ^ 32 + step))
  (mix64 ((s + g / 64) % 2 ^ 64)).testBit (g % 64)

/-- One stage of the transform over pairs at distance 2^t. -/
def hadStage {α : Type} (add sub : α → α → α) (d : α) (l : List α) (t : Nat) : List α :=
  let a := l.toArray
  (List.range l.length).map (fun i =>
    if i / 2 ^ t % 2 = 0 then add (a.getD i d) (a.getD (i + 2 ^ t) d) else sub (a.getD (i - 2 ^ t) d) (a.getD i d))

def hadamard {α : Type} (add sub : α → α → α) (d : α) (l : List α) : List α :=
  (List.range 8).foldl (hadStage add sub d) l

def f32Neg (a : Nat) : Nat := a ^^^ 2 ^ 31

/-- Signs applied to a run of values that starts at element `g`. -/
def f32Signs (seed step g : Nat) (l : List Nat) : List Nat :=
  l.zipIdx.map (fun x => if signNeg seed step (g + x.2) then f32Neg x.1 else x.1)

/-- u = (1/16) H D v and its inverse, in binary32 (R168); 0x3D800000 is 2^-4. -/
def rotate256 (seed step g : Nat) (l : List Nat) : List Nat :=
  (hadamard f32Add f32Sub 0 (f32Signs seed step g l)).map (f32Mul 0x3D800000)

def unrotate256 (seed step g : Nat) (l : List Nat) : List Nat :=
  f32Signs seed step g ((hadamard f32Add f32Sub 0 l).map (f32Mul 0x3D800000))

/-- The exact inverse over accumulators (R169): B = D H A. -/
def unrotateExact (seed step g : Nat) (l : List Int) : List Int :=
  (hadamard (· + ·) (· - ·) 0 l).zipIdx.map (fun (x : Int × Nat) => if signNeg seed step (g + x.2) then -x.1 else x.1)

/-! ### The press's products (R170) -/

/-- Runs of at most 64. -/
def chop64 {α : Type} : Nat → List α → List (List α)
  | 0, _ => []
  | n + 1, l => if l.isEmpty then [] else l.take 64 :: chop64 n (l.drop 64)

/-- Products summed 64 at a time in increasing order, the partial sums added to the result in order. -/
def pressDot (acc : Nat) (prods : List Nat) : Nat :=
  (chop64 (prods.length / 64 + 1) prods).foldl (fun a run => f32Add a (run.foldl f32Add 0)) acc

/-- A block of G (BF16 as binary32) starting at element `g0`, times the other factor: with `tr` false P += G x Q, with
`tr` true Q += Gt x P. `n` columns of G, rank `r`. -/
def pressBlock (tr : Bool) (n r g0 : Nat) (g fac acc : List Nat) : List Nat :=
  let fa := fac.toArray
  let idx := g.zipIdx.map (fun x => ((g0 + x.2) / n, (g0 + x.2) % n, x.1))
  acc.zipIdx.map (fun a =>
    let row := a.2 / r
    let c := a.2 % r
    pressDot a.1 (idx.filterMap (fun e =>
      let (out, inn) := if tr then (e.2.1, e.1) else (e.1, e.2.1)
      if out = row then some (f32Mul e.2.2 (fa.getD (inn * r + c) 0)) else none)))

/-- The initial Q (R176): the signs of QINIT at step 0, as binary32. -/
def qInit (seed n r : Nat) : List Nat :=
  (List.range (n * r)).map (fun i => if signNeg seed 0 i then 0xBF800000 else 0x3F800000)

/-! ### Cholesky-QR (R175) -/

def f32Sum (l : List Nat) : Nat := l.foldl f32Add 0

/-- One column `j` of the factor: from the columns of l done so far (each of length r) and a; the column, and whether it
is dead. -/
def cholColumn (r j : Nat) (a : Nat → Nat → Nat) (cols : List (List Nat)) : List Nat × Bool :=
  let l := fun i k => (cols.getD k []).getD i 0
  let d := f32Sub (a j j) (f32Sum ((List.range j).map (fun k => f32Mul (l j k) (l j k))))
  if f32Gt d (f32Mul (a j j) 0x35800000) then
    let s := f32Sqrt d
    ((List.range r).map (fun i =>
      if i < j then 0 else if i = j then s
      else f32Div (f32Sub (a i j) (f32Sum ((List.range j).map (fun k => f32Mul (l i k) (l j k))))) s), false)
  else (List.replicate r 0, true)

/-- The columns of l with their dead flags. -/
def cholFactor (r : Nat) (a : Nat → Nat → Nat) : List (List Nat × Bool) :=
  (List.range r).foldl (fun cs j => cs ++ [cholColumn r j a (cs.map Prod.fst)]) []

/-- Orthonormalized rows of P (m x r, row-major), and the number of columns zeroed. -/
def cholQr (r : Nat) (p : List Nat) : List Nat × Nat :=
  if p.all f32Finite then
    let rows := (chopN r (p.length / r) p)
    let a := fun (j k : Nat) =>
      let (j, k) := if k ≤ j then (j, k) else (k, j)
      f32Sum (rows.map (fun x => f32Mul (x.getD j 0) (x.getD k 0)))
    let tab := (List.range r).map (fun j => (List.range r).map (fun k => a j k))
    let cs := cholFactor r (fun j k => (tab.getD j []).getD k 0)
    let l := fun i k => ((cs.getD k ([], true)).1).getD i 0
    let dead := fun j => (cs.getD j ([], true)).2
    let solve := fun (x : List Nat) =>
      (List.range r).foldl (fun y j =>
        y ++ [if dead j then 0 else
          f32Div (f32Sub (x.getD j 0) (f32Sum ((List.range j).map (fun k => f32Mul (y.getD k 0) (l j k))))) (l j j)]) []
    ((rows.map solve).flatten, (cs.filter Prod.snd).length)
  else (List.replicate p.length 0, r)
where
  chopN (z : Nat) : Nat → List Nat → List (List Nat)
    | 0, _ => []
    | n + 1, l => l.take z :: chopN z n (l.drop z)

/-! ### tANS tables (R181) -/

structure Tans where
  sym : Array Nat
  nb : Array Nat
  base : Array Nat
  occ : Array (Array Nat)     -- the states of each symbol, ascending
deriving DecidableEq, Repr

def tansOf (c : List Nat) : Tans :=
  let sp := (c.zipIdx).foldl (fun (a : Array Nat × Nat) x =>
    (List.range x.1).foldl (fun (a : Array Nat × Nat) _ => (a.1.setIfInBounds a.2 x.2, (a.2 + 1283) % 2048)) a)
    (Array.replicate 2048 0, 0)
  let sym := sp.1
  let z := (List.range 2048).foldl (fun (a : Array Nat × Array Nat × Array Nat × Array (Array Nat)) x =>
    let s := sym.getD x 0
    let u := a.1.getD s 0
    let nb := 11 - u.log2
    (a.1.setIfInBounds s (u + 1), a.2.1.push nb, a.2.2.1.push (u * 2 ^ nb - 2048),
      a.2.2.2.setIfInBounds s ((a.2.2.2.getD s #[]).push x)))
    (c.toArray, #[], #[], Array.replicate 256 #[])
  { sym := sym, nb := z.2.1, base := z.2.2.1, occ := z.2.2.2 }

/-- Bits of a string, most significant first. -/
def bitsOfBytes (l : List Byte) : List Bool :=
  (l.map (fun b => [7, 6, 5, 4, 3, 2, 1, 0].map (fun i => b.getLsbD i))).flatten

def bitsToNat (l : List Bool) : Nat := l.foldl (fun a b => 2 * a + b.toNat) 0

/-- Bits packed into bytes, zero-padded. -/
def bytesOfBits : Nat → List Bool → List Byte
  | 0, _ => []
  | n + 1, l =>
    if l.isEmpty then [] else byte (bitsToNat ((l.take 8) ++ List.replicate (8 - (l.take 8).length) false)) ::
      bytesOfBits n (l.drop 8)

/-- `w` bits of a number, most significant first. -/
def natBits (w v : Nat) : List Bool := (List.range w).map (fun i => v.testBit (w - 1 - i))

/-- Decode symbol `i` of `nnz` and on: lanes by index, stream bits; none when the stream ends early. -/
def tansDecode (t : Tans) (nnz : Nat) : Nat → Nat → Array Nat → List Bool → List Nat → Option (List Nat × List Bool)
  | 0, _, _, bits, out => some (out.reverse, bits)
  | n + 1, i, lanes, bits, out =>
    let x := lanes.getD (i % 64) 0
    let out := t.sym.getD x 0 :: out
    if i + 64 < nnz then
      let w := t.nb.getD x 0
      if bits.length < w then none
      else tansDecode t nnz n (i + 1) (lanes.setIfInBounds (i % 64) (t.base.getD x 0 + bitsToNat (bits.take w)))
        (bits.drop w) out
    else tansDecode t nnz n (i + 1) lanes bits out

/-- Encode symbols, last first: the lanes' states, and the stream bits so far. `pick l` chooses the final state of lane
`l` among those of its last symbol. -/
def tansEncode (t : Tans) (c : List Nat) (pick : Nat → Nat) (nnz : Nat) :
    List (Nat × Nat) → Array Nat → List Bool → Array Nat × List Bool
  | [], lanes, bits => (lanes, bits)
  | (s, i) :: rest, lanes, bits =>
    let o := t.occ.getD s #[]
    if nnz ≤ i + 64 then
      tansEncode t c pick nnz rest (lanes.setIfInBounds (i % 64) (o.getD (pick (i % 64) % o.size) 0)) bits
    else
      let y := lanes.getD (i % 64) 0 + 2048
      let cs := c.getD s 1
      -- the one shift that brings y into [c, 2c)
      let w := ((List.range 12).find? (fun w => decide (cs ≤ y / 2 ^ w ∧ y / 2 ^ w < 2 * cs))).getD 0
      let x := o.getD (y / 2 ^ w - cs) 0
      tansEncode t c pick nnz rest (lanes.setIfInBounds (i % 64) x) (natBits w (y % 2 ^ w) ++ bits)

/-! ### Lossless blocks (R178 to R183) -/

/-- Bytes of an element of an ECLASS. -/
def eclassSize (e : Nat) : Nat := if e = 0 then 4 else 2

/-- The ECLASS a format code belongs to, if any (R158). -/
def eclassOf (fmt : Nat) : Option Nat :=
  match fmt with
  | 0 => some 0
  | 1 => some 1
  | 2 => some 2
  | _ => none

def lsHeader (mode ecl gen len rawLen nnz stream : Nat) : List Byte :=
  [byte (mode * 64 + ecl * 16 + gen), 0] ++ beBytes 2 len ++ beBytes 2 rawLen ++ beBytes 2 nnz ++ beBytes 2 stream ++
    List.replicate 6 0

def pad16 (l : List Byte) : List Byte := l ++ List.replicate ((16 - l.length % 16) % 16) 0

def rawBlock (ecl : Nat) (d : List Byte) : List Byte :=
  let b := pad16 d
  lsHeader 0 ecl 0 (16 + b.length) d.length 0 0 ++ b

def lsElems (ecl : Nat) (d : List Byte) : List Nat :=
  (chop (eclassSize ecl) (d.length / eclassSize ecl) d).map leNat

/-- How a block was sent: coded or zero, raw under the 7/8 rule, raw for a symbol of count 0, raw as a short block. -/
inductive LsHow | coded | zero | big | nosym | short
deriving DecidableEq, Repr

/-- Code one block with counts `c` of generation `gen` (R180 to R182). -/
def lsEncode (c : List Nat) (ecl gen : Nat) (pick : Nat → Nat) (d : List Byte) : List Byte × LsHow :=
  if d.length < 4096 then (rawBlock ecl d, .short)
  else if d.all (· == 0) then (lsHeader 2 ecl 0 16 d.length 0 0, .zero)
  else
    let w := 8 * eclassSize ecl
    let es := lsElems ecl d
    let nz := es.filter (· != 0)
    let syms := nz.map (fun v => fld v (w - 2) (w - 9))
    if syms.any (fun s => c.getD s 0 == 0) then (rawBlock ecl d, .nosym)
    else
      let t := tansOf c
      let r := tansEncode t c pick nz.length (syms.zipIdx.reverse)
        ((List.range 64).map (fun l => pick l % 2048)).toArray []
      let stream := bytesOfBits (r.2.length + 1) r.2
      let res := (nz.map (fun v => (v.testBit (w - 1)) :: natBits (w - 9) (fld v (w - 10) 0))).flatten
      let body := (r.1.toList.map (beBytes 2)).flatten ++ bytesOfBits (es.length + 1) (es.map (· != 0)) ++ stream ++
        bytesOfBits (res.length + 1) res
      let b := pad16 body
      if 3584 < 16 + b.length then (rawBlock ecl d, .big)
      else (lsHeader 1 ecl gen (16 + b.length) d.length nz.length stream.length ++ b, .coded)

def lsMode (b : List Byte) : Nat := byteAt b 0 / 64
def lsEclass (b : List Byte) : Nat := byteAt b 0 / 16 % 4
def lsGen (b : List Byte) : Nat := byteAt b 0 % 16
def lsLen (b : List Byte) : Nat := beNat (slice b 2 2)
def lsRawLen (b : List Byte) : Nat := beNat (slice b 4 2)

/-- Merge decoded nonzero elements with the bitmap. -/
def lsMerge (z : Nat) : List Bool → List Nat → List Byte
  | [], _ => []
  | true :: m, v :: l => leBytes z v ++ lsMerge z m l
  | _ :: m, l => List.replicate z 0 ++ lsMerge z m l

/-- Decode a MODE 1 block with counts `c`; none where R183 refuses it. -/
def lsDecodeCoded (c : List Nat) (b : List Byte) : Option (List Byte) :=
  let z := eclassSize (lsEclass b)
  let w := 8 * z
  let e := 4096 / z
  let nnz := beNat (slice b 6 2)
  let sl := beNat (slice b 8 2)
  let map := bitsOfBytes (slice b 144 (e / 8))
  let off := 144 + e / 8
  let rb := (nnz * (w - 8) + 7) / 8
  let pad := lsLen b - (off + sl + rb)
  let lanes := ((List.range 64).map (fun l => beNat (slice b (16 + 2 * l) 2) % 2048)).toArray
  if (map.filter id).length ≠ nnz ∨ lsLen b < off + sl + rb ∨ 15 < pad then none
  else match tansDecode (tansOf c) nnz nnz 0 lanes (bitsOfBytes (slice b off sl)) [] with
    | none => none
    | some (syms, left) =>
      let res := bitsOfBytes (slice b (off + sl) rb)
      let tail := res.drop (nnz * (w - 8))
      if 7 < left.length ∨ left.any id ∨ tail.any id ∨ (slice b (off + sl + rb) pad).any (· != 0) then none
      else
        let vals := syms.zipIdx.map (fun s =>
          let rs := (res.drop (s.2 * (w - 8))).take (w - 8)
          (rs.headD false).toNat * 2 ^ (w - 1) + s.1 * 2 ^ (w - 9) + bitsToNat (rs.drop 1))
        some (lsMerge z map vals)

/-- Blocks of 4,096 B. -/
def cutBlocks : Nat → List Byte → List (List Byte)
  | 0, _ => []
  | n + 1, d => if d.isEmpty then [] else d.take 4096 :: cutBlocks n (d.drop 4096)

def rawBlocks (d : List Byte) : List (List Byte) := cutBlocks (d.length / 4096 + 1) d

/-- A segment from its coded blocks (R178). -/
def lsSegment (blocks : List (List Byte)) : List Byte :=
  let offs := (blocks.foldl (fun (a : List Nat × Nat) b => (a.1 ++ [a.2], a.2 + b.length)) ([], 0)).1
  let offs := offs ++ List.replicate (256 - offs.length) 0xFFFFFF
  (offs.map (beBytes 3)).flatten ++ blocks.flatten

/-- The offset of block `b` in a segment's index table. -/
def lsOffset (seg : List Byte) (b : Nat) : Nat := beNat (slice seg (3 * b) 3)

/-- The blocks of a segment. -/
def lsBlocks (seg : List Byte) : List (List Byte) :=
  ((List.range 256).filter (fun b => b == 0 || lsOffset seg b != 0xFFFFFF)).map (fun b =>
    let t := seg.drop (768 + lsOffset seg b)
    t.take (lsLen t))

end Sys2Proof.Machine
end

