-- ==== Sys2Proof/Machine/Gcm.lean ====
section
/-!
DEFINITION. The cryptography the spec names by standard: AES-256 and GCM (08_cipher R225: NIST SP 800-38D), the key
wrap of RFC 3394 (R229), SHA-384 and the ECDSA P-384 verification of an image (15_boot_config R413). Pure functions;
the standards' constants are PRESUMED from them (assumption log 13).
-/

namespace Sys2Proof.Machine

/-! ### AES-256: a block is a number, its first byte the most significant -/

/-- The S-box: entry x in bits 8x + 7 to 8x. -/
def aesTable : Nat :=
  0x75B227EBE28012079A059618C323C7041531D871F1E5A534CCF73F362693FDB7C072A49CAFA2D4ADF04759FA7DC982CA76ABD7FE2B670130C56F6BF27B777C63 +
  0xD2F3FF1021DAB6BCF5389D928F40A351A89F3C507F02F94585334D43FBAAEFD0CF584C4A39BECB6A5BB1FC20ED00D153842FE329B3D63B52A05A6E1B1A2C8309 * 2 ^ 512 +
  0x08AE7A65EAF4566CA94ED58D6D37C8E779E4959162ACD3C25C2406490A3A32E0DB0B5EDE14B8EE4688902A22DC4F816073195D643D7EA7C41744975FEC130CCD * 2 ^ 1024 +
  0x16BB54B00F2D99416842E6BF0D89A18CDF2855CEE9871E9B948ED9691198F8E19E1DC186B95735610EF6034866B53E708A8BBD4B1F74DDE8C6B4A61C2E2578BA * 2 ^ 1536

/-- The inverse S-box. -/
def aesInvTable : Nat :=
  0x25D18B6D49A25B76B224D92866A12E084EC3FA420B954CEE3D23C2A632947B54CBE9DEC444438E3487FF2F9B8239E37CFBD7F3819EA340BF38A53630D56A0952 +
  0x6B8A130103BDAFC1020F3FCA8F1E2CD00645B3B80558E4F70AD3BC8C00ABD890849D8DA75746155EDAB9EDFD5048706C92B6655DCC5CA4D41698688664F6F872 * 2 ^ 512 +
  0xF45ACD78FEC0DB9A2079D2C64B3E56FC1BBE18AA0E62B76F89C5291D711AF1476EDF751CE837F9E28535ADE72274AC9673E6B4F0CECFF297EADC674F4111913A * 2 ^ 1024 +
  0x7D0C2155631469E126D677BA7E042B17619953833CBBEBC8B0F52AAE4D3BE0A0EF9CC9939F7AE52D0D4AB519A97F51605FEC8027591012B131C7078833A8DD1F * 2 ^ 1536

def aesSub (x : Nat) : Nat := aesTable / 2 ^ (8 * x) % 256

def aesInvSub (x : Nat) : Nat := aesInvTable / 2 ^ (8 * x) % 256

/-- The last `n` bytes of `w`, each through `f`. -/
def aesBytes (f : Nat → Nat) : Nat → Nat → Nat
  | 0, _ => 0
  | n + 1, w => aesBytes f n (w / 256) * 256 + f (w % 256)

/-- The block whose bytes are bytes `l` of `w`. -/
def aesPick (l : List Nat) (w : Nat) : Nat := l.foldl (fun a i => a * 256 + w / 2 ^ (8 * (15 - i)) % 256) 0

/-- Row r of the state moves r columns to the left, or back. -/
def aesShift (w : Nat) : Nat := aesPick [0, 5, 10, 15, 4, 9, 14, 3, 8, 13, 2, 7, 12, 1, 6, 11] w
def aesUnshift (w : Nat) : Nat := aesPick [0, 13, 10, 7, 4, 1, 14, 11, 8, 5, 2, 15, 12, 9, 6, 3] w

/-- Every byte doubled in the field of x^8 + x^4 + x^3 + x + 1. -/
def aesDouble (w : Nat) : Nat :=
  (w &&& 0x7F7F7F7F7F7F7F7F7F7F7F7F7F7F7F7F) * 2 ^^^ (w / 128 &&& 0x01010101010101010101010101010101) * 0x1B

/-- Every column of four bytes moved one byte up. -/
def aesUp (w : Nat) : Nat :=
  (w &&& 0x00FFFFFF00FFFFFF00FFFFFF00FFFFFF) * 256 ^^^ (w / 2 ^ 24 &&& 0x000000FF000000FF000000FF000000FF)

/-- Each column times {02, 03, 01, 01}. -/
def aesMix (w : Nat) : Nat :=
  let a := aesUp w
  let b := aesUp a
  aesDouble w ^^^ aesDouble a ^^^ a ^^^ b ^^^ aesUp b

/-- Its inverse: times {0E, 0B, 0D, 09}. -/
def aesUnmix (w : Nat) : Nat := aesMix (w ^^^ aesDouble (aesDouble (w ^^^ aesUp (aesUp w))))

/-- Words `i` and on of the key schedule; `prev` holds the eight words before, oldest first. -/
def aesWords : Nat → Nat → Nat → List Nat → List Nat
  | 0, _, _, _ => []
  | n + 1, i, rcon, prev =>
    let t := prev.getD 7 0
    let u := if i % 8 = 0 then aesBytes aesSub 4 (t % 2 ^ 24 * 256 + t / 2 ^ 24) ^^^ rcon * 2 ^ 24
      else if i % 8 = 4 then aesBytes aesSub 4 t else t
    let w := prev.getD 0 0 ^^^ u
    w :: aesWords n (i + 1) (if i % 8 = 0 then rcon * 2 else rcon) (prev.drop 1 ++ [w])

/-- The 15 round keys. -/
def aesKeys (key : List Byte) : List Nat :=
  let k := (List.range 8).map (fun i => beNat (slice key (4 * i) 4))
  let w := k ++ aesWords 52 8 1 k
  (List.range 15).map (fun r => ((w.drop (4 * r)).take 4).foldl (fun a x => a * 2 ^ 32 + x) 0)

def aesEnc (ks : List Nat) (blk : List Byte) : List Byte :=
  let w := (List.range 13).foldl (fun w r => aesMix (aesShift (aesBytes aesSub 16 w)) ^^^ ks.getD (r + 1) 0)
    (beNat blk ^^^ ks.getD 0 0)
  beBytes 16 (aesShift (aesBytes aesSub 16 w) ^^^ ks.getD 14 0)

def aesDec (ks : List Nat) (blk : List Byte) : List Byte :=
  let w := (List.range 13).foldl (fun w r => aesUnmix (aesBytes aesInvSub 16 (aesUnshift w) ^^^ ks.getD (13 - r) 0))
    (beNat blk ^^^ ks.getD 14 0)
  beBytes 16 (aesBytes aesInvSub 16 (aesUnshift w) ^^^ ks.getD 0 0)

/-! ### GCM -/

def ghMul (x y : Nat) : Nat :=
  ((List.range 128).foldl (fun (a : Nat × Nat) i =>
    (if x.testBit (127 - i) then a.1 ^^^ a.2 else a.1,
     if a.2 % 2 = 1 then (a.2 / 2) ^^^ (0xE1 * 2 ^ 120) else a.2 / 2)) (0, y)).1

/-- 16-byte blocks, the last zero-padded. -/
def blocks16 : Nat → List Byte → List (List Byte)
  | 0, _ => []
  | n + 1, l => if l.isEmpty then [] else padTo 16 l :: blocks16 n (l.drop 16)

def ghash (h : Nat) (l : List (List Byte)) : Nat := l.foldl (fun y b => ghMul (y ^^^ beNat b) h) 0

/-- The counter block after `i` steps from J0. -/
def gcmCtr (iv : List Byte) (i : Nat) : List Byte := iv ++ beBytes 4 (i + 1)

/-- CTR mode from the second counter block. -/
def gcmCtrs (ks : List Nat) (iv : List Byte) : Nat → Nat → List Byte → List Byte
  | 0, _, _ => []
  | n + 1, i, l =>
    if l.isEmpty then [] else
      xorBytes (l.take 16) (aesEnc ks (gcmCtr iv i)) ++ gcmCtrs ks iv n (i + 1) (l.drop 16)

def gcmTag (ks : List Nat) (iv aad ct : List Byte) : List Byte :=
  let h := beNat (aesEnc ks (List.replicate 16 0))
  let s := ghash h (blocks16 (aad.length + 1) aad ++ blocks16 (ct.length + 1) ct ++
    [beBytes 8 (8 * aad.length) ++ beBytes 8 (8 * ct.length)])
  xorBytes (beBytes 16 s) (aesEnc ks (gcmCtr iv 0))

/-- Ciphertext and tag. -/
def gcmEncrypt (key : BitVec 256) (iv aad pt : List Byte) : List Byte × List Byte :=
  let ks := aesKeys (beBytes 32 key.toNat)
  let ct := gcmCtrs ks iv (pt.length + 1) 1 pt
  (ct, gcmTag ks iv aad ct)

/-- Plaintext, and whether the tag verifies. -/
def gcmDecrypt (key : BitVec 256) (iv aad ct tag : List Byte) : List Byte × Bool :=
  let ks := aesKeys (beBytes 32 key.toNat)
  (gcmCtrs ks iv (ct.length + 1) 1 ct, decide (gcmTag ks iv aad ct = tag))

/-! ### RFC 3394 -/

/-- Unwrap `n` 64-bit blocks with key `kek`: none where the integrity check fails. -/
def kwUnwrap (kek : BitVec 256) (w : List Byte) : Option (List Byte) :=
  let ks := aesKeys (beBytes 32 kek.toNat)
  let n := w.length / 8 - 1
  let steps := ((List.range 6).reverse.map (fun j => (List.range n).reverse.map (fun i => (j, i)))).flatten
  let r := steps.foldl (fun (a : List Byte × List (List Byte)) s =>
    let t := n * s.1 + s.2 + 1
    let b := aesDec ks (xorBytes a.1 (beBytes 8 t) ++ a.2.getD s.2 [])
    (b.take 8, a.2.set s.2 (b.drop 8))) (w.take 8, (List.range n).map (fun i => slice w (8 * (i + 1)) 8))
  if r.1 = List.replicate 8 0xA6 then some r.2.flatten else none

/-! ### SHA-384 -/

def sha512K0 : List Nat := [
   0x428A2F98D728AE22, 0x7137449123EF65CD, 0xB5C0FBCFEC4D3B2F, 0xE9B5DBA58189DBBC,
   0x3956C25BF348B538, 0x59F111F1B605D019, 0x923F82A4AF194F9B, 0xAB1C5ED5DA6D8118,
   0xD807AA98A3030242, 0x12835B0145706FBE, 0x243185BE4EE4B28C, 0x550C7DC3D5FFB4E2,
   0x72BE5D74F27B896F, 0x80DEB1FE3B1696B1, 0x9BDC06A725C71235, 0xC19BF174CF692694,
   0xE49B69C19EF14AD2, 0xEFBE4786384F25E3, 0x0FC19DC68B8CD5B5, 0x240CA1CC77AC9C65]

def sha512K1 : List Nat := [
   0x2DE92C6F592B0275, 0x4A7484AA6EA6E483, 0x5CB0A9DCBD41FBD4, 0x76F988DA831153B5,
   0x983E5152EE66DFAB, 0xA831C66D2DB43210, 0xB00327C898FB213F, 0xBF597FC7BEEF0EE4,
   0xC6E00BF33DA88FC2, 0xD5A79147930AA725, 0x06CA6351E003826F, 0x142929670A0E6E70,
   0x27B70A8546D22FFC, 0x2E1B21385C26C926, 0x4D2C6DFC5AC42AED, 0x53380D139D95B3DF,
   0x650A73548BAF63DE, 0x766A0ABB3C77B2A8, 0x81C2C92E47EDAEE6, 0x92722C851482353B]

def sha512K2 : List Nat := [
   0xA2BFE8A14CF10364, 0xA81A664BBC423001, 0xC24B8B70D0F89791, 0xC76C51A30654BE30,
   0xD192E819D6EF5218, 0xD69906245565A910, 0xF40E35855771202A, 0x106AA07032BBD1B8,
   0x19A4C116B8D2D0C8, 0x1E376C085141AB53, 0x2748774CDF8EEB99, 0x34B0BCB5E19B48A8,
   0x391C0CB3C5C95A63, 0x4ED8AA4AE3418ACB, 0x5B9CCA4F7763E373, 0x682E6FF3D6B2B8A3,
   0x748F82EE5DEFB2FC, 0x78A5636F43172F60, 0x84C87814A1F0AB72, 0x8CC702081A6439EC]

def sha512K3 : List Nat := [
   0x90BEFFFA23631E28, 0xA4506CEBDE82BDE9, 0xBEF9A3F7B2C67915, 0xC67178F2E372532B,
   0xCA273ECEEA26619C, 0xD186B8C721C0C207, 0xEADA7DD6CDE0EB1E, 0xF57D4F7FEE6ED178,
   0x06F067AA72176FBA, 0x0A637DC5A2C898A6, 0x113F9804BEF90DAE, 0x1B710B35131C471B,
   0x28DB77F523047D84, 0x32CAAB7B40C72493, 0x3C9EBE0A15C9BEBC, 0x431D67C49C100D4C,
   0x4CC5D4BECB3E42B6, 0x597F299CFC657E2A, 0x5FCB6FAB3AD6FAEC, 0x6C44198C4A475817]

def sha512K : Array Nat := (sha512K0 ++ sha512K1 ++ sha512K2 ++ sha512K3).toArray

def sha384Init : List Nat := [
   0xCBBB9D5DC1059ED8, 0x629A292A367CD507, 0x9159015A3070DD17, 0x152FECD8F70E5939,
   0x67332667FFC00B31, 0x8EB44A8768581511, 0xDB0C2E0D64F98FA7, 0x47B5481DBEFA4FA4]

def rotr64 (x n : Nat) : Nat := (x / 2 ^ n + x * 2 ^ (64 - n)) % 2 ^ 64

/-- The message schedule; `prev` holds the last 16 words, oldest first. -/
def shaWords : Nat → List Nat → List Nat
  | 0, _ => []
  | n + 1, prev =>
    let a := prev.getD 1 0
    let b := prev.getD 14 0
    let s0 := rotr64 a 1 ^^^ rotr64 a 8 ^^^ (a / 2 ^ 7)
    let s1 := rotr64 b 19 ^^^ rotr64 b 61 ^^^ (b / 2 ^ 6)
    let w := (prev.getD 0 0 + s0 + prev.getD 9 0 + s1) % 2 ^ 64
    w :: shaWords n (prev.drop 1 ++ [w])

def shaRound (s : List Nat) (kw : Nat) : List Nat :=
  match s with
  | [a, b, c, d, e, f, g, h] =>
    let s1 := rotr64 e 14 ^^^ rotr64 e 18 ^^^ rotr64 e 41
    let ch := (e &&& f) ^^^ ((2 ^ 64 - 1 - e) &&& g)
    let t1 := h + s1 + ch + kw
    let s0 := rotr64 a 28 ^^^ rotr64 a 34 ^^^ rotr64 a 39
    let mj := (a &&& b) ^^^ (a &&& c) ^^^ (b &&& c)
    [(t1 + s0 + mj) % 2 ^ 64, a, b, c, (d + t1) % 2 ^ 64, e, f, g]
  | s => s

def shaBlock (h : List Nat) (blk : List Byte) : List Nat :=
  let w0 := (List.range 16).map (fun i => beNat (slice blk (8 * i) 8))
  let w := w0 ++ shaWords 64 w0
  let r := (w.zipIdx).foldl (fun s x => shaRound s (x.1 + sha512K.getD x.2 0)) h
  List.zipWith (fun a b => (a + b) % 2 ^ 64) h r

def shaBlocks : Nat → List Nat → List Byte → List Nat
  | 0, h, _ => h
  | n + 1, h, l => if l.isEmpty then h else shaBlocks n (shaBlock h (l.take 128)) (l.drop 128)

def sha384 (m : List Byte) : List Byte :=
  let p := m ++ [0x80] ++ List.replicate ((239 - m.length % 128) % 128) 0 ++ beBytes 16 (8 * m.length)
  ((shaBlocks (p.length + 1) sha384Init p).take 6).flatMap (beBytes 8)

/-! ### ECDSA P-384 (verification) -/

def ecP : Nat := 2 ^ 384 - 2 ^ 128 - 2 ^ 96 + 2 ^ 32 - 1
def ecN : Nat := 0xFFFFFFFFFFFFFFFFFFFFFFFFFFFFFFFFFFFFFFFFFFFFFFFFC7634D81F4372DDF581A0DB248B0A77AECEC196ACCC52973
def ecB : Nat := 0xB3312FA7E23EE7E4988E056BE3F82D19181D9C6EFE8141120314088F5013875AC656398D8A2ED19D2A85C8EDD3EC2AEF
def ecG : Nat × Nat :=
  (0xAA87CA22BE8B05378EB1C71EF320AD746E1D3B628BA79B9859F741E082542A385502F25DBF55296C3A545E3872760AB7,
   0x3617DE4A96262C6F5D9E98BF9292DC29F8F41DBD289A147CE9DA3113B5F0B8C00A60B1CE1D7E819D7A431D7C90EA0E5F)

/-- b^e mod m, exponent bits from the top. -/
def powMod (m b e : Nat) : Nat :=
  (List.range 384).foldl (fun a i =>
    let a := a * a % m
    if e.testBit (383 - i) then a * b % m else a) (1 % m)

def invMod (m a : Nat) : Nat := powMod m a (m - 2)

/-- Points of the curve; none is the point at infinity. -/
def ecAdd (p q : Option (Nat × Nat)) : Option (Nat × Nat) :=
  match p, q with
  | none, q => q
  | p, none => p
  | some (x1, y1), some (x2, y2) =>
    if x1 = x2 ∧ (y1 + y2) % ecP = 0 then none
    else
      let l := if x1 = x2 then (3 * x1 * x1 + (ecP - 3)) * invMod ecP (2 * y1 % ecP) % ecP
        else (y2 + ecP - y1) * invMod ecP ((x2 + ecP - x1) % ecP) % ecP
      let x := (l * l + 2 * ecP - x1 - x2) % ecP
      some (x, (l * (x1 + ecP - x) + ecP - y1) % ecP)

def ecMul (k : Nat) (p : Nat × Nat) : Option (Nat × Nat) :=
  (List.range 384).foldl (fun a i =>
    let a := ecAdd a a
    if k.testBit (383 - i) then ecAdd a (some p) else a) none

/-- Does signature (r, s) over message `m` verify under public key `q`? -/
def ecdsaOk (q : Nat × Nat) (r s : Nat) (m : List Byte) : Bool :=
  let on := decide (q.1 < ecP ∧ q.2 < ecP ∧ (q.2 * q.2) % ecP = (q.1 * q.1 * q.1 + (ecP - 3) * q.1 + ecB) % ecP)
  on && decide (0 < r ∧ r < ecN ∧ 0 < s ∧ s < ecN) &&
  (let z := beNat (sha384 m)
   let w := invMod ecN s
   match ecAdd (ecMul (z * w % ecN) ecG) (ecMul (r * w % ecN) q) with
   | some (x, _) => decide (x % ecN = r)
   | none => false)

end Sys2Proof.Machine
end

