-- ==== Sys2Proof/Machine/Buffers.lean ====
section
/-!
DEFINITION. Buffer pools (07_buffers_memory R196 to R209, R220 to R222): pointers, pool functions, allocation and
return, the waiting requests of the gateway's units, and the addresses of usable HBM. The commands stand at the end.
-/

namespace Sys2Proof.Machine

/-! ### Pointers (R201) and pool entries (R202) -/

/-- The model's memory address of a buffer pointer: SRAM offset, or HBM address above `hbmBase`. -/
def ptrAddr (p : Nat) : Nat := if bitAt p 63 then hbmBase + fld p 37 0 else fld p 37 0

/-- A pointer from the model's address. -/
def addrPtr (a : Nat) : Nat := if hbmBase ≤ a then 2 ^ 63 + (a - hbmBase) else a

def bufSize (code : Nat) : Nat :=
  match code with
  | 0 => 256
  | 1 => 4096
  | 2 => 65536
  | _ => 1048576

/-- A pool table entry as configured. -/
structure PoolCfg where
  size : Nat
  mem : Nat
  base : Nat
  count : Nat
  reserved : Nat
deriving DecidableEq, Repr

def Core.pool (k : Core) (p : Nat) : PoolCfg :=
  let w := fun i => k.tb Reg.BPM_POOL_TBL (4 * p + i)
  { size := fld (w 0) 29 28, mem := fld (w 0) 27 27, base := w 1 + 2 ^ 32 * fld (w 2) 5 0, count := fld (w 3) 23 0
    reserved := fld (w 0) 31 30 + fld (w 0) 26 0 + fld (w 2) 31 6 + fld (w 3) 31 24 }

/-- The model address of the pool's first buffer, and the bytes the pool spans. -/
def PoolCfg.addr (c : PoolCfg) : Nat := if c.mem = 1 then hbmBase + c.base else c.base

def PoolCfg.bytes (c : PoolCfg) : Nat := c.count * bufSize c.size

def PoolCfg.holds (c : PoolCfg) (a : Nat) : Bool := decide (c.addr ≤ a ∧ a < c.addr + c.bytes)

def Core.poolLive (k : Core) (p : Nat) : Bool := !k.isOff (.pool p)

/-- The pool that is not OFF and contains an address. -/
def Core.poolOf (k : Core) (a : Nat) : Option Nat :=
  (List.range 64).find? (fun p => k.poolLive p && (k.pool p).holds a)

/-! ### Owners (R204, R205) -/

def Core.ownMin (k : Core) (p o : Nat) : Nat := k.tbf Reg.BPM_OWN_TBL (2 * (64 * p + o)) 23 0
def Core.ownMax (k : Core) (p o : Nat) : Nat := k.tbf Reg.BPM_OWN_TBL (2 * (64 * p + o) + 1) 23 0

/-- The buffers of the pool that are lent: model address and owner + 1. -/
def Core.lent (k : Core) (p : Nat) : List (Nat × Nat) := k.bpm.alloc.cells.filter (fun c => (k.pool p).holds c.1)

/-- Buffers of the pool an owner holds, U_o. -/
def Core.ownUse (k : Core) (p o : Nat) : Nat := ((k.lent p).filter (fun c => c.2 == o + 1)).length

/-- Free buffers of the pool; a FAULTED pool's are withdrawn (R217). -/
def Core.poolFree (k : Core) (p : Nat) : Nat :=
  match k.fst (.pool p) with
  | .faulted => 0
  | .off => 0
  | _ => (k.pool p).count - (k.lent p).length

/-- What the owners' minima still reserve, R. -/
def Core.poolRsv (k : Core) (p : Nat) : Nat :=
  ((List.range 64).map (fun o => k.ownMin p o - k.ownUse p o)).sum

/-- May owner `o` take a buffer of an ON pool (R205)? -/
def Core.mayTake (k : Core) (p o : Nat) : Bool :=
  decide (k.ownUse p o < k.ownMax p o ∧ 0 < k.poolFree p ∧
    (k.ownUse p o < k.ownMin p o ∨ k.poolRsv p < k.poolFree p))

/-- The model addresses of the pool's free buffers. -/
def Core.freeBufs (k : Core) (p : Nat) : List Nat :=
  let c := k.pool p
  ((List.range c.count).map (fun i => c.addr + i * bufSize c.size)).filter (fun a => k.bpm.alloc.get 0 a == 0)

/-- Lend a free buffer of pool `p` to owner `o`: which one is not specified (R206). A grant moves the pool's pointer past
the owner class (01_architecture R24, R25). -/
def Core.lend (k : Core) (p o : Nat) : Core × Nat :=
  let l := k.freeBufs p
  let a := l.getD (Config.freeBuffer k.free % l.length) 0
  (({ k with bpm := { k.bpm with alloc := k.bpm.alloc.set 0 a (o + 1), rr := k.bpm.rr.set 0 p ((o + 1) % 64) } } : Core).fresh,
    addrPtr a)

/-- The lowest-numbered ON pool of a size and memory that lets the owner take a buffer (R206). -/
def Core.pickPool (k : Core) (o size mem : Nat) : Option Nat :=
  (List.range 64).find? (fun p =>
    k.isOn (.pool p) && (k.pool p).size == size && (k.pool p).mem == mem && k.mayTake p o)

/-- The pool a request would be served from: SRAM before HBM where it takes either. -/
def Core.servePool (k : Core) (r : BufReq) : Option Nat :=
  match k.pickPool r.owner r.size r.mem with
  | some p => some p
  | none => if r.either then k.pickPool r.owner r.size 1 else none

/-- A unit of the gateway takes the buffer its request was granted, or asks for one: served at once when a pool can and
no older request of the same owner, size and memory waits, else it waits (R206). -/
def Core.takeBuffer (k : Core) (r : BufReq) : Core × Option Nat :=
  match k.bpm.granted.find? (fun g => decide (g.1 = r.user)) with
  | some g => ({ k with bpm := { k.bpm with granted := k.bpm.granted.filter (fun x => decide (x.1 ≠ r.user)) } }, some g.2)
  | none =>
    if k.bpm.waits.any (fun x => decide (x.user = r.user)) then (k, none)
    else
      let behind := k.bpm.waits.any (fun x => decide (x.owner = r.owner ∧ x.size = r.size ∧ x.mem = r.mem))
      match (if behind then none else k.servePool r) with
      | some p => let l := k.lend p r.owner; (l.1, some l.2)
      | none => (({ k with bpm := { k.bpm with waits := k.bpm.waits ++ [r] } } : Core).cnt Reg.BPM_WAIT_CNT, none)

/-! ### Pool functions (R203, R209) -/

def Core.hbmStacks (k : Core) : Nat := popCount 8 k.hbc.stackMask

/-- Whey traffic is measured in 1 ms windows over the last second (R210). -/
def Core.wheyTraffic (k : Core) (n : Nat) : Core :=
  let i := k.now / 1000000
  let l := match k.hbc.wheyWin with
    | [] => [(i, n)]
    | (j, b) :: l => if j = i then (j, b + n) :: l else (i, n) :: ((j, b) :: l).filter (fun z => decide (i ≤ z.1 + 1000))
  { k with hbc := { k.hbc with wheyWin := l } }

/-- The highest window of the last second in units of 0.1 Tb/s. -/
def Core.wheyPeak (k : Core) : Nat :=
  ((k.hbc.wheyWin.filter (fun z => decide (k.now / 1000000 ≤ z.1 + 1000))).map (·.2)).foldl max 0 / 12500000

/-- The size of a slice (R198). -/
def Core.sliceSize (k : Core) : Nat := 805306368 * k.hbmStacks

/-- Is slice `j` in service? -/
def Core.sliceOn (k : Core) (j : Nat) : Bool := decide (j < 32 ∧ 0 < k.hbmStacks ∧ k.hbc.retired.get 0 j = 0)

/-- Does HBM range [a, a + n) lie in the pool and user part of one slice in service (R199)? -/
def Core.inUserPart (k : Core) (a n : Nat) : Bool :=
  let s := k.sliceSize
  decide (0 < s) && k.sliceOn (a / s) && decide (a % s + n ≤ s - 469762048)

/-- Does [a, a + n) meet a pool that is not OFF, other than `but`? Model addresses. -/
def Core.meetsPool (k : Core) (a n : Nat) (but : Option Nat) : Bool :=
  (List.range 64).any (fun p =>
    decide (some p ≠ but) && k.poolLive p &&
    decide (a < (k.pool p).addr + (k.pool p).bytes ∧ (k.pool p).addr < a + n))

/-- Usable HBM (R200). -/
def Core.usableHbm (k : Core) (a n : Nat) : Bool := k.inUserPart a n && !k.meetsPool (hbmBase + a) n none

/-- The checks of R203, in order. -/
def Core.poolCheck (p : Nat) (k : Core) : Nat :=
  let c := k.pool p
  if c.reserved ≠ 0 ∨ c.count = 0 then stRange
  else if c.base % bufSize c.size ≠ 0 then stAlign
  else if c.mem = 0 ∧ ¬ (0x3400000 ≤ c.base ∧ c.base + c.bytes ≤ 65536 * k.svc.sram) then stRange
  else if c.mem = 1 ∧ k.inUserPart c.base c.bytes = false then stRange
  else if k.meetsPool c.addr c.bytes (some p) then stRange
  else if (List.range 64).any (fun o => decide (k.ownMax p o < k.ownMin p o)) ∨
      c.count < ((List.range 64).map (k.ownMin p)).sum then stRange
  else stOk

/-- ON with every buffer free. -/
def Core.poolStart (p : Nat) (k : Core) : Core :=
  let k := { k with bpm := { k.bpm with alloc := (k.lent p).foldl (fun (m : SMap Nat) (c : Nat × Nat) => m.set 0 c.1 0) k.bpm.alloc } }
  k.setFst (.pool p) .on stOk

/-- A DRAINING pool is OFF when every buffer is back (R209). -/
def Core.poolChk (p : Nat) (k : Core) : Core :=
  if (k.lent p).isEmpty then k.fnDrained (.pool p) stOk (Core.poolCheck p) (Core.poolStart p) else k

/-- BPM_PCMD (R203, R209, R220). -/
def Core.poolCmd (k : Core) (cmd p : Nat) : Core × Nat :=
  match cmd with
  | 1 => k.fnEnable (.pool p) (Core.poolCheck p) (Core.poolStart p)
  | 2 => k.fnDisable (.pool p) (Core.poolChk p) id
  | _ => (k, stRange)

/-! ### Allocation and return by management (R207, R208) -/

/-- BPM_ALLOC. -/
def Core.allocCmd (k : Core) (p o : Nat) : Core × Nat :=
  match k.fst (.pool p) with
  | .draining => (k, stPend)
  | .on =>
    if k.mayTake p o then
      let r := k.lend p o
      ((r.1.wr Reg.BPM_ALLOC_PTR_LO r.2).wr Reg.BPM_ALLOC_PTR_HI (r.2 >>> 32), stOk)
    else (k.cnt Reg.BPM_ALLOC_BUSY_CNT, stBusy)
  | _ => (k, stRange)

/-- The checks of R208 on a pointer: the status, with the pool that holds it. -/
def Core.ptrCheck (k : Core) (ptr owner : Nat) : Nat :=
  let a := ptrAddr ptr
  if fld ptr 62 38 ≠ 0 then stRange
  else match k.poolOf a with
    | none => stRange
    | some p =>
      let c := k.pool p
      if (a - c.addr) % bufSize c.size ≠ 0 then stAlign
      else if k.bpm.alloc.get 0 a = 0 then stRange
      else if k.bpm.alloc.get 0 a ≠ owner + 1 then stDenied
      else stOk

/-- A returned buffer: free again when it passes, else counted and reported (R208). -/
def Core.returnBuf (k : Core) (ptr owner : Nat) : Core × Nat :=
  let st := k.ptrCheck ptr owner
  let a := ptrAddr ptr
  if st = stOk then
    let k' := { k with bpm := { k.bpm with alloc := k.bpm.alloc.set 0 a 0 } }
    (match k.poolOf a with
      | some p => Core.poolChk p k'
      | none => k', stOk)
  else
    let src := match k.poolOf a with
      | some p => if fld ptr 62 38 = 0 then 0x3000 + p else 0x37FF
      | none => 0x37FF
    ((k.cnt Reg.BPM_BADRET_CNT).emitLim src 0x0601 0 64 30 [(107, 102, owner), (101, 94, st), (63, 0, ptr)], st)

/-- A buffer a unit held, returned by that unit. -/
def Core.giveBack (k : Core) (ptr : Option Nat) (owner : Nat) : Core :=
  match ptr with
  | some p => (k.returnBuf p owner).1
  | none => k

/-- A user that ends gives up its waiting request, and the buffer granted to it that it has not taken. -/
def Core.dropReq (k : Core) (f : BufUser → Bool) : Core :=
  let mine := k.bpm.granted.filter (fun g => f g.1)
  let k : Core := { k with bpm := { k.bpm with waits := k.bpm.waits.filter (fun r => !f r.user)
                                               granted := k.bpm.granted.filter (fun g => !f g.1) } }
  mine.foldl (fun k g => k.giveBack (some g.2) (k.bpm.alloc.get 0 (ptrAddr g.2) - 1)) k

/-- The check of a BUF at a record open (R104, R208). -/
def Core.bufOpenCheck (k : Core) (ptr owner size : Nat) : Core × Nat :=
  let st := k.ptrCheck ptr owner
  let st := if st = stOk then
      match k.poolOf (ptrAddr ptr) with
      | some p => if bufSize (k.pool p).size < size then stLen else stOk
      | none => stRange
    else st
  (if st = stOk then k else k.cnt Reg.BPM_OPENCHK_CNT, st)

/-! ### Waiting requests (R206, R25) -/

/-- The oldest request of owner `o` that pool `p` would serve; with `below`, only while the owner stands below its minimum
there. -/
def Core.waitServable (k : Core) (p o : Nat) (below : Bool) : Option BufReq :=
  if below && !decide (k.ownUse p o < k.ownMin p o) then none
  else (k.bpm.waits.filter (fun r => r.owner == o)).find? (fun r => k.servePool r == some p)

/-- The request a pool serves next: of an owner below its minimum before the others, the default rule among each (R25). -/
def Core.poolPick (k : Core) (p : Nat) : Option BufReq :=
  let pick := fun below =>
    (rrPick 64 (k.bpm.rr.get 0 p) (fun o => (k.waitServable p o below).isSome)).bind (fun o => k.waitServable p o below)
  match pick true with
  | some r => some r
  | none => pick false

/-- One waiting request is served, by the lowest-numbered pool that can serve one. -/
def Core.serveWait (k : Core) : Core :=
  match (List.range 64).findSome? (fun p => (k.poolPick p).map (fun r => (p, r))) with
  | none => k
  | some (p, r) =>
    let l := k.lend p r.owner
    let b := l.1.bpm
    { l.1 with bpm := { b with waits := b.waits.filter (fun x => decide (x.user ≠ r.user)), granted := b.granted ++ [(r.user, l.2)] } }

/-! ### Registers and windows (R220, R221) -/

/-- Pool entry and owner words are written only while the pool is OFF. Reserved bits of an entry are held for the check
of R203; MIN and MAX take bits [23:0]. -/
def poolTblWrite (k : Core) (w v : Nat) : Core × Nat :=
  if k.isOff (.pool (w / 4)) then (k.tbw Reg.BPM_POOL_TBL w v, stOk) else (k, stBusy)

def ownTblWrite (k : Core) (w v : Nat) : Core × Nat :=
  if k.isOff (.pool (w / 128)) then (k.tbw Reg.BPM_OWN_TBL w (v &&& 0xFFFFFF), stOk) else (k, stBusy)

/-- A pool entry word as read: reserved bits 0 (R7). -/
def poolTblRead (k : Core) (w : Nat) : Nat :=
  let v := k.tb Reg.BPM_POOL_TBL w
  match w % 4 with
  | 0 => v &&& 0x38000000
  | 1 => v
  | 2 => v &&& 0x3F
  | _ => v &&& 0xFFFFFF

def pstRead (k : Core) (p : Nat) : Nat :=
  args [(31, 29, (k.fst (.pool p)).code), (28, 28, (k.fn (.pool p)).pend.toNat), (23, 0, k.poolFree p)]

/-- Owner use: USED, and WAIT while a request of the owner waits on the pool's size and memory. -/
def useRead (k : Core) (w : Nat) : Nat :=
  let p := w / 64
  let o := w % 64
  let c := k.pool p
  let wait := k.bpm.waits.any (fun r =>
    r.owner == o && r.size == c.size && (r.mem == c.mem || (r.either && c.mem == 1)))
  args [(31, 31, wait.toNat), (23, 0, k.ownUse p o)]

/-- BPM_FREE_HI: the return of the pointer the two registers name (R220). -/
def Core.freeCmd (k : Core) (hi : Nat) : Core × Nat :=
  k.returnBuf (2 ^ 63 * fld hi 31 31 + 2 ^ 32 * fld hi 5 0 + k.rd Reg.BPM_FREE_LO) (fld hi 21 16)

def Core.bpmWrite (k : Core) (a v : Nat) : Core × Nat :=
  if a = Reg.BPM_PCMD then k.poolCmd (fld v 31 28) (fld v 5 0)
  else if a = Reg.BPM_ALLOC then k.allocCmd (fld v 5 0) (fld v 13 8)
  else if a = Reg.BPM_FREE_LO then (k.wr a v, stOk)
  else if a = Reg.BPM_FREE_HI then k.freeCmd v
  else (k, stOk)

/-! ### The commands -/

/-- POOL_ENABLE (R203). -/
def execPoolEnable (p : Fin 64) (s : State) : Host.Outcome State Fault Refusal :=
  .next (s.mgmt Reg.BPM_STAT (fun k => k.poolCmd 1 p))

/-- POOL_DISABLE (R209). -/
def execPoolDisable (p : Fin 64) (s : State) : Host.Outcome State Fault Refusal :=
  .next (s.mgmt Reg.BPM_STAT (fun k => k.poolCmd 2 p))

/-- BPM_ALLOC (R207). -/
def execBpmAlloc (pool owner : Fin 64) (s : State) : Host.Outcome State Fault Refusal :=
  .next (s.mgmt Reg.BPM_STAT (fun k => k.allocCmd pool owner))

/-- BPM_FREE (R208): BPM_FREE_HI is written. -/
def execBpmFree (hi : Word) (s : State) : Host.Outcome State Fault Refusal :=
  .next (s.mgmt Reg.BPM_STAT (fun k => k.freeCmd hi.toNat))

end Sys2Proof.Machine
end

