-- ==== Sys2Proof/Machine/Rs.lean ====
section
/-!
DEFINITION. The Reed-Solomon codes over 10-bit symbols: RS(576,560) of the fabric lanes (03_fabric_side R53) and RS(544,514) of
the host lanes of a line port (12_line_coding_retry R335). Field, generator and symbol bit order are those of IEEE 802.3
clause 119 (PRESUMED from that standard, assumption log 112): the field of x^10 + x^3 + 1, the first bit of a symbol its
least significant, message symbols in the order sent, check symbols from the highest power down.
-/

namespace Sys2Proof.Machine

def gf10Mul (a b : Nat) : Nat :=
  (List.range 10).foldl (fun r i =>
    let d := if 1024 ≤ 2 * r then (2 * r) ^^^ 0x409 else 2 * r
    if b.testBit (9 - i) then d ^^^ a else d) 0

/-- The powers of the primitive element. -/
def gf10Pow : Nat → Nat
  | 0 => 1
  | n + 1 => gf10Mul 2 (gf10Pow n)

/-- The generator with roots alpha^0 to alpha^(n-1): its coefficients below the leading one, highest first. -/
def rsGen : Nat → List Nat
  | 0 => []
  | n + 1 => List.zipWith (· ^^^ ·) (rsGen n ++ [0]) ((1 :: rsGen n).map (gf10Mul (gf10Pow n)))

/-- The generator times each power of two, packed, 10 bits a coefficient. -/
def rsTab (n : Nat) : List Nat :=
  (List.range 10).map (fun b => (rsGen n).foldl (fun a c => a * 1024 + gf10Mul (2 ^ b) c) 0)

def rsTab16 : List Nat := rsTab 16

def rsTab30 : List Nat := rsTab 30

/-- The `n` check symbols of a message. -/
def rsCheck (n : Nat) (tab m : List Nat) : List Nat :=
  let r := m.foldl (fun r s =>
    let fb := s ^^^ r / 2 ^ (10 * n - 10)
    tab.zipIdx.foldl (fun a t => if fb.testBit t.2 then a ^^^ t.1 else a) (r * 1024 % 2 ^ (10 * n))) 0
  (List.range n).map (fun i => r / 2 ^ (10 * (n - 1 - i)) % 1024)

def rsEncode (n : Nat) (tab m : List Nat) : List Nat := m ++ rsCheck n tab m

/-- Bits as 10-bit symbols, the first bit of each its least significant. -/
def symbolsOf : Nat → List Bool → List Nat
  | 0, _ => []
  | n + 1, l => (l.take 10).reverse.foldl (fun a b => 2 * a + b.toNat) 0 :: symbolsOf n (l.drop 10)

/-- Bytes in transmission order, each most significant bit first (00_scope R4). -/
def lineBits (d : List Byte) : List Bool := d.flatMap (fun b => [7, 6, 5, 4, 3, 2, 1, 0].map b.getLsbD)

/-- The whole codewords of `k` message and `n` check symbols in a bit stream, and the bits left over. -/
def rsWords (k n : Nat) (tab : List Nat) : Nat → List Bool → List (List Nat) × List Bool
  | 0, l => ([], l)
  | fuel + 1, l =>
    if l.length < 10 * k then ([], l)
    else
      let r := rsWords k n tab fuel (l.drop (10 * k))
      (rsEncode n tab (symbolsOf k l) :: r.1, r.2)

end Sys2Proof.Machine
end

