-- ==== Sys2Proof/Machine/Fabric.lean ====
section
/-!
DEFINITION. Fabric ports and the fabric router (03_fabric_side): link blocks, link retry, bring-up and loss, packets,
lookup, circuits, escape, the routing epoch, and their registers. The commands' meanings stand at the end.
-/

namespace Sys2Proof.Machine

/-! ### Packet headers (R66, R67) -/

def hget (h : BitVec 256) (hi lo : Nat) : Nat := fld h.toNat hi lo

def hset (h : BitVec 256) (hi lo v : Nat) : BitVec 256 := BitVec.ofNat 256 (setFld h.toNat hi lo v)

abbrev hVc (h : BitVec 256) : Nat := hget h 251 249
abbrev hEpoch (h : BitVec 256) : Nat := hget h 248 248
abbrev hPoison (h : BitVec 256) : Nat := hget h 247 247
abbrev hType (h : BitVec 256) : Nat := hget h 244 241
abbrev hLen (h : BitVec 256) : Nat := hget h 240 235
abbrev hTail (h : BitVec 256) : Nat := hget h 234 229
abbrev hDst (h : BitVec 256) : Nat := hget h 228 211
abbrev hSrc (h : BitVec 256) : Nat := hget h 210 193
abbrev hFlow (h : BitVec 256) : Nat := hget h 192 179
abbrev hSeq (h : BitVec 256) : Nat := hget h 178 131
abbrev hCmpl (h : BitVec 256) : Nat := hget h 130 115
abbrev hColl (h : BitVec 256) : Nat := hget h 114 83
abbrev hTtl (h : BitVec 256) : Nat := hget h 70 65

/-- The header check over bytes 0 to 29 with VC, POISON, ESC and TTL as 0 (R67). -/
def hdrCrc (h : BitVec 256) : Nat :=
  crc16 (beBytes 30 (((hset (hset (hset (hset h 251 249 0) 247 247 0) 245 245 0) 70 65 0).toNat) >>> 16))

/-- Payload bytes: 64 x LEN + TAIL + 1 (R66). -/
def payLen (h : BitVec 256) : Nat := 64 * hLen h + hTail h + 1

def Packet.payload (p : Packet) : List Byte := p.data.take (payLen p.hdr)

/-- This gateway's endpoint: word 0 of IDENTITY (R69, 15_boot_config R415). -/
def Core.selfEid (k : Core) : Nat := fld (k.ident.getD 0 0).toNat 17 0

/-- The header of a packet the gateway originates (R69). -/
def Core.mkHdr (k : Core) (vc typ poison n dst flow seq cmpl coll : Nat) : BitVec 256 :=
  let len := (n - 1) / 64
  let h : Nat := args [(255, 252, 1), (251, 249, vc), (248, 248, k.frt.ep.cur), (247, 247, poison), (244, 241, typ),
    (240, 235, len), (234, 229, n - 1 - 64 * len), (228, 211, dst), (210, 193, k.selfEid), (192, 179, flow),
    (178, 131, seq), (130, 115, cmpl), (114, 83, coll), (70, 65, 32)]
  let b := BitVec.ofNat 256 h
  hset b 15 0 (hdrCrc b)

/-- The gateway originates a packet: it waits at its unit for the router (R69, R511). -/
def Core.originate (k : Core) (vc typ poison : Nat) (data : List Byte) (dst flow seq cmpl coll : Nat) : Core :=
  let n := data.length
  let h := k.mkHdr vc typ poison n dst flow seq cmpl coll
  let flits := (n + 63) / 64
  { k with frt := { k.frt with own := k.frt.own ++
      [{ hdr := h, data := padTo (64 * flits) data, slots := flits, inPort := 32 }] } }

/-- The TYPEs a channel allows (R71). -/
def vcAllows (vc typ : Nat) : Bool :=
  match vc with
  | 0 => typ == 4
  | 1 => typ == 1 || typ == 2
  | 2 => typ == 0
  | 3 => typ == 0
  | 4 => typ == 5
  | 5 => typ == 3
  | 7 => true
  | _ => false

/-! ### Ports -/

def Core.port (k : Core) (n : Nat) : OflPort := k.fpc.get {} n

def Core.setPort (k : Core) (n : Nat) (p : OflPort) : Core := { k with fpc := k.fpc.set {} n p }

def Core.rxBuf (k : Core) (n v : Nat) : Nat := k.fd (Reg.FPC_P_RXBUF0 n + 4 * v) 12 0

/-- R72: 66 slots at least on VC0 to VC5 and VC7, none on VC6, 4,096 in all. -/
def Core.rxBufOk (k : Core) (n : Nat) : Bool :=
  [0, 1, 2, 3, 4, 5, 7].all (fun v => decide (66 ≤ k.rxBuf n v)) && decide (k.rxBuf n 6 = 0) &&
  decide (((List.range 8).map (k.rxBuf n)).sum ≤ 4096)

def Core.oflCheck (n : Nat) (k : Core) : Nat := if k.rxBufOk n then stOk else stRange

/-- Entering STARTING: lanes train (R64). -/
def Core.oflStart (n : Nat) (k : Core) : Core :=
  let p := k.port n
  k.setPort n { p with laneOk := 0, link := 1, tries := 0, t0 := k.now, enT := k.now, unacked := [], replay := [],
                       replays := 0, nextLsn := 0, expLsn := 0, nakOut := false, nakDue := false, crcRun := 0,
                       goodRun := 0, parms := false, rxPart := none, cur := [], curEp := 2
                       parmTx := [], parmAck := false, fecBits := [], fecCw := 0, laneOut := [] }

/-- FSTATE, PEND_EN, LANE_OK, LINK, CAUSE and LAST_ST of a port (R87). -/
def Core.oflStat (k : Core) (n : Nat) : Nat :=
  let p := k.port n
  let f := k.fn (.ofl n)
  args [(31, 29, f.fst.code), (28, 28, f.pend.toNat), (27, 24, p.laneOk), (23, 20, p.link), (19, 16, p.cause),
        (7, 0, k.fd (Reg.FPC_P_STAT n) 7 0)]

/-! ### The router's drops and epoch counts (R68, R83, R84, R93) -/

/-- The in-flight count of a version (R83). -/
def Epoch.infl (e : Epoch) (v : Nat) : Nat := if v = 0 then e.infl0 else e.infl1

def Epoch.zt (e : Epoch) (v : Nat) : Nat := if v = 0 then e.zt0 else e.zt1

/-- A packet of version `v` comes in: the count rises, the 10 us restart. -/
def Epoch.enter (e : Epoch) (v : Nat) : Epoch :=
  let e := { e with idle := setBit e.idle v false }
  if v = 0 then { e with infl0 := e.infl0 + 1 } else { e with infl1 := e.infl1 + 1 }

/-- A packet of version `v` left, was delivered or was dropped, at `now` ns. -/
def Epoch.leave (e : Epoch) (v now : Nat) : Epoch :=
  if v = 0 then { e with infl0 := e.infl0 - 1, zt0 := now } else { e with infl1 := e.infl1 - 1, zt1 := now }

/-- The drain of the router ends when both counts are 0 (R511). -/
def Core.routerChk (k : Core) : Core :=
  if k.frt.ep.infl0 = 0 ∧ k.frt.ep.infl1 = 0 then k.fnDrained .router stOk (fun _ => stOk) (fun k => k.setFst .router .on stOk)
  else k

/-- A packet the gateway took from a port is no longer in flight; one of its own units' never was. -/
def Core.leaves (k : Core) (p : Packet) : Core :=
  if p.inPort < 32 then
    ({ k with frt := { k.frt with ep := k.frt.ep.leave (hEpoch p.hdr) k.now } } : Core).routerChk
  else k

/-- A dropped packet is counted and PACKET_DROPPED reports it, once per reason and ms (R93). DESIGN CHOICE: the arrival port
of a packet the gateway's own units originated, which has none, is reported as 0, here and in ESCAPE_MOVE (assumption
log 110). -/
def Core.dropPkt (k : Core) (p : Packet) (reason cntReg : Nat) : Core :=
  ((k.cnt cntReg).emitLim 0x1000 0x0200 reason 0 32
    [(107, 104, reason), (103, 86, hDst p.hdr), (85, 72, hFlow p.hdr), (71, 67, p.inPort)]).leaves p

/-- The packet waits at output port `o`; as the first from its input on its channel its wait starts now (R80). -/
def Core.enqueue (k : Core) (o : Nat) (p : Packet) : Core :=
  let q := k.port o
  let vc := hVc p.hdr
  let l := q.txq.get [] vc
  let first := !l.any (fun x => x.pkt.inPort == p.inPort)
  k.setPort o { q with txq := q.txq.set [] vc (l ++ [{ pkt := p, headT := if first then k.now else 0 }]) }

/-- The heads of a channel's queues at an output port, one per input (01_architecture R25). -/
def qHeads : List QPkt → List QPkt
  | [] => []
  | x :: l => x :: (qHeads l).filter (fun y => y.pkt.inPort != x.pkt.inPort)

/-- The packets left once the head from input `i` is gone; the next from that input is a head from `now` on. -/
def qRest (now i : Nat) : List QPkt → List QPkt
  | [] => []
  | x :: l =>
    if x.pkt.inPort = i then
      (match l.findIdx? (fun y => y.pkt.inPort == i) with
      | some j => l.modify j (fun y => { y with headT := now })
      | none => l)
    else x :: qRest now i l

/-- The packet is handed to the flow context store, the control message unit or the descriptor authenticator (R75). -/
def Core.deliver (k : Core) (p : Packet) (site : Option Nat) : Core :=
  let f := k.frt
  let f := match site, hType p.hdr with
    | none, 4 => { f with ctl := f.ctl ++ [p] }
    | none, 3 => { f with desc := f.desc ++ [p] }
    | _, _ => { f with data := f.data ++ [{ pkt := p, site := site }] }
  ({ k with frt := f } : Core).leaves p

/-- TTL of a packet that came from a port falls by 1 on the way out (R69). -/
def Packet.forwarded (p : Packet) : Packet :=
  if p.inPort < 32 then { p with hdr := hset p.hdr 70 65 (hTtl p.hdr - 1) } else p

/-- Has the packet no hop left to be forwarded? -/
def Packet.ttlOut (p : Packet) : Bool := decide (p.inPort < 32 ∧ hTtl p.hdr ≤ 1)

/-- Route a packet on VC7 by the escape table; `here` when it moved to escape on this gateway (R81), `out` when its TTL has
been lowered for leaving it (R69). -/
def Core.escRoute (k : Core) (p : Packet) (here out : Bool) : Core :=
  let e := fld (k.tb Reg.FRT_ESC_TBL (hDst p.hdr / 4)) (8 * (hDst p.hdr % 4) + 7) (8 * (hDst p.hdr % 4))
  let up := k.rd Reg.FRT_ESC_PORTDIR
  let o := fld e 4 0
  if !bitAt e 7 then k.dropPkt p 2 Reg.FRT_NOROUTE_CNT
  else if bitAt e 6 then k.deliver p none
  else if !here && decide (p.inPort < 32) && bitAt up p.inPort && bitAt up o then k.dropPkt p 5 Reg.FRT_ESC_VIOL_CNT
  else if !k.isOn (.ofl o) then k.dropPkt p 2 Reg.FRT_NOROUTE_CNT
  else if out then k.enqueue o p
  else if p.ttlOut then k.dropPkt p 3 Reg.FRT_TTL_CNT
  else k.enqueue o p.forwarded

/-- The move to the escape channel (R77, R80): VC 7, ESC 1, counted and reported; `out` as for `Core.escRoute`. -/
def Core.escMove (k : Core) (p : Packet) (out : Bool) : Core :=
  let p := { p with hdr := hset (hset p.hdr 251 249 7) 245 245 1 }
  let k := (k.cnt Reg.FRT_ESC_MOVE_CNT).emitLim 0x1002 0x0201 0 0 32 [(71, 67, p.inPort)]
  k.escRoute p true out

/-- Forward to a port: to the escape channel at once where it is not ON (R77), dropped without a hop left (R69). DESIGN
CHOICE: the check of TTL comes before the move to escape, also where the escape entry would deliver the packet here
(assumption log 109). -/
def Core.forward (k : Core) (p : Packet) (o : Nat) : Core :=
  if p.ttlOut then k.dropPkt p 3 Reg.FRT_TTL_CNT
  else if k.isOn (.ofl o) then k.enqueue o p.forwarded
  else k.escMove p false

/-- The ports of a mask that are ON, in index order (R76). -/
def Core.onPorts (k : Core) (m : Nat) : List Nat := (bitsOf 32 m).filter (fun n => k.isOn (.ofl n))

/-- The spread hash of R76. -/
def spreadHash (h : BitVec 256) : Nat := (hSrc h ^^^ (hFlow h * 16)) % 2 ^ 18

/-- A routing table entry of version `v` (R74). -/
def Core.rtEntry (k : Core) (v e : Nat) : Nat := k.tbn Reg.FRT_RT_TBL (2 * (262144 * v + e)) 2

/-- Lookup in the version the packet's EPOCH names (R74 to R77). -/
def Core.lookup (k : Core) (p : Packet) : Core :=
  let e := k.rtEntry (hEpoch p.hdr) (hDst p.hdr)
  if !bitAt e 63 then k.dropPkt p 2 Reg.FRT_NOROUTE_CNT
  else match fld e 62 60 with
    | 1 => k.deliver p none
    | 2 => k.forward p (fld e 59 55)
    | 3 =>
      let l := k.onPorts (fld e 31 0)
      if l.isEmpty then (if p.ttlOut then k.dropPkt p 3 Reg.FRT_TTL_CNT else k.escMove p false)
      else k.forward p (l.getD (spreadHash p.hdr % l.length) 0)
    | 4 => k.deliver p (some (fld e 54 51))
    | _ => k.dropPkt p 2 Reg.FRT_NOROUTE_CNT

/-- A packet with CIRC = 1 follows its circuit or is looked up (R78, R79). -/
def Core.circuit (k : Core) (p : Packet) : Core :=
  let e := k.tbn Reg.FRT_CIRC_TBL (2 * hget p.hdr 82 71) 2
  if bitAt e 63 && decide (fld e 62 58 = p.inPort ∧ fld e 51 38 = hFlow p.hdr ∧ fld e 37 20 = hDst p.hdr) then
    if bitAt e 57 then k.deliver p none else k.forward p (fld e 56 52)
  else (k.cnt Reg.FRT_CIRC_MISS_CNT).lookup p

/-- Route a packet that passed the checks. -/
def Core.route (k : Core) (p : Packet) : Core :=
  if hVc p.hdr = 7 then k.escRoute p false false
  else if hget p.hdr 246 246 = 1 then k.circuit p
  else k.lookup p

/-- The checks of R68 on a packet from a port, and the drop of an open version (R84); then its route. -/
def Core.routeRx (k : Core) (p : Packet) : Core :=
  let h := p.hdr
  let esc := hget h 245 245
  if hget h 255 252 ≠ 1 ∨ hdrCrc h ≠ hget h 15 0 then k.dropPkt p 1 Reg.FRT_BADHDR_CNT
  else if hVc h = 6 then k.dropPkt p 6 Reg.FRT_VC6_CNT
  else if hType h > 5 ∨ vcAllows (hVc h) (hType h) = false ∨ (esc = 1) ≠ (hVc h = 7) ∨ p.slots ≠ hLen h + 1 then
    k.dropPkt p 1 Reg.FRT_BADHDR_CNT
  else if bitAt k.frt.ep.wopen (hEpoch h) then k.dropPkt p 4 Reg.FRT_STALE_CNT
  else k.route p

/-- The router takes a packet from port `n`: its slots are freed for credit (R59), its version counts it (R83). -/
def Core.takeRx (k : Core) (n : Nat) (p : Packet) : Core :=
  let q := k.port n
  let vc := hVc p.hdr
  let k := k.setPort n { q with rxq := q.rxq.drop 1
                                freedOut := q.freedOut.set 0 vc ((q.freedOut.get 0 vc + p.slots + 1) % 4096) }
  { k with frt := { k.frt with ep := k.frt.ep.enter (hEpoch p.hdr) } }

/-- A descriptor beyond the 16 the authenticator holds waits in VC5 credit (15_boot_config R430). -/
def Core.descFull (k : Core) : Bool := decide (16 < k.frt.desc.length)

/-- A packet some word of whose payload had a parity error (R70). -/
def Packet.parity (p : Packet) (bad : Bool) : Packet := if bad then { p with hdr := hset p.hdr 247 247 1 } else p

/-- Has the router a packet to take from a source? -/
def Core.routerBusy (k : Core) (src : Nat) : Bool :=
  k.isOn .router &&
  (if src < 32 then !(k.port src).rxq.isEmpty &&
      (k.isOn (.ofl src) || k.fst (.ofl src) == .draining || k.fst (.ofl src) == .faulted)
    else !k.frt.own.isEmpty)

/-- The router takes and handles the next packet of a source: port 0 to 31, or 32 for the gateway's own units; `bad` where a
FIFO word of its payload failed its parity check (01_architecture R17). -/
def Core.routerTake (k : Core) (src : Nat) (bad : Bool) : Core :=
  if !k.routerBusy src then k
  else if src < 32 then
    match (k.port src).rxq with
    | [] => k
    | p :: _ =>
      let k' := (k.takeRx src p).routeRx (({ p with inPort := src } : Packet).parity bad)
      if k'.descFull then k else k'
  else
    match k.frt.own with
    | [] => k
    | p :: rest =>
      let k' := ({ k with frt := { k.frt with own := rest } } : Core).route (({ p with inPort := 32 } : Packet).parity bad)
      if k'.descFull then k else k'

/-! ### Drain and loss of a port (R64, R65) -/

/-- Packets waiting at a port that is no longer ON move to escape (R77). -/
def Core.requeueEsc (k : Core) (n : Nat) : Core :=
  let q := k.port n
  let l := ((List.range 8).map (fun v => q.txq.get [] v)).flatten
  let k := k.setPort n { q with txq := {} }
  l.foldl (fun k x => if hVc x.pkt.hdr = 7 then k.escRoute x.pkt true true else k.escMove x.pkt true) k

/-- A packet cut off in transmission is in flight no more. -/
def Core.cutTx (k : Core) (n : Nat) : Core :=
  let q := k.port n
  let k := k.setPort n { q with cur := [], curEp := 2 }
  if q.curEp < 2 then ({ k with frt := { k.frt with ep := k.frt.ep.leave q.curEp k.now } } : Core).routerChk else k

/-- OFF after a drain: what is unacknowledged is discarded (R64). -/
def Core.oflOff (k : Core) (n : Nat) : Core :=
  let q := k.port n
  let k := k.setPort n { q with link := 0, unacked := [], replay := [] }
  let k := k.cutTx n
  k.fnDrained (.ofl n) stOk (Core.oflCheck n) (Core.oflStart n)

/-- A DRAINING port is drained when the router sends nothing more to it and every slot is acknowledged (R64). -/
def Core.oflDrainChk (k : Core) (n : Nat) : Core :=
  let q := k.port n
  if k.fst (.ofl n) = .draining ∧ q.unacked = [] ∧ q.cur = [] then k.oflOff n else k

/-- Entering DRAINING: the router stops sending to the port; packets not yet started move on (R77). -/
def Core.oflDrain (n : Nat) (k : Core) : Core := (k.requeueEsc n).oflDrainChk n

/-- A port that is up goes down (R65). -/
def Core.portDown (k : Core) (n cause : Nat) : Core :=
  if k.fst (.ofl n) = .on ∨ k.fst (.ofl n) = .draining then
    let q := k.port n
    let d := q.unacked.length
    let k := k.fnFault (.ofl n) stOk
    let k := k.setPort n { q with link := 0, cause := cause, unacked := [], replay := [], rxPart := none }
    let k := (k.cutTx n).requeueEsc n
    k.emit (0x0800 + n) 0x0101 [(3, 0, cause), (47, 16, d)]
  else k

/-! ### Link blocks (R56 to R62, R73) -/

/-- Slots a packet needs (R58). -/
def slotsOf (p : Packet) : Nat := p.slots + 1

/-- The credit the transmitter holds on a channel (R59). -/
def OflPort.credit (q : OflPort) (v : Nat) : Nat :=
  q.peerBuf.get 0 v - (q.sent.get 0 v + 4096 - q.freedIn.get 0 v) % 4096

/-- The packet a channel would start: of its inputs' heads that have not waited the escape timeout (01_architecture R25; on VC7
there is none), the first at or after the output port's pointer. `dead` is the time from which a head waited that long. -/
def OflPort.pick (q : OflPort) (dead : Option Nat) (v : Nat) : Option QPkt :=
  let l := (qHeads (q.txq.get [] v)).filter (fun x => v == 7 || !(dead.any (fun t => decide (x.headT ≤ t))))
  (rrPick 33 q.rrIn (fun i => l.any (fun x => x.pkt.inPort == i))).bind (fun i => l.find? (fun x => x.pkt.inPort == i))

/-- Has the channel a packet ready, with credit for all its slots? -/
def OflPort.ready (q : OflPort) (dead : Option Nat) (v : Nat) : Bool :=
  (q.pick dead v).any (fun x => decide (slotsOf x.pkt ≤ q.credit v))

def OflPort.headSlots (q : OflPort) (dead : Option Nat) (v : Nat) : Nat := ((q.pick dead v).map (fun x => slotsOf x.pkt)).getD 0

/-- The weight of a channel (R87). -/
def Core.vcWeight (k : Core) (n v : Nat) : Nat :=
  if 1 ≤ v ∧ v ≤ 4 then k.fd (Reg.FPC_P_VCW0 n) (8 * v - 1) (8 * v - 8)
  else if v = 5 then k.fd (Reg.FPC_P_VCW1 n) 7 0
  else if v = 6 then k.fd (Reg.FPC_P_VCW1 n) 15 8
  else 0

/-- The ready weighted channels whose deficit covers their head packet, the largest deficit first served; a tie by the
rotating pointer (R73 item 3, R24). -/
def bestDeficit (q : OflPort) (dead : Option Nat) (w : Nat → Nat) : Option Nat :=
  let cand := [1, 2, 3, 4, 5, 6].filter (fun v =>
    q.ready dead v && decide (0 < w v ∧ q.headSlots dead v ≤ q.deficit.get 0 v))
  let m := cand.foldl (fun m v => max m (q.deficit.get 0 v)) 0
  rrPick 8 q.rr (fun v => cand.contains v && q.deficit.get 0 v == m)

/-- Deficit rounds until one covers its head packet (R73 item 4): a head packet has at most 65 slots, a round adds
four at least. -/
def deficitRounds (dead : Option Nat) (w : Nat → Nat) : Nat → OflPort → OflPort × Option Nat
  | 0, q => (q, none)
  | n + 1, q =>
    match bestDeficit q dead w with
    | some v => (q, some v)
    | none =>
      deficitRounds dead w n { q with deficit := [1, 2, 3, 4, 5, 6].foldl (fun d v =>
        if q.ready dead v then d.upd 0 v (· + 4 * w v) else d) q.deficit }

/-- The channel that starts the next packet (R73), with the deficits after the choice: a channel with no packet has its
deficit at 0, one that only lacks credit keeps it. -/
def OflPort.choose (q : OflPort) (dead : Option Nat) (w : Nat → Nat) : OflPort × Option Nat :=
  if q.ready dead 7 then (q, some 7)
  else if q.ready dead 0 && decide ((q.vc0win.filter id).length ≤ 32) then (q, some 0)
  else
    let q := { q with deficit := [1, 2, 3, 4, 5, 6].foldl (fun d v =>
      if (q.txq.get [] v).isEmpty then d.set 0 v 0 else d) q.deficit }
    if [1, 2, 3, 4, 5, 6].any (fun v => q.ready dead v && decide (0 < w v)) then
      match deficitRounds dead w 18 q with
      | (q, some v) => ({ q with deficit := q.deficit.upd 0 v (· - q.headSlots dead v), rr := (v + 1) % 8 }, some v)
      | (q, none) => (q, none)
    else
      match rrPick 8 q.rr (fun v => decide (1 ≤ v ∧ v ≤ 6) && q.ready dead v) with
      | some v => ({ q with rr := (v + 1) % 8 }, some v)
      | none => (q, none)

/-- The slots of a packet: header, data flits, the last one marked (R56, R58). -/
def pktSlots (p : Packet) : List (Nat × List Byte) :=
  (1, padTo 64 (beBytes 32 p.hdr.toNat)) ::
    (List.range p.slots).map (fun i => (if i + 1 = p.slots then 3 else 2, slice p.data (64 * i) 64))

/-- Heads that came to the head of their queue at this time or before are past the escape timeout (R80); none while the
router, which moves them, is OFF. -/
def Core.escDead (k : Core) : Option Nat :=
  let t := 10 * k.fd Reg.FRT_ESC_TIMEOUT 15 0
  if k.isOff .router || decide (k.now < t) then none else some (k.now - t)

/-- Start the next packet, when one may start. -/
def Core.startPkt (k : Core) (n : Nat) : Core :=
  let r := (k.port n).choose k.escDead (k.vcWeight n)
  match r.2.bind (fun v => (r.1.pick k.escDead v).map (fun x => (v, x))) with
  | none => k.setPort n r.1
  | some (v, x) =>
    let ep := if x.pkt.inPort < 32 then hEpoch x.pkt.hdr else 2
    k.setPort n { r.1 with txq := r.1.txq.set [] v (qRest k.now x.pkt.inPort (r.1.txq.get [] v)), rrIn := (x.pkt.inPort + 1) % 33
                           cur := pktSlots x.pkt, curEp := ep, curVc := v
                           sent := r.1.sent.set 0 v ((r.1.sent.get 0 v + slotsOf x.pkt) % 4096) }

/-- One more slot is sent: does VC0 use it? (R73 item 2; an idle slot is a slot sent that VC0 does not use.) -/
def Core.slotSent (k : Core) (n : Nat) (vc0 : Bool) : Core :=
  k.setPort n { k.port n with vc0win := (vc0 :: (k.port n).vc0win).take 256 }

/-- The next slot sent: a replayed one, the next of the packet in work, the first of a new one, or idle (none). -/
def Core.nextSlot (k : Core) (n : Nat) : Core × Option TxSlot :=
  let q := k.port n
  match q.replay with
  | s :: rest => ((k.setPort n { q with replay := rest }).slotSent n (s.vc == 0), some s)
  | [] =>
    if 2048 ≤ q.unacked.length then (k.slotSent n false, none)
    else
      let k := if q.cur.isEmpty && k.isOn (.ofl n) then k.startPkt n else k
      let q := k.port n
      match q.cur with
      | [] => (k.slotSent n false, none)
      | (t, d) :: rest =>
        let s : TxSlot := { lsn := q.nextLsn, typ := t, vc := q.curVc, data := d, t := k.now }
        let k := k.setPort n { q with cur := rest, nextLsn := (q.nextLsn + 1) % 4096, unacked := q.unacked ++ [s] }
        let k := k.slotSent n (q.curVc == 0)
        (if rest.isEmpty then k.cutTx n else k, some s)

/-- The eight slots of a block. -/
def Core.blockSlots (n : Nat) : Nat → Core → Core × List (Option TxSlot)
  | 0, k => (k, [])
  | i + 1, k =>
    let r := k.nextSlot n
    let r2 := Core.blockSlots n i r.1
    (r2.1, r.2 :: r2.2)

/-- A link block from its slots and trailer fields (R56). -/
def mkBlock (slots : List (Option TxSlot)) (first ack nak cra crca crb crcb : Nat) : List Byte :=
  let body := (slots.map (fun s => match s with | some s => padTo 64 s.data | none => List.replicate 64 0)).flatten
  let types := slots.foldl (fun a s => a * 4 + (match s with | some s => s.typ | none => 0)) 0
  let tr := args [(127, 116, first), (115, 104, ack), (103, 103, nak), (102, 87, types), (86, 84, cra), (83, 72, crca),
                  (71, 69, crb), (68, 57, crcb)]
  let b := body ++ beBytes 12 (tr >>> 32)
  b ++ beBytes 4 (crc32 b)

/-- A codeword's symbols dealt to lane `l` (R53), ahead of them the lane's alignment marker every 16,384 codewords. -/
def laneSyms (port l cw : Nat) (w : List Nat) : List Nat :=
  (if cw % 16384 = 0 then (List.range 12).map (fun i => Config.fabMarker l port / 2 ^ (10 * i) % 1024) else []) ++
    (w.zipIdx.filter (fun s => s.2 % 4 == l)).map Prod.fst

/-- A block goes through the code onto the four lanes. -/
def OflPort.encode (q : OflPort) (port : Nat) (blk : List Byte) : OflPort :=
  let r := rsWords 560 16 rsTab16 2 (q.fecBits ++ lineBits blk)
  { q with fecBits := r.2, fecCw := q.fecCw + r.1.length, lastBlk := blk
           laneOut := (List.range 4).map (fun l => (r.1.zipIdx.map (fun w => laneSyms port l (q.fecCw + w.2) w.1)).flatten) }

/-- The port enters ON and UP (R64): the peer's buffers are its credit. -/
def Core.linkUp (k : Core) (n : Nat) : Core :=
  let q := k.port n
  let k := k.setPort n { q with link := 3, tries := 0, sent := {}, freedIn := {}, freedOut := {}, crcRun := 0, parmTx := [] }
  (k.setFst (.ofl n) .on stOk).emit (0x0800 + n) 0x0100 [(31, 0, (k.now - q.enT) / 1000)]

/-- PARAM ends (R54, R64): all four lanes work, 16 consecutive blocks passed, the peer's parameters are received and
acknowledged. -/
def Core.paramChk (k : Core) (n : Nat) : Core :=
  let q := k.port n
  if q.link = 2 ∧ q.laneOk = 15 ∧ 16 ≤ q.goodRun ∧ q.parms = true ∧ q.parmAck = true then k.linkUp n else k

/-- The transmitter sends the next block (R56 to R60, R64, R511): in PARAM idle slots only, with the port's own parameters
and the acknowledgement of the peer's, once it has them. How those travel the spec does not say. -/
def Core.sendBlock (k : Core) (n : Nat) : Core :=
  let up := k.fst (.ofl n) == .on || k.fst (.ofl n) == .draining
  let r := if up then Core.blockSlots n 8 k
    else ((List.range 8).foldl (fun (k : Core) _ => k.slotSent n false) k, List.replicate 8 none)
  let k := r.1
  let q := k.port n
  let used := r.2.filterMap id
  let first := match used with
    | s :: _ => s.lsn
    | [] => Config.freeField k.free % 4096
  let blk := mkBlock r.2 first ((q.expLsn + 4095) % 4096) q.nakDue.toNat q.crStep (q.freedOut.get 0 q.crStep)
    (4 + q.crStep) (q.freedOut.get 0 (4 + q.crStep))
  let k := if q.nakDue then k.cnt (Reg.FPC_P_NAK_CNT n) else k
  let k := k.cum (Reg.FPC_P_TXFLIT_LO n) (used.filter (fun s => decide (2 ≤ s.typ))).length
  let q := { q with nakDue := false, crStep := (q.crStep + 1) % 4 }
  let q := if q.link = 2 then { q with parmTx := (List.range 8).map (k.rxBuf n), parmAck := q.parms } else q
  (k.fresh.setPort n (q.encode n blk)).paramChk n

/-- A replay starts (R62): at MAX_REPLAY replays without progress the port goes down with cause RETRY. DESIGN CHOICE: for
every slot replayed the wait of ACK_TIMEOUT starts again with the replay (assumption log 108). -/
def Core.startReplay (k : Core) (n : Nat) : Core :=
  let q := k.port n
  if q.unacked.isEmpty then k
  else
    let k := k.cnt (Reg.FPC_P_REPLAY_CNT n)
    let un := q.unacked.map (fun s => { s with t := k.now })
    let k := k.setPort n { q with replays := q.replays + 1, unacked := un, replay := un }
    if k.fd (Reg.FPC_P_LLCFG n) 19 16 ≤ q.replays + 1 then k.portDown n 2 else k

/-- Slots up to and including the acknowledged LSN leave the retry buffer; progress ends a run of replays. -/
def OflPort.acked (q : OflPort) (lsn : Nat) : OflPort :=
  let covered := fun (s : TxSlot) => decide ((lsn + 4096 - s.lsn) % 4096 < 2048)
  let un := q.unacked.filter (fun s => !covered s)
  { q with unacked := un, replay := q.replay.filter (fun s => !covered s)
           replays := if un.length < q.unacked.length then 0 else q.replays }

/-- An accepted slot joins the packet being received (R58, R68). -/
def OflPort.slotIn (q : OflPort) (typ : Nat) (d : List Byte) : OflPort :=
  match typ with
  | 1 => { q with rxq := q.rxq ++ q.rxPart.toList
                  rxPart := some { hdr := BitVec.ofNat 256 (beNat (d.take 32)), data := [], slots := 0, inPort := 0 } }
  | _ =>
    match q.rxPart with
    | none => q
    | some p =>
      let p := { p with data := p.data ++ d, slots := p.slots + 1 }
      if typ = 3 then { q with rxPart := none, rxq := q.rxq ++ [p] } else { q with rxPart := some p }

/-- One NAK, and none further until a block starts with the expected LSN (R61). -/
def OflPort.nak (q : OflPort) : OflPort := if q.nakOut then q else { q with nakOut := true, nakDue := true }

/-- A slot of a good block by the cases of R61. -/
def Core.rxSlot (k : Core) (n lsn typ : Nat) (d : List Byte) : Core :=
  let q := k.port n
  let dist := (q.expLsn + 4096 - lsn) % 4096
  if dist = 0 then
    let k := k.setPort n { q.slotIn typ d with expLsn := (q.expLsn + 1) % 4096 }
    if 2 ≤ typ then k.cum (Reg.FPC_P_RXFLIT_LO n) 1 else k
  else if dist ≤ 2048 then k
  else k.setPort n q.nak

def blkType (tr i : Nat) : Nat := fld tr (102 - 2 * i) (101 - 2 * i)

/-- The slots of a good block in order, LSNs counted from FIRST_LSN over the non-idle ones (R57). -/
def Core.rxSlots (k : Core) (n : Nat) (blk : List Byte) (tr : Nat) : Core :=
  ((List.range 8).foldl (fun (a : Core × Nat) i =>
    let t := blkType tr i
    if t = 0 then a else (a.1.rxSlot n a.2 t (slice blk (64 * i) 64), (a.2 + 1) % 4096)) (k, fld tr 127 116)).1

/-- A good block of a port in PARAM (R64). -/
def Core.rxParam (k : Core) (n : Nat) (parms : Option (List Nat)) : Core :=
  let q := k.port n
  let q := match parms with
    | some l => { q with parms := true, peerBuf := (List.range 8).foldl (fun m v => m.set 0 v (l.getD v 0)) {} }
    | none => q
  let q := { q with goodRun := q.goodRun + 1 }
  (k.setPort n q).paramChk n

/-- A good block of a port that is up (R59, R61, R62). -/
def Core.rxUp (k : Core) (n : Nat) (blk : List Byte) : Core :=
  let tr := beNat (slice blk 512 16)
  let q := (k.port n).acked (fld tr 115 104)
  let q := { q with crcRun := 0
                    freedIn := (q.freedIn.set 0 (fld tr 86 84) (fld tr 83 72)).set 0 (fld tr 71 69) (fld tr 68 57) }
  let hasSlot := (List.range 8).any (fun i => blkType tr i != 0)
  let q := if hasSlot && fld tr 127 116 == q.expLsn then { q with nakOut := false } else q
  let k := (k.setPort n q).rxSlots n blk tr
  let k := if bitAt tr 103 then k.startReplay n else k
  k.oflDrainChk n

/-- A block that fails its CRC (R61 step 1, R65). -/
def Core.rxBad (k : Core) (n : Nat) : Core :=
  let k := k.cnt (Reg.FPC_P_CRC_CNT n)
  let q := k.port n
  let q := { q with crcRun := q.crcRun + 1, goodRun := 0 }
  let k := k.setPort n (if q.link = 3 then q.nak else q)
  if 64 ≤ q.crcRun then k.portDown n 4 else k

/-- A received block. -/
def Core.rxBlock (k : Core) (n : Nat) (blk : List Byte) (parms : Option (List Nat)) : Core :=
  let good := decide (crc32 (blk.take 524) = beNat (slice blk 524 4))
  match (k.port n).link with
  | 2 => if good then k.rxParam n parms else k.rxBad n
  | 3 => if good then k.rxUp n blk else k.rxBad n
  | _ => k

/-! ### Registers of the ports and the router (R87, R89 to R91) -/

/-- FPC_Pnn_CTRL.EN written 1 or 0 (R87, R434). -/
def Core.oflCmd (k : Core) (n : Nat) (en : Bool) : Core × Nat :=
  if en then
    if !bitAt k.svc.ofl n then (k, stRange)
    else
      let r := k.fnEnable (.ofl n) (Core.oflCheck n) (Core.oflStart n)
      (if r.2 = stOk then r.1.wr (Reg.FPC_P_CTRL n) 1 else r.1, r.2)
  else
    let r := k.fnDisable (.ofl n) (Core.oflDrain n) (fun k => k.setPort n { k.port n with link := 0 })
    (if r.2 = stOk then r.1.wr (Reg.FPC_P_CTRL n) 0 else r.1, r.2)

/-- A write of a register of port `n`. -/
def Core.fpcWrite (k : Core) (n a v : Nat) : Core × Nat :=
  if a = Reg.FPC_P_CTRL n then k.oflCmd n (bitAt v 0)
  else if k.isOff (.ofl n) then k.rw a v
  else (k, stBusy)

/-- FRT_EPOCH written (R84, R86): WCLOSE first, then CUR. -/
def Core.epochWrite (k : Core) (v : Nat) : Core × Nat :=
  let e := k.frt.ep
  let wo := e.wopen &&& (3 - fld v 13 12)
  let e := { e with wopen := wo }
  let c := fld v 0 0
  let k := { k with frt := { k.frt with ep := e } }
  if c = e.cur then (k, stOk)
  else if bitAt wo c then (k, stBusy)
  else
    (({ k with frt := { k.frt with ep := { e with cur := c, idle := setBit e.idle c false } } } : Core).emit
      0x1000 0x0202 [(0, 0, c)], stOk)

/-- FRT_EPOCH as read (R89). -/
def Core.epochRead (k : Core) : Nat :=
  let e := k.frt.ep
  args [(9, 8, e.wopen), (5, 4, setBit e.idle e.cur false), (0, 0, e.cur)]

/-- Version `v` has had no packet in flight for 10 us (R83). -/
def Core.epochIdleEv (k : Core) (v : Nat) : Core :=
  let e := k.frt.ep
  if v ≠ e.cur ∧ e.infl v = 0 ∧ e.zt v + 10000 ≤ k.now then
    { k with frt := { k.frt with ep := { e with idle := setBit e.idle v true } } }
  else k

/-- An entry's low word waits for its high word (R85). -/
def Core.lowHeld (k : Core) (win w : Nat) : Option Word := k.frt.low.get none (tkey win w)

def Core.holdLow (k : Core) (win w : Nat) (v : Option Word) : Core :=
  { k with frt := { k.frt with low := k.frt.low.set none (tkey win w) v } }

/-- Both words of an entry take effect (R85). -/
def Core.putEntry (k : Core) (win w hi : Nat) : Core :=
  let k := match k.lowHeld win (w - 1) with
    | some l => k.tbw win (w - 1) l.toNat
    | none => k
  (k.tbw win w hi).holdLow win (w - 1) none

/-- A word of the routing table (R84, R85). -/
def rtWrite (k : Core) (w v : Nat) : Core × Nat :=
  let ver := w / 524288
  let e := k.frt.ep
  if ver ≠ e.cur ∧ (bitAt e.idle ver = true ∨ bitAt e.wopen ver = true) then
    let k := { k with frt := { k.frt with ep := { e with wopen := setBit e.wopen ver true } } }
    if w % 2 = 0 then (k.holdLow Reg.FRT_RT_TBL w (some (word v)), stOk)
    else (k.putEntry Reg.FRT_RT_TBL w (v &&& 0xFFF80000), stOk)
  else (k, stEpochBusy)

/-- A word of the circuit table (R85, R91). -/
def circWrite (k : Core) (w v : Nat) : Core × Nat :=
  if w % 2 = 0 then (k.holdLow Reg.FRT_CIRC_TBL w (some (word (v &&& 0xFFF00000))), stOk)
  else if bitAt v 31 && bitAt (k.tb Reg.FRT_CIRC_TBL w) 31 then (k, stBusy)
  else (k.putEntry Reg.FRT_CIRC_TBL w v, stOk)

/-- A word of the escape table: only while the router is OFF (R82). -/
def escWrite (k : Core) (w v : Nat) : Core × Nat :=
  if k.isOff .router then (k.tbw Reg.FRT_ESC_TBL w (v &&& 0xDFDFDFDF), stOk) else (k, stBusy)

/-- BOOT_FCMD: ENABLE or DISABLE of the router (15_boot_config R438, R511). -/
def Core.routerCmd (k : Core) (cmd : Nat) : Core × Nat :=
  match cmd with
  | 1 => k.fnEnable .router (fun _ => stOk) (fun k => k.setFst .router .on stOk)
  | 2 => k.fnDisable .router Core.routerChk id
  | _ => (k, stRange)

/-- The router's own registers. -/
def Core.frtWrite (k : Core) (a v : Nat) : Core × Nat :=
  if a = Reg.FRT_EPOCH then k.epochWrite v
  else if a = Reg.FRT_ESC_PORTDIR then (if k.isOff .router then k.rw a v else (k, stBusy))
  else k.rw a v

/-! ### The commands -/

/-- FPC_PORT_ENABLE (R64, R72, R87). -/
def execFpcPortEnable (n : Fin 32) (s : State) : Host.Outcome State Fault Refusal :=
  .next (s.mgmt (Reg.FPC_P_STAT n) (fun k => k.oflCmd n true))

/-- FPC_PORT_DISABLE (R64, R87). -/
def execFpcPortDisable (n : Fin 32) (s : State) : Host.Outcome State Fault Refusal :=
  .next (s.mgmt (Reg.FPC_P_STAT n) (fun k => k.oflCmd n false))

/-- The lanes of a port in TRAINING are trained: PARAM (R64). Markers more than 64 ns apart cannot be deskewed (R53). -/
def Core.linkTrainedEv (k : Core) (n skew : Nat) : Core :=
  let p := k.port n
  if k.fst (.ofl n) = .starting ∧ p.link = 1 ∧ skew ≤ 64 then
    k.setPort n { p with link := 2, laneOk := 15, t0 := k.now, goodRun := 0, parms := false, parmTx := [], parmAck := false
                         fecBits := [], fecCw := 0 }
  else k

/-- LINK_TRAINED (R64). -/
def execLinkTrained (n : Fin 32) (s : State) (skew : Nat := 0) : Host.Outcome State Fault Refusal :=
  .next (s.onCore (fun k => k.linkTrainedEv n skew))

/-- A limit of R64 has passed: TRAINING again, or FAULTED after three failed attempts. -/
def Core.linkTimeoutEv (k : Core) (n : Nat) : Core :=
  let p := k.port n
  let lim := if p.link = 1 then 100000000 else 1000000
  if k.fst (.ofl n) = .starting ∧ p.t0 + lim ≤ k.now then
    if 2 ≤ p.tries then (k.fnFault (.ofl n) stOk).setPort n { p with tries := p.tries + 1, link := 0, cause := 3 }
    else k.setPort n { p with tries := p.tries + 1, link := 1, laneOk := 0, t0 := k.now }
  else k

/-- LINK_STATE_TIMEOUT (R64). -/
def execLinkStateTimeout (n : Fin 32) (s : State) : Host.Outcome State Fault Refusal :=
  .next (s.onCore (fun k => k.linkTimeoutEv n))

/-- FPC_DRAIN_TIMEOUT (R64): a port DRAINING for 2 ms goes to OFF. -/
def execFpcDrainTimeout (n : Fin 32) (s : State) : Host.Outcome State Fault Refusal :=
  .next (s.onCore (fun k =>
    if k.fst (.ofl n) = .draining ∧ (k.fn (.ofl n)).since + 2000000 ≤ k.now then k.oflOff n else k))

/-- LINK_BLOCK_TX (R56 to R60, R73): a port in PARAM or UP sends its next block. -/
def execLinkBlockTx (n : Fin 32) (s : State) : Host.Outcome State Fault Refusal :=
  .next (s.onCore (fun k => if 2 ≤ (k.port n).link then k.sendBlock n else k))

/-- LINK_BLOCK_RX (R57, R59, R61, R62, R64). -/
def execLinkBlockRx (n : Fin 32) (blk : List Byte) (parms : Option (List Nat)) (s : State) :
    Host.Outcome State Fault Refusal :=
  .next (s.onCore (fun k => k.rxBlock n blk parms))

/-- The oldest unacknowledged slot has waited ACK_TIMEOUT (R62). -/
def Core.ackTimeoutEv (k : Core) (n : Nat) : Core :=
  match (k.port n).unacked with
  | [] => k
  | s :: _ => if s.t + 10 * k.fd (Reg.FPC_P_LLCFG n) 15 0 ≤ k.now then k.startReplay n else k

/-- ACK_TIMEOUT (R62). -/
def execAckTimeout (n : Fin 32) (s : State) : Host.Outcome State Fault Refusal :=
  .next (s.onCore (fun k => k.ackTimeoutEv n))

/-- LANE_LOSS (R54, R65): the lane is no longer trained; a port that is up goes down with cause LANE. -/
def execLaneLoss (n : Fin 32) (lane : Fin 4) (s : State) : Host.Outcome State Fault Refusal :=
  .next (s.onCore (fun k =>
    let p := k.port n
    (k.setPort n { p with laneOk := setBit p.laneOk lane false }).portDown n 1))

/-- A head of a channel's queues at port `n` has waited the escape timeout (R80). -/
def Core.escTimeoutEv (k : Core) (n vc : Nat) : Core :=
  let q := k.port n
  let l := q.txq.get [] vc
  match (qHeads l).find? (fun x => k.escDead.any (fun t => decide (x.headT ≤ t))) with
  | none => k
  | some x =>
    if vc < 7 then (k.setPort n { q with txq := q.txq.set [] vc (qRest k.now x.pkt.inPort l) }).escMove x.pkt true else k

/-- ESC_TIMEOUT (R80, R81). -/
def execEscTimeout (n : Fin 32) (vc : Fin 8) (s : State) : Host.Outcome State Fault Refusal :=
  .next (s.onCore (fun k => k.escTimeoutEv n vc))

/-- BOOT_FCMD written by management: its status shows in BOOT_STAT (15_boot_config R438); busy while the router's domain
does not answer (R508). -/
def State.bootFcmd (s : State) (cmd : Nat) : State × Nat :=
  if s.answers then
    let r := s.core.routerCmd cmd
    (s.onCore (fun k => (k.routerCmd cmd).1), r.2)
  else (s, if cmd = 1 ∨ cmd = 2 then stBusy else stRange)

def State.bootSt (r : State × Nat) : State := { r.1 with aon := r.1.aon.wrf Reg.BOOT_STAT 7 0 r.2 }

/-- ROUTER_ENABLE (R511). -/
def execRouterEnable (s : State) : Host.Outcome State Fault Refusal := .next (State.bootSt (s.bootFcmd 1))

/-- ROUTER_DISABLE (R511). -/
def execRouterDisable (s : State) : Host.Outcome State Fault Refusal := .next (State.bootSt (s.bootFcmd 2))

/-- EPOCH_WCLOSE (R84, R86): FRT_EPOCH is written. -/
def execEpochWclose (val : Word) (s : State) : Host.Outcome State Fault Refusal :=
  .next (s.mgmt Reg.FRT_STAT (fun k => k.epochWrite val.toNat))

/-- EPOCH_SET_CUR (R86): FRT_EPOCH is written. -/
def execEpochSetCur (val : Word) (s : State) : Host.Outcome State Fault Refusal :=
  .next (s.mgmt Reg.FRT_STAT (fun k => k.epochWrite val.toNat))

/-- EPOCH_IDLE (R83). -/
def execEpochIdle (v : Fin 2) (s : State) : Host.Outcome State Fault Refusal :=
  .next (s.onCore (fun k => k.epochIdleEv v))

/-- RT_TBL_WRITE (R84, R85, R90). -/
def execRtTblWrite (val : Word) (s : State) : Host.Outcome State Fault Refusal :=
  .next (s.mgmtWin Reg.FRT_STAT Reg.FRT_RT_TBL 1048576 rtWrite val.toNat)

/-- CIRC_TBL_WRITE (R85, R91). -/
def execCircTblWrite (val : Word) (s : State) : Host.Outcome State Fault Refusal :=
  .next (s.mgmtWin Reg.FRT_STAT Reg.FRT_CIRC_TBL 8192 circWrite val.toNat)

end Sys2Proof.Machine
end

