-- ==== Sys2Proof/Machine/Net.lean ====
section
/-!
DEFINITION. What several units send: segment headers and AADs (11_line_framing R307, R308), GCC messages (R327), control
messages (04_flows R109, 05_collectives R151), the site lookup (14_sites R388), and cipher requests (08_cipher R235,
R236).
-/

namespace Sys2Proof.Machine

/-! ### Identity and configuration words -/

/-- This gateway's site and index (14_sites R387, R408). -/
def Core.mySite (k : Core) : Nat := k.fd Reg.FRT_SITE 9 6
def Core.gw (k : Core) : Nat := k.fd Reg.FRT_SITE 5 0

/-- A 64-bit flow context word at byte offset `off` (04_flows R95, R115). -/
def Core.fctx (k : Core) (f off : Nat) : Nat := k.tbn Reg.FCS_CTX_TBL (64 * f + off / 4) 2

/-- Field [hi:lo] of a flow context word. -/
def Core.ff (k : Core) (f off hi lo : Nat) : Nat := fld (k.fctx f off) hi lo

def Core.setFctx (k : Core) (f off v : Nat) : Core :=
  (k.tbw Reg.FCS_CTX_TBL (64 * f + off / 4) v).tbw Reg.FCS_CTX_TBL (64 * f + off / 4 + 1) (v >>> 32)

abbrev Core.fKind (k : Core) (f : Nat) : Nat := k.ff f 0 63 60
abbrev Core.fVc (k : Core) (f : Nat) : Nat := k.ff f 0 59 57
abbrev Core.fOwner (k : Core) (f : Nat) : Nat := k.ff f 0 56 51
abbrev Core.fPeerSite (k : Core) (f : Nat) : Nat := k.ff f 0 50 47
abbrev Core.fLocalEid (k : Core) (f : Nat) : Nat := k.ff f 0 28 11
abbrev Core.fKeySlot (k : Core) (f : Nat) : Nat := k.ff f 0x28 63 52
abbrev Core.fCmode (k : Core) (f : Nat) : Nat := k.ff f 0x28 51 48
abbrev Core.fTclass (k : Core) (f : Nat) : Nat := k.ff f 0x28 43 40
abbrev Core.fLineFmt (k : Core) (f : Nat) : Nat := k.ff f 0x28 39 35
abbrev Core.fRot (k : Core) (f : Nat) : Nat := k.ff f 0x28 34 34
abbrev Core.fWheyEn (k : Core) (f : Nat) : Nat := k.ff f 0x30 63 63
abbrev Core.fWheyPtr (k : Core) (f : Nat) : Nat := k.ff f 0x30 37 0
abbrev Core.fSeed (k : Core) (f : Nat) : Nat := k.fctx f 0x38
abbrev Core.fLgroup (k : Core) (f : Nat) : Nat := k.ff f 0x40 63 61
abbrev Core.fQueue (k : Core) (f : Nat) : Nat := k.ff f 0x40 60 55
abbrev Core.fCollCtx (k : Core) (f : Nat) : Nat := k.ff f 0x40 53 42

/-- Far site of line group `g` (11_line_framing R330). -/
def Core.gPeer (k : Core) (g : Nat) : Nat := k.fd (Reg.LFR_G_CFG g) 15 12

def Core.grp (k : Core) (g : Nat) : LGroup := k.lgrp.get {} g
def Core.setGrp (k : Core) (g : Nat) (x : LGroup) : Core := { k with lgrp := k.lgrp.set {} g x }

/-- ROLE of a queue (09_scheduling R268): 0 UNUSED, 1 COLLECTIVE, 2 BULK. -/
def Core.qRole (k : Core) (g q : Nat) : Nat := k.tbf Reg.SCH_QCFG_TBL (2 * (64 * g + q)) 31 30
def Core.qLimit (k : Core) (g q : Nat) : Nat := k.tbf Reg.SCH_QCFG_TBL (2 * (64 * g + q)) 12 0

/-- The role a flow's queue must have (09_scheduling R254). -/
def Core.fRole (k : Core) (f : Nat) : Nat := if k.fKind f = 2 then 1 else 2

/-- The group slot of line group `g` (08_cipher R249). -/
def Core.gSlot (k : Core) (g : Nat) : Nat := k.fd (Reg.CIP_G_SLOT g) 11 0

def Core.kslot (k : Core) (i : Nat) : KeySlot := k.cip.slots.get {} i
def Core.setKslot (k : Core) (i : Nat) (x : KeySlot) : Core := { k with cip := { k.cip with slots := k.cip.slots.set {} i x } }

def KeySlot.pos (s : KeySlot) (p : Nat) : KeyPos := if p = 0 then s.p0 else s.p1
def KeySlot.setPos (s : KeySlot) (p : Nat) (x : KeyPos) : KeySlot := if p = 0 then { s with p0 := x } else { s with p1 := x }
def KeySlot.empty (s : KeySlot) : Bool := !s.p0.loaded && !s.p1.loaded

/-! ### Segment headers (R307, R308) -/

abbrev tMsg : Nat := 1
abbrev tContrib : Nat := 2
abbrev tResult : Nat := 3
abbrev tStatus : Nat := 4

/-- A header without KEY_EPOCH, IV and TAG, which the cipher engine fills. -/
def segHdr (typ inv flow len site : Nat) (place : List Byte) : List Byte :=
  [byte typ, byte inv] ++ beBytes 2 flow ++ beBytes 3 (len - 1) ++ [byte site] ++ List.replicate 28 0 ++ padTo 28 place

def msgPlace (base size cmpl : Nat) : List Byte := beBytes 6 base ++ beBytes 3 size ++ beBytes 2 cmpl

def collPlace (job incarn seq chunk slot status csum : Nat) : List Byte :=
  beBytes 2 job ++ beBytes 2 incarn ++ beBytes 4 seq ++ beBytes 4 chunk ++ [byte slot, byte status] ++
    List.replicate 6 0 ++ beBytes 8 csum

/-- The AAD: bytes 0 to 7 with RESEND 0, and bytes 36 to 63. -/
def hdrAad (h : List Byte) : List Byte :=
  [byte (byteAt h 0), byte (setFld (byteAt h 1) 6 6 0)] ++ slice h 2 6 ++ slice h 36 28

def shType (h : List Byte) : Nat := byteAt h 0
def shKe (h : List Byte) : Nat := byteAt h 1 / 128
def shInv (h : List Byte) : Nat := byteAt h 1 % 16
def shFlow (h : List Byte) : Nat := beNat (slice h 2 2) % 16384
def shLen (h : List Byte) : Nat := beNat (slice h 4 3) % 131072 + 1
def shSite (h : List Byte) : Nat := byteAt h 7 % 16
def shIv (h : List Byte) : List Byte := slice h 8 12
def shTag (h : List Byte) : List Byte := slice h 20 16
def shBase (h : List Byte) : Nat := beNat (slice h 36 6)
def shSize (h : List Byte) : Nat := beNat (slice h 42 3) % 2097152
def shCmpl (h : List Byte) : Nat := beNat (slice h 45 2)
def shJob (h : List Byte) : Nat := beNat (slice h 36 2)
def shIncarn (h : List Byte) : Nat := beNat (slice h 38 2)
def shSeq (h : List Byte) : Nat := beNat (slice h 40 4)
def shChunk (h : List Byte) : Nat := beNat (slice h 44 4)
def shSlot (h : List Byte) : Nat := byteAt h 48 % 16
def shCsum (h : List Byte) : Nat := beNat (slice h 56 8)

/-- A header with its epoch bit, IV and tag. -/
def hdrFill (h : List Byte) (ke : Nat) (iv tag : List Byte) : List Byte :=
  [byte (byteAt h 0), byte (setFld (byteAt h 1) 7 7 ke)] ++ slice h 2 6 ++ padTo 12 iv ++ padTo 16 tag ++ slice h 36 28

/-! ### Messages on the GCC (R327) -/

/-- A message joins a group's queue; a producer that finds 64 queued waits behind them. -/
def Core.gccSend (k : Core) (g : Nat) (m : List Byte) : Core :=
  let x := k.grp g
  k.setGrp g { x with gcc := x.gcc ++ [padTo 24 m], gccT := if x.gcc.isEmpty then k.now else x.gccT }

/-- The group that carries messages to a site: the lowest-numbered ON group to it, else the lowest-numbered one that is
STARTING or DRAINING, where GCC messages are sent too (R327). -/
def Core.groupTo (k : Core) (s : Nat) : Option Nat :=
  match (List.range 8).find? (fun g => k.isOn (.group g) && k.gPeer g == s) with
  | some g => some g
  | none => (List.range 8).find? (fun g => (k.fst (.group g) == .starting || k.fst (.group g) == .draining) && k.gPeer g == s)

/-- A message to another site's gateway; without a group to the site that sends (R327) it is not sent. -/
def Core.gccTo (k : Core) (s : Nat) (m : List Byte) : Core :=
  match k.groupTo s with
  | some g => k.gccSend g m
  | none => k

/-! ### Control messages (R109, R151) -/

/-- A 64 B control message to an endpoint; the spec gives the header's FLOW_SEQ and CMPL_ID no value. -/
def Core.sendCtl (k : Core) (dst flow : Nat) (payload : List Byte) : Core :=
  (k.originate 0 4 0 (padTo 64 payload) dst flow (Config.freeField k.free % 2 ^ 48) (Config.freeField (k.free + 1) % 65536)
    0).fresh.fresh

/-- CMPL_ACK and CMPL_NACK of a record. -/
def Core.sendCmpl (k : Core) (op status flow cmpl base missing dst : Nat) : Core :=
  k.sendCtl dst flow ([byte op, byte status] ++ beBytes 2 flow ++ beBytes 2 cmpl ++ beBytes 6 base ++
    List.replicate 4 0 ++ beBytes 32 missing)

/-- The fields COLL_ABORT and COLL_STATUS share (R151). -/
def collBody (status job incarn step seq chunk site failed cmpl : Nat) : List Byte :=
  [byte status] ++ beBytes 2 job ++ beBytes 2 incarn ++ beBytes 4 step ++ beBytes 4 seq ++ beBytes 4 chunk ++
    [byte site] ++ beBytes 4 failed ++ beBytes 2 cmpl

/-! ### The site lookup (R388) -/

/-- Entry `s` of version `v`. -/
def Core.srt (k : Core) (v s : Nat) : Nat := k.tb Reg.FRT_SRT_TBL (16 * v + s)

/-- May an item for site `s` of flow `f` leave on group `g` under version `v`? -/
def Core.siteOk (k : Core) (v s g f : Nat) : Bool :=
  let e := k.srt v s
  bitAt e 31 && !bitAt e 30 && k.isOn (.group g) && k.gPeer g == s && k.qRole g (k.fQueue f) == k.fRole f

/-- The lookup: version and group, or nothing, counted. -/
def Core.stampSite (k : Core) (s f : Nat) : Core × Option (Nat × Nat) :=
  let v := k.frt.sep.cur
  let g := fld (k.srt v s) 2 0
  if k.siteOk v s g f then
    ({ k with frt := { k.frt with sep := k.frt.sep.enter v } }, some (v, g))
  else (k.cnt Reg.FRT_SITE_DROP_CNT, none)

/-- An item of version `v` was wholly sent or discarded (R390). -/
def Core.itemGone (k : Core) (v : Nat) : Core := { k with frt := { k.frt with sep := k.frt.sep.leave v k.now } }

/-! ### Requests (R226, R235, R236) -/

def Core.reqQ (k : Core) (q : Nat) : List Req := k.cip.queues.get [] q

def Core.setReqQ (k : Core) (q : Nat) (l : List Req) : Core :=
  { k with cip := { k.cip with queues := k.cip.queues.set [] q l } }

/-- Requests whose producers wait move up as queue `q` has room: it holds 256 (R235). -/
def Core.fillReqQ (k : Core) (q : Nat) (l : List Req) : Core :=
  let w := l ++ k.cip.qwait.get [] q
  { k with cip := { k.cip with queues := k.cip.queues.set [] q (w.take 256), qwait := k.cip.qwait.set [] q (w.drop 256) } }

/-- A request joins queue `q`; a producer whose queue is full waits behind it (R235). -/
def Core.pushReq (k : Core) (q : Nat) (r : Req) : Core :=
  let w := k.cip.qwait.get [] q
  if (k.reqQ q).length < 256 ∧ w = [] then k.setReqQ q (k.reqQ q ++ [r])
  else { k with cip := { k.cip with qwait := k.cip.qwait.set [] q (w ++ [r]) } }

/-- Invocations of at most 65,536 B. -/
def cut64k : Nat → List Byte → List (List Byte)
  | 0, _ => []
  | n + 1, d => if d.isEmpty then [] else d.take 65536 :: cut64k n (d.drop 65536)

def invocations (d : List Byte) : List (List Byte) := cut64k (d.length / 65536 + 1) d

/-- An encryption of one invocation for site `s`: looked up, stamped and queued on its group (R388, R235). `slot` is
the key slot to use, none for the group slot; `mk` builds its header's TYPE and PLACE. Pointers the spec gives no value
are free. -/
def Core.encrypt (k : Core) (s f : Nat) (slot : Option Nat) (typ inv : Nat) (place : List Byte) (use : ReqUse) (src : Nat)
    (data : List Byte) : Core :=
  match k.stampSite s f with
  | (k, none) => k
  | (k, some (v, g)) =>
    let h := segHdr typ inv f data.length k.mySite place
    let r : Req :=
      { op := 1, slot := slot.getD (k.gSlot g), epoch := 0, owner := if slot.isSome then k.fOwner f else 0
        flow := if slot.isSome then f else 0x3FFF, use := use, src := src
        dst := Config.freeField k.free % 2 ^ 64, aadPtr := Config.freeAadPtr (k.free + 1), data := data, hdr := h
        g := g, ver := v }
    (k.pushReq g r).fresh.fresh

/-! ### Peers of a key slot (08_cipher R242, R245) -/

/-- The flows that are not OFF. -/
def Core.liveFlows (k : Core) : List Nat :=
  k.fns.cells.filterMap (fun c => if 0x10000 ≤ c.1 ∧ c.1 < 0x14000 ∧ c.2.fst ≠ .off then some (c.1 - 0x10000) else none)

/-- The groups whose group slot is `i`. -/
def Core.slotGroups (k : Core) (i : Nat) : List Nat :=
  (List.range 8).filter (fun g => bitAt (k.rd (Reg.CIP_G_SLOT g)) 31 && k.gSlot g == i)

/-- The flows that use slot `i`, not OFF. -/
def Core.slotFlows (k : Core) (i : Nat) : List Nat :=
  k.liveFlows.filter (fun f => k.fKind f != 2 && k.fKeySlot f == i)

/-- Peers of a slot, as sites. -/
def Core.keyPeers (k : Core) (i : Nat) : List Nat :=
  (((k.slotFlows i).map k.fPeerSite) ++ ((k.slotGroups i).map k.gPeer)).eraseDups

/-- Are all of a slot's peers in a mask? -/
def Core.peersIn (k : Core) (i mask : Nat) : Bool := (k.keyPeers i).all (fun s => bitAt mask s)

/-- ACK_WAIT: it is over once RETIRED_ACK holds every peer the slot has (R245). -/
def Core.ackOpen (k : Core) (i : Nat) : Bool := (k.kslot i).ackWait && !k.peersIn i (k.kslot i).rack

/-- An ACK_WAIT that is over ends for good before the slot gains a peer. -/
def Core.ackSettle (k : Core) (i : Nat) : Core := k.setKslot i { k.kslot i with ackWait := k.ackOpen i }

end Sys2Proof.Machine
end

