-- ==== Sys2Proof/Machine/Ctx.lean ====
section
/-!
DEFINITION. Collective context words (05_collectives R121), chunks, rank descriptors (06_compression R171), poisoned
memory, and what the transform engine does with blocks: table banks, skimmers, expanders and the press (R160 to R191).
-/

namespace Sys2Proof.Machine

/-! ### Contexts -/

/-- A 64-bit context word at byte offset `off`. -/
def Core.cc (k : Core) (x off : Nat) : Nat := k.tbn Reg.CLE_CTX_TBL (32 * x + off / 4) 2

def Core.cf (k : Core) (x off hi lo : Nat) : Nat := fld (k.cc x off) hi lo

def Core.setCc (k : Core) (x off v : Nat) : Core :=
  (k.tbw Reg.CLE_CTX_TBL (32 * x + off / 4) v).tbw Reg.CLE_CTX_TBL (32 * x + off / 4 + 1) (v >>> 32)

def Core.setCf (k : Core) (x off hi lo v : Nat) : Core := k.setCc x off (setFld (k.cc x off) hi lo v)

abbrev Core.cJob (k : Core) (x : Nat) : Nat := k.cf x 0 63 48
abbrev Core.cIncarn (k : Core) (x : Nat) : Nat := k.cf x 0 47 32
abbrev Core.cNslot (k : Core) (x : Nat) : Nat := k.cf x 0 31 27
abbrev Core.cSelf (k : Core) (x : Nat) : Nat := k.cf x 0 26 23
abbrev Core.cAlgo (k : Core) (x : Nat) : Nat := k.cf x 0 22 22
abbrev Core.cDepth (k : Core) (x : Nat) : Nat := k.cf x 0 21 16
abbrev Core.cOwner (k : Core) (x : Nat) : Nat := k.cf x 0 15 10
def Core.slotSite (k : Core) (x s : Nat) : Nat := k.cf x 8 (4 * s + 3) (4 * s)
abbrev Core.cArith (k : Core) (x : Nat) : Arith := arithOf (k.cf x 0x10 31 0)
abbrev Core.cElems (k : Core) (x : Nat) : Nat := k.cf x 0x18 39 0
abbrev Core.cFlow (k : Core) (x : Nat) : Nat := k.cf x 0x20 63 50
abbrev Core.cCrBase (k : Core) (x : Nat) : Nat := k.cf x 0x20 49 34
abbrev Core.cResEid (k : Core) (x : Nat) : Nat := k.cf x 0x20 33 16
abbrev Core.cResCmpl (k : Core) (x : Nat) : Nat := k.cf x 0x28 63 48
abbrev Core.cNotify (k : Core) (x : Nat) : Nat := k.cf x 0x28 47 30
abbrev Core.cAbortEid (k : Core) (x : Nat) : Nat := k.cf x 0x28 29 12
abbrev Core.cTmo (k : Core) (x : Nat) : Nat := k.cf x 0x30 63 48
abbrev Core.cSeq (k : Core) (x : Nat) : Nat := k.cf x 0x40 63 32
abbrev Core.cStep (k : Core) (x : Nat) : Nat := k.cf x 0x40 31 0
abbrev Core.cChunks (k : Core) (x : Nat) : Nat := k.cf x 0x50 63 32
abbrev Core.cGranted (k : Core) (x : Nat) : Nat := k.cf x 0x50 31 0
abbrev Core.cReleased (k : Core) (x : Nat) : Nat := k.cf x 0x58 63 32
abbrev Core.cChecked (k : Core) (x : Nat) : Nat := k.cf x 0x58 31 0

/-- Elements of the step in progress: the shard map's where its entry was taken (10_timetable_time R290). -/
def Core.xElems (k : Core) (x : Nat) : Nat :=
  let e := (k.cle.runs.get {} x).elems
  if e = 0 then k.cElems x else e

/-- Elements of chunk `c`, and its pats (R124). -/
def Core.chunkElems (k : Core) (x c : Nat) : Nat := min 16384 (k.xElems x - 16384 * c)
def Core.chunkPats (k : Core) (x c : Nat) : Nat := (k.chunkElems x c + 1023) / 1024

/-- Member slots other than this gateway's. -/
def Core.others (k : Core) (x : Nat) : List Nat := (List.range (k.cNslot x)).filter (fun s => s != k.cSelf x)

/-- The owner's slot of chunk `c` under SCATTER, and whether this gateway reduces it (R120, R128). -/
def Core.ownerSlot (k : Core) (x c : Nat) : Nat := c % k.cNslot x
def Core.reduces (k : Core) (x c : Nat) : Bool := k.cAlgo x == 0 || k.ownerSlot x c == k.cSelf x

def Core.run (k : Core) (x : Nat) : CtxRun := k.cle.runs.get {} x

def Core.setRun (k : Core) (x : Nat) (f : CtxRun → CtxRun) : Core :=
  { k with cle := { k.cle with runs := k.cle.runs.upd {} x f } }

/-! ### Lateness (10_timetable_time R292) -/

/-- A reference contribution of site `s` was sent, or admitted, in global slot `slot`. -/
def Core.lateRef (k : Core) (x s slot : Nat) : Core :=
  k.setRun x (fun r => { r with ref := r.ref.set 0 s (slot + 1) })

/-- The last chunk of the step of which slot `t`'s member is the reducer (DIRECT: the last chunk). -/
def Core.lastReduced (k : Core) (x t : Nat) : Option Nat :=
  let n := k.cChunks x
  if k.cAlgo x = 0 then (if n = 0 then none else some (n - 1))
  else ((List.range (min n (k.cNslot x))).map (fun i => n - 1 - i)).find? (fun c => c % k.cNslot x == t)

/-- An owner under SCATTER: its own reference is its last local chunk admitted, not a contribution it sends. -/
def Core.scatterOwner (k : Core) (x : Nat) : Bool := k.cAlgo x == 1 && (k.lastReduced x (k.cSelf x)).isSome

/-! ### Chunks -/

def Chunk.is (h : Chunk) (x c : Nat) : Bool := h.x == x && h.c == c

def Core.chunk (k : Core) (x c : Nat) : Option Chunk := k.cle.chunks.find? (·.is x c)

def Core.updChunk (k : Core) (x c : Nat) (f : Chunk → Chunk) : Core :=
  { k with cle := { k.cle with chunks := k.cle.chunks.map (fun h => if h.is x c then f h else h) } }

def Core.addChunk (k : Core) (h : Chunk) : Core := { k with cle := { k.cle with chunks := k.cle.chunks ++ [h] } }

def Core.dropChunk (k : Core) (x c : Nat) : Core :=
  { k with cle := { k.cle with chunks := k.cle.chunks.filter (fun h => !h.is x c) } }

/-! ### Poisoned memory (07_buffers_memory R214, R217, R218) -/

/-- Does [a, a + n) of memory read back poisoned: a poisoned word, a retired slice, or a faulted controller? -/
def Core.poisoned (k : Core) (a n : Nat) : Bool :=
  k.psnIn a n ||
  (decide (hbmBase ≤ a) && (k.hbc.allPoison || (decide (0 < k.sliceSize) && !k.sliceOn ((a - hbmBase) / k.sliceSize))))

/-- Poison of each element of `b` bytes in [a, a + n * b). -/
def Core.elemPsn (k : Core) (a b : Nat) : Nat → List Bool
  | 0 => []
  | n + 1 => k.poisoned a b :: k.elemPsn (a + b) b n

/-- Poison of the `n` elements of a contribution of a format at `a`: an element takes the poison of the 32 B words it
lies in, its block's scale byte included (02_arithmetic R49). -/
def Core.fmtPsn (k : Core) (code a n : Nat) : List Bool :=
  match fmtOf code with
  | some (f, true, _) =>
    let z := 1 + 4 * f.bits
    (List.range n).map (fun i =>
      let b := a + (i / 32) * z
      k.poisoned b 1 || k.poisoned (b + 1 + (i % 32) * f.bits / 8) ((i % 32 * f.bits % 8 + f.bits + 7) / 8))
  | some (f, false, _) => k.elemPsn a (f.bits / 8) n
  | none => []

/-! ### Rank descriptors (R171) -/

def Core.rkWord (k : Core) (d w : Nat) : Nat := k.tb Reg.XFM_RANK_TBL (16 * d + w)
def Core.rkValid (k : Core) (d : Nat) : Bool := bitAt (k.rkWord d 0) 31
def Core.rkR (k : Core) (d : Nat) : Nat := fld (k.rkWord d 0) 23 16
def Core.rkG (k : Core) (d : Nat) : Nat := fld (k.rkWord d 0) 11 0
def Core.rkQ (k : Core) (d : Nat) : Nat := fld (k.rkWord d 1) 23 12
def Core.rkP (k : Core) (d : Nat) : Nat := fld (k.rkWord d 1) 11 0
def Core.rkM (k : Core) (d : Nat) : Nat := fld (k.rkWord d 2) 24 0
def Core.rkN (k : Core) (d : Nat) : Nat := fld (k.rkWord d 3) 24 0
def Core.rkGPtr (k : Core) (d : Nat) : Nat := fld (k.rkWord d 4 + 2 ^ 32 * k.rkWord d 5) 37 0
def Core.rkQPtr (k : Core) (d : Nat) : Nat := fld (k.rkWord d 6 + 2 ^ 32 * k.rkWord d 7) 37 0
def Core.rkInit (k : Core) (d : Nat) : Nat := k.rkWord d 8 + 2 ^ 32 * k.rkWord d 9

/-- The valid descriptor that names context `x` by a role. -/
def Core.rkBy (k : Core) (role : Core → Nat → Nat) (x : Nat) : Option Nat :=
  (List.range 64).find? (fun d => k.rkValid d && role k d == x)

def Core.rkAny (k : Core) (x : Nat) : Option Nat :=
  (List.range 64).find? (fun d => k.rkValid d && (k.rkG d == x || k.rkP d == x || k.rkQ d == x))

def Core.rank (k : Core) (d : Nat) : Rank := k.xfm.ranks.get {} d
def Core.setRank (k : Core) (d : Nat) (r : Rank) : Core := { k with xfm := { k.xfm with ranks := k.xfm.ranks.set {} d r } }

/-- Field of word 10 of a descriptor: LAST_ST [15:8], DEFICIENT [7:0]. -/
def Core.rkSet (k : Core) (d hi lo v : Nat) : Core := k.tbwf Reg.XFM_RANK_TBL (16 * d + 10) hi lo v

/-- Word 10 as read: ROUND from the step in progress. -/
def Core.rankRead (k : Core) (w : Nat) : Nat :=
  let v := k.tb Reg.XFM_RANK_TBL w
  if w % 16 = 10 then setFld v 31 29 (k.rank (w / 16)).round else v

/-- The checks of R172 on a descriptor whose word 0 becomes `w0`. -/
def Core.rankCheck (k : Core) (d w0 : Nat) : Nat :=
  let r := fld w0 23 16
  let g := fld w0 11 0
  let p := k.rkP d
  let q := k.rkQ d
  let m := k.rkM d
  let n := k.rkN d
  let named := fun x => (List.range 64).any (fun e => e != d && k.rkValid e && (k.rkG e == x || k.rkP e == x || k.rkQ e == x))
  if !(k.isOff (.ctx g) && k.isOff (.ctx p) && k.isOff (.ctx q)) then stBusy
  else if r < 4 ∨ 128 < r ∨ r % 4 ≠ 0 ∨ m < r ∨ n < r ∨ 2 ^ 24 < m ∨ 2 ^ 24 < n ∨ 2 ^ 40 - 1 < m * n then stRange
  else if g = p ∨ g = q ∨ p = q ∨ named g ∨ named p ∨ named q then stRange
  else if k.rkGPtr d % 4096 ≠ 0 ∨ k.rkQPtr d % 4096 ≠ 0 then stAlign
  else if k.usableHbm (k.rkGPtr d) (((m * n + 16383) / 16384) * 33792) = false ∨
      k.usableHbm (k.rkQPtr d) (n * r * 4) = false then stRange
  else stOk

/-- A descriptor word written (R172, R193): word 10's fields are read-only, reserved words take nothing; the other words
are taken while the descriptor is not VALID. A refusal shows in the window's LAST_ST; LAST_ST of word 10 is of rounds that
ended (R171). DEDUCED: with VALID = 0 the three contexts are those the descriptor names before the write (assumption
log 90). -/
def rankWrite (k : Core) (w v : Nat) : Core × Nat :=
  let d := w / 16
  let masks := [0x80FF0FFF, 0x00FFFFFF, 0x01FFFFFF, 0x01FFFFFF, 0xFFFFFFFF, 0x3F, 0xFFFFFFFF, 0x3F, 0xFFFFFFFF,
    0xFFFFFFFF]
  match w % 16 with
  | 0 =>
    if bitAt v 31 then
      let st := k.rankCheck d v
      if st = stOk then ((k.tbw Reg.XFM_RANK_TBL w (v &&& 0x80FF0FFF)).setRank d {}, stOk)
      else if st = stBusy then (k, stBusy)
      else (k.tbw Reg.XFM_RANK_TBL w (v &&& 0x00FF0FFF), st)
    else if !(k.isOff (.ctx (k.rkG d)) && k.isOff (.ctx (k.rkP d)) && k.isOff (.ctx (k.rkQ d))) then (k, stBusy)
    else ((k.tbw Reg.XFM_RANK_TBL w (v &&& 0x00FF0FFF)).setRank d {}, stOk)
  | i =>
    if 10 ≤ i then (k, stRange)
    else if k.rkValid d then (k, stBusy)
    else (k.tbw Reg.XFM_RANK_TBL w (v &&& masks.getD i 0), stOk)

/-! ### Table banks (R184 to R187, R193) -/

def Core.bank (k : Core) (cls b : Nat) : Bank := k.xfm.banks.get {} (2 * cls + b)
def Core.setBank (k : Core) (cls b : Nat) (x : Bank) : Core :=
  { k with xfm := { k.xfm with banks := k.xfm.banks.set {} (2 * cls + b) x } }

def Core.bankWord0 (k : Core) (cls b : Nat) : Nat := k.tb Reg.XFM_CLS_TBL (256 * (2 * cls + b))
def Core.bankGen (k : Core) (cls b : Nat) : Nat := fld (k.bankWord0 cls b) 3 0
def Core.bankEcl (k : Core) (cls b : Nat) : Nat := fld (k.bankWord0 cls b) 5 4

/-- The 256 counts of a bank. -/
def Core.bankCounts (k : Core) (cls b : Nat) : List Nat :=
  (List.range 256).map (fun s =>
    fld (k.tb Reg.XFM_CLS_TBL (256 * (2 * cls + b) + 1 + s / 2)) (if s % 2 = 0 then 11 else 27) (if s % 2 = 0 then 0 else 16))

/-- The encode bank of a class. -/
def Core.encBank (k : Core) (cls : Nat) : Option Nat :=
  [0, 1].find? (fun b => (k.bank cls b).valid && (k.bank cls b).enc)

/-- The loaded bank of a class that holds a generation. -/
def Core.genBank (k : Core) (cls gen : Nat) : Option Nat :=
  [0, 1].find? (fun b => (k.bank cls b).valid && k.bankGen cls b == gen)

/-! ### Ciphertext in receive staging -/

/-- The verified bytes of a message or contribution from the first on, invocation by invocation (08_cipher R226). -/
def msgPrefix (raw : List (Nat × List Byte)) : Nat → Nat → List Byte
  | 0, _ => []
  | n + 1, i => match raw.find? (fun p => p.1 == i) with
    | some p => p.2 ++ msgPrefix raw n (i + 1)
    | none => []

/-- What the key of a whole staged item's epoch makes of its ciphertext; none while that key is not loaded. -/
def Core.itemPlain (k : Core) (i : RxItem) : Option (List Byte) :=
  let s := k.kslot (if shType i.hdr = tMsg then k.fKeySlot (shFlow i.hdr) else k.gSlot i.g)
  let p := s.pos i.ke
  if i.done && p.loaded then some (gcmDecrypt p.key (shIv i.hdr) (hdrAad i.hdr) i.ct (shTag i.hdr)).1 else none

/-! ### Segments in work -/

def Core.xseg (k : Core) (id : Nat) : Option XSeg := k.xfm.segs.find? (fun s => s.id == id)

def Core.dropSeg (k : Core) (f : XSeg → Bool) : Core :=
  let ids := (k.xfm.segs.filter f).map (·.id)
  let keep := fun (b : XBlk) => !ids.contains b.seg
  { k with xfm := { k.xfm with segs := k.xfm.segs.filter (fun s => !f s), skimQ := k.xfm.skimQ.filter keep,
                               expQ := k.xfm.expQ.filter keep, pressQ := k.xfm.pressQ.filter keep } }

/-- A unit finished block `idx` of segment `id`: poisoned or not. -/
def Core.segDone (k : Core) (id idx : Nat) (d : List Byte) (psn : Bool) : Core :=
  { k with xfm := { k.xfm with segs := k.xfm.segs.map (fun s =>
      if s.id = id then { s with done := s.done ++ [(idx, d, psn)] } else s) } }

/-- The blocks of a finished segment in index order. -/
def XSeg.inOrder (s : XSeg) : List (List Byte × Bool) :=
  (List.range s.n).filterMap (fun i => (s.done.find? (fun d => d.1 == i)).map (fun d => d.2))

/-- A new segment of `blocks`; which queue they join is the caller's. -/
def Core.newSeg (k : Core) (flow : Nat) (use : XUse) (n : Nat) : Core × Nat :=
  ({ k with xfm := { k.xfm with segs := k.xfm.segs ++ [{ id := k.xfm.segNext, flow := flow, use := use, n := n }]
                                segNext := k.xfm.segNext + 1 } }, k.xfm.segNext)

def mkBlks (flow id : Nat) (blocks : List (List Byte × Bool)) : List XBlk :=
  blocks.zipIdx.map (fun b => { flow := flow, seg := id, idx := b.2, data := b.1.1, psn := b.1.2 })

/-- Blocks of 4,096 B of a string wait for the skimmers (R178, R185). -/
def Core.skimStart (k : Core) (flow : Nat) (use : XUse) (d : List Byte) : Core :=
  let bs := (rawBlocks d).map (fun b => (b, false))
  let r := k.newSeg flow use bs.length
  { r.1 with xfm := { r.1.xfm with skimQ := r.1.xfm.skimQ ++ mkBlks flow r.2 bs } }

/-- Coded blocks, each with whether it reads poisoned, wait for the expanders (R189). -/
def Core.expStart (k : Core) (flow : Nat) (use : XUse) (blocks : List (List Byte × Bool)) : Core :=
  let r := k.newSeg flow use blocks.length
  { r.1 with xfm := { r.1.xfm with expQ := r.1.xfm.expQ ++ mkBlks flow r.2 blocks } }

/-- Jobs of the press, in order (R190). -/
def Core.pressStart (k : Core) (flow : Nat) (use : XUse) (jobs : List (List Byte)) : Core :=
  let r := k.newSeg flow use jobs.length
  { r.1 with xfm := { r.1.xfm with pressQ := r.1.xfm.pressQ ++ mkBlks flow r.2 (jobs.map (fun b => (b, false))) } }

/-! ### Coding and decoding one block -/

/-- A block with no encode bank in its class (a RANK flow's, whose ENABLE asks for none): zero or raw, of the ECLASS of
BF16, in which G is coded (R174; DEDUCED, assumption log 90). -/
def skimBare (d : List Byte) : List Byte :=
  if d.length = 4096 ∧ d.all (· == 0) then lsHeader 2 1 0 16 d.length 0 0 else rawBlock 1 d

/-- A skimmer codes a block with the encode bank of the flow's class (R182, R185); the counters of R194, and the flow's
GEN. -/
def Core.skimOne (k : Core) (flow : Nat) (d : List Byte) : Core × List Byte :=
  let cls := k.fTclass flow
  match k.encBank cls with
  | none => (k, skimBare d)
  | some b =>
    let base := 64 * k.free
    let r := lsEncode (k.bankCounts cls b) (k.bankEcl cls b) (k.bankGen cls b)
      (fun l => Config.freeLaneState (base + l)) d
    let k := k.fresh
    let k := k.setFctx flow 0x28 (setFld (k.fctx flow 0x28) 47 44 (k.bankGen cls b))
    (match r.2 with
      | .big => k.cnt Reg.XFM_RAW_BLK_CNT
      | .nosym => k.cnt Reg.XFM_NOSYM_CNT
      | _ => k, r.1)

/-- What stands in `n` bytes delivered as poisoned data: free. -/
def Core.poisonBytes (k : Core) (n : Nat) : Core × List Byte × Bool :=
  ({ k with free := k.free + n }, (List.range n).map (fun i => byte (Config.freeField (k.free + i))), true)

/-- An expander decodes a block (R183, R185): the bytes, and whether they are poisoned. `e` is the expander. -/
def Core.expandOne (k : Core) (e flow : Nat) (b : List Byte) : Core × List Byte × Bool :=
  let n := lsRawLen b
  let cls := k.fTclass flow
  match lsMode b with
  | 0 => (k, slice b 16 n, false)
  | 2 => (k, List.replicate n 0, false)
  | 1 =>
    (match k.genBank cls (lsGen b) with
      | none =>
        ((k.cnt Reg.XFM_NOGEN_CNT).emitLim (0x2830 + e) 0x0502 0 16 16
          [(107, 94, flow), (11, 8, cls), (3, 0, lsGen b)]).poisonBytes 4096
      | some i =>
        match lsDecodeCoded (k.bankCounts cls i) b with
        | some d => (k, d, false)
        | none => (k.cnt Reg.XFM_DECERR_CNT).poisonBytes 4096)
  | _ => (k.cnt Reg.XFM_DECERR_CNT).poisonBytes n

/-! ### Quantization (R161 to R165) -/

/-- WHEY_NONFINITE and its counter (R161, R163). -/
def Core.nonfinite (k : Core) (flow chunk cause : Nat) : Core :=
  (k.cnt Reg.XFM_NONFIN_CNT).emitLim 0x2850 0x0503 0 0 32 [(107, 94, flow), (93, 62, chunk), (61, 61, cause)]

/-- Pieces of 32 values. -/
def chop32 {α : Type} : Nat → List α → List (List α)
  | 0, _ => []
  | n + 1, l => if l.isEmpty then [] else l.take 32 :: chop32 n (l.drop 32)

/-- Values as MX blocks in a line format, non-finite blocks counted; `cause` 0. -/
def Core.quantAll (k : Core) (flow chunk fmt : Nat) (v : List Elem) : Core × List Byte :=
  (chop32 (v.length / 32 + 1) v).foldl (fun (a : Core × List Byte) blk =>
    let r := quantBlock fmt blk
    (if r.2 then a.1.nonfinite flow chunk 0 else a.1, a.2 ++ r.1)) (k, [])

/-- A KIND 0 or 1 message under MX: BF16 payload as blocks, the last padded with zero elements (R157). -/
def msgElems (d : List Byte) : List Elem :=
  let v := decodeElems 1 (d.length / 2) d
  v ++ List.replicate ((32 - v.length % 32) % 32) (.fin false 0 0)

/-- The payload of `size` bytes delivered from MX blocks: each element rounded to BF16, a non-finite one as 0x7FC0; the
last byte of an odd size 0 (R157). -/
def msgFromMx (fmt size : Nat) (line : List Byte) : List Byte :=
  padTo size (((decodeElems fmt (size / 2) line).map (fun e =>
    leBytes 2 (match e with | .fin _ _ _ => toBf16 e | _ => 0x7FC0))).flatten)

/-- Bytes of MX blocks that carry a message of `size` bytes. -/
def msgMxBytes (fmt size : Nat) : Nat := fmtBytes fmt (32 * ((size / 2 + 31) / 32))

/-- A message's line bytes leave as encryptions, one per invocation (R225, R226). -/
def Core.msgEncrypt (k : Core) (flow base size cmpl src : Nat) (line : List Byte) : Core :=
  (invocations line).zipIdx.foldl (fun k d =>
    k.encrypt (k.fPeerSite flow) flow (some (k.fKeySlot flow)) tMsg d.2 (msgPlace base size cmpl)
      (.msgOut flow base size cmpl d.2) src d.1) k

/-- A message taken into custody goes to the line under its flow's CMODE (04_flows R112, R157). DESIGN CHOICE: the line
carries no poison tag, so a message whose buffer reads back poisoned (07_buffers_memory R214, R217) is not sent, and its
destination's record times out; and SND_SEQ and BYTES_TX of a KIND 0 or 3 flow count nothing here, as no rule says that a
message sent on the line advances them (assumption log 99). -/
def Core.msgSend (k : Core) (flow base size cmpl src : Nat) : Core :=
  let d := k.mrd (ptrAddr src) size
  if k.poisoned (ptrAddr src) size then k
  else match k.fCmode flow with
  | 1 =>
    let r := k.quantAll flow 0 (k.fLineFmt flow) (msgElems d)
    r.1.msgEncrypt flow base size cmpl src r.2
  | 2 => k.skimStart flow (.msgOut base size cmpl src) d
  | _ => k.msgEncrypt flow base size cmpl src d

/-! ### Whey and the staging of a chunk (R162 to R165) -/

/-- The whey of chunk `c` as exact values, and which of it reads back poisoned (R162). DEDUCED: the first read of each
chunk's whey since the flow's ENABLE reads no HBM and is all zero, as none of it was written since (assumption log 100). -/
def Core.wheyRead (k : Core) (flow c n : Nat) : Core × List Elem × List Bool :=
  let zero := (List.replicate n (.fin false 0 0), List.replicate n false)
  let key := flow * 2 ^ 26 + c
  if k.fWheyEn flow = 0 then (k, zero)
  else if k.xfm.wheyRead.get 0 key = 0 then
    ({ k with xfm := { k.xfm with wheyRead := k.xfm.wheyRead.set 0 key 1 } }, zero)
  else
    let a := hbmBase + k.fWheyPtr flow + 16896 * c
    (k.wheyTraffic (fmtBytes 8 n), decodeElems 8 n (k.mrd a (fmtBytes 8 n)), k.fmtPsn 8 a n)

/-- The new whey of a block: 0 where v or the new whey is not finite. -/
def Core.wheyBlock (k : Core) (flow c : Nat) (v wn : List Elem) : Core × List Byte :=
  if v.any Elem.nonfinite then (k, List.replicate 33 0)
  else if wn.any Elem.nonfinite then (k.nonfinite flow c 1, List.replicate 33 0)
  else (k, (quantBlock 8 wn).1)

/-- The v values of a run of contribution elements: fp32 of the exact sum with the whey. -/
def addWhey (x w : List Elem) : List Nat := List.zipWith elemAdd x w

/-- Runs of 256. -/
def chop256 {α : Type} : Nat → List α → List (List α)
  | 0, _ => []
  | n + 1, l => if l.isEmpty then [] else l.take 256 :: chop256 n (l.drop 256)

/-- Rotate each run of 256, elements counted over the step from `g0`. -/
def rotateRuns (seed step g0 : Nat) (v : List Nat) : List Nat :=
  ((chop256 (v.length / 256 + 1) v).zipIdx.map (fun r => rotate256 seed step (g0 + 256 * r.2) r.1)).flatten

def unrotateRuns (seed step g0 : Nat) (v : List Nat) : List Nat :=
  ((chop256 (v.length / 256 + 1) v).zipIdx.map (fun r => unrotate256 seed step (g0 + 256 * r.2) r.1)).flatten

/-- Store the new whey of a chunk: v, and e = the dequantized form brought back (R163). -/
def Core.wheyStore (k : Core) (flow c : Nat) (v e : List Nat) : Core :=
  if k.fWheyEn flow = 0 then k
  else
    let wn := List.zipWith f32Sub v e
    let r := ((chop32 (v.length / 32 + 1) v).zip (chop32 (v.length / 32 + 1) wn)).foldl
      (fun (a : Core × List Byte) (b : List Nat × List Nat) =>
        let z := a.1.wheyBlock flow c (b.1.map f32Dec) (b.2.map f32Dec)
        (z.1, a.2 ++ z.2)) (k, [])
    (r.1.mwr (hbmBase + k.fWheyPtr flow + 16896 * c) r.2).wheyTraffic r.2.length

end Sys2Proof.Machine
end

