-- ==== Sys2Proof/Machine/Flows.lean ====
section
/-!
DEFINITION. Flow contexts, completion records and the acknowledgement exchange (04_flows R94 to R113): operations. The
commands stand in Machine/FlowCmd.lean.
-/

namespace Sys2Proof.Machine

/-! ### Sequence numbers (R100) -/

def seqAdd (a b : Nat) : Nat := (a + b) % 2 ^ 48
def seqSub (a b : Nat) : Nat := (a + 2 ^ 48 - b % 2 ^ 48) % 2 ^ 48

/-- a is before b in serial order. -/
def seqBefore (a b : Nat) : Bool := decide (1 ≤ seqSub b a ∧ seqSub b a ≤ 2 ^ 47 - 1)

/-- The ranges [a, a + n) and [b, b + m) meet. -/
def seqMeets (a n b m : Nat) : Bool := decide (seqSub b a < n ∨ seqSub a b < m)

/-! ### Records (R103, R115) -/

def Core.cr (k : Core) (id w : Nat) : Nat := k.tbn Reg.FCS_CR_TBL (16 * id + 2 * w) 2

def Core.setCr (k : Core) (id w v : Nat) : Core :=
  (k.tbw Reg.FCS_CR_TBL (16 * id + 2 * w) v).tbw Reg.FCS_CR_TBL (16 * id + 2 * w + 1) (v >>> 32)

def Core.setCrf (k : Core) (id w hi lo v : Nat) : Core := k.setCr id w (setFld (k.cr id w) hi lo v)

abbrev Core.rOpen (k : Core) (id : Nat) : Bool := bitAt (k.cr id 0) 63
abbrev Core.rSend (k : Core) (id : Nat) : Bool := bitAt (k.cr id 0) 62
abbrev Core.rFlow (k : Core) (id : Nat) : Nat := fld (k.cr id 0) 61 48
abbrev Core.rBase (k : Core) (id : Nat) : Nat := fld (k.cr id 0) 47 0
abbrev Core.rSize (k : Core) (id : Nat) : Nat := fld (k.cr id 1) 60 40
abbrev Core.rTries (k : Core) (id : Nat) : Nat := fld (k.cr id 1) 31 28
abbrev Core.rPeer (k : Core) (id : Nat) : Nat := fld (k.cr id 1) 15 0
abbrev Core.rBuf (k : Core) (id : Nat) : Nat := k.cr id 2
abbrev Core.rBytes (k : Core) (id : Nat) : Nat := fld (k.cr id 3) 60 40
abbrev Core.rPoison (k : Core) (id : Nat) : Bool := bitAt (k.cr id 3) 39
abbrev Core.rPkts (k : Core) (id : Nat) : Nat := fld (k.cr id 3) 8 0

/-- MAP as a number of 256 bits. -/
def Core.rMap (k : Core) (id : Nat) : Nat := k.tbn Reg.FCS_CR_TBL (16 * id + 8) 8

def Core.setMap (k : Core) (id m : Nat) : Core :=
  (List.range 8).foldl (fun k i => k.tbw Reg.FCS_CR_TBL (16 * id + 8 + i) (m >>> (32 * i))) k

/-- Packets of a message of `n` bytes, and the bytes of packet `i` (R101). -/
def pktCount (n : Nat) : Nat := (n + 4095) / 4096
def pktLen (n i : Nat) : Nat := min 4096 (n - 4096 * i)

/-- The open records: those whose OPEN bit stands in the store. -/
def Core.openRecs (k : Core) : List Nat :=
  let lo := tkey Reg.FCS_CR_TBL 0
  k.tbl.cells.filterMap (fun c =>
    if lo ≤ c.1 ∧ c.1 < lo + 1048576 ∧ (c.1 - lo) % 16 = 1 ∧ c.2.toNat.testBit 31 then some ((c.1 - lo) / 16) else none)

def Core.flowRecs (k : Core) (f : Nat) : List Nat := k.openRecs.filter (fun id => k.rFlow id == f)

/-! ### Counters of a flow (R95) -/

/-- Add to a saturating field of a context word. -/
def Core.fInc (k : Core) (f off hi lo n : Nat) : Core :=
  k.setFctx f off (setFld (k.fctx f off) hi lo (satAdd (hi + 1 - lo) (k.ff f off hi lo) n))

/-- The record's timer runs out `us` microseconds from now. -/
def Core.recTimer (k : Core) (id us : Nat) : Core :=
  { k with fcs := { k.fcs with recT := k.fcs.recT.set 0 id (k.now + 1000 * us + 1) } }

def Core.recTimerOff (k : Core) (id : Nat) : Core := { k with fcs := { k.fcs with recT := k.fcs.recT.set 0 id 0 } }

/-- Has the record's timer run out? -/
def Core.recTimeUp (k : Core) (id : Nat) : Bool :=
  let t := k.fcs.recT.get 0 id
  decide (t ≠ 0 ∧ t ≤ k.now + 1)

/-- A record opens: words 3 to 7, STATUS and TRIES cleared. -/
def Core.openRec (k : Core) (id : Nat) (send : Bool) (flow base size peer buf : Nat) : Core :=
  let k := k.setCr id 0 (2 ^ 63 + (if send then 2 ^ 62 else 0) + flow * 2 ^ 48 + base % 2 ^ 48)
  let k := (k.setCr id 1 (size * 2 ^ 40 + peer)).setCr id 2 buf
  let k := (k.setCr id 3 0).setMap id 0
  if send then k else k.recTimer id (k.fd Reg.FCS_TIMER 15 0)

/-! ### The enable checks (R97, 06_compression R158) -/

def kindVc (kind vc : Nat) : Bool :=
  match kind with
  | 0 => vc == 2 || vc == 3
  | 1 => vc == 2 || vc == 3
  | 2 => vc == 1
  | 3 => vc == 4
  | 4 => vc == 4
  | _ => false

/-- Reserved bits of the configuration words. -/
def Core.flowRsv (k : Core) (f : Nat) : Nat :=
  k.ff f 0 10 0 + k.ff f 8 63 48 + k.ff f 0x20 63 48 + k.ff f 0x28 33 0 + k.ff f 0x30 62 38 + k.ff f 0x40 54 54 + k.ff f 0x40 41 0

/-- Mode checks of R158. -/
def Core.modeCheck (k : Core) (f : Nat) : Nat :=
  let kind := k.fKind f
  let m := k.fCmode f
  let rot := k.fRot f
  let whey := k.fWheyEn f
  let fmt := k.fLineFmt f
  let x := k.fCollCtx f
  let a := k.cArith x
  let allowed := m = 0 ∨ (m = 1 ∧ kind ≤ 2) ∨ m = 2 ∨ (m = 3 ∧ kind = 2)
  let lsBad : Bool := match k.genBank (k.fTclass f) (k.ff f 0x28 47 44) with
    | none => true
    | some b => kind == 2 && eclassOf a.inFmt != some (k.bankEcl (k.fTclass f) b)
  if ¬ allowed then stRange
  else if m ≠ 1 ∧ (rot = 1 ∨ whey = 1) then stRange
  else if m = 1 ∧ ¬ (0x08 ≤ fmt ∧ fmt ≤ 0x0D) then stRange
  else if m = 1 ∧ kind ≤ 1 ∧ (rot = 1 ∨ whey = 1) then stRange
  else if kind = 2 ∧ (m = 0 ∨ m = 2) ∧ fmt ≠ a.inFmt then stRange
  else if rot = 1 ∧ k.cElems x % 256 ≠ 0 then stRange
  else if rot = 1 ∧ a.op ≠ 0 then stRange
  else if m = 2 ∧ lsBad = true then stRange
  else if m = 3 ∧ (k.rkBy Core.rkG x).isNone then stRange
  else if whey = 1 ∧ k.usableHbm (k.fWheyPtr f) (((k.cElems x + 16383) / 16384) * 16896) = false then stRange
  else stOk

/-- A flow but of KIND 2 uses only a FLOW slot of its own OWNER (08_cipher R246). -/
def Core.flowCheck (f : Nat) (k : Core) : Nat :=
  let kind := k.fKind f
  let s := k.kslot (k.fKeySlot f)
  if kindVc kind (k.fVc f) = false ∨ k.flowRsv f ≠ 0 then stRange
  else if kind ≠ 2 ∧ k.fPeerSite f = k.mySite then stRange
  else if k.isOn (.group (k.fLgroup f)) = false ∨ k.qRole (k.fLgroup f) (k.fQueue f) ≠ k.fRole f then stRange
  else if kind = 2 ∧ k.isOn (.ctx (k.fCollCtx f)) = false then stRange
  else if kind ≠ 2 ∧ (s.empty = true ∨ s.purpose ≠ 0 ∨ s.owner ≠ k.fOwner f) then stSlot
  else if k.fWheyEn f = 1 ∧ k.fWheyPtr f % 4096 ≠ 0 then stAlign
  else if k.fWheyEn f = 1 ∧ k.usableHbm (k.fWheyPtr f) 1 = false then stRange
  else k.modeCheck f

/-- Every check passed (R97). -/
def Core.flowStart (f : Nat) (k : Core) : Core :=
  let k := (k.setFctx f 0x10 (k.fctx f 8)).setFctx f 0x18 (k.fctx f 0x20)
  let k := [0x48, 0x50, 0x58, 0x60, 0x68, 0x70].foldl (fun k off => k.setFctx f off 0) k
  let k := { k with fcs := { k.fcs with ackEnd := k.fcs.ackEnd.set 0 f 0, grantSeq := k.fcs.grantSeq.set 0 f 0,
                                         had := k.fcs.had.filter (fun m => m.1 != f) }
                    xfm := { k.xfm with wheyRead := { cells := k.xfm.wheyRead.cells.filter (fun c => c.1 / 2 ^ 26 != f) } }
                    cip := { k.cip with dels := k.cip.dels.filter (fun d => !(d.key.1 == 1 && d.key.2.1 == f)) } }
  k.setFst (.flow f) .on stOk

/-- A DRAINING flow without an open record is OFF (R98). -/
def Core.flowChk (f : Nat) (k : Core) : Core :=
  if k.fst (.flow f) = .draining ∧ k.flowRecs f = [] then
    k.fnDrained (.flow f) stOk (Core.flowCheck f) (Core.flowStart f)
  else k

/-! ### Completion (R107, R111) -/

/-- RECORD_FAILED, and the count of timed-out records. -/
def Core.recFail (k : Core) (id st : Nat) : Core :=
  let k := if st = stTimeout then k.cnt Reg.FCS_TIMEOUT_CNT else k
  if st = stOk then k
  else k.emit 0x1801 0x0301 [(107, 92, id), (91, 78, k.rFlow id), (77, 70, st), (69, 69, (k.rSend id).toNat), (47, 0, k.rBase id)]

/-- Close a record with its status. -/
def Core.closeRec (k : Core) (id st : Nat) : Core :=
  ((k.recFail id st).setCrf id 0 63 63 0 |>.setCrf id 1 39 32 st).recTimerOff id

/-- The chunk of context `x` whose receive record is `id` (R125). -/
def Core.recChunk (k : Core) (x id : Nat) : Option Chunk :=
  k.cle.chunks.find? (fun h => h.x == x && h.phase == .granted && k.cCrBase x + h.c % k.cDepth x == id)

/-- A chunk is admitted (R126): its contribution is read as received, and the units its mode needs are given their
blocks: the skimmers under LOSSLESS, the press under rotation, both in rank mode (06_compression R163, R174, R185). -/
def Core.admitChunk (k : Core) (x c : Nat) (raw : List Byte) (psn : List Bool) (buf : Option Nat) : Core :=
  let f := k.cFlow x
  let plain := k.fCmode f == 0 || (k.fCmode f == 1 && k.fRot f == 0)
  let k := k.updChunk x c (fun h => { h with phase := .admitted, admT := k.now, raw := raw, rawPsn := psn, buf := buf
                                             ready2 := plain })
  let k := if k.scatterOwner x then k.lateRef x k.mySite (slotOf k.gns) else k
  match k.fCmode f with
  | 1 => if k.fRot f = 1 then k.pressStart f (.contrib x c) (List.replicate (k.chunkPats x c) []) else k
  | 2 => k.skimStart f (.contrib x c) raw
  | 3 =>
    let bf := ((decodeElems (k.cArith x).inFmt (k.chunkElems x c) raw).map (fun e => leBytes 2 (toBf16 e))).flatten
    (k.skimStart f (.gStage x c) bf).pressStart f (.gStage x c) (rawBlocks bf)
  | _ => k

/-- What a completed receive record tells its consumer (R107): the collective engine, or the line send path. DESIGN
CHOICE: a record below 0x8000 on a KIND 2 flow, opened by management, has no consumer; its data and buffer stay management's
(assumption log 97). -/
def Core.notify (k : Core) (id st : Nat) : Core :=
  let f := k.rFlow id
  match k.fKind f with
  | 2 =>
    if id < 0x8000 then k
    else
      let x := k.fCollCtx f
      match k.recChunk x id with
      | none => k.giveBack (some (k.rBuf id)) (k.cOwner x)
      | some h =>
        if st = stOk ∨ st = stPoison then
          let a := ptrAddr (k.rBuf id)
          let fmt := (k.cArith x).inFmt
          k.admitChunk x h.c (k.mrd a (k.rSize id)) (k.fmtPsn fmt a (k.chunkElems x h.c)) (some (k.rBuf id))
        else
          let k := k.giveBack (some (k.rBuf id)) (k.cOwner x)
          { k with cle := { k.cle with failQ := k.cle.failQ ++ [(x, h.c, stTimeout)] } }
  | 0 => if st = stOk then k.msgSend f (k.rBase id) (k.rSize id) id (k.rBuf id) else k
  | 3 => if st = stOk then k.msgSend f (k.rBase id) (k.rSize id) id (k.rBuf id) else k
  | _ => k

/-- A receive record completes (R107, R110). -/
def Core.recvDone (k : Core) (id st : Nat) : Core :=
  let f := k.rFlow id
  let k := k.closeRec id st
  let k := if st = stOk then k.fInc f 0x50 63 32 1 else k.fInc f 0x50 31 0 1
  let k := k.notify id st
  let k := k.sendCmpl 1 st f id (k.rBase id) 0 (k.fLocalEid f)
  k.flowChk f

/-- The earliest of some sequence numbers, in serial order. -/
def seqEarliest : List Nat → Option Nat
  | [] => none
  | a :: l => match seqEarliest l with
    | none => some a
    | some b => some (if seqBefore b a then b else a)

/-- SND_ACK after a completion (R111): `fin` is the end of the record completed. -/
def Core.ackUpdate (k : Core) (f fin : Nat) : Core :=
  let e := k.fcs.ackEnd.get 0 f
  let e := if e = 0 ∨ seqBefore (e - 1) fin then fin + 1 else e
  let k := { k with fcs := { k.fcs with ackEnd := k.fcs.ackEnd.set 0 f e } }
  let v := match seqEarliest (((k.flowRecs f).filter k.rSend).map k.rBase) with
    | some b => b
    | none => e - 1
  k.setFctx f 0x10 (setFld (k.fctx f 0x10) 47 0 v)

/-- The owner class charged for a send record's buffer: the context's for a result, else the flow's. -/
def Core.sendOwner (k : Core) (id : Nat) : Nat :=
  let f := k.rFlow id
  if id < 0xC000 then k.cOwner (k.fCollCtx f) else k.fOwner f

/-- A send record completes (R111). -/
def Core.sendDone (k : Core) (id st : Nat) : Core :=
  let f := k.rFlow id
  let k := k.closeRec id st
  let k := if st = stOk then k.fInc f 0x48 63 32 1 else k.fInc f 0x48 31 0 1
  let k := k.giveBack (some (k.rBuf id)) (k.sendOwner id)
  (k.ackUpdate f (seqAdd (k.rBase id) (k.rSize id))).flowChk f

def Core.recDone (k : Core) (id st : Nat) : Core := if k.rSend id then k.sendDone id st else k.recvDone id st

/-- A flow enters FAULTED (R98): its open records complete at once. -/
def Core.flowFault (k : Core) (f st recSt : Nat) : Core :=
  match k.fst (.flow f) with
  | .off => k
  | .faulted => k
  | _ =>
    let k := k.fnFault (.flow f) st
    (k.flowRecs f).foldl (fun k id => k.recDone id recSt) k

/-! ### Commands to flows (R97 to R99, R114) -/

/-- ENABLE and DISABLE. The acknowledgements of the slot's peers so far are settled before a start adds a peer. -/
def Core.flowCmd (k : Core) (cmd f : Nat) : Core × Nat :=
  match cmd with
  | 1 => let r := (if k.isOff (.flow f) then k.ackSettle (k.fKeySlot f) else k).fnEnable (.flow f) (Core.flowCheck f) (Core.flowStart f); (r.1.fnLast (.flow f) r.2, r.2)
  | 2 => let r := k.fnDisable (.flow f) (Core.flowChk f) id; (r.1.fnLast (.flow f) r.2, r.2)
  | _ => (k, stRange)

/-- The drain limit expires (R98): every record still open completes with ST_TIMEOUT, the flow is OFF. DESIGN CHOICE: the
last record's completion is what moves it OFF, so FLOW_STATE carries ST_OK, and ST_TIMEOUT only where no record was open
(assumption log 98). -/
def Core.flowDrainEv (k : Core) (f : Nat) : Core :=
  if k.fst (.flow f) = .draining ∧ (k.fn (.flow f)).since + 100000 * k.fd Reg.FCS_DRAIN 15 0 ≤ k.now then
    let k := (k.flowRecs f).foldl (fun k id => k.recDone id stTimeout) k
    k.fnDrained (.flow f) stTimeout (Core.flowCheck f) (Core.flowStart f)
  else k

/-- A flow context word written (R96). -/
def fctxWrite (k : Core) (w v : Nat) : Core × Nat :=
  if [0, 1, 4, 5, 6, 7, 8].contains (w % 64 / 2) then
    if k.isOff (.flow (w / 64)) then (k.tbw Reg.FCS_CTX_TBL w v, stOk) else (k, stBusy)
  else (k, stRange)

/-- A flow context word read: reserved bits 0 (R7). -/
def fctxRead (k : Core) (w : Nat) : Nat :=
  let masks : List Nat := [0xFFFFFFFFFFFFF800, 0xFFFFFFFFFFFF, 0xFFFFFFFFFFFF, 0xFFFFFFFFFFFF, 0xFFFFFFFFFFFF,
    0xFFFFFFFC00000000, 0x8000003FFFFFFFFF, 0xFFFFFFFFFFFFFFFF, 0xFFBFFC0000000000]
  let v := k.tb Reg.FCS_CTX_TBL w
  let i := w % 64 / 2
  if i < 9 then v &&& (masks.getD i 0 / 2 ^ (32 * (w % 2))) else if i < 15 then v else 0

/-- The word of a flow's state (R115). -/
def fstRead (k : Core) (f : Nat) : Nat :=
  let x := k.fn (.flow f)
  args [(31, 29, x.fst.code), (28, 28, x.pend.toNat), (7, 0, x.last)]

/-! ### Opening by management or descriptor (R104) -/

/-- The checks at the open; the words are as written. -/
def Core.openCheck (k : Core) (id : Nat) : Core × Nat :=
  let f := k.rFlow id
  let n := k.rSize id
  let b := k.rBase id
  if k.rSend id then (k, stRange)
  else match k.fst (.flow f) with
    | .draining => (k, stPend)
    | .on =>
      if n = 0 ∨ 1048576 < n then (k, stRange)
      else if seqBefore b (k.ff f 0x20 47 0) ||
          (k.flowRecs f).any (fun r => !k.rSend r && seqMeets b n (k.rBase r) (k.rSize r)) then (k, stRange)
      else k.bufOpenCheck (k.rBuf id) (k.fOwner f) n
    | _ => (k, stRange)

/-- A word of the record store written. -/
def crWrite (k : Core) (w v : Nat) : Core × Nat :=
  let id := w / 16
  let masks := [0xFFFFFFFF, 0x7FFFFFFF, 0xF000FFFF, 0x1FFFFFFF, 0xFFFFFFFF, 0xFFFFFFFF]
  if 0x8000 ≤ id then (k, stDenied)
  else if 6 ≤ w % 16 then (k, stRange)
  else if k.rOpen id then (k, stBusy)
  else
    let k := k.tbw Reg.FCS_CR_TBL w (v &&& masks.getD (w % 16) 0)
    if w % 16 = 1 ∧ bitAt v 31 = true then
      let r := k.openCheck id
      if r.2 = stOk then
        (r.1.openRec id false (k.rFlow id) (k.rBase id) (k.rSize id) (k.rPeer id) (k.rBuf id), stOk)
      else r
    else (k, stOk)

/-! ### Accepting a packet (R105, R106) -/

def kindType (kind : Nat) : Option Nat :=
  match kind with
  | 0 => some 0
  | 2 => some 1
  | 3 => some 5
  | _ => none

/-- A refused packet is counted and PACKET_REFUSED logged (R117). -/
def Core.refuse (k : Core) (reason cntReg flow cmpl seq : Nat) : Core :=
  (k.cnt cntReg).emitLim 0x1801 0x0302 reason 0 16 [(107, 104, reason), (103, 90, flow), (89, 74, cmpl), (63, 16, seq)]

def Core.refusePkt (k : Core) (h : BitVec 256) (reason cntReg : Nat) : Core :=
  k.refuse reason cntReg (hFlow h) (hCmpl h) (hSeq h)

/-- Step 7: the payload is written, the map bit set, the counts advance (R105, R106). -/
def Core.takePacket (k : Core) (p : Packet) (f id off : Nat) : Core :=
  let n := payLen p.hdr
  let a := ptrAddr (k.rBuf id) + off
  let psn := hPoison p.hdr == 1
  let k := (k.mwr a p.payload).setPsn a n psn
  let m := k.rMap id
  let k := (k.setMap id (m ||| 2 ^ (off / 4096))).setCrf id 3 60 40 (k.rBytes id + n)
  let k := k.setCrf id 3 8 0 (k.rPkts id + 1)
  let k := if psn then ((k.setCrf id 3 39 39 1).fInc f 0x68 47 32 1).cnt Reg.FCS_POISON_CNT else k
  let fin := seqAdd (hSeq p.hdr) n
  let k := if seqBefore (k.ff f 0x18 47 0) fin then k.setFctx f 0x18 fin else k
  let k := (k.setFctx f 0x70 k.gns).fInc f 0x60 63 0 n
  let k := k.recTimer id (k.fd Reg.FCS_TIMER 15 0)
  if k.rPkts id = pktCount (k.rSize id) ∧ k.rBytes id = k.rSize id then
    k.recvDone id (if k.rPoison id then stPoison else stOk)
  else k

/-- A delivered data packet through the steps of R105. -/
def Core.acceptPkt (k : Core) (p : Packet) : Core :=
  let h := p.hdr
  let f := hFlow h
  let id := hCmpl h
  let live := k.isOn (.flow f) || k.fst (.flow f) == .draining
  if !live || kindType (k.fKind f) != some (hType h) then k.refusePkt h 1 Reg.FCS_NOFLOW_CNT
  else if hSrc h ≠ k.fLocalEid f then k.refusePkt h 2 Reg.FCS_SRC_CNT
  else if !k.rOpen id || k.rSend id || k.rFlow id != f then k.refusePkt h 3 Reg.FCS_STRAY_CNT
  else if 0x8000 ≤ id ∧ hColl h ≠ k.cSeq (k.fCollCtx f) then
    (k.cnt Reg.CLE_SEQ_ERR_CNT).refusePkt h 3 Reg.FCS_STRAY_CNT
  else
    let off := seqSub (hSeq h) (k.rBase id)
    if k.rSize id ≤ off then k.refusePkt h 3 Reg.FCS_STRAY_CNT
    else if off % 4096 ≠ 0 ∨ payLen h ≠ pktLen (k.rSize id) (off / 4096) then k.refusePkt h 4 Reg.FCS_ALIGN_CNT
    else if bitAt (k.rMap id) (off / 4096) then (k.cnt Reg.FCS_DUP_CNT).fInc f 0x68 63 48 1
    else k.takePacket p f id off

/-- The next delivered packet; one routed by ACTION 4 to another site than its flow's is dropped (14_sites R389). -/
def Core.packetEv (k : Core) : Core :=
  match k.frt.data with
  | [] => k
  | d :: rest =>
    let k := { k with frt := { k.frt with data := rest } }
    match d.site with
    | some s => if s ≠ k.fPeerSite (hFlow d.pkt.hdr) then k.cnt Reg.FRT_SITE_DROP_CNT else k.acceptPkt d.pkt
    | none => k.acceptPkt d.pkt

/-! ### NACK and resend (R110, R111) -/

/-- The packets of a record whose MAP bit is 0. -/
def Core.missing (k : Core) (id : Nat) : Nat := (2 ^ pktCount (k.rSize id) - 1) ^^^ (k.rMap id % 2 ^ pktCount (k.rSize id))

def Core.nackEv (k : Core) (id : Nat) : Core :=
  if k.rOpen id && !k.rSend id && k.recTimeUp id then
    let f := k.rFlow id
    if k.rTries id < k.fd Reg.FCS_RETRY 3 0 then
      let k := k.sendCmpl 2 0 f id (k.rBase id) (k.missing id) (k.fLocalEid f)
      let k := ((k.setCrf id 1 31 28 (k.rTries id + 1)).fInc f 0x68 31 16 1).cnt Reg.FCS_NACK_CNT
      k.recTimer id (k.fd Reg.FCS_TIMER 15 0)
    else k.recvDone id stTimeout
  else k

/-- The packet TYPE a send record's flow carries on the fabric, its destination and COLL_SEQ. -/
def Core.sendWay (k : Core) (id : Nat) : Nat × Nat × Nat :=
  let f := k.rFlow id
  match k.fKind f with
  | 2 => (2, k.cResEid (k.fCollCtx f), k.cSeq (k.fCollCtx f))
  | 4 => (5, k.fLocalEid f, 0)
  | _ => (0, k.fLocalEid f, 0)

/-- Send packet `i` of a send record (R112, R136). -/
def Core.sendPkt (k : Core) (id i : Nat) : Core :=
  let f := k.rFlow id
  let n := pktLen (k.rSize id) i
  let a := ptrAddr (k.rBuf id) + 4096 * i
  let (typ, dst, coll) := k.sendWay id
  k.originate (k.fVc f) typ (k.poisoned a n).toNat (k.mrd a n) dst f (seqAdd (k.rBase id) (4096 * i)) (k.rPeer id) coll

/-- The first sending of packet `i`. -/
def Core.sendFirst (k : Core) (id i : Nat) : Core :=
  (k.sendPkt id i).fInc (k.rFlow id) 0x58 63 0 (pktLen (k.rSize id) i)

/-- The chunk whose result record is `id`. -/
def Core.resChunk (k : Core) (id : Nat) : Option Chunk :=
  k.cle.chunks.find? (fun h => h.resPtr.isSome && k.cCrBase h.x + k.cDepth h.x + h.c % k.cDepth h.x == id)

/-- May packet `i` be sent again: a result's packet only once it was sent. -/
def Core.wasSent (k : Core) (id i : Nat) : Bool :=
  match k.resChunk id with
  | some h => h.sent.contains i
  | none => true

/-- A resend round over the packets of a mask (R111). -/
def Core.resend (k : Core) (id mask : Nat) : Core :=
  let l := (bitsOf (pktCount (k.rSize id)) mask).filter (k.wasSent id)
  let k := l.foldl (fun k i => k.sendPkt id i) k
  let k := ((k.setCrf id 1 31 28 (k.rTries id + 1)).fInc (k.rFlow id) 0x68 15 0 l.length).cntN Reg.FCS_RESEND_CNT l.length
  k.recTimer id (k.fd Reg.FCS_TIMER 31 16)

def Core.resendOrEnd (k : Core) (id mask : Nat) : Core :=
  if k.rTries id = k.fd Reg.FCS_RETRY 7 4 then k.sendDone id stTimeout else k.resend id mask

def Core.resendEv (k : Core) (id : Nat) : Core :=
  if k.rOpen id && k.rSend id && k.recTimeUp id then k.resendOrEnd id (k.missing id) else k

/-! ### Control messages (R109, R111, R152) -/

def ctlOp (m : List Byte) : Nat := byteAt m 0
def ctlFlow (m : List Byte) : Nat := beNat (slice m 2 2) % 16384
def ctlCmpl (m : List Byte) : Nat := beNat (slice m 4 2)
def ctlBase (m : List Byte) : Nat := beNat (slice m 6 6)
def ctlMissing (m : List Byte) : Nat := beNat (slice m 16 32)

/-- The open send record a message names. -/
def Core.ctlRec (k : Core) (m : List Byte) : Option Nat :=
  k.openRecs.find? (fun id => k.rSend id && k.rFlow id == ctlFlow m && k.rPeer id == ctlCmpl m && k.rBase id == ctlBase m)

/-- What a control message is: an acknowledgement of a record, an abort, or bad. -/
inductive CtlKind | ack (id : Nat) | nack (id : Nat) | abort | bad
deriving DecidableEq, Repr

def Core.ctlKind (k : Core) (p : Packet) : CtlKind :=
  let m := p.payload
  if m.length ≠ 64 then .bad
  else match ctlOp m, k.ctlRec m with
    | 1, some id => if byteAt m 1 ≤ stDenied then .ack id else .bad
    | 2, some id => .nack id
    | 0x11, _ => .abort
    | _, _ => .bad

/-- The control message at the head of its queue, with its kind, taken. -/
def Core.ctlHead (k : Core) : Option (Packet × CtlKind × Core) :=
  match k.frt.ctl with
  | [] => none
  | p :: rest => some (p, k.ctlKind p, { k with frt := { k.frt with ctl := rest } })

def Core.ackIn (k : Core) (id st : Nat) : Core :=
  let n := pktCount (k.rSize id)
  let k := ((k.setMap id (2 ^ n - 1)).setCrf id 3 60 40 (k.rSize id)).setCrf id 3 8 0 n
  k.sendDone id st

def Core.nackIn (k : Core) (id : Nat) (m : List Byte) : Core :=
  let n := pktCount (k.rSize id)
  let miss := ctlMissing m % 2 ^ n
  let map := k.rMap id ||| ((2 ^ n - 1) ^^^ miss)
  let got := bitsOf n map
  let k := ((k.setMap id map).setCrf id 3 60 40 ((got.map (pktLen (k.rSize id))).sum)).setCrf id 3 8 0 got.length
  k.resendOrEnd id miss

def Core.cmplAckEv (k : Core) : Core :=
  match k.ctlHead with
  | some (p, .ack id, k') => k'.ackIn id (byteAt p.payload 1)
  | _ => k

def Core.cmplNackEv (k : Core) : Core :=
  match k.ctlHead with
  | some (p, .nack id, k') => k'.nackIn id p.payload
  | _ => k

/-- A control message that is refused (R109). DESIGN CHOICE: the flow, counter and sequence that PACKET_REFUSED reports are
those its payload names, not its header's (assumption log 111). -/
def Core.ctlBadEv (k : Core) : Core :=
  match k.ctlHead with
  | some (p, .bad, k') =>
    k'.refuse 6 Reg.FCS_CTLBAD_CNT (ctlFlow p.payload) (ctlCmpl p.payload) (ctlBase p.payload)
  | _ => k

/-! ### Closing, and line-to-fabric delivery (R112, R113) -/

def Core.closeCmd (k : Core) (cmd id : Nat) : Core × Nat :=
  if cmd ≠ 1 then (k, stRange)
  else if 0x8000 ≤ id then (k, stDenied)
  else if k.rOpen id then (k.recDone id stTimeout, stOk)
  else (k, stOk)

/-- A verified message opens its send record and is rebuilt toward LOCAL_EID; which free record is open. A flow that is
not ON opens none. -/
def Core.custodyEv (k : Core) : Core :=
  match k.fcs.custody with
  | [] => k
  | m :: rest =>
    let gone := { k with fcs := { k.fcs with custody := rest } }
    if !k.isOn (.flow m.flow) then gone.giveBack (some m.ptr) (k.fOwner m.flow)
    else
      let free := ((List.range 16384).map (· + 0xC000)).filter (fun id => !k.rOpen id)
      if free.isEmpty then k
      else
        let id := free.getD (Config.freeField k.free % free.length) 0xC000
        let k := gone.fresh.openRec id true m.flow m.base m.size m.cmpl m.ptr
        let k := (List.range (pktCount m.size)).foldl (fun k i => k.sendFirst id i) k
        let fin := seqAdd m.base m.size
        let k := if seqBefore (k.ff m.flow 8 47 0) fin then k.setFctx m.flow 8 fin else k
        k.recTimer id (k.fd Reg.FCS_TIMER 31 16)

/-- An FCS register written (R114). -/
def Core.fcsWrite (k : Core) (a v : Nat) : Core × Nat :=
  if a = Reg.FCS_FCMD then k.flowCmd (fld v 31 28) (fld v 13 0)
  else if a = Reg.FCS_RCMD then k.closeCmd (fld v 31 28) (fld v 15 0)
  else if a = Reg.FCS_TIMER then (if fld v 31 16 ≤ fld v 15 0 then (k, stRange) else k.rw a v)
  else k.rw a v

end Sys2Proof.Machine
end

