-- ==== Sys2Proof/Machine/Collective.lean ====
section
/-!
DEFINITION. Collective contexts, order and parking, completion and aborts (05_collectives R121 to R123, R140 to R155), the
job entries a START consults (14_sites R396, R397), and the rounds of a rank step (06_compression R173 to R177).
Operations; what happens to one chunk stands in Machine/Reduce.lean.
-/

namespace Sys2Proof.Machine

/-! ### Serial order (01_architecture R19) -/

/-- a is before b in serial order over 2^w. -/
def serialBefore (w a b : Nat) : Bool :=
  let d := (b + 2 ^ w - a % 2 ^ w) % 2 ^ w
  decide (1 ≤ d ∧ d ≤ 2 ^ (w - 1) - 1)

/-! ### Members and partitions -/

/-- Is site `s` partitioned (14_sites R392)? -/
def Core.partOn (k : Core) (s : Nat) : Bool := bitAt k.site.part s

/-- Sites of the members, this gateway's own among them. -/
def Core.memberSites (k : Core) (x : Nat) : List Nat := (List.range (k.cNslot x)).map (k.slotSite x)

/-- The contexts that are not OFF. -/
def Core.liveCtxs (k : Core) : List Nat := (List.range 4096).filter (fun x => !k.isOff (.ctx x))

/-! ### Job entries (14_sites R396)

Entries 0 to 63 are the job table. A JOB without a valid entry is a STRICT job kept out of the table: entry 64 + JOB,
which no window reaches. -/

def Core.jw (k : Core) (e w : Nat) : Nat := k.tb Reg.CLE_JOB_TBL (8 * e + w)
def Core.setJw (k : Core) (e w v : Nat) : Core := k.tbw Reg.CLE_JOB_TBL (8 * e + w) v
def Core.jwf (k : Core) (e w hi lo v : Nat) : Core := k.setJw e w (setFld (k.jw e w) hi lo v)
def Core.jValid (k : Core) (e : Nat) : Bool := bitAt (k.jw e 1) 31
def Core.jJob (k : Core) (e : Nat) : Nat := fld (k.jw e 0) 31 16
def Core.jIncarn (k : Core) (e : Nat) : Nat := fld (k.jw e 0) 15 0
def Core.jDrift (k : Core) (e : Nat) : Bool := bitAt (k.jw e 1) 30
def Core.jState (k : Core) (e : Nat) : Nat := fld (k.jw e 1) 29 27
def Core.jAvg (k : Core) (e : Nat) : Nat := fld (k.jw e 1) 11 0
def Core.jPsites (k : Core) (e : Nat) : Nat := fld (k.jw e 2) 31 16
def Core.jSites (k : Core) (e : Nat) : Nat := fld (k.jw e 2) 15 0
def Core.jNpart (k : Core) (e : Nat) : Nat := fld (k.jw e 6) 31 16

abbrev jRunning : Nat := 0
abbrev jPartitioned : Nat := 1
abbrev jReconciling : Nat := 2
abbrev jDiverged : Nat := 3
abbrev jAveraging : Nat := 4

/-- The table entry of a job, else the entry outside the table. -/
def Core.jobEntry (k : Core) (job : Nat) : Nat :=
  ((List.range 64).find? (fun e => k.jValid e && k.jJob e == job)).getD (64 + job)

/-- A change of STATE, logged (R411). -/
def Core.setJobState (k : Core) (e n : Nat) : Core :=
  let o := k.jState e
  if o = n then k
  else
    let k := k.jwf e 1 29 27 n
    k.emit 0x2110 0x0407 [(107, 92, k.jJob e), (91, 76, k.jIncarn e), (75, 73, n), (72, 70, o), (63, 48, k.jNpart e),
      (47, 32, fld (k.jw e 6) 15 0), (31, 0, k.jw e 4)]

/-- Words 2 [31:16] and 3 to 6 cleared. -/
def Core.clearJob (k : Core) (e : Nat) : Core :=
  let k := k.jwf e 2 31 16 0
  let k := [3, 4, 5, 6].foldl (fun k w => k.setJw e w 0) k
  { k with site := { k.site with firstW := k.site.firstW.set 0 e 0 } }

/-- The entry outside the table of a context that is enabled: made for its JOB and INCARN, with its members' sites. -/
def Core.ensureJob (k : Core) (x : Nat) : Core :=
  let e := k.jobEntry (k.cJob x)
  if e < 64 then k
  else
    let w0 := k.cJob x * 65536 + k.cIncarn x
    let k := if k.jValid e && k.jw e 0 == w0 then k
      else (((k.setJw e 0 w0).setJw e 1 (2 ^ 31)).setJw e 2 0).clearJob e
    k.jwf e 2 15 0 ((k.memberSites x).foldl (fun m s => setBit m s true) (k.jSites e))

/-- Is a START of context `x` blocked (R397)? -/
def Core.jobBlocked (k : Core) (x : Nat) : Bool :=
  let e := k.jobEntry (k.cJob x)
  k.jValid e && (k.jState e == jReconciling || k.jState e == jDiverged ||
    (k.jState e == jAveraging && k.jAvg e != x) || k.jIncarn e != k.cIncarn x)

/-- Is `x` the averaging context of a DRIFT job (R400)? -/
def Core.isAvg (k : Core) (x : Nat) : Bool :=
  let e := k.jobEntry (k.cJob x)
  k.jValid e && k.jDrift e && k.jAvg e == x

/-! ### Enabling a context (R123) -/

/-- Reserved bits of the configuration words. -/
def Core.ctxRsv (k : Core) (x : Nat) : Nat :=
  k.cf x 0 9 0 + k.cf x 0x10 63 32 + k.cf x 0x18 63 40 + k.cf x 0x20 15 0 + k.cf x 0x28 11 0 + k.cf x 0x30 47 0 +
    k.cc x 0x38

/-- The completion record ranges of two contexts meet. -/
def Core.crOverlap (k : Core) (x y : Nat) : Bool :=
  decide (k.cCrBase x < k.cCrBase y + 2 * k.cDepth y ∧ k.cCrBase y < k.cCrBase x + 2 * k.cDepth x)

def Core.distinctSites (k : Core) (x : Nat) : Bool :=
  let l := k.memberSites x
  l.eraseDups.length == l.length

def Core.ctxCheck (x : Nat) (k : Core) : Nat :=
  let n := k.cNslot x
  let f := k.cFlow x
  let a := k.cArith x
  let mx := isMx a.inFmt || isMx a.outFmt || isMx (k.fLineFmt f)
  if k.ctxRsv x ≠ 0 ∨ n < 2 ∨ 16 < n ∨ n ≤ k.cSelf x ∨ k.distinctSites x = false ∨ k.slotSite x (k.cSelf x) ≠ k.mySite ∨
      k.cDepth x = 0 ∨ 32 < k.cDepth x ∨ k.cTmo x = 0 then stRange
  else if a.ok = false then stRange
  else if k.cElems x = 0 ∨ (mx = true ∧ k.cElems x % 32 ≠ 0) then stRange
  else if k.fKind f ≠ 2 ∨ k.fCollCtx f ≠ x then stRange
  else if k.cCrBase x < 0x8000 ∨ 0xBFFF < k.cCrBase x + 2 * k.cDepth x - 1 ∨
      k.liveCtxs.any (fun y => y != x && k.crOverlap x y) then stRange
  else if k.svc.churn = 0 then stBusy
  else stOk

/-- Every check passed: the state words are cleared, the context is ON and ARMED. -/
def Core.ctxStart (x : Nat) (k : Core) : Core :=
  let k := [0x40, 0x48, 0x50, 0x58, 0x60, 0x68, 0x70, 0x78].foldl (fun k off => k.setCc x off 0) k
  let k := (k.setCc x 0x60 0xFFFFFFFF).setRun x (fun r => { r with worst := 0, elems := 0, due := none, ref := {} })
  (k.ensureJob x).setFst (.ctx x) .on stOk

/-! ### What a chunk held is freed -/

abbrev Core.rxOwner (k : Core) : Nat := k.fd Reg.CLE_RXSTAGE 25 20

/-- A staged item ends: its buffer is returned (R130). -/
def Core.dropItem (k : Core) (i : RxItem) : Core :=
  let k := { k with cle := { k.cle with rx := k.cle.rx.filter (fun j => j.id != i.id) } }
  let k := k.dropReq (fun u => decide (u = .rx i.id))
  k.giveBack i.ptr k.rxOwner

/-- The staged items of a chunk of the collective in progress. -/
def Core.chunkItems (k : Core) (x c : Nat) : List RxItem :=
  k.cle.rx.filter (fun i => !i.held && shType i.hdr != tMsg && shJob i.hdr == k.cJob x && shIncarn i.hdr == k.cIncarn x &&
    shSeq i.hdr == k.cSeq x && shChunk i.hdr == c)

/-- Segments in the transform engine that belong to a chunk. -/
def XUse.ofChunk (u : XUse) (x c : Nat) : Bool :=
  match u with
  | .contrib y d => y == x && d == c
  | .gStage y d => y == x && d == c
  | .gBack y d => y == x && d == c
  | .slotAdd y d _ => y == x && d == c
  | .slotSub y d _ => y == x && d == c
  | _ => false

def BufUser.ofChunk (u : BufUser) (x c : Nat) : Bool :=
  match u with
  | .chunkRec y d => y == x && d == c
  | .result y d => y == x && d == c
  | .stage y d => y == x && d == c
  | _ => false

/-- A chunk is gone: its fabric buffer, staging, receive staging, queue places, waiting requests and counts of failed
deliveries (08_cipher R241) are freed. A result
buffer whose send record is open is returned when that record completes (04_flows R111). -/
def Core.freeChunk (k : Core) (x c : Nat) : Core :=
  match k.chunk x c with
  | none => k
  | some h =>
    let k := (k.giveBack h.buf (k.cOwner x)).giveBack h.stagePtr (k.cOwner x)
    let rec_ := k.cCrBase x + k.cDepth x + c % k.cDepth x
    let k := if k.rOpen rec_ then k else k.giveBack h.resPtr (k.cOwner x)
    let k := (k.chunkItems x c).foldl (fun k i => k.dropItem i) k
    let k := (k.dropSeg (fun s => s.use.ofChunk x c)).dropReq (fun u => u.ofChunk x c)
    let k : Core := { k with cip := { k.cip with dels := k.cip.dels.filter (fun d =>
      !(decide (2 ≤ d.key.1) && d.key.2.1 == x && d.key.2.2.1 == c)) } }
    let k := (List.range 16).foldl (fun (k : Core) q =>
      { k with cle := { k.cle with queues := k.cle.queues.upd [] q (fun l => l.filter (fun p => !(p.1 == x && p.2.1 == c))) } }) k
    k.dropChunk x c

def Core.ctxChunks (k : Core) (x : Nat) : List Nat := (k.cle.chunks.filter (fun h => h.x == x)).map (·.c)

/-- Close the open engine records of a context (R144, 04_flows R113). -/
def Core.closeCtxRecs (k : Core) (x : Nat) : Core :=
  let k := (List.range (2 * k.cDepth x)).foldl (fun k i =>
    let id := k.cCrBase x + i
    if k.rOpen id then k.recDone id stTimeout else k) k
  { k with cle := { k.cle with failQ := k.cle.failQ.filter (fun p => p.1 != x) } }

/-- Is a staged item of the collective that context `x` runs or holds parked? -/
def Core.ofCtx (k : Core) (x : Nat) (i : RxItem) : Bool :=
  !i.held && shType i.hdr != tMsg && shJob i.hdr == k.cJob x && shIncarn i.hdr == k.cIncarn x &&
    (shSeq i.hdr == k.cSeq x || k.cle.park.any (fun p => p.x == x && p.seq == shSeq i.hdr))

def BufUser.ofCtx (u : BufUser) (x : Nat) : Bool :=
  match u with
  | .chunkRec y _ => y == x
  | .result y _ => y == x
  | .stage y _ => y == x
  | _ => false

/-- All a context holds is freed: its chunks, the receive staging of chunks not granted, its requests for buffers. -/
def Core.freeCtx (k : Core) (x : Nat) : Core :=
  let k := (k.ctxChunks x).foldl (fun k c => k.freeChunk x c) k
  ((k.cle.rx.filter (k.ofCtx x)).foldl (fun k i => k.dropItem i) k).dropReq (fun u => u.ofCtx x)

/-- The context leaves ON: a DRAINING one whose chunks are gone is OFF, its records closed (R144). -/
def Core.ctxDrainChk (x : Nat) (k : Core) : Core :=
  if k.fst (.ctx x) = .draining ∧ k.ctxChunks x = [] then
    ((k.freeCtx x).closeCtxRecs x).fnDrained (.ctx x) stOk (Core.ctxCheck x) (Core.ctxStart x)
  else k

/-! ### Status order and messages (R147, R151) -/

def stRank (st : Nat) : Nat :=
  if st = stCorrupt then 6 else if st = stTimeout then 5 else if st = stOrder then 4 else if st = stPoison then 3
  else if st = stOverflow then 2 else if st = stPartitioned then 1 else 0

def stWorse (a b : Nat) : Nat := if stRank a < stRank b then b else a

/-- COLL_STATUS of a chunk without a result, to RES_EID (R146). -/
def Core.chunkStatus (k : Core) (x c st : Nat) : Core :=
  k.sendCtl (k.cResEid x) (k.cFlow x) (byte 0x12 :: collBody st (k.cJob x) (k.cIncarn x) (k.cStep x) (k.cSeq x) c 0 0
    ((k.cResCmpl x + c % k.cDepth x) % 65536))

/-! ### Lateness (10_timetable_time R292, R293) -/

/-- A site's lateness enters the row of the step. -/
def Core.lateSite (k : Core) (row s : Nat) (v : Int) : Core :=
  let a := 32 * row
  let seen := k.tb Reg.TTX_LATE_TBL (a + 1)
  let old := signed 32 (k.tb Reg.TTX_LATE_TBL (a + 2 + s))
  let v := if bitAt seen s then max old v else v
  (k.tbw Reg.TTX_LATE_TBL (a + 1) (setBit seen s true)).tbw Reg.TTX_LATE_TBL (a + 2 + s) (toFld 32 v)

/-- A collective's lateness is recorded; `missing` sites as 0x7FFF_FFFF. -/
def Core.lateRecord (k : Core) (x : Nat) (missing : List Nat) : Core :=
  match (k.run x).due with
  | none => k
  | some due =>
    let row := k.cStep x % 64
    let a := 32 * row
    let k := if k.tb Reg.TTX_LATE_TBL a = k.cStep x then k
      else (((List.range 17).foldl (fun k i => k.tbw Reg.TTX_LATE_TBL (a + 1 + i) 0) k).tbw Reg.TTX_LATE_TBL a (k.cStep x))
    let w := k.tb Reg.TTX_LATE_TBL (a + 1)
    let k := k.tbw Reg.TTX_LATE_TBL (a + 1) (setFld w 31 16 (satAdd 16 (fld w 31 16) 1))
    (k.memberSites x).foldl (fun k s =>
      if missing.contains s then k.lateSite row s 0x7FFFFFFF
      else
        let r := (k.run x).ref.get 0 s
        if r = 0 then k else k.lateSite row s (((r - 1 : Nat) : Int) - (due : Int))) k

/-- A staged contribution that starts the last chunk this gateway reduces is its site's reference (R292); where only a resend
arrives, the resend is (DESIGN CHOICE, assumption log 120). -/
def Core.refItem (k : Core) (x : Nat) (i : RxItem) : Core :=
  if k.phase x != 2 && k.ofCtx x i && shType i.hdr == tContrib && shInv i.hdr == 0 && (k.run x).ref.get 0 (shSite i.hdr) == 0 &&
      k.lastReduced x (k.cSelf x) == some (shChunk i.hdr) then k.lateRef x (shSite i.hdr) (k.frameNear i.gseq / 16)
  else k

/-! ### Rank steps (06_compression R171 to R177) -/

/-- Floats of a release: a chunk of P or Q in FP32 takes its place in the matrix. -/
def putFloats (m : List Nat) (c : Nat) (l : List Nat) : List Nat :=
  m.take (16384 * c) ++ l ++ m.drop (16384 * c + l.length)

def floatsOf (d : List Byte) : List Nat := (chop 4 (d.length / 4) d).map leNat

/-- The step stops (R177). -/
def Core.rankStop (k : Core) (d st : Nat) : Core :=
  let r := k.rank d
  if r.round = 0 ∨ r.round = 5 then k
  else
    let k := k.dropSeg (fun s => match s.use with
      | .gBack x _ => x == k.rkG d
      | .gStage x _ => x == k.rkG d
      | _ => false)
    let k := (k.setRank d { r with round := 5, qValid := false, p := [], phat := [], qNew := [], held := [] }).rkSet d 15 8 st
    k.emit 0x2FFF 0x0505 [(107, 102, d), (95, 64, r.step), (15, 8, st), (2, 0, r.round)]

/-- A G collective enters RUN: round 1, with Q as held in HBM, or the initial Q (R174, R176). -/
def Core.rankBegin (k : Core) (x : Nat) : Core :=
  match k.rkBy Core.rkG x with
  | none => k
  | some d =>
    let r := k.rank d
    let n := k.rkN d
    let rk := k.rkR d
    let q := if r.qValid then floatsOf (k.mrd (hbmBase + k.rkQPtr d) (4 * n * rk)) else qInit (k.rkInit d) n rk
    k.setRank d { r with round := 1, q := q, p := List.replicate (k.rkM d * rk) 0, phat := [], qNew := []
                         step := k.cStep x, seq := k.cSeq x, next := 0, sent := 0, held := [] }

/-- The checks of R173 on a START of a G context; true: refuse. -/
def Core.rankRefuse (k : Core) (x : Nat) : Bool :=
  match k.rkBy Core.rkG x with
  | none => false
  | some d =>
    let p := k.rkP d
    let q := k.rkQ d
    let m := k.rkM d
    let n := k.rkN d
    let r := k.rkR d
    let ready := fun y => k.isOn (.ctx y) && k.phase y == 1 && (k.cArith y).inFmt == 0 && (k.cArith y).outFmt == 0
    !(k.cElems x == m * n && k.cElems p == m * r && k.cElems q == n * r && ready p && ready q)

/-! ### Entering RUN (R141 to R145) -/

/-- Contributions held for the collective are matched (R129). -/
def Core.matchHeld (k : Core) (x seq : Nat) : Core :=
  { k with cle := { k.cle with rx := k.cle.rx.map (fun i =>
      if i.held && shJob i.hdr == k.cJob x && shIncarn i.hdr == k.cIncarn x && shSeq i.hdr == seq then { i with held := false }
      else i) } }

/-- FIRST_STEP of a partitioned job takes the next START's STEP (14_sites R392). -/
def Core.firstStep (k : Core) (x step : Nat) : Core :=
  let e := k.jobEntry (k.cJob x)
  if k.jState e = jPartitioned ∧ k.site.firstW.get 0 e = 1 then
    let k : Core := k.setJw e 3 step
    { k with site := { k.site with firstW := k.site.firstW.set 0 e 0 } }
  else k

def Core.setPhase (k : Core) (x ph st : Nat) : Core :=
  let o := k.phase x
  let f := (k.fst (.ctx x)).code
  (k.putPhase x ph).ctxEvent x f ph f o st

/-- The context enters RUN with the values of its START. -/
def Core.enterRun (k : Core) (x seq step predCtx predSeq elems : Nat) (due : Option Nat) : Core :=
  let n := if elems = 0 then k.cElems x else elems
  let k := k.setRun x (fun r => { r with worst := stOk, elems := elems, due := due, ref := {} })
  let k := (k.setCc x 0x40 (seq * 2 ^ 32 + step)).setCf x 0x48 63 20 (predSeq * 2 ^ 12 + predCtx)
  let k := ((k.setCc x 0x50 (((n + 16383) / 16384) * 2 ^ 32)).setCc x 0x58 0).setCc x 0x60 0xFFFFFFFF
  let k := (k.setCc x 0x68 k.gns).setPhase x 3 stOk
  let k := (k.firstStep x step).matchHeld x seq
  (k.cle.rx.foldl (fun k i => k.refItem x i) k).rankBegin x

/-- Is a predecessor satisfied (R141)? -/
def Core.predOk (k : Core) (predCtx predSeq : Nat) : Bool :=
  predCtx == 0xFFF || (k.cSeq predCtx != 0 && (k.cSeq predCtx == predSeq || serialBefore 32 predSeq (k.cSeq predCtx)))

/-- The entry among some whose COLL_SEQ comes first. -/
def parkFirst : List Park → Option Park
  | [] => none
  | a :: l => match parkFirst l with
    | none => some a
    | some b => some (if serialBefore 32 b.seq a.seq then b else a)

def Core.unpark (k : Core) (x : Nat) : Core :=
  { k with cle := { k.cle with park := k.cle.park.filter (fun p => p.x != x) } }

/-- Entries whose predecessor is satisfied enter RUN, in increasing COLL_SEQ (R142). -/
def Core.releaseParked : Nat → Core → Core
  | 0, k => k
  | n + 1, k =>
    match parkFirst (k.cle.park.filter (fun p => k.predOk p.predCtx p.predSeq)) with
    | none => k
    | some p => Core.releaseParked n ((k.unpark p.x).enterRun p.x p.seq p.step p.predCtx p.predSeq p.elems p.due)

/-! ### Aborts (R148, R149) -/

/-- The contexts not OFF of a job and incarnation. -/
def Core.jobCtxs (k : Core) (job incarn : Nat) : List Nat :=
  k.liveCtxs.filter (fun x => k.cJob x == job && k.cIncarn x == incarn)

/-- One context of the job aborts: FAULTED, nothing of it left in work, its flow FAULTED. -/
def Core.abortCtx (k : Core) (st x : Nat) : Core :=
  let k := match k.rkAny x with
    | some d => k.rankStop d st
    | none => k
  let k := k.flowFault (k.cFlow x) st stTimeout
  let k := ((k.fnFault (.ctx x) st).freeCtx x).unpark x
  { k with cle := { k.cle with failQ := k.cle.failQ.filter (fun p => p.1 != x) } }

/-- The steps of R148: `how` 0 raised here, 1 received on the line, 2 on the fabric; `sites` the member sites told. -/
def Core.abortJob (k : Core) (job incarn st step seq chunk origin how : Nat) (sites : List Nat) : Core :=
  let xs := k.jobCtxs job incarn
  let eids := ((xs.map (fun x => [k.cAbortEid x, k.cNotify x])).flatten).eraseDups
  let body := collBody st job incarn step seq chunk origin 0 0
  let f := k.cFlow (xs.headD 0)
  let k := eids.foldl (fun k e => k.sendCtl e f (byte 0x11 :: body)) k
  let k := sites.foldl (fun k s => if s = k.mySite then k else k.gccTo s (byte 0x21 :: body.take 18)) k
  let k := xs.foldl (fun k x => k.abortCtx st x) k
  let k := { k with cle := { k.cle with aborts := (k.cle.aborts.filter (fun a => a ≠ (job, incarn))) ++ [(job, incarn)] } }
  k.emit 0x2110 0x0402 [(107, 92, job), (91, 76, incarn), (75, 68, st), (67, 64, origin), (63, 62, how), (31, 0, chunk)]

/-- An abort that arises here, in context `x`. -/
def Core.abortHere (k : Core) (x st step seq chunk : Nat) : Core :=
  k.abortJob (k.cJob x) (k.cIncarn x) st step seq chunk k.mySite 0 (k.memberSites x)

/-- An abort received: `from_` the site it came from on the line, or none with the fabric source `src` (R149). DESIGN
CHOICE: a STATUS that is no code of 00_scope R12 makes the message one to discard and count (assumption log 95). -/
def Core.abortIn (k : Core) (m : List Byte) (how : Nat) (src : Nat) (from_ : Option Nat) : Core :=
  let job := beNat (slice m 2 2)
  let inc := beNat (slice m 4 2)
  let xs := k.jobCtxs job inc
  let ok := decide (byteAt m 1 ≤ stDenied) && (if how = 2 then xs.any (fun x => k.cNotify x == src) else !xs.isEmpty)
  if !ok || k.cle.aborts.contains (job, inc) then k.cnt Reg.CLE_ABORT_RX_CNT
  else
    let sites := ((xs.map k.memberSites).flatten.eraseDups).filter (fun s => some s != from_)
    k.abortJob job inc (byteAt m 1) (beNat (slice m 6 4)) (beNat (slice m 10 4)) (beNat (slice m 14 4)) (byteAt m 18 % 16)
      how sites

/-! ### START (R143, R145, R290) -/

/-- ELEMS of the active shard map bank's valid entry (10_timetable_time R290). -/
def Core.shardElems (k : Core) (x : Nat) : Option Nat :=
  match k.ttx.shard with
  | none => none
  | some b =>
    let a := 8192 * b + 2 * x
    let w1 := k.tb Reg.TTX_SHD_TBL (a + 1)
    if bitAt w1 31 then some (k.tb Reg.TTX_SHD_TBL a + 2 ^ 32 * fld w1 7 0) else none

/-- The shard map entry refuses a START. -/
def Core.shardRefuse (k : Core) (x : Nat) : Bool :=
  match k.shardElems x with
  | none => false
  | some e =>
    let f := k.cFlow x
    let a := k.cArith x
    e == 0 || ((isMx a.inFmt || isMx a.outFmt || isMx (k.fLineFmt f)) && e % 32 != 0) ||
      (k.fRot f == 1 && e % 256 != 0) || (k.rkAny x).isSome

/-- The checks of R145, with R173 and R290. -/
def Core.startCheck (k : Core) (x seq predCtx : Nat) : Nat :=
  match k.fst (.ctx x) with
  | .off => stRange
  | .starting => stRange
  | .draining => stPend
  | .faulted => stBusy
  | .on =>
    if k.phase x ≠ 1 then stBusy
    else if !k.isOn (.flow (k.cFlow x)) then stRange
    else if seq = 0 ∨ (k.cSeq x ≠ 0 ∧ serialBefore 32 (k.cSeq x) seq = false) then stRange
    else if predCtx ≠ 0xFFF ∧ (k.isOff (.ctx predCtx) ∨ k.cJob predCtx ≠ k.cJob x) then stRange
    else if k.rankRefuse x then stRange
    else if k.shardRefuse x then stRange
    else if k.jobBlocked x then stDiverged
    else stOk

/-- A collective that finds no parking entry, or waits too long in one (R143). -/
def Core.orderFail (k : Core) (x step seq : Nat) : Core :=
  let k := k.cnt Reg.CLE_ORDER_CNT
  k.abortHere x stOrder step seq 0xFFFFFFFF

/-- The lowest free parking entry. -/
def Core.parkSlot (k : Core) : Option Nat := (List.range 256).find? (fun e => !k.cle.park.any (fun p => p.e == e))

/-- A START that passed its checks (R141 to R143). -/
def Core.startGo (k : Core) (x seq step predCtx predSeq : Nat) (due : Option Nat) : Core × Nat :=
  let elems := (k.shardElems x).getD 0
  if k.predOk predCtx predSeq then
    (Core.releaseParked 256 (k.enterRun x seq step predCtx predSeq elems due), stOk)
  else match k.parkSlot with
    | some e =>
      let p : Park := { e := e, x := x, seq := seq, step := step, predCtx := predCtx, predSeq := predSeq, elems := elems
                        due := due, t := k.now }
      let k : Core := { k with cle := { k.cle with park := k.cle.park ++ [p] } }
      let used := k.cle.park.length
      let k := (k.cnt Reg.CLE_PARK_CNT).wr Reg.CLE_PARK_HWM (max (k.rd Reg.CLE_PARK_HWM) used)
      let k := (k.setPhase x 2 stOk).matchHeld x seq
      (k.emit 0x2111 0x0405 [(107, 96, x), (95, 64, seq), (63, 32, predSeq), (8, 0, used)], stOk)
    | none => (k.orderFail x step seq, stOrder)

/-- A START from management, a timetable entry, an image record or a descriptor; the P and Q contexts of a rank
descriptor are started by the XFM alone (R173). -/
def Core.startCtx (k : Core) (x seq step predCtx predSeq : Nat) (due : Option Nat) : Core × Nat :=
  if (k.rkBy Core.rkP x).isSome || (k.rkBy Core.rkQ x).isSome then (k.fnLast (.ctx x) stDenied, stDenied)
  else
    let st := k.startCheck x seq predCtx
    if st = stOk then
      let r := k.startGo x seq step predCtx predSeq due
      (r.1.fnLast (.ctx x) r.2, r.2)
    else (k.fnLast (.ctx x) st, st)

/-! ### The XFM starts P and Q (R174) -/

/-- Bytes of chunk `c` of a matrix in FP32. -/
def floatChunk (m : List Nat) (c : Nat) : List Byte :=
  ((m.drop (16384 * c)).take 16384).flatMap (leBytes 4)

/-- Start context `y` of a descriptor with the factor `m` and take in its chunks from the press. -/
def Core.startFactor (k : Core) (d y : Nat) (m : List Nat) (seq predCtx predSeq : Nat) : Core :=
  let st := k.startCheck y seq predCtx
  if st = stOk then
    let k := (k.startGo y seq (k.rank d).step predCtx predSeq none).1.fnLast (.ctx y) stOk
    (List.range (k.cChunks y)).foldl (fun k c =>
      let raw := floatChunk m c
      (k.addChunk { x := y, c := c }).admitChunk y c raw (List.replicate (raw.length / 4) false) none) k
  else (k.fnLast (.ctx y) st).rankStop d st

/-- Round 2: P goes into its collective. -/
def Core.startP (k : Core) (d : Nat) : Core :=
  let r := k.rank d
  (k.setRank d { r with round := 2 }).startFactor d (k.rkP d) r.p ((r.seq + 1) % 2 ^ 32) (k.rkG d) r.seq

/-- Round 4 ends at the press: Q goes into its collective. -/
def Core.startQ (k : Core) (d : Nat) : Core :=
  let r := k.rank d
  k.startFactor d (k.rkQ d) r.qNew ((r.seq + 2) % 2 ^ 32) (k.rkP d) ((r.seq + 1) % 2 ^ 32)

/-- A G, P or Q collective completed with `st`. -/
def Core.rankDone (k : Core) (x st : Nat) : Core :=
  match k.rkAny x with
  | none => k
  | some d =>
    if st ≠ stOk then k.rankStop d st
    else if k.rkG d = x then (if (k.rank d).round = 1 then (k.rkSet d 15 8 stOk).startP d else k)
    else if k.rkQ d = x ∧ (k.rank d).round = 4 then
      let r := k.rank d
      let k := k.mwr (hbmBase + k.rkQPtr d) (r.qNew.flatMap (leBytes 4))
      (k.setRank d { r with round := 0, qValid := true, q := [], p := [], phat := [], qNew := [], held := [] }).rkSet d 15 8 stOk
    else k

/-- A chunk of the reduced P or Q is released: its floats are kept (R174); the last one of P ends round 2. -/
def Core.rankTake (k : Core) (x c : Nat) (d : List Byte) : Core :=
  match k.rkAny x with
  | none => k
  | some i =>
    let r := k.rank i
    if k.rkP i = x ∧ r.round = 2 then k.setRank i { r with p := putFloats r.p c (floatsOf d) }
    else if k.rkQ i = x ∧ r.round = 4 then k.setRank i { r with qNew := putFloats r.qNew c (floatsOf d) }
    else k

/-- Every chunk of P is released: round 3 begins. -/
def Core.rankReleased (k : Core) (x : Nat) : Core :=
  match k.rkBy Core.rkP x with
  | none => k
  | some d =>
    let r := k.rank d
    if r.round = 2 ∧ (k.run x).worst = stOk then (k.setRank d { r with round := 3 }).rkSet d 15 8 stOk else k

/-! ### Completion of chunks and collectives (R144 to R147) -/

/-- NPART, LAST_STEP and LAST_SEQ of the job (14_sites R393). -/
def Core.partDone (k : Core) (x : Nat) : Core :=
  let e := k.jobEntry (k.cJob x)
  let k := k.jwf e 6 31 16 (satAdd 16 (k.jNpart e) 1)
  (k.setJw e 4 (k.cStep x)).setJw e 5 (k.cSeq x)

/-- The collective completes (R144): ARMED, COLL_STATUS, COLL_DONE. -/
def Core.collDone (k : Core) (x : Nat) : Core :=
  let st := (k.run x).worst
  let failed := k.cf x 0x60 63 32
  let k := (k.setCf x 0x48 15 8 st).setCc x 0x70 k.gns
  let k := k.setPhase x 1 st
  let k := k.sendCtl (k.cNotify x) (k.cFlow x)
    (byte 0x12 :: collBody st (k.cJob x) (k.cIncarn x) (k.cStep x) (k.cSeq x) 0xFFFFFFFF 0 failed 0)
  let k := k.emit 0x2110 0x0401 [(107, 96, x), (95, 64, k.cSeq x), (63, 32, k.cStep x), (31, 24, st), (23, 0, min failed 0xFFFFFF)]
  let k := if st = stPartitioned then k.partDone x else k
  let e := k.jobEntry (k.cJob x)
  let k := if st = stOk ∧ k.isAvg x ∧ k.jState e = jAveraging then (k.clearJob e).setJobState e jRunning else k
  (k.lateRecord x []).rankDone x st

/-- RUN to ENDING, ENDING to ARMED, DRAINING to OFF, as the counts say (R144). -/
def Core.progress (k : Core) (x : Nat) : Core :=
  match k.fst (.ctx x) with
  | .draining => k.ctxDrainChk x
  | .on =>
    let all := k.cReleased x == k.cChunks x
    let k := if k.phase x = 3 && all then (k.setPhase x 4 stOk).rankReleased x else k
    if k.phase x = 4 ∧ k.cChecked x = k.cChunks x then k.collDone x else k
  | _ => k

/-- A chunk of context `x` completes with `st`; `rel` when it was released before. Its place and staging are freed. -/
def Core.chunkEnd (k : Core) (x c st : Nat) (rel : Bool) : Core :=
  let k := if st = stOk then k.cnt Reg.CLE_CHUNK_CNT else if st = stCorrupt then k.cnt Reg.CLE_CORRUPT_CNT
    else if st = stTimeout then k.cnt Reg.CLE_TIMEOUT_CNT else if st = stPartitioned then k.cnt Reg.CLE_PART_CNT
    else if st = stOverflow then k.cnt Reg.CLE_AR_OVF_CNT else k
  let k := if st = stOk then k
    else (k.setCf x 0x60 63 32 (k.cf x 0x60 63 32 + 1)).setCf x 0x60 31 0 (min (k.cf x 0x60 31 0) c)
  let k := if rel then k else k.setCf x 0x58 63 32 (k.cReleased x + 1)
  let k := (k.setCf x 0x58 31 0 (k.cChecked x + 1)).setRun x (fun r => { r with worst := stWorse r.worst st })
  k.freeChunk x c

/-- A chunk completes without a result and without an abort: ST_OVERFLOW, ST_POISON, ST_PARTITIONED (R146). -/
def Core.chunkNoResult (k : Core) (x c st : Nat) : Core := ((k.chunkEnd x c st false).chunkStatus x c st).progress x

/-- A chunk fails with ST_TIMEOUT or ST_CORRUPT: the job aborts, but for a timeout while the context drains (R144,
R146). -/
def Core.chunkFail (k : Core) (x c st : Nat) : Core :=
  match k.chunk x c with
  | none => k
  | some h =>
    let missing := if st = stTimeout ∧ k.reduces x c then
        (k.others x).filterMap (fun s => if (h.slots.get {} s).final then none else some (k.slotSite x s))
      else []
    let rel := h.phase == .released
    let k := k.chunkEnd x c st rel
    if st = stCorrupt ∨ k.fst (.ctx x) = .on then
      let k := if st = stTimeout then k.lateRecord x missing else k
      k.abortHere x st (k.cStep x) (k.cSeq x) c
    else k.progress x

/-- Chunks that records failed under are completed (R126). -/
def Core.settle (k : Core) : Core :=
  let q := k.cle.failQ
  let k0 : Core := { k with cle := { k.cle with failQ := [] } }
  let k := q.foldl (fun (k : Core) p => k.chunkFail p.1 p.2.1 p.2.2) k0
  ({ k with cle := { k.cle with failQ := [] } } : Core)

/-! ### DISABLE (R144) -/

def ChunkPhase.pre : ChunkPhase → Bool
  | .granted => true
  | .admitted => true
  | .staged => true
  | _ => false

/-- What entering DRAINING does: chunks that are not READY fail with ST_TIMEOUT, without an abort. -/
def Core.ctxDrain (x : Nat) (k : Core) : Core :=
  let l := (k.cle.chunks.filter (fun h => h.x == x && h.phase.pre)).map (·.c)
  let k := l.foldl (fun k c => k.chunkEnd x c stTimeout false) k
  k.ctxDrainChk x

/-- What leaving FAULTED does: open records closed, staging freed. -/
def Core.ctxClear (x : Nat) (k : Core) : Core := (k.closeCtxRecs x).freeCtx x

/-- What receive staging matched to a parked collective is held again, its time counted from its arrival (05_collectives
R129; DEDUCED, assumption log 96). -/
def Core.unmatch (k : Core) (x : Nat) : Core :=
  { k with cle := { k.cle with rx := k.cle.rx.map (fun i => if k.ofCtx x i then { i with held := true } else i) } }

/-- DISABLE: an ARMED or PARKED context is OFF at once. -/
def Core.ctxDisable (k : Core) (x : Nat) : Core × Nat :=
  if k.isOn (.ctx x) && (k.phase x == 1 || k.phase x == 2) then (((k.unmatch x).unpark x).setFst (.ctx x) .off stOk, stOk)
  else k.fnDisable (.ctx x) (Core.ctxDrain x) (Core.ctxClear x)

def Core.ctxCmd (k : Core) (cmd x : Nat) : Core × Nat :=
  match cmd with
  | 1 => let r := k.fnEnable (.ctx x) (Core.ctxCheck x) (Core.ctxStart x); (r.1.fnLast (.ctx x) r.2, r.2)
  | 2 => let r := k.ctxDisable x; (r.1.fnLast (.ctx x) r.2, r.2)
  | 3 => k.startCtx x (k.rd Reg.CLE_START_SEQ) (k.rd Reg.CLE_START_STEP) (k.fd Reg.CLE_START_PRED 11 0)
      (k.rd Reg.CLE_START_PSEQ) none
  | _ => (k, stRange)

/-- The drain limit of a context, 2 x CHUNK_TMO from its entry to DRAINING (R144). -/
def Core.ctxDrainEv (k : Core) (x : Nat) : Core :=
  if k.fst (.ctx x) = .draining ∧ (k.fn (.ctx x)).since + 2 * 100000 * k.cTmo x ≤ k.now then
    ((k.freeCtx x).closeCtxRecs x).fnDrained (.ctx x) stTimeout (Core.ctxCheck x) (Core.ctxStart x)
  else k

/-- A collective parked longer than CLE_PARK.TMO fails (R143). -/
def Core.parkEv (k : Core) (x : Nat) : Core :=
  match k.cle.park.find? (fun p => p.x == x) with
  | none => k
  | some p =>
    if p.t + 1000000 * k.fd Reg.CLE_PARK 31 16 ≤ k.now then k.orderFail x p.step p.seq else k

/-- The abort at the head of the fabric's control queue, else at the head of the lowest-numbered group's GCC messages
(R149, R152). -/
def Core.abortEv (k : Core) : Core :=
  match k.ctlHead with
  | some (p, .abort, k') => k'.abortIn p.payload 2 (hSrc p.hdr) none
  | _ =>
    match (List.range 8).find? (fun g => match (k.grp g).gccIn with
      | m :: _ => byteAt m.1 0 == 0x21
      | [] => false) with
    | none => k
    | some g =>
      let x := k.grp g
      let m := (x.gccIn.headD ([], 0)).1
      (k.setGrp g { x with gccIn := x.gccIn.drop 1 }).abortIn m 1 0 (some (k.gPeer g))

/-! ### Registers and windows (R122, R153, R154) -/

/-- Context words: configuration only while OFF; state words are read-only (R122). -/
def cctxWrite (k : Core) (w v : Nat) : Core × Nat :=
  if 16 ≤ w % 32 then (k, stRange)
  else if k.isOff (.ctx (w / 32)) then (k.tbw Reg.CLE_CTX_TBL w v, stOk)
  else (k, stBusy)

/-- A context word read: reserved bits 0, PHASE from the context's run. -/
def cctxRead (k : Core) (w : Nat) : Nat :=
  let masks : List Nat := [0xFFFFFFFFFFFFFC00, 0xFFFFFFFFFFFFFFFF, 0xFFFC0FFF, 0xFFFFFFFFFF, 0xFFFFFFFFFFFF0000,
    0xFFFFFFFFFFFFF000, 0xFFFF000000000000, 0]
  let v := k.tb Reg.CLE_CTX_TBL w
  let i := w % 32 / 2
  if i < 8 then v &&& (masks.getD i 0 / 2 ^ (32 * (w % 2)))
  else if w % 32 = 18 then setFld v 19 17 (k.phase (w / 32)) else v

def ccstRead (k : Core) (x : Nat) : Nat :=
  let f := k.fn (.ctx x)
  args [(31, 29, f.fst.code), (28, 28, f.pend.toNat), (27, 25, k.phase x), (15, 8, k.cf x 0x48 15 8), (7, 0, f.last)]

def parkRead (k : Core) (w : Nat) : Nat :=
  match k.cle.park.find? (fun p => p.e == w / 4) with
  | none => 0
  | some p =>
    match w % 4 with
    | 0 => 2 ^ 31 + p.x
    | 1 => p.seq
    | 2 => p.predSeq
    | _ => min ((k.now - p.t) / 1000) 0xFFFFFFFF

/-- A CLE register written (R153, 14_sites R409). -/
def Core.cleWrite (k : Core) (a v : Nat) : Core × Nat :=
  if a = Reg.CLE_CTX_CTRL then k.ctxCmd (fld v 31 28) (fld v 11 0)
  else if a = Reg.CLE_RXSTAGE then (if k.liveCtxs.isEmpty then k.rw a v else (k, stBusy))
  else k.rw a v

end Sys2Proof.Machine
end

