-- ==== Sys2Proof/Machine/Reduce.lean ====
section
/-!
DEFINITION. A chunk from its grant to its check (05_collectives R125 to R139, 02_arithmetic R35 to R50, 06_compression
R163, 14_sites R393): operations. The commands stand in Machine/ChunkCmd.lean and Machine/UnitCmd.lean.
-/

namespace Sys2Proof.Machine

/-! ### Grants (R125, R151) -/

/-- Is `x` the P or Q context of a valid rank descriptor: admitted from the press, without grants (06_compression R174)? -/
def Core.fromPress (k : Core) (x : Nat) : Bool := (k.rkBy Core.rkP x).isSome || (k.rkBy Core.rkQ x).isSome

/-- May the next chunk be granted? -/
def Core.grantable (k : Core) (x : Nat) : Bool :=
  let c := k.cGranted x
  k.isOn (.ctx x) && k.phase x == 3 && k.isOn (.flow (k.cFlow x)) && decide (c < k.cChunks x) && !k.fromPress x &&
    decide (c - k.cChecked x < k.cDepth x) && !k.rOpen (k.cCrBase x + c % k.cDepth x) &&
    !k.rOpen (k.cCrBase x + k.cDepth x + c % k.cDepth x)

/-- Where the next receive record starts on a flow. -/
def Core.nextGrantSeq (k : Core) (f : Nat) : Nat :=
  let g := k.fcs.grantSeq.get 0 f
  if g = 0 then k.ff f 0x20 47 0 else g - 1

/-- Grant one chunk: its buffer, its record. None where no buffer can be taken yet. -/
def Core.grantOne (k : Core) (x : Nat) : Core × Bool :=
  let c := k.cGranted x
  let f := k.cFlow x
  let r := k.takeBuffer { user := .chunkRec x c, owner := k.cOwner x, size := 2, mem := 0 }
  match r.2 with
  | none => (r.1, false)
  | some ptr =>
    let k := r.1
    let n := fmtBytes (k.cArith x).inFmt (k.chunkElems x c)
    let base := k.nextGrantSeq f
    let k := k.openRec (k.cCrBase x + c % k.cDepth x) false f base n 0 ptr
    let k := { k with fcs := { k.fcs with grantSeq := k.fcs.grantSeq.set 0 f (seqAdd base n + 1) } }
    ((k.setCf x 0x50 31 0 (c + 1)).addChunk { x := x, c := c }, true)

/-- Grant up to `n` further chunks whose record indices do not wrap from `c0`. -/
def Core.grantRun : Nat → Nat → Core → Nat → Core
  | 0, _, k, _ => k
  | n + 1, c0, k, x =>
    if k.grantable x && decide (k.cGranted x = c0 ∨ k.cGranted x % k.cDepth x ≠ 0) then
      let r := k.grantOne x
      if r.2 then Core.grantRun n c0 r.1 x else r.1
    else k

/-- Chunks are granted, and one COLL_GRANT covers them. -/
def Core.grantEv (k : Core) (x : Nat) : Core :=
  let c0 := k.cGranted x
  let f := k.cFlow x
  let base := k.nextGrantSeq f
  let k := Core.grantRun 8 c0 k x
  let n := k.cGranted x - c0
  if n = 0 then k
  else
    let fmt := (k.cArith x).inFmt
    k.sendCtl (k.fLocalEid f) f ([byte 0x10, byte 0] ++ beBytes 2 f ++ beBytes 2 (k.cCrBase x + c0 % k.cDepth x) ++
      beBytes 6 base ++ beBytes 4 (k.cSeq x) ++ beBytes 4 c0 ++ [byte n] ++ beBytes 3 (fmtBytes fmt 16384) ++
      beBytes 3 (fmtBytes fmt (k.chunkElems x (c0 + n - 1))))

/-! ### Elements of a contribution (R127, R133, 02_arithmetic R40, R49) -/

/-- Poison of each of `n` elements of a format whose bytes are poisoned as `psn` says of an offset and a length: an
element takes its own bytes' poison and its block's scale byte's. -/
def elemMarks (code n : Nat) (psn : Nat → Nat → Bool) : List Bool :=
  match fmtOf code with
  | some (f, true, _) =>
    let z := 1 + 4 * f.bits
    (List.range n).map (fun i =>
      let b := (i / 32) * z
      let o := (i % 32) * f.bits
      psn b 1 || psn (b + 1 + o / 8) ((o % 8 + f.bits + 7) / 8))
  | some (f, false, _) => (List.range n).map (fun i => psn (i * (f.bits / 8)) (f.bits / 8))
  | none => []

/-- Elements with poison marks laid on them. -/
def markElems (e : List Elem) (p : List Bool) : List Elem :=
  e.zipIdx.map (fun x => if p.getD x.2 false then .poison else x.1)

/-- The line bytes of a contribution as the churns see them: the elements they carry (DESIGN CHOICE: a stream of another
length than the chunk's carries the elements it has bytes for, assumption log 91), an ISUM context's foreign format as NaN (02_arithmetic
R40), poison marks laid on them. -/
def Core.lineElems (k : Core) (x n : Nat) (line : List Byte) (marks : List Bool) : List Elem :=
  let fmt := k.fLineFmt (k.cFlow x)
  let e := (decodeElems fmt n line).take (fmtElems fmt line.length)
  markElems (if isumForeign (k.cArith x).op fmt then e.map (fun _ => Elem.nan) else e) marks

/-- Poison of the `n` elements of a context's contribution rebuilt from blocks, each with its own. -/
def Core.blockMarks (k : Core) (x n : Nat) (blocks : List (List Byte × Bool)) : List Bool :=
  let z := match fmtOf (k.fLineFmt (k.cFlow x)) with
    | some (g, _, _) => g.bits / 8
    | none => 1
  let bad := (blocks.flatMap (fun b => List.replicate b.1.length b.2)).toArray
  (List.range n).map (fun i => bad.getD (i * z) false)

/-- The line bytes of slot `s`'s contribution go to the churns, `sub` to be taken out: its elements, or none where they
go through the expanders first (06_compression R189). -/
def Core.feedLine (k : Core) (x c s : Nat) (line : List Byte) (psn : Nat → Nat → Bool) (sub : Bool) : Core × Option (List Elem) :=
  let f := k.cFlow x
  let n := k.chunkElems x c
  if k.fCmode f = 2 then
    (k.expStart f (if sub then .slotSub x c s else .slotAdd x c s) ((lsBlocks line).zipIdx.map (fun b =>
      (b.1, psn 0 768 || psn (768 + lsOffset line b.2) b.1.length))), none)
  else (k, some (k.lineElems x n line (elemMarks (k.fLineFmt f) n psn)))

/-! ### Destinations and sending (R120, R127, R136, 14_sites R393) -/

/-- The slots this gateway sends its contribution of chunk `c` to; a partitioned site's is left out. -/
def Core.contribTo (k : Core) (x c : Nat) : List Nat :=
  let l := if k.cAlgo x = 0 then k.others x else (k.others x).filter (fun s => s == k.ownerSlot x c)
  l.filter (fun s => !k.partOn (k.slotSite x s))

def Core.placeOf (k : Core) (x c status csum : Nat) : List Byte :=
  collPlace (k.cJob x) (k.cIncarn x) (k.cSeq x) c (k.cSelf x) status csum

/-- Encrypt the staged contribution for each destination (R127 step 4). -/
def Core.sendContrib (k : Core) (x c : Nat) (line : List Byte) (csum src : Nat) : Core :=
  (k.contribTo x c).foldl (fun k s =>
    (invocations line).zipIdx.foldl (fun k d =>
      k.encrypt (k.slotSite x s) (k.cFlow x) none tContrib d.2 (k.placeOf x c 0 csum) (.contribOut x c d.2 s) src d.1) k) k

/-- A SCATTER owner's result, or its status, to every other member not partitioned. -/
def Core.sendResult (k : Core) (x c : Nat) (d : List Byte) (src : Nat) : Core :=
  ((k.others x).filter (fun s => !k.partOn (k.slotSite x s))).foldl (fun k s =>
    (invocations d).zipIdx.foldl (fun k p =>
      k.encrypt (k.slotSite x s) (k.cFlow x) none tResult p.2 (k.placeOf x c 0 0) (.resultOut x c p.2 s) src p.1) k) k

def Core.sendStatus (k : Core) (x c st : Nat) : Core :=
  if k.cAlgo x = 0 then k
  else ((k.others x).filter (fun s => !k.partOn (k.slotSite x s))).foldl (fun k s =>
    k.encrypt (k.slotSite x s) (k.cFlow x) none tStatus 0 (k.placeOf x c st 0) (.statusOut x c s) 0
      (byte st :: List.replicate 7 0)) k

/-! ### Readiness (R128, R131) -/

/-- Staged invocations of slot `s`'s contribution to a chunk, whole. -/
def Core.contribItems (k : Core) (x c s : Nat) : List RxItem :=
  (k.chunkItems x c).filter (fun i => shType i.hdr == tContrib && shSlot i.hdr == s && i.done)

/-- Is a LOSSLESS segment of exactly 65,536 B, staged as one invocation, all of its contribution? Its index table tells,
once decrypted; while its key is not loaded it counts as whole (DEDUCED, assumption log 92). -/
def Core.wholeAlone (k : Core) (x c : Nat) (i : RxItem) : Bool :=
  match k.itemPlain i with
  | none => true
  | some d =>
    let o := 768 + lsOffset d ((fmtBytes (k.fLineFmt (k.cFlow x)) (k.chunkElems x c) + 4095) / 4096 - 1)
    decide (o + 16 ≤ 65536) && decide (o + lsLen (d.drop o) ≤ 65536)

/-- Is slot `s`'s contribution fully received: invocation 0, and invocation 1 where there is one (08_cipher R226)? -/
def Core.slotGot (k : Core) (x c s : Nat) : Bool :=
  let l := k.contribItems x c s
  match l.find? (fun i => shInv i.hdr == 0) with
  | none => false
  | some i => k.fCmode (k.cFlow x) != 2 || decide (i.ct.length < 65536) || l.any (fun i => shInv i.hdr == 1) || k.wholeAlone x c i

def Core.creamOn (k : Core) (i : Nat) : Bool := fld k.svc.churn (16 * i + 15) (16 * i) != 0

/-- The creameries in service. -/
def Core.creameries (k : Core) : List Nat := (List.range 16).filter k.creamOn

/-- The home creamery of a chunk (R131); with none in service, by number alone. -/
def Core.homeOf (k : Core) (x c : Nat) : Nat :=
  let l := k.creameries
  if l.isEmpty then (x + c) % 16 else l.getD ((x + c) % l.length) 0

def Core.pushPats (k : Core) (q : Nat) (l : List (Nat × Nat × Nat)) : Core :=
  { k with cle := { k.cle with queues := k.cle.queues.upd [] q (fun o => o ++ l) } }

/-- READY: the pats join the home queue in pat order. -/
def Core.makeReady (k : Core) (x c : Nat) (part : Bool) : Core :=
  let home := k.homeOf x c
  let n := k.chunkPats x c
  let present := (k.others x).filter (k.slotGot x c)
  let k := k.updChunk x c (fun h => { h with
    phase := .ready, part := part, home := home
    slots := present.foldl (fun (m : SMap CSlot) s =>
      m.set {} s { present := true, items := (k.contribItems x c s).map (·.id)
                   csum := ((k.contribItems x c s).head?.map (fun i => shCsum i.hdr)).getD 0 })
      (h.slots.set {} (k.cSelf x) { present := true, final := true, csum := h.csum })
    pats := List.replicate n (.queued home)
    acc := List.replicate (k.chunkElems x c) 0 })
  k.pushPats home ((List.range n).map (fun p => (x, c, p)))

/-- READY once every slot of a site not partitioned is fully received (R128, R393). -/
def Core.tryReady (k : Core) (x c : Nat) : Core :=
  match k.chunk x c with
  | none => k
  | some h =>
    if h.phase = .staged ∧ k.reduces x c = true then
      let missing := (k.others x).filter (fun s => !k.slotGot x c s)
      if missing.all (fun s => k.partOn (k.slotSite x s)) then k.makeReady x c (!missing.isEmpty) else k
    else k

/-! ### SCATTER non-owners (R138) -/

/-- The request that decrypts a staged item. -/
def Core.itemReq (k : Core) (op : Nat) (i : RxItem) (use : ReqUse) (dst : Nat) : Core :=
  let r : Req :=
    { op := op, slot := k.gSlot i.g, epoch := i.ke, owner := 0, flow := 0x3FFF, use := use, src := i.ptr.getD 0, dst := dst
      aadPtr := Config.freeAadPtr k.free, aad := hdrAad i.hdr, data := i.ct, iv := shIv i.hdr, tag := shTag i.hdr
      hdr := i.hdr, g := i.g }
  (k.fresh).pushReq (8 + i.g) r

def Core.askItem (k : Core) (id : Nat) : Core :=
  { k with cle := { k.cle with rx := k.cle.rx.map (fun i => if i.id = id then { i with asked := true } else i) } }

/-- A non-owner's chunk: complete at once while its owner is partitioned; the owner's result is decrypted into a result
buffer, its status as it came. -/
def Core.tryNonOwner (k : Core) (x c : Nat) : Core :=
  match k.chunk x c with
  | none => k
  | some h =>
    if h.phase ≠ .staged ∨ k.reduces x c = true then k
    else if k.partOn (k.slotSite x (k.ownerSlot x c)) then k.chunkNoResult x c stPartitioned
    else
      let l := (k.chunkItems x c).filter (fun i => i.done && !i.asked && shSlot i.hdr == k.ownerSlot x c)
      match l.find? (fun i => shType i.hdr == tStatus), l.find? (fun i => shType i.hdr == tResult) with
      | some i, _ => (k.askItem i.id).itemReq 2 i (.statusIn x c i.id) (i.ptr.getD 0)
      | none, some i =>
        let r := match h.resPtr with
          | some p => (k, some p)
          | none => k.takeBuffer { user := .result x c, owner := k.cOwner x, size := 2, mem := 0 }
        (match r.2 with
        | none => r.1
        | some p =>
          let k := r.1.updChunk x c (fun h => { h with resPtr := some p })
          (k.askItem i.id).itemReq 2 i (.resultIn x c (shInv i.hdr) i.id) p)
      | none, none => k

/-! ### Staging (R127, 06_compression R161 to R165) -/

/-- Poison of one list of elements or of another. -/
def orMarks (a b : List Bool) : List Bool := (List.range (max a.length b.length)).map (fun i => a.getD i false || b.getD i false)

/-- The quantized form of a chunk under MX: line bytes, and which elements' whey read poisoned; the new whey is stored. -/
def Core.quantChunk (k : Core) (x : Nat) (h : Chunk) (n : Nat) : Core × List Byte × List Bool :=
  let f := k.cFlow x
  let fmt := k.fLineFmt f
  let (k, v, u, psn) := if k.fRot f = 1 then
      let l := (List.range (k.chunkPats x h.c)).filterMap (fun p => h.rot.find? (fun r => r.1 == p))
      (k, l.flatMap (fun r => r.2.1), l.flatMap (fun r => r.2.2), [])
    else
      let w := k.wheyRead f h.c n
      let v := addWhey (decodeElems (k.cArith x).inFmt n h.raw) w.2.1
      (w.1, v, v, w.2.2)
  let q := k.quantAll f h.c fmt (u.map f32Dec)
  let d := (decodeElems fmt n q.2).map Elem.f32
  let e := if k.fRot f = 1 then unrotateRuns (k.fSeed f) (k.cStep x) (16384 * h.c) d else d
  (q.1.wheyStore f h.c v e, q.2, psn)

/-- Poison of the local contribution's elements: a rotated element holds something of each of its run of 256
(06_compression R163). -/
def Core.localMarks (k : Core) (x : Nat) (h : Chunk) : List Bool :=
  if k.fCmode (k.cFlow x) = 1 ∧ k.fRot (k.cFlow x) = 1 then
    (chop256 (h.rawPsn.length / 256 + 1) h.rawPsn).flatMap (fun r => List.replicate r.length (r.any id))
  else h.rawPsn

/-- The dequantized local contribution with its poison marks. -/
def Core.localElems (k : Core) (x n : Nat) (h : Chunk) (line : List Byte) : List Elem :=
  let f := k.cFlow x
  let fmt := k.fLineFmt f
  let e := if k.fCmode f = 1 then decodeElems fmt n line else decodeElems (k.cArith x).inFmt n h.raw
  let e := if isumForeign (k.cArith x).op (if k.fCmode f = 1 then fmt else (k.cArith x).inFmt) then e.map (fun _ => Elem.nan) else e
  markElems e (k.localMarks x h)

def Core.wbase (k : Core) (x : Nat) : Int := (k.cArith x).wbase

/-- SUM or ISUM? -/
def Core.summing (k : Core) (x : Nat) : Bool := (k.cArith x).op == 0 || (k.cArith x).op == 3

/-- The chunk's line form is in staging: C_SELF, the fabric buffer returned, the contribution on its way (R127). -/
def Core.stageDone (k : Core) (x : Nat) (h0 : Chunk) (line : List Byte) (ptr : Nat) : Core :=
  let c := h0.c
  let n := k.chunkElems x c
  let cs := if k.summing x then contribSum (k.wbase x) (k.localElems x n h0 line) else 0
  let k := k.updChunk x c (fun h => { h with phase := .staged, rawPsn := h0.rawPsn, line := line, csum := cs, stagePtr := some ptr, buf := none, rot := [] })
  let k := (k.setPsn (ptrAddr ptr) line.length false).giveBack h0.buf (k.cOwner x)
  let k := (k.sendContrib x c line cs ptr).tryReady x c
  k.tryNonOwner x c

/-- CHUNK_STAGED: an admitted chunk whose units are done, once a staging buffer is lent. -/
def Core.stageEv (k : Core) (x c : Nat) : Core :=
  match k.chunk x c with
  | none => k
  | some h =>
    if h.phase ≠ .admitted ∨ h.ready2 = false ∨ k.fCmode (k.cFlow x) = 3 then k
    else
      let r := k.takeBuffer { user := .stage x c, owner := k.cOwner x, size := if k.fCmode (k.cFlow x) = 2 then 3 else 2, mem := 1 }
      match r.2 with
      | none => r.1
      | some ptr =>
        let n := r.1.chunkElems x c
        match k.fCmode (k.cFlow x) with
        | 1 =>
          let q := r.1.quantChunk x h n
          q.1.stageDone x { h with rawPsn := orMarks h.rawPsn q.2.2 } q.2.1 ptr
        | 2 => r.1.stageDone x h h.coded ptr
        | _ => r.1.stageDone x h h.raw ptr

/-! ### Pats and accumulation (R132, R133, 02_arithmetic R32 to R50) -/

/-- Pats a churn holds: chunk and pat. -/
def Core.heldBy (k : Core) (churn : Nat) : List (Nat × Nat × Nat) :=
  (k.cle.chunks.map (fun h => (h.pats.zipIdx.filter (fun p => p.1 == .held churn)).map (fun p => (h.x, h.c, p.2)))).flatten

def Core.churnOn (k : Core) (churn : Nat) : Bool := bitAt k.svc.churn churn

/-- Count the poisoned addends of a contribution that enters the churns (R49). -/
def Core.countPoison (k : Core) (e : List Elem) : Core := k.cntN Reg.CLE_AR_POISON_CNT ((e.filter (fun i => i == .poison)).length)

/-- A slot's elements enter the accumulators. -/
def Core.addSlot (k : Core) (x c s : Nat) (e : List Elem) : Core :=
  let wb := k.wbase x
  let sum := k.summing x
  (k.updChunk x c (fun h => { h with
    acc := if sum then accumulateOn wb false (fun _ => true) h.acc e else h.acc
    slots := h.slots.upd {} s (fun z => { z with elems := e, count := e.length, added := true }) })).countPoison e

def PatPlace.isHeld : PatPlace → Bool
  | .held _ => true
  | _ => false

/-- Is pat `p` of a chunk held by a churn? -/
def Chunk.heldPat (h : Chunk) (p : Nat) : Bool := (h.pats.getD p .idle).isHeld

/-- The same elements again, for the pats run again (05_collectives R134). -/
def Core.addAgain (k : Core) (x c s : Nat) (e : List Elem) : Core :=
  let wb := k.wbase x
  let sum := k.summing x
  let now := ((k.chunk x c).map (fun (h : Chunk) => (h.slots.get {} s).lack.filter h.heldPat)).getD []
  (k.updChunk x c (fun h => { h with
    acc := if sum then accumulateOn wb false now.contains h.acc e else h.acc
    slots := h.slots.upd {} s (fun z => { z with lack := z.lack.filter (fun p => !now.contains p) }) })).countPoison
      ((e.zipIdx.filter (fun i => now.contains (i.2 / 1024))).map Prod.fst)

/-- A slot leaves the accumulators (R47); its place waits for a re-delivery. -/
def Core.subSlot (k : Core) (x c s : Nat) (e : List Elem) : Core :=
  let wb := k.wbase x
  let sum := k.summing x
  k.updChunk x c (fun h =>
    let z := h.slots.get {} s
    { h with
      acc := if sum && z.added then accumulateOn wb true (fun p => !z.lack.contains p) h.acc e else h.acc
      slots := h.slots.set {} s { present := true, up := z.up } })

/-! ### The outcome of a chunk (R136, 02_arithmetic R35, R49, R50) -/

/-- The values to be rounded of elements [a, a + n) of a chunk (R36, R41, 06_compression R169, 14_sites R400). -/
def Core.resultVals (k : Core) (x : Nat) (h : Chunk) (a n : Nat) : List RVal :=
  let f := k.cFlow x
  let op := (k.cArith x).op
  if k.summing x then
    let acc := ((h.acc.drop a).take n).map accInt
    let rot := k.fCmode f == 1 && k.fRot f == 1
    let v := if rot then
        ((chop256 (n / 256 + 1) acc).zipIdx.map (fun r =>
          unrotateExact (k.fSeed f) (k.cStep x) (16384 * h.c + a + 256 * r.2) r.1)).flatten
      else acc
    let q := k.wbase x - (if rot then 4 else 0)
    let div := if k.isAvg x then (h.slots.cells.filter (fun z => z.2.present)).length else 1
    v.map (fun i => rval (decide (i < 0)) i.natAbs q div)
  else
    (List.range n).map (fun i =>
      match selectElem (op == 1) (h.slots.cells.map (fun z => z.2.elems.getD (a + i) .poison)) with
      | some e => elemVal e
      | none => .num false 0 1)

/-- The lowest element at which some slot's element satisfies `p`, with the lowest such slot. -/
def findCause (n : Nat) (slots : List (Nat × List Elem)) (p : Elem → Bool) : Option (Nat × Nat) :=
  let hits := slots.filterMap (fun s => (s.2.findIdx? p).map (fun i => (i, s.1)))
  hits.foldl (fun b z => match b with
    | none => if z.1 < n then some z else none
    | some y => if z.1 < y.1 then some z else some y) none

/-- The overflow of a chunk: cause, element, slot (0xF none); nothing where none holds (R35, R41). -/
def Core.overflowOf (k : Core) (x : Nat) (h : Chunk) : Option (Nat × Nat × Nat) :=
  let n := k.chunkElems x h.c
  let slots := h.slots.cells.map (fun z => (z.1, z.2.elems))
  let sum := k.summing x
  let addend := if sum then findCause n slots (Elem.overflows (k.wbase x)) else none
  let big := if sum then h.acc.findIdx? (fun a => decide (2 ^ 191 ≤ (accInt a).natAbs)) else none
  let nonf := findCause n slots (if sum then Elem.nonfinite else (fun e => e == .nan))
  match addend, big, nonf with
  | some z, _, _ => some (1, z.1, z.2)
  | none, some i, _ => some (2, i, 0xF)
  | none, none, some z => some (3, z.1, z.2)
  | none, none, none =>
    if (k.cArith x).outFail then
      ((encodeElems (k.cArith x).outFmt (k.resultVals x h 0 n)).2.findIdx? (·.beyond)).map (fun i => (4, i, 0xF))
    else none

/-- Poisoned addends present, and the lowest slot that holds one. -/
def poisonOf (h : Chunk) : Nat × Option Nat :=
  let l := h.slots.cells.map (fun z => (z.1, (z.2.elems.filter (fun e => e == .poison)).length))
  ((l.map Prod.snd).sum, (l.find? (fun z => z.2 != 0)).map Prod.fst)

/-- Is every present slot of every pat final, with nothing of it left to enter a pat run again? -/
def Chunk.allFinal (h : Chunk) : Bool :=
  h.taken && h.slots.cells.all (fun z => z.2.present && z.2.final && z.2.lack.isEmpty) &&
    h.pats.all (fun p => match p with
      | .held _ => true
      | .rounded => true
      | _ => false)

/-- A chunk that fails on its values: the events of R52 from the churn that completed it, no result. -/
def Core.failValues (k : Core) (x : Nat) (h : Chunk) (st churn : Nat) : Core :=
  let c := h.c
  let k := if st = stPoison then
      let p := poisonOf h
      k.emit (0x2000 + churn) 0x04F2 [(107, 96, x), (95, 64, c), (63, 60, p.2.getD 0), (31, 0, p.1)]
    else match k.overflowOf x h with
      | some (cause, e, s) =>
        ((k.emit (0x2000 + churn) 0x04F0 [(107, 96, x), (95, 64, c), (63, 60, cause), (59, 44, e), (43, 40, s)]).wr
          Reg.CLE_AR_LAST (cause * 2 ^ 28 + x)).wr Reg.CLE_AR_LAST_CHUNK c
      | none => k
  (k.sendStatus x c st).chunkNoResult x c st

/-- Every present slot is final: the chunk's status is set, and its pats may be rounded (R136). -/
def Core.tryDecide (k : Core) (x c churn : Nat) : Core :=
  match k.chunk x c with
  | none => k
  | some h =>
    if h.phase ≠ .ready ∨ h.decided = true ∨ h.allFinal = false then k
    else if (poisonOf h).1 ≠ 0 then k.failValues x h stPoison churn
    else if (k.overflowOf x h).isSome then k.failValues x h stOverflow churn
    else k.updChunk x c (fun h => { h with decided := true, status := if h.part then stPartitioned else stOk })

/-- The churn that completed the chunk (02_arithmetic R52) when its last contribution becomes final. DESIGN CHOICE: the
spec names none; the holder of the highest-numbered held pat is taken, churn 0 where none is held (assumption log 93). -/
def Chunk.lastChurn (h : Chunk) : Nat :=
  h.pats.foldl (fun b p => match p with
    | .held n => n
    | _ => b) 0

/-! ### Contributions at the churns (R133, R134, 02_arithmetic R47, R48, 08_cipher R239, R240) -/

def Core.slot (k : Core) (x c s : Nat) : CSlot := ((k.chunk x c).map (fun (h : Chunk) => h.slots.get {} s)).getD {}

def Core.setSlot (k : Core) (x c s : Nat) (z : CSlot) : Core :=
  k.updChunk x c (fun h => { h with slots := h.slots.set {} s z })

/-- A contribution is final when all of it is in the accumulators and every invocation's tag verified; the local one at
once. -/
def Core.slotFinal (k : Core) (x c s : Nat) : Core :=
  let z := k.slot x c s
  let fin := z.added && !z.removing &&
    (s == k.cSelf x || (!z.items.isEmpty && decide (z.items.length ≤ z.verified.length)))
  (k.setSlot x c s { z with final := fin, parts := if fin then [] else z.parts }).tryDecide x c
    (((k.chunk x c).map Chunk.lastChurn).getD 0)

/-- The elements of a slot's contribution reach the churns: the first time into every pat, later into the pats run
again. -/
def Core.slotElems (k : Core) (x c s : Nat) (e : List Elem) : Core :=
  match k.chunk x c with
  | none => k
  | some h =>
    let e := if s = k.cSelf x then markElems e (k.localMarks x h) else e
    (if (h.slots.get {} s).added then k.addAgain x c s e else k.addSlot x c s e).slotFinal x c s

/-- The local contribution comes from staging. -/
def Core.feedLocal (k : Core) (x c : Nat) : Core :=
  match k.chunk x c with
  | none => k
  | some h =>
    let a := ptrAddr (h.stagePtr.getD 0)
    let r := k.feedLine x c (k.cSelf x) h.line (fun o l => k.poisoned (a + o) l) false
    match r.2 with
    | some e => r.1.slotElems x c (k.cSelf x) e
    | none => r.1

/-- The decryptions of a remote slot's contribution are asked for: 3 provisional, 2 where its tag has verified, 4 to take
it out again. -/
def Core.askSlot (k : Core) (op x c s : Nat) (which : RxItem → Bool) : Core :=
  ((k.contribItems x c s).filter which).foldl (fun k i =>
    (k.askItem i.id).itemReq op i (.contribIn x c s (shInv i.hdr) i.id) x) k

/-- The first pat of a chunk is taken: the local contribution enters from staging, and each remote one's decryption is
asked for (R133). -/
def Core.takeChunk (k : Core) (x c : Nat) : Core :=
  match k.chunk x c with
  | none => k
  | some h =>
    if h.taken then k
    else
      let k := (k.updChunk x c (fun h => { h with taken := true })).feedLocal x c
      (k.others x).foldl (fun k s => k.askSlot 3 x c s (fun _ => true)) k

/-- A slot's contribution runs again from staging (R134): final where its tag has verified, else provisional. -/
def Core.feedAgain (k : Core) (x c s : Nat) : Core :=
  if s = k.cSelf x then k.feedLocal x c
  else k.askSlot (if (k.slot x c s).final then 2 else 3) x c s (fun _ => true)

/-- The slots whose contribution is still to enter pat `p` again. -/
def Core.lackers (k : Core) (x c : Nat) (p : Nat → Bool) : List Nat :=
  ((k.chunk x c).map (fun (h : Chunk) => (h.slots.cells.filter (fun z => z.2.lack.any p)).map Prod.fst)).getD []

/-- Pat `p` loses what it accumulated: every contribution that had entered it is to enter it again. -/
def Core.patAgain (k : Core) (x c p : Nat) : Core :=
  k.updChunk x c (fun h => { h with
    acc := h.acc.zipIdx.map (fun a => if a.2 / 1024 = p then 0 else a.1)
    slots := h.slots.cells.foldl (fun (m : SMap CSlot) z =>
      if z.2.added ∧ z.2.lack.contains p = false then m.set {} z.1 { z.2 with lack := z.2.lack ++ [p] } else m) h.slots })

/-- Plaintext of an invocation streams into the churns; the contribution enters when all of it is there. A contribution
being taken out, or discarded, takes no more. -/
def Core.slotStream (k : Core) (x c s inv item : Nat) (d : List Byte) : Core :=
  let z := k.slot x c s
  if !z.items.contains item || z.removing then k
  else
    let parts := z.parts.filter (fun p => p.1 != inv) ++ [(inv, d)]
    let k := k.setSlot x c s { z with parts := parts }
    if parts.length < z.items.length then k
    else
      let at_ := fun i => ptrAddr ((((k.contribItems x c s).find? (fun j => shInv j.hdr == i)).bind (·.ptr)).getD 0)
      let r := k.feedLine x c s (msgPrefix parts 2 0) (fun o l =>
        if o < 65536 then k.poisoned (at_ 0 + o) l else k.poisoned (at_ 1 + o - 65536) l) false
      match r.2 with
      | some e => r.1.slotElems x c s e
      | none => r.1

/-- An invocation's tag verifies. -/
def Core.slotVerified (k : Core) (x c s inv item : Nat) : Core :=
  let z := k.slot x c s
  if !z.items.contains item || z.removing then k
  else (k.setSlot x c s { z with verified := inv :: z.verified.filter (fun i => i != inv) }).slotFinal x c s

/-- An invocation's tag fails: every invocation delivered is presented again as a subtraction (R240 step 2). `verified`
holds, from here on, the invocations whose subtraction is still to come. -/
def Core.slotFailed (k : Core) (x c s : Nat) : Core :=
  let z := k.slot x c s
  let got := if z.added then (k.contribItems x c s).map (fun i => shInv i.hdr) else z.parts.map Prod.fst
  let k := (k.setSlot x c s { z with final := false, removing := true, verified := got, parts := [] }).dropSeg
    (fun t => t.use == .slotAdd x c s)
  k.askSlot 4 x c s (fun i => got.contains (shInv i.hdr))

/-- CHECKSUM_MISMATCH (R156), to be recorded against every churn that held a pat of the chunk (17_power_thermal R482). -/
def Core.mismatch (k : Core) (x c diff : Nat) : Core :=
  let l := ((k.chunk x c).map (fun (h : Chunk) => h.churns)).getD []
  ({ k with cle := { k.cle with suspects := k.cle.suspects ++ l } } : Core).emit 0x2112 0x0403 [(107, 96, x), (95, 64, c), (60, 0, diff)]

/-- A subtraction stream of an invocation ends. The second result is there once the last one has: the elements of the
whole stream, none where the contribution had not entered; under LOSSLESS the expanders give it later. -/
def Core.slotSubtract (k : Core) (x c s inv item : Nat) (d : List Byte) : Core × Option (Option (List Elem)) :=
  let z := k.slot x c s
  if !z.items.contains item || !z.removing then (k, none)
  else
    let parts := z.parts.filter (fun p => p.1 != inv) ++ [(inv, d)]
    let left := z.verified.filter (fun i => i != inv)
    let k := k.setSlot x c s { z with parts := parts, verified := left }
    if !left.isEmpty then (k, none)
    else if parts.length < z.items.length then (k, some none)
    else
      let at_ := fun i => ptrAddr ((((k.contribItems x c s).find? (fun j => shInv j.hdr == i)).bind (·.ptr)).getD 0)
      let r := k.feedLine x c s (msgPrefix parts 2 0) (fun o l =>
        if o < 65536 then k.poisoned (at_ 0 + o) l else k.poisoned (at_ 1 + o - 65536) l) true
      (r.1, r.2.map some)

/-- Is a subtraction bad (02_arithmetic R48): another count than was added, or, where the context sums, another
checksum? -/
def Core.subBad (k : Core) (x : Nat) (z : CSlot) (e : List Elem) : Bool :=
  z.added && (e.length != z.count || (k.summing x && contribSum (k.wbase x) e != contribSum (k.wbase x) z.elems))

/-- A contribution is gone from the accumulators (R47); a bad subtraction fails the chunk with ST_CORRUPT. Under MAX and
MIN the pats its chunk's churns hold run again from staging over the contributions still present (02_arithmetic R41). -/
def Core.slotGone (k : Core) (x c s : Nat) (e : Option (List Elem)) : Core :=
  let z := k.slot x c s
  let bad := (e.map (k.subBad x z)).getD false
  let k := (k.cnt Reg.CLE_ROLLBACK_CNT).subSlot x c s (e.getD z.elems)
  if bad then (k.mismatch x c 0).chunkFail x c stCorrupt
  else if k.summing x || !z.added then k
  else
    let held := ((k.chunk x c).map (fun (h : Chunk) => (List.range h.pats.length).filter h.heldPat)).getD []
    let k := held.foldl (fun k p => k.patAgain x c p) k
    (k.lackers x c held.contains).foldl (fun k s => k.feedAgain x c s) k

/-- A contribution of which nothing was delivered to the churns is given up: its slot waits for a re-delivery. -/
def Core.slotDropped (k : Core) (x c s : Nat) : Core :=
  let z := k.slot x c s
  if z.present then k.setSlot x c s { present := true, up := z.up } else k

/-- A re-delivered contribution to a chunk whose pats are out: decrypted for the same slot (R240 step 4), unless it was
given up. -/
def Core.slotAgain (k : Core) (x c s : Nat) : Core :=
  match k.chunk x c with
  | none => k
  | some h =>
    let z := h.slots.get {} s
    if h.phase = .ready ∧ z.present = true ∧ z.items = [] ∧ z.up = false ∧ k.slotGot x c s = true then
      let l := k.contribItems x c s
      let k := k.setSlot x c s { present := true, items := l.map (·.id), csum := (l.head?.map (fun i => shCsum i.hdr)).getD 0 }
      if h.taken then k.askSlot 3 x c s (fun _ => true) else k
    else k

/-! ### Taking a pat (R132) -/

def Core.queueOf (k : Core) (q : Nat) : List (Nat × Nat × Nat) := k.cle.queues.get [] q

def Core.setQueue (k : Core) (q : Nat) (l : List (Nat × Nat × Nat)) : Core :=
  { k with cle := { k.cle with queues := k.cle.queues.set [] q l } }

/-- The creamery a creamery steals from. -/
def Core.stealFrom (k : Core) (own : Nat) : Option Nat :=
  ((List.range 15).map (fun i => (own + 1 + i) % 16)).find? (fun q =>
    k.creamOn q && decide (k.fd Reg.CLE_STEAL 4 0 ≤ (k.queueOf q).length))

/-- A pat goes to a churn; one that was requeued runs again from staging. -/
def Core.givePat (k : Core) (churn : Nat) (p : Nat × Nat × Nat) : Core :=
  let k := k.updChunk p.1 p.2.1 (fun h => { h with
    pats := h.pats.set p.2.2 (.held churn), churns := if h.churns.contains churn then h.churns else churn :: h.churns })
  let again := k.lackers p.1 p.2.1 (fun q => q == p.2.2)
  (again.foldl (fun k s => k.feedAgain p.1 p.2.1 s) (k.takeChunk p.1 p.2.1)).tryDecide p.1 p.2.1 churn

def Core.patTakeEv (k : Core) (churn : Nat) : Core :=
  let own := churn / 16
  if !k.churnOn churn || decide (2 ≤ (k.heldBy churn).length) then k
  else match k.queueOf own with
    | p :: rest => (k.setQueue own rest).givePat churn p
    | [] =>
      match k.stealFrom own with
      | none => k
      | some q =>
        let l := k.queueOf q
        (match l.getLast? with
        | some p => ((k.setQueue q l.dropLast).cnt Reg.CLE_XSTEAL_CNT).givePat churn p
        | none => k)

/-- Does a churn find a pat to take? -/
def Core.patDue (k : Core) (churn : Nat) : Bool :=
  k.churnOn churn && decide ((k.heldBy churn).length < 2) &&
    (!(k.queueOf (churn / 16)).isEmpty || (k.stealFrom (churn / 16)).isSome)

/-! ### Rounding and release (R135, R136) -/

abbrev Core.outFmt (k : Core) (x : Nat) : Nat := (k.cArith x).outFmt

def Core.resRec (k : Core) (x c : Nat) : Nat := k.cCrBase x + k.cDepth x + c % k.cDepth x

/-- Open the send record of a result at the flow's SND_SEQ, which advances by its size. -/
def Core.openResult (k : Core) (x c size ptr : Nat) : Core :=
  let f := k.cFlow x
  let base := k.ff f 8 47 0
  let k := k.openRec (k.resRec x c) true f base size ((k.cResCmpl x + c % k.cDepth x) % 65536) ptr
  k.setFctx f 8 (seqAdd base size)

/-- Result packets all of whose bytes are rounded, not sent yet. -/
def Core.sendable (k : Core) (x : Nat) (h : Chunk) : List Nat :=
  let n := k.chunkElems x h.c
  let size := fmtBytes (k.outFmt x) n
  let pb := fmtBytes (k.outFmt x) 1024
  (List.range (pktCount size)).filter (fun i =>
    !h.sent.contains i &&
    (List.range h.pats.length).all (fun p =>
      decide (p * pb + pb ≤ 4096 * i) || decide (4096 * i + pktLen size i ≤ p * pb) || h.res.any (fun r => r.1 == p)))

def Core.sendPackets (k : Core) (x c : Nat) : Core :=
  match k.chunk x c with
  | none => k
  | some h =>
    let l := k.sendable x h
    let k := k.updChunk x c (fun h => { h with sent := h.sent ++ l })
    let k := l.foldl (fun k i => k.sendFirst (k.resRec x c) i) k
    if (h.sent ++ l).length = pktCount (fmtBytes (k.outFmt x) (k.chunkElems x c)) then
      k.recTimer (k.resRec x c) (k.fd Reg.FCS_TIMER 31 16)
    else k

/-- A chunk's last pat is rounded: released; SCATTER results go out; MAX and MIN, which carry no checksum, are checked
with it (R136, R138, R139). -/
def Core.release (k : Core) (x c churn : Nat) : Core :=
  match k.chunk x c with
  | none => k
  | some h =>
    let d := ((List.range h.pats.length).map (fun p => ((h.res.find? (fun r => r.1 == p)).map Prod.snd).getD [])).flatten
    let k := if h.sat = 0 then k
      else k.emit (0x2000 + churn) 0x04F1 [(107, 96, x), (95, 64, c), (31, 0, h.sat)]
    let k := k.rankTake x c d
    let k := if k.cAlgo x = 1 then k.sendResult x c d (h.resPtr.getD 0) else k
    let k := (k.updChunk x c (fun h => { h with phase := .released })).setCf x 0x58 63 32 (k.cReleased x + 1)
    let k := if k.summing x then k else k.chunkEnd x c h.status true
    k.progress x

/-- The first pat of a decided chunk that a churn holds. -/
def Core.roundable (k : Core) (churn : Nat) : Option (Nat × Nat × Nat) :=
  (k.heldBy churn).find? (fun p => (k.chunk p.1 p.2.1).any (·.decided))

/-- The result buffer and send record of a chunk, taken at its first pat; none where they cannot be had yet. A reduced P
is not sent (06_compression R174). -/
def Core.resultPlace (k : Core) (x : Nat) (h : Chunk) : Core × Bool :=
  if (k.rkBy Core.rkP x).isSome ∨ h.resPtr.isSome then (k, true)
  else if k.rOpen (k.resRec x h.c) || !k.isOn (.flow (k.cFlow x)) then (k, false)
  else
    let r := k.takeBuffer { user := .result x h.c, owner := k.cOwner x, size := 2, mem := 0 }
    match r.2 with
    | none => (r.1, false)
    | some p =>
      let k := r.1.updChunk x h.c (fun h => { h with resPtr := some p })
      (k.openResult x h.c (fmtBytes (k.outFmt x) (k.chunkElems x h.c)) p, true)

/-- A churn rounds a pat: its bytes, its saturated elements, its place free. -/
def Core.roundPat (k : Core) (x c p churn : Nat) : Core :=
  match k.chunk x c with
  | none => k
  | some h =>
    let r := k.resultPlace x h
    if !r.2 then r.1
    else
      let k := r.1
      let n := min 1024 (k.chunkElems x c - 1024 * p)
      let e := encodeElems (k.outFmt x) (k.resultVals x h (1024 * p) n)
      let sat := (e.2.filter (·.beyond)).length
      let k := k.updChunk x c (fun h => { h with
        pats := h.pats.set p .rounded, res := h.res ++ [(p, e.1)], sat := h.sat + sat })
      let k := k.cntN Reg.CLE_AR_SAT_CNT sat
      let k := match (k.chunk x c).bind (·.resPtr) with
        | some ptr => (k.mwr (ptrAddr ptr + p * fmtBytes (k.outFmt x) 1024) e.1).sendPackets x c
        | none => k
      if (k.chunk x c).any (fun h => h.pats.all (fun q => q == .rounded)) then k.release x c churn else k

def Core.patRoundEv (k : Core) (churn : Nat) : Core :=
  match k.roundable churn with
  | none => k
  | some (x, c, p) => k.roundPat x c p churn

/-! ### The check (R139, 02_arithmetic R44) -/

/-- C_S less the sum of the slots' checksums. -/
def checkDiff (h : Chunk) : Nat :=
  let cs := checksum (h.acc.map accInt)
  let sum := (h.slots.cells.map (fun z => z.2.csum)).sum % ckP
  (cs + ckP - sum) % ckP

def Core.checkEv (k : Core) (x c : Nat) : Core :=
  match k.chunk x c with
  | none => k
  | some h =>
    if h.phase ≠ .released then k
    else
      let d := checkDiff h
      if d = 0 then (k.chunkEnd x c h.status true).progress x
      else (k.mismatch x c d).chunkFail x c stCorrupt

/-! ### Non-owner release (R138) -/

/-- The owner's result verified: released, and checked with it. -/
def Core.resultVerified (k : Core) (x c : Nat) (d : List Byte) : Core :=
  match k.chunk x c with
  | none => k
  | some h =>
    if h.phase ≠ .staged then k
    else
      let k := k.rankTake x c d
      let k := match h.resPtr with
        | some p =>
          let k := k.mwr (ptrAddr p) d
          if (k.rkBy Core.rkP x).isSome || k.rOpen (k.resRec x c) then k
          else
            let k := k.openResult x c d.length p
            ((List.range (pktCount d.length)).foldl (fun (k : Core) i => k.sendFirst (k.resRec x c) i) k).recTimer (k.resRec x c)
              (k.fd Reg.FCS_TIMER 31 16)
        | none => k
      (k.chunkEnd x c stOk false).progress x

/-- The owner's status verified: the chunk completes with it. DESIGN CHOICE: a status that is no code of 00_scope R12 is
discarded, and the limit of R138 runs on (assumption log 95). -/
def Core.statusVerified (k : Core) (x c st : Nat) : Core :=
  match k.chunk x c with
  | none => k
  | some h =>
    if h.phase ≠ .staged ∨ stDenied < st then k
    else if st = stTimeout ∨ st = stCorrupt then k.chunkFail x c st
    else k.chunkNoResult x c st

/-! ### Limits (R128, R138) -/

def Core.chunkTimeEv (k : Core) (x c : Nat) : Core :=
  match k.chunk x c with
  | none => k
  | some h =>
    let due : Bool := (h.phase == .admitted || h.phase == .staged) && (k.reduces x c || k.fCmode (k.cFlow x) == 3) &&
      decide (h.admT + 100000 * k.cTmo x ≤ k.now)
    if !due then k
    else
      let missing := (k.others x).filter (fun s => !k.slotGot x c s)
      if h.phase = .staged ∧ missing.all (fun s => k.partOn (k.slotSite x s)) = true then k.makeReady x c (!missing.isEmpty)
      else k.chunkFail x c stTimeout

def Core.chunkRelEv (k : Core) (x c : Nat) : Core :=
  match k.chunk x c with
  | none => k
  | some h =>
    let live : Bool := h.phase == .admitted || h.phase == .staged || h.phase == .ready
    if !live || decide (k.now < h.admT + 2 * 100000 * k.cTmo x) then k
    else if k.reduces x c = false ∧ k.partOn (k.slotSite x (k.ownerSlot x c)) = true then k.chunkNoResult x c stPartitioned
    else k.chunkFail x c stTimeout

/-! ### Segments from the line (R128 to R130, 14_sites R393) -/

/-- The context in RUN, ENDING or PARKED whose collective a header names. -/
def Core.matchCtx (k : Core) (h : List Byte) : Option Nat :=
  k.liveCtxs.find? (fun x =>
    k.cJob x == shJob h && k.cIncarn x == shIncarn h &&
    (((k.phase x == 3 || k.phase x == 4) && k.cSeq x == shSeq h) ||
      (k.phase x == 2 && k.cle.park.any (fun p => p.x == x && p.seq == shSeq h))))

/-- Does a context hold the header's JOB under another INCARN only? -/
def Core.oldIncarn (k : Core) (h : List Byte) : Bool :=
  let l := k.liveCtxs.filter (fun x => k.cJob x == shJob h)
  !l.isEmpty && l.all (fun x => k.cIncarn x != shIncarn h)

/-- The place of a segment's data is taken for good: its chunk is gone or released, or READY with that contribution. -/
def Core.chunkPast (k : Core) (x : Nat) (h : List Byte) : Bool :=
  let c := shChunk h
  (k.phase x != 2 && (decide (c < k.cGranted x) || k.fromPress x) && (k.chunk x c).isNone) ||
  (k.chunk x c).any (fun z => z.phase == .released || (z.phase == .ready && shType h == tContrib &&
    !((z.slots.get {} (shSlot h)).present && (z.slots.get {} (shSlot h)).items.isEmpty)))

/-- Has the collective of a segment completed here? Its COLL_SEQ is not after the last one of a context of its JOB and
INCARN, which is not running it. -/
def Core.collPast (k : Core) (h : List Byte) : Bool :=
  k.liveCtxs.any (fun x => k.cJob x == shJob h && k.cIncarn x == shIncarn h && k.cSeq x != 0 &&
    (serialBefore 32 (shSeq h) (k.cSeq x) || (shSeq h == k.cSeq x && k.phase x != 3 && k.phase x != 4)))

/-- A segment that its collective has no use for: beyond CHUNKS, a slot that is no remote member, an invocation or a type
its flow or ALGO does not use, or one whose place is taken. -/
def Core.useless (k : Core) (x : Nat) (h : List Byte) : Bool :=
  let c := shChunk h
  let s := shSlot h
  let n := if k.phase x = 2 then c + 1 else k.cChunks x
  let invs := if k.fCmode (k.cFlow x) = 2 ∧ shType h = tContrib then 2 else 1
  let typ : Bool := if shType h = tContrib then k.cAlgo x == 0 || k.ownerSlot x c == k.cSelf x
    else k.cAlgo x == 1 && k.ownerSlot x c == s
  decide (n ≤ c) || decide (k.cNslot x ≤ s) || s == k.cSelf x || decide (invs ≤ shInv h) || k.chunkPast x h || !typ

/-- Is the place of a header taken by a staged segment of the same collective, chunk, slot and invocation (R129)? -/
def Core.duplicate (k : Core) (h : List Byte) : Bool :=
  k.cle.rx.any (fun i => shType i.hdr == shType h && shInv i.hdr == shInv h && slice i.hdr 36 13 == slice h 36 13)

/-- Was the data of a collective segment obtained before (12_line_coding_retry R348)? A contribution that its chunk and slot
already hold, or a result or status of a chunk whose result or status was accepted. -/
def Core.obtained (k : Core) (h : List Byte) : Bool :=
  match k.matchCtx h with
  | some x => k.duplicate h || k.chunkPast x h
  | none => k.duplicate h || (shType h != tContrib && k.collPast h)

/-- What becomes of a segment's header (R129, R393). DESIGN CHOICE: a contribution is taken by its contributor slot alone;
its SRC_SITE is not compared with the slot's site (R118 names no such check; assumption log 94). -/
inductive RxFate | stray | matched (x : Nat) | held
deriving DecidableEq, Repr

def Core.rxFate (k : Core) (h : List Byte) : RxFate :=
  if k.partOn (shSite h) || k.duplicate h then .stray
  else match k.matchCtx h with
    | some x => if k.useless x h then .stray else .matched x
    | none => if k.oldIncarn h || (shType h != tContrib && k.collPast h) then .stray else .held

/-- A staged item is whole: its chunk may be READY, or released, or take a re-delivery. -/
def Core.itemWhole (k : Core) (i : RxItem) : Core :=
  match k.matchCtx i.hdr with
  | none => k
  | some x =>
    let c := shChunk i.hdr
    let k := if shType i.hdr = tContrib then (k.tryReady x c).slotAgain x c (shSlot i.hdr) else k
    k.tryNonOwner x c

/-- Held items whose time is over are discarded (R129). -/
def Core.heldEv (k : Core) : Core :=
  let l := k.cle.rx.filter (fun i => i.held && decide (i.t + 1000000 * k.fd Reg.CLE_PARK 31 16 ≤ k.now))
  l.foldl (fun k i => (k.dropItem i).cnt Reg.CLE_STRAY_CNT) k

/-- A site was declared partitioned: its held and staged segments for chunks not READY stay; chunks may be READY without
it, and a non-owner's chunks of it complete (R393). -/
def Core.afterPartition (k : Core) : Core :=
  let l := (k.cle.chunks.filter (fun h => h.phase == .staged)).map (fun h => (h.x, h.c))
  l.foldl (fun k p => (k.tryReady p.1 p.2).tryNonOwner p.1 p.2) k

end Sys2Proof.Machine
end

