-- ==== Sys2Proof/Machine/Bank.lean ====
section
/-!
DEFINITION. The reference counts of the table banks and what they allow (06_compression R184 to R187, R193): operations.
-/

namespace Sys2Proof.Machine

open Sys2Proof

/-! ### Blocks held (R186) -/

/-- The blocks of a segment, as much of it as is there, each with where it starts. -/
def lsPlaced (seg : List Byte) : List (Nat × List Byte) :=
  if seg.length < 768 then []
  else ((List.range 256).filter (fun b => b == 0 || lsOffset seg b != 0xFFFFFF)).map (fun b =>
    let t := seg.drop (768 + lsOffset seg b)
    (768 + lsOffset seg b, t.take (lsLen t)))

def isRef (gen : Nat) (b : List Byte) : Bool := lsMode b == 1 && lsGen b == gen

/-- MODE 1 blocks of generation `gen` in a segment. -/
def segRefs (gen : Nat) (seg : List Byte) : Nat := ((lsPlaced seg).filter (fun b => isRef gen b.2)).length

/-- What is there of a message from the line: verified, or in receive staging. -/
def Core.msgSoFar (k : Core) (f base : Nat) : List Byte :=
  let raw := ((k.fcs.rxMsgs.find? (fun m => m.flow == f && m.base == base)).map (·.raw)).getD []
  let l := k.cle.rx.filter (fun i => shType i.hdr == tMsg && shFlow i.hdr == f && shBase i.hdr == base)
  msgPrefix (raw ++ l.filterMap (fun i => (k.itemPlain i).map (fun d => (shInv i.hdr, d)))) 32 0

/-- The contribution a staged item belongs to, once its collective is known. -/
def Core.itemPlace (k : Core) (i : RxItem) : Option (Nat × Nat × Nat) :=
  if i.held || !i.done || shType i.hdr != tContrib then none
  else (k.matchCtx i.hdr).map (fun x => (x, shChunk i.hdr, shSlot i.hdr))

def Core.contribSoFar (k : Core) (p : Nat × Nat × Nat) : List Byte :=
  let l := k.cle.rx.filter (fun i => k.itemPlace i == some p)
  msgPrefix (l.filterMap (fun i => (k.itemPlain i).map (fun d => (shInv i.hdr, d)))) 2 0

/-- Does a flow's traffic carry blocks of a class? -/
def Core.inClass (k : Core) (cls f : Nat) : Bool := (k.fCmode f == 2 || k.fCmode f == 3) && k.fTclass f == cls

/-- Segments of messages from the line not yet with the expanders. -/
def Core.refMsgs (k : Core) (cls gen : Nat) : Nat :=
  let l := k.fcs.rxMsgs.map (fun m => (m.flow, m.base)) ++
    (k.cle.rx.filter (fun i => shType i.hdr == tMsg)).map (fun i => (shFlow i.hdr, shBase i.hdr))
  ((l.eraseDups.filter (fun m => k.inClass cls m.1 && !k.xfm.segs.any (fun s => s.flow == m.1 && s.use == .msgIn m.2))).map
    (fun m => segRefs gen (k.msgSoFar m.1 m.2))).sum

/-- Is a contribution still whole before the expanders? -/
def Core.notYetDecoded (k : Core) (x c s : Nat) : Bool :=
  !(k.slot x c s).added && !k.xfm.segs.any (fun t => t.use == .slotAdd x c s || t.use == .slotSub x c s)

/-- Contributions in receive staging. -/
def Core.refContribs (k : Core) (cls gen : Nat) : Nat :=
  (((k.cle.rx.filterMap k.itemPlace).eraseDups.filter (fun p =>
    k.inClass cls (k.cFlow p.1) && k.notYetDecoded p.1 p.2.1 p.2.2)).map (fun p => segRefs gen (k.contribSoFar p))).sum

/-- Local contributions in staging. -/
def Core.refLocal (k : Core) (cls gen : Nat) : Nat :=
  (k.cle.chunks.map (fun h =>
    if k.inClass cls (k.cFlow h.x) && k.notYetDecoded h.x h.c (k.cSelf h.x) then
      segRefs gen (if h.line.isEmpty then h.coded else h.line)
    else 0)).sum

/-- Blocks the skimmers made toward a staged segment. -/
def Core.refSkimmed (k : Core) (cls gen : Nat) : Nat :=
  (k.xfm.segs.map (fun s => match s.use with
    | .contrib _ _ => if k.inClass cls s.flow then (s.done.filter (fun d => isRef gen d.2.1)).length else 0
    | .gStage _ _ => if k.inClass cls s.flow then (s.done.filter (fun d => isRef gen d.2.1)).length else 0
    | _ => 0)).sum

/-- G chunks staged and not on their way back. -/
def Core.refRanks (k : Core) (cls gen : Nat) : Nat :=
  ((List.range 64).map (fun d =>
    if k.rkValid d && k.inClass cls (k.cFlow (k.rkG d)) then
      (((k.rank d).held.filter (fun c => !k.xfm.segs.any (fun s => s.use == .gBack (k.rkG d) c))).map (fun c =>
        segRefs gen (k.mrd (hbmBase + k.rkGPtr d + 33792 * c) 33792))).sum
    else 0)).sum

/-- The reference count of a bank (R186): MODE 1 blocks of its generation that the gateway holds and has not yet decoded.
DEDUCED: a segment held for a collective not yet started, or under a key not loaded, has no flow or no readable block and
counts nothing (assumption log 101). -/
def Core.bankRefs (k : Core) (cls b : Nat) : Nat :=
  let gen := k.bankGen cls b
  k.refMsgs cls gen + k.refContribs cls gen + k.refLocal cls gen + k.refSkimmed cls gen + k.refRanks cls gen +
    (k.xfm.expQ.filter (fun q => k.inClass cls q.flow && isRef gen q.data)).length

/-- A bank is free (R186). -/
def Core.bankFree (k : Core) (cls b : Nat) : Bool :=
  !(k.bank cls b).enc && !(k.bank cls b).held && k.bankRefs cls b == 0

/-- Blocks of the generations of `blocks` arrived at time `t`: their banks' hold starts again (R186). -/
def Core.genArrived (k : Core) (cls t : Nat) (blocks : List (List Byte)) : Core :=
  blocks.foldl (fun k b =>
    if lsMode b = 1 then
      match k.genBank cls (lsGen b) with
      | some i => k.setBank cls i { k.bank cls i with held := true, lastT := max (k.bank cls i).lastT t }
      | none => k
    else k) k

/-- An invocation of a LOSSLESS flow arrived at time `t`: the blocks that have bytes in it arrived. Its item is marked, so
that each arrival counts once. -/
def Core.noteItem (k : Core) (id t : Nat) : Core :=
  match k.cle.rx.find? (fun i => i.id == id) with
  | none => k
  | some i =>
    if i.noted || (k.itemPlain i).isNone then k
    else
      let z : Option (Nat × List Byte) := if shType i.hdr = tMsg then some (shFlow i.hdr, k.msgSoFar (shFlow i.hdr) (shBase i.hdr))
        else (k.itemPlace i).map (fun p => (k.cFlow p.1, k.contribSoFar p))
      match z with
      | none => k
      | some (f, d) =>
        let k : Core := { k with cle := { k.cle with rx := k.cle.rx.map (fun i => if i.id = id then { i with noted := true } else i) } }
        if k.fCmode f = 2 then
          k.genArrived (k.fTclass f) t (((lsPlaced d).filter (fun b =>
            decide (b.1 < 65536 * (shInv i.hdr + 1)) && decide (65536 * shInv i.hdr < b.1 + b.2.length))).map Prod.snd)
        else k

/-! ### Writes and commands (R186, R187, R193) -/

/-- A word of a table bank (R186, R187, R193). -/
def clsWrite (k : Core) (w v : Nat) : Core × Nat :=
  let cls := w / 512
  let b := w / 256 % 2
  let i := w % 256
  let bk := k.bank cls b
  if 129 ≤ i then (k, stRange)
  else if 1 ≤ i then
    if bk.valid then (k, stTableBusy) else (k.tbw Reg.XFM_CLS_TBL w (v &&& 0x0FFF0FFF), stOk)
  else if bitAt v 31 then
    let other := k.bank cls (1 - b)
    if (k.bankCounts cls b).sum ≠ 2048 ∨ fld v 5 4 = 3 ∨ (other.valid = true ∧ k.bankGen cls (1 - b) = fld v 3 0) then
      (k, stRange)
    else
      let first := !other.valid && !bk.valid
      let k := (k.tbw Reg.XFM_CLS_TBL w (v &&& 0x8000003F)).setBank cls b
        { bk with valid := true, enc := bk.enc || first, held := false, lastT := k.now }
      (k.emit 0x2FFF 0x0500 [(11, 8, cls), (4, 4, b), (3, 0, fld v 3 0)], stOk)
  else if bk.valid then (k, if k.bankFree cls b then stRange else stTableBusy)
  else (k.tbw Reg.XFM_CLS_TBL w (v &&& 0x3F), stOk)

/-- SET_ENC (R187), by command or timetable. -/
def Core.setEnc (k : Core) (cls b : Nat) : Core × Nat :=
  if (k.bank cls b).valid then
    let k := (k.setBank cls (1 - b) { k.bank cls (1 - b) with enc := false }).setBank cls b { k.bank cls b with enc := true }
    (k.emit 0x2FFF 0x0501 [(11, 8, cls), (4, 4, b), (3, 0, k.bankGen cls b)], stOk)
  else (k, stRange)

/-- INVALIDATE (R186). -/
def Core.invalidate (k : Core) (cls b : Nat) : Core × Nat :=
  if k.bankFree cls b then
    ((k.tbw Reg.XFM_CLS_TBL (256 * (2 * cls + b)) (setFld (k.bankWord0 cls b) 31 31 0)).setBank cls b {}, stOk)
  else (k, stTableBusy)

def Core.clsCmd (k : Core) (cmd cls b : Nat) : Core × Nat :=
  match cmd with
  | 1 => k.setEnc cls b
  | 2 => k.invalidate cls b
  | _ => (k, stRange)

/-- A bank state word (R193). -/
def cstRead (k : Core) (w : Nat) : Nat :=
  let b := k.bank (w / 2) (w % 2)
  if b.valid then
    args [(31, 31, 1), (30, 30, b.enc.toNat), (29, 29, (k.bankFree (w / 2) (w % 2)).toNat),
      (27, 24, k.bankGen (w / 2) (w % 2)), (23, 0, min (k.bankRefs (w / 2) (w % 2)) 0xFFFFFF)]
  else 0

/-- XFM_GEN_HOLD passed since the last arrival of a bank's generation (R186). -/
def Core.genHoldEv (k : Core) (cls b : Nat) : Core :=
  let x := k.bank cls b
  if x.held ∧ x.lastT + 100000 * k.fd Reg.XFM_GEN_HOLD 15 0 ≤ k.now then k.setBank cls b { x with held := false } else k

end Sys2Proof.Machine
end

