-- ==== Sys2Proof/Machine/Clock.lean ====
section
/-!
DEFINITION. The time states and the LEVEL sent on the line (10_timetable_time R280, R281), shared by the time sources and by
the line groups whose loss ends LOCKED_LINE.
-/

namespace Sys2Proof.Machine

abbrev tsFree : Nat := 0
abbrev tsAcquiring : Nat := 1
abbrev tsLockedRef : Nat := 2
abbrev tsLockedLine : Nat := 3
abbrev tsHoldover : Nat := 4

def Core.timeSrc (k : Core) : Nat := k.fd Reg.TBS_CFG 31 30
def Core.timeGroup (k : Core) : Nat := k.fd Reg.TBS_CFG 29 27

/-- The last filtered offset in ps (TBS_OFFSET), and a number of ps as ns, saturating. -/
def Core.offsetPs (k : Core) : Int := signed 32 (k.rd Reg.TBS_OFFSET)

/-- A signed field of `w` bits that saturates. -/
def satFld (w : Nat) (i : Int) : Nat := toFld w (max (-(2 ^ (w - 1) : Int)) (min (2 ^ (w - 1) - 1) i))

/-- LEVEL in a state; `up` the upstream's. -/
def Core.levelIn (k : Core) (ts up : Nat) : Nat :=
  if ts = tsLockedRef then (if k.timeSrc < 2 then 0 else 15)
  else if ts = tsLockedLine then min 15 (up + 1)
  else if ts = tsHoldover then k.tim.level
  else 15

/-- The asymmetry estimate of port `n` is not available, and its mean starts anew (R279, R295). -/
def Core.estClear (k : Core) (n : Nat) : Core :=
  ({ k with tim := { k.tim with estN := k.tim.estN.set 0 n 0, estSum := k.tim.estSum.set 0 n 0 } } : Core).wr (Reg.TBS_P_ASYM_EST n) 0

/-- A change of time state: logged, exits from a locked state counted. -/
def Core.setTState (k : Core) (n up : Nat) : Core :=
  let o := k.tim.tstate
  if o = n then k
  else
    let k := { k with tim := { k.tim with tstate := n, level := k.levelIn n up, good := 0, bad := 0, goodRef := if n = tsHoldover ∧ o = tsLockedLine then k.tim.goodRef else 0,
                                          badRef := 0, samples := [], holdT := k.now, lostRef := o == tsLockedRef, lastLine := k.now
                                          alarm := if n = tsLockedLine then k.tim.alarm else setBit k.tim.alarm 2 false } }
    let k := if o = tsLockedRef then (List.range 16).foldl Core.estClear k else k
    let k := if o = tsLockedRef ∨ o = tsLockedLine then k.cnt Reg.TBS_UNLOCK_CNT else k
    k.emit 0x6800 0x0D00 [(107, 105, n), (104, 102, o), (99, 96, k.tim.level), (31, 0, satFld 32 (k.offsetPs / 1000))]

/-- The time transfer function is OFF: a locked timebase holds over, one that is acquiring is FREE again (R295). -/
def Core.timeHold (k : Core) : Core :=
  if k.tim.tstate = tsLockedRef ∨ k.tim.tstate = tsLockedLine then k.setTState tsHoldover 15
  else if k.tim.tstate = tsAcquiring then k.setTState tsFree 15 else k

/-- LOCKED_LINE ends when its source group is not ON (R281). -/
def Core.timeGroupChk (k : Core) : Core :=
  if k.tim.tstate = tsLockedLine ∧ !k.isOn (.group k.timeGroup) then k.setTState tsHoldover 15 else k

end Sys2Proof.Machine
end

