-- ==== Sys2Proof/Machine/Transform.lean ====
section
/-!
DEFINITION. The skimmers and the press at work on their queues (06_compression R163, R168, R170, R174 to R190): operations,
and the commands of the XFM that no unit error touches. The expanders stand in Machine/Expand.lean.
-/

namespace Sys2Proof.Machine

open Sys2Proof

/-! ### Skimmers (R178, R182, R185) -/

/-- A G chunk whose skimming and projection are done counts as released and checked (R174). -/
def Core.gStaged (k : Core) (x c : Nat) : Core :=
  if k.xfm.segs.any (fun s => s.use == .gStage x c) then k
  else (k.chunkEnd x c stOk false).progress x

/-- The last block of a segment left the skimmers. -/
def Core.skimmed (k : Core) (s : XSeg) : Core :=
  let seg := lsSegment (s.inOrder.map Prod.fst)
  let k := k.dropSeg (fun t => t.id == s.id)
  match s.use with
  | .msgOut base size cmpl src => k.msgEncrypt s.flow base size cmpl src seg
  | .contrib x c => k.updChunk x c (fun h => { h with coded := seg, ready2 := true })
  | .gStage x c =>
    (match k.rkBy Core.rkG x with
    | none => k
    | some d =>
      let k := k.mwr (hbmBase + k.rkGPtr d + 33792 * c) seg
      (k.setRank d { k.rank d with held := (k.rank d).held ++ [c] }).gStaged x c)
  | _ => k

/-- A skimmer codes the block at the head of the queue. -/
def Core.skimEv (k : Core) (u : Nat) : Core :=
  if !bitAt k.svc.skim u then k
  else match k.xfm.skimQ with
    | [] => k
    | b :: rest =>
      let k := { k with xfm := { k.xfm with skimQ := rest } }
      let r := k.skimOne b.flow b.data
      let k := r.1.segDone b.seg b.idx r.2 false
      match k.xseg b.seg with
      | some s => if s.done.length = s.n then k.skimmed s else k
      | none => k

/-- A message rebuilt from the line is in its buffer: a custody record may be opened for it (04_flows R112). -/
def Core.msgArrived (k : Core) (m : RxMsg) (d : List Byte) (psn : List (Nat × Nat)) : Core :=
  let a := ptrAddr m.ptr
  let k := k.mwr a ((padTo m.size d).take m.size)
  let k := psn.foldl (fun k p => k.setPsn (a + p.1) p.2 true) k
  { k with fcs := { k.fcs with
      rxMsgs := k.fcs.rxMsgs.filter (fun x => !(x.flow == m.flow && x.base == m.base))
      custody := k.fcs.custody ++ [{ flow := m.flow, base := m.base, size := m.size, cmpl := m.cmpl, ptr := m.ptr }] } }

/-! ### The press (R163, R168, R170, R174, R190) -/

/-- BF16 bytes as binary32 encodings. -/
def bfFloats (d : List Byte) : List Nat := (chop 2 (d.length / 2) d).map (fun b => leNat b * 65536)

/-- Rotation of pat `p` of a chunk: v, the exact sum with the whey rounded once, and u (R163). -/
def Core.pressRotate (k : Core) (x c p : Nat) : Core :=
  match k.chunk x c with
  | none => k
  | some h =>
    let f := k.cFlow x
    let n := k.chunkElems x c
    let (k, w, psn) := match h.whey with
      | some w => (k, w, [])
      | none => k.wheyRead f c n
    let e := decodeElems (k.cArith x).inFmt n h.raw
    let v := addWhey ((e.drop (1024 * p)).take 1024) ((w.drop (1024 * p)).take 1024)
    let u := rotateRuns (k.fSeed f) (k.cStep x) (16384 * c + 1024 * p) v
    k.updChunk x c (fun h => { h with whey := some w, rawPsn := orMarks h.rawPsn psn, rot := h.rot ++ [(p, v, u)]
                                      ready2 := decide (h.rot.length + 1 = k.chunkPats x c) })

/-- A block of G times the factor of its round; position in block order (R170). -/
def Core.pressG (k : Core) (d : Nat) (tr : Bool) (pos : Nat) (data : List Byte) : Core :=
  let r := k.rank d
  let n := k.rkN d
  let rk := k.rkR d
  let g := bfFloats data
  if tr then k.setRank d { r with qNew := pressBlock true n rk (2048 * pos) g (r.phat.map f32ToBf) r.qNew, next := pos + 1 }
  else k.setRank d { r with p := pressBlock false n rk (2048 * pos) g (r.q.map f32ToBf) r.p, next := pos + 1 }

/-- Blocks of G in all. -/
def Core.gBlocks (k : Core) (d : Nat) : Nat := (2 * (k.rkM d * k.rkN d) + 4095) / 4096

/-- Is a block of the press's queue its flow's next in order? -/
def Core.pressNext (k : Core) (b : XBlk) : Bool :=
  match ((k.xseg b.seg).map XSeg.use : Option XUse) with
  | some (.gStage x c) => (k.rkBy Core.rkG x).any (fun d => (k.rank d).round == 1 && (k.rank d).next == 8 * c + b.idx)
  | some (.gBack x c) => (k.rkBy Core.rkG x).any (fun d => (k.rank d).round == 4 && (k.rank d).next == 8 * c + b.idx)
  | some _ => true
  | none => false

def Core.pressDone (k : Core) (b : XBlk) : Core :=
  match k.xseg b.seg with
  | none => k
  | some s =>
    match s.use with
    | .contrib x c =>
      let k := (k.pressRotate x c b.idx).segDone b.seg b.idx [] false
      if s.done.length + 1 = s.n then k.dropSeg (fun t => t.id == s.id) else k
    | .gStage x c =>
      (match k.rkBy Core.rkG x with
      | none => k
      | some d =>
        let k := (k.pressG d false (8 * c + b.idx) b.data).segDone b.seg b.idx [] false
        if s.done.length + 1 = s.n then (k.dropSeg (fun t => t.id == s.id)).gStaged x c else k)
    | .gBack x c =>
      (match k.rkBy Core.rkG x with
      | none => k
      | some d =>
        let k := k.pressG d true (8 * c + b.idx) b.data
        let last : Bool := b.idx + 1 == s.n
        let k := if last then
            (k.dropSeg (fun t => t.id == s.id)).setRank d { k.rank d with held := (k.rank d).held.filter (fun i => i != c) }
          else k
        if (k.rank d).next = k.gBlocks d then k.startQ d else k)
    | _ => k

/-- A free tile takes the next block of a flow, by the default rule over flow index. -/
def Core.pressEv (k : Core) (tile : Nat) : Core :=
  if !bitAt k.svc.press tile then k
  else match rrPick 16384 k.xfm.rrPress (fun f => k.xfm.pressQ.any (fun b => b.flow == f && k.pressNext b)) with
    | none => k
    | some f =>
      match k.xfm.pressQ.find? (fun b => b.flow == f && k.pressNext b) with
      | none => k
      | some b =>
        let k := { k with xfm := { k.xfm with
          rrPress := (f + 1) % 16384
          pressQ := k.xfm.pressQ.filter (fun q => !(q.seg == b.seg && q.idx == b.idx)) } }
        k.pressDone b

/-! ### Orthonormalization (R174 steps 3 and 4, R175) -/

/-- P-hat chunks leave on send records of the P context, as records and buffers allow. -/
def Core.sendPhat : Nat → Nat → Core → Core
  | 0, _, k => k
  | n + 1, d, k =>
    let x := k.rkP d
    let r := k.rank d
    let c := r.sent
    if k.cChunks x ≤ c ∨ k.rOpen (k.resRec x c) = true ∨ k.isOn (.flow (k.cFlow x)) = false then k
    else
      let b := k.takeBuffer { user := .result x c, owner := k.cOwner x, size := 2, mem := 0 }
      match b.2 with
      | none => b.1
      | some p =>
        let data := floatChunk r.phat c
        let k := (b.1.mwr (ptrAddr p) data).openResult x c data.length p
        let k := ((List.range (pktCount data.length)).foldl (fun (k : Core) i => k.sendFirst (k.resRec x c) i) k).recTimer
          (k.resRec x c) (k.fd Reg.FCS_TIMER 31 16)
        Core.sendPhat n d (k.setRank d { k.rank d with sent := c + 1 })

/-- Coded blocks of a segment in HBM at `a`, each with whether it reads back poisoned (07_buffers_memory R214, R217). -/
def Core.blocksAt (k : Core) (a : Nat) (seg : List Byte) : List (List Byte × Bool) :=
  (lsPlaced seg).map (fun b => (b.2, k.poisoned a 768 || k.poisoned (a + b.1) b.2.length))

/-- Cholesky-QR of the reduced P, and G on its way back through the expanders. -/
def Core.orthonormalize (k : Core) (d : Nat) : Core :=
  let r := k.rank d
  let z := cholQr (k.rkR d) r.p
  let k := ((k.rkSet d 7 0 z.2).rkSet d 15 8 stOk).cntN Reg.XFM_DEFICIENT_CNT z.2
  let k := if z.2 = 0 then k else k.emit 0x2FFF 0x0504 [(107, 102, d), (95, 64, r.step), (7, 0, z.2)]
  let k := k.setRank d { r with round := 4, phat := z.1, qNew := List.replicate (k.rkN d * k.rkR d) 0, next := 0, sent := 0 }
  let x := k.rkG d
  let f := k.cFlow x
  r.held.foldl (fun k c =>
    let a := hbmBase + k.rkGPtr d + 33792 * c
    k.expStart f (.gBack x c) (k.blocksAt a (k.mrd a 33792))) k

def Core.orthoEv (k : Core) (d : Nat) : Core :=
  let k := if (k.rank d).round = 3 then k.orthonormalize d else k
  if (k.rank d).round = 4 then Core.sendPhat (k.cChunks (k.rkP d)) d k else k

/-! ### Registers -/

/-- An XFM register written (R192). -/
def Core.xfmWrite (k : Core) (a v : Nat) : Core × Nat :=
  if a = Reg.XFM_CLS_CMD then k.clsCmd (fld v 31 28) (fld v 3 0) (fld v 4 4) else k.rw a v

/-! ### Commands -/

def execXfmSetEnc (cls : Fin 16) (bank : Fin 2) (s : State) : Host.Outcome State Fault Refusal :=
  .next (s.mgmt Reg.XFM_STAT (fun k => k.clsCmd 1 cls.val bank.val))

def execXfmInvalidate (cls : Fin 16) (bank : Fin 2) (s : State) : Host.Outcome State Fault Refusal :=
  .next (s.mgmt Reg.XFM_STAT (fun k => k.clsCmd 2 cls.val bank.val))

/-- TABLE_LOAD: a word of the table bank window. -/
def execTableLoad (val : Word) (s : State) : Host.Outcome State Fault Refusal :=
  .next (s.mgmtWin Reg.XFM_STAT Reg.XFM_CLS_TBL 8192 clsWrite val.toNat)

def execRankDescWrite (val : Word) (s : State) : Host.Outcome State Fault Refusal :=
  .next (s.mgmtWin Reg.XFM_STAT Reg.XFM_RANK_TBL 1024 rankWrite val.toNat)

def execRankOrthonormalize (d : Fin 64) (s : State) : Host.Outcome State Fault Refusal :=
  .next (s.onCore (fun k => k.orthoEv d.val))

def execGenHoldExpire (cls : Fin 16) (bank : Fin 2) (s : State) : Host.Outcome State Fault Refusal :=
  .next (s.onCore (fun k => k.genHoldEv cls.val bank.val))

end Sys2Proof.Machine
end

