-- ==== Sys2Proof/Machine/Group.lean ====
section
/-!
DEFINITION. Line groups as other units see them (11_line_framing R320, R328 to R330): which port holds a position, the
positions in use, the window and timer of line retry (12_line_coding_retry R344 to R346), requests to the peer, and what a
group that enters FAULTED leaves behind (09_scheduling R257).
-/

namespace Sys2Proof.Machine

/-! ### Ports and positions -/

def Core.pAssigned (k : Core) (n : Nat) : Bool := bitAt (k.rd (Reg.LFR_P_CFG n)) 31
def Core.pGroup (k : Core) (n : Nat) : Nat := k.fd (Reg.LFR_P_CFG n) 30 28
def Core.pPos (k : Core) (n : Nat) : Nat := k.fd (Reg.LFR_P_CFG n) 27 24

/-- Is port `n` bound to position `p` of group `g`? -/
def Core.bound (k : Core) (n g p : Nat) : Bool := k.pAssigned n && k.pGroup n == g && k.pPos n == p

/-- The port bound to a position. -/
def Core.portAt (k : Core) (g p : Nat) : Option Nat := (List.range 16).find? (fun n => k.bound n g p)

/-- The ports bound to a group. -/
def Core.groupPorts (k : Core) (g : Nat) : List Nat := (List.range 16).filter (fun n => k.pAssigned n && k.pGroup n == g)

def Core.gConfig (k : Core) (g : Nat) : Nat := k.fd (Reg.LFR_G_MEMBERS g) 31 16
def Core.gInitReg (k : Core) (g : Nat) : Nat := k.fd (Reg.LFR_G_MEMBERS g) 15 0
def Core.gParReg (k : Core) (g : Nat) : Nat := k.fd (Reg.LFR_G_PARITY g) 15 0
def Core.gGid (k : Core) (g : Nat) : Nat := k.fd (Reg.LFR_G_CFG g) 31 16
def Core.gMinData (k : Core) (g : Nat) : Nat := k.fd (Reg.LFR_G_CFG g) 11 7

def Core.lp (k : Core) (n : Nat) : LPort := k.lport.get {} n
def Core.setLp (k : Core) (n : Nat) (x : LPort) : Core := { k with lport := k.lport.set {} n x }

/-- Group ON or DRAINING. -/
def Core.gLive (k : Core) (g : Nat) : Bool := k.isOn (.group g) || k.fst (.group g) == .draining

/-! ### Retired slices (07_buffers_memory R217) -/

/-- The number of retired HBM slices. -/
def Core.retiredN (k : Core) : Nat := ((List.range 32).filter (fun j => k.hbc.retired.get 0 j != 0)).length

/-- The effective retry window in ns (R344). -/
def Core.retryEff (k : Core) : Nat := min (10000 * k.fd Reg.LCD_RETRY 31 16) (5360000 * (32 - k.retiredN) / 32)

/-- SKEWMAX in ns (R323). -/
def Core.skewMax (k : Core) : Nat := 4000000 * (32 - k.retiredN) / 32

/-! ### Slot classes (10_timetable_time R289) -/

def Core.patLen (k : Core) (pat : Nat) : Nat := k.tbf Reg.TTX_PAT_TBL (8 * pat + 4) 5 0 + 1

/-- Class of slot `i` of a pattern. -/
def Core.patClass (k : Core) (pat i : Nat) : Nat :=
  k.tbf Reg.TTX_PAT_TBL (8 * pat + i / 16) (2 * (i % 16) + 1) (2 * (i % 16))

def Core.curPat (k : Core) (g : Nat) : PatRun := k.ttx.pats.get {} g

/-- Class of global slot `s` at group `g`. -/
def Core.slotClass (k : Core) (g s : Nat) : Nat :=
  let p := k.curPat g
  if s < p.base then k.patClass p.prev ((s - p.prevBase) % k.patLen p.prev)
  else k.patClass p.cur ((s - p.base) % k.patLen p.cur)

/-- The pattern in force now. -/
def Core.patNow (k : Core) (g : Nat) : Nat :=
  let p := k.curPat g
  if slotOf k.gns < p.base then p.prev else p.cur

/-- Slots of the longest run without a slack slot, the pattern repeating. -/
def Core.longestBusy (k : Core) (g : Nat) : Nat :=
  let p := k.patNow g
  let n := k.patLen p
  ((List.range (2 * n)).foldl (fun (a : Nat × Nat) i =>
    if k.patClass p (i % n) = 2 then (0, a.2) else (a.1 + 1, max a.2 (a.1 + 1))) (0, 0)).2

/-! ### Retry requests (R345, R346) -/

/-- The largest delay of the members in service, an unmeasured one counting with half the window; with none measured the
window stands for twice it. -/
def Core.retryDelay (k : Core) (g : Nat) : Nat :=
  let ms := (bitsOf 16 ((k.grp g).rxSvc)).filterMap (k.portAt g)
  let ds := ms.map (fun n => k.rd (Reg.TBS_P_DELAY n))
  if ds.all (fun d => d == 0) then k.retryEff
  else 2 * (ds.foldl (fun m d => max m (if d = 0 then k.retryEff / 2 else d)) 0)

/-- The timer of a request in ns. -/
def Core.rtmo (k : Core) (g : Nat) : Nat :=
  let r := k.fd Reg.LCD_RETRY 11 0
  if r ≠ 0 then 10000 * r
  else k.retryDelay g + (k.grp g).dcomp + (2 * k.longestBusy g * 131072) / 100 + 50000

/-- The message of a request (R345). -/
def RReq.msg (r : RReq) : List Byte :=
  if r.frames then [byte 0x10, byte 0] ++ beBytes 2 r.id ++ beBytes 4 r.gseq ++ beBytes 2 r.rows ++ beBytes 2 r.mask
  else [byte 0x11, byte 0] ++ beBytes 2 r.id ++ beBytes 4 r.gseq ++ [byte r.pos, byte r.cell]

/-- A request is sent under the group coder's next REQ_ID. -/
def Core.retrySend (k : Core) (g : Nat) (r : RReq) : Core :=
  let x := k.grp g
  let id := x.reqNext % 65536
  let r := { r with id := id, t := k.now + k.rtmo g, tries := r.tries + 1 }
  ((k.setGrp g { x with reqNext := (id + 1) % 65536, reqs := x.reqs ++ [r] }).cnt (Reg.LCD_G_REQ_CNT g)).gccSend g r.msg

/-- RETRY_GONE to the peer (R345). -/
def Core.retryGone (k : Core) (g id gseq reason : Nat) : Core :=
  k.gccSend g ([0x12, 0] ++ beBytes 2 id ++ beBytes 4 gseq ++ [byte reason])

/-- What names a segment wherever and whenever it is sent: its AAD (11_line_framing R308). -/
def segKey (h : List Byte) : List Byte := hdrAad h

/-- RETRY_SEGMENT for the segment of header `h`, whose header started at a cell, unless a request for it is live. -/
def Core.retrySegment (k : Core) (g gseq pos cell : Nat) (key : List Byte) : Core :=
  if (k.grp g).reqs.any (fun r => !r.frames && r.key == key) then k
  else k.retrySend g { id := 0, frames := false, gseq := gseq, pos := pos, cell := cell, key := key, t := 0, tries := 0 }

/-- RETRY_FRAMES for `n` unrecovered rows from `gseq` on, at most 256. Consecutive rows with the same lost positions share
one request while its message has not begun to leave (R346 step 1; DESIGN CHOICE: only until then, assumption log 117). -/
def Core.retryRows (k : Core) (g gseq n mask : Nat) : Core :=
  let x := k.grp g
  let room := fun (r : RReq) => r.frames && r.mask == mask && (r.gseq + r.rows) % 2 ^ 32 == gseq && decide (r.rows + n ≤ 256) &&
    (if x.gccCopy = 0 then x.gcc else x.gcc.drop 1).contains r.msg
  match x.reqs.find? room with
  | none => k.retrySend g { id := 0, frames := true, gseq := gseq, rows := n, mask := mask, t := 0, tries := 0 }
  | some r =>
    let q := { r with rows := r.rows + n }
    k.setGrp g { x with reqs := x.reqs.map (fun (y : RReq) => if y.id = r.id then q else y)
                        gcc := x.gcc.map (fun m => if m = r.msg then q.msg else m) }

/-- A request is given up (R346 step 5): `why` 1 attempts used, 2 RETRY_GONE with its reason. -/
def Core.retryGiveUp (k : Core) (g : Nat) (r : RReq) (why reason : Nat) : Core :=
  let x := k.grp g
  let k := k.setGrp g { x with reqs := x.reqs.filter (fun q => q.id != r.id) }
  (k.cnt (Reg.LCD_G_GIVEUP_CNT g)).emit 0x5818 0x0B02
    [(107, 105, g), (104, 89, r.id), (88, 86, why), (85, 83, reason), (63, 32, r.gseq)]

/-! ### Scheduler queues emptied (09_scheduling R257) -/

def Core.schg (k : Core) (g : Nat) : SchG := k.sch.get {} g
def Core.setSchg (k : Core) (g : Nat) (x : SchG) : Core := { k with sch := k.sch.set {} g x }

def SchG.queue (x : SchG) (q : Nat) : List Item := x.qs.get [] q

/-- Every item queued. -/
def SchG.items (x : SchG) : List Item := (x.qs.cells.map Prod.snd).flatten

/-- An item is discarded: counted, its version released. -/
def Core.discardItem (k : Core) (i : Item) : Core := (k.cnt Reg.SCH_DISC_CNT).itemGone i.ver

/-- A group's queues are emptied, counted (ITEMS_DISCARDED); its resends and the segment being sent are given up. Items
not yet handed over meet R388 at their hand-over. -/
def Core.schDiscard (k : Core) (g : Nat) : Core :=
  let x := k.schg g
  let n := x.items.length
  let k := x.items.foldl (fun k i => k.discardItem i) k
  let k := if n = 0 then k else k.emit (0x4000 + g) 0x0802 [(107, 105, g), (31, 0, n)]
  let k := k.setSchg g { x with qs := {}, sending := [] }
  let y := k.grp g
  let vs := (y.txSegs.filter (·.held)).map (·.ver) ++ y.txVer.toList
  let k := vs.foldl (fun k v => k.itemGone v) k
  k.setGrp g { k.grp g with resend := [], txSegs := [], txCur := [], txVer := none }

/-- A group enters FAULTED: its items are discarded, its flows FAULTED (04_flows R98). -/
def Core.groupFault (k : Core) (g st : Nat) : Core :=
  match k.fst (.group g) with
  | .off => k
  | .faulted => k
  | _ =>
    let k := ((k.fnFault (.group g) st).timeGroupChk).schDiscard g
    (k.liveFlows.filter (fun f => k.fLgroup f == g)).foldl (fun k f => k.flowFault f st stTimeout) k

end Sys2Proof.Machine
end

