-- ==== Sys2Proof/Machine/Cipher.lean ====
section
/-!
DEFINITION. Key slots and the cipher engine (08_cipher R225 to R252): loading, switching, retiring and zeroizing keys;
requests from dispatch to completion; tag failures and re-delivery. Operations; the commands stand in Machine/KeyCmd.lean
and Machine/UnitCmd.lean.
-/

namespace Sys2Proof.Machine

/-! ### Audit (R247) -/

/-- TENANT_AUDIT (R252). -/
def Core.audit (k : Core) (slot owner op st keyId flow : Nat) : Core :=
  k.emit 0x8001 0x1000 [(107, 96, slot), (95, 90, owner), (89, 86, op), (85, 78, st), (63, 32, keyId), (13, 0, flow)]

/-- A key message to every peer of a slot. -/
def Core.keyMsg (k : Core) (typ i keyId pos : Nat) : Core :=
  (k.keyPeers i).foldl (fun k s =>
    k.gccTo s ([byte typ, byte k.mySite] ++ beBytes 4 keyId ++ [byte pos] ++ List.replicate 9 0)) k

/-! ### Switch, retire, zeroize (R244, R245, R248) -/

/-- Does a slot have a request in flight (R231)? -/
def Core.slotBusy (k : Core) (i : Nat) : Bool := k.cip.cores.cells.any (fun c => c.2.any (fun x => x.req.slot == i))

/-- Is a key command running: a LOAD, or a SWITCH or RETIRE by CIP_KCMD that waits for its slot (R231)? -/
def Core.kbusy (k : Core) : Bool :=
  k.cip.kcmd.isSome || k.cip.writes.any (fun w => w.op == .switch false || w.op == .retire)

/-- A slot write waits for the slot's requests in flight. -/
def Core.slotWait (k : Core) (slot pos : Nat) (op : SlotOp) : Core :=
  { k with cip := { k.cip with writes := k.cip.writes ++ [{ slot := slot, pos := pos, op := op }] } }

/-- The checks of a SWITCH (R244) but KBUSY's. -/
def Core.switchCheck (k : Core) (i pos : Nat) : Nat :=
  let s := k.kslot i
  if !(s.pos pos).loaded then stSlot
  else if s.txPos = pos then stOk
  else if !k.peersIn i s.ready then stBusy
  else stOk

/-- A SWITCH checked and done. -/
def Core.switchNow (k : Core) (i pos : Nat) (tt : Bool) : Core × Nat :=
  let s := k.kslot i
  let p := s.pos pos
  let st := k.switchCheck i pos
  let ev := fun (k : Core) (bad : Nat) (ready : Nat) =>
    k.emit 0x48B0 0x0901 [(107, 96, i), (95, 95, pos), (94, 94, bad), (93, 78, ready), (63, 32, p.keyId)]
  if st ≠ stOk then ((if tt then ev k 1 s.ready else k).audit i s.owner 2 st p.keyId 0x3FFF, st)
  else if s.txPos = pos then (k.audit i s.owner 2 stOk p.keyId 0x3FFF, stOk)
  else
    let old := s.pos (1 - pos)
    let s' := (s.setPos (1 - pos) { old with held := old.loaded, lastArr := k.now }).setPos pos { p with held := false }
    let k := k.setKslot i { s' with txPos := pos, ready := 0 }
    ((ev k 0 s.ready).audit i s.owner 2 stOk p.keyId 0x3FFF, stOk)

/-- SWITCH, `tt` when the timetable fired it: the status, and what it does. It waits while its slot has a request in
flight (R231). -/
def Core.keySwitch (k : Core) (i pos : Nat) (tt : Bool) : Core × Nat :=
  let s := k.kslot i
  if !tt && k.kbusy then (k.audit i s.owner 2 stBusy (s.pos pos).keyId 0x3FFF, stBusy)
  else if k.switchCheck i pos = stOk ∧ s.txPos ≠ pos ∧ k.slotBusy i = true then (k.slotWait i pos (.switch tt), stOk)
  else k.switchNow i pos tt

/-- A position is retired: erased, its peers told; `cmd` by RETIRE (R245). -/
def Core.retirePos (k : Core) (i pos : Nat) (cmd : Bool) : Core :=
  let s := k.kslot i
  let p := s.pos pos
  let s' := s.setPos pos { prevId := p.keyId }
  let s' := { s' with ackWait := !(k.keyPeers i).isEmpty && !k.peersIn i s.rack }
  let k := (k.setKslot i s').keyMsg 0x32 i p.keyId pos
  (k.emit 0x48B0 0x0902 [(107, 96, i), (95, 95, pos), (94, 94, cmd.toNat), (63, 32, p.keyId)]).audit i s.owner 3 stOk p.keyId 0x3FFF

/-- A RETIRE checked and done. -/
def Core.retireNow (k : Core) (i pos : Nat) : Core × Nat :=
  let s := k.kslot i
  let p := s.pos pos
  let st := if !p.loaded then stSlot else if p.held || s.txPos == pos then stBusy else stOk
  if st = stOk then (k.retirePos i pos true, stOk) else (k.audit i s.owner 3 st p.keyId 0x3FFF, st)

def Core.keyRetire (k : Core) (i pos : Nat) : Core × Nat :=
  let s := k.kslot i
  let p := s.pos pos
  if k.kbusy then (k.audit i s.owner 3 stBusy p.keyId 0x3FFF, stBusy)
  else if p.loaded = true ∧ p.held = false ∧ s.txPos ≠ pos ∧ k.slotBusy i = true then (k.slotWait i pos .retire, stOk)
  else k.retireNow i pos

/-- The hold of a HELD position, in ns. -/
def Core.keyHold (k : Core) : Nat := max (100000 * k.fd Reg.CIP_KEYHOLD 15 0) (k.retryEff + 1000000)

/-- A HELD position whose hold is over is retired. -/
def Core.heldNow (k : Core) (i pos : Nat) : Core :=
  let p := (k.kslot i).pos pos
  if p.held && p.loaded && decide (p.lastArr + k.keyHold ≤ k.now) then k.retirePos i pos false else k

def Core.heldRetireEv (k : Core) (i pos : Nat) : Core :=
  if k.slotBusy i && !k.cip.writes.contains { slot := i, pos := pos, op := .held } then k.slotWait i pos .held
  else if k.slotBusy i then k
  else k.heldNow i pos

/-- Ciphertext of a position's epoch arrived. -/
def Core.epochArrived (k : Core) (i ep : Nat) : Core :=
  let s := k.kslot i
  let p := s.pos ep
  if p.loaded then k.setKslot i (s.setPos ep { p with lastArr := k.now }) else k

/-! ### The most recent failed request (R236, R237, R249, R250) -/

/-- The producer's reference; the spec names what it holds and gives no layout for a collective's or for a message from
the line. -/
def ReqUse.cookie : ReqUse → Nat
  | .msgOut _ _ _ cmpl inv => let _ := inv; cmpl
  | .contribOut x c inv dst => Config.freeField (2 ^ 80 + ((x * 2 ^ 32 + c) * 16 + dst) * 16 + inv) % 2 ^ 32
  | .resultOut x c inv dst => Config.freeField (2 ^ 81 + ((x * 2 ^ 32 + c) * 16 + dst) * 16 + inv) % 2 ^ 32
  | .statusOut x c dst => Config.freeField (2 ^ 82 + (x * 2 ^ 32 + c) * 16 + dst) % 2 ^ 32
  | .msgIn f b inv _ => Config.freeField (2 ^ 83 + (f * 2 ^ 48 + b) * 16 + inv) % 2 ^ 32
  | .contribIn x c s inv _ => Config.freeField (2 ^ 84 + ((x * 2 ^ 32 + c) * 16 + s) * 16 + inv) % 2 ^ 32
  | .resultIn x c inv _ => Config.freeField (2 ^ 85 + (x * 2 ^ 32 + c) * 16 + inv) % 2 ^ 32
  | .statusIn x c _ => Config.freeField (2 ^ 86 + x * 2 ^ 32 + c) % 2 ^ 32

/-- The eight words of a descriptor. -/
def Req.words (r : Req) : List Nat :=
  [args [(63, 60, r.op), (59, 48, r.slot), (47, 47, r.epoch), (46, 41, r.owner), (40, 24, r.data.length - 1),
      (23, 14, (if r.aad.isEmpty then hdrAad r.hdr else r.aad).length),
      (13, 0, r.flow)],
    r.src, r.dst, r.aadPtr.toNat, beNat (slice r.iv 4 8), r.use.cookie * 2 ^ 32 + beNat (slice r.iv 0 4),
    beNat (slice r.tag 0 8), beNat (slice r.tag 8 8)]

/-- CIP_LASTERR takes a failed request. -/
def Core.lastErr (k : Core) (r : Req) (st : Nat) : Core :=
  let k := r.words.zipIdx.foldl (fun k w =>
    (k.tbw Reg.CIP_LASTERR_TBL (2 * w.2) w.1).tbw Reg.CIP_LASTERR_TBL (2 * w.2 + 1) (w.1 >>> 32)) k
  k.tbw Reg.CIP_LASTERR_TBL 16 st

def Req.queue (r : Req) : Nat := if r.op = 1 then r.g else 8 + r.g

/-! ### Staged items and re-delivery (R240, R241) -/

def ReqUse.item? : ReqUse → Option Nat
  | .msgIn _ _ _ i => some i
  | .contribIn _ _ _ _ i => some i
  | .resultIn _ _ _ i => some i
  | .statusIn _ _ i => some i
  | _ => none

/-- What identifies a segment over its deliveries. -/
def ReqUse.segKey : ReqUse → Nat × Nat × Nat × Nat
  | .msgIn f b inv _ => (1, f, b, inv)
  | .contribIn x c s inv _ => (2, x, c, 16 * s + inv)
  | .resultIn x c inv _ => (3, x, c, inv)
  | .statusIn x c _ => (4, x, c, 0)
  | _ => (0, 0, 0, 0)

def Core.itemById (k : Core) (id : Nat) : Option RxItem := k.cle.rx.find? (fun i => i.id == id)

def Core.delFails (k : Core) (key : Nat × Nat × Nat × Nat) : Nat :=
  ((k.cip.dels.find? (fun d => d.key == key)).map (·.fails)).getD 0

def Core.setDels (k : Core) (key : Nat × Nat × Nat × Nat) (n : Nat) : Core :=
  { k with cip := { k.cip with dels := k.cip.dels.filter (fun d => d.key != key) ++
      (if n = 0 then [] else [{ key := key, fails := n }]) } }

abbrev Core.maxDeliv (k : Core) : Nat := k.fd Reg.CIP_TAGCFG 3 0

/-- An item's ciphertext is discarded, and the segment asked for again unless it was given up. -/
def Core.againItem (k : Core) (up : Bool) (id : Nat) : Core :=
  match k.itemById id with
  | none => k
  | some i =>
    let k := k.dropItem i
    if up then k else k.retrySegment i.g i.gseq i.pos i.cell (segKey i.hdr)

/-- A tag failure is counted, logged, and weighed against the slot's alarm (R240 step 1, R241). -/
def Core.tagSeen (k : Core) (r : Req) : Core :=
  let i := r.slot
  let s := k.kslot i
  let k := (k.cnt Reg.CIP_TAG_CNT).emitLim (0x48A0 + r.queue) 0x0904 i 0 32
    [(107, 96, i), (95, 95, r.epoch), (93, 80, r.flow), (79, 48, r.use.cookie)]
  let times := (s.tagT ++ [k.now]).filter (fun t => decide (k.now < t + 1000000000))
  let isOver := decide (k.fd Reg.CIP_TAGCFG 23 8 ≤ times.length)
  let was := s.alarmed && decide (k.fd Reg.CIP_TAGCFG 23 8 ≤ times.length - 1)
  let k := k.setKslot i { s with tagFail := satAdd 16 s.tagFail 1, tagT := times, alarmed := isOver }
  if isOver && !was then
    (k.emit 0x48B0 0x0909 [(107, 96, i), (95, 90, s.owner), (31, 0, times.length)]).audit i s.owner 6 stOk (s.pos r.epoch).keyId r.flow
  else k

/-- The failed delivery is weighed against the segment's limit of deliveries (R241): is the segment given up? -/
def Core.tagCount (k : Core) (r : Req) : Core × Bool :=
  let n := k.delFails r.use.segKey + 1
  if k.maxDeliv ≤ n then
    (((k.setDels r.use.segKey 0).cnt Reg.CIP_GIVEUP_CNT).emit (0x48A0 + r.queue) 0x0905
      [(107, 96, r.slot), (93, 80, r.flow), (79, 48, r.use.cookie)], true)
  else (k.setDels r.use.segKey n, false)

/-- Every item of a contribution is discarded, and asked for again unless the contribution was given up. -/
def Core.contribAgain (k : Core) (x c s : Nat) : Core :=
  let up := (k.slot x c s).up
  (k.contribItems x c s).foldl (fun k i => k.againItem up i.id) k

/-- A contribution's subtraction is done: it runs again from staging where its core was cut off (R238), else it is asked
for again (R240 steps 3 and 4). -/
def Core.subDone (k : Core) (x c s : Nat) (e : Option (List Elem)) : Core :=
  let cut := (k.slot x c s).cut
  let k := k.slotGone x c s e
  if cut then k.slotAgain x c s else k.contribAgain x c s

/-- Has anything of a contribution been delivered to the churns? -/
def Core.delivered (k : Core) (x c s : Nat) : Bool := !(k.slot x c s).parts.isEmpty || (k.slot x c s).added

/-- Does a contribution's slot still wait for this delivery of a segment? -/
def Core.ofSlot (k : Core) (x c s item : Nat) : Bool := (k.slot x c s).items.contains item

/-- A contribution that cannot be had as it stands: what was delivered of it is taken out again, the rest discarded. -/
def Core.contribFailed (k : Core) (x c s : Nat) : Core :=
  if (k.slot x c s).removing then k
  else if k.delivered x c s then k.slotFailed x c s
  else (k.slotDropped x c s).contribAgain x c s

/-- A contribution is given up: no re-delivery of it is asked for or taken. -/
def Core.contribGiven (k : Core) (x c s : Nat) : Core := k.setSlot x c s { k.slot x c s with up := true }

/-- A decryption failed its tag, or found no key (R237, R240, R241). A request of a delivery already discarded is counted,
and nothing more. -/
def Core.tagFailed (k : Core) (r : Req) : Core :=
  let k := k.tagSeen r
  match r.use with
  | .contribIn x c s _ item =>
    if !k.ofSlot x c s item then k
    else
      let n := k.tagCount r
      (if n.2 then n.1.contribGiven x c s else n.1).contribFailed x c s
  | u => match u.item? with
    | some id =>
      if (k.itemById id).isNone then k
      else
        let n := k.tagCount r
        n.1.againItem n.2 id
    | none => k

/-- A provisional decryption cut off by the quarantine of its core: as a tag failure, but the ciphertext still in staging
serves for the next run (R238). -/
def Core.provCut (k : Core) (r : Req) : Core :=
  let k := k.tagSeen r
  match r.use with
  | .contribIn x c s _ item =>
    if !k.ofSlot x c s item || (k.slot x c s).removing then k
    else if k.delivered x c s then
      (k.slotFailed x c s).updChunk x c (fun h => { h with slots := h.slots.upd {} s (fun z => { z with cut := true }) })
    else (k.slotDropped x c s).slotAgain x c s
  | _ => k

/-! ### Messages rebuilt from the line (R226, 04_flows R112, 06_compression R157) -/

/-- Is every byte of a message's line form there? -/
def Core.msgWhole (k : Core) (m : RxMsg) : Bool :=
  let d := msgPrefix m.raw 32 0
  match k.fCmode m.flow with
  | 1 => decide (msgMxBytes (k.fLineFmt m.flow) m.size ≤ d.length)
  | 2 =>
    let o := lsOffset d ((m.size + 4095) / 4096 - 1)
    decide (768 + o + 16 ≤ d.length) && decide (768 + o + lsLen (d.drop (768 + o)) ≤ d.length)
  | _ => decide (m.size ≤ d.length)

/-- The smallest buffer size not below a message's. -/
def msgBufSize (n : Nat) : Nat := if n ≤ 256 then 0 else if n ≤ 4096 then 1 else if n ≤ 65536 then 2 else 3

/-- A whole message takes its buffer, and goes to the fabric under its flow's CMODE; one whose flow is not ON is dropped. -/
def Core.msgTry (k : Core) (m : RxMsg) : Core :=
  if !k.msgWhole m then k
  else if !k.isOn (.flow m.flow) then
    { k with fcs := { k.fcs with rxMsgs := k.fcs.rxMsgs.filter (fun (x : RxMsg) => !(x.flow == m.flow && x.base == m.base)) } }
  else
    let r := k.takeBuffer { user := .custody m.flow m.base, owner := k.fOwner m.flow, size := msgBufSize m.size, mem := 0, either := true }
    match r.2 with
    | none => r.1
    | some p =>
      let m := { m with ptr := p }
      let k := { r.1 with fcs := { r.1.fcs with rxMsgs := r.1.fcs.rxMsgs.map (fun (x : RxMsg) =>
        if x.flow == m.flow && x.base == m.base then m else x) } }
      let d := msgPrefix m.raw 32 0
      match k.fCmode m.flow with
      | 1 => k.msgArrived m (msgFromMx (k.fLineFmt m.flow) m.size d) []
      | 2 =>
        k.expStart m.flow (.msgIn m.base) (((lsBlocks d).take ((m.size + 4095) / 4096)).map (fun b => (b, false)))
      | _ => k.msgArrived m (d.take m.size) []

/-- An invocation of a message verified. -/
def Core.msgVerified (k : Core) (f base inv item : Nat) (h d : List Byte) : Core :=
  let k := match k.itemById item with
    | some i => k.dropItem i
    | none => k
  let k := k.setDels (1, f, base, inv) 0
  let k : Core := { k with fcs := { k.fcs with had := k.fcs.had ++ [(f, base, inv)] } }
  match k.fcs.rxMsgs.find? (fun m => m.flow == f && m.base == base) with
  | some m =>
    let m := { m with got := m.got ++ [inv], raw := m.raw.filter (fun p => p.1 != inv) ++ [(inv, d)] }
    ({ k with fcs := { k.fcs with rxMsgs := k.fcs.rxMsgs.map (fun (x : RxMsg) => if x.flow == f && x.base == base then m else x) } } : Core).msgTry m
  | none =>
    let m : RxMsg := { flow := f, base := base, size := shSize h, cmpl := shCmpl h, ptr := 0, got := [inv], raw := [(inv, d)] }
    ({ k with fcs := { k.fcs with rxMsgs := k.fcs.rxMsgs ++ [m] } } : Core).msgTry m

/-! ### Dispatch (R233 to R237) -/

/-- Does a slot's PURPOSE fit a request? -/
def Core.purposeOk (k : Core) (r : Req) : Bool :=
  let s := k.kslot r.slot
  match r.use with
  | .msgOut .. => s.purpose == 0 && s.owner == r.owner
  | .msgIn .. => s.purpose == 0 && s.owner == r.owner
  | _ => s.purpose == 1

/-- The checks of R237: the status, and the counter that takes it. -/
def Core.reqCheck (k : Core) (r : Req) : Nat × Nat :=
  let s := k.kslot r.slot
  let pos := if r.op = 1 ∧ r.iv = [] then s.txPos else r.epoch
  if r.op = 0 ∨ 4 < r.op then (stRange, Reg.CIP_SLOT_CNT)
  else if s.empty || !(s.pos pos).loaded then (stSlot, Reg.CIP_NOKEY_CNT)
  else if !k.purposeOk r then (stSlot, Reg.CIP_SLOT_CNT)
  else if 512 < r.aad.length then (stLen, Reg.CIP_LEN_CNT)
  else if r.op = 1 ∧ r.iv = [] ∧ 2 ^ 32 ≤ (s.pos pos).used then (stLen, Reg.CIP_LEN_CNT)
  else (stOk, 0)

/-- A refused request (R237): counted, recorded, its producer told. A message that cannot be encrypted is discarded; a
decryption whose position is not loaded is handled as a tag failure, any other ends its segment, which is not asked for
again (DEDUCED, assumption log 103); a subtraction that cannot run removes what was added all the same. -/
def Core.reqRefused (k : Core) (r : Req) (st cntReg : Nat) : Core :=
  let s := k.kslot r.slot
  let k := (k.cnt cntReg).lastErr r st
  let k := if st = stSlot then k.audit r.slot s.owner 5 st (s.pos (if r.op = 1 then s.txPos else r.epoch)).keyId r.flow else k
  if r.op = 1 then
    (match r.use with
    | .msgOut .. => if st = stLen then
        k.emitLim (0x48A0 + r.queue) 0x0907 r.slot 0 32 [(107, 96, r.slot), (95, 95, s.txPos), (93, 80, r.flow)]
      else k
    | _ => k).itemGone r.ver
  else match r.use with
    | .contribIn x c sl _ item =>
      if r.op = 4 then
        (if k.ofSlot x c sl item && (k.slot x c sl).removing then k.subDone x c sl none else k)
      else if cntReg = Reg.CIP_NOKEY_CNT then k.tagFailed r
      else if k.ofSlot x c sl item then (k.contribGiven x c sl).contribFailed x c sl
      else k
    | u => if cntReg = Reg.CIP_NOKEY_CNT then k.tagFailed r
      else match u.item? with
        | some id => k.againItem true id
        | none => k

/-- The IV of an encryption (R233). -/
def Core.ivOf (k : Core) (p : KeyPos) : List Byte :=
  beBytes 4 (setFld p.salt 9 0 (k.mySite * 64 + k.gw)) ++ beBytes 4 p.loadSeq ++ beBytes 4 p.used

/-- An encryption under the transmit position of slot `i`: USED advances, and KEY_NEAR_LIMIT is logged when it reaches
2^31 (R237). -/
def Core.useKey (k : Core) (i : Nat) : Core :=
  let s := k.kslot i
  let p := s.pos s.txPos
  let k := k.setKslot i (s.setPos s.txPos { p with used := p.used + 1 })
  if p.used + 1 = 2 ^ 31 then k.emit 0x48B0 0x0906 [(107, 96, i), (95, 95, s.txPos), (63, 32, p.keyId)] else k

/-- A request that passed runs: an encryption takes the transmit position and the next IV; a provisional decryption
streams into the churns. An encryption run again after its core was quarantined keeps position and IV (R238). -/
def Core.reqRun (k : Core) (r : Req) (cn : Nat) : Core :=
  let s := k.kslot r.slot
  let put := fun (k : Core) (x : Run) => ({ k with cip := { k.cip with cores := k.cip.cores.set none cn (some x) } } : Core)
  if r.op = 1 ∧ r.iv ≠ [] then
    put k { req := r, pos := r.epoch, out := (gcmEncrypt (s.pos r.epoch).key r.iv r.aad r.data).1, ok := true }
  else if r.op = 1 then
    let p := s.pos s.txPos
    let iv := k.ivOf p
    let msg := shType r.hdr == tMsg
    let h0 := hdrFill r.hdr (if msg then s.txPos else 0) iv []
    let z := gcmEncrypt p.key iv (hdrAad h0) r.data
    let h := hdrFill r.hdr (if msg then s.txPos else 0) iv z.2
    put (k.useKey r.slot) { req := { r with epoch := s.txPos, iv := iv, tag := z.2, hdr := h, aad := hdrAad h0 }, pos := s.txPos, out := z.1, ok := true }
  else
    let p := s.pos r.epoch
    let z := gcmDecrypt p.key r.iv r.aad r.data r.tag
    let k := put k { req := r, pos := r.epoch, out := z.1, ok := z.2 }
    let k := match r.use.item? with
      | some id => k.noteItem id (((k.itemById id).map (·.t)).getD 0)
      | none => k
    match r.op, r.use with
    | 3, .contribIn x c sl inv item => k.slotStream x c sl inv item z.1
    | _, _ => k

/-- May the head of queue `q` be dispatched? A hand-over that waits holds its group's encryptions (09_scheduling R256); a
slot write that waits holds the queue whose head names its slot (R231). -/
def Core.queueReady (k : Core) (q : Nat) : Bool :=
  (match k.reqQ q with
    | [] => false
    | r :: _ => !k.cip.writes.any (fun w => w.slot == r.slot)) &&
  !(decide (q < 8) && k.cip.handWait.get 0 q == 1)

def Core.dispatchEv (k : Core) (cn : Nat) : Core :=
  if !bitAt k.svc.ciph cn || (k.cip.cores.get none cn).isSome then k
  else match rrPick 16 k.cip.rr k.queueReady with
    | none => k
    | some q =>
      match k.reqQ q with
      | [] => k
      | r :: rest =>
        let k := k.fillReqQ q rest
        let k := { k with cip := { k.cip with rr := (q + 1) % 16 } }
        let z := k.reqCheck r
        if z.1 = stOk then k.reqRun r cn else k.reqRefused r z.1 z.2

/-! ### Completion (R238 to R240) -/

/-- An encryption's item waits to be handed to its group's scheduler. -/
def Core.handItem (k : Core) (x : Run) : Core :=
  let r := x.req
  let grp := shType r.hdr != tMsg
  let f := shFlow r.hdr
  let i : Item :=
    { g := r.g, q := k.fQueue f, hdr := r.hdr, ct := x.out, bytes := 64 * (1 + (x.out.length + 63) / 64), ke := x.pos
      grp := grp, ver := r.ver, t := k.now, use := r.use }
  { k with cip := { k.cip with hand := k.cip.hand.set [] r.g (k.cip.hand.get [] r.g ++ [i]) } }

/-- A decryption whose tag verified. A contribution decrypted again as final streams into the churns here (05_collectives
R134). -/
def Core.decryptOk (k : Core) (x : Run) : Core :=
  match x.req.use with
  | .msgIn f b inv i => k.msgVerified f b inv i x.req.hdr x.out
  | .contribIn a c s inv i =>
    if !k.ofSlot a c s i then k
    else
      let k := k.setDels x.req.use.segKey 0
      (if x.req.op = 2 then k.slotStream a c s inv i x.out else k).slotVerified a c s inv i
  | .resultIn a c _ _ => (k.setDels x.req.use.segKey 0).resultVerified a c x.out
  | .statusIn a c _ => (k.setDels x.req.use.segKey 0).statusVerified a c (byteAt x.out 0)
  | _ => k

/-- The request a core runs completes. -/
def Core.completeEv (k : Core) (cn : Nat) : Core :=
  match k.cip.cores.get none cn with
  | none => k
  | some x =>
    let k := ({ k with cip := { k.cip with cores := k.cip.cores.set none cn none } } : Core).cum Reg.CIP_INV_LO 1
    match x.req.op with
    | 1 => k.handItem x
    | 4 =>
      (match x.req.use with
      | .contribIn a c s inv i =>
        let r := k.slotSubtract a c s inv i x.out
        (match r.2 with
        | some e => r.1.subDone a c s e
        | none => r.1)
      | _ => k)
    | _ => if x.ok then k.decryptOk x else (k.lastErr x.req stTag).tagFailed x.req

/-! ### Zeroize (R248) -/

/-- Requests in flight under a slot end with ST_SLOT. -/
def Core.endRuns (k : Core) (which : Req → Bool) : Core × Nat :=
  (List.range 160).foldl (fun (a : Core × Nat) cn =>
    match a.1.cip.cores.get none cn with
    | some x =>
      if which x.req then
        let k := ({ a.1 with cip := { a.1.cip with cores := a.1.cip.cores.set none cn none } } : Core).lastErr x.req stSlot
        let k := if x.req.op = 1 then k.itemGone x.req.ver
          else match x.req.use with
            | .msgIn _ _ _ i => k.againItem true i
            | _ => k
        (k, a.2 + 1)
      else a
    | none => a) (k, 0)

/-- A LOAD in progress is cancelled. -/
def Core.cancelLoad (k : Core) : Core :=
  match k.cip.kcmd with
  | none => k
  | some c =>
    let s := k.kslot c.slot
    let k : Core := { k with cip := { k.cip with kcmd := none, blob := [], writes := k.cip.writes.filter (fun w => w.op != .load) } }
    (k.wrf Reg.CIP_STAT 7 0 stSlot).audit c.slot s.owner 1 stSlot (s.pos c.pos).keyId 0x3FFF

/-- The users of a slot enter FAULTED. -/
def Core.faultUsers (k : Core) (i : Nat) : Core :=
  let k := (k.slotFlows i).foldl (fun k f => k.flowFault f stSlot stSlot) k
  (k.slotGroups i).foldl (fun k g => k.groupFault g stSlot) k

def Core.zeroizeSlot (k : Core) (i : Nat) : Core :=
  let k := k.cancelLoad
  let s := k.kslot i
  let k := { k with cip := { k.cip with writes := k.cip.writes.filter (fun w => w.slot != i) } }
  let r := (k.setKslot i {}).endRuns (fun q => q.slot == i)
  let k := r.1.emit 0x48B0 0x0903 [(107, 96, i), (7, 0, r.2)]
  (k.audit i s.owner 4 stOk (s.pos s.txPos).keyId 0x3FFF).faultUsers i

/-- Every slot and the unwrapped KEK copy; no slot can be loaded until the next start. -/
def Core.zeroizeAll (k : Core) : Core :=
  let k := k.cancelLoad
  let used := (List.range 4096).filter (fun i => !(k.kslot i).empty)
  let r := ({ k with cip := { k.cip with slots := {}, kek := none, noLoad := true, writes := [] } } : Core).endRuns (fun _ => true)
  let k := r.1.emit 0x48B0 0x0903 [(107, 96, 0xFFF), (7, 0, min r.2 255)]
  used.foldl (fun k i => k.faultUsers i) (k.audit 0xFFF 0 4 stOk 0 0x3FFF)

/-! ### Loading (R229, R230, R232) -/

/-- The plaintext of a blob. -/
structure KeyBlob where
  key : BitVec 256
  salt : Nat
  keyId : Nat
  owner : Nat
  purpose : Nat
deriving DecidableEq, Repr

def parseKey (p : List Byte) : Option KeyBlob :=
  let id := beNat (slice p 36 4)
  let o := byteAt p 40
  let u := byteAt p 41
  if p.length ≠ 48 ∨ 2 < u ∨ id = 0 ∨ 64 ≤ o ∨ beNat (slice p 42 6) ≠ 0 then none
  else some { key := BitVec.ofNat 256 (beNat (slice p 0 32)), salt := beNat (slice p 32 4), keyId := id, owner := o, purpose := u }

/-- The next LOAD_SEQ from the ledger in flash: a block of 4,096 is reserved before any value of it is assigned. -/
def State.takeSeq (s : State) : Option (State × Nat) :=
  let c := s.core.cip
  if c.next < c.blkEnd then some ({ s with core := { s.core with cip := { c with next := c.next + 1 } } }, c.next)
  else if 65536 ≤ s.nvm.ledger.length then none
  else
    let b := s.nvm.ledger.getLastD 0
    some ({ s with nvm := { s.nvm with ledger := s.nvm.ledger ++ [b + 4096] }
                   core := { s.core with cip := { c with next := b + 1, blkEnd := b + 4096 } } }, b)

/-- Is there a LOAD_SEQ left? -/
def State.seqLeft (s : State) : Bool := decide (s.core.cip.next < s.core.cip.blkEnd) || decide (s.nvm.ledger.length < 65536)

/-- The checks of a LOAD, in order: the status, and the unwrapped key. With no unwrapped KEK copy, or after a full zeroize
(R248), no blob is of the current KEK generation (DEDUCED, assumption log 104). -/
def State.loadCheck (s : State) (i pos : Nat) (blob : List Byte) : Nat × Option KeyBlob :=
  let k := s.core
  let x := k.kslot i
  let key := match s.core.cip.kek with
    | some kek => (kwUnwrap kek (slice blob 8 56)).bind parseKey
    | none => none
  if beNat (slice blob 0 2) ≠ 0x4B57 ∨ byteAt blob 2 ≠ 1 ∨ beNat (slice blob 6 2) ≠ 0 then (stRange, none)
  else if byteAt blob 3 ≠ s.otp.kekGen ∨ s.core.cip.kek.isNone = true ∨ s.core.cip.noLoad = true then (stDenied, none)
  else if beNat (slice blob 4 2) ≠ 0xFFFF ∧ beNat (slice blob 4 2) ≠ i then (stSlot, none)
  else if (x.pos pos).loaded || (k.ackOpen i && x.txPos != pos) then (stBusy, none)
  else match key with
    | none => (stTag, none)
    | some b =>
      if !x.empty && (b.owner != x.owner || b.purpose != x.purpose) then (stSlot, none)
      else if (x.pos (1 - pos)).loaded && (x.pos (1 - pos)).keyId == b.keyId then (stRange, none)
      else if !s.seqLeft then (stLocked, none)
      else (stOk, some b)

/-- A LOAD ends (R230): the slot takes the key, or not; the blob window is cleared. -/
def State.loadKey (s : State) (i pos : Nat) (blob : List Byte) : State × Nat :=
  let r := s.loadCheck i pos blob
  let x := s.core.kslot i
  let clear := fun (s : State) => ({ s with core := { s.core with cip := { s.core.cip with blob := [], kcmd := none } } } : State)
  match r.2, s.takeSeq with
  | some b, some (s, seq) =>
    let p : KeyPos := { loaded := true, key := b.key, salt := b.salt, keyId := b.keyId, loadSeq := seq }
    let first := x.empty
    let x' := (x.setPos pos p)
    let x' := if first then { x' with owner := b.owner, purpose := b.purpose, txPos := pos, ackWait := false, rack := 0 } else { x' with rack := 0, ackWait := s.core.ackOpen i }
    let k := (s.core.setKslot i x').emit 0x48B0 0x0900 [(107, 96, i), (95, 95, pos), (63, 32, b.keyId), (31, 0, seq)]
    let k := k.audit i b.owner 1 stOk b.keyId 0x3FFF
    let k := if x'.txPos ≠ pos then k.keyMsg 0x31 i b.keyId pos else k
    (clear { s with core := k }, stOk)
  | _, _ =>
    let st := if r.1 = stOk then stLocked else r.1
    let k := s.core
    let bad := match s.core.cip.kek with
      | some kek => (kwUnwrap kek (slice blob 8 56)).isNone
      | none => false
    let k := if st = stTag ∧ bad = true then
        (k.cnt Reg.CIP_UNWRAP_CNT).emit 0x48B0 0x0908 [(107, 96, i), (95, 95, pos), (7, 0, st)]
      else k
    (clear { s with core := k.audit i x.owner 1 st (x.pos pos).keyId 0x3FFF }, st)

/-! ### Slot writes that waited (R231) -/

/-- A running LOAD ends: its status shows in CIP_STAT.LAST_ST (R249). -/
def State.loadEnd (s : State) : State :=
  match s.core.cip.kcmd with
  | none => s
  | some c =>
    let r := s.loadKey c.slot c.pos (padTo 64 s.core.cip.blob)
    { r.1 with core := r.1.core.wrf Reg.CIP_STAT 7 0 r.2 }

/-- KEY_LOAD_DONE: a LOAD that passes its checks waits while its slot has a request in flight. -/
def State.loadDone (s : State) : State :=
  match s.core.cip.kcmd with
  | none => s
  | some c =>
    if s.core.cip.writes.any (fun w => w.op == .load) then s
    else if (s.loadCheck c.slot c.pos (padTo 64 s.core.cip.blob)).1 = stOk ∧ s.core.slotBusy c.slot = true then
      { s with core := s.core.slotWait c.slot c.pos .load }
    else s.loadEnd

/-- A slot write takes effect; a key command's status shows in CIP_STAT.LAST_ST. -/
def State.slotWrite (s : State) (w : SlotWrite) : State :=
  let s := { s with core := { s.core with cip := { s.core.cip with writes := s.core.cip.writes.erase w } } }
  match w.op with
  | .load => s.loadEnd
  | .switch tt =>
    let r := s.core.switchNow w.slot w.pos tt
    { s with core := if tt then r.1 else r.1.wrf Reg.CIP_STAT 7 0 r.2 }
  | .retire =>
    let r := s.core.retireNow w.slot w.pos
    { s with core := r.1.wrf Reg.CIP_STAT 7 0 r.2 }
  | .held => { s with core := s.core.heldNow w.slot w.pos }

/-- The slot writes whose slots have no request in flight left take effect, in the order they came. -/
def State.keySettle (s : State) : State :=
  s.core.cip.writes.foldl (fun s w => if s.core.slotBusy w.slot then s else s.slotWrite w) s

/-! ### Key messages (R243, R245) -/

/-- The first message of a group's GCC queue, if its TYPE is one of `typs`, taken. -/
def Core.gccHead (k : Core) (g : Nat) (typs : List Nat) : Option (List Byte × Core) :=
  match (k.grp g).gccIn with
  | [] => none
  | m :: rest => if typs.contains (byteAt m.1 0) then some (m.1, k.setGrp g { k.grp g with gccIn := rest }) else none

/-- The slots whose position other than TX_POS satisfies `p`. -/
def Core.slotsWhere (k : Core) (p : KeyPos → Bool) : List Nat :=
  (k.cip.slots.cells.filter (fun c => p (c.2.pos (1 - c.2.txPos)))).map Prod.fst

def Core.rekeyReady (k : Core) (m : List Byte) : Core :=
  let id := beNat (slice m 2 4)
  let site := byteAt m 1 % 16
  let l := k.slotsWhere (fun p => p.loaded && p.keyId == id)
  if l.isEmpty then k.cnt Reg.CIP_KMSG_CNT
  else l.foldl (fun k i => k.setKslot i { k.kslot i with ready := setBit (k.kslot i).ready site true }) k

def Core.rekeyRetired (k : Core) (m : List Byte) : Core :=
  let id := beNat (slice m 2 4)
  let site := byteAt m 1 % 16
  let l := k.slotsWhere (fun p => (p.loaded && p.keyId == id) || (!p.loaded && p.prevId == id && id != 0))
  if l.isEmpty then k.cnt Reg.CIP_KMSG_CNT
  else l.foldl (fun k i =>
    let s := k.kslot i
    let rack := setBit s.rack site true
    k.setKslot i { s with rack := rack, ackWait := k.ackOpen i && !k.peersIn i rack }) k

def Core.rekeyEv (k : Core) (g typ : Nat) : Core :=
  match k.gccHead g [typ] with
  | none => k
  | some (m, k) => if typ = 0x31 then k.rekeyReady m else k.rekeyRetired m

/-! ### Registers (R249) -/

/-- CIP_KCMD. A LOAD runs until KEY_LOAD_DONE. -/
def Core.keyCmd (k : Core) (cmd slot pos : Nat) : Core × Nat :=
  match cmd with
  | 1 => if k.kbusy then (k.audit slot (k.kslot slot).owner 1 stBusy ((k.kslot slot).pos pos).keyId 0x3FFF, stBusy)
         else ({ k with cip := { k.cip with kcmd := some { slot := slot, pos := pos, status := stOk } } }, stOk)
  | 2 => k.keySwitch slot pos false
  | 3 => k.keyRetire slot pos
  | 4 => (k.zeroizeSlot slot, stOk)
  | _ => (k, stRange)

/-- A blob word: bytes 4w to 4w + 3, byte 4w in bits [31:24]. -/
def blobWrite (k : Core) (w v : Nat) : Core × Nat :=
  let b := padTo 64 k.cip.blob
  ({ k with cip := { k.cip with blob := b.take (4 * w) ++ beBytes 4 v ++ b.drop (4 * w + 4) } }, stOk)

/-- A key slot word (R250). -/
def kslotRead (k : Core) (w : Nat) : Nat :=
  let s := k.kslot (w / 8)
  match w % 8 with
  | 0 => args [(30, 30, s.p0.loaded.toNat), (31, 31, s.p1.loaded.toNat), (29, 29, s.txPos), (27, 27, s.p0.held.toNat),
      (28, 28, s.p1.held.toNat), (26, 25, s.purpose), (23, 23, (decide (2 ^ 32 ≤ s.p0.used)).toNat),
      (24, 24, (decide (2 ^ 32 ≤ s.p1.used)).toNat), (22, 22, (k.ackOpen (w / 8)).toNat), (21, 16, s.owner), (15, 0, s.ready)]
  | 1 => s.p0.keyId
  | 2 => s.p1.keyId
  | 3 => min s.p0.used 0xFFFFFFFF
  | 4 => min s.p1.used 0xFFFFFFFF
  | 5 => args [(31, 16, s.rack), (15, 0, s.tagFail)]
  | 6 => s.p0.loadSeq
  | _ => s.p1.loadSeq

/-- A CIP register written. -/
def Core.cipWrite (k : Core) (a v : Nat) : Core × Nat :=
  if a = Reg.CIP_KCMD then k.keyCmd (fld v 31 28) (fld v 11 0) (fld v 12 12)
  else match (List.range 8).find? (fun g => a == Reg.CIP_G_SLOT g) with
    | some g => if k.isOff (.group g) then k.rw a v else (k, stBusy)
    | none => k.rw a v

end Sys2Proof.Machine
end

