-- ==== Sys2Proof/Machine/Sched.lean ====
section
/-!
DEFINITION. The line scheduler (09_scheduling R253 to R270): the checks of a group's queues, hand-over of items, gates, fit,
weighted fair queueing, shapers, selection, and the depth and delay samples. Ticks are 8 ns of global time. A place of the
payload stream of a group is a row and a cell of it; its time is that share of the row's 81.92 ns. A row is built whole when
its first frame is sent, so a decision is made ahead, for the first place of the rows not yet built that is free and not past
(DESIGN CHOICE, assumption log 116): items start exactly where their decision says. Operations; the commands stand in
Machine/SchedCmd.lean.
-/

namespace Sys2Proof.Machine

/-! ### Configuration (R253, R255, R262, R268) -/

def Core.qWord (k : Core) (g q i : Nat) : Nat := k.tb Reg.SCH_QCFG_TBL (2 * (64 * g + q) + i)

def Core.qSlackOk (k : Core) (g q : Nat) : Bool := bitAt (k.qWord g q 0) 29

/-- The shaper of a queue. -/
def Core.qShaper (k : Core) (g q : Nat) : Option Nat :=
  if bitAt (k.qWord g q 0) 28 then some (fld (k.qWord g q 0) 22 16) else none

def Core.shWord (k : Core) (n i : Nat) : Nat := k.tb Reg.SCH_SHP_TBL (4 * n + i)
def Core.shRate (k : Core) (n : Nat) : Nat := fld (k.shWord n 0) 16 0
def Core.shHi (k : Core) (n : Nat) : Nat := fld (k.shWord n 1) 23 0

/-- The exact credit, in 0.1 B. -/
def Core.credit (k : Core) (n : Nat) : Int := k.shpr.get 0 n
def Core.setCredit (k : Core) (n : Nat) (c : Int) : Core := { k with shpr := k.shpr.set 0 n c }

/-- The queues that name shaper `n`, of groups not OFF. -/
def Core.shUsers (k : Core) (n : Nat) : List (Nat × Nat) :=
  ((List.range 8).filter (fun g => !k.isOff (.group g))).flatMap (fun g =>
    ((List.range 64).filter (fun q => k.qShaper g q == some n)).map (fun q => (g, q)))

/-- Reserved bits of a queue's words, and of its shaper's. -/
def Core.qReserved (k : Core) (g q : Nat) : Bool :=
  fld (k.qWord g q 0) 27 23 != 0 || fld (k.qWord g q 0) 15 13 != 0 || fld (k.qWord g q 1) 31 16 != 0 ||
  match k.qShaper g q with
  | some n => fld (k.shWord n 0) 30 17 != 0 || fld (k.shWord n 1) 31 24 != 0
  | none => false

/-- The checks of R255 for one queue. -/
def Core.qCheck (k : Core) (g q : Nat) : Bool :=
  let role := k.qRole g q
  role == 3 ||
  (decide (8 ≤ q) && role != 0 && (fld (k.qWord g q 1) 7 0 == 0 || fld (k.qWord g q 1) 15 8 == 0)) ||
  (k.qSlackOk g q && role != 2) ||
  (match k.qShaper g q with
   | some n => !bitAt (k.shWord n 0) 31 || (k.shUsers n).any (fun p => p != (g, q))
   | none => false) ||
  (role != 0 && (k.qLimit g q == 0 || decide (4096 < k.qLimit g q)))

/-- R255 for a group. -/
def Core.schCheck (g : Nat) (k : Core) : Nat :=
  if (List.range 64).any (fun q => k.qReserved g q || k.qCheck g q) then stRange else stOk

/-- The scheduler at a group's entry to ON (R261, R262, 10_timetable_time R289). -/
def Core.schStart (k : Core) (g : Nat) : Core :=
  let k := (List.range 64).foldl (fun (k : Core) q =>
    match k.qShaper g q with
    | some n => k.setCredit n 0
    | none => k) k
  let k := k.setSchg g { k.schg g with v := 0, fLast := {}, endRow := 0, endCell := 0, sending := [] }
  { k with ttx := { k.ttx with pats := k.ttx.pats.set {} g { cur := k.fd (Reg.TTX_G_PAT g) 3 0 } } }

/-! ### Gates (R263, R264) -/

/-- Word `w` of a bank; header words 0 to 3. -/
def Core.gclWord (k : Core) (g b w : Nat) : Nat := k.tb Reg.SCH_GCL_TBL (8200 * g + 4100 * b + w)
def Core.gclLen (k : Core) (g b : Nat) : Nat := fld (k.gclWord g b 0) 10 0
def Core.gclBase (k : Core) (g b : Nat) : Nat := k.gclWord g b 1 + 2 ^ 32 * k.gclWord g b 2
def Core.gclInterval (k : Core) (g b e : Nat) : Nat := fld (k.gclWord g b (4 + 4 * e + 2)) 23 0
def Core.gclGates (k : Core) (g b e : Nat) : Nat := k.gclWord g b (4 + 4 * e) + 2 ^ 32 * k.gclWord g b (4 + 4 * e + 1)

/-- Do a bank's LEN and INTERVALs stand the rules? -/
def Core.gclOk (k : Core) (g b : Nat) : Bool :=
  decide (1 ≤ k.gclLen g b ∧ k.gclLen g b ≤ 1024) && (List.range (k.gclLen g b)).all (fun e => k.gclInterval g b e != 0)

/-- The entry whose interval holds tick `t` of the cycle, from entry `e` on. -/
def Core.gclFind (k : Core) (g b : Nat) : Nat → Nat → Nat → Nat
  | 0, e, _ => e - 1
  | n + 1, e, t => if t < k.gclInterval g b e then e else k.gclFind g b n (e + 1) (t - k.gclInterval g b e)

/-- The entry in force at tick `t`. -/
def Core.gclEntry (k : Core) (g b base t : Nat) : Nat :=
  let cycle := (List.range (k.gclLen g b)).foldl (fun a e => a + k.gclInterval g b e) 0
  k.gclFind g b (k.gclLen g b) 0 ((t - base / 8) % cycle)

/-- The bank and BASE in force at tick `t`: an armed bank from its BASE on (R264). -/
def Core.gclAt (k : Core) (g t : Nat) : Option (Nat × Nat) :=
  let x := k.schg g
  match x.armed with
  | some b => if k.gclBase g b ≤ 8 * t then some (b, k.gclBase g b) else x.act
  | none => x.act

/-- Is a queue's gate open at tick `t` under a list? -/
def Core.gateOpen (k : Core) (g q t : Nat) : Option (Nat × Nat) → Bool
  | none => true
  | some (b, base) => bitAt (k.gclGates g b (k.gclEntry g b base t)) q

/-- GATE_TAKEOVER. -/
def Core.gateEvent (k : Core) (g b bad tt base : Nat) : Core :=
  k.emit (0x4088 + g) 0x0800 [(107, 105, g), (104, 104, b), (103, 103, bad), (102, 102, tt), (63, 0, base)]

/-- ARM (R264). -/
def Core.gclArm (k : Core) (g b : Nat) : Core × Nat :=
  let x := k.schg g
  let st := if x.act.map (·.1) == some b then stBusy
    else if x.armed == some (1 - b) then stBusy
    else if !k.gclOk g b || k.gclBase g b % 8 != 0 then stRange
    else if k.gclBase g b < k.gns + 10000 then stRange
    else stOk
  (if st = stOk then k.setSchg g { x with armed := some b } else k, st)

/-- DISARM. -/
def Core.gclDisarm (k : Core) (g b : Nat) : Core × Nat :=
  let x := k.schg g
  if x.armed == some b then (k.setSchg g { x with armed := none }, stOk) else (k, stRange)

/-- An armed bank whose BASE has come takes over. -/
def Core.gateEv (k : Core) (g : Nat) : Core :=
  let x := k.schg g
  match x.armed with
  | none => k
  | some b =>
    let base := k.gclBase g b
    if base ≤ k.gns then (k.setSchg g { x with act := some (b, base), armed := none }).gateEvent g b 0 0 base else k

/-- A timetable GATE entry fired at `t` ns: the status. -/
def Core.gateTt (k : Core) (g b t : Nat) : Core × Nat :=
  let x := k.schg g
  let st := if x.act.map (·.1) == some b then stBusy else if !k.gclOk g b then stRange else stOk
  if st = stOk then
    ((k.setSchg g { x with act := some (b, t), armed := if x.armed == some b then none else x.armed }).gateEvent g b 0 1 t, stOk)
  else ((k.cnt Reg.SCH_GATE_REF_CNT).gateEvent g b 1 1 t, st)

/-! ### Hand-over (R256, 14_sites R388) -/

/-- The site an item goes to. -/
def Core.useSite (k : Core) : ReqUse → Nat
  | .msgOut f .. => k.fPeerSite f
  | .contribOut x _ _ d => k.slotSite x d
  | .resultOut x _ _ d => k.slotSite x d
  | .statusOut x _ d => k.slotSite x d
  | .msgIn f .. => k.fPeerSite f
  | _ => 0

def Core.groupItems (k : Core) (g : Nat) : Nat := (k.schg g).items.length

def Core.weight (k : Core) (g q slot : Nat) : Nat :=
  if k.slotClass g slot = 1 then fld (k.qWord g q 1) 7 0 else fld (k.qWord g q 1) 15 8

/-- The head of a weighted queue is stamped (R261), in global slot `slot`. The times are held in 64 bits; what a sum past
them does is not stated, and it wraps (DESIGN CHOICE, assumption log 118). -/
def Core.stampHead (k : Core) (g q slot : Nat) : Core :=
  if q < 8 then k
  else match (k.schg g).queue q with
    | [] => k
    | i :: rest =>
      if i.stamped then k
      else
        let x := k.schg g
        let w := k.weight g q slot
        let f := (max x.v (x.fLast.get 0 q) + (i.bytes * 1024 + w - 1) / w) % 2 ^ 64
        k.setSchg g { x with qs := x.qs.set [] q ({ i with fstamp := f, stamped := true } :: rest) }

/-- The head item of group `g`'s hand-over: discarded when R388 refuses it, waiting while there is no room, or queued. -/
def Core.handEv (k : Core) (g : Nat) : Core :=
  match k.cip.hand.get [] g with
  | [] => k
  | i :: rest =>
    let take := fun (k : Core) => ({ k with cip := { k.cip with
      hand := k.cip.hand.set [] g rest, handWait := k.cip.handWait.set 0 g 0 } } : Core)
    let x := k.schg g
    if !k.siteOk i.ver (k.useSite i.use) g (shFlow i.hdr) then ((take k).cnt Reg.FRT_SITE_DROP_CNT).itemGone i.ver
    else
      let full := decide (16384 ≤ k.groupItems g)
      if full || decide (k.qLimit g i.q ≤ (x.queue i.q).length) then
        if k.cip.handWait.get 0 g = 1 then k
        else
          (({ k with cip := { k.cip with handWait := k.cip.handWait.set 0 g 1 } } : Core).cnt Reg.SCH_FULL_CNT).emitLim
            (0x4000 + g) 0x0801 g 0 32 [(107, 105, g), (104, 99, i.q), (98, 98, full.toNat)]
      else
        let k := take k
        let k := k.setSchg g { x with qs := x.qs.set [] i.q (x.queue i.q ++ [{ i with t := k.gns }]) }
        k.stampHead g i.q (slotOf k.gns)

/-! ### Eligibility and fit (R258 to R260) -/

/-- Positions in service in row `f`: INIT from the first data row on, an announced change from its CHG_SEQ on. -/
def Core.svcAt (k : Core) (g f : Nat) : Nat :=
  let x := k.grp g
  match x.startRow with
  | some f0 => if f0 ≤ f then x.init else 0
  | none =>
    match x.chg with
    | none => x.txSvc
    | some (next, seq, _) => if serialBefore 32 (f % 2 ^ 32) seq then x.txSvc else next

/-- Data members in service in row `f`, and cells of its payload. -/
def Core.dataIn (k : Core) (g f : Nat) : Nat := popCount 16 (k.svcAt g f &&& (65535 - (k.grp g).parity))

def Core.rowCells (k : Core) (g f : Nat) : Nat := 127 * k.dataIn g f

/-- The time of a place of the payload stream, 2^-16 ns. -/
def Core.placeTime (k : Core) (g : Nat) (p : Nat × Nat) : Nat :=
  frameStart p.1 + 5368709 * p.2 / max 1 (k.rowCells g p.1)

def placeBefore (a b : Nat × Nat) : Bool := decide (a.1 < b.1) || (a.1 == b.1 && decide (a.2 < b.2))

/-- The place `n` cells on; a row without data members holds none. -/
def Core.placeAfter (k : Core) (g : Nat) : Nat → Nat × Nat → Nat → Nat × Nat
  | 0, p, _ => p
  | fuel + 1, p, n =>
    let c := k.rowCells g p.1
    if p.2 + n < c then (p.1, p.2 + n) else k.placeAfter g fuel (p.1 + 1, 0) (n - (c - p.2))

/-- The row built next. -/
def Core.nextRow (k : Core) (g : Nat) : Nat := max (k.grp g).rowF k.frame

/-- The first place at or after now in the rows not yet built, and not before the item taken last ends. -/
def Core.nextPlace (k : Core) (g : Nat) : Nat × Nat :=
  let x := k.schg g
  let f := k.nextRow g
  let c := k.rowCells g f
  let free : Nat × Nat := if k.frame < f then (f, 0)
    else
      let i := ((k.tim.glob - frameStart f) * c + 5368708) / 5368709
      if i < c then (f, i) else (f + 1, 0)
  if placeBefore free (x.endRow, x.endCell) then (x.endRow, x.endCell) else free

/-- D in ticks for `b` bytes: B x 8 bits at 793.75 Gb/s a data member, rounded up. -/
def sendTicks (b kk : Nat) : Nat := (b * 8 * 100 + kk * 79375 * 8 - 1) / (kk * 79375 * 8)

/-- The slots from a time in ns to `d` ticks later, both ends included (00_scope R3). -/
def slotsOver (t d : Nat) : List Nat :=
  let a := slotOf t
  (List.range (slotOf (t + 8 * d) - a + 1)).map (a + ·)

/-- Does an item of `b` bytes of queue `q` fit at time `t` in ns, with `kk` data members? -/
def Core.fits (k : Core) (g q b t kk : Nat) : Bool :=
  if kk = 0 then false
  else
    let d := sendTicks b kk
    let l := k.gclAt g (t / 8)
    (slotsOver t d).all (fun s => k.slotClass g s == k.slotClass g (slotOf t)) &&
    (l.isNone || (List.range (d + 1)).all (fun i => k.gateOpen g q (t / 8 + i) l))

/-- Conditions 1 to 3 of R259: role and item, gate, slot class. -/
def Core.mayQueue (k : Core) (g q t : Nat) : Bool :=
  let role := k.qRole g q
  role != 0 && !((k.schg g).queue q).isEmpty && k.gateOpen g q (t / 8) (k.gclAt g (t / 8)) &&
  (k.slotClass g (slotOf t) != 2 || (role == 2 && k.qSlackOk g q))

/-- Condition 4: the credit. -/
def Core.hasCredit (k : Core) (g q : Nat) : Bool :=
  match k.qShaper g q with
  | some n => decide (0 ≤ k.credit n)
  | none => true

def Core.headBytes (k : Core) (g q : Nat) : Nat := (((k.schg g).queue q).head?.map (·.bytes)).getD 0

def Core.eligible (k : Core) (g q t kk : Nat) : Bool :=
  k.mayQueue g q t && k.hasCredit g q && k.fits g q (k.headBytes g q) t kk

/-- Heads that pass everything but the fit are counted once (R259). -/
def Core.countNoFit (k : Core) (g t kk : Nat) : Core :=
  (List.range 64).foldl (fun (k : Core) q =>
    match (k.schg g).queue q with
    | [] => k
    | i :: rest =>
      if !i.nofit && k.mayQueue g q t && k.hasCredit g q && !k.fits g q i.bytes t kk then
        let x := k.schg g
        (k.setSchg g { x with qs := x.qs.set [] q ({ i with nofit := true } :: rest) }).cnt Reg.SCH_NOFIT_CNT
      else k) k

/-- The weighted queue with the lowest finish time, the lower queue on equal ones. -/
def Core.bestWeighted (k : Core) (g t kk : Nat) : Option Nat :=
  ((List.range 56).map (· + 8)).foldl (fun (best : Option Nat) q =>
    if !k.eligible g q t kk then best
    else
      let f := fun q => (((k.schg g).queue q).head?.map (·.fstamp)).getD 0
      match best with
      | none => some q
      | some b => if f q < f b then some q else best) none

/-- The queue of R259 at time `t` in ns. -/
def Core.pickQueue (k : Core) (g t kk : Nat) : Option Nat :=
  match (List.range 8).find? (fun q => k.eligible g q t kk) with
  | some q => some q
  | none => k.bestWeighted g t kk

/-! ### Taking (R259, R261, R262) -/

def Item.seg (i : Item) : Seg :=
  { hdr := i.hdr, ct := i.ct, ke := i.ke, grp := i.grp, ver := i.ver, held := true, use := some i.use }

/-- Bytes of a segment on the line. -/
def Seg.bytes (s : Seg) : Nat := 64 * (1 + (s.ct.length + 63) / 64)

/-- The framer gets a segment of `bytes`, to start at place `p`. -/
def Core.toFramer (k : Core) (g : Nat) (p : Nat × Nat) (s : Seg) (bytes : Nat) (q : Option Nat) : Core :=
  let t := k.placeTime g p / 65536 / 8
  let d := sendTicks bytes (max 1 (k.dataIn g p.1))
  let e := k.placeAfter g 1100 p ((bytes + 63) / 64)
  let x := k.schg g
  let snd := x.sending.filter (fun i => decide (k.gns / 8 < i.2.2))
  let k := k.setSchg g { x with endRow := e.1, endCell := e.2, sending := match q with
    | some q => snd ++ [(q, t, t + d)]
    | none => snd }
  k.setGrp g { k.grp g with txSegs := (k.grp g).txSegs ++ [{ s with at_ := p }] }

/-- The head of a queue is taken, to start at place `p`. -/
def Core.takeItem (k : Core) (g q : Nat) (p : Nat × Nat) : Core :=
  match (k.schg g).queue q with
  | [] => k
  | i :: rest =>
    let x := k.schg g
    let x := { x with qs := x.qs.set [] q rest }
    let x := if q < 8 then x else { x with v := i.fstamp, fLast := x.fLast.set 0 q i.fstamp }
    let k := k.setSchg g x
    let k := match k.qShaper g q with
      | some n => k.setCredit n (k.credit n - 10 * (i.bytes : Int))
      | none => k
    (k.toFramer g p i.seg i.bytes (some q)).stampHead g q (slotOf (k.placeTime g p / 65536))



/-- Queued resends whose copy is past EFF are dropped, and RETRY_GONE answers their requests (12_line_coding_retry R347). -/
def Core.resendOld (k : Core) (g : Nat) : Core :=
  let x := k.grp g
  let old := fun (r : Resend) => decide (r.t + k.retryEff < k.now)
  let ids := ((x.resend.filter old).map (fun r => (r.id, r.gseq))).eraseDups
  let k := k.setGrp g { x with resend := x.resend.filter (fun r => !old r) }
  ids.foldl (fun (k : Core) i => k.retryGone g i.1 i.2 1) k

/-- The group framer asks for its next item (R259): it does while the row built next is not full. -/
def Core.selectEv (k : Core) (g : Nat) : Core :=
  let k := k.resendOld g
  let p := k.nextPlace g
  if !k.gLive g || decide (k.nextRow g < (k.schg g).endRow) then k
  else
    let t := k.placeTime g p / 65536
    let kk := k.dataIn g p.1
    match k.slotClass g (slotOf t), (k.grp g).resend with
    | 2, r :: rest =>
      if kk = 0 then k
      else
        let k := (k.setGrp g { k.grp g with resend := rest }).cnt (Reg.LCD_G_RESEND_CNT g)
        k.toFramer g p { r.seg with resend := true, held := false } r.seg.bytes none
    | _, _ =>
      let k := k.countNoFit g t kk
      match k.pickQueue g t kk with
      | some q => k.takeItem g q p
      | none => k

/-! ### Shapers over time (R262) -/

/-- Is an item of queue `q` being sent at tick `t`? -/
def SchG.sends (x : SchG) (q t : Nat) : Bool := x.sending.any (fun p => p.1 == q && decide (p.2.1 ≤ t ∧ t < p.2.2))

/-- One shaper over one tick. -/
def Core.shapeQueue (k : Core) (g q n t : Nat) : Core :=
  let c := k.credit n
  let r := (k.shRate n : Int)
  if (k.schg g).sends q t || (k.mayQueue g q (8 * t) && k.fits g q (k.headBytes g q) (8 * t) (k.dataIn g k.frame)) then
    k.setCredit n (min (max c (10 * (k.shHi n : Int))) (c + r))
  else if ((k.schg g).queue q).isEmpty then
    k.setCredit n (if 0 < c then 0 else min 0 (c + r))
  else k

/-- The shapers of every group that is ON or DRAINING over the tick that has passed. -/
def Core.shapersTick (k : Core) : Core :=
  let t := k.gns / 8 - 1
  ((List.range 8).filter (fun g => k.gLive g)).foldl (fun (k : Core) g =>
    (List.range 64).foldl (fun (k : Core) q =>
      match k.qShaper g q with
      | some n => k.shapeQueue g q n t
      | none => k) k) k

/-! ### Samples (R266) -/

/-- Bytes queued. -/
def Core.depth (k : Core) (g q : Nat) : Nat := (((k.schg g).queue q).map (·.bytes)).foldl (· + ·) 0

/-- The delay of the head item in ns, none when empty. -/
def Core.headAge (k : Core) (g q : Nat) : Option Nat := ((k.schg g).queue q).head?.map (fun i => k.gns - i.t)

def depthBin (d : Nat) : Nat :=
  if d = 0 then 0 else if d < 2048 then 1 else min 15 (Nat.log2 d - 9)

def delayBin : Option Nat → Nat
  | none => 0
  | some t => if t < 1000 then 1 else min 15 (Nat.log2 (t / 1000) + 2)

def Core.binInc (k : Core) (w : Nat) : Core := k.tbw Reg.SCH_HIST_TBL w (satAdd 32 (k.tb Reg.SCH_HIST_TBL w) 1)

/-- The bins a sample of queue `a` of all counts in: depth and delay. -/
def Core.sampleBins (k : Core) (g q : Nat) : List (Nat × Nat) :=
  let a := 64 * g + q
  [(a, 32 * a + depthBin (k.depth g q)), (a, 32 * a + 16 + delayBin (k.headAge g q))]

def Core.sampleQueue (k : Core) (g q : Nat) : Core :=
  let a := 64 * g + q
  let l := k.sampleBins g q
  let k := l.foldl (fun (k : Core) b => k.binInc b.2) k
  let k := k.setSchg g { k.schg g with samp := (k.schg g).samp ++ l }
  match k.headAge g q with
  | some t => k.tbw Reg.SCH_QST_TBL (4 * a + 3) (max (k.tb Reg.SCH_QST_TBL (4 * a + 3)) (min (t / 1000) (2 ^ 32 - 1)))
  | none => k

/-- The samples of the present whole microsecond. -/
def Core.sampleEv (k : Core) : Core :=
  ((List.range 8).filter (fun g => !k.isOff (.group g))).foldl (fun (k : Core) g =>
    if (k.schg g).sampT ≤ k.gns / 1000 then
      (List.range 64).foldl (fun (k : Core) q => k.sampleQueue g q) (k.setSchg g { k.schg g with sampT := k.gns / 1000 + 1, samp := [] })
    else k) k

/-- HCLEAR: a group's bins are 0; a sample of the same period is taken after the clear. -/
def Core.hclear (k : Core) (g : Nat) : Core :=
  let k := (List.range 2048).foldl (fun (k : Core) i => k.tbw Reg.SCH_HIST_TBL (2048 * g + i) 0) k
  if (k.schg g).sampT = k.gns / 1000 + 1 then (k.schg g).samp.foldl (fun (k : Core) b => k.binInc b.2) k else k

/-! ### Registers (R267, R268) -/

/-- SCH_GCMD. -/
def Core.schCmd (k : Core) (cmd g b : Nat) : Core × Nat :=
  match cmd with
  | 1 => k.gclArm g b
  | 2 => k.gclDisarm g b
  | 3 => (k.hclear g, stOk)
  | _ => (k, stRange)

def Core.schWrite (k : Core) (a v : Nat) : Core × Nat :=
  if a = Reg.SCH_GCMD then k.schCmd (fld v 31 28) (fld v 6 4) (fld v 0 0) else k.rw a v

/-- SCH_Gg_GSTAT. -/
def Core.gstat (k : Core) (g : Nat) : Nat :=
  let x := k.schg g
  let cls := if k.gLive g then k.slotClass g (slotOf k.gns) else 0
  let e := match x.act with
    | some (b, base) => k.gclEntry g b base (k.gns / 8)
    | none => 0
  args [(31, 31, x.act.isSome.toNat), (30, 30, (x.act.map (·.1)).getD 0), (29, 29, x.armed.isSome.toNat),
    (28, 28, x.armed.getD 0), (27, 26, cls), (9, 0, e)]

/-- A queue configuration word. -/
def qcfgWrite (k : Core) (w v : Nat) : Core × Nat :=
  if k.isOff (.group (w / 128)) then (k.tbw Reg.SCH_QCFG_TBL w v, stOk) else (k, stBusy)

/-- A shaper word; words 2 and 3 are read-only. -/
def shpWrite (k : Core) (w v : Nat) : Core × Nat :=
  let n := w / 4
  if !(k.shUsers n).isEmpty then (k, stBusy)
  else if 2 ≤ w % 4 then (k, stOk)
  else if w % 4 = 0 ∧ bitAt v 31 ∧ (fld v 16 0 = 0 ∨ 128000 < fld v 16 0 ∨ k.shHi n < 64) then (k, stRange)
  else (k.tbw Reg.SCH_SHP_TBL w v, stOk)

/-- A shaper word as read: CREDIT in whole bytes, truncated toward zero. -/
def shpRead (k : Core) (w : Nat) : Nat :=
  match w % 4 with
  | 2 => toFld 32 ((k.credit (w / 4)).tdiv 10)
  | 3 => 0
  | i => k.shWord (w / 4) i

/-- A gate list word. -/
def gclWrite (k : Core) (w v : Nat) : Core × Nat :=
  let g := w / 8200
  let b := w % 8200 / 4100
  let x := k.schg g
  if x.act.map (·.1) == some b || x.armed == some b then (k, stBusy)
  else
    let i := w % 4100
    let m := if i = 0 then 0x7FF else if i = 3 then 0 else if i < 3 then 2 ^ 32 - 1
      else if i % 4 = 2 then 0xFFFFFF else if i % 4 = 3 then 0 else 2 ^ 32 - 1
    (k.tbw Reg.SCH_GCL_TBL w (v &&& m), stOk)

/-- A queue state word (before the read that clears MAX_DELAY). -/
def qstRead (k : Core) (w : Nat) : Nat :=
  let g := w / 256
  let q := w / 4 % 64
  match w % 4 with
  | 0 => min (k.depth g q) (2 ^ 32 - 1)
  | 1 => args [(31, 19, ((k.schg g).queue q).length)]
  | 2 => min ((k.headAge g q).getD 0) (2 ^ 32 - 1)
  | _ => k.tb Reg.SCH_QST_TBL w

/-- Reading MAX_DELAY clears it. -/
def Core.qstClear (k : Core) (w : Nat) : Core := if w % 4 = 3 then k.tbw Reg.SCH_QST_TBL w 0 else k

end Sys2Proof.Machine
end

