-- ==== Sys2Proof/Machine/Line.lean ====
section
/-!
DEFINITION. Line ports (11_line_framing R301 to R319, 12_line_coding_retry R333 to R337, 14_sites R401 to R403): lanes and
training, alignment, raw and declared defects, performance monitoring, transit stores, and the raw conditions of groups and
sites. Operations; the commands stand in Machine/LineCmd.lean.
-/

namespace Sys2Proof.Machine

/-- A port that receives and sends: ON or DRAINING. -/
def Core.pLive (k : Core) (n : Nat) : Bool := k.isOn (.linePort n) || k.fst (.linePort n) == .draining

def Core.optic (k : Core) (n : Nat) : Optic := k.opc.ports.get {} n
def Core.setOptic (k : Core) (n : Nat) (x : Optic) : Core := { k with opc := { k.opc with ports := k.opc.ports.set {} n x } }

/-- The position a port receives: its binding, or its old one until a hop's strobe falls (13_optics R373). -/
def Core.rxBind (k : Core) (n : Nat) : Nat × Nat := ((k.optic n).hopOld).getD (k.pGroup n, k.pPos n)

def Core.rxPortAt (k : Core) (g p : Nat) : Option Nat :=
  (List.range 16).find? (fun n => k.pAssigned n && k.rxBind n == (g, p))

/-! ### Raw defects (R314 to R317, R326) -/

/-- Higher defects mask lower ones (R315). -/
def maskRaw (raw : Nat) : Nat :=
  if bitAt raw 0 then raw &&& 0x21
  else if bitAt raw 1 then raw &&& 0x22
  else if bitAt raw 2 || bitAt raw 3 then raw &&& 0x2C
  else raw

/-- LOS, LOF and LOM are suspended in the guard slots a port sends or receives until it is IF again or they end (R326,
13_optics R373). -/
def Core.hopSusp (k : Core) (n : Nat) : Bool :=
  let o := k.optic n
  (o.hop == .guard || o.hop == .window) && o.hopIfT == 0

/-- A port's raw defects before masking: a mismatched GID or MEMBER counts as LOF. -/
def Core.rawAll (k : Core) (n : Nat) : Nat :=
  let p := k.lp n
  let r := if p.misconn then p.raw ||| 2 else p.raw
  if k.hopSusp n then r &&& 0xF8 else r

/-- A usable member (R317): IF, in multiframe, free of raw LOS, AIS, SKEW and SF. -/
def Core.pUsable (k : Core) (n : Nat) : Bool :=
  let p := k.lp n
  k.pLive n && p.al.inIf && p.al.inMf && !p.misconn && (p.eff &&& 0xA9) == 0

/-- The integration time in ns that starts now (R316, R331); group conditions use those of SF and SD. -/
def Core.intTime (k : Core) (d : Nat) (set : Bool) : Nat :=
  10000000 * (if set then k.fd (Reg.LFR_INT d) 15 0 else k.fd (Reg.LFR_INT d) 31 16)

/-- A port's raw defects follow their causes. A defect that becomes present and unmasked starts an integration toward its
declaration, one that becomes absent, masked or not, an integration toward its clearing (R316). -/
def Core.portRefresh (k : Core) (n : Nat) : Core :=
  let p := k.lp n
  let r := if k.pLive n then k.rawAll n else 0
  let e := maskRaw r
  let start := fun (p : LPort) (i d : Nat) (set : Bool) =>
    { p with rawT := p.rawT.set 0 i k.now, rawLim := p.rawLim.set 0 i (k.intTime d set) }
  let p := (bitsOf 8 (e &&& (255 - p.eff))).foldl (fun p d => start p d d true) p
  let p := (bitsOf 8 (p.full &&& (255 - r))).foldl (fun p d => start p (8 + d) d false) p
  k.setLp n { p with eff := e, full := r, secRaw := p.secRaw ||| e, hsRaw := p.hsRaw ||| e }

/-! ### Group and site conditions (R318, 14_sites R392) -/

/-- The raw conditions of a group: bit 0 signal fail, bit 1 signal degrade. -/
def Core.sigOf (k : Core) (g : Nat) : Nat :=
  if !k.gLive g then 0
  else
    let x := k.grp g
    let bad := (bitsOf 16 x.rxSvc).filter (fun p => !((k.rxPortAt g p).map k.pUsable).getD false)
    let sd := (bitsOf 16 x.rxSvc).any (fun p => ((k.rxPortAt g p).map (fun n => bitAt (k.lp n).eff 6)).getD false)
    (if x.rxSvc = 0 ∨ popCount 16 (x.rxSvc &&& x.parity) < bad.length then 1 else 0) + (if sd then 2 else 0)

def Core.gsf (k : Core) (g : Nat) : Bool := bitAt (k.grp g).sigRaw 0

def Core.groupRefresh (k : Core) (g : Nat) : Core :=
  let x := k.grp g
  let r := k.sigOf g
  let ch := x.sigRaw ^^^ r
  let x := (bitsOf 2 ch).foldl (fun (x : LGroup) i => { x with
    sigT := x.sigT.set 0 i k.now
    sigLim := x.sigLim.set 0 i (k.intTime (7 - i) (bitAt r i)) }) x
  k.setGrp g { x with sigRaw := r, sigDecl := if k.gLive g then x.sigDecl else 0 }

/-- When a group's fail, and its freedom from fail while ON, began. -/
def Core.failRefresh (k : Core) (g : Nat) : Core :=
  let on := k.isOn (.group g)
  let f := on && k.gsf g
  let c := on && !k.gsf g
  let keep := fun (m : SMap Nat) (b : Bool) => if b then (if m.get 0 g = 0 then m.set 0 g (k.now + 1) else m) else m.set 0 g 0
  { k with site := { k.site with failT := keep k.site.failT f, clearT := keep k.site.clearT c } }

/-- The groups ON toward a site. -/
def Core.groupsTo (k : Core) (s : Nat) : List Nat := (List.range 8).filter (fun g => k.isOn (.group g) && k.gPeer g == s)

/-- PEND: every group ON toward the site is in raw group signal fail, and the site is not partitioned. -/
def Core.pendMask (k : Core) : Nat :=
  (List.range 16).foldl (fun m s =>
    if !(k.groupsTo s).isEmpty && (k.groupsTo s).all k.gsf && !bitAt k.site.part s then setBit m s true else m) 0

/-! ### Transit (14_sites R401 to R403) -/

def Core.trn (k : Core) (n : Nat) : Nat := k.rd (Reg.LFR_TRN_P n)
def Core.trnOut (k : Core) (n : Nat) : Nat := fld (k.trn n) 27 24

/-- The mapping whose frames leave on port `m`. -/
def Core.trnTo (k : Core) (m : Nat) : Option Nat := (List.range 16).find? (fun n => bitAt (k.trn n) 31 && k.trnOut n == m)

/-- Does a VALID mapping name the port? -/
def Core.trnNames (k : Core) (n : Nat) : Bool := bitAt (k.trn n) 31 || (k.trnTo n).isSome

/-- The transit delay of a mapping that becomes ACTIVE, in 0.01 ns: from the start of a received frame to the first frame
start at least 200 ns later. -/
def trnDelay (rxAt : Nat) : Nat :=
  let t := rxAt * 100 / 65536
  (t + 20000 + 8191) / 8192 * 8192 - t

def Core.trnEvent (k : Core) (n act : Nat) : Core :=
  k.emit (0x5000 + n) 0x0A06 [(107, 107, act), (103, 100, k.trnOut n), (15, 0, k.fd (Reg.LFR_TRN_P n) 15 0)]

/-- A mapping is ACTIVE while both ports are ON. -/
def Core.trnRefresh (k : Core) (n : Nat) : Core :=
  let p := k.lp n
  let act := bitAt (k.trn n) 31 && k.isOn (.linePort n) && k.isOn (.linePort (k.trnOut n))
  if act = p.trActive then k
  else
    let k := k.setLp n { p with trActive := act, store := [], trPrimed := false }
    let k := if act then k.wrf (Reg.LFR_TRN_P n) 15 0 (trnDelay (if p.rxAt = 0 then k.tim.glob else p.rxAt)) else k
    k.trnEvent n act.toNat

/-- A slip changes the delay by one frame time: 1 a frame dropped, 0 an AIS frame inserted. -/
def Core.trnSlip (k : Core) (n drop : Nat) : Core :=
  let d := k.fd (Reg.LFR_TRN_P n) 15 0
  let k := k.wrf (Reg.LFR_TRN_P n) 15 0 (if drop = 1 then d - 8192 else d + 8192)
  (k.cnt Reg.LFR_TRN_SLIP_CNT).emit (0x5000 + n) 0x0A07
    [(107, 107, drop), (103, 100, k.trnOut n), (15, 0, k.fd (Reg.LFR_TRN_P n) 15 0)]

/-- A received frame enters the elastic store of 4 frames; an overflow drops one. -/
def Core.trnPush (k : Core) (n : Nat) (f : List Byte) (er : Bool) : Core :=
  let p := k.lp n
  if !p.trActive then k
  else if 4 ≤ p.store.length then
    (k.setLp n { p with store := p.store.drop 1 ++ [(f, er, p.rxAt)] }).trnSlip n 1
  else k.setLp n { p with store := p.store ++ [(f, er, p.rxAt)] }

/-! ### The source of line time (10_timetable_time R278, R280, R282) -/

/-- The member of the source group that time is taken from: in service, lowest. -/
def Core.sourcePort (k : Core) : Option Nat :=
  match (bitsOf 16 ((k.grp k.timeGroup).rxSvc)).head? with
  | some p => k.portAt k.timeGroup p
  | none => none

/-- A change of that member is noted; a LOOP alarm ends with the LEVEL of 14 that raised it. -/
def Core.sourceRefresh (k : Core) : Core :=
  let m := if k.timeSrc = 2 then k.sourcePort else none
  let t := if m = k.tim.srcPort then k.tim else { k.tim with srcPort := m, srcT := if k.tim.srcPort.isSome then k.tim.glob else k.tim.srcT }
  let loop := (m.map (fun n => (k.lp n).peerLevel == 14)).getD false
  { k with tim := if loop then t else { t with alarm := setBit t.alarm 3 false } }

/-! ### What follows every line command -/

/-- Raw conditions, transit activity and site conditions are brought up to date. -/
def Core.lineRefresh (k : Core) : Core :=
  let k := (List.range 16).foldl (fun (k : Core) n => (k.portRefresh n).trnRefresh n) k
  let k := (List.range 8).foldl (fun (k : Core) g => (k.groupRefresh g).failRefresh g) k
  (({ k with site := { k.site with pend := k.pendMask } } : Core)).sourceRefresh

/-! ### The port function (R328, R337) -/

/-- ENABLE checks nothing more: a port that may not start is refused outright. -/
def Core.lpCheck (_ : Core) : Nat := stOk

/-- What outlasts a port's stop: the module's report, the seconds classified, the lanes' counts. -/
def LPort.kept (p : LPort) : LPort :=
  { secDone := p.secDone, modLos := p.modLos, modT := p.modT, laneUcw := p.laneUcw, laneCor := p.laneCor, laneOld := p.laneOld
    corAt := p.corAt }

/-- Training begins: the receiver starts anew, the module is set up (13_optics R360, R374). -/
def Core.lpStart (n : Nat) (k : Core) : Core :=
  let k := (k.setLp n { (k.lp n).kept with condLos := true, alT := k.now, mfT := k.now, losT := k.now }).wr (Reg.TBS_P_DELAY n) 0
  let k := k.estClear n
  let o := k.optic n
  k.setOptic n { o with txdis := k.opc.lsafe, score := 1000, below := 0, belowRun := false, hist := [], advClear := 0, projClear := 0
                        chan := 0, fixed := !o.hopCap, hop := .idle, hopOld := none, eq := k.opc.eqCodes[n]? }

/-- A port that leaves service forgets what it received. -/
def Core.lpStop (n : Nat) (k : Core) : Core := (k.setLp n (k.lp n).kept).lineRefresh

/-- The chapter gives the drain of a line port no condition: it completes at once. -/
def Core.lpDrain (n : Nat) (k : Core) : Core :=
  (k.fnDrained (.linePort n) stOk Core.lpCheck (Core.lpStart n)).lpStop n

/-- LFR_Pnn_CTRL.EN. -/
def Core.lpCmd (k : Core) (n : Nat) (en : Bool) : Core × Nat :=
  if en then
    if !bitAt k.svc.line n || (k.pAssigned n && k.trnNames n) then (k, stRange)
    else
      let r := k.fnEnable (.linePort n) Core.lpCheck (Core.lpStart n)
      (if r.2 = stOk then r.1.wr (Reg.LFR_P_CTRL n) 1 else r.1, r.2)
  else
    let r := k.fnDisable (.linePort n) (Core.lpDrain n) (Core.lpStop n)
    (if r.2 = stOk then (r.1.wr (Reg.LFR_P_CTRL n) 0).lineRefresh else r.1, r.2)

/-- A write of a register of port `n`. -/
def Core.lpWrite (k : Core) (n a v : Nat) : Core × Nat :=
  if a = Reg.LFR_P_CTRL n then k.lpCmd n (bitAt v 0)
  else if !k.isOff (.linePort n) then (k, stBusy)
  else if a = Reg.LFR_P_SDSF n ∧ fld v 31 16 ≤ fld v 15 0 then (k, stRange)
  else k.rw a v

/-- LFR_Pnn_STAT. -/
def Core.lpStat (k : Core) (n : Nat) : Nat :=
  let f := k.fn (.linePort n)
  let a := (k.lp n).al
  args [(31, 29, f.fst.code), (28, 28, f.pend.toNat), (27, 26, if a.inIf then 2 else if a.cands.isEmpty then 0 else 1),
    (25, 25, a.inMf.toNat), (7, 0, k.fd (Reg.LFR_P_STAT n) 7 0)]

/-! ### Lanes (R334, R336, R337) -/

/-- All lanes hold lock. -/
def Core.lanesLocked (k : Core) (n : Nat) : Bool := (List.range 8).all (fun l => ((k.lp n).lanes.get {} l).lock)

/-- The lanes that hold lock can be deskewed against one another (R336): their markers of one MF lie within 180 ns, those
of different MF that many multiframes apart. -/
def Core.deskewed (k : Core) (n : Nat) : Bool :=
  let ls := ((List.range 8).map (fun l => (k.lp n).lanes.get {} l)).filter (fun (x : LaneRx) => x.lock)
  match ls with
  | [] => true
  | a :: _ =>
    let ds := ls.map (fun (x : LaneRx) => (x.t : Int) - a.t - signed 32 ((x.mf + 2 ^ 32 - a.mf) % 2 ^ 32) * 2097152 / 100)
    decide (ds.foldl max 0 - ds.foldl min 0 ≤ 180)

/-- Whether a lane is without lock, and since when that is so or not. -/
def Core.losRefresh (k : Core) (n : Nat) : Core :=
  let p := k.lp n
  let c := !k.lanesLocked n
  if c = p.condLos then k else k.setLp n { p with condLos := c, losT := k.now }

/-- FILL of a lane marker: the scrambler's output from all ones, 1,009 bytes. -/
def markerFill : List Byte := scramble (2 ^ 23 - 1) (List.replicate 1009 0)

/-- The marker of multiframe `m` on a lane of port `n` (R334). -/
def laneMarker (n lane m : Nat) : List Byte :=
  beBytes 8 0x6C4E1D93A52BF070 ++ [byte lane, byte n] ++ beBytes 4 (m % 2 ^ 32) ++ [byte (m % 5)] ++ markerFill

/-- A received marker that carries the lane's and the port's own numbers and is built as R334 says: its MF. MF5 is that of
the multiframe near the present one. -/
def Core.markerMf (k : Core) (n lane : Nat) (m : List Byte) : Option Nat :=
  let mf := beNat (slice m 10 4)
  let cur := k.frame / 256
  let near := ((cur : Int) + signed 32 ((mf + 2 ^ 32 - cur % 2 ^ 32) % 2 ^ 32)).toNat
  if m = laneMarker n lane near then some mf else none

/-- A marker, or its absence, at a lane at time `t` in ns. Two markers lie 20.97 us apart when they are 20,965 to 20,975 ns
apart (DESIGN CHOICE: the tolerance of the figure's last digit, assumption log 119). -/
def LaneRx.marker (x : LaneRx) (t : Nat) : Option Nat → LaneRx
  | some mf =>
    if x.lock then { x with miss := 0, mf := mf, t := t }
    else if x.good = 1 ∧ mf = (x.mf + 1) % 2 ^ 32 ∧ x.t + 20965 ≤ t ∧ t ≤ x.t + 20975 then
      { lock := true, good := 2, miss := 0, mf := mf, t := t }
    else { x with good := 1, mf := mf, t := t }
  | none =>
    if x.lock then (if 2 ≤ x.miss then {} else { x with miss := x.miss + 1 })
    else { x with good := 0 }

def Core.laneEv (k : Core) (n lane : Nat) (m : Option (List Byte)) : Core :=
  if k.isOff (.linePort n) || k.fst (.linePort n) == .faulted then k
  else
    let p := k.lp n
    let x := (p.lanes.get {} lane).marker k.now (m.bind (k.markerMf n lane))
    (k.setLp n { p with lanes := p.lanes.set {} lane x }).losRefresh n

/-- All lanes lock: the port enters ON and hunts for alignment. -/
def Core.lpOnEv (k : Core) (n : Nat) : Core :=
  if k.fst (.linePort n) == .starting && k.lanesLocked n then
    let p := k.lp n
    (k.setFst (.linePort n) .on stOk).setLp n { p with al := {}, alT := k.now, mfT := k.now, condLos := false, losT := k.now }
  else k

/-- The limit of 50 ms is missed: the port trains again, and fails after the third time. -/
def Core.trainEv (k : Core) (n : Nat) : Core :=
  let f := k.fn (.linePort n)
  if f.fst == .starting && decide (f.since + 50000000 ≤ k.now) then
    let p := k.lp n
    if 2 ≤ p.tries then k.fnFault (.linePort n) stTimeout
    else (k.setLp n { p with tries := p.tries + 1, lanes := {} }).setFn (.linePort n) { f with since := k.now }
  else k

/-! ### Raw defects set and cleared by condition (R314) -/

/-- Does the condition that sets raw defect `d` stand long enough? -/
def Core.setDue (k : Core) (n d : Nat) : Bool :=
  let p := k.lp n
  match d with
  | 0 => p.modLos || (p.condLos && decide (p.losT + 1000 ≤ k.now))
  | 1 => !p.al.inIf && decide (p.alT + 3000000 ≤ k.now)
  | 2 => !p.al.inMf && decide (p.mfT + 3000000 ≤ k.now)
  | 3 => decide (3 ≤ p.aisRun)
  | 4 => decide (5 ≤ p.bdiRun)
  | 5 => p.skewBad
  | _ => false

def Core.clearDue (k : Core) (n d : Nat) : Bool :=
  let p := k.lp n
  match d with
  | 0 => !p.condLos && !p.modLos && decide (max p.losT p.modT + 100000 ≤ k.now)
  | 1 => p.al.inIf && decide (p.alT + 3000000 ≤ k.now)
  | 2 => p.al.inMf && decide (p.mfT + 3000000 ≤ k.now)
  | 3 => decide (3 ≤ p.noAisRun)
  | 4 => decide (5 ≤ p.noBdiRun)
  | 5 => !p.skewBad && decide (p.skewT + 1000000000 ≤ k.now)
  | _ => false

def Core.rawEv (k : Core) (n d : Nat) (set : Bool) : Core :=
  let p := k.lp n
  if !k.pLive n || (decide (d < 3) && k.hopSusp n) then k
  else if set then (if k.setDue n d then k.setLp n { p with raw := setBit p.raw d true } else k)
  else if k.clearDue n d then k.setLp n { p with raw := setBit p.raw d false }
  else k

/-- A window of 2^20 frames ends: SD and SF follow its errored frames. -/
def Core.windowEv (k : Core) (n : Nat) : Core :=
  let p := k.lp n
  if p.winFrames < 2 ^ 20 then k
  else
    let sd := decide (k.fd (Reg.LFR_P_SDSF n) 15 0 ≤ p.winErr)
    let sf := decide (k.fd (Reg.LFR_P_SDSF n) 31 16 ≤ p.winErr)
    k.setLp n { p with raw := setBit (setBit p.raw 6 sd) 7 sf, winFrames := p.winFrames - 2 ^ 20, winErr := 0 }

/-! ### Declared defects (R316) -/

/-- LINE_DEFECT of a port. -/
def Core.defectEvent (k : Core) (n d on dur : Nat) : Core :=
  k.emit (0x5000 + n) 0x0A00
    [(107, 104, d), (103, 103, on), (102, 100, k.pGroup n), (99, 96, k.pPos n), (31, 0, min (dur / 1000000) (2 ^ 32 - 1))]

/-- A position outside CONFIG declares no defect (R325). -/
def Core.mayDeclare (k : Core) (n : Nat) : Bool := !k.pAssigned n || bitAt (k.gConfig (k.pGroup n)) (k.pPos n)

/-- A raw defect is declared when it was present and unmasked for its SET time, and cleared when it was absent for its CLEAR
time. -/
def Core.declareEv (k : Core) (n d : Nat) (set : Bool) : Core :=
  let p := k.lp n
  let i := if set then d else 8 + d
  let t := p.rawT.get 0 i
  if bitAt p.decl d != set && bitAt (if set then p.eff else p.full) d == set && decide (t + p.rawLim.get 0 i ≤ k.now) &&
      (!set || k.mayDeclare n) && !(set && decide (d < 3) && k.hopSusp n) then
    (k.setLp n { p with decl := setBit p.decl d set }).defectEvent n d set.toNat (k.now - t)
  else k

/-- The same for group signal fail (bit 0, code 8) and degrade (bit 1, code 9). -/
def Core.declareGroup (k : Core) (g i : Nat) (set : Bool) : Core :=
  let x := k.grp g
  let t := x.sigT.get 0 i
  if k.gLive g && bitAt x.sigRaw i == set && bitAt x.sigDecl i != set && decide (t + x.sigLim.get 0 i ≤ k.now) then
    (k.setGrp g { x with sigDecl := setBit x.sigDecl i set }).emit (0x5010 + g) 0x0A00
      [(107, 104, 8 + i), (103, 103, set.toNat), (102, 100, g), (31, 0, min ((k.now - t) / 1000000) (2 ^ 32 - 1))]
  else k

/-- A unit 0 to 15 is a port, 16 to 23 a group. -/
def Core.defectEv (k : Core) (u d : Nat) (set : Bool) : Core :=
  if u < 16 then (if d < 8 then k.declareEv u d set else k)
  else if 8 ≤ d then k.declareGroup (u - 16) (d - 8) set
  else k

/-! ### Performance monitoring (R319) -/

/-- Where a direction's counters stand. -/
structure PmRegs where
  es : Nat
  ses : Nat
  uas : Nat
  bbe : Nat
deriving DecidableEq, Repr

def neRegs (n : Nat) : PmRegs :=
  { es := Reg.LFR_P_NE_ES n, ses := Reg.LFR_P_NE_SES n, uas := Reg.LFR_P_NE_UAS n, bbe := Reg.LFR_P_NE_BBE_LO n }
def feRegs (n : Nat) : PmRegs :=
  { es := Reg.LFR_P_FE_ES n, ses := Reg.LFR_P_FE_SES n, uas := Reg.LFR_P_FE_UAS n, bbe := Reg.LFR_P_FE_BBE_LO n }

/-- The second that left the delay line of 10 s is counted. -/
def Core.pmCount (k : Core) (r : PmRegs) (e : Bool × Bool × Nat × Bool) : Core :=
  if e.2.2.2 then k.cnt r.uas
  else
    let k := if e.1 then k.cnt r.es else k
    if e.2.1 then k.cnt r.ses else k.cum r.bbe e.2.2.1

/-- A second enters a direction's delay line: what leaves it, the line, and whether the direction is unavailable. -/
def pmPush (h : List (Bool × Bool × Nat × Bool)) (unav : Bool) (e : Bool × Bool × Nat) :
    Option (Bool × Bool × Nat × Bool) × List (Bool × Bool × Nat × Bool) × Bool :=
  let h := h ++ [(e.1, e.2.1, e.2.2, unav)]
  let out := if 10 < h.length then h.head? else none
  let h := if 10 < h.length then h.drop 1 else h
  let mark := fun (b : Bool) => h.map (fun (x : Bool × Bool × Nat × Bool) => (x.1, x.2.1, x.2.2.1, b))
  if h.length < 10 then (out, h, unav)
  else if !unav && h.all (·.2.1) then (out, mark true, true)
  else if unav && h.all (fun x => !x.2.1) then (out, mark false, false)
  else (out, h, unav)

/-- Frames that start in the whole second `s`. -/
def framesIn (s : Nat) : Nat := frameOf (1000000000 * (s + 1) - 1) - frameOf (1000000000 * s - 1)

/-- A whole second begins: the one before it is classified. -/
def Core.pmEv (k : Core) (n : Nat) : Core :=
  let p := k.lp n
  let s := k.gns / 1000000000
  if !k.pLive n || decide (s < p.secDone) || decide (s = 0) then k
  else
    let pct := fun (e : Nat) => decide (k.fd Reg.LFR_PM 7 0 * framesIn (s - 1) ≤ 100 * e)
    let bad := decide (p.secRaw &&& 0xF ≠ 0)
    let ne := pmPush p.neHist p.neUnav (bad || decide (0 < p.secErr), bad || pct p.secErr, p.secErr)
    let bdi := bitAt p.secRaw 4
    let fe := pmPush p.feHist p.feUnav (bdi || decide (0 < p.secFeErr), bdi || pct p.secFeErr, p.secFeErr)
    let k := k.setLp n { p with neHist := ne.2.1, neUnav := ne.2.2, feHist := fe.2.1, feUnav := fe.2.2, secErr := 0,
                                secFeErr := 0, secRaw := p.eff, secDone := s + 1 }
    let k := match ne.1 with
      | some e => k.pmCount (neRegs n) e
      | none => k
    match fe.1 with
    | some e => k.pmCount (feRegs n) e
    | none => k

/-! ### Alignment (R311 to R313) -/

def faw : List Byte := [0xB7, 0xE3, 0x0A, 0x5C, 0xD9, 0x12]

/-- The exact FAW matches of a string whose first byte has stream index `base`, with the MFI after each. -/
def fawMatches (base : Nat) : List Byte → List (Nat × Nat)
  | [] => []
  | b :: l => if (b :: l.take 5) = faw ∧ 6 ≤ l.length then (base, byteAt l 5) :: fawMatches (base + 1) l
              else fawMatches (base + 1) l

/-- A match meets the candidates: some alignment when a candidate passes twice. -/
def Align.hit (a : Align) (m : Nat × Nat) : Align × Option Nat :=
  let cs := a.cands.filter (fun c => decide (m.1 ≤ c.at_ + 8192))
  match cs.find? (fun c => decide (c.at_ + 8192 = m.1) && c.mfi.map (fun v => (v + 1) % 256) == some m.2) with
  | some c =>
    if 1 ≤ c.passes then (a, some m.1)
    else ({ a with cands := cs.map (fun (x : Cand) => if x.at_ = c.at_ then { at_ := m.1, mfi := some m.2, passes := 1 } else x) }, none)
  | none =>
    let cs := cs.filter (fun c => decide (c.at_ + 8192 ≠ m.1))
    ({ a with cands := if 8 ≤ cs.length then cs else cs ++ [{ at_ := m.1, mfi := some m.2, passes := 0 }] }, none)

/-- The hunt over matches in order: where in-frame is declared. -/
def Align.hunt (a : Align) : List (Nat × Nat) → Align × Option (Nat × Nat)
  | [] => (a, none)
  | m :: l => match a.hit m with
    | (a, some at_) => (a, some (at_, m.2))
    | (a, none) => a.hunt l

/-- Differing bits of two bytes strings of one length. -/
def bitDiff (a b : List Byte) : Nat := (List.zipWith (fun (x y : Byte) => popCount 8 (x ^^^ y).toNat) a b).foldl (· + ·) 0

/-- When byte `i` of the stream arrives, counted from one that arrives at `t` (R277): a byte lasts 10 ps. -/
def byteTime (t : Nat) (i : Int) : Nat := ((t : Int) + i * 65536 / 100).toNat

/-- The next bytes of the stream in OOF; `t` is the arrival of the first of them, `er x y` whether one from the `x`th on
before the `y`th is marked. -/
def Align.search (a : Align) (data : List Byte) (er : Nat → Nat → Bool) (t : Nat) : Align × Bool :=
  let s := a.win ++ data
  let base := a.n - a.win.length
  let r := a.hunt (fawMatches base s)
  match r.2 with
  | some (at_, mfi) =>
    ({ r.1 with n := a.n + data.length, win := [], cands := [], inIf := true, at_ := at_, buf := s.drop (at_ - base)
                bufEr := (decide (at_ < a.n) && a.bufEr) || er (at_ - a.n) data.length
                bufT := byteTime t ((at_ : Int) - a.n), miss := 0, inMf := true, mfi := (mfi + 255) % 256, disc := 0, cont := 0 }, true)
  | none =>
    let n := a.n + data.length
    ({ r.1 with n := n, win := s.drop (s.length - 6), bufEr := er (data.length - 6) data.length
                cands := r.1.cands.filter (fun c => decide (n < c.at_ + 8192 + 7)) }, false)

/-- A whole frame at the expected place: the alignment after it; true when alignment is lost, when multiframe is lost. -/
def Align.check (a : Align) (f : List Byte) : Align × Bool × Bool :=
  let found := decide (bitDiff (f.take 6) faw ≤ 3)
  if !found && decide (4 ≤ a.miss) then
    -- the hunt goes on in the bytes at hand, but for the FAW that was not there
    ((({ n := a.n - (f ++ a.buf).length + 1 } : Align).search ((f ++ a.buf).drop 1) (fun _ _ => a.bufEr) a.bufT).1, true, false)
  else
    let m := byteAt f 6
    let ok := m == (a.mfi + 1) % 256
    let a := { a with miss := if found then 0 else a.miss + 1, mfi := m }
    if a.inMf then
      if ok then ({ a with disc := 0 }, false, false)
      else if 4 ≤ a.disc then ({ a with inMf := false, disc := 0, cont := 0 }, false, true)
      else ({ a with disc := a.disc + 1 }, false, false)
    else if ok then
      if 2 ≤ a.cont then ({ a with inMf := true, disc := 0, cont := 0 }, false, false) else ({ a with cont := a.cont + 1 }, false, false)
    else ({ a with cont := 0 }, false, false)

/-- 8,192 B of the stream of port `n`, the first of which arrives now: the frame completed, with its erased flag. -/
def Core.streamIn (k : Core) (n : Nat) (data : List Byte) (er : Nat → Nat → Bool) : Core × Option (List Byte × Bool) :=
  let p := k.lp n
  let t := k.tim.glob
  let o := k.optic n
  let m := if p.al.inIf then 8192 - p.al.buf.length else 0
  let r := if p.al.inIf then
      ({ p.al with n := p.al.n + data.length, buf := p.al.buf ++ data, bufT := if p.al.buf.isEmpty then t else p.al.bufT
                   bufEr := er 0 m || (!p.al.buf.isEmpty && p.al.bufEr) }, false)
    else p.al.search data er t
  let k := k.setLp n { p with al := r.1, alT := if r.2 then k.now else p.alT, mfT := if r.2 then k.now else p.mfT
                              prevBip := if p.al.inIf then p.prevBip else none, prevAis := p.al.inIf && p.prevAis
                              errLast := p.al.inIf && p.errLast }
  let k := if r.2 ∧ k.hopSusp n ∧ o.hop = .window then k.setOptic n { o with hopIfT := k.gns } else k
  let a := r.1
  if !a.inIf || decide (a.buf.length < 8192) then (k, none)
  else
    let f := a.buf.take 8192
    let p := k.lp n
    let z := { a with buf := a.buf.drop 8192, bufEr := er (data.length - (a.buf.length - 8192)) data.length
                      bufT := byteTime a.bufT 8192 }.check f
    let lost := z.2.1
    let k := if lost then k.cnt (Reg.LFR_P_OOF_CNT n) else if z.2.2 then k.cnt (Reg.LFR_P_OOM_CNT n) else k
    let p := { p with al := z.1, rxAt := a.bufT, alT := if lost then k.now else p.alT
                      mfT := if z.1.inMf ≠ a.inMf then k.now else p.mfT }
    if lost then (k.setLp n { p with prevBip := none, prevAis := false, errLast := false }, none)
    else (k.setLp n p, some (f, a.bufEr))

end Sys2Proof.Machine
end

