-- ==== Sys2Proof/Machine/LineGroup.lean ====
section
/-!
DEFINITION. Line groups (11_line_framing R306 to R327, 12_line_coding_retry R338 to R353): checks and candidates, members in
service, differential delay, rows built and sent, frames received, rows rebuilt and parsed, the GCC. Operations; the commands
stand in Machine/LineCmd.lean and Machine/GroupCmd.lean.
-/

namespace Sys2Proof.Machine

/-! ### Checks and candidates (R321, 12_line_coding_retry R350 to R353) -/

def Core.fbInit (k : Core) (g i : Nat) : Nat := k.fd (Reg.LCD_G_FB0_W0 g + 8 * i) 31 16
def Core.fbPar (k : Core) (g i : Nat) : Nat := k.fd (Reg.LCD_G_FB0_W0 g + 8 * i) 15 0
def Core.fbValid (k : Core) (g i : Nat) : Bool := bitAt (k.rd (Reg.LCD_G_FB0_W1 g + 8 * i)) 31

/-- A mask within another. -/
def maskIn (a b : Nat) : Bool := (a &&& b) == a

/-- The checks of R321 on INIT and PARITY against CONFIG and MIN_DATA. -/
def Core.initCheck (k : Core) (g init par : Nat) : Nat :=
  let c := k.gConfig g
  let data := popCount 16 (init &&& (65535 - par))
  if !maskIn par c || decide (2 < popCount 16 par) || !maskIn init c || decide (data = 0) || decide (data < k.gMinData g) then stRange
  else stOk

def Core.groupCheck (g : Nat) (k : Core) : Nat :=
  let gid := k.gGid g
  let c := k.gConfig g
  let init := k.gInitReg g
  let bound := fun p => (List.range 16).filter (fun n => k.bound n g p)
  if gid = 0 ∨ gid = 0xFFFF ∨ k.fd (Reg.LFR_G_CFG g) 6 0 ≠ 0 ∨ k.fd (Reg.LFR_G_PARITY g) 31 16 ≠ 0 then stRange
  else if k.initCheck g init (k.gParReg g) ≠ stOk then stRange
  else if (bitsOf 16 c).any (fun p => (bound p).length != 1) then stRange
  else if (bitsOf 16 init).any (fun p => !((k.portAt g p).map (fun n => k.isOn (.linePort n))).getD false) then stRange
  else if !bitAt (k.rd (Reg.CIP_G_SLOT g)) 31 || (k.kslot (k.gSlot g)).empty || (k.kslot (k.gSlot g)).purpose != 1 then stSlot
  else k.schCheck g

/-- The margin class of the port at a position (R351). -/
def Core.ownClass (k : Core) (g p : Nat) : Nat :=
  match k.portAt g p with
  | some n => k.fd (Reg.LCD_P_STAT n) 21 20
  | none => 0

/-- Classes of CONFIG, 2 bits a position. -/
def Core.classWord (k : Core) (g : Nat) (cls : Nat → Nat) : Nat :=
  (bitsOf 16 (k.gConfig g)).foldl (fun w p => w + cls p * 2 ^ (2 * p)) 0

def marginMsg (w : Nat) : List Byte := [0x13, 0, 0, 0] ++ beBytes 4 w

/-- The worse of two classes: FAIL, then MARGINAL and UNKNOWN as equals, then PASS. -/
def worseClass (a b : Nat) : Nat :=
  if a = 3 ∨ b = 3 then 3 else if a = 2 ∨ b = 2 then 2 else if a = 0 ∨ b = 0 then 0 else 1

/-- The candidates in order: number, INIT, parity positions. -/
def Core.candidates (k : Core) (g : Nat) : List (Nat × Nat × Nat) :=
  (0, k.gInitReg g, k.gParReg g) ::
    ((List.range 4).filter (k.fbValid g)).map (fun i => (i + 1, k.fbInit g i, k.fbPar g i))

def Core.acceptable (k : Core) (g : Nat) (cls : Nat → Nat) (c : Nat × Nat × Nat) : Bool :=
  let ps := bitsOf 16 c.2.1
  let data := ps.filter (fun p => !bitAt c.2.2 p)
  !ps.any (fun p => cls p == 3) && decide (k.gMinData g ≤ data.length) &&
  decide ((data.filter (fun p => cls p == 2 || cls p == 0)).length ≤ (ps.filter (fun p => bitAt c.2.2 p)).length)

/-! ### Differential delay and its budget (R323, 07_buffers_memory R210, R211) -/

/-- Members of a group that are charged: in service while ON, READY while STARTING. -/
def Core.charged (k : Core) (g : Nat) : Nat :=
  let x := k.grp g
  if k.isOn (.group g) then popCount 16 (if x.startRow.isSome then x.init else x.txSvc)
  else if k.fst (.group g) == .starting then popCount 16 x.rxReady else 0

/-- Committed bandwidth in units of 0.1 Tb/s. -/
def Core.committed (k : Core) : Nat :=
  let sum := fun (f : Nat → Nat) => (List.range 8).foldl (fun a g => a + f g) 0
  16 * sum k.charged + max (k.fd Reg.HBC_BUDGET 9 0) k.wheyPeak + 16 * sum (fun g => popCount 16 (k.grp g).hbm)

def Core.budgetLimit (k : Core) : Nat := 835 * k.hbmStacks / 10 - 24

/-- Is position `p` measured, at a port that is IF? -/
def Core.measured (k : Core) (g p : Nat) : Bool :=
  bitAt (k.grp g).arrSeen p && ((k.rxPortAt g p).map (fun n => (k.lp n).al.inIf)).getD false

/-- Differential delay in ns: the latest position's arrival minus its own. -/
def Core.diffDelay (k : Core) (g p : Nat) : Nat :=
  let x := k.grp g
  let own := x.arrT.get 0 p
  let latest := ((List.range 16).filter (k.measured g)).foldl (fun (m : Int) q => max m (x.arrT.get 0 q)) own
  (latest - own).toNat

/-- A need in units of 64 KiB: 100 B per ns. -/
def stageNeed (ns : Nat) : Nat := (100 * ns + 65535) / 65536

/-- The units of on-die staging that placed positions hold, but one. -/
def Core.onDieUsed (k : Core) (g p : Nat) : Nat :=
  (List.range 8).foldl (fun a h => a + ((k.grp h).delays.cells.filter (fun c =>
    !(h == g && c.1 == p) && !bitAt (k.grp h).hbm c.1)).foldl (fun b c => b + stageNeed (c.2 - 1)) 0) 0

/-- BUDGET_REFUSED. -/
def Core.budgetRefused (k : Core) (g p d : Nat) : Core :=
  k.emit 0x3FFF 0x0703 [(107, 105, g), (104, 101, (k.portAt g p).getD 0), (95, 86, k.committed), (85, 76, k.budgetLimit),
    (31, 0, min d (2 ^ 32 - 1))]

/-- Where position `p` is placed with delay `d`: on die when its need fits, else in HBM when the budget admits it. A
member of a STARTING group that is not READY yet brings its own charges of retry and staging along. -/
def Core.placeable (k : Core) (g p d : Nat) : Option Bool :=
  let x := k.grp g
  let own := if k.fst (.group g) == .starting && !bitAt x.rxReady p then 16 else 0
  if k.skewMax < d then none
  else if stageNeed d + k.onDieUsed g p ≤ 512 then some false
  else if bitAt x.hbm p || decide (k.committed + own + 16 ≤ k.budgetLimit) then some true
  else none

/-- Position `p` is placed, or refused. -/
def Core.place (k : Core) (g p d : Nat) : Core × Bool :=
  let x := k.grp g
  match k.placeable g p d with
  | some hbm => (k.setGrp g { x with delays := x.delays.set 0 p (d + 1), hbm := setBit x.hbm p hbm }, true)
  | none => (if k.skewMax < d then k else k.budgetRefused g p d, false)

/-- Every position placed again with the delays of now. -/
def Core.placeAll (k : Core) (g : Nat) (ps : List Nat) : Core × List Nat :=
  ps.foldl (fun (a : Core × List Nat) p =>
    let r := a.1.place g p (a.1.diffDelay g p)
    (r.1, if r.2 then a.2 else a.2 ++ [p])) (k, [])

/-- The largest differential delay among positions. -/
def Core.maxDelay (k : Core) (g : Nat) (ps : List Nat) : Nat := ps.foldl (fun m p => max m (k.diffDelay g p)) 0

/-- A member's SKEW condition as its delay stands now; the raw defect is set with it. -/
def Core.setSkew (k : Core) (g p : Nat) (bad : Bool) : Core :=
  match k.portAt g p with
  | none => k
  | some n =>
    let q := k.lp n
    if q.skewBad = bad then k
    else k.setLp n { q with skewBad := bad, skewT := k.now, raw := if bad then setBit q.raw 5 true else q.raw }

def Core.hasSkew (k : Core) (g p : Nat) : Bool := ((k.portAt g p).map (fun n => (k.lp n).skewBad)).getD false

/-- The delays of a group's members are tested as they stand: a READY one whose need grew is placed again, one that fails,
or any whose delay exceeds SKEWMAX, has SKEW; while the group is ON, DCOMP rises when none fails. A member that failed
before is tested in silence. -/
def Core.skewCheck (k : Core) (g : Nat) : Core :=
  if !k.gLive g && k.fst (.group g) != .starting then k
  else
    let ready := bitsOf 16 (k.grp g).rxReady
    let r := ((bitsOf 16 (k.gConfig g)).filter (k.measured g)).foldl (fun (a : Core × Bool) p =>
      let d := a.1.diffDelay g p
      let r : Core × Bool := if !ready.contains p then (a.1, decide (d ≤ a.1.skewMax))
        else if a.1.hasSkew g p && (a.1.placeable g p d).isNone then (a.1, false)
        else a.1.place g p d
      (r.1.setSkew g p (!r.2), a.2 && (r.2 || !ready.contains p))) (k, true)
    let x := r.1.grp g
    if k.gLive g && r.2 then r.1.setGrp g { x with dcomp := max x.dcomp (r.1.maxDelay g ready) } else r.1

/-- Is a position IF and in multiframe for 2 multiframes, and measured? -/
def Core.settled (k : Core) (g p : Nat) : Bool :=
  k.measured g p && ((k.portAt g p).map (fun n =>
    k.pUsable n && decide ((k.lp n).alT + 41944 ≤ k.now) && decide ((k.lp n).mfT + 41944 ≤ k.now))).getD false

/-- A position becomes READY (R323): the needs of every READY position pass at the delays of now. -/
def Core.readyEv (k : Core) (g p : Nat) : Core :=
  let x := k.grp g
  let live := k.fst (.group g) == .starting || k.gLive g
  if !live || !bitAt (k.gConfig g) p || bitAt x.rxReady p || !k.settled g p then k
  else
    let ps := bitsOf 16 (setBit x.rxReady p true)
    let r := k.placeAll g ps
    let y := r.1.grp g
    if r.2.isEmpty then
      r.1.setGrp g { y with rxReady := setBit y.rxReady p true, dcomp := if k.gLive g then max y.dcomp (k.maxDelay g ps) else y.dcomp }
    else (r.1.setGrp g { y with delays := x.delays, hbm := x.hbm }).wrf (Reg.LFR_G_STAT g) 7 0 stBusy

/-- READY lasts while the port is IF and in multiframe. -/
def Core.unready (k : Core) (g p : Nat) : Core :=
  let x := k.grp g
  if bitAt x.rxReady p then
    k.setGrp g { x with rxReady := setBit x.rxReady p false, delays := x.delays.set 0 p 0, hbm := setBit x.hbm p false }
  else k

/-! ### ON and OFF (R321) -/

/-- STARTING: standby frames and MARGIN. -/
def Core.groupStart (g : Nat) (k : Core) : Core :=
  let k := (k.setGrp g { reqNext := (k.grp g).reqNext }).gccSend g (marginMsg (k.classWord g (k.ownClass g)))
  k.setGrp g { k.grp g with marginT := k.now }

/-- A group that reaches OFF: what it held is discarded. -/
def Core.groupClean (k : Core) (g : Nat) : Core :=
  let k := k.schDiscard g
  let k := match (k.grp g).part.bind (·.item) with
    | some id => (match k.cle.rx.find? (fun (i : RxItem) => i.id == id) with
      | some i => k.dropItem i
      | none => k)
    | none => k
  k.setGrp g { reqNext := (k.grp g).reqNext, chosen := (k.grp g).chosen }

/-- FALLBACK_CHOSEN. -/
def Core.chosenEvent (k : Core) (g c w init par : Nat) : Core :=
  k.emit (0x5810 + g) 0x0B04 [(107, 105, g), (104, 102, c), (95, 64, w), (31, 16, init), (15, 0, par)]

/-- The group chooses its candidate; with READY of both ends over INIT it enters ON. -/
def Core.groupOnEv (k : Core) (g : Nat) : Core :=
  let x := k.grp g
  match k.fst (.group g), x.peerMargin with
  | .starting, some w =>
    let cls := fun p => worseClass (k.ownClass g p) (fld w (2 * p + 1) (2 * p))
    let word := k.classWord g cls
    (match (k.candidates g).find? (k.acceptable g cls) with
    | none =>
      let k := (((k.chosenEvent g 7 word 0 0).groupClean g).setFst (.group g) .off stRange).wrf (Reg.LFR_G_STAT g) 7 0 stRange
      (k.setGrp g { k.grp g with chosen := 7 }).lineRefresh
    | some (c, init, par) =>
      -- a READY position whose need no longer passes stays out (07_buffers_memory R211)
      let r := k.placeAll g (bitsOf 16 x.rxReady)
      let k := if r.2.isEmpty then r.1 else (r.2.foldl (fun (k : Core) p => k.unready g p) r.1).wrf (Reg.LFR_G_STAT g) 7 0 stBusy
      let x := k.grp g
      if maskIn init x.rxReady && maskIn init x.peerReady then
        let k := k.chosenEvent g c word init par
        let k := k.setGrp g { k.grp g with
          init := init, parity := par, chosen := c, txSvc := 0, rxSvc := 0, rowSvc := 0, chg := none, rowChg := none, addWait := none
          startRow := some ((k.frame / 256 + 1) * 256), dcomp := k.maxDelay g (bitsOf 16 x.rxReady), kRow := 0, mRow := 0
          rows := [], nextSeq := none, part := none, skip := false, reqs := [], copies := [], resend := [], seenReq := [], txSegs := [], txCur := [] }
        ((k.setFst (.group g) .on stOk).schStart g).lineRefresh
      else k)
  | _, _ => k

/-- A group still STARTING after 100 ms; the status it returns to OFF with shows in LAST_ST. -/
def Core.groupTimeEv (k : Core) (g : Nat) : Core :=
  let f := k.fn (.group g)
  if f.fst == .starting && decide (f.since + 100000000 ≤ k.now) then
    (((k.groupClean g).setFst (.group g) .off stTimeout).wrf (Reg.LFR_G_STAT g) 7 0 stTimeout).lineRefresh
  else k

/-- The drain of a group is complete when nothing is queued, sent or handed over (09_scheduling R257). -/
def Core.groupDrainChk (k : Core) (g : Nat) : Core :=
  let x := k.grp g
  if k.fst (.group g) == .draining && (k.schg g).items.isEmpty && x.resend.isEmpty && x.txSegs.isEmpty && x.txCur.isEmpty &&
      k.cip.handWait.get 0 g == 0 then
    (((k.groupClean g).fnDrained (.group g) stOk (Core.groupCheck g) (Core.groupStart g)).timeGroupChk).lineRefresh
  else k

/-- The drain limit of 100 ms. -/
def Core.groupDrainEv (k : Core) (g : Nat) : Core :=
  let f := k.fn (.group g)
  if f.fst == .draining && decide (f.since + 100000000 ≤ k.now) then
    (((k.groupClean g).fnDrained (.group g) stTimeout (Core.groupCheck g) (Core.groupStart g)).timeGroupChk).lineRefresh
  else k

/-- LFR_Gg_CTRL.EN. -/
def Core.groupCmd (k : Core) (g : Nat) (en : Bool) : Core × Nat :=
  let r := if en then k.fnEnable (.group g) (Core.groupCheck g) (Core.groupStart g)
    else k.fnDisable (.group g) (fun k => (k.timeGroupChk).groupDrainChk g) (fun k => k.groupClean g)
  (if r.2 = stOk then (r.1.wr (Reg.LFR_G_CTRL g) en.toNat).lineRefresh else r.1, r.2)

/-! ### Members in service (R324, R325) -/

/-- Positions in service in the transmit direction: INIT until the first data row. -/
def LGroup.inSvc (x : LGroup) : Nat := if x.startRow.isSome then x.init else x.txSvc

/-- MEMBER_CHANGE. -/
def Core.memberEvent (k : Core) (g tx old new seq : Nat) : Core :=
  k.emit (0x5010 + g) 0x0A03 [(107, 105, g), (104, 104, tx), (95, 80, old), (79, 64, new), (31, 0, seq)]

/-- A change is announced in multiframe M, from the next frame on, with CHG_SEQ = 256 x (M + 9). -/
def Core.announce (k : Core) (g next addT : Nat) : Core :=
  let m := k.frame / 256
  k.setGrp g { k.grp g with chg := some (next, (256 * (m + 9)) % 2 ^ 32, k.frame + 1), addT := addT }

def Core.groupAdd (k : Core) (g p : Nat) : Core × Nat :=
  let x := k.grp g
  if !k.isOn (.group g) then (k, stRange)
  else if x.chg.isSome || x.addWait.isSome then (k, stBusy)
  else if !bitAt (k.gConfig g) p || bitAt x.inSvc p || !((k.portAt g p).map (fun n => k.isOn (.linePort n))).getD false then (k, stRange)
  else if bitAt x.peerReady p then (k.announce g (setBit x.inSvc p true) (k.now + 1), stOk)
  else (k.setGrp g { x with addWait := some (p, k.now) }, stOk)

def Core.groupRemove (k : Core) (g p : Nat) : Core × Nat :=
  let x := k.grp g
  let left := setBit x.inSvc p false
  if !k.isOn (.group g) then (k, stRange)
  else if x.chg.isSome || x.addWait.isSome then (k, stBusy)
  else if !bitAt x.inSvc p then (k, stRange)
  else if popCount 16 (left &&& (65535 - x.parity)) < k.gMinData g ∨ left = 0 then (k, stRange)
  else (k.announce g left 0, stOk)

def Core.groupCancel (k : Core) (g : Nat) : Core × Nat :=
  if !k.isOn (.group g) then (k, stRange)
  else (k.setGrp g { k.grp g with addWait := none, spareFor := if (k.grp g).addWait.isSome then none else (k.grp g).spareFor }, stOk)

/-- LFR_Gg_CMD. -/
def Core.memberCmd (k : Core) (g cmd p : Nat) : Core × Nat :=
  match cmd with
  | 1 => k.groupAdd g p
  | 2 => k.groupRemove g p
  | 3 => k.groupCancel g
  | _ => (k, stRange)

/-- A waiting ADD whose position is READY at the peer. -/
def Core.addEv (k : Core) (g : Nat) : Core :=
  let x := k.grp g
  match x.addWait with
  | some (p, _) =>
    if k.isOn (.group g) && bitAt x.peerReady p && x.chg.isNone then
      (k.setGrp g { x with addWait := none }).announce g (setBit x.inSvc p true) 0
    else k
  | none => k

/-- LFR_Gg_ADDTMO expires for a waiting ADD. -/
def Core.addTimeEv (k : Core) (g : Nat) : Core :=
  let x := k.grp g
  match x.addWait with
  | some (p, t) =>
    if t + 1000000 * k.fd (Reg.LFR_G_ADDTMO g) 15 0 ≤ k.now then
      ((k.setGrp g { x with addWait := none, spareFor := none }).wrf (Reg.LFR_G_STAT g) 7 0 stTimeout).emit (0x5010 + g) 0x0A04
        [(107, 105, g), (103, 100, p), (7, 0, stTimeout)]
    else k
  | none => k

/-- The receive delay of a group in ns: the earliest member's one-way delay, DCOMP and the RS stage. -/
def Core.rxDelay (k : Core) (g : Nat) : Nat :=
  let ds := ((bitsOf 16 (k.grp g).rxSvc).filterMap (k.portAt g)).map (fun n => k.rd (Reg.TBS_P_DELAY n))
  (match ds with
   | [] => 0
   | d :: l => l.foldl min d) + (k.grp g).dcomp + 120

/-- SPARE_INSERTED. -/
def Core.spareEvent (k : Core) (g fading spare st : Nat) : Core :=
  k.emit 0x67FF 0x0C02 [(107, 105, g), (104, 101, fading), (100, 97, spare), (7, 0, st)]

/-- A spare came into service: the fading position is removed (13_optics R369). -/
def Core.spareDone (k : Core) (g : Nat) : Core :=
  let x := k.grp g
  match x.spareFor with
  | some (f, s) =>
    if bitAt x.inSvc s then
      let r := k.groupRemove g f
      ((r.1.setGrp g { r.1.grp g with spareFor := none }).cnt Reg.OPC_SPARE_CNT).spareEvent g f s r.2
    else k
  | none => k

/-- The row of frame `f`: the first data row, or a change that is due, sets IN_SVC. -/
def Core.applyChange (k : Core) (g f : Nat) : Core :=
  let x := k.grp g
  match x.startRow with
  | some f0 => if f0 ≤ f then k.setGrp g { x with txSvc := x.init, startRow := none } else k
  | none =>
    match x.chg with
    | none => k
    | some (next, seq, _) =>
      if serialBefore 32 (f % 2 ^ 32) seq then k
      else
        let k := k.setGrp g { x with txSvc := next, chg := none }
        let k := if x.addT = 0 then k else
          k.wr (Reg.LFR_G_ADDTIME g) ((k.now - (x.addT - 1) + k.rxDelay g) / 1000)
        (k.memberEvent g 1 x.txSvc next seq).spareDone g

/-! ### Rows built (R306 to R309, R327, 12_line_coding_retry R338, R339, R343) -/

/-- A frame under construction: cells filled, bytes, first header, epoch of the group-slot headers started. -/
structure PackSt where
  cell : Nat := 0
  out : List Byte := []
  first : Option Nat := none
  ke : Option Nat := none
deriving DecidableEq, Repr

/-- Fill cells up to cell `c`. -/
def PackSt.fillTo (p : PackSt) (c : Nat) : PackSt :=
  { p with cell := c, out := p.out ++ List.replicate (64 * (c - p.cell)) 0, first := p.first.orElse (fun _ => some p.cell) }

def PackSt.fill (p : PackSt) : PackSt := p.fillTo 127

/-- The own site's latest contribution sent is its reference (10_timetable_time R292), but at an owner under SCATTER. -/
def Core.lateSent (k : Core) (f : Nat) (s : Seg) : Core :=
  match s.use, s.resend with
  | some (.contribOut x _ 0 _), false => if k.scatterOwner x then k else k.lateRef x k.mySite (f / 16)
  | _, _ => k

/-- The share of the retry parts that a member has (12_line_coding_retry R343), in bytes. -/
def Core.retryShare (k : Core) : Nat :=
  (32 - k.retiredN) * 2 ^ 28 / max 1 ((List.range 8).foldl (fun a g => a + if k.isOn (.group g) then k.charged g else 0) 0)

/-- The copies of one position that its share holds, the newest first kept. -/
def keepShare (share p : Nat) (l : List RCopy) : List RCopy :=
  (l.foldr (fun c (a : List RCopy × Nat) =>
    let n := if c.pos = p then a.2 + c.seg.bytes else a.2
    (if c.pos = p ∧ share < n then a.1 else c :: a.1, n)) ([], 0)).1

/-- A copy of a segment sent is kept. Which slice in service holds it is not stated: free (assumption log 115). -/
def Core.keepCopy (k : Core) (g f p cell : Nat) (s : Seg) : Core :=
  let on := (List.range 32).filter (fun j => k.hbc.retired.get 0 j == 0)
  if on.isEmpty then k
  else
    let x := k.grp g
    let c : RCopy := { seg := s, gseq := f % 2 ^ 32, pos := p, cell := cell, frames := [(f % 2 ^ 32, p)], t := k.now
                       slice := on.getD (Config.freeField k.free % on.length) 0 }
    (k.setGrp g { x with copies := keepShare k.retryShare p (x.copies ++ [c]) }).fresh

/-- A segment starts at a cell of the frame of position `p` in row `f`. -/
def Core.startSeg (k : Core) (g f p cell : Nat) (s : Seg) (rest : List Seg) : Core :=
  let h := [byte (byteAt s.hdr 0), byte (setFld (byteAt s.hdr 1) 6 6 s.resend.toNat)] ++ s.hdr.drop 2
  let k := k.setGrp g { k.grp g with
    txSegs := rest, txCur := padTo 64 h ++ padTo (64 * ((s.ct.length + 63) / 64)) s.ct, txVer := if s.held then some s.ver else none }
  (k.keepCopy g f p cell s).lateSent f s

/-- Cells of the segment being sent. -/
def Core.moreSeg (k : Core) (g f p n : Nat) : Core :=
  let x := k.grp g
  let cur := x.txCur.drop (64 * n)
  let mark := fun (c : RCopy) => if c.frames.contains (f % 2 ^ 32, p) then c else { c with frames := c.frames ++ [(f % 2 ^ 32, p)] }
  let cs := match x.copies.getLast? with
    | some c => x.copies.dropLast ++ [mark c]
    | none => []
  let k := k.setGrp g { x with txCur := cur, copies := cs }
  if cur.isEmpty then
    let y := k.grp g
    let k := match y.txVer with
      | some v => k.itemGone v
      | none => k
    k.setGrp g { k.grp g with txVer := none }
  else k

/-- The payload of one data frame; its cell 0 is cell `b` of the row. -/
def Core.packFrame (g f p b : Nat) : Nat → Core → PackSt → Core × PackSt
  | 0, k, st => (k, st.fill)
  | n + 1, k, st =>
    let x := k.grp g
    if 127 ≤ st.cell then (k, st)
    else if !x.txCur.isEmpty then
      let c := min (127 - st.cell) ((x.txCur.length + 63) / 64)
      packFrame g f p b n (k.moreSeg g f p c) { st with cell := st.cell + c, out := st.out ++ x.txCur.take (64 * c) }
    else match x.txSegs with
      | [] => (k, st.fill)
      | s :: rest =>
        if placeBefore (f, b + st.cell) s.at_ then
          packFrame g f p b n k (st.fillTo (if s.at_.1 = f then min 127 (s.at_.2 - b) else 127))
        else if s.grp && st.ke.isSome && st.ke != some s.ke then (k, st.fill)
        else packFrame g f p b n (k.startSeg g f p st.cell s rest)
          { st with first := st.first.orElse (fun _ => some st.cell), ke := if s.grp then some s.ke else st.ke }

/-- The coded vector of a data frame (R338). -/
def codeVec (ke b30 : Nat) (pay : List Byte) : List Byte := [byte (32 * ke), byte b30] ++ pay

/-- P and Q over data vectors by position (R339). -/
def parityP (l : List (Nat × List Byte)) : List Byte :=
  l.foldl (fun a v => xorBytes a v.2) (List.replicate 8130 0)
def parityQ (l : List (Nat × List Byte)) : List Byte :=
  l.foldl (fun a v => xorBytes a (gfScale (gfPow2 v.1) v.2)) (List.replicate 8130 0)

/-- Data positions of the row, packed in increasing order; a frame in which no group-slot header starts has no epoch to
name, and the spec gives KEY_EPOCH no value there. -/
def Core.packRow (k : Core) (g f : Nat) (ps : List Nat) : Core × List (Nat × List Byte × Nat × Nat) :=
  ps.zipIdx.foldl (fun (a : Core × List (Nat × List Byte × Nat × Nat)) z =>
    let p := z.1
    let r := Core.packFrame g f p (127 * z.2) 260 a.1 {}
    let ke := r.2.ke.getD (Config.freeField r.1.free % 2)
    (if r.2.ke.isSome then r.1 else r.1.fresh, a.2 ++ [(p, r.2.out, r.2.first.getD 0x7F, ke)])) (k, [])

/-- Is port `n` in the guard slots of a hop? -/
def Core.inGuard (k : Core) (n : Nat) : Bool := (k.optic n).hop == .guard

/-- Positions usable for GCC messages. -/
def Core.gccUsable (k : Core) (g : Nat) : List Nat :=
  (bitsOf 16 (k.gConfig g)).filter (fun p => ((k.portAt g p).map (fun n => k.isOn (.linePort n) && !k.inGuard n)).getD false)

/-- The GCC copy of a row: one of three of the head message (R327). -/
def Core.gccRow (k : Core) (g : Nat) : Core :=
  let x := k.grp g
  let u := k.gccUsable g
  match x.gcc with
  | [] => k.setGrp g { x with gccAt := [] }
  | m :: rest =>
    if u.isEmpty then k.setGrp g { x with gccAt := [] }
    else
      let at_ := [(u.getD (x.gccCopy % u.length) 0, m)]
      k.setGrp g (if 2 ≤ x.gccCopy then { x with gccAt := at_, gcc := rest, gccCopy := 0, gccT := k.now }
                  else { x with gccAt := at_, gccCopy := x.gccCopy + 1 })

/-- The row of frame `f`, built once. -/
def Core.buildRow (k : Core) (g f : Nat) : Core :=
  if f < (k.grp g).rowF then k
  else
    let k := k.gccRow g
    let k := if k.gLive g then k.applyChange g f else k
    let x := k.grp g
    let svc := if k.gLive g then x.txSvc else 0
    let chg := match x.chg with
      | some (next, seq, f0) => if f0 ≤ f then some (next, seq) else none
      | none => none
    let k := k.setGrp g { x with rowF := f + 1, rowSvc := svc, rowChg := chg }
    let r := k.packRow g f (bitsOf 16 (svc &&& (65535 - x.parity)))
    let vecs := r.2.map (fun d => (d.1, codeVec d.2.2.2 d.2.2.1 d.2.1))
    let pars := (bitsOf 16 (svc &&& x.parity)).zipIdx.map (fun p =>
      let v := if p.2 = 0 then parityP vecs else parityQ vecs
      (p.1, v.drop 2, byteAt v 0, byteAt v 1))
    r.1.setGrp g { r.1.grp g with rowPay := r.2 ++ pars }

/-! ### Frames sent (R301 to R305, R317) -/

/-- MFOH of a frame (R303). -/
def Core.mfoh (k : Core) (n f : Nat) : List Byte :=
  let p := k.lp n
  match f % 256 with
  | 1 => beBytes 8 (frameStart (f / 256 * 256))
  | 2 => beBytes 8 p.rxT
  | 3 => beBytes 8 (args [(63, 40, p.rxMf), (35, 32, k.tim.level)])
  | 4 => beBytes 8 (args [(63, 60, k.mySite), (59, 54, k.gw), (53, 50, n)])
  | _ => List.replicate 8 0

/-- BDI: raw LOS, LOF, LOM or AIS on the port. -/
def Core.bdiOut (k : Core) (n : Nat) : Bool := (k.lp n).eff &&& 0xF != 0

/-- The frame of port `n`, before scrambling, with the BIP of the frame before it. -/
def Core.dataFrame (k : Core) (n f bip : Nat) : List Byte :=
  let a := k.pAssigned n
  let g := k.pGroup n
  let pos := k.pPos n
  let x := k.grp g
  let on := a && !k.isOff (.group g)
  let pay := if on then x.rowPay.find? (fun r => r.1 == pos) else none
  let par := on && bitAt x.parity pos && pay.isSome
  let chg := if on then x.rowChg else none
  let gcc := if on then ((x.gccAt.find? (fun r => r.1 == pos)).map (·.2)).getD [] else []
  let ke := match pay with
    | some r => if par then 0 else r.2.2.2
    | none => 0
  let b7 := args [(6, 6, (k.bdiOut n).toNat), (5, 5, ke), (4, 4, pay.isNone.toNat), (3, 3, chg.isSome.toNat), (2, 2, (k.lp n).errLast.toNat)]
  let b30 := match pay with
    | some r => r.2.2.1
    | none => 0
  let b31 := match pay with
    | some r => if par then r.2.2.2 else 0
    | none => 0
  faw ++ [byte (f % 256), byte b7] ++ beBytes 2 (if a then k.gGid g else 0) ++ beBytes 2 (if a then pos * 4096 else 0) ++
    beBytes 4 (f % 2 ^ 32) ++ beBytes 2 (f / 16 % 65536) ++ beBytes 2 bip ++ beBytes 2 (if on then x.rowSvc else 0) ++
    beBytes 2 ((chg.map (·.1)).getD 0) ++ beBytes 4 ((chg.map (·.2)).getD 0) ++ beBytes 2 (if on then x.rxReady else 0) ++
    [byte b30, byte b31] ++ k.mfoh n f ++ padTo 24 gcc ++ padTo 8128 ((pay.map (·.2.1)).getD [])

/-- An AIS frame. -/
def aisFrame (f : Nat) : List Byte := faw ++ [byte (f % 256)] ++ List.replicate 8185 0xFF

/-- A forwarded frame (14_sites R402). -/
def Core.transitFrame (k : Core) (m f bip : Nat) (r : List Byte) : List Byte :=
  let b7 := setFld (setFld (byteAt r 7) 6 6 (k.bdiOut m).toNat) 2 2 (k.lp m).errLast.toNat
  faw ++ [byte (f % 256), byte b7] ++ slice r 8 10 ++ beBytes 2 bip ++ slice r 20 12 ++ k.mfoh m f ++ r.drop 40

/-- What a transit mapping from `n` puts on port `m`: a due frame of the store, or an AIS frame. -/
def Core.transitOut (k : Core) (n m f bip : Nat) : Core × List Byte × Bool :=
  let p := k.lp n
  if !p.trActive || !k.pUsable n then (k, aisFrame f, true)
  else match p.store with
    | (r, er, t) :: rest =>
      if t + k.fd (Reg.LFR_TRN_P n) 15 0 * 65536 / 100 ≤ frameStart f + 65536 * 82 then
        let k := k.setLp n { p with store := rest, trPrimed := true }
        (if er then k.setLp m { k.lp m with invBip := true } else k, k.transitFrame m f bip r, false)
      else (if p.trPrimed then k.trnSlip n 0 else k, aisFrame f, true)
    | [] => (if p.trPrimed then k.trnSlip n 0 else k, aisFrame f, true)

/-! ### Lane coding (12_line_coding_retry R333 to R335) -/

/-- The payload bits of its codeword that stand ahead of what lane `l` carries of frame `f`. -/
def codePhase (f : Nat) : Nat :=
  (3084 * (f / 256 % 5) + if f % 256 = 0 then 0 else 8192 * (1 + f % 256)) % 5140

/-- The bits lane `l` of port `n` carries of frame `f`: the marker of the multiframe ahead of its frame 0, and bytes l,
l + 8, … -/
def laneBits (n l f : Nat) (s : List Byte) : List Bool :=
  (if f % 256 = 0 then lineBits (laneMarker n l (f / 256)) else []) ++
    lineBits ((s.zipIdx.filter (fun b => b.2 % 8 == l)).map Prod.fst)

/-- A frame goes out on the 8 lanes, each coded on its own; what a lane's first codeword holds ahead of the first frame
after a pause is free. -/
def Core.codeLanes (k : Core) (n f : Nat) (s : List Byte) : Core :=
  let p := k.lp n
  let ahead := fun l => if p.txNext = f then p.codBits.get [] l
    else (List.range (codePhase f)).map (Config.freeField (k.free + l)).testBit
  let ws := (List.range 8).map (fun l => rsWords 514 30 rsTab30 4 (ahead l ++ laneBits n l f s))
  { k.setLp n { p with codOut := ws.map Prod.fst, codBits := ws.zipIdx.foldl (fun m w => m.set [] w.2 w.1.2) {} }
    with free := k.free + 8 }

/-- Does port `n` send frames? It is ON, or under the margin test of boot step 10 (12_line_coding_retry R350). -/
def Core.sending (k : Core) (n : Nat) : Bool := k.isOn (.linePort n) || bitAt k.opc.mtest n

/-- Port `n` sends the frame of now (R301). -/
def Core.frameTxEv (k : Core) (n : Nat) : Core :=
  let f := k.frame
  if !k.sending n || decide (f < (k.lp n).txNext) then k
  else
    let g := k.pGroup n
    let p := k.lp n
    let bip := if p.invBip then p.txBip ^^^ 0xFFFF else p.txBip
    let k := k.setLp n { p with invBip := false }
    let r : Core × List Byte × Bool := match k.trnTo n with
      | some m => k.transitOut m n f bip
      | none =>
        if k.pAssigned n && k.fst (.group g) == .faulted then (k, aisFrame f, true)
        else
          let k := if k.pAssigned n && (k.gLive g || k.fst (.group g) == .starting) then k.buildRow g f else k
          (k, k.dataFrame n f bip, false)
    let s := scrambleFrame r.2.1
    let k := r.1.codeLanes n f s
    let k := k.setLp n { k.lp n with txNext := f + 1, txBip := frameBip s, txLast := s, txAis := r.2.2 }
    if k.pAssigned n then k.groupDrainChk g else k

/-! ### Frames received (R302 to R305, R314, R317, R322, R327) -/

/-- The difference of two timestamps of 64 bits, signed. -/
def tsDiff (a b : Nat) : Int := signed 64 ((a + 2 ^ 64 - b % 2 ^ 64) % 2 ^ 64)

/-- TIME_ALARM (10_timetable_time R282, R300): logged when a cause sets; the state of the causes kept. -/
def Core.timeAlarm (k : Core) (cause : Nat) (on : Bool) (port : Option Nat) (ps : Int) : Core :=
  if bitAt k.tim.alarm cause == on then k
  else
    let k := { k with tim := { k.tim with alarm := setBit k.tim.alarm cause on } }
    if on then
      let mine := fun (q : Peer) => (port.map (fun n => (k.lp n).peerKnown && (k.lp n).peerSite == q.site && (k.lp n).peerGw == q.gw)).getD false
      let k : Core := { k with opc := { k.opc with peers := k.opc.peers.map (fun (q : Peer) => if mine q then { q with alarm := true } else q) } }
      k.emit 0x6801 0x0D01 [(107, 104, cause), (103, 100, port.getD 15), (31, 0, satFld 32 (ps / 1000))]
    else k

/-- LEVEL from the upstream (R280, R281). -/
def Core.levelIn' (k : Core) (n lvl : Nat) : Core :=
  if k.timeSrc ≠ 2 ∨ k.sourcePort ≠ some n then k
  else
    let k := k.timeAlarm 3 (lvl == 14) (some n) k.offsetPs
    if k.tim.tstate = tsLockedLine then
      if lvl = 15 then k.setTState tsHoldover 15 else { k with tim := { k.tim with level := min 15 (lvl + 1) } }
    else k

/-- Are both ends of port `n` LOCKED_REF to PTP, as far as the levels show (R279)? That their sources go back to one
reference is in no message (assumption log 121). -/
def Core.estOk (k : Core) (n : Nat) : Bool := k.tim.tstate == tsLockedRef && k.timeSrc != 1 && (k.lp n).peerLevel == 0

/-- A round of R277 completes: four timestamps. -/
def Core.roundDone (k : Core) (n mf : Nat) : Core :=
  let p := k.lp n
  let cur := k.frame / 256
  let m := cur - ((cur + 2 ^ 24 - mf) % 2 ^ 24)
  let up := tsDiff p.rxT p.ptTx
  let dn := tsDiff p.ptRx (frameStart (256 * m))
  let k := k.setLp n { p with tt := some (up - dn, up + dn, min (frameStart (256 * m)) ((p.rxT : Int) - up).toNat) }
  let k := k.wr (Reg.TBS_P_DELAY n) (((up + dn) / 2).toNat / 65536)
  if k.estOk n then
    let c := k.tim.estN.get 0 n + 1
    let s := k.tim.estSum.get 0 n + (up - dn)
    -- 600 s of rounds, one a multiframe; the PTP offset between the ends is in no message
    if 600000000000 / 20972 ≤ c then
      let est := s / (c : Int) * 1000 / 65536 - 2 * Config.freeRound k.free 0
      (({ k with tim := { k.tim with estN := k.tim.estN.set 0 n 0, estSum := k.tim.estSum.set 0 n 0 } } : Core).wr
        (Reg.TBS_P_ASYM_EST n) (satFld 32 est)).fresh
    else { k with tim := { k.tim with estN := k.tim.estN.set 0 n c, estSum := k.tim.estSum.set 0 n s } }
  else k.estClear n

/-- The multiframe overhead of a received frame; frame 0 came when its first bit did (R277). -/
def Core.mfohIn (k : Core) (n : Nat) (f : List Byte) : Core :=
  let p := k.lp n
  let v := beNat (slice f 32 8)
  match byteAt f 6 with
  | 0 => k.setLp n { p with rxT := p.rxAt, rxMf := beNat (slice f 12 4) / 256 }
  | 1 => k.setLp n { p with ptTx := v }
  | 2 => k.setLp n { p with ptRx := v }
  | 3 =>
    let k := k.setLp n { p with peerLevel := fld v 35 32 }
    let k := k.levelIn' n (fld v 35 32)
    if p.ptRx = 0 ∨ beNat (slice f 12 4) / 256 ≠ p.rxMf then k else k.roundDone n (fld v 63 40)
  | 4 => k.setLp n { p with peerSite := fld v 63 60, peerGw := fld v 59 54, peerKnown := true }
  | _ => k

def gccTypes : List Nat := [0x10, 0x11, 0x12, 0x13, 0x21, 0x22, 0x31, 0x32]

/-- A GCC message of a frame. -/
def Core.gccIn (k : Core) (g : Nat) (m : List Byte) : Core :=
  if byteAt m 0 = 0 then k
  else if gccTypes.contains (byteAt m 0) then k.setGrp g { k.grp g with gccIn := (k.grp g).gccIn ++ [(m, k.now)] }
  else k.cnt (Reg.LFR_G_GCCBAD_CNT g)

/-- Arrival of position `p`'s frame: its offset, and its place in its row. -/
def Core.rowIn (k : Core) (g p n : Nat) (f : List Byte) (er : Bool) : Core :=
  let gseq := beNat (slice f 12 4)
  let x := k.grp g
  let off : Int := ((k.lp n).rxAt / 65536 : Nat) - (frameStart (k.frameNear gseq) / 65536 : Nat)
  let late := (x.nextSeq.map (fun s => serialBefore 32 gseq s)).getD false
  let x := { x with arrT := x.arrT.set 0 p off, arrSeen := setBit x.arrSeen p true
                    peerReady := if k.pUsable n then beNat (slice f 28 2) else x.peerReady }
  let fr := (p, f, er || !k.pUsable n)
  let rows := if !k.gLive g then []
    else if late then x.rows
    else if x.rows.any (fun r => r.gseq == gseq) then
      x.rows.map (fun (r : RxRow) => if r.gseq == gseq && !r.frames.any (fun q => q.1 == p) then { r with frames := r.frames ++ [fr] } else r)
    else x.rows ++ [{ gseq := gseq, frames := [fr], t := k.now }]
  (k.setGrp g { x with rows := rows }).skewCheck g

/-- A whole frame of port `n` as received. -/
def Core.frameIn (k : Core) (n : Nat) (raw : List Byte) (er : Bool) : Core :=
  let f := scrambleFrame raw
  let p := k.lp n
  let b7 := byteAt f 7
  let gid := beNat (slice f 8 2)
  let mem := beNat (slice f 10 2) / 4096
  let g := (k.rxBind n).1
  let pos := (k.rxBind n).2
  let ais := bitAt b7 7 && gid == 0xFFFF
  let judged := p.prevBip.isSome && !ais && !p.prevAis
  let bad := judged && p.prevBip != some (beNat (slice f 18 2))
  let bdi := bitAt b7 6
  let run := fun (b : Bool) (c : Nat) => if b then c + 1 else 0
  let mis := k.pAssigned n && !ais && (gid != k.gGid g || mem != pos)
  let p := { p with
    prevBip := some (frameBip raw), prevAis := ais, errLast := bad
    winFrames := p.winFrames + 1, winErr := p.winErr + bad.toNat, secErr := p.secErr + bad.toNat
    aisRun := run ais p.aisRun, noAisRun := run (!ais) p.noAisRun
    bdiRun := if gid = 0 then p.bdiRun else run bdi p.bdiRun, noBdiRun := if gid = 0 then p.noBdiRun else run (!bdi) p.noBdiRun
    secFeErr := p.secFeErr + (bitAt b7 2 && !ais).toNat
    misconn := mis, gid := gid, member := mem }
  let k := k.setLp n p
  let k := if bad then k.cnt (Reg.LFR_P_BIP_CNT n) else k
  let k := if mis then k.cnt (Reg.LFR_P_MISCONN_CNT n) else k
  let k := if ais then k else k.mfohIn n f
  let k := k.portRefresh n
  let k := if bitAt (k.trn n) 31 then k.trnPush n f er else k
  if k.pAssigned n && !ais && !mis && !k.isOff (.group g) then
    (if bitAt (k.lp n).raw 3 then k else k.gccIn g (slice f 40 24)).rowIn g pos n f er
  else k

/-- The 100 ms intervals of corrected symbols (R354), numbered by the free-running time. -/
def LPort.corRoll (p : LPort) (t : Nat) : LPort :=
  let i := t / 100000000
  if p.corAt = i then p
  else { p with corAt := i, laneCor := {}, laneOld := if p.corAt + 1 = i then p.laneCor else {} }



def laneAdd (c : SMap Nat) (l n : Nat) : SMap Nat := c.set 0 l (satAdd 32 (c.get 0 l) n)

/-- A codeword with symbols in error (R336): up to 15 are corrected and counted, more leave it uncorrectable. -/
def Core.codeword (k : Core) (n : Nat) (c : CwErr) : Core :=
  let p := (k.lp n).corRoll k.now
  if c.syms = 0 then k
  else if c.syms ≤ 15 then
    ((k.setLp n { p with laneCor := laneAdd p.laneCor c.lane c.syms }).cum (Reg.LCD_P_CSYM_LO n) c.syms).cnt (Reg.LCD_P_CCW_CNT n)
  else
    ((k.setLp n { p with ucwSec := p.ucwSec + 1, laneUcw := laneAdd p.laneUcw c.lane 1 }).cnt (Reg.LCD_P_UCW_CNT n)).emitLimN
      (0x5800 + n) 0x0B00 0 1000000 0 32 1 [(107, 100, 2 ^ c.lane.val)]

/-- Is one of the bytes from the `x`th on before the `y`th of a FRAME_RX in a codeword that could not be corrected? Byte i
is on lane i mod 8. -/
def marked (l : List CwErr) (x y : Nat) : Bool :=
  l.any (fun c => decide (15 < c.syms) &&
    let j := max c.lo ((x + 7 - c.lane) / 8)
    decide (j ≤ c.hi) && decide (8 * j + c.lane < y))

/-- A word of a port's lane window (R354). -/
def laneRead (n : Nat) (k : Core) (w : Nat) : Nat :=
  let p := (k.lp n).corRoll k.now
  if w % 2 = 0 then p.laneOld.get 0 (w / 2) else p.laneUcw.get 0 (w / 2)

/-- The positions whose ports lost alignment are no longer READY. -/
def Core.readyRefresh (k : Core) (n : Nat) : Core :=
  let a := (k.lp n).al
  if k.pAssigned n && !(a.inIf && a.inMf) then k.unready (k.rxBind n).1 (k.rxBind n).2 else k

/-- 8,192 B of the stream of port `n` arrive, the first of them now, with the codewords in error among them. Lanes too far
apart to be deskewed give the framer no stream (DESIGN CHOICE, assumption log 119). -/
def Core.frameRxEv (k : Core) (n : Nat) (data : List Byte) (fec : List CwErr) : Core :=
  if !k.pLive n then k
  else
    let k := (fec.filter (·.first)).foldl (fun k c => k.codeword n c) k
    if !k.deskewed n then k.lineRefresh
    else
      let r := k.streamIn n data (marked fec)
      let k := match r.2 with
        | some (f, e) => (if e then r.1.cnt (Reg.LCD_P_ERASED_CNT n) else r.1).frameIn n f e
        | none => r.1
      (k.readyRefresh n).lineRefresh

/-! ### Segments received (R307 to R310, 05_collectives R128 to R130, R138) -/

/-- SEGMENT_LOST. -/
def Core.segLost (k : Core) (g gseq : Nat) : Core :=
  (k.cnt (Reg.LFR_G_SEGLOST_CNT g)).emitLim (0x5010 + g) 0x0A05 0 0 32 [(107, 105, g), (63, 32, gseq)]

/-- RXSTAGE_FULL. -/
def Core.stageFull (k : Core) (g hold : Nat) : Core :=
  (k.cnt Reg.CLE_RXDROP_CNT).emitLim 0x2110 0x0408 0 0 32 [(107, 107, hold), (103, 101, g)]

def Core.heldItems (k : Core) : Nat := (k.cle.rx.filter (·.held)).length

/-- The size code of the buffer a segment takes. -/
def stageSize (big : Bool) : Nat := if big then 3 else 2

/-- A segment of a collective arrives: from its header on it has a receive staging buffer, or is discarded. -/
def Core.stageSeg (k : Core) (g gseq pos cell ke : Nat) (h : List Byte) : Core × Option Nat :=
  let resend := bitAt (byteAt h 1) 6
  let fate := k.rxFate h
  let ctx := k.matchCtx h
  if fate = .stray then
    let dup := resend && !k.partOn (shSite h) && k.obtained h
    let k := if dup then k.cnt (Reg.LCD_G_DUP_CNT g) else k
    (if dup && shType h != tContrib then k else k.cnt Reg.CLE_STRAY_CNT, none)
  else
    let held := decide (fate = .held)
    let big := decide (65536 < shLen h)
    let full := held && decide (k.fd Reg.CLE_RXSTAGE 12 0 ≤ k.heldItems)
    let req : BufReq := { user := .rx k.cle.rxNext, owner := k.rxOwner, size := stageSize big, mem := 0, either := true }
    match (if full then none else k.servePool req) with
    | none =>
      (({ k with cle := { k.cle with refused := k.cle.refused ++
          [{ g := g, gseq := gseq, pos := pos, cell := cell, big := big, key := segKey h, t := k.now }] } } : Core).stageFull g full.toNat, none)
    | some pool =>
      let l := k.lend pool k.rxOwner
      let id := l.1.cle.rxNext
      let i : RxItem := { id := id, hdr := h, ct := [], ke := ke, g := g, gseq := gseq, pos := pos, cell := cell, ptr := some l.2
                          t := l.1.now, held := held }
      let k : Core := { l.1 with cle := { l.1.cle with rx := l.1.cle.rx ++ [i], rxNext := id + 1 } }
      (match ctx with
        | some x => k.refItem x i
        | none => k, some id)

/-- A resend ends the live request that named it (R346 step 4): the one for that segment, else the oldest for frames, whose
segments the requester cannot know (DESIGN CHOICE, assumption log 122). -/
def Core.resendIn (k : Core) (g : Nat) (h : List Byte) : Core :=
  let x := k.grp g
  if !bitAt (byteAt h 1) 6 then k
  else
    match (x.reqs.find? (fun r => !r.frames && r.key == segKey h)).orElse (fun _ => x.reqs.find? (·.frames)) with
    | some r => k.setGrp g { x with reqs := x.reqs.filter (fun q => q.id != r.id) }
    | none => k

/-- Was this message invocation already verified (R348)? -/
def Core.msgHad (k : Core) (h : List Byte) : Bool := k.fcs.had.contains (shFlow h, shBase h, shInv h)

/-- A whole message segment: decrypted under its flow's slot, or discarded (R310). -/
def Core.msgSeg (k : Core) (g gseq pos cell : Nat) (h ct : List Byte) : Core :=
  let f := shFlow h
  let live := k.isOn (.flow f) || k.fst (.flow f) == .draining
  if !live || !(k.fKind f == 1 || k.fKind f == 4) || k.fPeerSite f != shSite h then k.cnt (Reg.LFR_G_SEGFLOW_CNT g)
  else if bitAt (byteAt h 1) 6 && k.msgHad h then (k.cnt (Reg.LCD_G_DUP_CNT g)).epochArrived (k.fKeySlot f) (shKe h)
  else
    let id := k.cle.rxNext
    let i : RxItem := { id := id, hdr := h, ct := ct, ke := shKe h, g := g, gseq := gseq, pos := pos, cell := cell, t := k.now
                        asked := true, done := true }
    let k : Core := { k with cle := { k.cle with rx := k.cle.rx ++ [i], rxNext := id + 1 } }
    let r : Req :=
      { op := 2, slot := k.fKeySlot f, epoch := shKe h, owner := k.fOwner f, flow := f, use := .msgIn f (shBase h) (shInv h) id
        src := Config.freeField k.free % 2 ^ 64, dst := Config.freeField (k.free + 1) % 2 ^ 64
        aadPtr := Config.freeAadPtr (k.free + 2), aad := hdrAad h, data := ct, iv := shIv h, tag := shTag h, hdr := h, g := g }
    (((k.fresh.fresh.fresh).pushReq (8 + g) r).epochArrived (k.fKeySlot f) (shKe h)).noteItem id k.now

/-- A segment is whole. The ciphertext of one discarded by receive staging has arrived too (08_cipher R245). -/
def Core.segIn (k : Core) (g : Nat) (p : RxPart) : Core :=
  let h := p.bytes.take 64
  let ct := slice p.bytes 64 (shLen h)
  if p.drop then k.epochArrived (k.gSlot g) p.ke
  else
    let k := k.resendIn g h
    if shSite h = k.mySite then k.cnt Reg.FRT_SITE_DROP_CNT
    else if shType h = tMsg then k.msgSeg g p.gseq p.pos p.cell h ct
    else
      let k := k.epochArrived (k.gSlot g) p.ke
      match p.item with
      | none => k
      | some id =>
        let k : Core := { k with cle := { k.cle with rx := k.cle.rx.map (fun (i : RxItem) =>
          if i.id = id then { i with ct := ct, done := true } else i) } }
        match k.itemById id with
        | some i => ((k.setPsn (ptrAddr (i.ptr.getD 0)) ct.length false).noteItem id k.now).itemWhole i
        | none => k

/-- A segment partly received is lost. -/
def Core.dropPart (k : Core) (g : Nat) : Core :=
  match (k.grp g).part with
  | none => k
  | some p =>
    let k := k.setGrp g { k.grp g with part := none }
    match p.item.bind k.itemById with
    | some i => k.dropItem i
    | none => k

/-- A header at a cell: the segment's beginning. -/
def Core.startPart (k : Core) (g gseq pos cell ke : Nat) (bytes : List Byte) : Core × RxPart :=
  let h := bytes.take 64
  let total := 64 * (1 + (shLen h + 63) / 64)
  let p : RxPart := { bytes := bytes, total := total, ke := ke, gseq := gseq, pos := pos, cell := cell }
  if shType h = tMsg ∨ shSite h = k.mySite then (k, p)
  else
    let r := k.stageSeg g gseq pos cell ke h
    -- a discarded resend still answers its request
    (if r.2.isNone then r.1.resendIn g h else r.1, { p with item := r.2, drop := r.2.isNone })

/-- The cells of a frame from cell `c` on, at header boundaries. -/
def Core.parseCells (g gseq pos ke : Nat) (pay : List Byte) : Nat → Core → Nat → Core
  | 0, k, _ => k
  | n + 1, k, c =>
    if 127 ≤ c then k
    else
      let cell := slice pay (64 * c) 64
      let t := byteAt cell 0
      if t = 0 then parseCells g gseq pos ke pay n k (c + 1)
      else if 4 < t then
        -- reserved TYPE: parsing resumes at the next header a frame names
        (k.cnt (Reg.LFR_G_SEGBAD_CNT g)).setGrp g { (k.cnt (Reg.LFR_G_SEGBAD_CNT g)).grp g with skip := true }
      else
        let total := 1 + (shLen cell + 63) / 64
        let here := min total (127 - c)
        let r := k.startPart g gseq pos c ke (slice pay (64 * c) (64 * here))
        if here = total then parseCells g gseq pos ke pay n (r.1.segIn g r.2) (c + here)
        else r.1.setGrp g { r.1.grp g with part := some r.2 }

/-- A data frame of the row stream, or its loss. -/
def Core.parseFrame (k : Core) (g gseq pos : Nat) (fr : Option (Nat × Nat × List Byte)) : Core :=
  let x := k.grp g
  match fr with
  | none =>
    let k := if x.part.isSome then (k.dropPart g).segLost g gseq else k
    k.setGrp g { k.grp g with skip := true }
  | some (ke, first, pay) =>
    if x.skip then
      if 127 ≤ first then k
      else Core.parseCells g gseq pos ke pay 128 (k.setGrp g { x with skip := false }) first
    else match x.part with
      | none => Core.parseCells g gseq pos ke pay 128 k 0
      | some p =>
        let need := (p.total - p.bytes.length) / 64
        if first < 127 ∧ first < need then
          -- LEN runs past FIRST_CELL
          Core.parseCells g gseq pos ke pay 128 ((k.dropPart g).cnt (Reg.LFR_G_SEGBAD_CNT g)) first
        else
          let here := min need 127
          let p := { p with bytes := p.bytes ++ slice pay 0 (64 * here) }
          if here = need then Core.parseCells g gseq pos ke pay 128 ((k.setGrp g { x with part := none }).segIn g p) here
          else k.setGrp g { x with part := some p }

/-! ### Rows received (R310, R322, R340, R341) -/

/-- Divide byte-wise in GF(2^8). -/
def gfUnscale (d : Nat) (a : List Byte) : List Byte := gfScale (gfInv d) a

/-- The rebuilt vectors of the erased data positions, from what arrived (R341). -/
def rebuild (data : List (Nat × List Byte)) (erased : List Nat) (pv qv : Option (List Byte)) : List (Nat × List Byte) :=
  let pp := pv.map (fun v => xorBytes v (parityP data))
  let qq := qv.map (fun v => xorBytes v (parityQ data))
  match erased, pp, qq with
  | [a], some v, _ => [(a, v)]
  | [a], none, some v => [(a, gfUnscale (gfPow2 a) v)]
  | [a, b], some p, some q =>
    let db := gfUnscale (gfPow2 a ^^^ gfPow2 b) (xorBytes q (gfScale (gfPow2 a) p))
    [(a, xorBytes p db), (b, db)]
  | _, _, _ => []

/-- The earliest row held. -/
def LGroup.nextRow (x : LGroup) : Option RxRow :=
  x.rows.foldl (fun (m : Option RxRow) r => match m with
    | none => some r
    | some q => if serialBefore 32 r.gseq q.gseq then some r else m) none

/-- The members' fields of a row, and whether its usable frames disagree on them. -/
def RxRow.members (r : RxRow) : Option Nat × Bool :=
  let l := r.frames.filter (fun f => !f.2.2)
  let fields := fun (f : Nat × List Byte × Bool) => (slice f.2.1 20 8, bitAt (byteAt f.2.1 7) 3)
  match l.foldl (fun (m : Option (Nat × List Byte × Bool)) f => match m with
    | none => some f
    | some q => if f.1 < q.1 then some f else m) none with
  | none => (none, false)
  | some f => (some (beNat (slice f.2.1 20 2)), l.any (fun q => fields q != fields f))

/-- ROW_UNRECOVERED for `n` rows from `gseq` on. -/
def Core.rowLost (k : Core) (g gseq er n : Nat) : Core :=
  (k.cntN (Reg.LCD_G_UNREC_CNT g) n).emitLimN (0x5810 + g) 0x0B01 0 1000000 0 32 n [(107, 105, g), (95, 80, er), (63, 32, gseq)]

/-- `n` rows from the one expected next on of which no frame arrived are lost whole (R340); what they carried is asked for
again, at most 256 rows a request. -/
def Core.gapRows (k : Core) (g n : Nat) : Core :=
  let x := k.grp g
  match x.nextSeq with
  | none => k
  | some s =>
    let lost := x.rxSvc &&& (65535 - x.parity)
    let k := (k.setGrp g { x with nextSeq := some ((s + n) % 2 ^ 32) }).rowLost g s x.rxSvc n
    let k := if lost = 0 then k else
      (List.range ((n + 255) / 256)).foldl (fun k i => k.retryRows g ((s + 256 * i) % 2 ^ 32) (min 256 (n - 256 * i)) lost) k
    k.parseFrame g s 0 none

/-- Rows expected by now of which no frame arrived: the earliest position of each would have been here for the row's stay in
deskew and the erasure stage. -/
def Core.rowsDue (k : Core) (g : Nat) : Nat :=
  let x := k.grp g
  match x.nextSeq, (bitsOf 16 x.rxSvc).map (fun p => x.arrT.get 0 p) with
  | some s, a :: l =>
    let t : Int := (frameStart (k.frameNear s) / 65536 : Nat) + l.foldl min a + x.dcomp + 202
    if (k.gns : Int) < t then 0 else ((k.gns : Int) - t).toNat * 25 / 2048 + 1
  | _, _ => 0

/-- A row leaves deskew and the erasure stage: rebuilt or not, parsed, its losses requested again. -/
def Core.rowOut (k : Core) (g : Nat) (r : RxRow) : Core :=
  let x := k.grp g
  let k := k.setGrp g { x with rows := x.rows.filter (fun q => q.gseq != r.gseq) }
  let m := r.members
  let k := if m.2 then k.cnt (Reg.LFR_G_OHMIS_CNT g) else k
  let svc := m.1.getD x.rxSvc
  let k := k.setGrp g { k.grp g with rxSvc := svc, nextSeq := if svc = 0 then none else some ((r.gseq + 1) % 2 ^ 32)
                                     kRow := popCount 16 (svc &&& (65535 - x.parity)), mRow := popCount 16 (svc &&& x.parity) }
  let k := if svc ≠ x.rxSvc ∧ x.rxSvc ≠ 0 then k.memberEvent g 0 x.rxSvc svc r.gseq else k
  let frame := fun p => (r.frames.find? (fun f => f.1 == p && !f.2.2)).map (·.2.1)
  let vec := fun p => (frame p).map (fun f => codeVec (fld (byteAt f 7) 5 5) (byteAt f 30) (slice f 64 8128))
  let pvec := fun p => (frame p).map (fun f => [byte (byteAt f 30), byte (byteAt f 31)] ++ slice f 64 8128)
  let dp := bitsOf 16 (svc &&& (65535 - x.parity))
  let pq := bitsOf 16 (svc &&& x.parity)
  let erased := (bitsOf 16 svc).filter (fun p => (frame p).isNone)
  let lost := dp.filter (fun p => (frame p).isNone)
  let got := dp.filterMap (fun p => (vec p).map (fun v => (p, v)))
  let ok := decide (erased.length ≤ pq.length)
  let fixed := if ok then rebuild got lost (pq.head?.bind pvec) ((pq.drop 1).head?.bind pvec) else []
  let k := if ok && !lost.isEmpty then k.cnt (Reg.LCD_G_REBUILT_CNT g) else k
  let k := if ok then k else
    (let k := k.rowLost g r.gseq (erased.foldl (fun m p => setBit m p true) 0) 1
     if lost.isEmpty then k else k.retryRows g r.gseq 1 (lost.foldl (fun m p => setBit m p true) 0))
  dp.foldl (fun (k : Core) p =>
    let v := ((got ++ fixed).find? (fun q => q.1 == p)).map (·.2)
    k.parseFrame g r.gseq p (v.map (fun v => (fld (byteAt v 0) 5 5, byteAt v 1, v.drop 2)))) k

/-- The next row of a group: the earliest held one when its stay is over, after the rows before it that never came; or the
rows that are overdue. -/
def Core.rowEv (k : Core) (g : Nat) : Core :=
  let x := k.grp g
  let gapTo := fun (r : RxRow) => (x.nextSeq.map (fun s => (r.gseq + 2 ^ 32 - s) % 2 ^ 32)).getD 0
  if !k.gLive g then k
  else match x.nextRow with
    | some r =>
      if r.t + x.dcomp + 202 ≤ k.now then (if gapTo r = 0 then k else k.gapRows g (gapTo r)).rowOut g r
      else if 0 < min (k.rowsDue g) (gapTo r) then k.gapRows g (min (k.rowsDue g) (gapTo r)) else k
    | none => if 0 < k.rowsDue g then k.gapRows g (k.rowsDue g) else k

/-! ### GCC head, retry requests (R327, 12_line_coding_retry R345 to R347) -/

def Core.gccHeadEv (k : Core) (g : Nat) : Core :=
  let x := k.grp g
  if !x.gcc.isEmpty && x.gccCopy == 0 && decide (x.gccT + 10000000 ≤ k.now) then
    (k.setGrp g { x with gcc := x.gcc.drop 1, gccT := k.now }).cnt (Reg.LFR_G_GCCDROP_CNT g)
  else k

/-- A request given up also counts against the peer's score (13_optics R375). -/
def Core.giveUp (k : Core) (g : Nat) (r : RReq) (why reason : Nat) : Core :=
  let k := k.retryGiveUp g r why reason
  { k with opc := { k.opc with peers := k.opc.peers.map (fun (p : Peer) => if p.site = k.gPeer g then { p with giveups := p.giveups + 1 } else p) } }

def Core.retryTimeEv (k : Core) (g id : Nat) : Core :=
  let x := k.grp g
  match x.reqs.find? (fun r => r.id == id) with
  | none => k
  | some r =>
    if k.now < r.t then k
    else if k.fd Reg.LCD_RETRY 15 12 ≤ r.tries then k.giveUp g r 1 0
    else (k.setGrp g { x with reqs := x.reqs.filter (fun q => q.id != id) }).retrySend g r



/-- Copies older than EFF (R343). -/
def Core.copyOld (k : Core) (c : RCopy) : Bool := decide (c.t + k.retryEff < k.now)

/-- A request of the peer, acted on once per REQ_ID in 10 ms; `pick` names its copies, `cellReq` a request for one
segment. -/
def Core.serveReq (k : Core) (g : Nat) (m : List Byte) (pick : RCopy → Bool) (cellReq : Bool) : Core :=
  let id := beNat (slice m 2 2)
  let gseq := beNat (slice m 4 4)
  let x := k.grp g
  let seen := x.seenReq.filter (fun s => decide (k.now < s.2 + 10000000))
  if seen.any (fun s => s.1 == id) || !k.gLive g then k
  else
    let x := { x with seenReq := seen ++ [(id, k.now)], copies := x.copies.filter (fun c => !k.copyOld c) }
    let k := k.setGrp g x
    let hit := x.copies.filter pick
    let live := hit.filter (fun c => !c.gone)
    let age := (k.gns : Int) - (frameStart (k.frameNear gseq) / 65536 : Nat)
    if live.isEmpty then
      if hit.any (·.gone) then k.retryGone g id gseq 2
      else if (k.retryEff : Int) < age then k.retryGone g id gseq 1
      else if cellReq then k.retryGone g id gseq 3
      else k
    else if 4096 < x.resend.length + live.length then k.retryGone g id gseq 4
    else k.setGrp g { x with resend := x.resend ++ live.map (fun c => { seg := c.seg, id := id, gseq := gseq, t := c.t }) }

def Core.framesReqEv (k : Core) (g : Nat) : Core :=
  match k.gccHead g [0x10] with
  | none => k
  | some (m, k) =>
    let s := beNat (slice m 4 4)
    let rows := beNat (slice m 8 2)
    let mask := beNat (slice m 10 2)
    k.serveReq g m (fun c => c.frames.any (fun f =>
      decide ((f.1 + 2 ^ 32 - s) % 2 ^ 32 < rows) && bitAt mask f.2)) false

def Core.segReqEv (k : Core) (g : Nat) : Core :=
  match k.gccHead g [0x11] with
  | none => k
  | some (m, k) =>
    k.serveReq g m (fun c => c.gseq == beNat (slice m 4 4) && c.pos == byteAt m 8 % 16 && c.cell == byteAt m 9 % 128) true

def Core.goneEv (k : Core) (g : Nat) : Core :=
  match k.gccHead g [0x12] with
  | none => k
  | some (m, k) =>
    let k := k.cnt (Reg.LCD_G_GONE_CNT g)
    match (k.grp g).reqs.find? (fun r => r.id == beNat (slice m 2 2)) with
    | some r => k.giveUp g r 2 (byteAt m 8)
    | none => k

/-- Copies past EFF are discarded; a segment queued for resend whose copy is past EFF is dropped, its request answered. -/
def Core.copyEv (k : Core) (g : Nat) : Core :=
  let x := k.grp g
  ((k.setGrp g { x with copies := x.copies.filter (fun c => !k.copyOld c) }).resendOld g).groupDrainChk g

/-! ### Receive staging asks again (05_collectives R130) -/

/-- The first refused segment whose size has a free buffer is asked for again, unless its window has passed. -/
def Core.rerequestEv (k : Core) : Core :=
  match k.cle.refused with
  | [] => k
  | r :: rest =>
    let k1 : Core := { k with cle := { k.cle with refused := rest } }
    if r.t + k.retryEff < k.now then k1
    else
      let req : BufReq := { user := .rx 0, owner := k.rxOwner, size := stageSize r.big, mem := 0, either := true }
      if (k.servePool req).isSome ∧ k.heldItems < k.fd Reg.CLE_RXSTAGE 12 0 then k1.retrySegment r.g r.gseq r.pos r.cell r.key
      else k

/-! ### Registers (R330, R331, 12_line_coding_retry R354 to R356, 14_sites R401) -/

/-- LFR_Gg_STAT, SVC, READY. -/
def Core.groupStat (k : Core) (g : Nat) : Nat :=
  let f := k.fn (.group g)
  let x := k.grp g
  args [(31, 29, f.fst.code), (28, 28, f.pend.toNat), (27, 27, (x.chg.isSome || x.addWait.isSome).toNat), (26, 26, fld x.sigRaw 0 0),
    (25, 25, fld x.sigRaw 1 1), (24, 24, fld x.sigDecl 0 0), (23, 23, fld x.sigDecl 1 1), (7, 0, k.fd (Reg.LFR_G_STAT g) 7 0)]

/-- A write of a register of group `g`. -/
def Core.groupWrite (k : Core) (g a v : Nat) : Core × Nat :=
  if a = Reg.LFR_G_CTRL g then k.groupCmd g (bitAt v 0)
  else if a = Reg.LFR_G_CMD g then k.memberCmd g (fld v 31 28) (fld v 3 0)
  else if a = Reg.LFR_G_ADDTMO g then k.rw a v
  else if k.isOff (.group g) then
    -- reserved bits are held for the check of ENABLE
    (if a = Reg.LFR_G_CFG g ∧ (fld v 11 7 = 0 ∨ 16 < fld v 11 7) then (k, stRange)
     else if a = Reg.LFR_G_CFG g ∨ a = Reg.LFR_G_PARITY g then (k.wr a v, stOk) else k.rw a v)
  else if a = Reg.LFR_G_MEMBERS g ∧ k.isOn (.group g) then
    let x := k.grp g
    let svc := x.inSvc ||| x.rxSvc
    let c := fld v 31 16
    if fld v 15 0 = k.gInitReg g ∧ ((c ^^^ k.gConfig g) &&& svc) = 0 then (k.wr a v, stOk) else (k, stBusy)
  else (k, stBusy)

/-- LFR_TRN_Pnn. -/
def Core.trnWrite (k : Core) (n v : Nat) : Core × Nat :=
  let o := fld v 27 24
  let old := k.trnOut n
  if !(k.isOff (.linePort n) && k.isOff (.linePort o) && (!bitAt (k.trn n) 31 || k.isOff (.linePort old))) then (k, stBusy)
  else if bitAt v 31 && (List.range 16).any (fun m => m != n && bitAt (k.trn m) 31 && k.trnOut m == o) then (k, stRange)
  else (k.wr (Reg.LFR_TRN_P n) (args [(31, 31, fld v 31 31), (27, 24, o), (15, 0, k.fd (Reg.LFR_TRN_P n) 15 0)]), stOk)

/-- A write of an LCD group register: the fall-back candidates. -/
def Core.lcdGroupWrite (k : Core) (g a v : Nat) : Core × Nat :=
  let off := a - Reg.LCD_G_FB0_W0 g
  let i := off / 8
  if !k.isOff (.group g) then (k, stBusy)
  else if off % 8 = 4 ∧ bitAt v 31 ∧ k.initCheck g (k.fbInit g i) (k.fbPar g i) ≠ stOk then (k, stRange)
  else k.rw a v

/-- LCD_RETRY. -/
def Core.retryWrite (k : Core) (v : Nat) : Core × Nat :=
  if (List.range 8).all (fun g => k.isOff (.group g)) then k.rw Reg.LCD_RETRY v else (k, stBusy)

/-- A member delay word (R330). -/
def mdlRead (g : Nat) (k : Core) (p : Nat) : Nat :=
  let x := k.grp g
  if bitAt x.arrSeen p then args [(31, 31, (bitAt x.hbm p).toNat), (30, 0, k.diffDelay g p)] else 0

end Sys2Proof.Machine
end

