-- ==== Sys2Proof/Machine/Optics.lean ====
section
/-!
DEFINITION. Optics control and health (13_optics R358 to R369, R374 to R383): modules, fade tracking, margin messages, spare
insertion, scores, expulsion, laser safe and module access. Hops (R370 to R373) stand in Machine/Timetable.lean. A module is Ready
in the module state 3 (CMIS, PRESUMED; assumption log 14).
-/

namespace Sys2Proof.Machine

/-! ### Modules (R360, R362) -/

def Optic.ready (o : Optic) : Bool := o.present && o.mstate == 3

/-- MODULE_STATE. -/
def Core.moduleEvent (k : Core) (n old st : Nat) : Core :=
  let o := k.optic n
  k.emit (0x6000 + n) 0x0C00 [(107, 107, o.present.toNat), (106, 104, o.mstate), (103, 101, old), (95, 88, o.ident), (7, 0, st)]

/-- The media Rx LOS flag, passed to the port framer. -/
def Core.setModLos (k : Core) (n : Nat) (b : Bool) : Core := k.setLp n { k.lp n with modLos := b, modT := if (k.lp n).modLos = b then (k.lp n).modT else k.now }

/-- An access that was not acknowledged: the third in a row removes the module, and its transmitter stays disabled until the
port's next ENABLE (R362). -/
def Core.noAck (k : Core) (n : Nat) : Core :=
  let o := k.optic n
  let k := k.cnt Reg.OPC_I2C_ERR_CNT
  if !o.present then k
  else if 2 ≤ o.noAck then
    let k := k.setOptic n { o with present := false, mstate := 0, noAck := 0, read := false, baseRun := false, txdis := true }
    (k.moduleEvent n o.mstate stTimeout).setModLos n true
  else k.setOptic n { o with noAck := o.noAck + 1 }

/-- OPT_INT_N asserted: the flags are read. -/
def Core.moduleIntEv (k : Core) (n : Nat) (acked rxLos : Bool) : Core :=
  let o := k.optic n
  if !o.present then k
  else if acked then ((k.setOptic n { o with noAck := 0 }).setModLos n rxLos).lineRefresh
  else (k.noAck n).lineRefresh

/-- The poll of a port without a module. -/
def Core.modulePollEv (k : Core) (n : Nat) (answers : Bool) : Core :=
  let o := k.optic n
  if o.present then k
  else if answers then k.setOptic n { o with present := true, mstate := 0, noAck := 0, txdis := true }
  else k.cnt Reg.OPC_I2C_ERR_CNT

/-- A bring-up ends: what the module is, or why it is not usable; no identifier, no answer. -/
def Core.bringupEv (k : Core) (n : Nat) (r : BringUp) : Core :=
  let o := k.optic n
  let ok := decide (r.status = stOk)
  let here := ok || decide (r.ident ≠ 0)
  let o' : Optic := { o with
    present := here, mstate := if here then r.mstate % 8 else 0, ident := r.ident % 256, noAck := 0
    hopCap := ok && r.hopSig, entries := r.entries, vdm := ok && r.vdm, read := false
    baseSum := (0, 0), baseN := 0, baseRun := ok, base := none }
  let k := (k.setOptic n o').moduleEvent n o.mstate r.status
  if ok then (k.setModLos n false).lineRefresh else k

/-! ### Fits (R364) -/

/-- The least-squares slope of M against time, as a fraction (0.01 decade per ns). -/
def fitSlope (l : List (Nat × Int)) : Option (Int × Int) :=
  match l.getLast? with
  | none => none
  | some (t0, _) =>
    let n : Int := l.length
    let s := l.foldl (fun (a : Int × Int × Int × Int) p =>
      let t : Int := (p.1 : Int) - t0
      (a.1 + t, a.2.1 + p.2, a.2.2.1 + t * t, a.2.2.2 + t * p.2)) (0, 0, 0, 0)
    let den := n * s.2.2.1 - s.1 * s.1
    if den = 0 then none else some (n * s.2.2.2 - s.1 * s.2.1, den)

/-- A projection: time in ns as a fraction with a positive denominator, and its slope. -/
structure Proj where
  num : Int
  den : Int
  sNum : Int
  sDen : Int
deriving DecidableEq, Repr

/-- The projection of one fit: M above the SD margin over the fall of M; none without a fall. -/
def projOf (m sd : Int) (l : List (Nat × Int)) (need : Nat) : Option Proj :=
  if l.length < need then none
  else match fitSlope (l.take need) with
    | some (n, d) => if n < 0 then some { num := (m - sd) * d, den := -n, sNum := n, sDen := d } else none
    | none => none

def projMin (a b : Option Proj) : Option Proj :=
  match a, b with
  | some p, some q => if q.num * p.den < p.num * q.den then some q else some p
  | some p, none => some p
  | none, q => q

/-- A quotient that a register rounds; the spec does not say how, so up or down is free. -/
def Core.roundFree (k : Core) (num den : Int) : Int :=
  if num % den = 0 then num / den else num / den + Config.freeRound k.free num % 2

/-! ### Fade state (R365) -/

/-- ADD time of R325 in ns: 9 multiframes and the group's receive delay; a position not ready waits up to ADDTMO. -/
def Core.addTime (k : Core) (g : Nat) (ready : Bool) : Nat :=
  188744 + k.rxDelay g + (if ready then 0 else 1000000 * k.fd (Reg.LFR_G_ADDTMO g) 15 0)

/-- ΔB of 20 % or ΔP of 1.0 dB, against the baseline (R366, R367). -/
def Core.worn (k : Core) (n : Nat) : Bool :=
  match (k.optic n).base with
  | none => false
  | some (sb, sp) =>
    let b := 600 * k.fd (Reg.OPC_P_MON0 n) 31 16
    let p := 600 * k.fd (Reg.OPC_P_MON0 n) 15 0
    decide (sb < b ∧ 12 * sb ≤ 10 * b) || decide (0 < sp ∧ 10 * p ^ 10 ≤ sp ^ 10)

/-- The running class of a position at this end (R367): 3 FAIL, 2 MARGINAL, 0 UNKNOWN, 1 PASS. -/
def Core.runClass (k : Core) (g p : Nat) : Nat :=
  match k.portAt g p with
  | none => 0
  | some n =>
    let o := k.optic n
    if o.expelled then 3 else if o.fade ≠ 0 ∨ k.worn n then 2 else if !o.read then 0 else 1

/-- The class the peer sent last. -/
def Core.peerClass (k : Core) (g p : Nat) : Nat :=
  match (k.grp g).peerMargin with
  | some w => fld w (2 * p + 1) (2 * p)
  | none => 0

/-! ### Spares (R368, R369) -/

/-- A position in a hop waits for the end of its receive guard window (R380). -/
def Core.hopBusy (k : Core) (g p : Nat) : Bool := ((k.portAt g p).map (fun n => (k.optic n).hop != .idle)).getD false

def Core.isSpare (k : Core) (g p q : Nat) : Bool :=
  let x := k.grp g
  bitAt (k.gConfig g) q && !bitAt x.inSvc q && (bitAt x.parity q == bitAt x.parity p) &&
    ((k.portAt g q).map (fun n => k.isOn (.linePort n) && !(k.optic n).expelled && decide (700 ≤ (k.optic n).score))).getD false &&
    k.runClass g q == 1 && k.peerClass g q == 1

/-- The spare for position `p`: one ready at the peer first, then the lowest. -/
def Core.spareFor (k : Core) (g p : Nat) : Option Nat :=
  let l := (List.range 16).filter (k.isSpare g p)
  match l.find? (fun q => bitAt (k.grp g).peerReady q) with
  | some q => some q
  | none => l.head?

/-- T_ADD of a port in ns: the next sample, and the ADD of its best spare, or of a ready position. -/
def Core.tAdd (k : Core) (n : Nat) : Nat :=
  let g := k.pGroup n
  100000000 + (if !k.pAssigned n then 188744
    else match k.spareFor g (k.pPos n) with
      | some q => k.addTime g (bitAt (k.grp g).peerReady q)
      | none => k.addTime g true)

/-- Does a position in service want a spare, or its removal? -/
def Core.wants (k : Core) (g p : Nat) : Bool :=
  let a := k.runClass g p
  let b := k.peerClass g p
  bitAt (k.grp g).inSvc p && !k.hopBusy g p && (a == 2 || a == 3 || b == 2 || b == 3)

/-- The lowest position that wants a spare is served: ADD of the spare; REMOVE of a position that FAILs at the peer, or
here without a spare; without a spare SPARE_INSERTED with 0xF, once. `spareFor` (f, 16): logged so. -/
def Core.spareAct (k : Core) (g : Nat) : Core :=
  let x := k.grp g
  if !k.isOn (.group g) || (x.spareFor.map (fun s => decide (s.2 < 16))).getD false then k
  else match (List.range 16).find? (k.wants g) with
    | none => if x.spareFor.isSome then k.setGrp g { x with spareFor := none } else k
    | some p =>
      let busy := fun (k : Core) => k.setGrp g { k.grp g with spareRetryT := k.now + 1 }
      if k.peerClass g p = 3 then
        let r := k.groupRemove g p
        if r.2 = stBusy then busy r.1 else r.1
      else match k.spareFor g p with
        | some q =>
          let r := k.groupAdd g q
          if r.2 = stOk then r.1.setGrp g { r.1.grp g with spareFor := some (p, q), spareRetryT := 0 }
          else if r.2 = stBusy then busy r.1 else r.1
        | none =>
          if k.runClass g p = 3 then
            let r := k.groupRemove g p
            if r.2 = stBusy then busy r.1 else r.1
          else if x.spareFor = some (p, 16) then k
          else ((k.setGrp g { x with spareFor := some (p, 16) }).spareEvent g p 15 (Config.freeField k.free % 19)).fresh

/-- The retry of an ADD that found the group busy, each 1 s. -/
def Core.spareRetryEv (k : Core) (g : Nat) : Core :=
  let x := k.grp g
  if x.spareRetryT ≠ 0 ∧ x.spareRetryT - 1 + 1000000000 ≤ k.now then (k.setGrp g { x with spareRetryT := 0 }).spareAct g else k

/-! ### Samples (R363 to R366) -/

/-- Fade states after a sample. -/
def Core.fadeNext (k : Core) (n : Nat) (pr : Option Proj) : Optic :=
  let o := k.optic n
  let sum10 := (o.hist.take 10).foldl (fun (a : Int) p => a + p.2) 0
  let adv := 100 * (k.fd Reg.OPC_FADE 31 24 : Int)
  let ten := decide (10 ≤ o.hist.length)
  let setA := ten && decide (sum10 ≤ adv)
  let clrA := ten && decide (adv + 100 * (k.fd Reg.OPC_FADE 15 8 : Int) ≤ sum10)
  let tAdd : Int := k.tAdd n
  let setP := match pr with
    | some p => decide (p.num < 3 * tAdd * p.den)
    | none => false
  let clrP := match pr with
    | some p => decide (30 * tAdd * p.den ≤ p.num)
    | none => true
  let mark := fun (c : Bool) (t : Nat) => if c then (if t = 0 then k.now + 1 else t) else 0
  let a := mark clrA o.advClear
  let p := mark clrP o.projClear
  let long := fun (t : Nat) => decide (t ≠ 0 ∧ t - 1 + 60000000000 ≤ k.now)
  let f := if setA then setBit o.fade 0 true else if long a then setBit o.fade 0 false else o.fade
  let f := if setP then setBit f 1 true else if long p then setBit f 1 false else f
  { o with advClear := a, projClear := p, fade := f }

/-- The baseline: 600 samples summed. -/
def Core.baseSample (k : Core) (n b p : Nat) : Core :=
  let o := k.optic n
  if !o.baseRun then k
  else
    let s := (o.baseSum.1 + b, o.baseSum.2 + p)
    if o.baseN + 1 < 600 then k.setOptic n { o with baseSum := s, baseN := o.baseN + 1 }
    else
      let w := args [(31, 16, (k.roundFree s.1 600).toNat), (15, 0, (k.roundFree s.2 600).toNat)]
      ((k.setOptic n { o with baseSum := (0, 0), baseN := 0, baseRun := false, base := some s }).wr (Reg.OPC_P_BASE n) w).fresh

/-- TTSD in 10 ms, and the slope in 0.001 decade per s; without a projection the slope has no stated value. -/
def Core.trendWord (k : Core) (pr : Option Proj) : Nat :=
  match pr with
  | some p => args [(31, 16, satFld 16 (k.roundFree (p.sNum * 10000000000) p.sDen)),
      (15, 0, (max 0 (min 0xFFFE (k.roundFree p.num (p.den * 10000000)))).toNat)]
  | none => args [(31, 16, toFld 16 (Config.freeRound k.free 0)), (15, 0, 0xFFFF)]

/-- Is a sample discarded: raw LOS, or inside the receive guard window (R363)? -/
def Core.sampleOff (k : Core) (n : Nat) : Bool :=
  let o := k.optic n
  bitAt (k.lp n).eff 0 || o.hop == .window

/-- A reading of port `n`. -/
def Core.fadeEv (k : Core) (n : Nat) (r : OptRead) : Core :=
  let o := k.optic n
  if !o.ready then k
  else if k.sampleOff n then (if bitAt (k.lp n).eff 0 then k.setOptic n { o with read := false } else k)
  else
    let k := (k.wr (Reg.OPC_P_MON0 n) (args [(31, 16, r.txBias), (15, 0, r.txPwr)])).baseSample n (r.txBias % 65536) (r.txPwr % 65536)
    if !o.vdm then k.wr (Reg.OPC_P_MON1 n) (args [(31, 16, r.rxPwr)])
    else
      let k := (k.wr (Reg.OPC_P_MON1 n) (args [(31, 16, r.rxPwr), (15, 0, r.osnr)])).wr (Reg.OPC_P_MON2 n)
        (args [(31, 16, toFld 16 r.margin), (15, 0, r.berNlog)])
      let o := k.optic n
      let win := 100 * k.fd Reg.OPC_FADE 7 0
      let h := ((k.now, r.margin) :: o.hist).take (max 10 win)
      let k := k.setOptic n { o with hist := h, read := true }
      let sd : Int := 10 * k.fd Reg.OPC_FADE 23 16
      let pr := projMin (projOf r.margin sd h win) (projOf r.margin sd h 4)
      let w := k.trendWord pr
      let o' := k.fadeNext n pr
      let k := ((k.setOptic n o').wr (Reg.OPC_P_TREND n) w).fresh
      let k := if o'.fade = o.fade then k else
        k.emit (0x6000 + n) 0x0C01 [(107, 106, o'.fade), (105, 90, toFld 16 r.margin), (15, 0, fld w 15 0)]
      if k.pAssigned n then k.spareAct (k.pGroup n) else k

/-! ### MARGIN (R352, R367) -/

/-- Ports ON that receive from a peer gateway. -/
def Core.peerPorts (k : Core) (site gw : Nat) : List Nat :=
  (List.range 16).filter (fun n => k.isOn (.linePort n) && (k.lp n).peerKnown && (k.lp n).peerSite == site && (k.lp n).peerGw == gw)

/-- MARGIN of a group: repeated in STARTING while none is queued; in ON when a class changed, or each 1 s while a class is
MARGINAL or FAIL. -/
def Core.marginSendEv (k : Core) (g : Nat) : Core :=
  let x := k.grp g
  match k.fst (.group g) with
  | .starting =>
    if x.gcc.isEmpty then
      let k := k.gccSend g (marginMsg (k.classWord g (k.ownClass g)))
      k.setGrp g { k.grp g with marginT := k.now }
    else k
  | .on =>
    let w := k.classWord g (k.runClass g)
    let bad := (List.range 16).any (fun p => decide (2 ≤ fld w (2 * p + 1) (2 * p)))
    if w ≠ x.ownMargin ∨ (bad = true ∧ x.marginT + 1000000000 ≤ k.now) then
      let k := k.gccSend g (marginMsg w)
      k.setGrp g { k.grp g with marginT := k.now, ownMargin := w }
    else k
  | _ => k

/-- Is the peer gateway that group `g` receives from expelled (R379)? -/
def Core.peerOut (k : Core) (g : Nat) : Bool :=
  k.opc.peers.any (fun (p : Peer) => p.expelled && (k.peerPorts p.site p.gw).any (fun n => (k.groupPorts g).contains n))

/-- A MARGIN of the peer arrives; an expelled peer's is ignored. -/
def Core.marginRxEv (k : Core) (g : Nat) : Core :=
  match k.gccHead g [0x13] with
  | none => k
  | some (m, k) =>
    if k.peerOut g then k
    else (k.setGrp g { k.grp g with peerMargin := some (beNat (slice m 4 4)) }).spareAct g

/-! ### Scores (R374, R375) -/

/-- Binary digits of log2 of x / 2^64, x from 2^64 to below 2^65, by squaring. -/
def log2Bits : Nat → Nat → Nat → Nat
  | 0, _, a => a
  | n + 1, x, a =>
    let y := x * x / 2 ^ 64
    if 2 ^ 65 ≤ y then log2Bits n (y / 2) (2 * a + 1) else log2Bits n y (2 * a)

/-- 1000 x log10 (a / b) for a ≥ b > 0, in units of 2^-40, to within 2^-30. -/
def milliLog (a b : Nat) : Nat :=
  let x := a * 2 ^ 64 / b
  let e := Nat.log2 x - 64
  let l := e * 2 ^ 48 + log2Bits 48 (x / 2 ^ e) 0
  l * 5553023288523357132 * 1000 / 2 ^ 72

/-- P_L. -/
def Core.wearTerm (k : Core) (n : Nat) : Nat :=
  match (k.optic n).base with
  | none => 0
  | some (sb, sp) =>
    let b := 600 * k.fd (Reg.OPC_P_MON0 n) 31 16
    let p := 600 * k.fd (Reg.OPC_P_MON0 n) 15 0
    if (sb = 0 ∧ 0 < b) ∨ (p = 0 ∧ 0 < sp) then 100
    else
      -- 10 x (ΔB - 10) and 100 x (ΔP - 0.5), in units of 2^-40
      let x := if sb = 0 then 0 else (1000 * b - 1100 * sb) * 2 ^ 40 / sb
      let y := if p = 0 ∨ sp ≤ p then 0 else milliLog sp p - 50 * 2 ^ 40
      min 100 ((x + y) / 2 ^ 40)

/-- H of a port. -/
def Core.rawScore (k : Core) (n : Nat) : Nat :=
  let o := k.optic n
  let m := signed 16 (k.fd (Reg.OPC_P_MON2 n) 31 16)
  let pm := if !o.read ∨ m ≤ 0 then 400 else if 200 ≤ m then 0 else (400 - 2 * m).toNat
  let raw := (k.lp n).hsRaw
  let pd := if raw &&& 0x8F ≠ 0 then 400 else if raw &&& 0x50 ≠ 0 then 150 else 0
  1000 - (pm + pd + min 200 (20 * (k.lp n).ucwSec) + k.wearTerm n)

/-- BELOW of R376: from a fall below THR to THR + 50. -/
def belowNext (run : Bool) (below thr s : Nat) : Bool × Nat :=
  if run then (if thr + 50 ≤ s then (false, 0) else (true, min 0xFFFF (below + 1)))
  else if s < thr then (true, 0) else (false, 0)

/-- How long a score stays at 700 or above: its start + 1. -/
def Core.goodSince (k : Core) (s t : Nat) : Nat := if 700 ≤ s then (if t = 0 then k.now + 1 else t) else 0

def Core.goodLong (k : Core) (t : Nat) : Bool := decide (t ≠ 0 ∧ t - 1 + 600000000000 ≤ k.now)

def Core.thr (k : Core) : Nat := k.fd Reg.OPC_EXP 9 0

/-- The second's score of a port. -/
def Core.scorePort (k : Core) (n : Nat) : Core :=
  let o := k.optic n
  let s := (7 * o.score + k.rawScore n) / 8
  let b := belowNext o.belowRun o.below k.thr s
  let t := k.goodSince s o.goodT
  let p := k.lp n
  (k.setLp n { p with hsRaw := p.eff, ucwSec := 0 }).setOptic n { o with
    score := s, belowRun := b.1, below := b.2, goodT := t, expelled := o.expelled && !k.goodLong t
    belowT := if s < k.thr ∧ k.thr ≤ o.score then k.now else o.belowT }

/-- Peers heard of. -/
def Core.learnPeers (k : Core) : Core :=
  (List.range 16).foldl (fun (k : Core) n =>
    let p := k.lp n
    if k.isOn (.linePort n) && p.peerKnown && !k.opc.peers.any (fun (q : Peer) => q.site == p.peerSite && q.gw == p.peerGw) then
      { k with opc := { k.opc with peers := k.opc.peers ++ [{ site := p.peerSite, gw := p.peerGw }] } }
    else k) k

/-- The second's score of a peer, from the scores of its `n` ports that sum to `sum`. -/
def Peer.next (p : Peer) (n sum : Nat) : Nat :=
  let a := min (3000 * n) (3 * (1000 * n - sum))
  let pen := a + 10 * n * ((if p.alarm then 300 else 0) + min 400 (100 * p.giveups))
  (70 * n * p.score + (10000 * n - pen)) / (80 * n)

def Core.scorePeer (k : Core) (p : Peer) : Peer :=
  let l := k.peerPorts p.site p.gw
  if l.isEmpty then { p with alarm := false, giveups := 0 }
  else
    let s := p.next l.length ((l.map (fun n => (k.optic n).score)).foldl (· + ·) 0)
    let b := belowNext p.belowRun p.below k.thr s
    let t := k.goodSince s p.goodT
    { p with score := s, belowRun := b.1, below := b.2, goodT := t, expelled := p.expelled && !k.goodLong t, alarm := false, giveups := 0 }

/-! ### Common cause and expulsion (R376 to R380) -/

def Core.belowMask (k : Core) (g : Nat) : Nat :=
  (k.groupPorts g).foldl (fun m n => if k.isOn (.linePort n) && decide ((k.optic n).score < k.thr) then setBit m (k.pPos n) true else m) 0

def Core.suspended (k : Core) (g : Nat) : Bool := bitAt k.opc.susp g

/-- COMMON_CAUSE. -/
def Core.causeEvent (k : Core) (g on : Nat) : Core :=
  k.emit 0x67FF 0x0C05 [(107, 105, g), (104, 104, on), (15, 0, k.belowMask g)]

/-- The suspension of a group begins or ends (R378). -/
def Core.commonCause (k : Core) (g : Nat) : Core :=
  let n := k.fd Reg.OPC_EXP2 11 8
  let w := 1000000000 * k.fd Reg.OPC_EXP2 7 0
  let low := (k.groupPorts g).filter (fun p => k.isOn (.linePort p) && decide ((k.optic p).score < k.thr))
  let ts := low.map (fun p => (k.optic p).belowT)
  let many := ts.any (fun t => decide (n ≤ (ts.filter (fun u => decide (t ≤ u ∧ u ≤ t + w))).length))
  if k.suspended g then
    if n ≤ low.length then { k with opc := { k.opc with suspT := k.opc.suspT.set 0 g 0 } }
    else
      let t := k.opc.suspT.get 0 g
      if t = 0 then { k with opc := { k.opc with suspT := k.opc.suspT.set 0 g (k.now + 1) } }
      else if t - 1 + 60000000000 ≤ k.now then
        ({ k with opc := { k.opc with susp := setBit k.opc.susp g false, suspT := k.opc.suspT.set 0 g 0 } } : Core).causeEvent g 0
      else k
  else if many then ({ k with opc := { k.opc with susp := setBit k.opc.susp g true, suspT := k.opc.suspT.set 0 g 0 } } : Core).causeEvent g 1
  else k

/-- Expulsions of the window. -/
def Core.usedExp (k : Core) (g : Nat) : Nat :=
  ((k.opc.expels.get [] g).filter (fun t => decide (k.now < t + 60000000000 * k.fd Reg.OPC_EXP2 31 16))).length

def Core.budgetLeft (k : Core) (g : Nat) : Bool := decide (k.usedExp g < k.fd Reg.OPC_EXP 23 20)

def Core.chargeExp (k : Core) (g : Nat) : Core :=
  { k with opc := { k.opc with expels := k.opc.expels.upd [] g (· ++ [k.now]) } }

/-- Why a due port stays: 1 budget, 2 common cause, 3 MIN_DATA; 0 it may go. -/
def Core.keepWhy (k : Core) (g p : Nat) : Nat :=
  let x := k.grp g
  let left := setBit x.inSvc p false
  if !k.budgetLeft g then 1 else if k.suspended g then 2
  else if bitAt x.parity p || decide (k.gMinData g ≤ popCount 16 (left &&& (65535 - x.parity))) then 0 else 3

/-- A due port is expelled, or WOULD_EXPEL says why not, once an hour. -/
def Core.duePort (k : Core) (g n : Nat) : Core :=
  let o := k.optic n
  let p := k.pPos n
  let why := k.keepWhy g p
  if why = 0 then
    let k := ((k.setOptic n { o with expelled := true, goodT := 0 }).chargeExp g).cnt Reg.OPC_EXPEL_CNT
    (k.emit 0x67FF 0x0C03 [(106, 104, g), (103, 100, p), (9, 0, o.score)]).spareAct g
  else if o.wouldT ≠ 0 ∧ k.now < o.wouldT - 1 + 3600000000000 then k
  else ((k.setOptic n { o with wouldT := k.now + 1 }).cnt Reg.OPC_WOULD_CNT).emit 0x67FF 0x0C04
    [(107, 105, g), (104, 101, p), (100, 99, why), (9, 0, o.score)]

def Core.isDue (k : Core) (n : Nat) : Bool :=
  let o := k.optic n
  k.isOn (.linePort n) && o.belowRun && decide (k.fd Reg.OPC_EXP 31 24 ≤ o.below) && !o.expelled && o.hop == .idle

/-- Due ports of a group, lower position first. -/
def Core.dueGroup (k : Core) (g : Nat) : Core :=
  (List.range 16).foldl (fun (k : Core) p => match k.portAt g p with
    | some n => if k.isDue n then k.duePort g n else k
    | none => k) k

/-- A due peer is charged to every group toward it. -/
def Core.duePeer (k : Core) (p : Peer) : Core :=
  let gs := (List.range 8).filter (fun g => !k.isOff (.group g) && k.gPeer g == p.site)
  if p.belowRun && decide (k.fd Reg.OPC_EXP 31 24 ≤ p.below) && !p.expelled && !gs.isEmpty &&
      gs.all (fun g => k.budgetLeft g && !k.suspended g) then
    let k := gs.foldl (fun (k : Core) g => k.chargeExp g) k
    let k : Core := { k with opc := { k.opc with peers := k.opc.peers.map (fun (q : Peer) =>
      if q.site = p.site ∧ q.gw = p.gw then { q with expelled := true, goodT := 0 } else q) } }
    (k.cnt Reg.OPC_EXPEL_CNT).emit 0x67FF 0x0C03
      [(107, 107, 1), (106, 104, gs.headD 0), (103, 100, p.site), (99, 94, p.gw), (9, 0, p.score)]
  else k

/-- A second of global time: scores, suspensions, expulsions. -/
def Core.healthEv (k : Core) : Core :=
  let s := k.gns / 1000000000
  if s < k.opc.hsSec then k
  else
    let k : Core := { k with opc := { k.opc with hsSec := s + 1 } }
    let k := ((List.range 16).filter (fun n => k.isOn (.linePort n))).foldl (fun (k : Core) n => k.scorePort n) k
    let k := k.learnPeers
    let k : Core := { k with opc := { k.opc with peers := k.opc.peers.map k.scorePeer } }
    let k := (List.range 8).foldl (fun (k : Core) g => k.commonCause g) k
    let k := (List.range 8).foldl (fun (k : Core) g => k.dueGroup g) k
    k.opc.peers.foldl (fun (k : Core) p => k.duePeer p) k

/-! ### Laser safe (R380, R381) -/

/-- LASER_SAFE. -/
def Core.laserEvent (k : Core) (on cause : Nat) : Core := k.emit 0x67FF 0x0C07 [(107, 107, on), (106, 104, cause)]

/-- HOP. -/
def Core.hopEvent (k : Core) (n entry refused g p st t : Nat) : Core :=
  k.emit (0x6000 + n) 0x0C06
    [(107, 100, entry), (99, 99, refused), (98, 96, g), (95, 92, p), (39, 32, st), (31, 0, t)]

/-- Word `w` of an entry of the hop table. -/
def Core.hopWord (k : Core) (n e w : Nat) : Nat := k.tb Reg.OPC_HOP_TBL (2 * (256 * n + e) + w)
def Core.hopGroup (k : Core) (n e : Nat) : Nat := fld (k.hopWord n e 1) 31 29
def Core.hopPos (k : Core) (n e : Nat) : Nat := fld (k.hopWord n e 1) 28 25
def Core.hopNom (k : Core) (n e : Nat) : Nat := fld (k.hopWord n e 1) 23 0

/-- Changes announced for a hop that does not take place are withdrawn. -/
def Core.hopWithdraw (k : Core) (n : Nat) : Core :=
  let o := k.optic n
  let g := k.pGroup n
  let h := k.hopGroup n o.hopEntry
  let f := frameOf (o.hopT + 1)
  let mine := fun (x : LGroup) => (x.chg.map (fun c => c.2.1 == f % 2 ^ 32 || c.2.1 == (f + 48) % 2 ^ 32)).getD false
  let drop := fun (k : Core) (g : Nat) => if mine (k.grp g) then k.setGrp g { k.grp g with chg := none } else k
  drop (if k.pAssigned n then drop k g else k) h

/-- A hop ends: counted and logged. -/
def Core.hopEnd (k : Core) (n st t : Nat) : Core :=
  let o := k.optic n
  let k := k.setOptic n { o with hop := .idle, strobe := false, hopOld := none, hopRead := false, hopIfT := 0 }
  let k := k.cnt Reg.OPC_HOP_CNT
  let k := if st = stOk then k else k.cnt Reg.OPC_HOPFAIL_CNT
  k.hopEvent n o.hopEntry 0 (k.hopGroup n o.hopEntry) (k.hopPos n o.hopEntry) st t

/-- A hop that is due but has not begun ends: nothing is counted, as no hop was carried out. -/
def Core.hopDrop (k : Core) (n : Nat) : Core :=
  let o := k.optic n
  ((k.hopWithdraw n).setOptic n { o with hop := .idle, hopRead := false }).hopEvent n o.hopEntry 0 (k.hopGroup n o.hopEntry)
    (k.hopPos n o.hopEntry) stDenied 0

/-- Laser safe ends the hops in progress with ST_DENIED (R380). -/
def Core.hopsDenied (k : Core) : Core :=
  (List.range 16).foldl (fun (k : Core) n => match (k.optic n).hop with
    | .armed => k.hopDrop n
    | .guard => (k.hopWithdraw n).hopEnd n stDenied 0
    | .dark => k.hopEnd n stDenied 0
    | .window => k.hopEnd n stDenied 0
    | _ => k) k

/-- Laser safe is set: cause 1 Marigold, 2 firmware, 3 thermal trip. -/
def Core.lsafeSet (k : Core) (cause : Nat) : Core :=
  if k.opc.lsafe then k
  else
    let k : Core := { k with opc := { k.opc with lsafe := true } }
    let k := (List.range 16).foldl (fun (k : Core) n => k.setOptic n { k.optic n with txdis := true }) k
    (k.laserEvent 1 cause).hopsDenied

/-- It is released: pins rise for ports STARTING or ON. -/
def Core.lsafeRel (k : Core) (cause : Nat) : Core :=
  if !k.opc.lsafe then k
  else
    let k : Core := { k with opc := { k.opc with lsafe := false } }
    let k := (List.range 16).foldl (fun (k : Core) n =>
      k.setOptic n { k.optic n with txdis := !(k.isOn (.linePort n) || k.fst (.linePort n) == .starting) }) k
    k.laserEvent 0 cause

/-! ### Commands of OPC_CTRL, module access, registers (R366, R379, R382 to R384) -/

/-- A new baseline from the next 600 samples; the old one stands until then. -/
def Core.rebase (k : Core) (n : Nat) : Core :=
  k.setOptic n { k.optic n with baseRun := true, baseSum := (0, 0), baseN := 0 }

/-- EXPELLED of the port, and of the peer gateway received on it, clears. -/
def Core.clearExpel (k : Core) (n : Nat) : Core :=
  let p := k.lp n
  let k := k.setOptic n { k.optic n with expelled := false }
  { k with opc := { k.opc with peers := k.opc.peers.map (fun (q : Peer) =>
    if p.peerKnown ∧ q.site = p.peerSite ∧ q.gw = p.peerGw then { q with expelled := false } else q) } }

def Core.opcCmd (k : Core) (cmd n : Nat) : Core × Nat :=
  match cmd with
  | 1 => (k.lsafeSet 2, stOk)
  | 2 => (k.lsafeRel 2, stOk)
  | 3 => (k.rebase n, stOk)
  | 4 => (k.clearExpel n, stOk)
  | _ => (k, stRange)

/-- What the gateway keeps to itself (R361). -/
def maccDenied (page byte' : Nat) : Bool :=
  byte' == 26 || (decide (128 ≤ byte') && (page == 0x10 || page == 0x12 || decide (0xB0 ≤ page ∧ page ≤ 0xB4)))

/-- OPC_MACC. -/
def Core.maccWrite (k : Core) (v : Nat) : Core × Nat :=
  if k.opc.acc.isSome then (k, stBusy)
  else if bitAt v 31 && maccDenied (fld v 26 19) (fld v 18 11) then
    ({ k with opc := { k.opc with accRes := setFld k.opc.accRes 15 8 stDenied } }, stDenied)
  else ({ k with opc := { k.opc with
      acc := some (fld v 30 27, bitAt v 31, fld v 26 19, fld v 18 11, fld v 10 3) } }, stOk)

/-- OPC_MRES. -/
def Core.mresRead (k : Core) : Nat :=
  if k.opc.acc.isSome then args [(31, 31, 1), (15, 8, stBusy), (7, 0, fld k.opc.accRes 7 0)] else k.opc.accRes

/-- The access under way ends; a write leaves DATA as it stands. -/
def Core.accDoneEv (k : Core) (ack : Bool) (data : Nat) : Core :=
  match k.opc.acc with
  | none => k
  | some (n, wr, _, _, _) =>
    let d := if ack && !wr then data else fld k.opc.accRes 7 0
    let k : Core := { k with opc := { k.opc with acc := none, accRes := args [(15, 8, if ack then stOk else stTimeout), (7, 0, d)] } }
    if ack then k.setOptic n { k.optic n with noAck := 0 } else (k.noAck n).lineRefresh

/-- A write of an OPC register. -/
def Core.opcWrite (k : Core) (a v : Nat) : Core × Nat :=
  if a = Reg.OPC_CTRL then k.opcCmd (fld v 31 28) (fld v 3 0)
  else if a = Reg.OPC_MACC then k.maccWrite v
  else if a = Reg.OPC_FADE ∧ fld v 31 24 ≤ fld v 23 16 then (k, stRange)
  else if a = Reg.OPC_BUSCFG ∧ (List.range 4).any (fun b =>
      fld v (2 * b + 1) (2 * b) != k.fd a (2 * b + 1) (2 * b) && (List.range 4).any (fun i => !k.isOff (.linePort (4 * b + i)))) then
    (k, stBusy)
  else k.rw a v

/-- A word of the hop table. -/
def hopWrite (k : Core) (w v : Nat) : Core × Nat :=
  if k.isOff (.linePort (w / 512)) then (k.tbw Reg.OPC_HOP_TBL w (v &&& (if w % 2 = 0 then 0x8000FFFF else 0xFEFFFFFF)), stOk)
  else (k, stBusy)

/-- OPC_Pnn_STAT and SCORE. -/
def Core.opticStat (k : Core) (n : Nat) : Nat :=
  let o := k.optic n
  args [(31, 31, o.present.toNat), (30, 28, o.mstate), (27, 27, o.hopCap.toNat), (26, 26, o.txdis.toNat), (25, 24, o.fade),
    (23, 23, o.expelled.toNat), (8, 8, o.fixed.toNat), (7, 0, if o.fixed then 0 else o.chan)]

def Core.opticScore (k : Core) (n : Nat) : Nat := args [(31, 16, (k.optic n).below), (9, 0, (k.optic n).score)]

/-- OPC_Gg_EXP. -/
def Core.groupExp (k : Core) (g : Nat) : Nat :=
  let u := min 15 (k.usedExp g)
  args [(31, 28, u), (27, 27, (k.suspended g).toNat), (26, 26, (!k.budgetLeft g).toNat), (15, 0, k.belowMask g)]

end Sys2Proof.Machine
end

