-- ==== Sys2Proof/Machine/Hbc.lean ====
section
/-!
DEFINITION. Deep memory (07_buffers_memory R198, R213 to R218, R223, R224): slices, retirement, scrubbing, errors of SRAM
and HBM words, row remapping, a controller's fault. Operations; their commands stand in HbcCmd.lean.
-/

namespace Sys2Proof.Machine

open Sys2Proof

/-- The HBC steward, and pseudo-channel `p` of stack `s`, as event sources (01_architecture R18). -/
abbrev hbcSrc : Nat := 0x3FFF
def pcSrc (s p : Nat) : Nat := 0x3808 + 32 * s + p

/-! ### What is in service (R198, R217, R218) -/

/-- The capability sets of HBM from the stacks trained, the stacks still in service and the slices retired. -/
def Core.setHbmSvc (k : Core) (m : Nat) : Core :=
  let on := (List.range 32).filter (fun j => k.hbc.retired.get 0 j == 0)
  let bits := on.foldl (fun a j => a + 2 ^ j) 0
  let whole : Bool := m == k.hbc.stackMask
  { k with svc := { k.svc with
      stackSet := m
      pc := (bitsOf 8 m).foldl (fun a s => a + bits * 2 ^ (32 * s)) 0
      slices := if whole then 3 * k.hbmStacks * on.length else 0 } }

/-- Does an HBM range meet slice `j`? -/
def Core.meetsSlice (k : Core) (a n j : Nat) : Bool :=
  let s := k.sliceSize
  decide (a < s * (j + 1) ∧ s * j < a + n)

/-- The stack that holds an HBM address: granules go round the stacks in service at boot step 5, by ascending number. -/
def Core.stackOf (k : Core) (a : Nat) : Nat :=
  (bitsOf 8 k.hbc.stackMask).getD (a % k.sliceSize / 256 % k.hbmStacks) 0

/-! ### Retirement (R217) -/

/-- Pools and flows of a slice enter FAULTED. The status of the fault is not stated: free. -/
def Core.faultSlice (k : Core) (j : Nat) : Core :=
  let st := Config.freeField k.free % 19
  let k := ((List.range 64).filter (fun p => k.poolLive p && (k.pool p).mem == 1 && k.meetsSlice (k.pool p).base (k.pool p).bytes j)).foldl
    (fun (k : Core) p => k.fnFault (.pool p) st) k.fresh
  (k.liveFlows.filter (fun f => k.fWheyEn f == 1 &&
      k.meetsSlice (k.fWheyPtr f) (((k.cElems (k.fCollCtx f) + 16383) / 16384) * 16896) j)).foldl
    (fun (k : Core) f => k.flowFault f st stTimeout) k

/-- The retry copies slice `j` held are lost. -/
def Core.loseCopies (k : Core) (j : Nat) : Core :=
  (List.range 8).foldl (fun (k : Core) g =>
    let x := k.grp g
    k.setGrp g { x with copies := x.copies.map (fun (c : RCopy) => if c.slice = j then { c with gone := true } else c) }) k

/-- Slice `j` leaves service because of its pseudo-channel of stack `s`; `cause` as the pseudo-channel word encodes it. -/
def Core.retire (k : Core) (s j cause : Nat) : Core :=
  if k.hbc.retired.get 0 j ≠ 0 ∨ k.hbmStacks = 0 then k
  else
    let k : Core := { k with hbc := { k.hbc with
      retired := k.hbc.retired.set 0 j cause, pcCause := k.hbc.pcCause.set 0 (32 * s + j) cause } }
    let k := (k.setHbmSvc k.svc.stackSet).faultSlice j
    let k := (List.range 8).foldl (fun (k : Core) g => k.skewCheck g) (k.loseCopies j)
    k.emit hbcSrc 0x0702 [(107, 105, s), (104, 100, j), (99, 97, cause), (15, 0, k.svc.slices)]

/-- HBC_CMD. -/
def Core.hbcCmd (k : Core) (cmd s p : Nat) : Core × Nat :=
  if cmd ≠ 1 then (k, stRange)
  else if !bitAt k.svc.stackSet s then (k, stRange)
  else ((k.retire s p 4).settle, stOk)

/-- A register of the HBC written. -/
def Core.hbcWrite (k : Core) (a v : Nat) : Core × Nat :=
  if a = Reg.HBC_CMD then k.hbcCmd (fld v 31 28) (fld v 7 5) (fld v 4 0) else k.rw a v

/-! ### Errors of words (R213, R214) -/

/-- MEM_UNCORRECTABLE, at most one per source and 1 ms. -/
def Core.memEvent (k : Core) (src sram scrub a : Nat) : Core :=
  k.emitLim src 0x0700 0 64 32 [(107, 107, sram), (106, 106, scrub), (37, 0, a)]

/-- A routing entry reads as VALID = 0 from now on. -/
def Core.killEntry (k : Core) (win w : Nat) : Core := (k.tbw win w 0).tbw win (w + 1) 0

/-- Which entry of a region whose inner layout the spec does not give was hit: free, one of `n` or none. -/
def Core.freeEntry (k : Core) (n : Nat) : Option Nat :=
  let i := Config.freeField k.free % (n + 1)
  if i = n then none else some i

/-- What an uncorrectable word at SRAM offset `a` does to the region it lies in (R196, R214). -/
def Core.sramRegion (k : Core) (a : Nat) : Core :=
  if a < 0x400000 then k.flowFault (a / 256) (Config.freeField k.free % 19) stPoison
  else if a < 0x800000 then
    let r := (a - 0x400000) / 64
    if k.rOpen r then k.recDone r stPoison else k
  else if a < 0xC00000 then k.killEntry Reg.FRT_RT_TBL (2 * ((a - 0x800000) / 8))
  else if a < 0xC80000 then
    match k.freeEntry (4096 + 65536) with
    | some i => if i < 4096 then k.killEntry Reg.FRT_CIRC_TBL (2 * i) else k.tbw Reg.FRT_ESC_TBL (i - 4096) 0
    | none => k
  else if a < 0xD80000 then
    match k.freeEntry 4096 with
    | some x => if k.isOff (.ctx x) then k else k.abortHere x stCorrupt (k.cStep x) (k.cSeq x) 0xFFFFFFFF
    | none => k
  else if a < 0xE80000 then
    match k.freeEntry 4096 with
    | some i => ((k.setKslot i {}).endRuns (fun q => q.slot == i)).1
    | none => k
  else k

/-- An uncorrectable SRAM word: counted, poisoned, logged where it lies in a fixed region. -/
def Core.sramUe (k : Core) (a scrub : Nat) : Core :=
  let k := ((k.cnt Reg.HBC_SRAM_UE_CNT).wr Reg.HBC_SRAM_LAST_UE a).setPsn a 8 true
  if a < 0x3400000 then ((k.sramRegion a).fresh.settle).memEvent hbcSrc 1 scrub a else k

/-- A row of a pseudo-channel as a key. -/
def rowKey (s p bg bank row : Nat) : Nat := (32 * s + p) * 2 ^ 28 + bg * 2 ^ 24 + bank * 2 ^ 20 + row

/-- An uncorrectable HBM word: counted, poisoned, logged, its row due for a remap (R216); the eighth within 24 h retires the
slice (R217). -/
def Core.hbmUe (k : Core) (a scrub bg bank row : Nat) : Core :=
  let s := k.stackOf a
  let p := a / k.sliceSize
  let k := ((k.cnt (Reg.HBC_S_UE_CNT s)).setPsn (hbmBase + a) 32 true).memEvent (pcSrc s p) 0 scrub a
  let l := (k.hbc.ueTimes.get [] (32 * s + p)).filter (fun t => decide (k.now < t + 86400000000000)) ++ [k.now]
  let k : Core := { k with hbc := { k.hbc with
    ueTimes := k.hbc.ueTimes.set [] (32 * s + p) l, rowDue := k.hbc.rowDue.set 0 (rowKey s p bg bank row) 2 } }
  if 8 ≤ l.length then (k.retire s p 2).settle else k

/-- A corrected HBM word: counted, also in its pseudo-channel's word; its row is due for a remap with the ROWTHR-th distinct
address of the scrub period (R216). -/
def Core.hbmCe (k : Core) (a bg bank row : Nat) : Core :=
  let s := k.stackOf a
  let p := a / k.sliceSize
  let w := k.tb (Reg.HBC_S_PC_TBL s) p
  let k := (k.cnt (Reg.HBC_S_CE_CNT s)).tbw (Reg.HBC_S_PC_TBL s) p (setFld w 15 0 (satAdd 16 (fld w 15 0) 1))
  let r := rowKey s p bg bank row
  let l := k.hbc.rowCe.get [] r
  let l := if l.contains a then l else l ++ [a]
  { k with hbc := { k.hbc with
    rowCe := k.hbc.rowCe.set [] r l
    rowDue := if fld k.hbc.scrubH 31 28 ≤ l.length then k.hbc.rowDue.set 0 r (max 1 (k.hbc.rowDue.get 0 r)) else k.hbc.rowDue } }

/-- A FIFO of a subsystem gave a word with a parity error (01_architecture R17, R219). -/
def Core.fifoParity (k : Core) (sub : Nat) : Core :=
  (k.tbw Reg.HBC_FPAR_TBL sub (satAdd 32 (k.tb Reg.HBC_FPAR_TBL sub) 1)).emitLim hbcSrc 0x0705 sub 0 32 [(107, 103, sub)]

/-! ### Scrubbing (R215) -/

/-- The next HBM position in a slice in service, from `a` on; the end of the address space where there is none. -/
def Core.scrubNext (k : Core) (a : Nat) : Nat :=
  let s := k.sliceSize
  if k.sliceOn (a / s) then a
  else match (List.range 32).find? (fun j => decide (a / s < j) && k.sliceOn j) with
    | some j => s * j
    | none => 32 * s

/-- SCRUB_LATE, once per pass. -/
def Core.scrubLate (k : Core) (sram : Bool) : Core :=
  let t := if sram then k.hbc.sramT else k.hbc.hbmT
  let period := if sram then 1000000000 * fld k.hbc.scrub 15 0 else 3600000000000 * fld k.hbc.scrubH 27 16
  let late := if sram then k.hbc.sramLate else k.hbc.hbmLate
  if late || decide (k.now ≤ t + 2 * period) then k
  else
    let k : Core := { k with hbc := if sram then { k.hbc with sramLate := true } else { k.hbc with hbmLate := true } }
    k.emit hbcSrc 0x0704 [(107, 107, sram.toNat), (31, 0, (k.now - t) / 1000000000)]

/-- The word scrubbed next: its address (SRAM offset, or HBM address), none where no memory is in service. -/
def Core.scrubAt (k : Core) (sram : Bool) : Option Nat :=
  if sram then (if k.svc.sram = 0 then none else some k.hbc.sramPos)
  else if k.hbmStacks = 0 ∨ k.scrubNext 0 = 32 * k.sliceSize then none
  else
    let a := k.scrubNext k.hbc.hbmPos
    some (if a = 32 * k.sliceSize then k.scrubNext 0 else a)

/-- Corrected errors of the scrub period start again. -/
def Core.clearPeriod (k : Core) : Core :=
  let k : Core := { k with hbc := { k.hbc with rowCe := {} } }
  (List.range 256).foldl (fun (k : Core) i => k.tbwf (Reg.HBC_S_PC_TBL (i / 32)) (i % 32) 15 0 0) k

/-- The scrubber goes on from the word at `a`; at the end of a pass it starts over, with HBC_SCRUB as it stands (R223). -/
def Core.scrubMove (k : Core) (sram : Bool) (a : Nat) : Core :=
  if sram then
    if a + 8 < 65536 * k.svc.sram then { k with hbc := { k.hbc with sramPos := a + 8 } }
    else { k with hbc := { k.hbc with sramPos := 0, sramT := k.now, sramLate := false, scrub := k.rd Reg.HBC_SCRUB } }
  else
    let b := k.scrubNext (a + 32)
    if b < 32 * k.sliceSize then { k with hbc := { k.hbc with hbmPos := b } }
    else ({ k with hbc := { k.hbc with hbmPos := k.scrubNext 0, hbmT := k.now, hbmLate := false, scrubH := k.rd Reg.HBC_SCRUB } } : Core).clearPeriod

/-- A scrub access: what it found in its word, then the next word. -/
def Core.scrubEv (k : Core) (sram : Bool) (found : ScrubFind) : Core :=
  match k.scrubAt sram with
  | none => k
  | some a =>
    let k := match found, sram with
      | .clean, _ => k
      | .corrected .., true => k.cnt Reg.HBC_SRAM_CE_CNT
      | .corrected _ bg bank row, false => k.hbmCe a bg bank row
      | .uncorrectable .., true => k.sramUe a 1
      | .uncorrectable _ bg bank row, false => k.hbmUe a 1 bg bank row
    (k.scrubLate sram).scrubMove sram a

/-! ### Row remapping (R216) and a controller's fault (R218) -/

/-- Is a remap of a row due? -/
def Core.remapDue (k : Core) (s p bg bank row : Nat) : Bool :=
  bitAt k.svc.stackSet s && k.hbc.retired.get 0 p == 0 && k.hbc.rowDue.get 0 (rowKey s p bg bank row) != 0

/-- A row is remapped, or its slice retired where no repair resource is left; `ue`: an uncorrectable error made it due. -/
def Core.remapEv (k : Core) (s p bg bank row : Nat) (ue repaired : Bool) : Core :=
  let r := rowKey s p bg bank row
  let k : Core := { k with hbc := { k.hbc with rowDue := k.hbc.rowDue.set 0 r 0, rowCe := k.hbc.rowCe.set [] r [] } }
  if repaired then
    let w := k.tb (Reg.HBC_S_PC_TBL s) p
    let k := k.tbw (Reg.HBC_S_PC_TBL s) p (setFld w 23 16 (satAdd 8 (fld w 23 16) 1))
    let k := k.wrf (Reg.HBC_S_STAT s) 23 16 (satAdd 8 (k.fd (Reg.HBC_S_STAT s) 23 16) 1)
    k.emit (pcSrc s p) 0x0701 [(107, 104, bg), (103, 100, bank), (99, 80, row), (0, 0, ue.toNat)]
  else (k.retire s p 1).settle

/-- Every read of HBM is poisoned from now on, and the HBC function is FAULTED. The fault's status is not stated: free. -/
def Core.controllerEv (k : Core) (s : Nat) : Core :=
  if !bitAt k.svc.stackSet s || !k.isOn .hbc then k
  else
    let k := k.fnFault .hbc (Config.freeField k.free % 19)
    (({ k with hbc := { k.hbc with allPoison := true } } : Core).fresh).setHbmSvc (k.svc.stackSet - 2 ^ s)

/-! ### Register and window reads (R223) -/

def Core.stackStat (k : Core) (s : Nat) : Nat :=
  args [(31, 31, (bitAt k.svc.stackSet s).toNat), (30, 30, (bitAt k.hbc.conserv s).toNat), (23, 16, k.fd (Reg.HBC_S_STAT s) 23 16)]

def pcRead (s : Nat) (k : Core) (p : Nat) : Nat :=
  let c := k.hbc.pcCause.get 0 (32 * s + p)
  args [(31, 31, if c = 0 then 0 else 1), (30, 28, c), (23, 0, k.tb (Reg.HBC_S_PC_TBL s) p)]

def Core.budgetUse (k : Core) : Nat :=
  args [(25, 16, min 1023 k.wheyPeak), (9, 0, min 1023 k.committed)]

def Core.budgetRead (k : Core) : Nat := args [(25, 16, k.budgetLimit), (15, 0, k.fd Reg.HBC_BUDGET 9 0)]

end Sys2Proof.Machine
end

