-- ==== Sys2Proof/Machine/Locus.lean ====
section
/-!
DEFINITION. Sensors, the error locus and quarantine (17_power_thermal R478, R482 to R486, R491), with what a quarantine does
in the unit's own subsystem (05_collectives R134, 06_compression R191, 08_cipher R238, 07_buffers_memory R217).
-/

namespace Sys2Proof.Machine

open Sys2Proof

/-- The power steward as an event source. -/
abbrev pwrSrc : Nat := 0x8FFF

/-! ### Events of Marigold's domain -/

/-- Emit what a limiter of Marigold's domain counted, and start its next interval (R509 item 2). -/
def State.flushALim (s : State) (l : Lim) : State :=
  let s := s.emitAAt l.time l.src l.code (l.args + min l.count (2 ^ l.cntW - 1) * 2 ^ l.cntLo)
  { s with aon := { s.aon with lims := s.aon.lims.filter (fun (m : Lim) => !m.is l.code l.src l.key) ++
      [{ l with ends := s.aon.now + l.interval, count := 0, time := 0, args := 0 }] } }

/-- An occurrence of a limited event of Marigold's domain (R509), its interval of `iv` ns measured on Marigold's count. -/
def State.emitALim (s : State) (src code key iv lo w : Nat) (l : List (Nat × Nat × Nat)) : State :=
  let now := s.core.tim.glob
  let fresh : Lim := { code := code, src := src, key := key, ends := s.aon.now + iv, interval := iv, cntLo := lo, cntW := w }
  let others := s.aon.lims.filter (fun (m : Lim) => !m.is code src key)
  match s.aon.lims.find? (fun (m : Lim) => m.is code src key) with
  | none =>
    ({ s with aon := { s.aon with lims := others ++ [fresh] } } : State).emitAAt now src code (args l + 2 ^ lo)
  | some m =>
    if s.aon.now < m.ends then { s with aon := { s.aon with lims := others ++ [m.add now (args l) 1] } }
    else if m.count = 0 then
      ({ s with aon := { s.aon with lims := others ++ [fresh] } } : State).emitAAt now src code (args l + 2 ^ lo)
    else
      let s := s.flushALim m
      { s with aon := { s.aon with lims := s.aon.lims.map (fun (x : Lim) => if x.is code src key then x.add now (args l) 1 else x) } }

/-! ### Sensors (R478) -/

/-- The group of sensor `n`. -/
def sensorGroup (n : Nat) : Nat := if n < 24 then 0 else if n < 32 then 1 else if n < 40 then 2 else if n < 44 then 3 else 4

def Pwr.sensor (p : Pwr) (n : Nat) : Sensor := p.sens.get {} n

/-- The highest valid reading of a group. -/
def Pwr.groupMax (p : Pwr) (g : Nat) : Option Int :=
  ((List.range 48).filter (fun n => sensorGroup n == g && (p.sensor n).valid)).foldl (fun (m : Option Int) n =>
    let t := (p.sensor n).temp
    match m with
    | none => some t
    | some u => some (max u t)) none

/-- The temperature at sensor `n` in 1/16 °C: of a sensor that is not valid, the highest valid reading of its group; no
valid sensor in the group gives none, a free value. -/
def State.tempAt (s : State) (n : Nat) : Int :=
  let x := s.aon.pwr.sensor n
  if x.valid then x.temp
  else (s.aon.pwr.groupMax (sensorGroup n)).getD (signed 16 (Config.freeField s.core.free % 65536))

/-! ### Tracked units (R482) -/

/-- The kind of unit `u`: churn, press tile, skimmer, expander, cipher core, HBM pseudo-channel. -/
def unitKind (u : Nat) : Nat :=
  if u < 256 then 0 else if u < 272 then 1 else if u < 304 then 2 else if u < 336 then 3 else if u < 496 then 4 else 5

/-- The first unit of a kind. -/
def kindBase (kind : Nat) : Nat := [0, 256, 272, 304, 336, 496].getD kind 496

/-- The sensor nearest to a unit. -/
def unitSensor (u : Nat) : Nat :=
  let i := u - kindBase (unitKind u)
  match unitKind u with
  | 0 => i / 16
  | 1 => 16 + i / 8
  | 2 => 20 + i / 16
  | 3 => 20 + i / 16
  | 4 => 18 + i / 80
  | _ => 32 + i / 32

/-- The temperature bin (R483). -/
def tempBin (t : Int) : Nat := (max 0 (min 19 ((t - 320) / 80))).toNat

def Aon.locus (a : Aon) (u c : Nat) : Nat := fld (a.tb Reg.ELC_CNT_TBL (80 * u + c / 2)) (16 * (c % 2) + 15) (16 * (c % 2))

def Aon.setLocus (a : Aon) (u c n : Nat) : Aon :=
  let w := 80 * u + c / 2
  a.tbw Reg.ELC_CNT_TBL w (setFld (a.tb Reg.ELC_CNT_TBL w) (16 * (c % 2) + 15) (16 * (c % 2)) n)

/-- Every count of a unit at 0. -/
def Aon.clearUnit (a : Aon) (u : Nat) : Aon :=
  { a with tbl := { cells := a.tbl.cells.filter (fun c =>
      !(decide (tkey Reg.ELC_CNT_TBL (80 * u) ≤ c.1) && decide (c.1 < tkey Reg.ELC_CNT_TBL (80 * u + 80)))) } }

/-- Every count of every unit at 0. -/
def Aon.clearLocus (a : Aon) : Aon :=
  { a with tbl := { cells := a.tbl.cells.filter (fun c =>
      !(decide (tkey Reg.ELC_CNT_TBL 0 ≤ c.1) && decide (c.1 < tkey (Reg.ELC_CNT_TBL + 1) 0))) } }

def Aon.quarantine (a : Aon) (u : Nat) : Quar := a.pwr.quar.get {} u

def Aon.setQuar (a : Aon) (u : Nat) (q : Quar) : Aon := { a with pwr := { a.pwr with quar := a.pwr.quar.set {} u q } }

/-- Units of a kind in quarantine: soaking or confirmed. -/
def Aon.quarantined (a : Aon) (kind : Nat) : Nat :=
  (a.pwr.quar.cells.filter (fun c => unitKind c.1 == kind && (c.2.state == 1 || c.2.state == 2))).length

/-- The limit of a kind. -/
def Aon.quarMax (a : Aon) (kind : Nat) : Nat :=
  let f : Nat × Nat := [(31, 24), (23, 20), (19, 16), (15, 12), (11, 4), (3, 0)].getD kind (3, 0)
  a.fd Reg.ELC_QMAX f.1 f.2

/-- The module is in STEP (R481). -/
def Aon.inStep (a : Aon) : Bool := a.pwr.stepT.isSome

/-- The count at which a unit is due: halved and rounded up in STEP. -/
def Aon.locusThr (a : Aon) (kind : Nat) : Nat :=
  let t := if kind = 5 then a.fd Reg.ELC_THR 15 0 else a.fd Reg.ELC_THR 31 24
  if a.inStep then (t + 1) / 2 else t

/-! ### What leaving and entering service does to the core -/

/-- The service bit of a compute unit. -/
def Core.unitOn (k : Core) (u : Nat) : Bool :=
  let i := u - kindBase (unitKind u)
  match unitKind u with
  | 0 => bitAt k.svc.churn i
  | 1 => bitAt k.svc.press i
  | 2 => bitAt k.svc.skim i
  | 3 => bitAt k.svc.expd i
  | 4 => bitAt k.svc.ciph i
  | _ => bitAt k.svc.pc i

def Svc.setUnit (v : Svc) (u : Nat) (b : Bool) : Svc :=
  let i := u - kindBase (unitKind u)
  match unitKind u with
  | 0 => { v with churn := setBit v.churn i b }
  | 1 => { v with press := setBit v.press i b }
  | 2 => { v with skim := setBit v.skim i b }
  | 3 => { v with expd := setBit v.expd i b }
  | 4 => { v with ciph := setBit v.ciph i b }
  | _ => v

/-- A creamery out of service hands its queue, in order, to the tail of the next one in service (R134). -/
def Core.moveQueues (k : Core) : Core :=
  (List.range 16).foldl (fun (k : Core) q =>
    if k.creamOn q || (k.queueOf q).isEmpty then k
    else match rrPick 16 (q + 1) k.creamOn with
      | none => k
      | some t =>
        let l := k.queueOf q
        let k := (k.setQueue q []).pushPats t l
        l.foldl (fun (k : Core) p => k.updChunk p.1 p.2.1 (fun h => { h with pats := h.pats.set p.2.2 (.queued t) })) k) k

/-- The pats a churn holds go back to the head of their home queues, and lose what they accumulated (R134). DEDUCED: the
source of PAT_REQUEUED is the controller of the home creamery, whose queue takes the pat (assumption log 105). -/
def Core.requeueChurn (k : Core) (churn : Nat) : Core :=
  (k.heldBy churn).reverse.foldl (fun (k : Core) p =>
    let home := ((k.chunk p.1 p.2.1).map (fun (h : Chunk) => h.home)).getD 0
    let k := (k.updChunk p.1 p.2.1 (fun h => { h with pats := h.pats.set p.2.2 (.queued home) })).patAgain p.1 p.2.1 p.2.2
    let k := (k.setQueue home (p :: k.queueOf home)).cnt Reg.CLE_REQUEUE_CNT
    k.emit (0x2100 + home) 0x0404 [(107, 96, p.1), (95, 64, p.2.1), (63, 60, p.2.2), (59, 52, churn)]) k

/-- The request a cipher core holds runs again on another, first of its queue; a provisional decryption is handled as a
tag failure (R238). -/
def Core.requeueCore (k : Core) (cn : Nat) : Core :=
  match k.cip.cores.get none cn with
  | none => k
  | some x =>
    let k : Core := { k with cip := { k.cip with cores := k.cip.cores.set none cn none } }
    if x.req.op = 3 then k.provCut x.req
    else (k.fillReqQ x.req.queue (x.req :: k.reqQ x.req.queue)).cnt Reg.CIP_REDO_CNT

/-- A compute unit leaves service. -/
def Core.unitOut (k : Core) (u : Nat) : Core :=
  let k : Core := { k with svc := k.svc.setUnit u false }
  match unitKind u with
  | 0 => (k.requeueChurn u).moveQueues
  | 4 => k.requeueCore (u - 336)
  | _ => k

/-- A compute unit returns to service. -/
def Core.unitIn (k : Core) (u : Nat) : Core :=
  let k : Core := { k with svc := k.svc.setUnit u true }
  if unitKind u = 0 then k.moveQueues else k

/-! ### Quarantine (R483 to R486, R491) -/

/-- Has a start opened that holds service sets? -/
def State.started (s : State) : Bool := s.aon.boot.step != 0 || s.aon.boot.phase != 0

def State.quarEvent (s : State) (u what bin cls : Nat) : State :=
  s.emitA pwrSrc 0x1104 [(107, 98, u), (97, 96, what), (95, 91, bin), (90, 88, cls)]

/-- The unit leaves service, as its own subsystem has it. -/
def State.takeOut (s : State) (u : Nat) : State :=
  if !s.started then s
  else if unitKind u = 5 then s.onCore (fun k => (k.retire ((u - 496) / 32) ((u - 496) % 32) 3).settle)
  else (s.onCore (fun k => if k.unitOn u then (k.unitOut u).settle else k)).keySettle.drainEvents.alertChk

def State.putBack (s : State) (u : Nat) : State :=
  if s.started ∧ unitKind u < 5 then s.onCore (fun k => k.unitIn u) else s

/-- Quarantine: recorded, out of service, counted, logged, to be soaked. -/
def State.quarantine (s : State) (u bin cls : Nat) : State :=
  let s := { s with aon := s.aon.setQuar u { state := 1, bin := bin, cls := cls } }
  let s := s.takeOut u
  ({ s with aon := s.aon.cnt Reg.ELC_QUAR_CNT } : State).quarEvent u 1 bin cls

/-- A due unit is quarantined while its kind's limit allows. -/
def State.due (s : State) (u bin cls : Nat) : State :=
  if (s.aon.quarantine u).state ≠ 0 then s
  else if s.aon.quarantined (unitKind u) < s.aon.quarMax (unitKind u) then s.quarantine u bin cls
  else
    ({ s with aon := s.aon.cnt Reg.ELC_WOULD_CNT } : State).emitA pwrSrc 0x1105 [(107, 98, u), (95, 91, bin), (90, 88, cls)]

/-- An error a tracked unit detects: recorded, logged, weighed (R482, R483). `ue` an uncorrectable one. -/
def State.locusError (s : State) (u : Nat) (ue : Bool) (cls : Nat) : State :=
  let n := unitSensor u
  let t := s.tempAt n
  let bin := tempBin t
  let cell := 8 * bin + cls
  let c := satAdd 16 (s.aon.locus u cell) 1
  let s := { s with aon := s.aon.setLocus u cell c }
  let s := s.emitALim pwrSrc 0x1103 u (if s.aon.inStep then 100000 else 1000000) 32 32
    [(107, 98, u), (97, 97, ue.toNat), (96, 91, n), (90, 79, fld (s.aon.pwr.rails.get 0 1) 31 16), (78, 76, cls), (15, 0, toFld 16 t)]
  if s.aon.locusThr (unitKind u) ≤ c ∨ (ue = true ∧ unitKind u < 5) then s.due u bin cls else s

/-- The error a unit finds while a command runs, if it finds one. -/
def State.unitError (s : State) (u : Nat) (e : Option Err) : State :=
  match e with
  | none => s
  | some e => s.locusError u e.uncorrectable (e.cls % 8)

/-- A checksum mismatch is recorded against the churns that held a pat of its chunk (R482). -/
def State.recordSuspects (s : State) : State :=
  let l := s.core.cle.suspects
  let s := { s with core := { s.core with cle := { s.core.cle with suspects := [] } } }
  ((List.range 256).filter (fun u => l.contains u)).foldl (fun (s : State) u => (s.locusError u false (Config.freeField s.core.free % 8)).onCore (fun k => k.fresh)) s

/-- A soak pass (R485): only while the nearest sensor reads in the recorded bin or a higher one. -/
def State.soak (s : State) (u : Nat) (err : Bool) : State :=
  let q := s.aon.quarantine u
  if q.state ≠ 1 ∨ s.aon.boot.phase ≠ 1 ∨ s.answers = false ∨ tempBin (s.tempAt (unitSensor u)) < q.bin then s
  else if err then
    ({ s with aon := s.aon.setQuar u { q with state := 2 } } : State).quarEvent u 3 q.bin q.cls
  else if q.passes + 1 < s.aon.fd Reg.ELC_SOAK 31 16 then { s with aon := s.aon.setQuar u { q with passes := q.passes + 1 } }
  else
    let a := (s.aon.setQuar u (if unitKind u = 5 then { q with state := 3, passes := q.passes + 1 } else {})).clearUnit u
    (({ s with aon := a.cnt Reg.ELC_CLEAR_CNT } : State).putBack u).quarEvent u 2 q.bin q.cls

/-- ELC_CMD (R491). -/
def State.elcCmd (s : State) (cmd u : Nat) : State × Nat :=
  if cmd = 0 ∨ 2 < cmd ∨ 751 < u then (s, stRange)
  else if unitKind u = 5 then (s, stDenied)
  else if cmd = 1 then
    if (s.aon.quarantine u).state ≠ 0 then (s, stOk)
    else
      (((s.quarantine u (tempBin (s.tempAt (unitSensor u))) (Config.freeField s.core.free % 8)) : State).onCore (fun k => k.fresh), stOk)
  else
    let was := (s.aon.quarantine u).state
    let s := { s with aon := (s.aon.setQuar u {}).clearUnit u }
    (if was ≠ 0 then s.putBack u else s, stOk)

/-- The unit window. -/
def Aon.unitWord (a : Aon) (u : Nat) : Nat :=
  let q := a.quarantine u
  args [(31, 30, q.state), (29, 25, q.bin), (24, 22, q.cls), (15, 0, q.passes)]

end Sys2Proof.Machine
end

