-- ==== Sys2Proof/Machine/Sites.lean ====
section
/-!
DEFINITION. The site routing table's versions, partitions, the job table and the step ledgers (14_sites R387 to R400, R408,
R409): operations and commands. Transit (R401 to R403) stands in Machine/Line.lean.
-/

namespace Sys2Proof.Machine

open Sys2Proof

/-! ### Versions of the site routing table (R390, R391) -/

/-- SITE_EPOCH_SWAP. -/
def Core.siteSwapEvent (k : Core) (c refused auto site : Nat) : Core :=
  k.emit 0x1000 0x0203 [(7, 4, site), (2, 2, auto), (1, 1, refused), (0, 0, c)]

/-- CUR becomes version `c`, which is not idle from then on. -/
def Core.setSiteCur (k : Core) (c auto site : Nat) : Core :=
  let e := k.frt.sep
  ({ k with frt := { k.frt with sep := { e with cur := c, idle := setBit e.idle c false } } } : Core).siteSwapEvent c 0 auto site

/-- FRT_SEPOCH written: WCLOSE first, then CUR. -/
def Core.sepochWrite (k : Core) (v : Nat) : Core × Nat :=
  let e := k.frt.sep
  let wo := e.wopen &&& (3 - fld v 13 12)
  let k := { k with frt := { k.frt with sep := { e with wopen := wo } } }
  let c := fld v 0 0
  if c = e.cur then (k, stOk)
  else if bitAt wo c then (k, stBusy)
  else (k.setSiteCur c 0 0, stOk)

/-- FRT_SEPOCH as read. -/
def Core.sepochRead (k : Core) : Nat :=
  let e := k.frt.sep
  args [(9, 8, e.wopen), (5, 4, setBit e.idle e.cur false), (0, 0, e.cur)]

/-- Version `v` has had no item in flight for 10 us. -/
def Core.sepochIdleEv (k : Core) (v : Nat) : Core :=
  let e := k.frt.sep
  if v ≠ e.cur ∧ e.infl v = 0 ∧ e.zt v + 10000 ≤ k.now then
    { k with frt := { k.frt with sep := { e with idle := setBit e.idle v true } } }
  else k

/-- A timetable SITE_EPOCH entry (R86 through R390): the status. -/
def Core.sepochTt (k : Core) (c : Nat) : Core × Nat :=
  let e := k.frt.sep
  if c = e.cur then (k, stOk)
  else if bitAt e.wopen c then (k.siteSwapEvent c 1 0 0, stBusy)
  else (k.setSiteCur c 0 0, stOk)

/-- A word of the site routing table: only of the version not CUR, idle or open. -/
def srtWrite (k : Core) (w v : Nat) : Core × Nat :=
  let ver := w / 16
  let e := k.frt.sep
  if ver ≠ e.cur ∧ (bitAt e.idle ver = true ∨ bitAt e.wopen ver = true) then
    (({ k with frt := { k.frt with sep := { e with wopen := setBit e.wopen ver true } } } : Core).tbw Reg.FRT_SRT_TBL w
      (v &&& 0xC0000007), stOk)
  else (k, stEpochBusy)

/-- Does version `v` offer site `s` a group in better state than CUR's, failed for HOLD (R391)? -/
def Core.autoFor (k : Core) (v s : Nat) : Bool :=
  let cur := k.srt k.frt.sep.cur s
  let alt := k.srt v s
  let g := fld cur 2 0
  let h := fld alt 2 0
  bitAt cur 31 && !bitAt cur 30 && k.gsf g && k.site.failT.get 0 g != 0 &&
    decide (k.site.failT.get 0 g - 1 + 1000000 * k.fd Reg.FRT_SAUTO 15 0 ≤ k.now) &&
    bitAt alt 31 && !bitAt alt 30 && k.isOn (.group h) && !k.gsf h

/-- The automatic change of CUR. -/
def Core.autoEv (k : Core) : Core :=
  let v := 1 - k.frt.sep.cur
  if k.fd Reg.FRT_SAUTO 31 31 = 1 && !bitAt k.frt.sep.wopen v &&
      (k.frt.autoT == 0 || decide (k.frt.autoT - 1 + 10000000000 ≤ k.now)) then
    match (List.range 16).find? (k.autoFor v) with
    | some s =>
      let k := k.setSiteCur v 1 s
      { k with frt := { k.frt with autoT := k.now + 1 } }
    | none => k
  else k

/-! ### Job entries that a site concerns (R392, R395, R396) -/

/-- Every job entry: the valid ones of the table, and those outside it of contexts that are not OFF. -/
def Core.jobEntries (k : Core) : List Nat :=
  (List.range 64).filter k.jValid ++
    ((k.liveCtxs.map (fun x => k.jobEntry (k.cJob x))).filter (fun e => decide (64 ≤ e) && k.jValid e)).eraseDups

/-- The STEP of the job's oldest collective in RUN or ENDING: first in COLL_SEQ. -/
def Core.oldestStep (k : Core) (job : Nat) : Option Nat :=
  ((k.liveCtxs.filter (fun x => k.cJob x == job && (k.phase x == 3 || k.phase x == 4))).foldl
    (fun (m : Option Nat) x => match m with
      | none => some x
      | some y => if serialBefore 32 (k.cSeq x) (k.cSeq y) then some x else m) none).map k.cStep

/-- A job entry learns of a partition of site `s`. -/
def Core.partJob (k : Core) (s e : Nat) : Core :=
  let k := k.jwf e 2 31 16 (setBit (k.jPsites e) s true)
  if k.jState e = jRunning then
    let k := match k.oldestStep (k.jJob e) with
      | some st => k.setJw e 3 st
      | none => { k.setJw e 3 0 with site := { k.site with firstW := k.site.firstW.set 0 e 1 } }
    k.setJobState e jPartitioned
  else k

/-- SITE_PARTITION. -/
def Core.partEvent (k : Core) (s on : Nat) : Core :=
  k.emit 0x27FF 0x0406 [(107, 104, s), (103, 103, on), (95, 64, k.rd Reg.CLE_PEPOCH), (15, 0, k.site.part)]

/-- THR elapsed: site `s` is partitioned (R392). -/
def Core.partEv (k : Core) (s : Nat) : Core :=
  let gs := k.groupsTo s
  let thr := 1000000 * k.fd Reg.CLE_PART_CFG 15 0
  if k.partOn s || gs.isEmpty ||
      !gs.all (fun g => k.gsf g && k.site.failT.get 0 g != 0 && decide (k.site.failT.get 0 g - 1 + thr ≤ k.now)) then k
  else
    let k : Core := { k with site := { k.site with part := setBit k.site.part s true } }
    let k := (k.wr Reg.CLE_PEPOCH (k.rd Reg.CLE_PEPOCH + 1)).cnt Reg.CLE_PARTDECL_CNT
    let k := (k.jobEntries.filter (fun e => bitAt (k.jSites e) s)).foldl (fun k e => k.partJob s e) k
    (((k.partEvent s 1).afterPartition).lineRefresh).settle

/-! ### Step ledgers (R398, R399) -/

/-- The ledger of an entry as it stands. -/
def Core.ledgerOf (k : Core) (e : Nat) : List Byte :=
  [0x22, byte (k.mySite + 16 * (k.jDrift e).toNat)] ++ beBytes 2 (k.jJob e) ++ beBytes 2 (k.jIncarn e) ++
    beBytes 4 (k.jw e 3) ++ beBytes 4 (k.jw e 4) ++ beBytes 2 (k.jNpart e) ++ beBytes 4 (k.jw e 5) ++
    beBytes 4 (k.rd Reg.CLE_PEPOCH)

/-- A round of ledgers to every site of PSITES whose ledger has not arrived. -/
def Core.sendLedgers (k : Core) (e : Nat) : Core :=
  let m := k.ledgerOf e
  let left := (bitsOf 16 (k.jPsites e)).filter (fun s => !bitAt (k.site.ledGot.get 0 e) s)
  let k := left.foldl (fun (k : Core) s => (k.groupsTo s).foldl (fun (k : Core) g => k.gccSend g m) k) k
  { k with site := { k.site with ledSent := k.site.ledSent.set 0 e (k.now + 1), lastLed := k.site.lastLed.set [] (k.jJob e) m } }

/-- A job enters RECONCILING. -/
def Core.startRecon (k : Core) (e : Nat) : Core :=
  let k := k.setJobState e jReconciling
  let k : Core := { k with site := { k.site with
    ledT := k.site.ledT.set 0 e (k.now + 1), ledGot := k.site.ledGot.set 0 e 0, ledDiv := k.site.ledDiv.set 0 e 0
    firstW := k.site.firstW.set 0 e 0 } }
  k.sendLedgers e

/-- COLL_STATUS with ST_DIVERGED to the NOTIFY_EID of every context of the job. -/
def Core.tellDiverged (k : Core) (e : Nat) : Core :=
  (k.liveCtxs.filter (fun x => k.cJob x == k.jJob e)).foldl (fun (k : Core) x =>
    k.sendCtl (k.cNotify x) (k.cFlow x) (byte 0x12 :: collBody stDiverged (k.jJob e) (k.jIncarn e) (k.jw e 4) (k.jw e 5)
      0xFFFFFFFF 0 0 0)) k

/-- The job leaves RECONCILING; `div` the diverged sites. -/
def Core.endRecon (k : Core) (e div : Nat) : Core :=
  let k : Core := { k with site := { k.site with ledT := k.site.ledT.set 0 e 0 } }
  if div = 0 then (k.clearJob e).setJobState e jRunning
  else
    let k := (k.jwf e 6 15 0 div).cnt Reg.CLE_DIVERGE_CNT
    let avg := k.jDrift e && k.cJob (k.jAvg e) == k.jJob e
    (k.setJobState e (if avg then jAveraging else jDiverged)).tellDiverged e

/-- Every site of PSITES has answered: diverged where either side's NPART is not 0. -/
def Core.reconChk (k : Core) (e : Nat) : Core :=
  let got := k.site.ledGot.get 0 e
  if (bitsOf 16 (k.jPsites e)).all (bitAt got) then
    k.endRecon e (if k.jNpart e = 0 then k.site.ledDiv.get 0 e else k.jPsites e)
  else k

/-- A ledger of site `s` for entry `e`: taken while RECONCILING, else answered on its group, once in 100 ms. -/
def Core.ledgerIn (k : Core) (g e s npart : Nat) : Core :=
  if k.jState e = jReconciling then
    if bitAt (k.jPsites e) s && !bitAt (k.site.ledGot.get 0 e) s then
      let k : Core := { k with site := { k.site with
        ledGot := k.site.ledGot.set 0 e (setBit (k.site.ledGot.get 0 e) s true)
        ledDiv := k.site.ledDiv.set 0 e (setBit (k.site.ledDiv.get 0 e) s (npart != 0)) } }
      k.reconChk e
    else k
  else
    let last := k.site.ansT.get 0 (16 * e + s)
    if last ≠ 0 ∧ k.now < last - 1 + 100000000 then k
    else
      let old := k.site.lastLed.get [] (k.jJob e)
      let m := if old.isEmpty then k.ledgerOf e else old
      ({ k with site := { k.site with ansT := k.site.ansT.set 0 (16 * e + s) (k.now + 1)
                                      lastLed := k.site.lastLed.set [] (k.jJob e) m } } : Core).gccSend g m

def Core.ledgerEv (k : Core) (g : Nat) : Core :=
  match k.gccHead g [0x22] with
  | none => k
  | some (m, k) =>
    let job := beNat (slice m 2 2)
    match (List.range 64).find? (fun e => k.jValid e && k.jJob e == job && k.jIncarn e == beNat (slice m 4 2)) with
    | none => k.cnt Reg.CLE_STRAY_CNT
    | some e => k.ledgerIn g e (byteAt m 1 % 16) (beNat (slice m 14 2))

/-- 100 ms since the last round. -/
def Core.ledgerResendEv (k : Core) (e : Nat) : Core :=
  if k.jValid e && k.jState e == jReconciling && k.site.ledSent.get 0 e != 0 &&
      decide (k.site.ledSent.get 0 e - 1 + 100000000 ≤ k.now) then k.sendLedgers e
  else k

/-- LEDGER_TMO since RECONCILING was entered: what did not arrive counts as diverged. -/
def Core.ledgerTmoEv (k : Core) (e : Nat) : Core :=
  let t := k.site.ledT.get 0 e
  if k.jValid e && k.jState e == jReconciling && t != 0 &&
      decide (t - 1 + 1000000 * k.fd Reg.CLE_PART_CFG2 15 0 ≤ k.now) then
    let got := k.site.ledGot.get 0 e
    let miss := (bitsOf 16 (k.jPsites e)).filter (fun s => !bitAt got s)
    let div := if k.jNpart e = 0 then miss.foldl (fun m s => setBit m s true) (k.site.ledDiv.get 0 e) else k.jPsites e
    (k.cntN Reg.CLE_LEDGER_TMO_CNT miss.length).endRecon e div
  else k

/-! ### Reconnection (R395) -/

def Core.reconEv (k : Core) (s : Nat) : Core :=
  let hold := 10000000 * k.fd Reg.CLE_PART_CFG 31 16
  if k.partOn s && (k.groupsTo s).any (fun g =>
      !k.gsf g && k.site.clearT.get 0 g != 0 && decide (k.site.clearT.get 0 g - 1 + hold ≤ k.now)) then
    let k : Core := { k with site := { k.site with part := setBit k.site.part s false } }
    let k := k.partEvent s 0
    let es := k.jobEntries.filter (fun e => bitAt (k.jSites e) s && (k.jState e == jPartitioned || k.jState e == jRunning))
    (es.foldl (fun (k : Core) e => (k.jwf e 2 31 16 (setBit (k.jPsites e) s true)).startRecon e) k).lineRefresh
  else k

/-! ### The job table written (R396) -/

/-- A word of the job table: busy while a context is not OFF of the job that the entry holds, or that word 0 would name
(DEDUCED, assumption log 126). -/
def jobWrite (k : Core) (w v : Nat) : Core × Nat :=
  let e := w / 8
  let i := w % 8
  if 3 ≤ i then (k, stOk)
  else if k.liveCtxs.any (fun x => k.cJob x == k.jJob e || (i == 0 && k.cJob x == fld v 31 16)) then (k, stBusy)
  else if i = 0 then
    if k.jValid e && fld v 31 16 == k.jJob e && !serialBefore 16 (k.jIncarn e) (fld v 15 0) then (k, stRange)
    else
      let k := (k.setJw e 0 v).clearJob e
      let k : Core := { k with site := { k.site with ledT := k.site.ledT.set 0 e 0 } }
      (k.setJobState e jRunning, stOk)
  else if i = 1 then (k.setJw e 1 (args [(31, 30, fld v 31 30), (29, 27, k.jState e), (11, 0, fld v 11 0)]), stOk)
  else (k.jwf e 2 15 0 (fld v 15 0), stOk)

/-! ### Commands -/

/-- SITE_EPOCH_WCLOSE (R390): FRT_SEPOCH is written. -/
def execSiteEpochWclose (val : Word) (s : State) : Host.Outcome State Fault Refusal :=
  .next (s.mgmt Reg.FRT_STAT (fun k => k.sepochWrite val.toNat))

/-- SITE_EPOCH_SET_CUR (R390): FRT_SEPOCH is written. -/
def execSiteEpochSetCur (val : Word) (s : State) : Host.Outcome State Fault Refusal :=
  .next (s.mgmt Reg.FRT_STAT (fun k => k.sepochWrite val.toNat))

/-- SITE_EPOCH_IDLE (R390). -/
def execSiteEpochIdle (v : Fin 2) (s : State) : Host.Outcome State Fault Refusal :=
  .next (s.onCore (fun k => k.sepochIdleEv v.val))

/-- SRT_TBL_WRITE (R390). -/
def execSrtTblWrite (val : Word) (s : State) : Host.Outcome State Fault Refusal :=
  .next (s.mgmtWin Reg.FRT_STAT Reg.FRT_SRT_TBL 32 srtWrite val.toNat)

/-- SITE_AUTO_SWITCH (R391). -/
def execSiteAutoSwitch (s : State) : Host.Outcome State Fault Refusal := .next (s.onCore (fun k => k.autoEv))

/-- SITE_PARTITION (R392). -/
def execSitePartition (i : Fin 16) (s : State) : Host.Outcome State Fault Refusal :=
  .next (s.onCore (fun k => k.partEv i.val))

/-- SITE_RECONNECT (R395). -/
def execSiteReconnect (i : Fin 16) (s : State) : Host.Outcome State Fault Refusal :=
  .next (s.onCore (fun k => k.reconEv i.val))

/-- LEDGER_RESEND (R398). -/
def execLedgerResend (j : Fin 65600) (s : State) : Host.Outcome State Fault Refusal :=
  .next (s.onCore (fun k => k.ledgerResendEv j.val))

/-- LEDGER_TMO (R399). -/
def execLedgerTmo (j : Fin 65600) (s : State) : Host.Outcome State Fault Refusal :=
  .next (s.onCore (fun k => k.ledgerTmoEv j.val))

/-- STEP_LEDGER_RX (R398). -/
def execStepLedgerRx (g : Fin 8) (s : State) : Host.Outcome State Fault Refusal :=
  .next (s.onCore (fun k => k.ledgerEv g.val))

/-- JOB_ENTRY_WRITE (R396). -/
def execJobEntryWrite (val : Word) (s : State) : Host.Outcome State Fault Refusal :=
  .next (s.mgmtWin Reg.CLE_STAT Reg.CLE_JOB_TBL 512 jobWrite val.toNat)

end Sys2Proof.Machine
end

