-- ==== Sys2Proof/Machine/Timetable.lean ====
section
/-!
DEFINITION. The timetable (10_timetable_time R283 to R291, R297, R298): entries, segments, firing in order, class patterns and
shard maps, and the hops that its entries set off (13_optics R370 to R373). ASTER entries stand in Machine/Aster.lean.
-/

namespace Sys2Proof.Machine

open Sys2Proof

/-! ### Entries and segments (R283, R285, R286) -/

/-- The two 64-bit words of an entry. -/
def Core.entA (k : Core) (e : Nat) : Nat := k.tbn Reg.TTX_ENT_TBL (4 * e) 2
def Core.entB (k : Core) (e : Nat) : Nat := k.tbn Reg.TTX_ENT_TBL (4 * e + 2) 2
def Core.entType (k : Core) (e : Nat) : Nat := fld (k.entA e) 63 60
def Core.entOff (k : Core) (e : Nat) : Nat := fld (k.entA e) 39 0

/-- An argument, bits [hi:lo] of word 0. -/
def Core.entArg (k : Core) (e hi lo : Nat) : Nat := fld (k.entA e) hi lo

abbrev tyNop : Nat := 0
abbrev tySlotclass : Nat := 1
abbrev tyStart : Nat := 2
abbrev tyGate : Nat := 3
abbrev tyEpoch : Nat := 4
abbrev tyKeyswitch : Nat := 5
abbrev tyDecode : Nat := 6
abbrev tyHop : Nat := 7
abbrev tyShard : Nat := 8
abbrev tyAster : Nat := 9
abbrev tySiteEpoch : Nat := 10

/-- The highest argument bit of word 0 a TYPE defines; 39 for none. -/
def argTop (t : Nat) : Nat := [39, 46, 59, 43, 40, 52, 44, 51, 40, 39, 40].getD t 39

/-- TYPE defined, no 1 in a reserved bit. -/
def Core.entOk (k : Core) (e : Nat) : Bool :=
  let t := k.entType e
  decide (t ≤ 10) && fld (k.entA e) 59 (argTop t + 1) % 2 ^ (59 - argTop t) == 0 &&
    (if t = tyStart then fld (k.entB e) 7 0 == 0 else k.entB e == 0)

/-- An entry word as read: bits its TYPE does not define read 0 (00_scope R7). -/
def entRead (k : Core) (w : Nat) : Nat :=
  let t := k.entType (w / 4)
  let m := match w % 4 with
    | 0 => 0xFFFFFFFF
    | 1 => 0xF00000FF + (2 ^ (argTop t - 31) - 256)
    | 2 => if t = tyStart then 0xFFFFFF00 else 0
    | _ => if t = tyStart then 0xFFFFFFFF else 0
  k.tb Reg.TTX_ENT_TBL w &&& m

def Core.segWord (k : Core) (g w : Nat) : Nat := k.tb Reg.TTX_SEG_TBL (8 * g + w)
def Core.segFirst (k : Core) (g : Nat) : Nat := fld (k.segWord g 0) 15 0
def Core.segLen (k : Core) (g : Nat) : Nat := fld (k.segWord g 0) 31 16 + 1
def Core.segBase (k : Core) (g : Nat) : Nat := k.segWord g 1 + 2 ^ 32 * k.segWord g 2
def Core.segPeriod (k : Core) (g : Nat) : Nat := k.segWord g 3 + 2 ^ 32 * fld (k.segWord g 4) 7 0
def Core.segCount (k : Core) (g : Nat) : Nat := k.segWord g 5
def Core.segStep0 (k : Core) (g : Nat) : Nat := k.segWord g 6
def Core.segStride (k : Core) (g : Nat) : Nat := k.segWord g 7

def Core.segRun (k : Core) (g : Nat) : SegRun := k.ttx.segs.get {} g
def Core.setSegRun (k : Core) (g : Nat) (r : SegRun) : Core := { k with ttx := { k.ttx with segs := k.ttx.segs.set {} g r } }

/-- Do the ranges of two segments meet? -/
def Core.segMeet (k : Core) (g h : Nat) : Bool :=
  decide (k.segFirst g < k.segFirst h + k.segLen h ∧ k.segFirst h < k.segFirst g + k.segLen g)

/-- The OFFSETs of entries e, e + 1, … do not decrease. -/
def Core.offsRise (k : Core) : Nat → Nat → Bool
  | 0, _ => true
  | 1, _ => true
  | n + 2, e => decide (k.entOff e ≤ k.entOff (e + 1)) && k.offsRise (n + 1) (e + 1)

/-- The checks of R284. -/
def Core.segCheck (g : Nat) (k : Core) : Nat :=
  let p := k.segPeriod g
  let es := (List.range (k.segLen g)).map (k.segFirst g + ·)
  if k.tim.tstate = tsFree ∨ k.tim.tstate = tsAcquiring then stBusy
  else if 65536 < k.segFirst g + k.segLen g then stRange
  else if (List.range 64).any (fun h => h != g && !k.isOff (.segment h) && k.segMeet g h) then stRange
  else if !es.all k.entOk then stRange
  else if !k.offsRise (k.segLen g) (k.segFirst g) then stRange
  else if p ≠ 0 ∧ (p < 1000 ∨ es.any (fun e => decide (p ≤ k.entOff e))) then stRange
  else if k.segBase g < k.gns + 100000 then stRange
  else stOk

def Core.segStart (g : Nat) (k : Core) : Core := (k.setSegRun g {}).setFst (.segment g) .on stOk

/-- TTX_SCMD: ENABLE, DISABLE of a segment. -/
def Core.segEnable (k : Core) (g : Nat) : Core × Nat :=
  let r := k.fnEnable (.segment g) (Core.segCheck g) (Core.segStart g)
  (r.1.fnLast (.segment g) r.2, r.2)

/-- Cycles completed of a running segment (R298): fired whole, and at their end (R284). -/
def Core.segCycles (k : Core) (g : Nat) : Nat :=
  let c := (k.segRun g).cycle
  let p := k.segPeriod g
  if !k.isOn (.segment g) || p == 0 then c
  else if k.gns < k.segBase g then 0 else min c ((k.gns - k.segBase g) / p)

/-- SHARD_TAKEOVER (R291): `t` the global time in ns. -/
def Core.shardTake (k : Core) (b tt t : Nat) : Core :=
  ({ k with ttx := { k.ttx with shard := some b } } : Core).emit 0x6802 0x0D04 [(107, 107, b), (106, 106, tt), (63, 0, t)]

/-! ### Firing (R285, R287, R288) -/

/-- Are cycles left? -/
def Core.segMore (k : Core) (g : Nat) : Bool :=
  let c := (k.segRun g).cycle
  if k.segPeriod g = 0 then c == 0 else k.segCount g == 0 || decide (c < k.segCount g)

/-- Firing time of entry index `i` of a segment in its present cycle. -/
def Core.segT (k : Core) (g i : Nat) : Nat :=
  k.segBase g + (k.segRun g).cycle * k.segPeriod g + k.entOff (k.segFirst g + i)

/-- Is (T, not a SHARD, entry) before another? -/
def fireBefore (a b : Nat × Nat × Nat) : Bool :=
  decide (a.1 < b.1) || (a.1 == b.1 && (decide (a.2.1 < b.2.1) || (a.2.1 == b.2.1 && decide (a.2.2 < b.2.2))))

/-- The segment's next entry to take effect: the least unfired of those with the next time. -/
def Core.segHead (k : Core) (g : Nat) : Option (Nat × Nat × Nat) :=
  let r := k.segRun g
  let n := k.segLen g
  if !k.isOn (.segment g) || !k.segMore g || decide (n ≤ r.idx) then none
  else
    let t := k.segT g r.idx
    let same := ((List.range (n - r.idx)).map (r.idx + ·)).takeWhile (fun i => k.segT g i == t)
    (same.filter (fun i => !r.done.contains i)).foldl (fun (m : Option (Nat × Nat × Nat)) i =>
      let e := k.segFirst g + i
      let c := (t, if k.entType e = tyShard then 0 else 1, e)
      match m with
      | none => some c
      | some b => if fireBefore c b then some c else some b) none

/-- The entry next in order over all segments: its segment and (T, not a SHARD, entry). -/
def Core.ttNext (k : Core) : Option (Nat × Nat × Nat × Nat) :=
  (List.range 64).foldl (fun (m : Option (Nat × Nat × Nat × Nat)) g =>
    match k.segHead g, m with
    | some h, none => some (g, h)
    | some h, some b => if fireBefore h b.2 then some (g, h) else some b
    | none, m => m) none

/-- An entry of a segment has fired. -/
def Core.segFired (k : Core) (g e : Nat) : Core :=
  let r := k.segRun g
  let d := r.done ++ [e - k.segFirst g]
  let n := ((List.range (k.segLen g - r.idx)).map (r.idx + ·)).takeWhile (fun i => d.contains i)
  let i := r.idx + n.length
  if k.segLen g ≤ i then k.setSegRun g { cycle := r.cycle + 1, idx := 0, done := [] }
  else k.setSegRun g { r with idx := i, done := d.filter (fun j => decide (i ≤ j)) }

/-- More than 64 entries in a window of 64 ns: late. -/
def Core.noteFire (k : Core) (t : Nat) : Core :=
  let l := k.ttx.recent
  let late := decide (64 ≤ l.length) && decide (t < l.getD 63 0 + 64)
  let k : Core := { k with ttx := { k.ttx with recent := (t :: l).take 64 } }
  if late then k.cnt Reg.TTX_LATE_CNT else k

/-- ENTRY_REFUSED. -/
def Core.refuseEntry (k : Core) (e typ st cycle t : Nat) : Core :=
  (k.cnt Reg.TTX_REFUSED_CNT).emit 0x6802 0x0D03
    [(107, 92, e), (91, 88, typ), (87, 80, st), (79, 64, cycle % 65536), (63, 0, t)]

/-- Entry `e` of TYPE `typ` fires when it is next and its time has come; `act` does the action for its segment, time and
cycle. ST_ORDER is a START that was taken and failed (05_collectives R143). -/
def Core.fireEv (k : Core) (e typ : Nat) (act : Core → Nat → Nat → Nat → Core × Nat) : Core :=
  match k.ttNext with
  | none => k
  | some (g, t, _, n) =>
    if n ≠ e ∨ k.entType e ≠ typ ∨ k.gns < t then k
    else
      let c := (k.segRun g).cycle
      let r := act ((k.segFired g e).noteFire t) g t c
      if typ = tyNop then r.1
      else if r.2 = stOk ∨ r.2 = stOrder then r.1.cnt Reg.TTX_FIRED_CNT
      else r.1.refuseEntry e typ r.2 c t

/-- SLOTCLASS (R289): from the first slot boundary at or after T. -/
def Core.slotclassTt (k : Core) (g pat t : Nat) : Core × Nat :=
  if !k.isOn (.group g) || !bitAt (k.tb Reg.TTX_PAT_TBL (8 * pat + 4)) 31 then (k, stRange)
  else
    let s := (25 * t + 32767) / 32768
    let p := k.curPat g
    let q : PatRun := if s ≤ p.base then { p with cur := pat, base := s } else { cur := pat, base := s, prev := p.cur, prevBase := p.base }
    ({ k with ttx := { k.ttx with pats := k.ttx.pats.set {} g q } }, stOk)

/-- START (R286, R292). -/
def Core.startTt (k : Core) (e g t c : Nat) : Core × Nat :=
  let b := k.entB e
  let seq := (fld b 63 32 + c * k.segStride g) % 2 ^ 32
  let due := k.entArg e 59 52
  let r := k.startCtx (k.entArg e 51 40) seq ((k.segStep0 g + c) % 2 ^ 32) (fld b 31 20) ((seq + 2 ^ 32 - fld b 19 8) % 2 ^ 32)
    (if due = 0 then none else some (slotOf t + 16 * due))
  (r.1.settle, r.2)

/-- EPOCH (03_fabric_side R86). -/
def Core.epochTt (k : Core) (c : Nat) : Core × Nat :=
  let e := k.frt.ep
  if c = e.cur then (k, stOk)
  else if bitAt e.wopen c then (k.emit 0x1000 0x0202 [(1, 1, 1), (0, 0, c)], stBusy)
  else (({ k with frt := { k.frt with ep := { e with cur := c, idle := setBit e.idle c false } } } : Core).emit 0x1000 0x0202
    [(0, 0, c)], stOk)

/-- A segment enters OFF by itself (R284). -/
def Core.segEndEv (k : Core) (g : Nat) : Core :=
  let p := k.segPeriod g
  if k.isOn (.segment g) && (if p = 0 then (k.segRun g).cycle != 0
      else k.segCount g != 0 && decide (k.segBase g + k.segCount g * p ≤ k.gns)) then k.setFst (.segment g) .off stOk
  else k

/-! ### Tables (R283, R285, R289 to R291, R297, R298) -/

/-- Is entry `e` in a segment that is not OFF? -/
def Core.entBusy (k : Core) (e : Nat) : Bool :=
  (List.range 64).any (fun g => !k.isOff (.segment g) && decide (k.segFirst g ≤ e ∧ e < k.segFirst g + k.segLen g))

def entWrite (k : Core) (w v : Nat) : Core × Nat :=
  if k.entBusy (w / 4) then (k, stBusy) else (k.tbw Reg.TTX_ENT_TBL w v, stOk)

def segWrite (k : Core) (w v : Nat) : Core × Nat :=
  if k.isOff (.segment (w / 8)) then (k.tbw Reg.TTX_SEG_TBL w (if w % 8 = 4 then v &&& 0xFF else v), stOk) else (k, stBusy)

def sstRead (k : Core) (w : Nat) : Nat :=
  let f := k.fn (.segment (w / 2))
  if w % 2 = 0 then args [(31, 29, f.fst.code), (28, 28, f.pend.toNat), (7, 0, f.last)] else k.segCycles (w / 2) % 2 ^ 32

/-- Is a pattern in use by a group that is not OFF? -/
def Core.patBusy (k : Core) (p : Nat) : Bool :=
  (List.range 8).any (fun g => !k.isOff (.group g) &&
    (k.patNow g == p || (k.curPat g).cur == p || k.fd (Reg.TTX_G_PAT g) 3 0 == p))

def patWrite (k : Core) (w v : Nat) : Core × Nat :=
  let p := w / 8
  let bad := (List.range (fld v 5 0 + 1)).map (k.patClass p)
  if k.patBusy p then (k, stBusy)
  else if 5 ≤ w % 8 then (k, stOk)
  else if w % 8 = 4 then
    if bitAt v 31 && (!bad.contains 2 || bad.contains 3) then (k, stRange) else (k.tbw Reg.TTX_PAT_TBL w (v &&& 0x8000003F), stOk)
  else (k.tbw Reg.TTX_PAT_TBL w v, stOk)

def shdWrite (k : Core) (w v : Nat) : Core × Nat :=
  if k.ttx.shard = some (w / 8192) then (k, stBusy)
  else (k.tbw Reg.TTX_SHD_TBL w (if w % 2 = 1 then v &&& 0x800000FF else v), stOk)

def Core.ttxStat (k : Core) : Nat :=
  args [(31, 31, k.ttx.shard.isSome.toNat), (30, 30, k.ttx.shard.getD 0), (7, 0, k.fd Reg.TTX_STAT 7 0)]

/-! ### Hops (13_optics R370 to R373) -/

/-- The segment and time of an unfired entry of the present cycle. -/
def Core.entTime (k : Core) (e : Nat) : Option (Nat × Nat) :=
  ((List.range 64).find? (fun g => k.isOn (.segment g) && k.segMore g && decide (k.segFirst g + (k.segRun g).idx ≤ e ∧
    e < k.segFirst g + k.segLen g) && !(k.segRun g).done.contains (e - k.segFirst g))).map (fun g => (g, k.segT g (e - k.segFirst g)))

/-- G0 in ns: the first slot boundary at or after T. -/
def hopStart (t : Nat) : Nat := ((25 * t + 32767) / 32768 * 131072 + 99) / 100

/-- Delays of a group's members in service, with one more. -/
def Core.hopSpread (k : Core) (g nom : Nat) : Nat :=
  let ds := (((bitsOf 16 (k.grp g).inSvc).filterMap (k.portAt g)).map (fun n => k.rd (Reg.TBS_P_DELAY n))) ++ [nom]
  ds.foldl max 0 - ds.foldl min nom

/-- The checks made at the notice, in order (R372). -/
def Core.hopCheck (k : Core) (n i t : Nat) : Nat :=
  let o := k.optic n
  let h := k.hopGroup n i
  let p := k.hopPos n i
  let y := k.grp h
  let pend := fun (x : LGroup) => x.chg.isSome || x.addWait.isSome
  if k.opc.lsafe then stDenied
  else if t < k.gns + 10000000 then stTimeout
  else if !o.hopCap || !bitAt (k.hopWord n i 0) 31 || decide (o.entries ≤ i) then stRange
  else if !k.isOn (.group h) || !bitAt (k.gConfig h) p || bitAt y.inSvc p || ((k.portAt h p).map (fun m => m != n)).getD false then stRange
  else if y.dcomp < k.hopSpread h (k.hopNom n i) then stRange
  else if k.hopNom n i + 800 < k.rd (Reg.TBS_P_DELAY n) then stRange
  else if pend y || (k.pAssigned n && pend (k.grp (k.pGroup n))) then stBusy
  else stOk

/-- The port's position leaves IN_SVC from the row of G0 on (11_line_framing R326), and enters the target group's from the
end of the guard slots on. -/
def Core.hopAnnounce (k : Core) (n i g0 : Nat) : Core :=
  let g := k.pGroup n
  let p := k.pPos n
  let h := k.hopGroup n i
  let f := frameOf (g0 + 1)
  let k := if k.pAssigned n && bitAt (k.grp g).inSvc p then
      k.setGrp g { k.grp g with chg := some (setBit (k.grp g).inSvc p false, f % 2 ^ 32, k.frame + 1), addT := 0 } else k
  if h = g ∧ k.pAssigned n then k
  else k.setGrp h { k.grp h with chg := some (setBit (k.grp h).inSvc (k.hopPos n i) true, (f + 48) % 2 ^ 32, k.frame + 1), addT := 0 }

/-- A hop refused before it begins: the entry is refused (10_timetable_time R288), the port stays. -/
def Core.hopRefuse (k : Core) (e n i st cycle t : Nat) : Core :=
  let k : Core := { k with ttx := { k.ttx with hops := k.ttx.hops.set 0 e (st + 2) } }
  (k.refuseEntry e tyHop st cycle t).hopEvent n i 1 (k.hopGroup n i) (k.hopPos n i) st 0

/-- Notice of a HOP entry, due 10 ms before T. -/
def Core.hopNoticeEv (k : Core) (e : Nat) : Core :=
  match k.entTime e with
  | none => k
  | some (g, t) =>
    let n := k.entArg e 43 40
    let i := k.entArg e 51 44
    if k.entType e ≠ tyHop ∨ k.ttx.hops.get 0 e ≠ 0 ∨ k.gns + 10000008 < t then k
    else
      let st := if (k.optic n).hop ≠ .idle then stBusy else k.hopCheck n i t
      if st ≠ stOk then k.hopRefuse e n i st (k.segRun g).cycle t
      else
        let g0 := hopStart t
        let k : Core := { k with ttx := { k.ttx with hops := k.ttx.hops.set 0 e 1 } }
        let k := k.setOptic n { k.optic n with
          hop := .noticed, hopEntry := i, hopTt := e, hopT := g0, hopRead := false, nextIdx := i, hopDold := k.rd (Reg.TBS_P_DELAY n) }
        k.hopAnnounce n i g0

/-- NEXT_IDX read back 1 ms before T. -/
def Core.hopReadEv (k : Core) (n idx : Nat) : Core :=
  let o := k.optic n
  if o.hop ≠ .noticed ∨ o.hopRead then k
  else match k.entTime o.hopTt with
    | none => k
    | some (g, t) =>
      if k.gns + 1000008 < t then k
      else if idx = o.nextIdx then k.setOptic n { o with hopRead := true }
      else ((k.hopWithdraw n).hopRefuse o.hopTt n o.hopEntry stTimeout (k.segRun g).cycle t).setOptic n { o with hop := .idle }

/-- G0 has come: the strobe rises and the guard slots begin. -/
def Core.hopBegin (k : Core) (n : Nat) : Core :=
  let o := k.optic n
  if o.hop ≠ .armed ∨ k.gns < o.hopT then k
  else (k.setLp n { k.lp n with hopAt := k.tim.glob }).setOptic n { o with hop := .guard, strobe := true, hopIfT := 0, hopOld := none }

/-- The HOP entry fires: the strobe rises at G0. A hop without notice, or not read back, is refused; one refused before has
had its refusal logged. -/
def Core.hopTtEv (k : Core) (e : Nat) : Core :=
  let n := k.entArg e 43 40
  let i := k.entArg e 51 44
  match k.ttNext with
  | none => k
  | some (g, t, _, m) =>
    if m ≠ e ∨ k.entType e ≠ tyHop ∨ k.gns < t then k
    else
      let c := (k.segRun g).cycle
      let h := k.ttx.hops.get 0 e
      let k := (k.segFired g e).noteFire t
      let o := k.optic n
      let free := fun (k : Core) => ({ k with ttx := { k.ttx with hops := k.ttx.hops.set 0 e 0 } } : Core)
      if 2 ≤ h then free k
      else if h = 0 ∨ o.hop ≠ .noticed ∨ o.hopTt ≠ e then free (k.hopRefuse e n i stTimeout c t)
      else if k.opc.lsafe then free (((k.hopWithdraw n).setOptic n { o with hop := .idle }).hopRefuse e n i stDenied c t)
      else if !o.hopRead then free (((k.hopWithdraw n).setOptic n { o with hop := .idle }).hopRefuse e n i stTimeout c t)
      else
        (((free k).setOptic n { o with hop := .armed }).hopBegin n).cnt Reg.TTX_FIRED_CNT

/-- The guard slots end: the port's binding moves (R373); within one group the announced change is made now. -/
def Core.hopGuardEv (k : Core) (n : Nat) : Core :=
  let o := k.optic n
  if o.hop ≠ .guard ∨ k.gns < o.hopT + 3933 then k
  else
    let i := o.hopEntry
    let old := (k.pGroup n, k.pPos n)
    let h := k.hopGroup n i
    let p := k.hopPos n i
    let same := k.pAssigned n && old.1 == h
    let k := if k.pAssigned n && !o.strobe then k.unready old.1 old.2 else k
    let k := k.setLp n { k.lp n with hopAt := k.tim.glob }
    let k := k.wr (Reg.LFR_P_CFG n) (args [(31, 31, 1), (30, 28, h), (27, 24, p)])
    let k := k.setOptic n { o with
      hop := if o.strobe then .dark else .window, chan := i, fixed := false, score := 1000, hist := [], advClear := 0, projClear := 0
      hopOld := if o.strobe then some old else none }
    if same then k.setGrp h { k.grp h with chg := some (setBit (k.grp h).inSvc p true, k.frame % 2 ^ 32, k.frame + 1), addT := 0 } else k

/-- The strobe falls at G0 + d_old, rounded down to 8 ns, and no earlier than G0 + 100 ns. -/
def Core.hopFallEv (k : Core) (n : Nat) : Core :=
  let o := k.optic n
  if !o.strobe || decide (k.gns < max (o.hopT + 100) ((o.hopT + o.hopDold) / 8 * 8)) then k
  else
    let k := match o.hopOld with
      | some b => k.unready b.1 b.2
      | none => k
    k.setOptic n { o with strobe := false, hop := if o.hop = .dark then .window else o.hop, hopOld := none }

/-- The receive guard window ends. -/
def Core.hopWindowEv (k : Core) (n : Nat) : Core :=
  let o := k.optic n
  let light := o.hopT + k.hopNom n o.hopEntry
  if o.hop ≠ .window ∨ k.gns < light + 3933 then k
  else
    let ok := (k.lp n).al.inIf && decide (o.hopIfT ≤ light + 3000)
    let k := k.setLp n { k.lp n with hopAt := k.tim.glob }
    (((k.hopEnd n (if ok then stOk else stTimeout) (if ok then o.hopIfT - light else 0)).skewCheck (k.pGroup n)).lineRefresh)

/-! ### Commands (R284, R288, R291, R297) -/

/-- Hops whose entries will not fire are withdrawn, and what their notices left is forgotten. -/
def Core.hopsDrop (k : Core) (g : Nat) : Core :=
  let mine := fun e => decide (k.segFirst g ≤ e ∧ e < k.segFirst g + k.segLen g)
  let k := (List.range 16).foldl (fun (k : Core) n =>
    let o := k.optic n
    if o.hop = .noticed ∧ mine o.hopTt then (k.hopWithdraw n).setOptic n { o with hop := .idle } else k) k
  { k with ttx := { k.ttx with hops := { cells := k.ttx.hops.cells.filter (fun c => !mine c.1) } } }

def Core.segDisable (k : Core) (g : Nat) : Core × Nat :=
  let k := if k.isOn (.segment g) then (k.setSegRun g { k.segRun g with cycle := k.segCycles g }).hopsDrop g else k
  let r := k.fnDisable (.segment g) (fun k => k.fnDrained (.segment g) stOk (Core.segCheck g) (Core.segStart g)) id
  (r.1.fnLast (.segment g) r.2, r.2)

def Core.ttxCmd (k : Core) (cmd bank g : Nat) : Core × Nat :=
  match cmd with
  | 1 => k.segEnable g
  | 2 => k.segDisable g
  | 3 => (k.shardTake bank 0 k.gns, stOk)
  | _ => (k, stRange)

/-- A write of a TTX register. -/
def Core.ttxWrite (k : Core) (a v : Nat) : Core × Nat :=
  if a = Reg.TTX_SCMD then k.ttxCmd (fld v 31 28) (fld v 8 8) (fld v 5 0)
  else if Reg.TTX_G_PAT 0 ≤ a ∧ a < Reg.TTX_G_PAT 8 ∧ !k.isOff (.group ((a - Reg.TTX_G_PAT 0) / 4)) then (k, stBusy)
  else k.rw a v

end Sys2Proof.Machine
end

