-- ==== Sys2Proof/Machine/Start.lean ====
section
/-!
DEFINITION. Resets and the opening of a start (17_power_thermal R472, R473, R489; 15_boot_config R419 to R424): power states,
the boot journal, the choice of a step's method, the beginning of a step, warm boot and power-down.
-/

namespace Sys2Proof.Machine

open Sys2Proof

/-! ### Power states (R472) -/

/-- The power stage, and the clock and reset controller, as event sources. -/
abbrev stageSrc : Nat := 0x8830
abbrev clkSrc : Nat := 0x8831

def PState.code : PState → Nat
  | .standby => 0 | .ramping => 1 | .on => 2 | .quiescing => 3 | .safe => 4 | .tripped => 5 | .fail => 6

/-- A change of PSTATE, logged; `n` functions not drained, for a quiesce. -/
def State.setPst (s : State) (p : PState) (n : Nat) : State :=
  let o := s.aon.pwr.pst
  if o = p then s
  else
    ({ s with aon := { s.aon with pwr := { s.aon.pwr with pst := p } } } : State).emitA stageSrc 0x1100
      [(107, 105, p.code), (104, 102, o.code), (31, 0, n)]

def State.setBoot (s : State) (b : Boot) : State := { s with aon := { s.aon with boot := b } }

def State.setPwr (s : State) (p : Pwr) : State := { s with aon := { s.aon with pwr := p } }

/-! ### The journal (R424) -/

abbrev bootSrc : Nat := 0x0002

/-- Time since the start opened, in ms. -/
def State.bootMs (s : State) : Nat := (s.aon.now - s.aon.boot.t0) / 1000000

/-- A record is written; the ring holds 65,536. -/
def State.journal (s : State) (step mark status arg : Nat) : State :=
  let b := s.aon.boot
  let r : JRec := { step := step, mark := mark, method := b.method, warm := b.warm, image := b.image, status := status
                    bootNum := s.nvm.bootNum, time := s.bootMs, arg := arg }
  { s with nvm := { s.nvm with journal := (s.nvm.journal ++ [r]).drop (s.nvm.journal.length + 1 - 65536) } }

/-- The records of start `n`. -/
def Nvm.startRecs (v : Nvm) (n : Nat) : List JRec := v.journal.filter (fun (r : JRec) => r.bootNum == n)

/-- The four words of a record. -/
def JRec.words (r : JRec) : List Nat :=
  [args [(31, 24, 0xB7), (23, 20, r.step), (19, 16, r.mark), (15, 15, r.method), (14, 14, r.warm.toNat), (13, 13, r.image), (7, 0, r.status)],
   r.bootNum, r.time, r.arg]

/-- Word `w` of the journal window: 256 words for the current start, 256 for the one before (R438). -/
def Nvm.journalWord (v : Nvm) (w : Nat) : Nat :=
  let l := v.startRecs (v.bootNum - w / 256)
  if w / 256 ≤ v.bootNum then
    ((l.drop (w % 256 / 4)).head?.map (fun (r : JRec) => r.words.getD (w % 4) 0)).getD 0
  else 0

/-- Does the previous start's journal ask for the alternate method of step `n` (R422)? -/
def State.altFor (s : State) (n : Nat) : Bool :=
  let l := (s.nvm.startRecs (s.nvm.bootNum - 1)).filter (fun (r : JRec) => r.step == n)
  let has := fun (m : Nat) => l.any (fun (r : JRec) => r.mark == m)
  decide (1 < s.nvm.bootNum) && (has 3 || has 5 || (has 1 && !has 2 && !has 4))

/-- The method of a step: step 4 takes the other slot for step 12's sake too (R420), step 2 the reduced slew after a rail
left its tolerance (R471). -/
def State.methodOf (s : State) (n : Nat) : Nat :=
  (s.altFor n || (n == 4 && s.altFor 12) || (n == 2 && s.aon.boot.altRails)).toNat

/-- The limit of a step in ns (R420). -/
def stepLimit (n method : Nat) : Nat :=
  1000000 * (if n = 13 ∧ method = 1 then 20000
    else [0, 200, 500, 1000, 1000, 4000, 1000, 2000, 1500, 3000, 1000, 500, 2000, 2000, 200].getD n 0)

/-- The steps that are optional. -/
def optionalStep (n : Nat) : Bool := n == 7 || n == 8 || n == 9 || n == 10 || n == 13

/-! ### Quiesce: holding functions (R475) -/

/-- The functions that are neither OFF nor FAULTED, by their codes. -/
def Core.liveFns (k : Core) : List Nat :=
  (k.fns.cells.filter (fun c => !(c.2.fst == .off || c.2.fst == .faulted))).map Prod.fst

/-- The classes of functions a quiesce disables in turn. -/
def isSegFn (c : Nat) : Bool := decide (192 ≤ c ∧ c < 256)
def isPathFn (c : Nat) : Bool := decide (0x10000 ≤ c) || decide (160 ≤ c ∧ c < 168)
def isPortFn (c : Nat) : Bool := decide (c < 32) || decide (128 ≤ c ∧ c < 144)
def isPoolFn (c : Nat) : Bool := decide (64 ≤ c ∧ c < 128)

/-- DISABLE of the function with code `c`, where it is ON or restarts after its drain. -/
def Core.holdFn (k : Core) (c : Nat) : Core :=
  let f := k.fns.get {} c
  if f.fst == .on || (f.fst == .draining && f.pend) then
    if c < 32 then (k.oflCmd c false).1
    else if isPoolFn c then (k.poolCmd 2 (c - 64)).1
    else if isPortFn c then (k.lpCmd (c - 128) false).1
    else if c < 168 then (k.groupCmd (c - 160) false).1
    else if isSegFn c then (k.segDisable (c - 192)).1
    else if c < 0x20000 then (k.flowCmd 2 (c - 0x10000)).1
    else (k.ctxCmd 2 (c - 0x20000)).1
  else k

/-- Every function of a class is disabled. -/
def Core.holdFns (k : Core) (p : Nat → Bool) : Core := ((k.liveFns.filter p).foldl (fun (k : Core) c => k.holdFn c) k).settle

/-- One pass over the steps of a quiesce: stage 2 waits for contexts, flows and groups, 3 for ports, 4 for pools, 5 for
OTP and flash; then SAFE. -/
def State.quStep (s : State) : State :=
  let p := s.aon.pwr
  let late := decide (p.quT + 1000000 * s.aon.fd Reg.PWR_QLIM 15 0 ≤ s.aon.now)
  let go := fun (s : State) (n : Nat) => s.setPwr { s.aon.pwr with quStage := n }
  let dark := fun (s : State) =>
    let n := (s.core.liveFns.filter (fun c => isSegFn c || isPathFn c || isPortFn c || isPoolFn c)).length
    let t := s.onCore (fun k => k.lsafeSet 1)
    t.setPwr { t.aon.pwr with quStage := 5, quUndrained := n }
  match p.quStage with
  | 2 =>
    let s := s.onCore (fun k => (k.holdFns isSegFn).holdFns isPathFn)
    if (s.core.liveFns.filter (fun c => isPathFn c)).isEmpty then go s 3 else if late then dark s else s
  | 3 =>
    let s := s.onCore (fun k => k.holdFns isPortFn)
    if (s.core.liveFns.filter (fun c => isPortFn c)).isEmpty then go s 4 else if late then dark s else s
  | 4 =>
    let s := s.onCore (fun k => k.holdFns isPoolFn)
    if (s.core.liveFns.filter (fun c => isPoolFn c)).isEmpty || late then dark s else s
  | 5 =>
    if s.otp.busy.isNone && s.nvm.busy.isNone then
      let s := s.setPwr { s.aon.pwr with quStage := 0, safeRm := true }
      s.setPst .safe s.aon.pwr.quUndrained
    else s
  | _ => s

/-- As far as it goes at once. -/
def State.quRun (s : State) : State := s.quStep.quStep.quStep.quStep

/-- A quiesce begins. -/
def State.quStart (s : State) : State :=
  let s := { s with aon := s.aon.cnt Reg.PWR_QUIESCE_CNT }
  let s := s.setPwr { s.aon.pwr with quStage := 2, quT := s.aon.now, quUndrained := 0 }
  (s.setPst .quiescing 0).quRun

/-- Does a quiesce stop OTP writes and flash commands (R475)? -/
def State.quieted (s : State) : Bool := s.aon.pwr.pst == .safe || (s.aon.pwr.pst == .quiescing && s.aon.pwr.quStage == 5)

/-! ### The beginning of a step (R421, R473) -/

/-- May step `n` not begin yet? Step 2 waits for PWR_EN, for a power-down to end and for a trip's release. -/
def State.stepHeld (s : State) (n : Nat) : Bool :=
  let p := s.aon.pwr
  n == 2 && (!p.pwrEn || p.pdT.isSome || p.trip)

/-- Step `n` begins: its method, its START mark, and what its beginning does. -/
def State.enterStep (s : State) (n : Nat) : State :=
  let m := s.methodOf n
  let b := s.aon.boot
  let pref := (s.aon.rd Reg.BOOT_CTRL) % 2
  let s := s.setBoot { b with step := n, wait := false, method := m, stepT := s.aon.now, recs := none
                              image := if n = 4 then (pref + m) % 2 else b.image }
  let s := s.journal n 1 stOk 0
  -- the alternate of step 13 widens the tolerance of ACQUIRING (R420)
  let s := { s with core := { s.core with tim := { s.core.tim with tol := if n = 13 ∧ m = 1 then 1000 else 100 } } }
  if n = 2 then s.setPst .ramping 0
  else if n = 10 then
    s.onCore (fun k => (bitsOf 16 k.svc.line).foldl (fun (k : Core) p =>
      let k : Core := { k with opc := { k.opc with mtest := setBit k.opc.mtest p true } }
      if (k.optic p).mstate = 3 ∧ k.opc.lsafe = false then k.setOptic p { k.optic p with txdis := false } else k) k)
  else if n = 14 then { s with aon := { s.aon with capGen := 1 } }
  else s

/-- The next step: it waits where it is held, and behind a quiesce whose request came meanwhile (R475). -/
def State.beginStep (s : State) (n : Nat) : State :=
  let p := s.aon.pwr
  if s.stepHeld n then s.setBoot { s.aon.boot with step := n, wait := true }
  else if p.qreq && (p.pst == .ramping || p.pst == .on) && decide (2 < n) then
    (s.setBoot { s.aon.boot with step := n, wait := true }).quStart
  else s.enterStep n

/-- A step that waited goes on. -/
def State.resumeStep (s : State) : State :=
  let b := s.aon.boot
  if b.phase = 0 ∧ b.wait = true ∧ s.aon.pwr.quStage = 0 ∧ s.aon.pwr.pst ≠ .quiescing ∧ s.aon.pwr.pst ≠ .safe then
    (if s.stepHeld b.step then s else s.enterStep b.step)
  else s

/-! ### Opening a start (R419, R426, R486) -/

/-- Units `base` to `base + n - 1` that are not quarantined, as a mask. -/
def Aon.unitsIn (a : Aon) (base n : Nat) : Nat :=
  ((List.range n).filter (fun i => let q := (a.quarantine (base + i)).state; !(q == 1 || q == 2))).foldl (fun m i => m + 2 ^ i) 0

/-- A start opens: counted, journalled, OTP values take effect, units cleared or still soaking start over, step 1
begins. -/
def State.openStart (s : State) (warm : Bool) : State :=
  let q : SMap Quar := { cells := (s.aon.pwr.quar.cells.filter (fun c => c.2.state != 3)).map (fun (c : Nat × Quar) =>
    (c.1, { c.2 with passes := 0 })) }
  let b := s.aon.boot
  let a : Aon := { s.aon with capGen := 0, storeNew := 0, pwr := { s.aon.pwr with quar := q, quStage := 0, safeRm := false }
                              boot := { b with phase := 0, step := 0, wait := false, warm := warm, method := 0, haltSt := 0
                                               t0 := s.aon.now, ms := 0, recs := none, warmDue := false } }
  let v : Svc := { churn := a.unitsIn 0 256, press := a.unitsIn 256 16, skim := a.unitsIn 272 32, expd := a.unitsIn 304 32
                   ciph := a.unitsIn 336 160 }
  let s : State := { s with
    aon := a
    core := { s.core with svc := v }
    nvm := { s.nvm with bootNum := s.nvm.bootNum + 1 }
    otp := { s.otp with siteVal := s.otp.siteNext, lineMask := s.otp.lineNext, root := s.otp.rootNext, session := false } }
  (s.journal 0 0xF stOk 0).beginStep 1

/-! ### Resets (R489) -/

/-- The domains outside Marigold are reset; RWS fields stay (R6), and so does the counter of free values. -/
def Core.afterReset (k : Core) : Core :=
  let c : Core := { free := k.free }
  c.wr Reg.LCD_MARGIN_CFG (k.rd Reg.LCD_MARGIN_CFG)

def State.resetCore (s : State) : State := { s with core := s.core.afterReset, aon := { s.aon with capGen := 0 } }

/-- A warm boot. -/
def State.warmBoot (s : State) : State := s.resetCore.openStart true

/-- A write or flash command in progress is cut off: an OTP bank is consumed (R427). -/
def State.cutWrites (s : State) : State :=
  { s with otp := { s.otp with busy := none, session := false }, nvm := { s.nvm with busy := none } }

/-- A cold reset keeps the event store, quarantine with its counts, OTP, flash and what the pins carry; power-on the last
three only. THERM_TRIP_N is released, for the next sample to judge (18_pins_package R497; DEDUCED, assumption log 128). -/
def State.coldBoot (s : State) (power : Bool) : State :=
  let p := s.aon.pwr
  let keep : Aon := if power then {}
    else { tbl := { cells := s.aon.tbl.cells.filter (fun c =>
             decide (tkey Reg.ELC_CNT_TBL 0 ≤ c.1) && decide (c.1 < tkey (Reg.ELC_CNT_TBL + 1) 0)) }
           store := s.aon.store, pwr := { quar := p.quar, day := p.day, tripBack := p.trip || p.tripBack } }
  let pw : Pwr := { keep.pwr with pwrEn := p.pwrEn, qreq := p.qreq, vinOk := p.vinOk || power }
  let s := s.cutWrites
  ({ s with core := { free := s.core.free }, aon := { keep with pwr := pw } } : State).openStart false

/-! ### Power-down (R473, R477) -/

/-- Every domain outside Marigold is held in reset; the rails are down 9 ms later. The start under way ends. -/
def State.powerDown (s : State) (p : PState) : State :=
  let s := s.resetCore
  let s := s.setPwr { s.aon.pwr with pdT := some (s.aon.now + 9000000), lock := 0, held := 0, quStage := 0
                                     safeRm := s.aon.pwr.safeRm && p == .safe }
  let b := s.aon.boot
  let s := { s with otp := { s.otp with session := false } }
  (s.setBoot { b with phase := 0, step := 0, wait := false, recs := none, warmDue := false }).setPst p 0

/-- The power-down ends: STANDBY, but for a trip, which stays until released, and for an input that is still lost, which
stays FAIL (R472; DEDUCED, assumption log 127). A quiesce that the trip cut short drives SAFE_RM_N low now (R476). -/
def State.powerDownEnd (s : State) : State :=
  match s.aon.pwr.pdT with
  | none => s
  | some t =>
    if s.aon.now < t then s
    else
      let s := s.setPwr { s.aon.pwr with pdT := none }
      let s := if s.aon.pwr.pst = .tripped then s.setPwr { s.aon.pwr with safeRm := s.aon.pwr.qreq }
        else if s.aon.pwr.pst = .fail ∧ s.aon.pwr.vinOk = false then s
        else s.setPst .standby 0
      s.resumeStep

/-- FAIL (R477): lasers dark, flash and OTP writes cut, power-down. -/
def State.powerFail (s : State) : State :=
  if s.aon.pwr.pst = .fail then s
  else ((s.onCore (fun k => k.lsafeSet 1)).cutWrites).powerDown .fail

end Sys2Proof.Machine
end

