-- ==== Sys2Proof/Machine/Mop.lean ====
section
/-!
DEFINITION. The guaranteed operations (16_management R462 to R464, R468), the debug lock's session (R465), and the layout of an
event record (R449). Each operation is one step of this model: none is ever seen running.
-/

namespace Sys2Proof.Machine

open Sys2Proof

/-! ### Records as words (R449) -/

/-- The 256 bits of an event record. -/
def Event.bits (e : Event) : Nat :=
  Sys2Proof.Machine.args [(255, 176, e.time), (175, 160, e.src), (159, 128, e.seq), (127, 112, e.code), (111, 108, e.sev), (107, 0, e.args)]

/-- Word `w` of an event record. -/
def Event.word (e : Event) (w : Nat) : Nat := fld e.bits (32 * w + 31) (32 * w)

/-! ### The executor -/

/-- The executor as an event source. -/
abbrev mopSrc : Nat := 0x0001

/-- An operation ends: SUP_MOP_STAT, MARIGOLD_OP, and the MOP alert. How long it took is not modelled: free. -/
def State.mopEnd (s : State) (op : Nat) (forced : Bool) : State :=
  let el := Config.freeElapsed s.core.free % 65536
  let s := { s with
    aon := { s.aon with mop := { arm := none, op := op, st := stOk, elapsed := el } }
    core := (s.core.fresh).wrf Reg.MGT_ALERT_STAT 4 4 1 }
  s.emitA mopSrc 0x0010 [(107, 104, op), (103, 103, forced.toNat), (47, 32, el), (7, 0, stOk)]

/-- ZEROIZE: every slot and the unwrapped KEK copy (08_cipher R248). -/
def State.mopZeroize (s : State) (forced : Bool) : State := (s.onCore (fun k => k.zeroizeAll.settle)).mopEnd 1 forced

/-- A transfer of the optics controller in progress ends; what its result register then shows is not stated: free. -/
def Core.cutAccess (k : Core) : Core :=
  if k.opc.acc.isSome then
    ({ k with opc := { k.opc with acc := none, accRes := setFld k.opc.accRes 15 8 (Config.freeField k.free % 19) } } : Core).fresh
  else k

/-- LASER_SAFE (13_optics R381). -/
def State.mopLaser (s : State) (cause : Nat) (forced : Bool) : State :=
  (s.onCore (fun k => (k.cutAccess).lsafeSet cause)).mopEnd 2 forced

/-- HARD_RESET: reset of every domain outside Marigold; a warm boot follows. -/
def State.mopHardReset (s : State) : State := ((s.resetCore).mopEnd 3 false).openStart true

/-- Result words from `w` on. -/
def State.putResult (s : State) (w : Nat) (l : List Nat) : State :=
  { s with aon := l.zipIdx.foldl (fun (a : Aon) (p : Nat × Nat) => a.tbw Reg.SUP_MRES_TBL (w + p.2) p.1) s.aon }

/-- The sensor word of R463. -/
def Sensor.powerWord (x : Sensor) : Nat := args [(31, 31, x.valid.toNat), (15, 0, toFld 16 x.temp)]

/-- READ_POWER. -/
def State.mopPower (s : State) : State :=
  let p := s.aon.pwr
  let l := (List.range 48).map (fun n => (p.sensor n).powerWord) ++ [p.vin, p.iin, p.pin] ++
    (List.range 16).map (fun r => p.rails.get 0 r) ++
    [args [(31, 16, Config.freeSampleAge s.core.free), (0, 0, p.trip.toNat)]]
  (s.putResult 0 l).mopEnd 4 false

/-- READ_EVENTS. -/
def State.mopEvents (s : State) : State :=
  let l := ((s.aon.store.map (fun (e : Event) => (List.range 8).map e.word)).flatten ++ List.replicate 512 0).take 512
  (s.putResult 0 l).mopEnd 5 false

/-- READ_JOURNAL. -/
def State.mopJournal (s : State) : State := (s.putResult 0 ((List.range 512).map s.nvm.journalWord)).mopEnd 6 false

/-- Is `op` armed? -/
def State.armed (s : State) (op : Nat) : Bool :=
  match s.aon.mop.arm with
  | some (o, t) => o == op && decide (s.aon.now < t + 10000000)
  | none => false

/-- A refused write of SUP_MOP shows in SUP_MOP_STAT; the arming is gone all the same. -/
def State.mopRefuse (s : State) (st : Nat) : State := { s with aon := { s.aon with mop := { s.aon.mop with arm := none, st := st } } }

/-- A write of SUP_MOP (R462). -/
def State.mopWrite (s : State) (op : Nat) : State :=
  match op with
  | 1 => if s.armed 1 then s.mopZeroize false else s.mopRefuse stDenied
  | 2 => s.mopLaser 1 false
  | 3 => if s.armed 3 then s.mopHardReset else s.mopRefuse stDenied
  | 4 => s.mopPower
  | 5 => s.mopEvents
  | 6 => s.mopJournal
  | _ => s.mopRefuse stRange

/-- A write of SUP_MOP_ARM. -/
def State.mopArm (s : State) (op : Nat) : State :=
  { s with aon := { s.aon with mop := { s.aon.mop with arm := some (op, s.aon.now) } } }

/-- SUP_MOP_STAT. -/
def Aon.mopStat (a : Aon) : Nat := args [(27, 24, a.mop.op), (23, 16, a.mop.st), (15, 0, a.mop.elapsed)]

/-! ### Debug (R465) -/

/-- DEBUG_STATE, from the debug lock. -/
def State.debugEvent (s : State) (byLock : Bool) : State :=
  s.onCore (fun k => k.emit 0x8002 0x1001 [(107, 107, s.otp.locked.toNat), (106, 106, s.otp.session.toNat), (105, 105, byLock.toNat)])

/-- DBG_ENTER: zeroize, then the session; while debug is locked it decodes as BYPASS. -/
def State.dbgEnter (s : State) : State :=
  if s.otp.locked then s
  else
    let was := s.otp.session
    let s := s.mopZeroize false
    let s := { s with otp := { s.otp with session := true } }
    if was then s else s.debugEvent false

/-- The lock takes effect at the end of its write: an open session ends. -/
def State.debugLock (s : State) : State :=
  ({ s with otp := { s.otp with locked := true, session := false } } : State).debugEvent true

/-! ### Commands -/

/-- MOP_ARM (R462). -/
def execMopArm (val : Word) (s : State) : Host.Outcome State Fault Refusal := .next (s.mopArm (fld val.toNat 3 0))

/-- MOP_ARM_EXPIRE (R462). -/
def execMopArmExpire (s : State) : Host.Outcome State Fault Refusal :=
  .next (match s.aon.mop.arm with
    | some (_, t) => if t + 10000000 ≤ s.aon.now then { s with aon := { s.aon with mop := { s.aon.mop with arm := none } } } else s
    | none => s)

/-- ZEROIZE (R462). -/
def execZeroize (s : State) : Host.Outcome State Fault Refusal := .next (s.mopWrite 1)

/-- LASER_SAFE (R462). -/
def execLaserSafe (s : State) : Host.Outcome State Fault Refusal := .next (s.mopWrite 2)

/-- HARD_RESET (R462). -/
def execHardReset (s : State) : Host.Outcome State Fault Refusal := .next (s.mopWrite 3)

/-- READ_POWER (R463). -/
def execReadPower (s : State) : Host.Outcome State Fault Refusal := .next (s.mopWrite 4)

/-- READ_EVENTS (R462). -/
def execReadEvents (s : State) : Host.Outcome State Fault Refusal := .next (s.mopWrite 5)

/-- READ_JOURNAL (R462). -/
def execReadJournal (s : State) : Host.Outcome State Fault Refusal := .next (s.mopWrite 6)

/-- ZEROIZE_N_ASSERT (R464). -/
def execZeroizeNAssert (s : State) : Host.Outcome State Fault Refusal := .next (s.mopZeroize true)

/-- DBG_ENTER (R465). -/
def execDbgEnter (s : State) : Host.Outcome State Fault Refusal := .next s.dbgEnter

end Sys2Proof.Machine
end

