-- ==== Sys2Proof/Machine/Otp.lean ====
section
/-!
DEFINITION. OTP settings (15_boot_config R426 to R428, R439): the checks of a command, what its completion puts in force.
-/

namespace Sys2Proof.Machine

open Sys2Proof

abbrev otpSrc : Nat := 0x7001

/-- The data registers. -/
def Aon.otpData (a : Aon) : List Nat := (List.range 12).map (fun i => a.rd (Reg.OTP_DATA i))

/-- A status other than ST_OK that the spec does not name: free. -/
def freeRefusal (free : Nat) : Nat := 1 + Config.freeField free % 18

/-- Bits of the data that lie in the field of a command: word 0's mask, and how many words it takes whole. -/
def otpField (cmd : Nat) : Nat × Nat :=
  match cmd with
  | 1 => (0xF, 0)
  | 3 => (0xFFFFFFFF, 8)
  | 4 => (0xFFFFFFFF, 10)
  | 5 => (0xFFFF, 0)
  | 7 => (0xFFFFFFFF, 12)
  | _ => (0, 0)

def otpFieldOk (cmd : Nat) (d : List Nat) : Bool :=
  let f := otpField cmd
  (d.getD 0 0 &&& f.1) == d.getD 0 0 && (d.drop (max 1 f.2)).all (· == 0)

/-- Writes used of a command's setting, and how many are allowed (R426). -/
def Otp.used (o : Otp) (cmd : Nat) : Nat :=
  match cmd with
  | 1 => o.siteUsed | 2 => o.rbUsed | 3 => o.kekUsed | 4 => o.kekUsed | 5 => o.lmUsed | 6 => o.dbgUsed | _ => o.rootUsed

def otpLimit (cmd : Nat) : Nat := [0, 4, 128, 8, 8, 2, 1, 2].getD cmd 0

def Otp.countWrite (o : Otp) (cmd : Nat) : Otp :=
  match cmd with
  | 1 => { o with siteUsed := o.siteUsed + 1 }
  | 2 => { o with rbUsed := o.rbUsed + 1 }
  | 3 => { o with kekUsed := o.kekUsed + 1 }
  | 4 => { o with kekUsed := o.kekUsed + 1 }
  | 5 => { o with lmUsed := o.lmUsed + 1 }
  | 6 => { o with dbgUsed := o.dbgUsed + 1 }
  | _ => { o with rootUsed := o.rootUsed + 1 }

/-- The 256 bits of a key from data words, most significant first. -/
def keyOf (d : List Nat) : BitVec 256 := BitVec.ofNat 256 ((d.take 8).foldl (fun a w => a * 2 ^ 32 + w) 0)

def wordsBytes (d : List Nat) : List Byte := (d.map (beBytes 4)).flatten

/-- The key a KEK_NEXT carries, where it unwraps under the current KEK. -/
def Otp.nextKek (o : Otp) (d : List Nat) : Option (BitVec 256) :=
  match o.kek with
  | none => none
  | some k => (kwUnwrap k (wordsBytes (d.take 10))).map (fun b => BitVec.ofNat 256 (beNat b))

/-- The checks of R427, in order; a quiesce starts no write (17_power_thermal R475), with a status not stated: free. -/
def State.otpCheck (s : State) (cmd : Nat) : Nat :=
  let o := s.otp
  let d := s.aon.otpData
  if o.busy.isSome then stBusy
  else if s.quieted then freeRefusal s.core.free
  else if cmd = 0 ∨ 7 < cmd ∨ otpFieldOk cmd d = false then stRange
  else if otpLimit cmd ≤ o.used cmd then stLocked
  else if cmd = 2 ∧ s.aon.boot.svn < o.rollback + 1 then stRange
  else if (cmd = 3 ∧ o.kek.isSome) ∨ (cmd = 4 ∧ o.kek = none) then stDenied
  else if cmd = 4 ∧ o.nextKek d = none then stTag
  else stOk

/-- The data registers are cleared after every command. -/
def Aon.clearOtpData (a : Aon) : Aon := (List.range 12).foldl (fun (a : Aon) i => a.wr (Reg.OTP_DATA i) 0) a

/-- OTP_CMD: a write begins, its bank counted as used. -/
def State.otpCmd (s : State) (cmd : Nat) : State × Nat :=
  let st := s.otpCheck cmd
  let d := s.aon.otpData.map word
  let o := if st = stOk then { (s.otp.countWrite cmd) with busy := some (cmd, d), last := st } else { s.otp with last := st }
  ({ s with otp := o, aon := s.aon.clearOtpData, core := s.core.fresh }, st)

/-- A new KEK is current; the unwrapped copy is replaced where there is a core to hold it. -/
def State.newKek (s : State) (k : BitVec 256) : State :=
  let s := { s with otp := { s.otp with kek := some k, kekGen := s.otp.kekUsed - 1 } }
  if s.answers then { s with core := { s.core with cip := { s.core.cip with kek := some k } } } else s

/-- What a completed write puts in force. -/
def State.otpApply (s : State) (cmd : Nat) (d : List Nat) : State :=
  let o := s.otp
  match cmd with
  | 1 => { s with otp := { o with siteNext := some (d.getD 0 0) } }
  | 2 => { s with otp := { o with rollback := o.rollback + 1 } }
  | 3 => s.newKek (keyOf d)
  | 4 => (match o.nextKek d with
    | some k => s.newKek k
    | none => s)
  | 5 => { s with otp := { o with lineNext := d.getD 0 0 } }
  | 6 => s.debugLock
  | _ => { s with otp := { o with rootNext := some (wordsBytes d) } }

/-- The write under way completes: read back, in force, logged. -/
def State.otpDone (s : State) : State :=
  match s.otp.busy with
  | none => s
  | some (cmd, d) =>
    let s := ({ s with otp := { s.otp with busy := none } } : State).otpApply cmd (d.map (·.toNat))
    (s.emitA otpSrc 0x0E02 [(107, 104, cmd), (103, 96, s.otp.used cmd), (7, 0, stOk)]).quRun

/-- OTP_STAT, OTP_VALUE, OTP_LINEMASK, OTP_USED (R439). -/
def Otp.stat (o : Otp) : Nat := args [(31, 31, o.busy.isSome.toNat), (7, 0, o.last)]

def Otp.value (o : Otp) : Nat :=
  args [(31, 24, o.rollback), (23, 20, o.siteNext.getD 0), (19, 19, o.siteNext.isSome.toNat), (18, 18, o.locked.toNat)
       , (17, 15, o.kekGen), (14, 14, o.kek.isSome.toNat), (13, 13, o.rootNext.isSome.toNat)]

def Otp.usedWord (o : Otp) : Nat :=
  args [(31, 29, o.siteUsed), (28, 21, o.rbUsed), (20, 17, o.kekUsed), (16, 15, o.lmUsed), (14, 14, o.dbgUsed), (13, 12, o.rootUsed)]

/-! ### Commands: OTP_CMD with each CMD -/

/-- OTP_SITE (R427). -/
def execOtpSite (s : State) : Host.Outcome State Fault Refusal := .next (s.otpCmd 1).1

/-- OTP_ROLLBACK_INC (R427). -/
def execOtpRollbackInc (s : State) : Host.Outcome State Fault Refusal := .next (s.otpCmd 2).1

/-- OTP_KEK_FIRST (R428). -/
def execOtpKekFirst (s : State) : Host.Outcome State Fault Refusal := .next (s.otpCmd 3).1

/-- OTP_KEK_NEXT (R428). -/
def execOtpKekNext (s : State) : Host.Outcome State Fault Refusal := .next (s.otpCmd 4).1

/-- OTP_LINEMASK (R427). -/
def execOtpLinemask (s : State) : Host.Outcome State Fault Refusal := .next (s.otpCmd 5).1

/-- OTP_DEBUG_LOCK (R465). -/
def execOtpDebugLock (s : State) : Host.Outcome State Fault Refusal := .next (s.otpCmd 6).1

/-- OTP_ROOT_HASH (R427). -/
def execOtpRootHash (s : State) : Host.Outcome State Fault Refusal := .next (s.otpCmd 7).1

/-- OTP_WRITE_DONE (R427). -/
def execOtpWriteDone (s : State) : Host.Outcome State Fault Refusal := .next s.otpDone

end Sys2Proof.Machine
end

