-- ==== Sys2Proof/Machine/Nvm.lean ====
section
/-!
DEFINITION. The flash (15_boot_config R412 to R415, R418, R425): image slots, the sections of an image, the checks of a slot,
the BOOT_NVM commands.
-/

namespace Sys2Proof.Machine

open Sys2Proof

/-- The size of an image slot. -/
abbrev slotSize : Nat := 25165824

/-- `n` bytes of a slot from an offset; flash not written reads erased. -/
def Nvm.bytes (v : Nvm) (slot off n : Nat) : List Byte :=
  (List.range n).map (fun i => v.slots.get 0xFF (slot * slotSize + off + i))

def Nvm.num (v : Nvm) (slot off n : Nat) : Nat := beNat (v.bytes slot off n)

def Nvm.byteN (v : Nvm) (slot off : Nat) : Nat := v.num slot off 1

/-- A section: its type, the offset of its words in the slot, how many. -/
structure Section where
  typ : Nat
  off : Nat
  n : Nat
deriving DecidableEq, Repr

/-- LEN of the image in a slot (R414). -/
def Nvm.imgLen (v : Nvm) (slot : Nat) : Nat := v.num slot 8 4

/-- `n` sections from `off`, none where one runs past the end or has reserved bytes not 0 (R415). -/
def Nvm.walk (v : Nvm) (slot : Nat) : Nat → Nat → Option (List Section)
  | 0, _ => some []
  | n + 1, off =>
    let c := v.num slot (off + 4) 4
    if 512 + v.imgLen slot < off + 8 + 4 * c ∨ v.num slot (off + 1) 3 ≠ 0 then none
    else (v.walk slot n (off + 8 + 4 * c)).map (fun l => { typ := v.byteN slot off, off := off + 8, n := c } :: l)

def Nvm.sections (v : Nvm) (slot : Nat) : Option (List Section) := v.walk slot (v.byteN slot 5) 512

/-- The words of a section of the given type; none where the image has no such section. -/
def Nvm.sectionWords (v : Nvm) (slot typ : Nat) : Option (List Word) :=
  ((v.sections slot).getD []).find? (fun (x : Section) => x.typ == typ) |>.map (fun (x : Section) =>
    (List.range x.n).map (fun i => word (v.num slot (x.off + 4 * i) 4)))

/-- The form of an image (R414, R415): the first check of R418. -/
def Nvm.formOk (v : Nvm) (slot : Nat) : Bool :=
  let len := v.imgLen slot
  v.num slot 0 4 == 0x574E494D && v.byteN slot 4 == 1 && decide (1 ≤ v.byteN slot 5 ∧ v.byteN slot 5 ≤ 32) &&
  v.num slot 6 2 == 0 && v.byteN slot 15 == 0 && (v.bytes slot 264 248).all (· == 0) &&
  decide (len % 4 = 0 ∧ len ≤ 25165312) &&
  (match v.sections slot with
  | none => false
  | some l =>
    let t := l.map (fun (x : Section) => x.typ)
    t.all (fun i => decide (1 ≤ i ∧ i ≤ 8)) && decide t.Nodup)

/-- R418: the checks of a slot, in order. -/
def State.imageCheck (s : State) (slot : Nat) : Nat :=
  let v := s.nvm
  let pub := v.bytes slot 72 96
  let has := fun (t : Nat) => (v.sectionWords slot t).isSome
  if !v.formOk slot then stRange
  else if sha384 (v.bytes slot 512 (v.imgLen slot)) ≠ v.bytes slot 24 48 then stCorrupt
  else if s.otp.root ≠ some (sha384 pub) then stDenied
  else if ecdsaOk (beNat (pub.take 48), beNat (pub.drop 48)) (v.num slot 168 48) (v.num slot 216 48) (v.bytes slot 0 168) = false then stDenied
  else if v.byteN slot 12 < s.otp.rollback then stDenied
  else if s.otp.siteVal ≠ some (v.byteN slot 13 % 16) then stDenied
  else if !has 1 || !has 6 then stRange
  else stOk

/-! ### BOOT_NVM commands (R425) -/

/-- The page buffer's 256 bytes. -/
def Aon.pageBytes (a : Aon) : List Byte := wordsBytes ((List.range 64).map (fun w => a.tb Reg.BOOT_NVMB_TBL w))

def Nvm.put (v : Nvm) (at_ : Nat) (l : List Byte) : Nvm :=
  { v with slots := l.zipIdx.foldl (fun (m : SMap Byte) (p : Byte × Nat) => m.set 0xFF (at_ + p.2) p.1) v.slots }

def Nvm.erase (v : Nvm) (slot : Nat) : Nvm :=
  { v with slots := { cells := v.slots.cells.filter (fun c => c.1 / slotSize != slot) } }

/-- A quiesce starts no command (17_power_thermal R475), with a status not stated: free. -/
def State.nvmCheck (s : State) (cmd slot page : Nat) : Nat :=
  if s.nvm.busy.isSome then stBusy
  else if s.quieted then freeRefusal s.core.free
  else if cmd = 0 ∨ 3 < cmd then stRange
  else if slot = s.aon.boot.image then stDenied
  else if cmd = 2 ∧ 98303 < page then stRange
  else stOk

/-- BOOT_NVM_CMD: 1 ERASE, 2 PROGRAM, 3 VERIFY. A page takes its bytes at the command. -/
def State.nvmCmd (s : State) (cmd slot page : Nat) : State × Nat :=
  let st := s.nvmCheck cmd slot page
  let s := { s with core := s.core.fresh }
  if st ≠ stOk then (s, st)
  else
    let v := if cmd = 2 then s.nvm.put (slot * slotSize + 256 * page) s.aon.pageBytes else s.nvm
    ({ s with nvm := { v with busy := some (cmd, slot, page) } }, stOk)

/-- The command under way completes. -/
def State.nvmDone (s : State) : State :=
  match s.nvm.busy with
  | none => s
  | some (cmd, slot, _) =>
    let v := if cmd = 1 then s.nvm.erase slot else s.nvm
    ({ s with nvm := { v with busy := none, st := if cmd = 3 then s.imageCheck slot else stOk } } : State).quRun

/-- BOOT_NVM_STAT. -/
def Nvm.stat (v : Nvm) : Nat := args [(31, 31, v.busy.isSome.toNat), (7, 0, v.st)]

/-! ### BOOT registers (R438) -/

/-- The status of a write of a BOOT register shows in BOOT_STAT. -/
def State.bootWrote (r : State × Nat) : State := { r.1 with aon := r.1.aon.wrf Reg.BOOT_STAT 7 0 r.2 }

/-- BOOT_CTRL: PREF is held with every command; WARM starts a warm boot, but not while a trip holds THERM_TRIP_N low
(17_power_thermal R480). -/
def State.bootCtrl (s : State) (v : Nat) : State × Nat :=
  let cmd := fld v 31 28
  if 1 < cmd then (s, stRange)
  else if cmd = 1 ∧ s.aon.pwr.trip = true then (s, stDenied)
  else
    let s := { s with aon := s.aon.wr Reg.BOOT_CTRL (v % 2) }
    (if cmd = 1 then s.warmBoot else s, stOk)

/-- BOOT_STAT: STEP shows the step that runs or is halted at. -/
def Aon.bootStat (a : Aon) : Nat :=
  let b := a.boot
  args [(31, 30, b.phase), (29, 26, if b.phase = 1 ∨ b.wait = true then 0 else b.step), (25, 25, b.warm.toNat), (24, 24, b.image)
       , (15, 8, b.haltSt), (7, 0, a.fd Reg.BOOT_STAT 7 0)]

/-! ### Commands -/

/-- NVM_ERASE (R425). -/
def execNvmErase (slot : Fin 2) (s : State) : Host.Outcome State Fault Refusal := .next (State.bootWrote (s.nvmCmd 1 slot.val 0))

/-- NVM_PROGRAM (R425). -/
def execNvmProgram (slot : Fin 2) (page : Nat) (s : State) : Host.Outcome State Fault Refusal :=
  .next (State.bootWrote (s.nvmCmd 2 slot.val page))

/-- NVM_VERIFY (R425). -/
def execNvmVerify (slot : Fin 2) (s : State) : Host.Outcome State Fault Refusal := .next (State.bootWrote (s.nvmCmd 3 slot.val 0))

/-- NVM_COMMAND_DONE (R425). -/
def execNvmCommandDone (s : State) : Host.Outcome State Fault Refusal := .next s.nvmDone

end Sys2Proof.Machine
end

