-- ==== Sys2Proof/Machine/Power.lean ====
section
/-!
DEFINITION. Power, hot plug, thermal sensors, clocks and the error-locus commands (17_power_thermal R470 to R494).
-/

namespace Sys2Proof.Machine

open Sys2Proof

/-! ### Input stage and rails (R470, R471) -/

/-- Nominal voltage in mV and tolerance in percent of rail `r`. -/
def railSpec (r : Nat) : Nat × Nat :=
  [(800, 3), (750, 3), (850, 3), (750, 3), (750, 3), (750, 3), (750, 3), (750, 3), (900, 2), (900, 2), (1200, 2),
   (1100, 3), (400, 3), (1800, 3), (1800, 5), (3300, 5)].getD r (0, 0)

/-- Is a voltage outside a rail's tolerance? -/
def railBad (r mv : Nat) : Bool :=
  let z := railSpec r
  decide (100 * mv < z.1 * (100 - z.2) ∨ z.1 * (100 + z.2) < 100 * mv)

/-- INPUT_ALARM: too much input power is logged; a rail outside its tolerance is logged and starts the hard reset, and the
next start's step 2 uses its alternate method. -/
def State.inputAlarm (s : State) (rail mv pw : Nat) : State :=
  let ev := fun (s : State) (r : Nat) => s.emitA stageSrc 0x1107 [(107, 104, r), (31, 16, mv), (15, 0, pw)]
  if 16 ≤ rail then (if 8000 < pw then ev s 15 else s)
  else if railBad rail mv then
    let s := ev s rail
    (s.setBoot { s.aon.boot with altRails := true }).mopHardReset
  else s

/-- The input is lost. -/
def State.inputLost (s : State) : State :=
  let s := s.powerFail
  s.setPwr { s.aon.pwr with vinOk := false }

/-! ### Hot plug (R473 to R477) -/

/-- PWR_EN rises: step 2 goes on where it waits; with no start under way in STANDBY, one opens, the first of all a cold one. -/
def State.enRise (s : State) : State :=
  if s.aon.pwr.pwrEn then s
  else
    let s := s.setPwr { s.aon.pwr with pwrEn := true }
    let idle := s.aon.boot.phase == 0 && s.aon.boot.step == 0
    if idle && s.aon.pwr.vinOk && (s.aon.pwr.pst == .standby || s.aon.pwr.pst == .fail || s.aon.pwr.pst == .safe) then
      s.openStart (decide (0 < s.nvm.bootNum))
    else s.resumeStep

/-- PWR_EN falls: in SAFE the orderly end of a quiesce, with the rails up otherwise a power fail. -/
def State.enFall (s : State) : State :=
  if !s.aon.pwr.pwrEn then s
  else
    let s := s.setPwr { s.aon.pwr with pwrEn := false }
    match s.aon.pwr.pst with
    | .safe => s.powerDown .safe
    | .ramping => s.powerFail
    | .on => s.powerFail
    | .quiescing => s.powerFail
    | _ => s

/-- QUIESCE_REQ_N is low: the quiesce begins at once, or when the boot step under way completes. -/
def State.quRequest (s : State) : State :=
  if s.aon.pwr.qreq then s.quRun
  else
    let s := s.setPwr { s.aon.pwr with qreq := true }
    if s.aon.pwr.pst = .on ∧ s.aon.boot.phase ≠ 0 then s.quStart else s

/-- QUIESCE_REQ_N rises: SAFE_RM_N returns high, functions and laser safe stay; a held boot step goes on. -/
def State.quEnd (s : State) : State :=
  let p := s.aon.pwr
  if !p.qreq then s
  else
    let s := s.setPwr { p with qreq := false, quStage := 0, safeRm := false }
    if (p.pst = .quiescing ∨ p.pst = .safe) ∧ p.pdT = none then (s.setPst .on 0).resumeStep else s

/-! ### Thermal sensors (R478 to R481) -/

/-- Threshold `t` (0 WARN, 1 THROTTLE, 2 TRIP) of a group in 1/16 °C: group 2 stands lowered in STEP. -/
def Aon.threshold (a : Aon) (g t : Nat) : Int :=
  let low := if g = 2 ∧ a.inStep = true then a.fd Reg.THM_STEP 23 16 else 0
  16 * ((a.fd (Reg.THM_GRP g) (31 - 8 * t) (24 - 8 * t) : Int) - low)

/-- A sensor after a sample: a reading outside -40 °C to 150 °C, or none, is not valid. -/
def Sensor.next (x : Sensor) (r : Option Int) : Sensor :=
  match r with
  | some t =>
    if -640 ≤ t ∧ t ≤ 2400 then { valid := true, temp := t, hist := if x.valid then (x.temp :: x.hist).take 100 else [] }
    else { x with valid := false, hist := [] }
  | none => { x with valid := false, hist := [] }

/-- The reading less the reading 1 ms earlier, 100 samples of 10 µs. -/
def Sensor.rise (x : Sensor) : Int := if x.valid ∧ x.hist.length = 100 then x.temp - x.hist.getD 99 x.temp else 0

/-- The rate in 0.1 °C/ms; the rounding is not stated: free. -/
def Sensor.rate10 (x : Sensor) (free : Nat) : Int :=
  let n := 10 * x.rise
  n / 16 + (if n % 16 = 0 then 0 else (Config.freeField free % 2 : Nat))

/-- The valid sensor of a group that reads highest, the lowest-numbered of several. -/
def Pwr.hottest (p : Pwr) (inG : Nat → Bool) : Option Nat :=
  ((List.range 48).filter (fun n => inG n && (p.sensor n).valid)).foldl (fun (m : Option Nat) n =>
    match m with
    | none => some n
    | some o => if (p.sensor o).temp < (p.sensor n).temp then some n else some o) none

def State.thermalEvent (s : State) (n t on : Nat) : State :=
  s.emitA (0x8800 + n) 0x1101 [(107, 106, t + 1), (105, 105, on), (15, 0, toFld 16 (s.aon.pwr.sensor n).temp)]

/-- TEMP_STEP of a sensor. -/
def State.stepEvent (s : State) (n on : Nat) : State :=
  let x := s.aon.pwr.sensor n
  s.emitA (0x8800 + n) 0x1102 [(107, 107, on), (27, 16, toFld 12 (x.rate10 s.core.free)), (15, 0, toFld 16 x.temp)]

/-- STEP ends, logged. -/
def State.stepLeave (s : State) : State :=
  match s.aon.pwr.stepT with
  | none => s
  | some (_, n) => (s.setPwr { s.aon.pwr with stepT := none }).stepEvent n 0

/-- A trip: THERM_TRIP_N low, laser safe, power-down, which ends STEP (R487). -/
def State.tripNow (s : State) : State :=
  let s := (s.setPwr { s.aon.pwr with trip := true }).stepLeave
  (s.mopLaser 3 true).powerDown .tripped

/-- A threshold of a group: it comes into force at the first valid sensor at or above it, and goes when every sensor has
been 5 °C below for 100 ms. -/
def State.thresholdStep (s : State) (g t : Nat) : State :=
  match s.aon.pwr.hottest (fun n => sensorGroup n == g) with
  | none => s
  | some n =>
    let p := s.aon.pwr
    let temp := (p.sensor n).temp
    let lim := s.aon.threshold g t
    let on := bitAt (p.thr.get 0 g) t
    let put := fun (b : Bool) (c : Nat) => s.setPwr { p with thr := p.thr.set 0 g (setBit (p.thr.get 0 g) t b), cool := p.cool.set 0 (4 * g + t) c }
    let since := p.cool.get 0 (4 * g + t)
    if lim ≤ temp then
      if on then put true 0
      else
        let s := (put true 0).thermalEvent n t 1
        if t = 2 ∧ s.aon.pwr.trip = false then s.tripNow else s
    else if !on then s
    else if lim - 80 < temp then put true 0
    else if since = 0 then put true (s.aon.now + 1)
    else if s.aon.now < since - 1 + 100000000 then s
    else (put false 0).thermalEvent n t 0

/-- Does every valid sensor read at least 15 °C below its group's WARN (R480)? -/
def Aon.cooled (a : Aon) : Bool :=
  (List.range 48).all (fun n => !(a.pwr.sensor n).valid || decide ((a.pwr.sensor n).temp ≤ a.threshold (sensorGroup n) 0 - 240))

/-- A trip that a reset released is asserted again where R480 still holds it (18_pins_package R497). -/
def State.tripAgain (s : State) : State :=
  let p := s.aon.pwr
  if p.tripBack then s.setPwr { p with tripBack := false, trip := p.trip || !s.aon.cooled } else s

/-- The trip is released once every sensor has cooled (R480). -/
def State.tripRelease (s : State) : State :=
  let p := s.aon.pwr
  if p.trip ∧ s.aon.cooled then
    (s.setPwr { p with trip := false }).resumeStep
  else s

/-- A valid sensor above the rate keeps the module in STEP, or brings it there. -/
def State.stepStep (s : State) : State :=
  let p := s.aon.pwr
  match (List.range 48).find? (fun n => decide ((16 * s.aon.fd Reg.THM_STEP 31 24 : Nat) < 10 * (p.sensor n).rise)) with
  | none => s
  | some n =>
    let t := s.setPwr { p with stepT := some (s.aon.now, n) }
    if p.stepT.isSome then t else (({ t with aon := t.aon.cnt Reg.THM_STEP_CNT } : State).stepEvent n 1)

/-- Marigold's own monitors: what they read is free; a rail that is off reads 0. -/
def State.monitors (s : State) : State :=
  let f := s.core.free
  let p := s.aon.pwr
  let up := p.pst == .ramping || p.pst == .on || p.pst == .quiescing || p.pst == .safe
  let rails := (List.range 16).foldl (fun (m : SMap Nat) r =>
    m.set 0 r (if up || r == 0 || r == 14 then Config.freeField (f + 3 + r) % 2 ^ 32 else 0)) p.rails
  let s := s.setPwr { p with vin := Config.freeField f % 65536, iin := Config.freeField (f + 1) % 65536
                             pin := Config.freeField (f + 2) % 2 ^ 20, rails := rails }
  { s with core := { s.core with free := f + 19 } }

/-- A sample of all sensors (R478 to R481): STEP and TRIP of the same sample both apply (R487). -/
def State.thermalSample (s : State) (temps : List (Option Int)) : State :=
  let p := s.aon.pwr
  let sens := (List.range 48).foldl (fun (m : SMap Sensor) n => m.upd {} n (fun x => x.next (temps.getD n none))) p.sens
  let s := (s.setPwr { p with sens := sens }).monitors
  let s := s.stepStep
  let s := (List.range 15).foldl (fun (s : State) i => s.thresholdStep (i / 3) (i % 3)) s
  s.tripAgain.tripRelease

/-- THROTTLE in force in some group. -/
def Pwr.throttled (p : Pwr) : Bool := p.thr.cells.any (fun c => bitAt c.2 1)

/-- STEP ends HOLD ms after the last sample above the rate. -/
def State.stepEnd (s : State) : State :=
  match s.aon.pwr.stepT with
  | none => s
  | some (t, _) => if s.aon.now < t + 1000000 * s.aon.fd Reg.THM_STEP 15 0 then s else s.stepLeave

/-! ### Clocks (R488) -/

/-- CLOCK_FAULT. -/
def State.clockEvent (s : State) : State :=
  s.emitA clkSrc 0x1106 [(107, 92, s.aon.pwr.lock), (91, 91, s.aon.pwr.refclk.toNat)]

/-- The PLL whose domain event source `src` stands in: 1 the press tiles, 2 the cipher cores, 3 the timebase and time
transfer, 8 + s the controller of HBM stack s with its pseudo-channels, 0 any other (R16, R18). -/
def pllOfSrc (src : Nat) : Nat :=
  if 0x2800 ≤ src ∧ src < 0x2810 then 1
  else if 0x4800 ≤ src ∧ src < 0x48A0 then 2
  else if src = 0x6800 ∨ src = 0x6801 then 3
  else if 0x3800 ≤ src ∧ src < 0x3808 then 8 + (src - 0x3800)
  else if 0x3808 ≤ src ∧ src < 0x3908 then 8 + (src - 0x3808) / 32
  else 0

/-- The event numbers of PLL `i`'s domain start again (R19). -/
def Core.seqReset (k : Core) (i : Nat) : Core :=
  { k with evl := { k.evl with seqs := { cells := k.evl.seqs.cells.filter (fun c => pllOfSrc c.1 != i) } } }

/-- The router leaves reset now: its versions' 10 us start (R83, R390). -/
def Core.routerFresh (k : Core) : Core :=
  { k with frt := { k.frt with ep := { zt0 := k.now, zt1 := k.now }, sep := { zt0 := k.now, zt1 := k.now } } }

/-- The domains a PLL drives are held in reset: 0 CORE, 1 PRESS, 2 CIPH, 3 TBS, 4 and 5 fabric transmit, 6 and 7 line
transmit, 8 to 15 the HBM controllers; the event numbers of their sources start again. -/
def Core.pllReset (k : Core) (i : Nat) : Core :=
  let k := k.seqReset i
  if i = 0 then (({ (k.afterReset) with tim := k.tim, svc := k.svc, evl := { seqs := k.evl.seqs } } : Core).timeHold).routerFresh
  else if i = 2 then { k with cip := { k.cip with cores := {} } }
  else if i = 3 then { k with tim := { run := k.tim.run } }
  else if 8 ≤ i then
    let s := i - 8
    { k with regs := { cells := k.regs.cells.filter (fun c =>
        !(decide (Reg.HBC_S_STAT s ≤ c.1) && decide (c.1 < Reg.HBC_S_STAT s + 0x4000))) } }
  else k

/-- A PLL loses lock. -/
def State.pllLoss (s : State) (i : Nat) : State :=
  if !bitAt s.aon.pwr.lock i then s
  else
    let s := s.setPwr { s.aon.pwr with lock := setBit s.aon.pwr.lock i false, held := setBit s.aon.pwr.held i true }
    (({ s with aon := s.aon.cnt Reg.CLK_UNLOCK_CNT } : State).onCore (fun k => k.pllReset i)).clockEvent

/-- CLK_STAT. -/
def Aon.clkStat (a : Aon) : Nat := args [(31, 31, a.pwr.refclk.toNat), (15, 0, a.pwr.lock)]

/-! ### Registers (R490, R491) -/

/-- A THM_GRP write: WARN < THROTTLE < TRIP, and TRIP not above its reset value. -/
def thmGrpOk (g v : Nat) : Bool :=
  decide (fld v 31 24 < fld v 23 16 ∧ fld v 23 16 < fld v 15 8 ∧ fld v 15 8 ≤ fld (regReset (Reg.THM_GRP g)).toNat 15 8)

/-- A write of a PWR, THM or ELC register. -/
def State.pwrWrite (s : State) (a v : Nat) : State × Nat :=
  if a = Reg.ELC_CMD then s.elcCmd (fld v 31 28) (fld v 9 0)
  else if Reg.THM_GRP 0 ≤ a ∧ a ≤ Reg.THM_GRP 4 then
    if thmGrpOk ((a - Reg.THM_GRP 0) / 4) v then ({ s with aon := (s.aon.rw a v).1 }, stOk) else (s, stRange)
  else
    let r := s.aon.rw a v
    ({ s with aon := r.1 }, r.2)

/-- PWR_STAT, THM_STAT and the windows as read. -/
def Aon.pwrStat (a : Aon) : Nat :=
  args [(31, 29, a.pwr.pst.code), (28, 28, a.pwr.pwrEn.toNat), (27, 27, a.pwr.qreq.toNat), (26, 26, a.pwr.throttled.toNat)
       , (25, 25, a.inStep.toNat), (7, 0, a.fd Reg.PWR_STAT 7 0)]

def Aon.thmStat (a : Aon) : Nat :=
  match a.pwr.hottest (fun _ => true) with
  | none => 0
  | some n => args [(31, 26, n), (15, 0, toFld 16 (a.pwr.sensor n).temp)]

def State.sensorWord (s : State) (n : Nat) : Nat :=
  let x := s.aon.pwr.sensor n
  args [(31, 31, x.valid.toNat), (30, 28, sensorGroup n), (27, 16, toFld 12 (x.rate10 s.core.free)), (15, 0, toFld 16 x.temp)]

/-- The status of a write to the PWR block shows in PWR_STAT. -/
def State.pwrSt (r : State × Nat) : State := { r.1 with aon := r.1.aon.wrf Reg.PWR_STAT 7 0 r.2 }

/-! ### Commands -/

/-- PWR_EN_RISE (R473). -/
def execPwrEnRise (s : State) : Host.Outcome State Fault Refusal := .next s.enRise

/-- PWR_EN_FALL (R476, R477). -/
def execPwrEnFall (s : State) : Host.Outcome State Fault Refusal := .next s.enFall

/-- PRSNT_N_RELEASE (R477). -/
def execPrsntNRelease (s : State) : Host.Outcome State Fault Refusal :=
  .next (if s.aon.pwr.pwrEn then s.powerFail else s)

/-- INPUT_UNDERVOLTAGE (R470, R477). -/
def execInputUndervoltage (mv : Nat) (s : State) : Host.Outcome State Fault Refusal :=
  .next (if mv < 38000 then s.inputLost else s)

/-- INPUT_OVERVOLTAGE (R470): the shutdown is handled as an input lost (R472). -/
def execInputOvervoltage (mv : Nat) (s : State) : Host.Outcome State Fault Refusal :=
  .next (if 62000 < mv then s.inputLost else s)

/-- INPUT_OVERCURRENT (R470): the input switch opens. -/
def execInputOvercurrent (ma : Nat) (s : State) : Host.Outcome State Fault Refusal :=
  .next (if 24000 < ma then s.inputLost else s)

/-- INPUT_ALARM (R470, R471). -/
def execInputAlarm (rail mv pw : Nat) (s : State) : Host.Outcome State Fault Refusal := .next (s.inputAlarm rail mv pw)

/-- QUIESCE_REQUEST (R475). -/
def execQuiesceRequest (s : State) : Host.Outcome State Fault Refusal := .next s.quRequest

/-- QUIESCE_END (R476). -/
def execQuiesceEnd (s : State) : Host.Outcome State Fault Refusal := .next s.quEnd

/-- QUIESCE_TIMEOUT (R475). -/
def execQuiesceTimeout (s : State) : Host.Outcome State Fault Refusal := .next s.quRun

/-- THERMAL_SAMPLE (R478 to R481). -/
def execThermalSample (temps : List (Option Int)) (s : State) : Host.Outcome State Fault Refusal := .next (s.thermalSample temps)

/-- TEMP_STEP_END (R481). -/
def execTempStepEnd (s : State) : Host.Outcome State Fault Refusal := .next s.stepEnd

/-- REFCLK_LOSS (R488). -/
def execRefclkLoss (s : State) : Host.Outcome State Fault Refusal :=
  .next ((s.setPwr { s.aon.pwr with refclk := false }).clockEvent.mopHardReset)

/-- PLL_UNLOCK (R488). -/
def execPllUnlock (i : Fin 16) (s : State) : Host.Outcome State Fault Refusal := .next (s.pllLoss i.val)

/-- PLL_LOCK (R488). -/
def execPllLock (i : Fin 16) (s : State) : Host.Outcome State Fault Refusal :=
  .next (s.setPwr { s.aon.pwr with lock := setBit s.aon.pwr.lock i.val true, held := setBit s.aon.pwr.held i.val false })

/-- LOCUS_COUNT_CLEAR (R483): at a global time that is a multiple of 24 h. -/
def execLocusCountClear (s : State) : Host.Outcome State Fault Refusal :=
  .next (let d := s.core.gns / 86400000000000
    if d = s.aon.pwr.day then s else { s with aon := { (s.aon.clearLocus) with pwr := { s.aon.pwr with day := d } } })

/-- SOAK_PASS (R485). -/
def execSoakPass (u : Fin 752) (err : Bool) (s : State) : Host.Outcome State Fault Refusal := .next (s.soak u.val err)

/-- ELC_QUARANTINE (R491). -/
def execElcQuarantine (u : Fin 1024) (s : State) : Host.Outcome State Fault Refusal := .next (State.pwrSt (s.elcCmd 1 u.val))

/-- ELC_RELEASE (R491). -/
def execElcRelease (u : Fin 1024) (s : State) : Host.Outcome State Fault Refusal := .next (State.pwrSt (s.elcCmd 2 u.val))

/-- HBM_CONTROLLER_FAULT (07_buffers_memory R218); step 5 of the next start excludes the stack. -/
def execHbmControllerFault (stack : Fin 8) (s : State) : Host.Outcome State Fault Refusal :=
  .next (let hit := bitAt s.core.svc.stackSet stack.val && s.core.isOn .hbc
    let t := s.onCore (fun k => (k.controllerEv stack.val).settle)
    if hit then t.setBoot { t.aon.boot with badStack := setBit t.aon.boot.badStack stack.val true, warmDue := true } else t)

end Sys2Proof.Machine
end

