-- ==== Sys2Proof/Machine/Telemetry.lean ====
section
/-!
DEFINITION. Telemetry export, the event log and aster (16_management R449 to R461, R467).
-/

namespace Sys2Proof.Machine

open Sys2Proof

/-! ### Telemetry export (R458 to R461) -/

abbrev tlmSrc : Nat := 0x7802

/-- Entries of 64 B a record takes, its header included. -/
def TlmRec.entries (r : TlmRec) : Nat := (r.body.length + 4 + 63) / 64

def TlmRec.bytes (r : TlmRec) : List Byte := [byte r.typ, 0] ++ beBytes 2 r.body.length ++ r.body

/-- Entries in use. -/
def Core.tlmOcc (k : Core) : Nat := (k.tlm.fifo.map (fun (r : TlmRec) => r.entries)).sum

def Core.tlmEn (k : Core) : Bool := bitAt (k.rd Reg.TLM_CFG) 31
def Core.tlmHwm (k : Core) : Nat := k.fd Reg.TLM_FIFO 29 20
def Core.tlmLwm (k : Core) : Nat := k.fd Reg.TLM_FIFO 19 10

/-- The high flag of R17 follows occupancy; TLM_HWM is high while it is set. -/
def Core.tlmFlag (k : Core) : Core :=
  let occ := k.tlmOcc
  let hi := if k.tlmHwm ≤ occ then true else if occ ≤ k.tlmLwm then false else k.tlm.hiFlag
  { k with tlm := { k.tlm with hiFlag := hi } }

/-- The pin TLM_LWM. -/
def Core.tlmLow (k : Core) : Bool := decide (k.tlmOcc ≤ k.tlmLwm)

/-- A record is dropped. -/
def Core.tlmDrop (k : Core) (typ : Nat) (alert : Bool) : Core :=
  let k := k.cnt Reg.TLM_DROP_CNT
  let k := if alert then k.wrf Reg.MGT_ALERT_STAT 3 3 1 else k
  k.emitLim tlmSrc 0x0F03 0 0 32 [(107, 104, typ)]

/-- A record for export: admitted by R461, or dropped. Nothing is exported while EN is 0. -/
def Core.tlmPush (k : Core) (typ : Nat) (body : List Byte) : Core :=
  if !k.tlmEn then k
  else
    let r : TlmRec := { typ := typ, body := body }
    let n := k.tlmOcc + r.entries
    if 512 < n then k.tlmDrop typ (typ == 1)
    else if k.tlmHwm ≤ n ∧ typ ≠ 1 then k.tlmDrop typ false
    else
      ({ k with tlm := { k.tlm with
        fifo := k.tlm.fifo ++ [r], curT := if k.tlm.fifo.isEmpty then k.now else k.tlm.curT } } : Core).tlmFlag

/-- How many records from the front fit a datagram beside `used` bytes. -/
def tlmFit : Nat → List TlmRec → Nat
  | _, [] => 0
  | used, r :: l => if used + 4 + r.body.length ≤ 1472 then 1 + tlmFit (used + 4 + r.body.length) l else 0

/-- The export header (R459). -/
def Core.tlmHeader (k : Core) (n : Nat) : List Byte :=
  beBytes 2 0x544D ++ [1, byte (k.fd Reg.CIP_SENDER 9 6), byte (k.fd Reg.CIP_SENDER 5 0), 0] ++ beBytes 2 n ++
  beBytes 4 k.tlm.seq ++ beBytes 8 k.gns ++ beBytes 4 0

/-- The IPv4 header checksum (RFC 791): the ones' complement of the ones' complement sum of its 16-bit words. -/
def ipSum (l : List Byte) : Nat :=
  let s := ((List.range (l.length / 2)).map (fun i => beNat (slice l (2 * i) 2))).sum
  let s := s % 65536 + s / 65536
  65535 - (s % 65536 + s / 65536)

/-- The Ethernet frame of a datagram, its FCS left to the port. Type of service and identification are not stated: free. -/
def Core.tlmFrame (k : Core) (pay : List Byte) : List Byte :=
  let ip := fun (sum : Nat) => [0x45, byte (Config.freeField k.free)] ++ beBytes 2 (28 + pay.length) ++
    beBytes 2 (Config.freeField (k.free + 1)) ++ beBytes 2 0x4000 ++ [64, 17] ++ beBytes 2 sum ++
    beBytes 4 (k.rd Reg.TLM_SIP) ++ beBytes 4 (k.rd Reg.TLM_DIP)
  beBytes 2 (k.rd Reg.TLM_DMAC_HI) ++ beBytes 4 (k.rd Reg.TLM_DMAC_LO) ++
  beBytes 2 (k.rd Reg.TLM_SMAC_HI) ++ beBytes 4 (k.rd Reg.TLM_SMAC_LO) ++ beBytes 2 0x0800 ++ ip (ipSum (ip 0)) ++
  beBytes 4 (k.rd Reg.TLM_UDP) ++ beBytes 2 (8 + pay.length) ++ beBytes 2 0 ++ pay

/-- A datagram goes when the next record would not fit, or 10 µs after its first record; not while the link is down or
the port pauses. -/
def Core.datagram (k : Core) : Core :=
  let n := tlmFit 24 k.tlm.fifo
  if n = 0 ∨ k.tlm.link = false ∨ k.now < k.tlm.pauseTill then k
  else if n = k.tlm.fifo.length ∧ k.now < k.tlm.curT + 10000 then k
  else
    let pay := k.tlmHeader n ++ ((k.tlm.fifo.take n).map (fun (r : TlmRec) => r.bytes)).flatten
    let f := k.tlmFrame pay
    let k : Core := { k with free := k.free + 2, tlm := { k.tlm with
      fifo := k.tlm.fifo.drop n, curT := k.now, seq := (k.tlm.seq + 1) % 2 ^ 32, lastDgram := f } }
    (k.cnt Reg.TLM_DGRAM_CNT).tlmFlag

/-- A frame of the telemetry port: PTP goes to the time transfer (R274), PAUSE holds the port while it is honoured, for
quanta of 512 bit times at 25 Gb/s; any other is discarded. -/
def Core.tlmRx (k : Core) (f : TlmFrame) : Core :=
  match f with
  | .ptp => k
  | .pause q =>
    if bitAt (k.rd Reg.TLM_CFG) 29 then { k with tlm := { k.tlm with pauseTill := k.now + q % 65536 * 512 / 25 } }
    else k.cnt Reg.TLM_RXDISC_CNT
  | .other => k.cnt Reg.TLM_RXDISC_CNT

def Core.tlmLink (k : Core) (up : Bool) : Core :=
  { k with tlm := { k.tlm with link := up, seq := if up then 0 else k.tlm.seq } }

/-- A 100 ms reading of a Ready module is exported (R460). -/
def Core.tlmOptics (k : Core) (n : Nat) : Core :=
  if (k.optic n).present && (k.optic n).mstate == 3 && bitAt (k.rd Reg.TLM_CFG) 28 then
    k.tlmPush 3 ([byte n, 0, 0, 0] ++ beBytes 4 (k.rd (Reg.OPC_P_MON0 n)) ++ beBytes 4 (k.rd (Reg.OPC_P_MON1 n)) ++
      beBytes 4 (k.rd (Reg.OPC_P_MON2 n)) ++ beBytes 4 (k.opticScore n) ++ beBytes 4 (k.rd (Reg.OPC_P_TREND n)))
  else k

/-- A TLM register written: while EN is 1, EN alone may change (R466). -/
def Core.tlmWrite (k : Core) (a v : Nat) : Core × Nat :=
  if a = Reg.TLM_CFG then
    if k.tlmEn && (fld v 30 24 != k.fd Reg.TLM_CFG 30 24) then (k, stBusy)
    else k.rw a v
  else if k.tlmEn then (k, stBusy)
  else if a = Reg.TLM_FIFO ∧ fld v 29 20 ≤ fld v 19 10 then (k, stRange)
  else k.rw a v

/-! ### The event log (R451 to R454) -/

abbrev logSrc : Nat := 0x7803

/-- Record `e` is written to the ring; its words are no longer poisoned. -/
def Core.logWrite (k : Core) (e : Event) : Core :=
  let n := k.rd Reg.EVL_WRITTEN
  let i := n % 65536
  let k := (List.range 8).foldl (fun (k : Core) w => k.tbw Reg.EVL_LOG_TBL (8 * i + w) (e.word w)) k
  (k.setPsn (0x1080000 + 32 * i) 32 false).wr Reg.EVL_WRITTEN (n + 1)

/-- What the log does with a record as it writes it: the alert of its severity, and its export (R448, R460). -/
def Core.logged (k : Core) (e : Event) : Core :=
  let k := if k.fd Reg.EVL_CFG 3 0 ≤ e.sev then k.wrf Reg.MGT_ALERT_STAT 0 0 1 else k
  if k.fd Reg.TLM_CFG 27 24 ≤ e.sev then k.tlmPush 1 ((List.range 8).map (fun w => beBytes 4 (e.word w))).flatten else k

/-- Room returns after drops: EVENTS_LOST, ahead of any later record. -/
def Core.logLost (k : Core) : Core :=
  if k.evl.dropped = 0 ∨ 1024 ≤ k.evl.intake.length then k
  else
    let n := k.evl.dropped
    ({ k with evl := { k.evl with dropped := 0 } } : Core).emit logSrc 0x0F02 [(63, 32, k.rd Reg.EVL_WRITTEN), (31, 0, min n 0xFFFFFFFF)]

/-- The oldest record of the intake is written, and kept by Marigold. -/
def State.logNext (s : State) : State :=
  if !s.core.evl.running then s
  else match s.core.evl.intake with
    | [] => s.onCore (fun k => k.logLost)
    | e :: l =>
      let s := { s with aon := { s.aon with
        store := (s.aon.store ++ [e]).drop (s.aon.store.length + 1 - 64), storeNew := min 64 (s.aon.storeNew + 1) } }
      s.onCore (fun k => ((({ k with evl := { k.evl with intake := l } } : Core).logLost).logWrite e).logged e)

/-- The log starts at boot step 6, with the records of the current start that Marigold's store holds (R451). -/
def State.logStart (s : State) : State :=
  let l := s.aon.store.drop (s.aon.store.length - s.aon.storeNew)
  s.onCore (fun k => l.foldl (fun (k : Core) e => (k.logWrite e).logged e) ({ k with evl := { k.evl with running := true } } : Core))

/-- A word of the severity map: no nibble above 7 (R467). -/
def sevWrite (k : Core) (w v : Nat) : Core × Nat :=
  if (List.range 8).all (fun i => decide (fld v (4 * i + 3) (4 * i) ≤ 7)) then (k.tbw Reg.EVL_SEV_TBL w v, stOk) else (k, stRange)

/-- Does a word of the log lie in a poisoned record (07_buffers_memory R214)? -/
def Core.logPoison (k : Core) (w : Nat) : Bool := k.psnIn (0x1080000 + 32 * (w / 8)) 32

/-! ### Aster (R455 to R457) -/

abbrev asterSrc : Nat := 0x7804

/-- The checks of a request: the T already pending is no second aster. -/
def Core.asterRequest (k : Core) (t : Nat) (mgmt : Bool) : Core × Nat :=
  if mgmt = true ∧ t < k.gns + 10000 then (k, stRange)
  else match k.mgt.asterT with
    | some u => if u = t then (k, stOk) else (k, stBusy)
    | none => ({ k with mgt := { k.mgt with asterT := some t } }, stOk)

/-- MGT_ASTER_CMD. -/
def Core.asterCmd (k : Core) (cmd : Nat) : Core × Nat :=
  match cmd with
  | 1 => k.asterRequest (k.rd Reg.MGT_ASTER_T_LO + 2 ^ 32 * k.rd Reg.MGT_ASTER_T_HI) true
  | 2 =>
    if k.mgt.asterT.isSome && !k.mgt.latching then ({ k with mgt := { k.mgt with asterT := none } }, stOk)
    else (k, stRange)
  | _ => (k, stRange)

/-- Is a register shadowed (R456): its layout is that of R88? -/
def shadowed (a : Nat) : Bool :=
  match regAt a with
  | some (r, _) =>
    (match r.acc with
    | .cnt => true | .cum => true | .cumLo => true | .cumHi => true
    | _ => false)
  | none => false

/-- Does its live count restart at the latch? -/
def restarts (a : Nat) : Bool :=
  match regAt a with
  | some (r, _) => r.acc == .cnt
  | none => false

/-- Is a table word one of the scheduler's histogram? -/
def isHist (key : Nat) : Bool := decide (tkey Reg.SCH_HIST_TBL 0 ≤ key ∧ key < tkey (Reg.SCH_HIST_TBL + 1) 0)

/-- Every unit latches: shadows take the live values, counts that restart go back to 0; the read-only histogram goes on. -/
def State.asterLatch (s : State) : State :=
  let k := s.core
  match k.mgt.asterT with
  | none => s
  | some t =>
    if k.mgt.latching || decide (k.gns < t) then s
    else
      let pick := fun (m : SMap Word) => m.cells.filter (fun c => shadowed c.1)
      let keep := fun (m : SMap Word) => ({ cells := m.cells.filter (fun c => !restarts c.1) } : SMap Word)
      { s with
        core := { k with
          shad := { cells := pick k.regs ++ k.tbl.cells.filter (fun c => isHist c.1) }
          regs := keep k.regs
          mgt := { k.mgt with latching := true, shadGen := (k.mgt.gen + 1) % 65536 } }
        aon := { s.aon with shad := { cells := pick s.aon.regs }, regs := keep s.aon.regs } }

/-- The block base and end of each bit of TLM_BLKMASK, by ascending address. -/
def blkRanges : List (Nat × Nat × Nat) :=
  [(14, 0x10000, 0x20000), (12, 0x80000, 0xA0000), (13, 0xA0000, 0x100000), (0, 0x100000, 0x140000), (1, 0x140000, 0x180000)
  , (2, 0x180000, 0x200000), (3, 0x200000, 0x280000), (4, 0x280000, 0x300000), (5, 0x300000, 0x340000), (6, 0x340000, 0x380000)
  , (7, 0x380000, 0x3C0000), (8, 0x3C0000, 0x400000), (9, 0x400000, 0x480000), (10, 0x480000, 0x4C0000), (11, 0x4C0000, 0x500000)
  , (15, 0x500000, 0x540000), (16, 0x580000, 0x600000)]

/-- The addresses of a row's registers. -/
def RegRow.addrs (r : RegRow) : List Nat := (List.range (max 1 r.n)).map (fun i => r.base + i * r.stride)

/-- Every shadowed register of the blocks in the mask, in address order. -/
def shadowAddrs (mask : Nat) : List Nat :=
  let l := (regRows.filter (fun (r : RegRow) => shadowed r.base)).map (fun (r : RegRow) => r.addrs)
  (blkRanges.filter (fun b => bitAt mask b.1)).flatMap (fun b =>
    (l.flatten.filter (fun a => decide (b.2.1 ≤ a ∧ a < b.2.2))).mergeSort (fun a c => decide (a ≤ c)))

/-- The value of a shadow. -/
def State.shadowVal (s : State) (a : Nat) : Nat :=
  if isAon a then (s.aon.shad.get 0 a).toNat else (s.core.shad.get 0 a).toNat

/-- Pairs of address and value, at most 64 a record. -/
def counterRecs (gen : Nat) : Nat → List (Nat × Nat) → List (List Byte)
  | 0, _ => []
  | n + 1, l =>
    if l.isEmpty then []
    else (beBytes 2 gen ++ beBytes 2 0 ++ ((l.take 64).map (fun p => beBytes 4 p.1 ++ beBytes 4 p.2)).flatten) :: counterRecs gen n (l.drop 64)

/-- The last unit has latched: the generation appears, ASTER_DONE is logged, COUNTER records go out. -/
def State.asterDone (s : State) : State :=
  match s.core.mgt.asterT, s.core.mgt.latching with
  | some t, true =>
    let gen := (s.core.mgt.gen + 1) % 65536
    let l := (shadowAddrs (s.core.rd Reg.TLM_BLKMASK)).map (fun a => (a, s.shadowVal a))
    s.onCore (fun k =>
      let k := ({ k with mgt := { k.mgt with asterT := none, latching := false, gen := gen } } : Core).emit asterSrc 0x0F01
        [(107, 92, gen), (63, 0, t)]
      (counterRecs gen (l.length + 1) l).foldl (fun (k : Core) b => k.tlmPush 2 b) k)
  | _, _ => s

/-- MGT_ASTER_STAT. -/
def Core.asterStat (k : Core) : Nat :=
  args [(31, 31, k.mgt.asterT.isSome.toNat), (30, 30, k.mgt.latching.toNat), (15, 0, k.mgt.gen)]

/-! ### Supervisor (01_architecture R15) and rate limits (R509) -/

/-- A steward is reset and reloaded from its control blocks: nothing a command can reach changes. STEWARD_RESTART is logged
under the steward's source ID, unit 0x7FF of its subsystem; its code and arguments are in no table of the spec and stay free
(assumption log 19). The supervisor is no steward. -/
def State.stewardRestart (s : State) (sub : Nat) : State :=
  let id := 2048 * sub + 0x7FF
  let code := (Config.freeEventCode 0).toNat
  let a := Config.freeRestartArgs id % 2 ^ 108
  if sub = 0 then s
  else if sub = 14 ∨ sub = 17 then s.emitAAt s.core.tim.glob id code a
  else s.onCore (fun k => k.emitAt k.tim.glob id code a)

/-- An interval in which occurrences were counted ends. -/
def State.rateEmit (s : State) (code src key : Nat) : State :=
  match s.core.evl.lims.find? (fun (l : Lim) => l.is code src key && l.count != 0 && decide (l.ends ≤ s.core.now)) with
  | some l => s.onCore (fun k => k.flushLim l)
  | none =>
    match s.aon.lims.find? (fun (l : Lim) => l.is code src key && l.count != 0 && decide (l.ends ≤ s.aon.now)) with
    | some l => s.flushALim l
    | none => s

/-! ### Commands -/

/-- EVENT_LOG_WRITE (R451, R452). -/
def execEventLogWrite (s : State) : Host.Outcome State Fault Refusal := .next s.logNext

/-- DATAGRAM_SEND (R459). -/
def execDatagramSend (s : State) : Host.Outcome State Fault Refusal := .next (s.onCore (fun k => k.datagram))

/-- TLM_FRAME_RX (R458). -/
def execTlmFrameRx (f : TlmFrame) (s : State) : Host.Outcome State Fault Refusal := .next (s.onCore (fun k => k.tlmRx f))

/-- TLM_LINK_CHANGE (R459). -/
def execTlmLinkChange (up : Bool) (s : State) : Host.Outcome State Fault Refusal := .next (s.onCore (fun k => k.tlmLink up))

/-- ASTER_SCHEDULE (R455). -/
def execAsterSchedule (s : State) : Host.Outcome State Fault Refusal := .next (s.mgmt Reg.MGT_STAT (fun k => k.asterCmd 1))

/-- ASTER_CANCEL (R455). -/
def execAsterCancel (s : State) : Host.Outcome State Fault Refusal := .next (s.mgmt Reg.MGT_STAT (fun k => k.asterCmd 2))

/-- ASTER_LATCH (R456). -/
def execAsterLatch (s : State) : Host.Outcome State Fault Refusal := .next s.asterLatch

/-- ASTER_DONE (R456). -/
def execAsterDone (s : State) : Host.Outcome State Fault Refusal := .next s.asterDone

/-- STEWARD_RESTART (01_architecture R15). -/
def execStewardRestart (sub : Fin 18) (s : State) : Host.Outcome State Fault Refusal := .next (s.stewardRestart sub.val)

/-- EVENT_RATE_EMIT (R509). -/
def execEventRateEmit (code src key : Nat) (s : State) : Host.Outcome State Fault Refusal := .next (s.rateEmit code src key)

end Sys2Proof.Machine
end

