-- ==== Sys2Proof/Machine/Time.lean ====
section
/-!
DEFINITION. Time sources, the servo, time states and alarms (10_timetable_time R271 to R282, R295). Offsets are kept in units
of 1/4000 of 2^-16 ns, in which the mean of 16 line offsets with ASYM in ps is exact: 262,144 to the ps.
-/

namespace Sys2Proof.Machine

open Sys2Proof

abbrev unitPs : Int := 262144
abbrev unitNs : Int := 262144000

/-- A quotient that a register rounds; up or down is free. -/
def Core.roundPs (k : Core) (v : Int) : Int :=
  if v % unitPs = 0 then v / unitPs else v / unitPs + Config.freeRound k.free v % 2

def Tim.within (v ns : Int) : Bool := decide (-(ns * unitNs) ≤ v ∧ v ≤ ns * unitNs)

/-! ### The servo (R276) -/

/-- The time of now moves by an offset: before boot step 14 only. -/
def Core.stepTime (k : Core) (v : Int) : Core :=
  { k with tim := { k.tim with glob := (((k.tim.glob : Int) + v / 4000).toNat) % 2 ^ 80, frac := 0 } }

/-- The correction after a filtered offset, `iv` ns after the one before: a frequency that takes out a sixteenth of it by the
next one, within 10 ppm; rounded down to 0.001 ppm. DESIGN CHOICE (assumption log 123): the time constant of 16 samples is that
of a first-order loop. -/
def Core.steer (k : Core) (v : Int) (iv : Nat) : Core :=
  { k with tim := { k.tim with freq := max (-10000) (min 10000 (v * 1000000000 / (unitNs * 16 * (iv : Int)))) } }

/-- The states in which the timebase follows a source; in HOLDOVER it keeps its frequency (R281). -/
def Core.steers (k : Core) : Bool := k.tim.tstate == tsAcquiring || k.tim.tstate == tsLockedRef || k.tim.tstate == tsLockedLine

/-- A filtered offset of the source followed: reported, judged for OFFSET, and acted on. -/
def Core.follow (k : Core) (v : Int) (port : Option Nat) (iv : Nat) : Core :=
  let k := (k.wr Reg.TBS_OFFSET (satFld 32 (k.roundPs v))).fresh
  let k := if k.tim.noStep then k.timeAlarm 1 (!Tim.within v 1000) port (v / unitPs) else k
  if !k.steers then k else if k.tim.noStep then k.steer v iv else k.stepTime v

/-! ### States (R281) -/

/-- LEVEL received on the source's port. -/
def Core.upLevel (k : Core) : Nat :=
  match k.sourcePort with
  | some n => (k.lp n).peerLevel
  | none => 15

def Core.isLocked (k : Core) : Bool := k.tim.tstate == tsLockedRef || k.tim.tstate == tsLockedLine

/-- A source delivers samples: the line, or PTP or PPS. In HOLDOVER after the loss of the line, PTP is no recovered source
(R281). -/
def Core.acquire (k : Core) (line : Bool) : Core :=
  if k.tim.tstate = tsFree ∨ (k.tim.tstate = tsHoldover ∧ (line = true ∨ k.timeSrc ≠ 2 ∨ k.tim.lostRef = true)) then
    k.setTState tsAcquiring 15
  else k

/-- Is the line source the one followed? -/
def Core.onLine (k : Core) : Bool := k.timeSrc == 2 && k.isOn (.group k.timeGroup)

/-- A PTP or PPS offset, `iv` ns after the one before. -/
def Core.refSample (k : Core) (v : Int) (iv : Nat) : Core :=
  let k := k.acquire false
  let k := if k.tim.tstate = tsLockedLine then k.timeAlarm 2 (!Tim.within v 1000) none (v / unitPs)
    else if k.onLine then k else k.follow v none iv
  let t := k.tim
  let good := if Tim.within v (if t.tstate = tsAcquiring then t.tol else 100) then t.goodRef + 1 else 0
  let bad := if Tim.within v 400 then 0 else t.badRef + 1
  let k := { k with tim := { t with goodRef := good, badRef := bad, lastRef := k.now } }
  if t.tstate = tsAcquiring ∧ 16 ≤ good then k.setTState tsLockedRef 15
  else if t.tstate = tsLockedRef ∧ 4 ≤ bad then k.setTState tsHoldover 15
  else k

/-- A filtered offset of the line, 16 multiframes after the one before. -/
def Core.lineOffset (k : Core) (v : Int) (n : Nat) : Core :=
  let k := k.follow v (some n) 335544
  let t := k.tim
  let good := if Tim.within v 2 then t.good + 1 else 0
  let bad := if Tim.within v 8 then 0 else t.bad + 1
  let k := { k with tim := { t with good := good, bad := bad } }
  if (t.tstate = tsAcquiring ∨ t.tstate = tsLockedRef) ∧ 16 ≤ good then k.setTState tsLockedLine k.upLevel
  else if t.tstate = tsLockedLine ∧ 4 ≤ bad then k.setTState tsHoldover 15
  else k

/-! ### PTP (R274) -/

/-- PTP time of now minus local time, times 2: the mean path delay is half of two delays. -/
def Tim.ptpV (t : Tim) : Int := t.ptpDelay - 2 * ((t.ptpT2 : Int) - t.ptpT1)

/-- T1 and T2 of one Sync are known: used when the path delay is. -/
def Core.syncUse (k : Core) : Core :=
  let t := k.tim
  if bitAt t.ptpHave 3 then
    let gap := if t.lastRef = 0 then t.syncInt else max 7812500 (min 1000000000 (k.now - t.lastRef))
    let v := 2000 * t.ptpV
    let k : Core := { k with tim := { t with syncInt := gap, ptpOffset := v / unitPs } }
    (k.cnt Reg.TBS_PTP_SYNC_CNT).refSample v gap
  else k

/-- Is dataset `a` better than `b`? The lower value at the first place where they differ. -/
def dsBetter : List Nat → List Nat → Bool
  | a :: l, b :: m => decide (a < b) || (a == b && dsBetter l m)
  | [], _ :: _ => true
  | _, [] => false

/-- An announcing port counts while its Announce is no older than three intervals; it qualifies by two within four, and
fewer than 255 steps removed (PRESUMED: the defaults of IEEE 1588-2019, which R274 names; assumption log 124). -/
def PtpPeer.counts (p : PtpPeer) (now : Nat) : Bool :=
  decide (now < p.t + 3 * p.interval) && p.prev != 0 && decide (p.t + 1 ≤ p.prev + 4 * p.interval) && decide (p.ds.getD 6 0 < 255)

/-- The best master at time `now`: the default data set comparison, the port identity deciding between equals. -/
def Tim.bestMaster (t : Tim) (now : Nat) : Option Nat :=
  ((t.ptpPeers.filter (fun p => p.counts now)).foldl (fun (m : Option PtpPeer) p => match m with
    | none => some p
    | some q => if dsBetter (p.ds ++ [p.src]) (q.ds ++ [q.src]) then some p else some q) none).map (·.src)

/-- The master is chosen anew; a change of it starts the exchange of times anew. -/
def Core.ptpSelect (k : Core) : Core :=
  let m := k.tim.bestMaster k.now
  if m = k.tim.ptpMaster then k else { k with tim := { k.tim with ptpMaster := m, ptpHave := 0 } }

/-- A message of the selected domain. -/
def Core.ptpIn (k : Core) (m : PtpMsg) : Core :=
  match m with
  | .announce src ds interval =>
    let old := k.tim.ptpPeers.find? (fun p => p.src == src)
    let p : PtpPeer := { src := src, ds := ds, t := k.now, prev := (old.map (·.t + 1)).getD 0, interval := interval }
    ({ k with tim := { k.tim with ptpPeers := k.tim.ptpPeers.filter (fun p => p.src != src) ++ [p] } } : Core).ptpSelect
  | .sync src oneStep origin arrival =>
    let k := k.ptpSelect
    let t := k.tim
    if t.ptpMaster ≠ some src then k
    else
      let k : Core := { k with tim := { t with ptpT1 := origin, ptpT2 := arrival, ptpHave := setFld t.ptpHave 1 0 (if oneStep then 3 else 2) } }
      if oneStep then k.syncUse else k
  | .followUp src origin =>
    let k := k.ptpSelect
    let t := k.tim
    if t.ptpMaster ≠ some src ∨ fld t.ptpHave 1 0 ≠ 2 then k
    else ({ k with tim := { t with ptpT1 := origin, ptpHave := setFld t.ptpHave 1 0 3 } } : Core).syncUse
  | .delayReqSent t3 => { k with tim := { k.tim with ptpT3 := t3, ptpHave := setFld k.tim.ptpHave 2 2 1 } }
  | .delayResp src t4 =>
    let k := k.ptpSelect
    let t := k.tim
    if t.ptpMaster ≠ some src ∨ fld t.ptpHave 2 0 ≠ 7 then k
    else { k with tim := { t with
      ptpDelay := ((t.ptpT2 : Int) - t.ptpT1) + ((t4 : Int) - t.ptpT3), ptpHave := setFld (setFld t.ptpHave 2 2 0) 3 3 1 } }

/-! ### PPS (R275, R276) -/

def Core.tod (k : Core) : Nat := k.rd Reg.TBS_TOD_LO + 2 ^ 32 * k.rd Reg.TBS_TOD_HI

/-- A rising edge of PPS_IN: the first after TBS_TOD stands for it, a later one for 10^9 ns more; one that is more than 1 us
off is discarded. -/
def Core.ppsEdge (k : Core) : Core :=
  match k.tim.ppsNext with
  | none => k
  | some e =>
    let d : Int := (e : Int) * 65536 - k.tim.glob
    if !k.tim.ppsArmed && !decide (-(65536000 : Int) ≤ d ∧ d ≤ 65536000) then k.cnt Reg.TBS_TT_DISC_CNT
    else ({ k with tim := { k.tim with ppsArmed := false, ppsNext := some (e + 1000000000) } } : Core).refSample (4000 * d) 1000000000

/-- PPS_OUT rises at a whole second while a source is or was locked (R276). -/
def Core.ppsOutEv (k : Core) : Core :=
  let t := k.tim
  let s := k.gns / 1000000000 * 1000000000
  if t.tstate = tsLockedRef ∨ t.tstate = tsLockedLine ∨ t.tstate = tsHoldover then
    if k.gns < s + 10000 ∧ t.ppsOutT ≠ s + 1 then { k with tim := { t with ppsOut := true, ppsOutT := s + 1 } } else k
  else { k with tim := { t with ppsOut := false } }

/-- The level of PPS_OUT: high for 10 us, and only in those states. -/
def Core.ppsHigh (k : Core) : Bool :=
  let t := k.tim
  t.ppsOut && decide (k.gns < t.ppsOutT - 1 + 10000) && (k.isLocked || t.tstate == tsHoldover)

/-- A write of TBS_TOD_HI arms (R275); only while the time transfer function is OFF (R295). -/
def Core.todArm (k : Core) (v : Nat) : Core × Nat :=
  if !k.isOff .timeXfer then (k, stBusy)
  else if (k.rd Reg.TBS_TOD_LO + 2 ^ 32 * v) % 1000000000 ≠ 0 then (k, stRange)
  else
    let k := k.wr Reg.TBS_TOD_HI v
    ({ k with tim := { k.tim with ppsArmed := true, ppsNext := some k.tod } }, stOk)

/-! ### Line samples (R277, R278) -/

/-- A round of the source's member is taken; it is discarded when the port hopped or was in a guard slot within it, or the
member changed. -/
def Core.ttSampleEv (k : Core) : Core :=
  if !(k.onLine && k.isOn .timeXfer) then k
  else match k.sourcePort with
    | none => k
    | some n =>
      let p := k.lp n
      match p.tt with
      | none => k
      | some (raw, _, start) =>
        if p.peerLevel = 15 then k
        else
          let asym := signed 32 (k.rd (Reg.TBS_P_ASYM n))
          let off := k.inGuard n || decide ((k.optic n).hop = .window) || (p.hopAt != 0 && decide (start ≤ p.hopAt)) || (k.tim.srcT != 0 && decide (start ≤ k.tim.srcT))
          let k := k.setLp n { p with tt := none }
          let k := (k.wr (Reg.TBS_P_RAW n) (satFld 32 (k.roundPs (4000 * raw)))).fresh
          if off then k.cnt Reg.TBS_TT_DISC_CNT
          else
            let k := (k.cnt Reg.TBS_TT_SAMP_CNT).acquire true
            let l := k.tim.samples ++ [-(125 * raw - 8192 * asym)]
            let k : Core := { k with tim := { k.tim with samples := if l.length < 16 then l else [], lastLine := k.now } }
            if l.length < 16 then k else k.lineOffset (l.foldl (· + ·) 0) n

/-! ### Losses (R281) -/

/-- No sample for 64 expected intervals, or none accepted for 64 multiframes. -/
def Core.sourceTmoEv (k : Core) : Core :=
  let t := k.tim
  if t.tstate = tsLockedRef ∧ t.lastRef + 64 * (if k.timeSrc = 1 then 1000000000 else t.syncInt) ≤ k.now then k.setTState tsHoldover 15
  else if t.tstate = tsLockedLine ∧ t.lastLine + 1342178 ≤ k.now then k.setTState tsHoldover 15
  else k

/-- HOLD_LIMIT passed in HOLDOVER. -/
def Core.holdEv (k : Core) : Core :=
  let t := k.tim
  if t.tstate = tsHoldover ∧ t.holdT + 100000000 * k.fd Reg.TBS_CFG 15 0 ≤ k.now then
    let ptp := k.isOn .timeXfer && k.timeSrc == 2 && decide (16 ≤ t.goodRef) && decide (k.now < t.lastRef + 64 * t.syncInt)
    k.setTState (if ptp then tsLockedRef else tsFree) 15
  else k

/-! ### The time transfer function and its registers (R295) -/

/-- DISABLE: the timebase no longer follows a source. -/
def Core.timeStop (k : Core) : Core :=
  k.timeHold.fnDrained .timeXfer stOk (fun _ => stOk) (fun k => k.setFst .timeXfer .on stOk)

def Core.timeCmd (k : Core) (cmd : Nat) : Core × Nat :=
  match cmd with
  | 1 => k.fnEnable .timeXfer (fun _ => stOk) (fun k => k.setFst .timeXfer .on stOk)
  | 2 => k.fnDisable .timeXfer Core.timeStop id
  | _ => (k, stRange)

/-- A write of a TBS register; with TBS_CFG the choice of a master starts anew. -/
def Core.tbsWrite (k : Core) (a v : Nat) : Core × Nat :=
  if a = Reg.TBS_TCMD then k.timeCmd (fld v 31 28)
  else if a = Reg.TBS_TOD_HI then k.todArm v
  else if k.isOff .timeXfer then
    let r := k.rw a v
    (if a = Reg.TBS_CFG ∧ r.2 = stOk then { r.1 with tim := { r.1.tim with ptpPeers := [], ptpMaster := none, ptpHave := 0 } } else r.1, r.2)
  else (k, stBusy)

def Core.tbsStat (k : Core) : Nat :=
  args [(31, 29, k.tim.tstate), (28, 28, (k.tim.alarm != 0).toNat), (27, 24, k.tim.level), (10, 8, (k.fst .timeXfer).code),
    (7, 0, k.fd Reg.TBS_STAT 7 0)]

/-! ### Commands -/

/-- Does the gateway take time samples: the function is ON, or boot step 13 acquires time (R273)? -/
def State.takesTime (s : State) : Bool := s.core.isOn .timeXfer || (s.aon.boot.phase == 0 && s.aon.boot.step == 13)

/-- TIME_XFER_ENABLE (R295): TBS_TCMD with ENABLE. -/
def execTimeXferEnable (s : State) : Host.Outcome State Fault Refusal :=
  .next (s.mgmt Reg.TBS_STAT (fun k => k.timeCmd 1))

/-- TIME_XFER_DISABLE (R295): TBS_TCMD with DISABLE. -/
def execTimeXferDisable (s : State) : Host.Outcome State Fault Refusal :=
  .next (s.mgmt Reg.TBS_STAT (fun k => k.timeCmd 2))

/-- PTP_MESSAGE_RX (R274): messages of other domains, or over the other transport, are ignored. -/
def execPtpMessageRx (domain : Nat) (m : PtpMsg) (s : State) (udp : Bool := false) : Host.Outcome State Fault Refusal :=
  .next (if s.takesTime && s.core.timeSrc != 1 && bitAt (s.core.rd Reg.TBS_CFG) 19 == udp && s.core.fd Reg.TBS_CFG 26 20 == domain
    then s.onCore (fun k => k.ptpIn m) else s)

/-- PPS_IN_EDGE (R275). -/
def execPpsInEdge (s : State) : Host.Outcome State Fault Refusal :=
  .next (if s.takesTime && s.core.timeSrc == 1 then s.onCore (fun k => k.ppsEdge) else s)

/-- TOD_ARM (R275): TBS_TOD_HI is written. -/
def execTodArm (hi : Word) (s : State) : Host.Outcome State Fault Refusal :=
  .next (s.mgmt Reg.TBS_STAT (fun k => k.todArm hi.toNat))

/-- TT_SAMPLE (R278). -/
def execTtSample (s : State) : Host.Outcome State Fault Refusal := .next (s.onCore (fun k => k.ttSampleEv))

/-- SOURCE_TIMEOUT (R281). -/
def execSourceTimeout (s : State) : Host.Outcome State Fault Refusal := .next (s.onCore (fun k => k.sourceTmoEv))

/-- HOLDOVER_LIMIT (R281). -/
def execHoldoverLimit (s : State) : Host.Outcome State Fault Refusal := .next (s.onCore (fun k => k.holdEv))

/-- PPS_OUT_RISE (R276). -/
def execPpsOutRise (s : State) : Host.Outcome State Fault Refusal := .next (s.onCore (fun k => k.ppsOutEv))

end Sys2Proof.Machine
end

