-- ==== Sys2Proof/Machine/TimetableCmd.lean ====
section
/-!
DEFINITION. The commands of the timetable executor (10_timetable_time R283 to R291) and of hops (13_optics R372, R373).
-/

namespace Sys2Proof.Machine

open Sys2Proof

/-- SEGMENT_ENABLE (R284): TTX_SCMD with ENABLE. -/
def execSegmentEnable (g : Fin 64) (s : State) : Host.Outcome State Fault Refusal :=
  .next (s.mgmt Reg.TTX_STAT (fun k => k.ttxCmd 1 0 g.val))

/-- SEGMENT_DISABLE (R284): TTX_SCMD with DISABLE. -/
def execSegmentDisable (g : Fin 64) (s : State) : Host.Outcome State Fault Refusal :=
  .next (s.mgmt Reg.TTX_STAT (fun k => k.ttxCmd 2 0 g.val))

/-- SHARD_CMD (R291): TTX_SCMD with SHARD. -/
def execShardCmd (bank : Fin 2) (s : State) : Host.Outcome State Fault Refusal :=
  .next (s.mgmt Reg.TTX_STAT (fun k => k.ttxCmd 3 bank.val 0))

/-- SEGMENT_END (R284). -/
def execSegmentEnd (g : Fin 64) (s : State) : Host.Outcome State Fault Refusal :=
  .next (s.onCore (fun k => k.segEndEv g.val))

/-- TT_NOP (R286): no action. -/
def execTtNop (e : Fin 65536) (s : State) : Host.Outcome State Fault Refusal :=
  .next (s.onCore (fun k => k.fireEv e.val tyNop (fun k _ _ _ => (k, stOk))))

/-- TT_SLOTCLASS (R289). -/
def execTtSlotclass (e : Fin 65536) (s : State) : Host.Outcome State Fault Refusal :=
  .next (s.onCore (fun k => k.fireEv e.val tySlotclass (fun k _ t _ =>
    k.slotclassTt (k.entArg e.val 46 44) (k.entArg e.val 43 40) t)))

/-- TT_START (R286). -/
def execTtStart (e : Fin 65536) (s : State) : Host.Outcome State Fault Refusal :=
  .next (s.onCore (fun k => k.fireEv e.val tyStart (fun k g t c => k.startTt e.val g t c)))

/-- TT_GATE (09_scheduling R264). -/
def execTtGate (e : Fin 65536) (s : State) : Host.Outcome State Fault Refusal :=
  .next (s.onCore (fun k => k.fireEv e.val tyGate (fun k _ t _ => k.gateTt (k.entArg e.val 42 40) (k.entArg e.val 43 43) t)))

/-- TT_EPOCH (03_fabric_side R86). -/
def execTtEpoch (e : Fin 65536) (s : State) : Host.Outcome State Fault Refusal :=
  .next (s.onCore (fun k => k.fireEv e.val tyEpoch (fun k _ _ _ => k.epochTt (k.entArg e.val 40 40))))

/-- TT_KEYSWITCH (08_cipher R244). -/
def execTtKeyswitch (e : Fin 65536) (s : State) : Host.Outcome State Fault Refusal :=
  .next (s.onCore (fun k => k.fireEv e.val tyKeyswitch (fun k _ _ _ =>
    k.keySwitch (k.entArg e.val 51 40) (k.entArg e.val 52 52) true)))

/-- TT_DECODE (06_compression R187). -/
def execTtDecode (e : Fin 65536) (s : State) : Host.Outcome State Fault Refusal :=
  .next (s.onCore (fun k => k.fireEv e.val tyDecode (fun k _ _ _ => k.setEnc (k.entArg e.val 43 40) (k.entArg e.val 44 44))))

/-- TT_HOP (13_optics R373). -/
def execTtHop (e : Fin 65536) (s : State) : Host.Outcome State Fault Refusal :=
  .next (s.onCore (fun k => k.hopTtEv e.val))

/-- TT_SHARD (R291). -/
def execTtShard (e : Fin 65536) (s : State) : Host.Outcome State Fault Refusal :=
  .next (s.onCore (fun k => k.fireEv e.val tyShard (fun k _ t _ => (k.shardTake (k.entArg e.val 40 40) 1 t, stOk))))

/-- TT_SITE_EPOCH (14_sites R390). -/
def execTtSiteEpoch (e : Fin 65536) (s : State) : Host.Outcome State Fault Refusal :=
  .next (s.onCore (fun k => k.fireEv e.val tySiteEpoch (fun k _ _ _ => k.sepochTt (k.entArg e.val 40 40))))

/-- HOP_NOTICE (13_optics R372). -/
def execHopNotice (e : Fin 65536) (s : State) : Host.Outcome State Fault Refusal :=
  .next (s.onCore (fun k => k.hopNoticeEv e.val))

/-- HOP_READBACK (13_optics R372). -/
def execHopReadback (n : Fin 16) (idx : Nat) (s : State) : Host.Outcome State Fault Refusal :=
  .next (s.onCore (fun k => k.hopReadEv n.val idx))

/-- HOP_GUARD_END (13_optics R373). -/
def execHopGuardEnd (n : Fin 16) (s : State) : Host.Outcome State Fault Refusal :=
  .next (s.onCore (fun k => (k.hopGuardEv n.val).lineRefresh))

/-- HOP_STROBE_FALL (13_optics R373). -/
def execHopStrobeFall (n : Fin 16) (s : State) : Host.Outcome State Fault Refusal :=
  .next (s.onCore (fun k => (k.hopFallEv n.val).lineRefresh))

/-- HOP_WINDOW_END (13_optics R373). -/
def execHopWindowEnd (n : Fin 16) (s : State) : Host.Outcome State Fault Refusal :=
  .next (s.onCore (fun k => k.hopWindowEv n.val))

end Sys2Proof.Machine
end

