-- ==== Sys2Proof/Machine/Expand.lean ====
section
/-!
DEFINITION. The expanders at work on their queues (06_compression R183, R185, R189): operations.
-/

namespace Sys2Proof.Machine

/-- What a whole segment's blocks are for, once the last has left the expanders: a message for the fabric, or a contribution
for the churns. -/
def Core.expanded (k : Core) (s : XSeg) : Core :=
  let k := k.dropSeg (fun t => t.id == s.id)
  let d := (s.inOrder.map Prod.fst).flatten
  let elems := fun x c => k.lineElems x (k.chunkElems x c) d (k.blockMarks x (k.chunkElems x c) s.inOrder)
  match s.use with
  | .msgIn base =>
    (match k.fcs.rxMsgs.find? (fun m => m.flow == s.flow && m.base == base) with
    | none => k
    | some m => k.msgArrived m d (s.inOrder.zipIdx.filterMap (fun b => if b.1.2 then some (4096 * b.2, 4096) else none)))
  | .slotAdd x c sl => k.slotElems x c sl (elems x c)
  | .slotSub x c sl => k.subDone x c sl (some (elems x c))
  | _ => k

/-- The head block of a flow, while the flow's queue of 8 expanded blocks has room: G's consumer is the press; the others
take each block at once, in order (R189). -/
def Core.expHead (k : Core) (f : Nat) : Option XBlk :=
  match k.xfm.expQ.find? (fun b => b.flow == f) with
  | none => none
  | some b =>
    match ((k.xseg b.seg).map XSeg.use : Option XUse) with
    | some (.gBack _ _) =>
      let out := k.xfm.pressQ.filter (fun q => q.flow == f && (match ((k.xseg q.seg).map XSeg.use : Option XUse) with
        | some (.gBack _ _) => true
        | _ => false))
      if out.length < 8 then some b else none
    | _ => some b

/-- The block expander `u` takes, its flow, and whether it steals it: of its home flows by the default rule, else of
another flow by the same (01_architecture R24, R25). -/
def Core.expPick (k : Core) (u : Nat) : Option (XBlk × Bool) :=
  let ptr := k.xfm.rr.get 0 u
  match rrPick 16384 ptr (fun f => f % 32 == u && (k.expHead f).isSome) with
  | some f => (k.expHead f).map (fun b => (b, false))
  | none => (rrPick 16384 ptr (fun f => (k.expHead f).isSome)).bind (fun f => (k.expHead f).map (fun b => (b, true)))

/-- An expander decodes a block. One that reads back poisoned from staging is delivered so. -/
def Core.expandEv (k : Core) (u : Nat) : Core :=
  if !bitAt k.svc.expd u then k
  else match k.expPick u with
    | none => k
    | some (b, steal) =>
      let k := { k with xfm := { k.xfm with
        rr := k.xfm.rr.set 0 u ((b.flow + 1) % 16384)
        expQ := k.xfm.expQ.filter (fun q => !(q.seg == b.seg && q.idx == b.idx)) } }
      let k := if steal then k.cnt Reg.XFM_XSTEAL_CNT else k
      let r := if b.psn then k.poisonBytes (lsRawLen b.data) else k.expandOne u b.flow b.data
      let k := r.1.segDone b.seg b.idx r.2.1 r.2.2
      match k.xseg b.seg with
      | none => k
      | some s =>
        (match s.use with
        | .gBack _ _ =>
          { k with xfm := { k.xfm with pressQ := k.xfm.pressQ ++ [{ flow := b.flow, seg := b.seg, idx := b.idx, data := r.2.1 }] } }
        | _ => if s.done.length = s.n then k.expanded s else k)

end Sys2Proof.Machine
end

