-- ==== Sys2Proof/Machine/KeyCmd.lean ====
section
/-!
DEFINITION. The commands of the key slots and of the cipher's request queues (08_cipher R227 to R248). A zeroize or a
refused request may complete records badly; the collective engine settles them within the command (05_collectives R126).
-/

namespace Sys2Proof.Machine

open Sys2Proof

/-- KEY_LOAD (R230): CIP_KCMD with LOAD; its checks run when it completes. -/
def execKeyLoad (slot : Fin 4096) (pos : Fin 2) (s : State) : Host.Outcome State Fault Refusal :=
  .next (s.mgmt Reg.CIP_STAT (fun k => k.keyCmd 1 slot.val pos.val))

/-- KEY_LOAD_DONE (R230, R231). -/
def execKeyLoadDone (s : State) : Host.Outcome State Fault Refusal := .next s.loadDone.drainEvents.alertChk

/-- KEY_SWITCH (R244): CIP_KCMD with SWITCH. -/
def execKeySwitch (slot : Fin 4096) (pos : Fin 2) (s : State) : Host.Outcome State Fault Refusal :=
  .next (s.mgmt Reg.CIP_STAT (fun k => k.keyCmd 2 slot.val pos.val))

/-- KEY_RETIRE (R245): CIP_KCMD with RETIRE. -/
def execKeyRetire (slot : Fin 4096) (pos : Fin 2) (s : State) : Host.Outcome State Fault Refusal :=
  .next (s.mgmt Reg.CIP_STAT (fun k => k.keyCmd 3 slot.val pos.val))

/-- KEY_ZEROIZE (R248): CIP_KCMD with ZEROIZE. -/
def execKeyZeroize (slot : Fin 4096) (s : State) : Host.Outcome State Fault Refusal :=
  .next (s.mgmt Reg.CIP_STAT (fun k => let r := k.keyCmd 4 slot.val 0; (r.1.settle, r.2)))

/-- HELD_KEY_RETIRE (R245). -/
def execHeldKeyRetire (slot : Fin 4096) (pos : Fin 2) (s : State) : Host.Outcome State Fault Refusal :=
  .next (s.onCore (fun k => k.heldRetireEv slot.val pos.val))

/-- REKEY_READY_RX (R243). -/
def execRekeyReadyRx (g : Fin 8) (s : State) : Host.Outcome State Fault Refusal :=
  .next (s.onCore (fun k => k.rekeyEv g.val 0x31))

/-- REKEY_RETIRED_RX (R245). -/
def execRekeyRetiredRx (g : Fin 8) (s : State) : Host.Outcome State Fault Refusal :=
  .next (s.onCore (fun k => k.rekeyEv g.val 0x32))

/-- CIPHER_DISPATCH (R235). -/
def execCipherDispatch (core : Fin 160) (s : State) : Host.Outcome State Fault Refusal :=
  .next (s.onCore (fun k => (k.dispatchEv core.val).settle))

end Sys2Proof.Machine
end

