-- ==== Sys2Proof/Machine/UnitCmd.lean ====
section
/-!
DEFINITION. The commands in which a unit does a piece of work and may find an error of its own (17_power_thermal R482): a
churn rounds a pat, the checker checks a chunk, a skimmer, an expander or a press tile does a block, a cipher core
completes a request; and the buffer requests that wait.
-/

namespace Sys2Proof.Machine

open Sys2Proof

/-- A unit does its work. An error it finds on the way is recorded first: quarantine comes before the unit's work
(R487), which then waits for another unit. -/
def State.unitWork (s : State) (u : Nat) (err : Option Err) (busy : Core → Bool) (redo work : Core → Core) : State :=
  if !busy s.core then s
  else
    let t := s.unitError u err
    if t.core.unitOn u then t.onCore work else t.onCore redo

def Core.skimBusy (k : Core) (u : Nat) : Bool := bitAt k.svc.skim u && !k.xfm.skimQ.isEmpty

def Core.expandBusy (k : Core) (u : Nat) : Bool := bitAt k.svc.expd u && (k.expPick u).isSome

def Core.pressBusy (k : Core) (tile : Nat) : Bool := bitAt k.svc.press tile && k.xfm.pressQ.any (fun b => k.pressNext b)

def Core.cipherBusy (k : Core) (cn : Nat) : Bool := (k.cip.cores.get none cn).isSome

/-- PAT_ROUND (05_collectives R135, R136). -/
def execPatRound (churn : Fin 256) (err : Option Err) (s : State) : Host.Outcome State Fault Refusal :=
  .next (s.unitWork churn.val err (fun k => (k.roundable churn.val).isSome) (fun k => k) (fun k => (k.patRoundEv churn.val).settle))

/-- CHECKSUM_CHECK (05_collectives R139). -/
def execChecksumCheck (x : Fin 4096) (c : Nat) (s : State) : Host.Outcome State Fault Refusal :=
  .next ((s.onCore (fun k => (k.checkEv x.val c).settle)).recordSuspects)

/-- SKIM_BLOCK (06_compression R185, R191). -/
def execSkimBlock (u : Fin 32) (err : Option Err) (s : State) : Host.Outcome State Fault Refusal :=
  .next (s.unitWork (272 + u.val) err (fun k => k.skimBusy u.val) (fun k => k.cnt Reg.XFM_REDO_CNT) (fun k => (k.skimEv u.val).settle))

/-- EXPAND_BLOCK (06_compression R185, R191). -/
def execExpandBlock (u : Fin 32) (err : Option Err) (s : State) : Host.Outcome State Fault Refusal :=
  .next (s.unitWork (304 + u.val) err (fun k => k.expandBusy u.val) (fun k => k.cnt Reg.XFM_REDO_CNT) (fun k => (k.expandEv u.val).settle))

/-- PRESS_BLOCK (06_compression R190, R191). -/
def execPressBlock (tile : Fin 16) (err : Option Err) (s : State) : Host.Outcome State Fault Refusal :=
  .next (s.unitWork (256 + tile.val) err (fun k => k.pressBusy tile.val) (fun k => k.cnt Reg.XFM_REDO_CNT)
    (fun k => (k.pressEv tile.val).settle))

/-- CIPHER_COMPLETE (08_cipher R238 to R240). -/
def execCipherComplete (core : Fin 160) (err : Option Err) (s : State) : Host.Outcome State Fault Refusal :=
  .next ((s.unitWork (336 + core.val) err (fun k => k.cipherBusy core.val) (fun k => k)
    (fun k => (k.completeEv core.val).settle)).keySettle.recordSuspects.drainEvents.alertChk)

/-- A waiting request is served (07_buffers_memory R206), and the user goes on with the buffer where nothing else would
wake it: a non-owner's result, a message on its way to the fabric. -/
def Core.serveResume (k : Core) : Core :=
  let n := k.bpm.granted.length
  let k := k.serveWait
  match (k.bpm.granted.drop n).map Prod.fst with
  | .result x c :: _ => k.tryNonOwner x c
  | .custody f b :: _ =>
    (match k.fcs.rxMsgs.find? (fun (m : RxMsg) => m.flow == f && m.base == b) with
    | some m => k.msgTry m
    | none => k)
  | _ => k

/-- BUFFER_REQUEST_SERVED (07_buffers_memory R206). -/
def execBufferRequestServed (s : State) : Host.Outcome State Fault Refusal :=
  .next (s.onCore (fun k => k.serveResume.settle))

end Sys2Proof.Machine
end

