-- ==== Sys2Proof/Machine/Access.lean ====
section
/-!
DEFINITION. Registers as an access sees them (00_scope R5 to R11, R510; 19_register_index R507, R508): what a read returns,
what a write does and with which status, windows and 64-bit pairs. Management frames, image records and descriptor records
all go through these operations; only a management frame changes a LAST_ST (15_boot_config R417).
-/

namespace Sys2Proof.Machine

open Sys2Proof

/-! ### Window tables (R10) -/

/-- One word of a table written, by the window's ADDR register; a table not listed is read-only. -/
def winPut (win : Nat) : Core → Nat → Nat → Core × Nat :=
  if win = Reg.TTX_ENT_TBL then entWrite
  else if win = Reg.TTX_SEG_TBL then segWrite
  else if win = Reg.TTX_PAT_TBL then patWrite
  else if win = Reg.TTX_SHD_TBL then shdWrite
  else if win = Reg.FRT_RT_TBL then rtWrite
  else if win = Reg.FRT_CIRC_TBL then circWrite
  else if win = Reg.FRT_ESC_TBL then escWrite
  else if win = Reg.FRT_SRT_TBL then srtWrite
  else if win = Reg.FCS_CTX_TBL then fctxWrite
  else if win = Reg.FCS_CR_TBL then crWrite
  else if win = Reg.CLE_CTX_TBL then cctxWrite
  else if win = Reg.CLE_JOB_TBL then jobWrite
  else if win = Reg.XFM_CLS_TBL then clsWrite
  else if win = Reg.XFM_RANK_TBL then rankWrite
  else if win = Reg.BPM_POOL_TBL then poolTblWrite
  else if win = Reg.BPM_OWN_TBL then ownTblWrite
  else if win = Reg.SCH_QCFG_TBL then qcfgWrite
  else if win = Reg.SCH_SHP_TBL then shpWrite
  else if win = Reg.SCH_GCL_TBL then gclWrite
  else if win = Reg.CIP_BLOB_TBL then blobWrite
  else if win = Reg.OPC_HOP_TBL then hopWrite
  else if win = Reg.EVL_SEV_TBL then sevWrite
  else tblRo

/-- One word of a table read; words no operation computes are as stored, reserved bits 0. -/
def winGet (win : Nat) (k : Core) (w : Nat) : Nat :=
  if win = Reg.TTX_SST_TBL then sstRead k w
  else if win = Reg.TTX_ENT_TBL then entRead k w
  else if win = Reg.FCS_CTX_TBL then fctxRead k w
  else if win = Reg.FCS_FST_TBL then fstRead k w
  else if win = Reg.CLE_CTX_TBL then cctxRead k w
  else if win = Reg.CLE_CST_TBL then ccstRead k w
  else if win = Reg.CLE_PARK_TBL then parkRead k w
  else if win = Reg.XFM_CST_TBL then cstRead k w
  else if win = Reg.XFM_RANK_TBL then k.rankRead w
  else if win = Reg.BPM_POOL_TBL then poolTblRead k w
  else if win = Reg.BPM_PST_TBL then pstRead k w
  else if win = Reg.BPM_USE_TBL then useRead k w
  else if win = Reg.SCH_QCFG_TBL then k.tb win w &&& (if w % 2 = 0 then 0xF07F1FFF else 0xFFFF)
  else if win = Reg.SCH_SHP_TBL then shpRead k w &&& ([0x8001FFFF, 0xFFFFFF].getD (w % 4) 0xFFFFFFFF)
  else if win = Reg.SCH_QST_TBL then qstRead k w
  else if win = Reg.CIP_BLOB_TBL then 0
  else if win = Reg.CIP_KSLOT_TBL then kslotRead k w
  else match (List.range 16).find? (fun i =>
      (decide (i < 8) && (win == Reg.HBC_S_PC_TBL i || win == Reg.LFR_G_MDL_TBL i)) || win == Reg.LCD_P_LANE_TBL i) with
    | some i => if win = Reg.HBC_S_PC_TBL i then pcRead i k w else if win = Reg.LCD_P_LANE_TBL i then laneRead i k w else mdlRead i k w
    | none => k.tb win w

/-- What a read does to the word it returns: MAX_DELAY of a queue and a FIFO parity count are cleared (09_scheduling R268,
07_buffers_memory R219). -/
def winSeen (win : Nat) (k : Core) (w : Nat) : Core :=
  if win = Reg.SCH_QST_TBL then k.qstClear w
  else if win = Reg.HBC_FPAR_TBL then k.tbw win w 0
  else k

/-- The status of a read that reaches its word. -/
def winReadSt (win : Nat) : Nat := if win = Reg.CIP_BLOB_TBL then stDenied else stOk

/-- Is the word delivered with its poison tag (07_buffers_memory R214)? -/
def winPoison (win : Nat) (k : Core) (w : Nat) : Bool := win == Reg.EVL_LOG_TBL && k.logPoison w

/-- A read of a window's DATA register: the value, and whether it is poisoned. `mg` as for `Core.winSt`. -/
def Core.winFetch (k : Core) (win words : Nat) (mg : Bool) : Core × Nat × Bool :=
  let w := k.fd win 23 0
  if words ≤ w then (k.winSt win mg stRange, 0, false)
  else (((winSeen win k w).winSt win mg (winReadSt win)).winAdv win, winGet win k w, winPoison win k w)

/-- The windows of Marigold's blocks: all read-only but the page buffer, which is write-only. -/
def State.aonWord (s : State) (win w : Nat) : Nat :=
  if win = Reg.SUP_CAPU_TBL then
    let v := s.core.svc
    let part := fun (m i : Nat) => fld m (32 * i + 31) (32 * i)
    if s.aon.capGen = 0 then 0
    else if w < 8 then part v.churn w
    else if w < 13 then part v.ciph (w - 8)
    else if w = 13 then v.press
    else if w = 14 then v.skim
    else if w = 15 then v.expd
    else part v.pc (w - 16)
  else if win = Reg.BOOT_JNL_TBL then s.nvm.journalWord w
  else if win = Reg.BOOT_NVMB_TBL then 0
  else if win = Reg.PWR_RAIL_TBL then s.aon.pwr.rails.get 0 w
  else if win = Reg.THM_SNS_TBL then s.sensorWord w
  else if win = Reg.ELC_U_TBL then s.aon.unitWord w
  else s.aon.tb win w

def Aon.winSt (a : Aon) (win : Nat) (mg : Bool) (st : Nat) : Aon := if mg then a.wrf win 31 24 st else a

def Aon.winAdv (a : Aon) (win : Nat) : Aon := a.wrf win 23 0 (a.fd win 23 0 + 1)

def Aon.winWrite (a : Aon) (win words : Nat) (mg : Bool) (v : Nat) : Aon × Nat :=
  let w := a.fd win 23 0
  if words ≤ w then (a.winSt win mg stRange, stRange)
  else if win = Reg.BOOT_NVMB_TBL then (((a.tbw win w v).winSt win mg stOk).winAdv win, stOk)
  else ((a.winSt win mg stRange).winAdv win, stRange)

def State.aonFetch (s : State) (win words : Nat) (mg : Bool) : State × Nat :=
  let w := s.aon.fd win 23 0
  if words ≤ w then ({ s with aon := s.aon.winSt win mg stRange }, 0)
  else ({ s with aon := (s.aon.winSt win mg stOk).winAdv win }, s.aonWord win w)

/-! ### Registers as read -/

/-- Registers of Marigold's blocks whose value comes from typed state (01_architecture R22, 15_boot_config R438, R439,
16_management R468, 17_power_thermal R490, R492). -/
def State.aonView (s : State) (a : Nat) : Nat :=
  let v := s.core.svc
  let b := s.aon.boot
  let cap := fun (n : Nat) => if s.aon.capGen = 0 then 0 else n
  if a = Reg.SUP_CAP_GEN then s.aon.capGen
  else if a = Reg.SUP_CAP_OFL then cap v.ofl
  else if a = Reg.SUP_CAP_LINE then cap v.line
  else if a = Reg.SUP_CAP_CLE then
    cap (args [(31, 16, ((List.range 16).filter s.core.creamOn).foldl (fun m i => m + 2 ^ i) 0), (8, 0, popCount 256 v.churn)])
  else if a = Reg.SUP_CAP_XFM then cap (args [(20, 16, popCount 16 v.press), (13, 8, popCount 32 v.expd), (5, 0, popCount 32 v.skim)])
  else if a = Reg.SUP_CAP_CIP then cap (popCount 160 v.ciph)
  else if a = Reg.SUP_CAP_HBM then cap (args [(31, 16, v.slices), (7, 0, v.stackSet)])
  else if a = Reg.SUP_CAP_SRAM then cap v.sram
  else if a = Reg.SUP_CAP_BOOT then cap v.skip
  else if a = Reg.SUP_MOP_STAT then s.aon.mopStat
  else if a = Reg.BOOT_STAT then s.aon.bootStat
  else if a = Reg.BOOT_NUM then s.nvm.bootNum % 2 ^ 32
  else if a = Reg.BOOT_IMAGE then args [(31, 24, b.svn)]
  else if a = Reg.BOOT_BUILD_LO then fld b.build 31 0
  else if a = Reg.BOOT_BUILD_HI then fld b.build 63 32
  else if a = Reg.BOOT_TIME then b.ms % 2 ^ 32
  else if a = Reg.BOOT_NVM_STAT then s.nvm.stat
  else if a = Reg.OTP_STAT then s.otp.stat
  else if a = Reg.OTP_VALUE then s.otp.value
  else if a = Reg.OTP_LINEMASK then s.otp.lineMask
  else if a = Reg.OTP_USED then s.otp.usedWord
  else if a = Reg.PWR_STAT then s.aon.pwrStat
  else if a = Reg.PWR_VIN then args [(31, 16, s.aon.pwr.vin), (15, 0, s.aon.pwr.iin / 10)]
  else if a = Reg.PWR_PIN then args [(15, 0, s.aon.pwr.pin / 10)]
  else if a = Reg.THM_STAT then s.aon.thmStat
  else if a = Reg.CLK_STAT then s.aon.clkStat
  else s.aon.rd a

/-- Registers of a single block whose value comes from typed state. -/
def Core.blockView (k : Core) (a : Nat) : Nat :=
  if a = Reg.TBS_STAT then k.tbsStat
  else if a = Reg.TBS_TIME_LO then fld k.gns 31 0
  else if a = Reg.TBS_TIME_HI then fld k.gns 63 32
  else if a = Reg.TBS_FRAC then k.tim.glob % 65536
  else if a = Reg.TBS_FREQ then toFld 32 k.tim.freq
  else if a = Reg.TTX_STAT then k.ttxStat
  else if a = Reg.FRT_STAT then args [(31, 29, (k.fst .router).code), (7, 0, k.fd a 7 0)]
  else if a = Reg.FRT_EPOCH then k.epochRead
  else if a = Reg.FRT_SEPOCH then k.sepochRead
  else if a = Reg.FRT_INFL0 then min k.frt.ep.infl0 0xFFFFFF
  else if a = Reg.FRT_INFL1 then min k.frt.ep.infl1 0xFFFFFF
  else if a = Reg.FRT_SINFL0 then min k.frt.sep.infl0 0xFFFFFF
  else if a = Reg.FRT_SINFL1 then min k.frt.sep.infl1 0xFFFFFF
  else if a = Reg.CLE_PART_STAT then args [(31, 16, k.site.part), (15, 0, k.site.pend)]
  else if a = Reg.CLE_PARK then args [(31, 16, k.fd a 31 16), (8, 0, k.cle.park.length % 512)]
  else if a = Reg.HBC_BUDGET then k.budgetRead
  else if a = Reg.HBC_BUDGET_USE then k.budgetUse
  else if a = Reg.CIP_STAT then args [(31, 31, k.kbusy.toNat), (7, 0, k.fd a 7 0)]
  else if a = Reg.CIP_LEDGER then k.cip.next
  else if a = Reg.LCD_RETRY_EFF then k.retryEff / 1000
  else if a = Reg.OPC_STAT then args [(31, 31, k.opc.lsafe.toNat), (7, 0, k.fd a 7 0)]
  else if a = Reg.OPC_MRES then k.mresRead
  else if a = Reg.MGT_ASTER_STAT then k.asterStat
  else if a = Reg.TLM_FIFO then setFld (k.rd a) 9 0 (min k.tlmOcc 1023)
  else if a = Reg.TLM_STAT then args [(31, 31, k.tlm.link.toNat)]
  else k.rd a

/-- Registers of a group, an HBM stack or a request queue, number `g` (07_buffers_memory R223, 08_cipher R249, 09_scheduling R267, 11_line_framing R330, 12_line_coding_retry R355, 13_optics R383). -/
def Core.groupView (k : Core) (g a : Nat) : Nat :=
  let x := k.grp g
  if a = Reg.SCH_G_GSTAT g then k.gstat g
  else if a = Reg.LFR_G_STAT g then k.groupStat g
  else if a = Reg.LFR_G_CFG g then k.rd a &&& 0xFFFFFF80
  else if a = Reg.LFR_G_PARITY g then k.rd a &&& 0xFFFF
  else if a = Reg.LFR_G_SVC g then args [(31, 16, x.txSvc), (15, 0, x.rxSvc)]
  else if a = Reg.LFR_G_READY g then args [(31, 16, x.peerReady), (15, 0, x.rxReady)]
  else if a = Reg.LFR_G_DCOMP g then x.dcomp % 2 ^ 32
  else if a = Reg.LFR_G_SKEWMAX g then k.skewMax / 1000
  else if a = Reg.LCD_G_STAT g then args [(31, 27, x.kRow), (26, 25, x.mRow), (24, 22, x.chosen)]
  else if a = Reg.OPC_G_EXP g then k.groupExp g
  else if a = Reg.HBC_S_STAT g then k.stackStat g
  else if a = Reg.CIP_Q_STAT g then (k.reqQ g).length
  else if a = Reg.TTX_G_PAT g then args [(7, 4, k.patNow g), (3, 0, k.fd a 3 0)]
  else k.blockView a

/-- Registers of ports `n` (03_fabric_side R87, 11_line_framing R328, 12_line_coding_retry R354, 13_optics R382). -/
def Core.portView (k : Core) (n a : Nat) : Nat :=
  if a = Reg.FPC_P_STAT n then k.oflStat n
  else if a = Reg.LFR_P_STAT n then k.lpStat n
  else if a = Reg.LFR_P_DEFECT n then args [(15, 8, (k.lp n).decl), (7, 0, (k.lp n).eff)]
  else if a = Reg.LFR_P_RXID n then
    let p := k.lp n
    args [(31, 16, p.gid), (15, 12, p.member), (11, 8, p.peerSite), (5, 0, p.peerGw)]
  else if a = Reg.LCD_P_STAT n then
    args [(31, 24, ((List.range 8).filter (fun l => ((k.lp n).lanes.get {} l).lock)).foldl (fun m l => m + 2 ^ l) 0)
         , (21, 20, k.fd a 21 20)]
  else if a = Reg.OPC_P_STAT n then k.opticStat n
  else if a = Reg.OPC_P_SCORE n then k.opticScore n
  else k.groupView n a

/-- A register's value: instance `i` of its row. -/
def State.view (s : State) (a i : Nat) : Nat :=
  let k := s.core
  if isAon a then s.aonView a
  else if a = Reg.MGT_ALERT_STAT then args [(4, 0, k.rd a), (1, 1, (s.aon.boot.phase == 2).toNat)]
  else if a = Reg.SEC_DEBUG then args [(31, 31, s.otp.locked.toNat), (30, 30, s.otp.session.toNat), (7, 0, k.fd a 7 0)]
  else k.portView i a

/-! ### Reads (R6, R8, R9) -/

/-- The low word of a pair latches its high word, and TBS_TIME_LO the fraction too (10_timetable_time R295). -/
def State.latchHigh (s : State) (a i : Nat) : State :=
  let put := fun (s : State) (h : Nat) =>
    if isAon h then { s with aon := { s.aon with hold := s.aon.hold.set none h (some (word (s.view h i))) } }
    else { s with core := { s.core with hold := s.core.hold.set none h (some (word (s.view h i))) } }
  let s := put s (a + 4)
  if a = Reg.TBS_TIME_LO then put s (a + 8) else s

/-- The high word: its holding copy, once, else the live word. -/
def State.readHigh (s : State) (a i : Nat) : State × Nat :=
  if isAon a then
    match s.aon.hold.get none a with
    | some v => ({ s with aon := { s.aon with hold := s.aon.hold.set none a none } }, v.toNat)
    | none => (s, s.view a i)
  else
    match s.core.hold.get none a with
    | some v => ({ s with core := { s.core with hold := s.core.hold.set none a none } }, v.toNat)
    | none => (s, s.view a i)

/-- A register cleared by the read that returns it. -/
def State.clearRead (s : State) (a : Nat) : State :=
  if isAon a then { s with aon := s.aon.wr a 0 }
  else { s with core := s.core.wr a (if a = Reg.CLE_PARK_HWM then s.core.cle.park.length else 0) }

/-- A read of the register at `a`: the value, and whether it is poisoned. -/
def State.readReg (s : State) (a : Nat) (mg : Bool) : State × Nat × Bool :=
  match regAt a with
  | none => (s, 0, false)
  | some (r, i) =>
    match r.acc with
    | .wo => (s, 0, false)
    | .cnt => (s.clearRead a, s.view a i, false)
    | .rc => (s.clearRead a, s.view a i, false)
    | .roLo => (s.latchHigh a i, s.view a i, false)
    | .rwLo => (s.latchHigh a i, s.view a i, false)
    | .cumLo => (s.latchHigh a i, s.view a i, false)
    | .roHi => let z := s.readHigh a i
               (z.1, z.2, false)
    | .rwHi => let z := s.readHigh a i
               (z.1, z.2, false)
    | .cumHi => let z := s.readHigh a i
                (z.1, z.2, false)
    | .winData =>
      if isAon a then
        let z := s.aonFetch (a - 4) r.words mg
        (z.1, z.2, false)
      else
        let z := s.core.winFetch (a - 4) r.words mg
        ({ s with core := z.1 }, z.2)
    | _ => (s, s.view a i, false)

/-! ### Writes (R6, R7, R510) -/

/-- Can a write reach a field of the row? -/
def Acc.writable : Acc → Bool
  | .rw | .rwLo | .rwHi | .wo | .w1c => true
  | _ => false

/-- LCD_MARGIN_CFG: HOST_FAIL below HOST_PASS (12_line_coding_retry R356). -/
def Core.marginWrite (k : Core) (v : Nat) : Core × Nat :=
  if fld v 23 16 ≤ fld v 15 8 then (k, stRange) else k.rw Reg.LCD_MARGIN_CFG v

/-- A line coding register. -/
def Core.lcdWrite (k : Core) (a v : Nat) : Core × Nat :=
  if a = Reg.LCD_RETRY then k.retryWrite v
  else if a = Reg.LCD_MARGIN_CFG then k.marginWrite v
  else k.lcdGroupWrite ((a - 0x481000) / 0x100) a v

/-- A management or telemetry register. -/
def Core.mgtWrite (k : Core) (a v : Nat) : Core × Nat :=
  if a = Reg.MGT_ALERT_STAT then (k.wr a (k.rd a &&& (0x1D ^^^ (v &&& 0x1D))), stOk)
  else if a = Reg.MGT_ASTER_CMD then k.asterCmd (fld v 31 28)
  else if Reg.TLM_CFG ≤ a then k.tlmWrite a v
  else k.rw a v

/-- A writable register of a block outside Marigold. -/
def Core.blockWrite (k : Core) (a v : Nat) : Core × Nat :=
  if a < 0xA0000 then k.tbsWrite a v
  else if a < 0x100000 then k.ttxWrite a v
  else if a < 0x140000 then k.fpcWrite ((a - 0x100000) / 0x1000) a v
  else if a = Reg.FRT_SEPOCH then k.sepochWrite v
  else if a < 0x180000 then k.frtWrite a v
  else if a < 0x200000 then k.fcsWrite a v
  else if a < 0x280000 then k.cleWrite a v
  else if a < 0x300000 then k.xfmWrite a v
  else if a < 0x340000 then k.bpmWrite a v
  else if a < 0x380000 then k.hbcWrite a v
  else if a < 0x3C0000 then k.schWrite a v
  else if a < 0x400000 then k.cipWrite a v
  else if a < 0x420000 then k.lpWrite ((a - 0x400000) / 0x1000) a v
  else if a < 0x430000 then k.groupWrite ((a - 0x420000) / 0x1000) a v
  else if Reg.LFR_TRN_P 0 ≤ a ∧ a < Reg.LFR_TRN_P 16 then k.trnWrite ((a - Reg.LFR_TRN_P 0) / 4) v
  else if a < 0x480000 then k.rw a v
  else if a < 0x4C0000 then k.lcdWrite a v
  else if a < 0x500000 then k.opcWrite a v
  else if a < 0x540000 then k.mgtWrite a v
  else k.rw a v

/-- A write of the register at `a` of row `r`, outside Marigold: the status the block reports. -/
def Core.regWrite (k : Core) (r : RegRow) (a v : Nat) (mg : Bool) : Core × Nat :=
  match r.acc with
  | .winAddr => (k.wrf a 23 0 (fld v 23 0), stOk)
  | .winData => k.winWrite (a - 4) r.words mg (winPut (a - 4)) v
  | acc => if acc.writable then k.blockWrite a v else (k, stOk)

/-- A writable register of Marigold's blocks. -/
def State.aonWrite (s : State) (a v : Nat) : State × Nat :=
  if a = Reg.SUP_MOP_ARM then (s.mopArm (fld v 3 0), stOk)
  else if a = Reg.SUP_MOP then (s.mopWrite (fld v 3 0), stOk)
  else if a = Reg.BOOT_CTRL then s.bootCtrl v
  else if a = Reg.BOOT_FCMD then s.bootFcmd (fld v 31 28)
  else if a = Reg.BOOT_NVM_CMD then s.nvmCmd (fld v 31 28) (fld v 27 27) (fld v 16 0)
  else if a = Reg.OTP_CMD then s.otpCmd (fld v 31 28)
  else if a < 0x40000 then ({ s with aon := s.aon.wr a v }, stOk)
  else s.pwrWrite a v

/-- A write of the register at `a`: the status its block reports; ST_RANGE where no block maps it. -/
def State.writeReg (s : State) (a v : Nat) (mg : Bool) : State × Nat :=
  match regAt a with
  | none => (s, stRange)
  | some (r, _) =>
    if isAon a then
      match r.acc with
      | .winAddr => ({ s with aon := s.aon.wrf a 23 0 (fld v 23 0) }, stOk)
      | .winData =>
        let z := s.aon.winWrite (a - 4) r.words mg v
        ({ s with aon := z.1 }, z.2)
      | acc => if acc.writable then s.aonWrite a v else (s, stOk)
    else
      let z := s.core.regWrite r a v mg
      (s.onCore (fun _ => z.1.settle), z.2)

/-! ### Where a write's status shows -/

/-- The register whose bits [7:0] hold the status of the most recent write to the block, port or group. -/
def statReg (a : Nat) : Option Nat :=
  if a < 0x10000 then none
  else if a < 0x20000 then some Reg.BOOT_STAT
  else if a < 0x40000 then none
  else if a < 0x60000 then some Reg.PWR_STAT
  else if a < 0x80000 then none
  else if a < 0xA0000 then some Reg.TBS_STAT
  else if a < 0x100000 then some Reg.TTX_STAT
  else if a < 0x140000 then some (Reg.FPC_P_STAT ((a - 0x100000) / 0x1000))
  else if a < 0x180000 then some Reg.FRT_STAT
  else if a < 0x200000 then some Reg.FCS_STAT
  else if a < 0x280000 then some Reg.CLE_STAT
  else if a < 0x300000 then some Reg.XFM_STAT
  else if a < 0x340000 then some Reg.BPM_STAT
  else if a < 0x380000 then some Reg.HBC_STAT
  else if a < 0x3C0000 then some Reg.SCH_STAT
  else if a < 0x400000 then some Reg.CIP_STAT
  else if a < 0x420000 then some (Reg.LFR_P_STAT ((a - 0x400000) / 0x1000))
  else if a < 0x430000 then some (Reg.LFR_G_STAT ((a - 0x420000) / 0x1000))
  else if a < 0x480000 then some Reg.LFR_STAT
  else if a < 0x4C0000 then some Reg.LCD_STAT
  else if a < 0x500000 then some Reg.OPC_STAT
  else if a < 0x540000 then some Reg.MGT_STAT
  else if a < 0x580000 then some Reg.SEC_DEBUG
  else some Reg.EVL_STAT

/-- The status of a management write shows in LAST_ST of its block. -/
def State.putStat (s : State) (a st : Nat) : State :=
  match statReg a with
  | none => s
  | some r => if isAon r then { s with aon := s.aon.wrf r 7 0 st } else { s with core := s.core.wrf r 7 0 st }

end Sys2Proof.Machine
end

