-- ==== Sys2Proof/Machine/Records.lean ====
section
/-!
DEFINITION. Records (15_boot_config R416, R417): their form, how one is applied, how a list runs. A WAIT that is not yet met
suspends the list; the command that runs the list takes it up again.
-/

namespace Sys2Proof.Machine

open Sys2Proof

/-- A record: a register write, window writes, a wait. -/
inductive Rcd
  | reg (a v : Nat)
  | win (a w : Nat) (data : List Nat)
  | wait (a mask val tmo : Nat)
  | bad
deriving DecidableEq, Repr

/-- The record at the front of a list, and the words after it: `bad` for a reserved KIND, bits [27:0] not 0, a count or
timeout outside its range, or a record that runs past the end. -/
def takeRec (l : List Word) : Rcd × List Word :=
  let n := fun (i : Nat) => (l.getD i 0).toNat
  let c := n 3
  if fld (n 0) 27 0 ≠ 0 then (.bad, [])
  else match fld (n 0) 31 28 with
    | 1 => if l.length < 3 then (.bad, []) else (.reg (n 1) (n 2), l.drop 3)
    | 2 =>
      if l.length < 4 + c ∨ c = 0 ∨ 65536 < c then (.bad, [])
      else (.win (n 1) (n 2) (((l.drop 4).take c).map (fun (x : Word) => x.toNat)), l.drop (4 + c))
    | 3 => if l.length < 5 ∨ n 4 = 0 ∨ 100000 < n 4 then (.bad, []) else (.wait (n 1) (n 2) (n 3) (n 4), l.drop 5)
    | _ => (.bad, [])

/-- A record's write; an address that is not a multiple of 4 addresses no register (00_scope R5). -/
def State.recWrite (s : State) (a v : Nat) : State × Nat := if a % 4 ≠ 0 then (s, stAlign) else s.writeReg a v false

/-- Writes through a window's DATA register until one fails. -/
def State.recWin (s : State) (d : Nat) : List Nat → State × Nat
  | [] => (s, stOk)
  | v :: l =>
    let r := s.recWrite d v
    if r.2 = stOk then r.1.recWin d l else r

def isWinAddr (a : Nat) : Bool :=
  match regAt a with
  | some (r, _) => r.acc == .winAddr
  | none => false

/-- A record applied: the status it produces; none while a WAIT with deadline `due` goes on. -/
def State.applyRec (s : State) (r : Rcd) (due : Option Nat) : State × Option Nat :=
  match r with
  | .reg a v => let z := s.recWrite a v
                (z.1, some z.2)
  | .win a w l =>
    if !isWinAddr a then (s, some stRange)
    else
      let z := (s.recWrite a w).1.recWin (a + 4) l
      (z.1, some z.2)
  | .wait a m v _ =>
    let z := if a % 4 ≠ 0 then (s, 0, false) else s.readReg a false
    if z.2.1 &&& m = v then (z.1, some stOk)
    else match due with
      | some t => if t ≤ s.aon.now then (z.1, some stTimeout) else (z.1, none)
      | none => (z.1, none)
  | .bad => (s, some stRange)

/-- The deadline of a WAIT that goes on: its own from the first look, or the one it has. -/
def Rcd.due (r : Rcd) (now : Nat) (old : Option Nat) : Option Nat :=
  match r, old with
  | .wait _ _ _ t, none => some (now + 1000 * t)
  | _, o => o

/-- Lists run to their end (some ST_OK), to the first record that fails (its status), or to a WAIT that goes on (none).
`chk` is what may be addressed. A record that restarts the gateway ends its list. -/
def State.runRecs (chk : State → Rcd → Nat) : Nat → State → RecRun → State × RecRun × Option Nat
  | 0, s, r => (s, r, some stOk)
  | n + 1, s, r =>
    match r.lists with
    | [] => (s, r, some stOk)
    | [] :: ls => State.runRecs chk n s { r with lists := ls }
    | (x :: xs) :: ls =>
      let z := takeRec (x :: xs)
      if chk s z.1 ≠ stOk then (s, r, some (chk s z.1))
      else
        let t := s.applyRec z.1 r.due
        if t.1.nvm.bootNum ≠ s.nvm.bootNum then (t.1, r, some stOk)
        else match t.2 with
          | none => (t.1, { r with due := z.1.due s.aon.now r.due }, none)
          | some st =>
            if st = stOk then State.runRecs chk n t.1 { lists := z.2 :: ls, idx := r.idx + 1 }
            else (t.1, r, some st)

/-- Enough steps for every record. -/
def RecRun.fuel (r : RecRun) : Nat := r.lists.length + r.lists.flatten.length + 1

/-- No limit: the image addresses any register. -/
def anyTarget (_ : State) (_ : Rcd) : Nat := stOk

end Sys2Proof.Machine
end

