-- ==== Sys2Proof/Machine/Boot.lean ====
section
/-!
DEFINITION. The boot steps (15_boot_config R419 to R423; 01_architecture R20; 07_buffers_memory R197, R198;
12_line_coding_retry R350, R351): what each step's completion fixes, marks, failures and what follows them.
-/

namespace Sys2Proof.Machine

open Sys2Proof

/-! ### What a step fixes -/

/-- How a step ends: its status, and the mask or index its mark records; a step that goes on has no end. -/
structure StepEnd where
  done : Bool := true
  fail : Bool := false
  status : Nat := 0
  arg : Nat := 0
deriving DecidableEq, Repr

/-- The status of a failure the step reports; one that reports none, or one R12 does not know, has a free one. -/
def failStatus (r : StepResult) (free : Nat) : Nat :=
  if r.status = 0 ∨ 0x12 < r.status then freeRefusal free else r.status

/-- `m` without the units of mask `x`. -/
def maskOut (n m x : Nat) : Nat := (bitsOf n m).foldl (fun a i => if bitAt x i then a else a + 2 ^ i) 0

def Core.setSvc (k : Core) (f : Svc → Svc) : Core := { k with svc := f k.svc }

/-- Step 3: an I/O die link that failed takes its 16 OFL or 8 line ports with it. -/
def Core.stepDies (k : Core) (x : Nat) : Core :=
  let ofl := (if bitAt x 0 then 0 else 0xFFFF) + (if bitAt x 1 then 0 else 0xFFFF0000)
  let line := (if bitAt x 2 then 0 else 0xFF) + (if bitAt x 3 then 0 else 0xFF00)
  k.setSvc (fun v => { v with ofl := ofl, line := line })

/-- Step 4: the image of the slot is taken. -/
def State.stepImage (s : State) : State × StepEnd :=
  let i := s.aon.boot.image
  let st := s.imageCheck i
  if st ≠ stOk then (s, { fail := true, status := st })
  else
    let s := s.setBoot { s.aon.boot with svn := s.nvm.byteN i 12, gw := s.nvm.byteN i 14 % 64, build := s.nvm.num i 16 8 }
    ({ s with core := { s.core with ident := (s.nvm.sectionWords i 1).getD [] } }, {})

/-- Slices that do not return: of a pseudo-channel in quarantine, or with a remap record that says the repair failed. -/
def State.lostSlices (s : State) (mask : Nat) : List (Nat × Nat × Nat) :=
  let pcs := (bitsOf 8 mask).flatMap (fun st => (List.range 32).map (fun p => (st, p)))
  pcs.filterMap (fun z =>
    let q := (s.aon.quarantine (496 + 32 * z.1 + z.2)).state
    if s.nvm.remaps.any (fun r => r.1 == 32 * z.1 + z.2 && r.2.2 == 0) then some (z.1, z.2, 1)
    else if q = 1 ∨ q = 2 then some (z.1, z.2, 3)
    else none)

/-- Step 5: the stacks that trained. -/
def State.stepHbm (s : State) (r : StepResult) : State × StepEnd :=
  let x := (r.excluded ||| s.aon.boot.badStack) % 256
  let mask := maskOut 8 0xFF x
  if mask = 0 then (s, { fail := true, status := failStatus r s.core.free, arg := x })
  else
    let con := if s.aon.boot.method = 1 then mask else r.alternate &&& mask
    let k : Core := { s.core with hbc := { s.core.hbc with stackMask := mask, conserv := con } }
    let k := (s.lostSlices mask).foldl (fun (k : Core) z => ({ k with hbc := { k.hbc with
        retired := k.hbc.retired.set 0 z.2.1 z.2.2, pcCause := k.hbc.pcCause.set 0 (32 * z.1 + z.2.1) z.2.2 } } : Core)) k
    let k := (k.setHbmSvc mask).setFn .hbc { fst := .on, since := s.core.now }
    (({ s with core := k } : State).setBoot { s.aon.boot with badStack := 0 }, { arg := x })

/-- Step 6: SRAM repair withdraws `n` units of 64 KiB; the fixed regions need 832. The event log starts. -/
def State.stepSram (s : State) (r : StepResult) : State × StepEnd :=
  let n := r.excluded
  if 2240 < n then (s, { fail := true, status := failStatus r s.core.free, arg := n })
  else ((s.onCore (fun k => k.setSvc (fun v => { v with sram := 0xC00 - n }))).logStart, { arg := n })

/-- The values of lanes `base + per * p` and on of each port `p` in mask `ports` once they trained: by the alternate method
(mask `alt`) those of section `typ` of the image, or as they were where it has none; else adapted ones, which the spec does not
give (R415, R420). -/
def State.laneValues (s : State) (typ base per ports alt : Nat) : State :=
  let w := s.nvm.sectionWords s.aon.boot.image typ
  let f := s.core.free
  let phy := (bitsOf 32 ports).foldl (fun (m : SMap (Option Word)) p =>
    (List.range per).foldl (fun (m : SMap (Option Word)) j =>
      let l := per * p + j
      if bitAt alt p then (match w with
        | some ws => m.set none (base + l) (some (ws.getD l 0))
        | none => m)
      else m.set none (base + l) (some (word (Config.freeField (f + l))))) m) s.nvm.phy
  { s with nvm := { s.nvm with phy := phy }, core := { s.core with free := f + 128 } }

/-- The ports of a step that trained by the alternate method: all of a repeated step's, else those reported. -/
def State.altPorts (s : State) (r : StepResult) (ports : Nat) : Nat := if s.aon.boot.method = 1 then ports else r.alternate

/-- Step 7: the fabric lanes (R420). -/
def State.stepFabric (s : State) (r : StepResult) : State :=
  let s := s.onCore (fun k => k.setSvc (fun v => { v with ofl := maskOut 32 v.ofl r.excluded }))
  s.laneValues 2 0 4 s.core.svc.ofl (s.altPorts r s.core.svc.ofl)

/-- Step 8: the line host lanes of the ports enabled in OTP, and the codes their modules take at ENABLE (R415, R420; 13_optics
R360). -/
def State.stepLine (s : State) (r : StepResult) : State :=
  let codes := ((s.nvm.sectionWords s.aon.boot.image 3).getD []).drop 128
  let s := s.onCore (fun k => ({ k with opc := { k.opc with eqCodes := codes } } : Core).setSvc
    (fun v => { v with line := maskOut 16 (v.line &&& s.otp.lineMask) r.excluded }))
  s.laneValues 3 128 8 s.core.svc.line (s.altPorts r s.core.svc.line)

/-- Modules of a bus that failed: treated as absent (13_optics R362). -/
def Core.stepBuses (k : Core) (x : Nat) : Core :=
  ((List.range 16).filter (fun n => bitAt x (n / 4))).foldl (fun (k : Core) n =>
    k.setOptic n { k.optic n with present := false, mstate := 0 }) k

/-- Is the ratio `errs / syms` below 10^(-e/10); above it? -/
def ratioBelow (errs syms e : Nat) : Bool := decide (errs ^ 10 * 10 ^ e < syms ^ 10)
def ratioAbove (errs syms e : Nat) : Bool := decide (syms ^ 10 < errs ^ 10 * 10 ^ e)

/-- The class of a reading with media margin `m` (R351). -/
def Core.marginOf (k : Core) (z : Margin) (m : Int) : Nat :=
  let a := Reg.LCD_MARGIN_CFG
  if ratioAbove z.errs z.syms (k.fd a 15 8) ∨ 0 < z.ucw ∨ m ≤ 0 then 3
  else if ratioBelow z.errs z.syms (k.fd a 23 16) ∧ (k.fd a 31 24 : Int) ≤ m then 1
  else 2

/-- The largest `n` below `fuel` with 10^n at most `x`. -/
def log10 : Nat → Nat → Nat
  | 0, _ => 0
  | fuel + 1, x => if x < 10 then 0 else 1 + log10 fuel (x / 10)

/-- HOST_SER: -10 log10 of the host ratio, its rounding free as the spec states none; 0 when not measured; of a test without
a corrected symbol, whose ratio has no logarithm, free. -/
def Core.hostSer (k : Core) (z : Margin) : Nat :=
  if z.lock = false ∨ z.syms = 0 then 0
  else if z.errs = 0 then Config.freeField k.free % 65536
  else
    let n := log10 65535 (z.syms ^ 10 / z.errs ^ 10)
    if z.errs ^ 10 * 10 ^ n = z.syms ^ 10 then n else n + (Config.freeRound k.free 0 % 2).toNat

/-- The margin test ends: no port is under test, and every transmitter is disabled again. -/
def Core.endMargin (k : Core) : Core :=
  (List.range 16).foldl (fun (k : Core) n => k.setOptic n { k.optic n with txdis := true })
    { k with opc := { k.opc with mtest := 0 } }

/-- The result of port `n`'s test: UNKNOWN without lane lock, module reading or a Ready module; a FAIL port leaves service. -/
def Core.portMargin (k : Core) (l : List Margin) (n : Nat) : Core :=
  let z := (l.find? (fun z => z.port == n)).getD { port := n, lock := false, errs := 0, syms := 0, ucw := 0, media := none }
  let cls := match z.media with
    | some m => if z.lock && (k.optic n).present && (k.optic n).mstate == 3 then k.marginOf z m else 0
    | none => 0
  let m := toFld 16 (z.media.getD 0)
  let ser := k.hostSer z
  let k := (k.wrf (Reg.LCD_P_STAT n) 21 20 cls).wr (Reg.LCD_P_MARGIN n) (args [(31, 16, m), (15, 0, ser)])
  let k := (k.emit (0x5800 + n) 0x0B03 [(107, 106, cls), (105, 90, m), (15, 0, ser)]).fresh
  if cls = 3 then k.setSvc (fun v => { v with line := setBit v.line n false }) else k

/-- Step 10: each port under test gets its class, logged. -/
def Core.stepMargin (k : Core) (r : StepResult) : Core :=
  ((bitsOf 16 k.svc.line).foldl (fun (k : Core) n => k.portMargin r.margins n) k).endMargin

/-- Step 11: the KEK copy, then the blobs of the KEYS section; a blob refused does not fail the step. -/
def State.stepKeys (s : State) : State :=
  let c := s.core.cip
  let b := s.nvm.ledger.getLastD 0
  let s := { s with core := { s.core with cip := { c with kek := if c.noLoad then none else s.otp.kek, next := b, blkEnd := b } } }
  let w := ((s.nvm.sectionWords s.aon.boot.image 5).getD []).map (fun (x : Word) => x.toNat)
  let s := (List.range (w.length / 17)).foldl (fun (s : State) i =>
    let e := (w.drop (17 * i)).take 17
    (s.loadKey (fld (e.getD 0 0) 11 0) (fld (e.getD 0 0) 12 12) (wordsBytes (e.drop 1))).1) s
  s.drainEvents.alertChk

/-- Step 12 fixes the gateway's place from SITE_ID and GW. -/
def State.stepPlace (s : State) : State :=
  let v := args [(9, 6, s.otp.siteVal.getD 0), (5, 0, s.aon.boot.gw)]
  { s with core := { ((s.core.wr Reg.FRT_SITE v).wr Reg.CIP_SENDER v) with
      ident := (s.nvm.sectionWords s.aon.boot.image 1).getD [] } }

/-- The record lists a step applies. -/
def State.stepLists (s : State) (n : Nat) : List (List Word) :=
  let get := fun (t : Nat) => (s.nvm.sectionWords s.aon.boot.image t).getD []
  match n with
  | 9 => [get 4]
  | 12 => [get 6, get 7]
  | 14 => [get 8]
  | _ => []

/-- The lists of a step run, from the start or from the WAIT they stand at: none while a WAIT goes on. -/
def State.stepRecs (s : State) (n : Nat) : State × Option (Nat × Nat) :=
  let r := s.aon.boot.recs.getD { lists := s.stepLists n }
  let z := State.runRecs anyTarget r.fuel s r
  match z.2.2 with
  | none => (z.1.setBoot { z.1.aon.boot with recs := some z.2.1 }, none)
  | some st =>
    if z.1.nvm.bootNum ≠ s.nvm.bootNum then (z.1, none)
    else (z.1.setBoot { z.1.aon.boot with recs := none }, some (st, z.2.1.idx))

/-- The work of step `n` with the outcome it reports. -/
def State.stepWork (s : State) (n : Nat) (r : StepResult) : State × StepEnd :=
  let x := r.excluded
  let opt : StepEnd := { status := if r.ok then stOk else failStatus r s.core.free, arg := x }
  if r.ok = false ∧ optionalStep n = false then (s, { fail := true, status := failStatus r s.core.free, arg := x })
  else match n with
    | 2 =>
      let s := s.setPwr { s.aon.pwr with refclk := true }
      ((s.setBoot { s.aon.boot with altRails := false }).setPst .on 0, {})
    | 3 => (s.onCore (fun k => k.stepDies x), { arg := x })
    | 4 => s.stepImage
    | 5 => s.stepHbm r
    | 6 => s.stepSram r
    | 7 => (s.stepFabric r, opt)
    | 8 => (s.stepLine r, opt)
    | 9 =>
      let z := s.stepRecs 9
      (match z.2 with
      | none => (z.1, { done := false })
      | some (st, _) => (z.1.onCore (fun k => k.stepBuses x), { opt with status := if st = stOk then opt.status else st }))
    | 10 => (s.onCore (fun k => k.stepMargin r), opt)
    | 11 => (s.stepKeys, {})
    | 12 =>
      let z := (if s.aon.boot.recs.isSome then s else s.stepPlace).stepRecs 12
      (match z.2 with
      | none => (z.1, { done := false })
      | some (st, i) => (z.1, if st = stOk then {} else { fail := true, status := st, arg := i }))
    | 13 => (s, if s.core.tim.tstate = tsLockedRef then {} else { done := false })
    | 14 =>
      let z := s.stepRecs 14
      (match z.2 with
      | none => (z.1, { done := false })
      | some (st, _) => (z.1, { status := st }))
    | _ => (s, {})

/-! ### What follows a step (R421 to R423) -/

/-- BOOT_STEP, for FAIL, SKIP and HALT. -/
def State.bootStepEvent (s : State) (n mark st arg : Nat) : State :=
  s.emitA bootSrc 0x0E00 [(107, 104, n), (103, 100, mark), (99, 99, s.aon.boot.method), (95, 64, arg), (7, 0, st)]

/-- The units of an optional step that is skipped are excluded. -/
def Core.skipUnits (k : Core) (n : Nat) : Core :=
  let k := k.setSvc (fun v => { v with skip := setBit v.skip (n - 1) true })
  match n with
  | 7 => k.setSvc (fun v => { v with ofl := 0 })
  | 8 => k.setSvc (fun v => { v with line := 0 })
  | 9 => k.stepBuses 0xF
  | 10 => k.endMargin
  | _ => k

/-- Step 14 is done: the gateway is up, and a quiesce that was asked for begins (17_power_thermal R475). -/
def State.bootUp (s : State) : State :=
  let s := s.setBoot { s.aon.boot with phase := 1, ms := s.bootMs }
  let s := { s with core := { s.core with tim := { s.core.tim with noStep := true } } }
  let b := s.aon.boot
  let s := s.emitA bootSrc 0x0E01
    [(107, 107, b.warm.toNat), (106, 106, b.image), (105, 92, s.core.svc.skip), (63, 32, s.nvm.bootNum), (31, 0, b.ms)]
  if s.aon.pwr.qreq ∧ s.aon.pwr.pst = .on then s.quStart else s

/-- On from step `n`. After step 13 the timebase follows its source only where the time transfer function is ON
(10_timetable_time R295; DEDUCED, assumption log 125). -/
def State.afterStep (s : State) (n : Nat) : State :=
  let s := if n = 13 ∧ !s.core.isOn .timeXfer then s.onCore (fun k => k.timeHold) else s
  if n = 14 then s.bootUp else s.beginStep (n + 1)

/-- Step `n` fails: the first failure leads to a warm boot (`hard`: through Marigold's hard reset), a second one in the
method taken for it to SKIP or HALT. -/
def State.stepFail (s : State) (n st arg : Nat) (hard : Bool) : State :=
  if !s.altFor n then
    let s := (s.journal n 3 st arg).bootStepEvent n 3 st arg
    if hard then s.mopHardReset else s.warmBoot
  else if optionalStep n then
    ((s.journal n 4 st arg).bootStepEvent n 4 st arg |>.onCore (fun k => k.skipUnits n)).afterStep n
  else
    let s := s.journal n 5 st arg
    (s.setBoot { s.aon.boot with phase := 2, haltSt := st }).bootStepEvent n 5 st arg

/-- Does a step run? -/
def State.stepRuns (s : State) : Bool := s.aon.boot.phase == 0 && s.aon.boot.step != 0 && !s.aon.boot.wait

/-- The step under way reports its outcome. -/
def State.stepComplete (s : State) (r : StepResult) : State :=
  if !s.stepRuns then s
  else
    let n := s.aon.boot.step
    let z := s.stepWork n r
    if !z.2.done then z.1
    else if z.2.fail then z.1.stepFail n z.2.status z.2.arg false
    else (z.1.journal n 2 z.2.status z.2.arg).afterStep n

/-- The limit of the step under way expires; `x` the units that have not completed. -/
def State.stepExpires (s : State) (x : Nat) : State :=
  let b := s.aon.boot
  if s.stepRuns && decide (b.stepT + stepLimit b.step b.method ≤ s.aon.now) then s.stepFail b.step stTimeout x true else s

/-! ### Commands -/

/-- POWER_ON (17_power_thermal R489). -/
def execPowerOn (s : State) : Host.Outcome State Fault Refusal := .next (s.coldBoot true)

/-- COLD_RESET (17_power_thermal R489). -/
def execColdReset (s : State) : Host.Outcome State Fault Refusal := .next (s.coldBoot false)

/-- BOOT_WARM (R419): BOOT_CTRL with CMD WARM, PREF as it stands. -/
def execBootWarm (s : State) : Host.Outcome State Fault Refusal :=
  .next (State.bootWrote (s.bootCtrl (2 ^ 28 + s.aon.rd Reg.BOOT_CTRL % 2)))

/-- BOOT_STEP_COMPLETE (R421). -/
def execBootStepComplete (r : StepResult) (s : State) : Host.Outcome State Fault Refusal := .next (s.stepComplete r)

/-- BOOT_STEP_LIMIT (R421). -/
def execBootStepLimit (notDone : Nat) (s : State) : Host.Outcome State Fault Refusal := .next (s.stepExpires notDone)

end Sys2Proof.Machine
end

