-- ==== Sys2Proof/Machine/ChunkCmd.lean ====
section
/-!
DEFINITION. The commands of the collective engine (05_collectives) but those whose unit can report an error
(Machine/UnitCmd.lean) and the re-request of refused segments (Machine/GroupCmd.lean).
-/

namespace Sys2Proof.Machine

open Sys2Proof

def execCleCtxEnable (x : Fin 4096) (s : State) : Host.Outcome State Fault Refusal :=
  .next (s.mgmt Reg.CLE_STAT (fun k => k.ctxCmd 1 x.val))

def execCleCtxDisable (x : Fin 4096) (s : State) : Host.Outcome State Fault Refusal :=
  .next (s.mgmt Reg.CLE_STAT (fun k => let r := k.ctxCmd 2 x.val; (r.1.settle, r.2)))

def execCleStart (x : Fin 4096) (s : State) : Host.Outcome State Fault Refusal :=
  .next (s.mgmt Reg.CLE_STAT (fun k => let r := k.ctxCmd 3 x.val; (r.1.settle, r.2)))

def execCleCtxWrite (val : Word) (s : State) : Host.Outcome State Fault Refusal :=
  .next (s.mgmtWin Reg.CLE_STAT Reg.CLE_CTX_TBL 131072 cctxWrite val.toNat)

def execChunkGrant (x : Fin 4096) (s : State) : Host.Outcome State Fault Refusal :=
  .next (s.onCore (fun k => k.grantEv x.val))

def execChunkStaged (x : Fin 4096) (c : Nat) (s : State) : Host.Outcome State Fault Refusal :=
  .next (s.onCore (fun k => (k.stageEv x.val c).settle))

def execHeldContribTimeout (s : State) : Host.Outcome State Fault Refusal :=
  .next (s.onCore (fun k => k.heldEv))

def execChunkTimeout (x : Fin 4096) (c : Nat) (s : State) : Host.Outcome State Fault Refusal :=
  .next (s.onCore (fun k => (k.chunkTimeEv x.val c).settle))

def execChunkReleaseTimeout (x : Fin 4096) (c : Nat) (s : State) : Host.Outcome State Fault Refusal :=
  .next (s.onCore (fun k => (k.chunkRelEv x.val c).settle))

def execParkTimeout (x : Fin 4096) (s : State) : Host.Outcome State Fault Refusal :=
  .next (s.onCore (fun k => (k.parkEv x.val).settle))

def execCtxDrainTimeout (x : Fin 4096) (s : State) : Host.Outcome State Fault Refusal :=
  .next (s.onCore (fun k => (k.ctxDrainEv x.val).settle))

def execAbortRx (s : State) : Host.Outcome State Fault Refusal :=
  .next (s.onCore (fun k => k.abortEv.settle))

end Sys2Proof.Machine
end

