-- ==== Sys2Proof/Machine/FlowCmd.lean ====
section
/-!
DEFINITION. The commands of the flow context store (04_flows R94 to R117). Records that complete badly are settled with
the collective engine (05_collectives R126) within the command.
-/

namespace Sys2Proof.Machine

open Sys2Proof

def execFlowEnable (f : Fin 16384) (s : State) : Host.Outcome State Fault Refusal :=
  .next (s.mgmt Reg.FCS_STAT (fun k => k.flowCmd 1 f.val))

def execFlowDisable (f : Fin 16384) (s : State) : Host.Outcome State Fault Refusal :=
  .next (s.mgmt Reg.FCS_STAT (fun k => k.flowCmd 2 f.val))

def execFlowDrainTimeout (f : Fin 16384) (s : State) : Host.Outcome State Fault Refusal :=
  .next (s.onCore (fun k => (k.flowDrainEv f.val).settle))

def execFlowCtxWrite (val : Word) (s : State) : Host.Outcome State Fault Refusal :=
  .next (s.mgmtWin Reg.FCS_STAT Reg.FCS_CTX_TBL 1048576 fctxWrite val.toNat)

def execRecordOpen (val : Word) (s : State) : Host.Outcome State Fault Refusal :=
  .next (s.mgmtWin Reg.FCS_STAT Reg.FCS_CR_TBL 1048576 crWrite val.toNat)

def execNackTimeout (r : Fin 65536) (s : State) : Host.Outcome State Fault Refusal :=
  .next (s.onCore (fun k => (k.nackEv r.val).settle))

def execResendTimeout (r : Fin 65536) (s : State) : Host.Outcome State Fault Refusal :=
  .next (s.onCore (fun k => (k.resendEv r.val).settle))

def execCmplAckRx (s : State) : Host.Outcome State Fault Refusal :=
  .next (s.onCore (fun k => k.cmplAckEv.settle))

def execCmplNackRx (s : State) : Host.Outcome State Fault Refusal :=
  .next (s.onCore (fun k => k.cmplNackEv.settle))

def execCtrlMsgBad (s : State) : Host.Outcome State Fault Refusal :=
  .next (s.onCore (fun k => k.ctlBadEv))

/-- RECORD_CLOSE: FCS_RCMD with CLOSE. -/
def execRecordClose (r : Fin 65536) (s : State) : Host.Outcome State Fault Refusal :=
  .next (s.mgmt Reg.FCS_STAT (fun k => k.closeCmd 1 r.val))

def execCustodyRecordOpen (s : State) : Host.Outcome State Fault Refusal :=
  .next (s.onCore (fun k => k.custodyEv))

end Sys2Proof.Machine
end

