-- ==== Sys2Proof/Machine/HbcCmd.lean ====
section
/-!
DEFINITION. The commands of deep memory (07_buffers_memory R213 to R218): retirement, a scrub step, a row remap, a
controller's fault.
-/

namespace Sys2Proof.Machine

open Sys2Proof

/-- HBC_RETIRE (R217). -/
def execHbcRetire (stack : Fin 8) (pc : Fin 32) (s : State) : Host.Outcome State Fault Refusal :=
  .next (s.mgmt Reg.HBC_STAT (fun k => k.hbcCmd 1 stack.val pc.val))

/-- The tracked unit a scrub access of HBM at `a` touches. -/
def Core.pcUnit (k : Core) (a : Nat) : Nat := 496 + 32 * k.stackOf a + a / k.sliceSize

/-- A scrub step (R215); an error of an HBM word counts in the error locus too (17_power_thermal R482). -/
def State.scrubStep (s : State) (sram : Bool) (found : ScrubFind) : State :=
  let at_ := s.core.scrubAt sram
  let t := s.onCore (fun k => k.scrubEv sram found)
  match sram, at_, found with
  | false, some a, .corrected c .. => t.locusError (s.core.pcUnit a) false (c % 8)
  | false, some a, .uncorrectable c .. => t.locusError (s.core.pcUnit a) true (c % 8)
  | _, _, _ => t

/-- A demand access meets a word in error (R213, R214): corrected, or uncorrectable and poisoned from then on. -/
def State.memErr (s : State) (e : MemErr) : State :=
  let t := s.onCore (fun k => match e.sram, e.ue with
    | true, false => k.cnt Reg.HBC_SRAM_CE_CNT
    | true, true => k.sramUe e.addr 0
    | false, false => k.hbmCe e.addr e.bg e.bank e.row
    | false, true => k.hbmUe e.addr 0 e.bg e.bank e.row)
  if e.sram then t else t.locusError (s.core.pcUnit e.addr) e.ue (e.cls % 8)

/-- Does the memory hold the word of an error? -/
def State.holds (s : State) (e : MemErr) : Bool :=
  if e.sram then decide (e.addr < 65536 * s.core.svc.sram) else decide (s.core.hbmStacks ≠ 0 ∧ e.addr < 32 * s.core.sliceSize)

/-- An error, where there is one. -/
def State.memErrs (s : State) : Option MemErr → State
  | some e => if s.holds e then s.memErr e else s
  | none => s

/-- SCRUB_STEP (R215). -/
def execScrubStep (sram : Bool) (found : ScrubFind) (s : State) : Host.Outcome State Fault Refusal :=
  .next (s.scrubStep sram found)

/-- The controller reads the row (R216, step 2): what it meets there counts, and a word it cannot correct is poisoned and
written back so. -/
def State.rowRead (s : State) (stack pc bg bank row : Nat) (found : List MemErr) : State :=
  found.foldl (fun s e =>
    if !e.sram && s.holds e && s.core.stackOf e.addr == stack && e.addr / s.core.sliceSize == pc then
      s.memErr { e with bg := bg, bank := bank, row := row }
    else s) s

/-- A row due for it is read and remapped (R216), unless what the read met retired its slice. A remap record goes to the
flash; the record's place is the bank group, bank and row packed. -/
def State.remap (s : State) (stack pc bg bank row : Nat) (found : List MemErr) (repaired : Bool) : State :=
  if s.core.remapDue stack pc bg bank row then
    let ue := decide (s.core.hbc.rowDue.get 0 (rowKey stack pc bg bank row) = 2)
    let t := s.rowRead stack pc bg bank row found
    if t.core.remapDue stack pc bg bank row then
      let t := t.onCore (fun k => k.remapEv stack pc bg bank row ue repaired)
      { t with nvm := { t.nvm with remaps := t.nvm.remaps ++
          [(32 * stack + pc, bg % 16 * 2 ^ 24 + bank % 16 * 2 ^ 20 + row % 2 ^ 20, repaired.toNat)] } }
    else t
  else s

/-- ROW_REMAP (R216). -/
def execRowRemap (stack : Fin 8) (pc : Fin 32) (bg bank row : Nat) (found : List MemErr) (repaired : Bool) (s : State) :
    Host.Outcome State Fault Refusal :=
  .next (s.remap stack.val pc.val bg bank row found repaired)

end Sys2Proof.Machine
end

