-- ==== Sys2Proof/Machine/DemandCmd.lean ====
section
/-!
DEFINITION. The commands whose reads of memory may meet a word in error (07_buffers_memory R213, R214): a packet the router
takes, one a flow accepts, a pat a churn takes. The error is applied first, so that what the command reads is poisoned.
-/

namespace Sys2Proof.Machine

open Sys2Proof

/-- ROUTER_PACKET_RX (03_fabric_side R68): the packet leaves with POISON where a FIFO on its way gave a word with a parity
error (R70). -/
def execRouterPacketRx (src : Fin 33) (s : State) (par : Option (Fin 18) := none) (mem : Option MemErr := none) :
    Host.Outcome State Fault Refusal :=
  if s.core.routerBusy src.val then
    let s := s.memErrs mem
    let s := match par with
      | some sub => s.onCore (fun k => k.fifoParity sub.val)
      | none => s
    .next (s.onCore (fun k => k.routerTake src.val par.isSome))
  else .next s

/-- PACKET_ACCEPT (04_flows R105). -/
def execPacketAccept (s : State) (mem : Option MemErr := none) : Host.Outcome State Fault Refusal :=
  if s.core.frt.data.isEmpty then .next s else .next ((s.memErrs mem).onCore (fun k => k.packetEv.settle))

/-- PAT_TAKE (05_collectives R132). -/
def execPatTake (churn : Fin 256) (s : State) (mem : Option MemErr := none) : Host.Outcome State Fault Refusal :=
  if s.core.patDue churn.val then .next ((s.memErrs mem).onCore (fun k => (k.patTakeEv churn.val).settle)) else .next s

end Sys2Proof.Machine
end

