-- ==== Sys2Proof/Machine/Descriptor.lean ====
section
/-!
DEFINITION. Job descriptors (15_boot_config R429 to R433): the checks, the limits on what a descriptor's records may address,
the reply. DESCRIPTOR_RX takes the descriptor that waits longest, or takes up the one whose WAIT goes on.
-/

namespace Sys2Proof.Machine

open Sys2Proof

abbrev descSrc : Nat := 0x7002

/-- Big-endian number in bytes `i` to `i + n - 1` of a payload. -/
def descNum (p : List Byte) (i n : Nat) : Nat := beNat ((p.drop i).take n)

/-! ### The controller entries of IDENTITY (R415) -/

def Core.ctlWord (k : Core) (c i : Nat) : Nat := (k.ident.getD (1 + 4 * c + i) 0).toNat
def Core.ctlValid (k : Core) (c : Nat) : Bool := bitAt (k.ctlWord c 0) 31
def Core.ctlEid (k : Core) (c : Nat) : Nat := fld (k.ctlWord c 0) 17 0
def Core.ctlSlot (k : Core) (c : Nat) : Nat := fld (k.ctlWord c 1) 11 0

/-- Does controller entry `c` allow an owner class? -/
def Core.admits (k : Core) (c owner : Nat) : Bool := bitAt (k.ctlWord c 2 + 2 ^ 32 * k.ctlWord c 3) owner

/-! ### The checks (R430) -/

def descCtrl (p : List Byte) : Nat := descNum p 3 1 % 8

/-- MAGIC, VER, the reserved bytes, and BODY_LEN against the payload. -/
def descForm (p : List Byte) : Bool :=
  let n := descNum p 28 2
  decide (64 ≤ p.length) && descNum p 0 2 == 0x4A44 && descNum p 2 1 == 1 && descNum p 30 2 == 0 && descNum p 48 16 == 0 &&
    n % 4 == 0 && decide (4 ≤ n) && decide (n ≤ 4032) && decide (p.length = 64 + n)

/-- The body in clear, where the tag verifies under a position the slot holds, the transmit position first
(assumption log 45). -/
def KeySlot.openDesc (s : KeySlot) (p : List Byte) : Option (List Byte) :=
  let pos := [s.pos s.txPos, s.pos (1 - s.txPos)].filter (fun (x : KeyPos) => x.loaded)
  pos.findSome? (fun (x : KeyPos) =>
    let z := gcmDecrypt x.key ((p.drop 16).take 12) (p.take 32) (p.drop 64) ((p.drop 32).take 16)
    if z.2 then some z.1 else none)

/-- The first check a descriptor from `src` fails, or its body. -/
def State.descCheck (s : State) (src : Nat) (p : List Byte) : Except Nat (List Byte) :=
  let k := s.core
  let c := descCtrl p
  let slot := k.kslot (k.ctlSlot c)
  if !k.ctlValid c || src != k.ctlEid c then .error stDenied
  else if !descForm p then .error stRange
  else if descNum p 4 4 ≠ s.nvm.bootNum % 2 ^ 32 ∨ descNum p 8 8 < k.dseq.get 0 c ∨ descNum p 20 4 ≠ 0xFFFFFFFF then
    .error stDenied
  else if slot.empty || slot.purpose != 2 then .error stSlot
  else match slot.openDesc p with
    | some body => .ok body
    | none => .error stTag

/-- A descriptor refused with ST_SLOT or ST_DENIED, or whose record is, is audited under the slot of its controller entry
(08_cipher R247; which slot a refusal without a tag names is the model's reading, assumption log 102). -/
def Core.descAudit (k : Core) (c st : Nat) : Core :=
  let s := k.kslot (k.ctlSlot c)
  if st = stSlot ∨ st = stDenied then k.audit (k.ctlSlot c) s.owner 5 st (s.pos s.txPos).keyId 0x3FFF else k

/-- A refusal: counted, logged, audited, no reply; a failed tag counts in the slot. -/
def State.descRefuse (s : State) (src c st : Nat) : State :=
  let k := s.core
  let i := k.ctlSlot c
  let k := if st = stTag then k.setKslot i { k.kslot i with tagFail := satAdd 16 (k.kslot i).tagFail 1 } else k
  ({ s with core := k.descAudit c st, aon := s.aon.cnt Reg.BOOT_DESC_REJ_CNT } : State).emitALim descSrc 0x0E03 0 1000000 0 8
    [(107, 90, src), (89, 87, c), (15, 8, st)]

/-! ### What a record may address (R431) -/

def descWindows : List Nat := [Reg.FCS_CTX_TBL, Reg.FCS_CR_TBL, Reg.FRT_CIRC_TBL, Reg.CLE_CTX_TBL, Reg.CLE_JOB_TBL,
  Reg.XFM_RANK_TBL, Reg.TTX_ENT_TBL, Reg.TTX_SEG_TBL, Reg.TTX_SHD_TBL]

def descRegs : List Nat := [Reg.FCS_FCMD, Reg.FCS_RCMD, Reg.CLE_CTX_CTRL, Reg.CLE_START_SEQ, Reg.CLE_START_STEP,
  Reg.CLE_START_PRED, Reg.CLE_START_PSEQ, Reg.TTX_SCMD]

/-- A register of FCS, FRT, CLE, XFM or TTX. -/
def descBlock (a : Nat) : Bool :=
  (decide (0xA0000 ≤ a) && decide (a < 0xC0000)) || (decide (0x140000 ≤ a) && decide (a < 0x300000))

/-- Does controller entry `c` admit the OWNER of key slot `i`? -/
def Core.admitsSlot (k : Core) (c i : Nat) : Bool := !(k.kslot i).empty && k.admits c (k.kslot i).owner

/-- May the word `w` of a window take `v`: an OWNER admitted, a KEY_SLOT, also that of a KEYSWITCH entry (R286), whose OWNER
is admitted? -/
def Core.descWord (k : Core) (c win w v : Nat) : Bool :=
  if win = Reg.FCS_CTX_TBL ∧ w % 64 = 1 then k.admits c (fld v 24 19)
  else if win = Reg.FCS_CTX_TBL ∧ w % 64 = 11 then k.admitsSlot c (fld v 31 20)
  else if win = Reg.TTX_ENT_TBL ∧ w % 4 = 1 ∧ fld v 31 28 = tyKeyswitch then k.admitsSlot c (fld v 19 8)
  else if win = Reg.CLE_CTX_TBL ∧ w % 32 = 0 then k.admits c (fld v 15 10)
  else true

/-- May a register take `v`? A command must be for a flow, record or context of an admitted OWNER. -/
def Core.descReg (k : Core) (c a v : Nat) : Bool :=
  if a = Reg.FCS_FCMD then k.admits c (k.fOwner (fld v 13 0))
  else if a = Reg.FCS_RCMD then
    let id := fld v 15 0
    k.admits c (if k.rSend id then k.sendOwner id else k.fOwner (k.rFlow id))
  else if a = Reg.CLE_CTX_CTRL then k.admits c (k.cOwner (fld v 11 0))
  else if descWindows.contains a then true
  else if descWindows.contains (a - 4) then k.descWord c (a - 4) (k.fd (a - 4) 23 0) v
  else descRegs.contains a

/-- The limits on a record of controller entry `c`. -/
def descLimit (c : Nat) (s : State) (r : Rcd) : Nat :=
  let good : Bool := match r with
    | .reg a v => s.core.descReg c a v
    | .win a w l => descWindows.contains a && (l.zipIdx.all (fun (x : Nat × Nat) => s.core.descWord c a (w + x.2) x.1))
    | .wait a _ _ _ => descBlock a
    | .bad => true
  if good then stOk else stDenied

/-! ### The reply (R432) -/

/-- The reply to a descriptor, under the controller slot's transmit position; none where that position cannot encrypt. -/
def Core.descReply (k : Core) (c bootNum dseq done st : Nat) : Core :=
  let i := k.ctlSlot c
  let s := k.kslot i
  let p := s.pos s.txPos
  if !p.loaded || decide (2 ^ 32 ≤ p.used) then k
  else
    let aad := beBytes 2 0x4A52 ++ [byte 1, byte c] ++ beBytes 4 bootNum ++ beBytes 8 dseq ++ k.ivOf p ++
      beBytes 2 (min done 65535) ++ [byte st, 0]
    let tag := (gcmEncrypt p.key (k.ivOf p) aad []).2
    let k := k.useKey i
    let f := Config.freeField
    ({ k with free := k.free + 4 } : Core).originate 5 3 0 (aad ++ tag ++ List.replicate 16 0) (k.ctlEid c)
      (f k.free % 16384) (f (k.free + 1) % 2 ^ 48) (f (k.free + 2) % 65536) (f (k.free + 3) % 2 ^ 32)

/-- The records of the descriptor in hand run, to a WAIT that goes on or to their end and the reply. -/
def State.descRun (s : State) (d : DescRun) : State :=
  let z := State.runRecs (descLimit d.ctrl) d.recs.fuel s d.recs
  match z.2.2 with
  | none => { z.1 with core := { z.1.core with desc := some { d with recs := z.2.1 } } }
  | some st =>
    let t := if st = stOk then z.1 else { z.1 with aon := z.1.aon.cnt Reg.BOOT_REC_FAIL_CNT }
    t.onCore (fun k => (({ k with desc := none } : Core).descAudit d.ctrl st).descReply d.ctrl (t.nvm.bootNum % 2 ^ 32) d.dseq z.2.1.idx st)

/-- No descriptor is accepted while a quiesce runs or has been made (17_power_thermal R475). -/
def State.descShut (s : State) : Bool := s.aon.pwr.pst == .quiescing || s.aon.pwr.pst == .safe

def bytesToWords (l : List Byte) : List Word :=
  (List.range (l.length / 4)).map (fun i => word (beNat ((l.drop (4 * i)).take 4)))

/-- The authenticator's next step. -/
def State.descStep (s : State) : State :=
  match s.core.desc with
  | some d => s.descRun d
  | none =>
    match s.core.frt.desc with
    | [] => s
    | p :: rest =>
      let s := { s with core := { s.core with frt := { s.core.frt with desc := rest } } }
      if s.descShut then s
      else
        let x := p.payload
        match s.descCheck (hSrc p.hdr) x with
        | .error st => s.descRefuse (hSrc p.hdr) (descCtrl x) st
        | .ok body =>
          let c := descCtrl x
          let s := { s with core := { s.core with dseq := s.core.dseq.set 0 c (descNum x 8 8 + 1) }
                            aon := s.aon.cnt Reg.BOOT_DESC_OK_CNT }
          s.descRun { ctrl := c, dseq := descNum x 8 8, recs := { lists := [bytesToWords body] } }

/-- DESCRIPTOR_RX: the descriptor that waits longest is authenticated and its records are applied. -/
def execDescriptorRx (s : State) : Host.Outcome State Fault Refusal := .next s.descStep

end Sys2Proof.Machine
end

