-- ==== Sys2Proof/Machine/GroupCmd.lean ====
section
/-!
DEFINITION. The commands of the line groups (11_line_framing R310, R321 to R327; 12_line_coding_retry R343 to R347).
-/

namespace Sys2Proof.Machine

open Sys2Proof

/-- GROUP_ENABLE (R321): LFR_Gg_CTRL.EN = 1. -/
def execGroupEnable (g : Fin 8) (s : State) : Host.Outcome State Fault Refusal :=
  .next (s.mgmt (Reg.LFR_G_STAT g.val) (fun k => k.groupCmd g.val true))

/-- GROUP_DISABLE (09_scheduling R257): LFR_Gg_CTRL.EN = 0. -/
def execGroupDisable (g : Fin 8) (s : State) : Host.Outcome State Fault Refusal :=
  .next (s.mgmt (Reg.LFR_G_STAT g.val) (fun k => k.groupCmd g.val false))

/-- GROUP_ON (R321, 12_line_coding_retry R352). -/
def execGroupOn (g : Fin 8) (s : State) : Host.Outcome State Fault Refusal :=
  .next (s.onCore (fun k => k.groupOnEv g.val))

/-- GROUP_START_TIMEOUT (R321). -/
def execGroupStartTimeout (g : Fin 8) (s : State) : Host.Outcome State Fault Refusal :=
  .next (s.onCore (fun k => k.groupTimeEv g.val))

/-- POSITION_READY (R323). -/
def execPositionReady (g : Fin 8) (p : Fin 16) (s : State) : Host.Outcome State Fault Refusal :=
  .next (s.onCore (fun k => k.readyEv g.val p.val))

/-- GROUP_ADD (R325): LFR_Gg_CMD with ADD. -/
def execGroupAdd (g : Fin 8) (p : Fin 16) (s : State) : Host.Outcome State Fault Refusal :=
  .next (s.mgmt (Reg.LFR_G_STAT g.val) (fun k => k.memberCmd g.val 1 p.val))

/-- GROUP_REMOVE (R325): LFR_Gg_CMD with REMOVE. -/
def execGroupRemove (g : Fin 8) (p : Fin 16) (s : State) : Host.Outcome State Fault Refusal :=
  .next (s.mgmt (Reg.LFR_G_STAT g.val) (fun k => k.memberCmd g.val 2 p.val))

/-- GROUP_CANCEL (R325): LFR_Gg_CMD with CANCEL. -/
def execGroupCancel (g : Fin 8) (s : State) : Host.Outcome State Fault Refusal :=
  .next (s.mgmt (Reg.LFR_G_STAT g.val) (fun k => k.memberCmd g.val 3 0))

/-- ADD_ANNOUNCE (R324). -/
def execAddAnnounce (g : Fin 8) (s : State) : Host.Outcome State Fault Refusal :=
  .next (s.onCore (fun k => k.addEv g.val))

/-- ADD_TIMEOUT (R325). -/
def execAddTimeout (g : Fin 8) (s : State) : Host.Outcome State Fault Refusal :=
  .next (s.onCore (fun k => k.addTimeEv g.val))

/-- ROW_RX (R310). -/
def execRowRx (g : Fin 8) (s : State) : Host.Outcome State Fault Refusal :=
  .next (s.onCore (fun k => ((k.rowEv g.val).lineRefresh).settle))

/-- GCC_HEAD_TIMEOUT (R327). -/
def execGccHeadTimeout (g : Fin 8) (s : State) : Host.Outcome State Fault Refusal :=
  .next (s.onCore (fun k => k.gccHeadEv g.val))

/-- RETRY_TIMEOUT (12_line_coding_retry R346). -/
def execRetryTimeout (g : Fin 8) (req : Fin 65536) (s : State) : Host.Outcome State Fault Refusal :=
  .next (s.onCore (fun k => k.retryTimeEv g.val req.val))

/-- RETRY_FRAMES_RX (12_line_coding_retry R347). -/
def execRetryFramesRx (g : Fin 8) (s : State) : Host.Outcome State Fault Refusal :=
  .next (s.onCore (fun k => k.framesReqEv g.val))

/-- RETRY_SEGMENT_RX (12_line_coding_retry R347). -/
def execRetrySegmentRx (g : Fin 8) (s : State) : Host.Outcome State Fault Refusal :=
  .next (s.onCore (fun k => k.segReqEv g.val))

/-- RETRY_GONE_RX (12_line_coding_retry R346). -/
def execRetryGoneRx (g : Fin 8) (s : State) : Host.Outcome State Fault Refusal :=
  .next (s.onCore (fun k => k.goneEv g.val))

/-- RETRY_COPY_EXPIRE (12_line_coding_retry R343). -/
def execRetryCopyExpire (g : Fin 8) (s : State) : Host.Outcome State Fault Refusal :=
  .next (s.onCore (fun k => k.copyEv g.val))

/-- RXSTAGE_REREQUEST (05_collectives R130). -/
def execRxstageRerequest (s : State) : Host.Outcome State Fault Refusal :=
  .next (s.onCore (fun k => k.rerequestEv))

end Sys2Proof.Machine
end

