-- ==== Sys2Proof/Machine/LineCmd.lean ====
section
/-!
DEFINITION. The commands of the line ports (11_line_framing R301 to R319, R328; 12_line_coding_retry R333 to R337).
-/

namespace Sys2Proof.Machine

open Sys2Proof

/-- LINE_PORT_ENABLE (R328): LFR_Pnn_CTRL.EN = 1. -/
def execLinePortEnable (n : Fin 16) (s : State) : Host.Outcome State Fault Refusal :=
  .next (s.mgmt (Reg.LFR_P_STAT n.val) (fun k => k.lpCmd n.val true))

/-- LINE_PORT_DISABLE (R328): LFR_Pnn_CTRL.EN = 0. -/
def execLinePortDisable (n : Fin 16) (s : State) : Host.Outcome State Fault Refusal :=
  .next (s.mgmt (Reg.LFR_P_STAT n.val) (fun k => k.lpCmd n.val false))

/-- LINE_PORT_ON (R337). -/
def execLinePortOn (n : Fin 16) (s : State) : Host.Outcome State Fault Refusal :=
  .next (s.onCore (fun k => (k.lpOnEv n.val).lineRefresh))

/-- LINE_TRAIN_TIMEOUT (R337). -/
def execLineTrainTimeout (n : Fin 16) (s : State) : Host.Outcome State Fault Refusal :=
  .next (s.onCore (fun k => (k.trainEv n.val).lineRefresh))

/-- LANE_MARKER_RX (R336): a marker, or none where one was due. -/
def execLaneMarkerRx (n : Fin 16) (lane : Fin 8) (m : Option (List Byte)) (s : State) :
    Host.Outcome State Fault Refusal :=
  .next (s.onCore (fun k => k.laneEv n.val lane.val m))

/-- FRAME_TX (R301). -/
def execFrameTx (n : Fin 16) (s : State) : Host.Outcome State Fault Refusal :=
  .next (s.onCore (fun k => k.frameTxEv n.val))

/-- FRAME_RX (R311): the next 8,192 B of the received stream, the first of which arrives now, with the codewords in error. -/
def execFrameRx (n : Fin 16) (data : List Byte) (fec : List CwErr) (s : State) : Host.Outcome State Fault Refusal :=
  .next (s.onCore (fun k => k.frameRxEv n.val data fec))

/-- RAW_DEFECT_SET (R314). -/
def execRawDefectSet (n : Fin 16) (d : Fin 8) (s : State) : Host.Outcome State Fault Refusal :=
  .next (s.onCore (fun k => (k.rawEv n.val d.val true).lineRefresh))

/-- RAW_DEFECT_CLEAR (R314). -/
def execRawDefectClear (n : Fin 16) (d : Fin 8) (s : State) : Host.Outcome State Fault Refusal :=
  .next (s.onCore (fun k => (k.rawEv n.val d.val false).lineRefresh))

/-- SDSF_WINDOW_END (R314). -/
def execSdsfWindowEnd (n : Fin 16) (s : State) : Host.Outcome State Fault Refusal :=
  .next (s.onCore (fun k => (k.windowEv n.val).lineRefresh))

/-- DEFECT_DECLARED (R316): a unit 0 to 15 is a port, 16 to 23 a group. -/
def execDefectDeclared (u : Fin 24) (d : Fin 10) (s : State) : Host.Outcome State Fault Refusal :=
  .next (s.onCore (fun k => k.defectEv u.val d.val true))

/-- DEFECT_CLEARED (R316). -/
def execDefectCleared (u : Fin 24) (d : Fin 10) (s : State) : Host.Outcome State Fault Refusal :=
  .next (s.onCore (fun k => k.defectEv u.val d.val false))

/-- PM_SECOND (R319). -/
def execPmSecond (n : Fin 16) (s : State) : Host.Outcome State Fault Refusal :=
  .next (s.onCore (fun k => k.pmEv n.val))

end Sys2Proof.Machine
end

