-- ==== Sys2Proof/Machine/MgmtCmd.lean ====
section
/-!
DEFINITION. Management frames (16_management R441 to R447, R457; 19_register_index R508): what a frame on the SPI or I3C path
executes and how it is answered; the I3C target's common command codes.
-/

namespace Sys2Proof.Machine

open Sys2Proof

/-- The SPI and the I3C target as event sources. -/
def Path.src : Path → Nat
  | .spi => 0x7800
  | .i3c => 0x7801

def Path.code : Path → Nat
  | .spi => 1
  | .i3c => 2

def State.setMgt (s : State) (f : Mgt → Mgt) : State := { s with core := { s.core with mgt := f s.core.mgt } }

/-- A response as sent: SYNC, DATA, STATUS, GEN, and the CRC-8 over them (R442). -/
def Resp.bytes (r : Resp) : List Byte :=
  let data := (r.data.map (fun (w : Word) => beBytes 4 w.toNat)).getD []
  let gen := (r.gen.map (fun g => beBytes 2 g)).getD []
  let l := [(0xA5 : Byte)] ++ data ++ beBytes 1 r.status ++ gen
  l ++ beBytes 1 (crc8 l)

/-- The frame is answered. -/
def State.answer (s : State) (p : Path) (st : Nat) (data : Option Word) (gen : Option Nat) : State :=
  let r : Resp := { path := p, status := st, data := data, gen := gen }
  s.setMgt (fun m => { m with resp := some r, wire := r.bytes })

def State.countMgt (s : State) (a : Nat) : State := { s with core := s.core.cnt a }

/-- An access answered ST_ALIGN or ST_RANGE: counted, shown, logged at most once per 1 ms and path. -/
def State.badAccess (s : State) (p : Path) (a st : Nat) : State :=
  let s := s.countMgt Reg.MGT_BADACC_CNT
  let s := { s with core := s.core.wr Reg.MGT_BADADDR a }
  s.emitALim (Path.src p) 0x0F00 0 1000000 0 32 [(107, 100, st), (99, 68, a)]

/-- MGT_STAT.PATH: the path of the frame executed last. -/
def State.executed (s : State) (p : Path) : State := { s with core := s.core.wrf Reg.MGT_STAT 31 30 (Path.code p) }

/-- How the port handles a frame that addresses `a` (R443, R508): ST_OK where it is executed. -/
def State.frameSt (s : State) (a : Nat) : Nat :=
  if a % 4 ≠ 0 then stAlign
  else if (regAt a).isNone then stRange
  else if !isAon a && !s.answers then stBusy
  else stOk

/-- A frame that is not executed. -/
def State.refuseFrame (s : State) (p : Path) (a st : Nat) (data : Option Word) (gen : Option Nat) : State :=
  let s := if st = stBusy then s else s.badAccess p a st
  s.answer p st data gen

/-- A WRITE frame. Marigold answers while the input is in range. -/
def State.mgmtWrite (s : State) (p : Path) (a v : Nat) : State :=
  if !s.aon.pwr.vinOk then s
  else
    let st := s.frameSt a
    if st ≠ stOk then s.refuseFrame p a st none none
    else
      let r := (s.executed p).writeReg a v true
      (r.1.putStat a r.2).answer p stOk none none

/-- A READ frame. -/
def State.mgmtRead (s : State) (p : Path) (a : Nat) : State :=
  if !s.aon.pwr.vinOk then s
  else
    let st := s.frameSt a
    if st ≠ stOk then s.refuseFrame p a st (some 0) none
    else
      let r := (s.executed p).readReg a true
      r.1.answer p (if r.2.2 then stPoison else stOk) (some (word r.2.1)) none

/-! ### Shadows (R457) -/

/-- Has the address a shadow: a shadowed register, or the histogram window's DATA register? -/
def hasShadow (a : Nat) : Bool := shadowed a || a == Reg.SCH_HIST_TBL + 4

/-- The high word's shadow, through its own holding copy. -/
def State.shadowHigh (s : State) (a : Nat) : State × Nat :=
  match s.core.shHold.get none a with
  | some v => ({ s with core := { s.core with shHold := s.core.shHold.set none a none } }, v.toNat)
  | none => (s, s.shadowVal a)

def State.shadowLow (s : State) (a : Nat) : State × Nat :=
  ({ s with core := { s.core with shHold := s.core.shHold.set none (a + 4) (some (word (s.shadowVal (a + 4)))) } }, s.shadowVal a)

/-- The shadow word of the histogram at WORD. -/
def State.shadowHist (s : State) : State × Nat :=
  let k := s.core
  let w := k.fd Reg.SCH_HIST_TBL 23 0
  if 16384 ≤ w then ({ s with core := k.winSt Reg.SCH_HIST_TBL true stRange }, 0)
  else ({ s with core := (k.winSt Reg.SCH_HIST_TBL true stOk).winAdv Reg.SCH_HIST_TBL }, (k.shad.get 0 (tkey Reg.SCH_HIST_TBL w)).toNat)

def State.shadowReg (s : State) (a : Nat) : State × Nat :=
  if a = Reg.SCH_HIST_TBL + 4 then s.shadowHist
  else match (regAt a).map (fun (z : RegRow × Nat) => z.1.acc) with
    | some Acc.cumLo => s.shadowLow a
    | some Acc.cumHi => s.shadowHigh a
    | _ => (s, s.shadowVal a)

/-- A SHADOW_READ frame. -/
def State.shadowRead (s : State) (p : Path) (a : Nat) : State :=
  if !s.aon.pwr.vinOk then s
  else
    let st := if a % 4 = 0 ∧ hasShadow a = false then stRange else s.frameSt a
    if st ≠ stOk then s.refuseFrame p a st (some 0) (some s.core.mgt.shadGen)
    else
      let r := (s.executed p).shadowReg a
      r.1.answer p stOk (some (word r.2)) (some s.core.mgt.shadGen)

/-! ### Frames that execute nothing (R442, R443, R445) -/

/-- A frame cut before its CRC: no response, and an unread one is discarded. -/
def State.frameAbort (s : State) : State :=
  if !s.aon.pwr.vinOk then s else (s.countMgt Reg.MGT_ABORT_CNT).setMgt (fun m => { m with resp := none, wire := [] })

def State.frameOpcode (s : State) (p : Path) (a : Nat) : State :=
  if !s.aon.pwr.vinOk then s else s.refuseFrame p a stRange none none

/-- A frame while the other path has one in progress, which goes on. -/
def State.frameBusy (s : State) (p : Path) : State :=
  if !s.aon.pwr.vinOk then s
  else (s.countMgt Reg.MGT_BUSY_CNT).setMgt (fun m => { m with busyResp := some { path := p, status := stBusy } })

def State.frameCrc (s : State) (p : Path) : State :=
  if !s.aon.pwr.vinOk then s else (s.countMgt Reg.MGT_CRC_CNT).answer p stCorrupt none none

/-! ### I3C common command codes (R444) -/

def Core.i3cDa (k : Core) : Nat := k.fd Reg.MGT_STAT 29 23

def State.setDa (s : State) (da : Nat) : State := { s with core := s.core.wrf Reg.MGT_STAT 29 23 da }

/-- Bytes of a response the spec does not give: of PID, BCR and DCR the same at every read. -/
def cccBytes (base n : Nat) : List Byte := (List.range n).map (fun i => Config.freeCccByte (base + i))

/-- A dynamic address is taken only by a target that has none, as MIPI I3C has it. -/
def State.ccc (s : State) (c : Ccc) : State :=
  if !s.aon.pwr.vinOk then s
  else match c with
    | .entdaa da => if s.core.i3cDa = 0 then s.setDa da else s
    | .setdasa da => if s.core.i3cDa = 0 then s.setDa da else s
    | .rstdaa => s.setDa 0
    | .enec => s.setMgt (fun m => { m with ibiEn := true })
    | .disec => s.setMgt (fun m => { m with ibiEn := false })
    | .getpid => s.setMgt (fun m => { m with cccResp := cccBytes 0 6 })
    | .getbcr => s.setMgt (fun m => { m with cccResp := cccBytes 6 1 })
    | .getdcr => s.setMgt (fun m => { m with cccResp := cccBytes 7 1 })
    | .getstatus => ({ s with core := s.core.fresh } : State).setMgt (fun m => { m with cccResp := cccBytes (8 + 2 * s.core.free) 2 })

/-! ### Commands -/

/-- REGISTER_WRITE (01_architecture R14): a WRITE frame. -/
def execRegisterWrite (p : Path) (addr val : Word) (s : State) : Host.Outcome State Fault Refusal :=
  .next (s.mgmtWrite p addr.toNat val.toNat)

/-- WINDOW_DATA_ACCESS (00_scope R10, R11): a WRITE frame with `wr`, else a READ frame. -/
def execWindowDataAccess (p : Path) (addr : Word) (wr : Option Word) (s : State) : Host.Outcome State Fault Refusal :=
  .next (match wr with
    | some v => s.mgmtWrite p addr.toNat v.toNat
    | none => s.mgmtRead p addr.toNat)

/-- RC_READ (00_scope R8): a READ frame. -/
def execRcRead (p : Path) (addr : Word) (s : State) : Host.Outcome State Fault Refusal := .next (s.mgmtRead p addr.toNat)

/-- LOW_WORD_READ (00_scope R9): a READ frame. -/
def execLowWordRead (p : Path) (addr : Word) (s : State) : Host.Outcome State Fault Refusal := .next (s.mgmtRead p addr.toNat)

/-- MGMT_FRAME_ABORT (R443). -/
def execMgmtFrameAbort (_p : Path) (s : State) : Host.Outcome State Fault Refusal := .next s.frameAbort

/-- MGMT_RESERVED_OPCODE (R442). -/
def execMgmtReservedOpcode (p : Path) (_opcode : Byte) (addr : Word) (s : State) : Host.Outcome State Fault Refusal :=
  .next (s.frameOpcode p addr.toNat)

/-- MGMT_FRAME_BUSY (R445). -/
def execMgmtFrameBusy (p : Path) (s : State) : Host.Outcome State Fault Refusal := .next (s.frameBusy p)

/-- COMMAND_CRC_WRONG (R443). -/
def execCommandCrcWrong (p : Path) (s : State) : Host.Outcome State Fault Refusal := .next (s.frameCrc p)

/-- I3C_CCC (R444). -/
def execI3cCcc (c : Ccc) (s : State) : Host.Outcome State Fault Refusal := .next (s.ccc c)

/-- SHADOW_READ (R457). -/
def execShadowRead (p : Path) (addr : Word) (s : State) : Host.Outcome State Fault Refusal := .next (s.shadowRead p addr.toNat)

/-- TT_ASTER (R455): an ASTER entry fires; its T needs no lead. -/
def execTtAster (e : Fin 65536) (s : State) : Host.Outcome State Fault Refusal :=
  .next (s.onCore (fun k => k.fireEv e.val tyAster (fun k _ t _ => k.asterRequest t false)))

end Sys2Proof.Machine
end

