-- ==== Sys2Proof/Machine/OpticsCmd.lean ====
section
/-!
DEFINITION. The commands of the optics controllers but the hops (13_optics R360 to R369, R374 to R383).
-/

namespace Sys2Proof.Machine

open Sys2Proof

/-- MARGIN_RX (R367, 12_line_coding_retry R352). -/
def execMarginRx (g : Fin 8) (s : State) : Host.Outcome State Fault Refusal :=
  .next (s.onCore (fun k => k.marginRxEv g.val))

/-- MARGIN_SEND (R367). -/
def execMarginSend (g : Fin 8) (s : State) : Host.Outcome State Fault Refusal :=
  .next (s.onCore (fun k => k.marginSendEv g.val))

/-- SPARE_ADD_RETRY (R369). -/
def execSpareAddRetry (g : Fin 8) (s : State) : Host.Outcome State Fault Refusal :=
  .next (s.onCore (fun k => k.spareRetryEv g.val))

/-- MODULE_INTERRUPT (R362). -/
def execModuleInterrupt (n : Fin 16) (acked rxLos : Bool) (s : State) : Host.Outcome State Fault Refusal :=
  .next (s.onCore (fun k => k.moduleIntEv n.val acked rxLos))

/-- MODULE_BRINGUP_DONE (R360). -/
def execModuleBringupDone (n : Fin 16) (r : BringUp) (s : State) : Host.Outcome State Fault Refusal :=
  .next (s.onCore (fun k => k.bringupEv n.val r))

/-- MODULE_POLL (R362). -/
def execModulePoll (n : Fin 16) (answers : Bool) (s : State) : Host.Outcome State Fault Refusal :=
  .next (s.onCore (fun k => k.modulePollEv n.val answers))

/-- FADE_SAMPLE (R363 to R366). -/
def execFadeSample (n : Fin 16) (r : OptRead) (s : State) : Host.Outcome State Fault Refusal :=
  .next (s.onCore (fun k => (k.fadeEv n.val r).tlmOptics n.val))

/-- HEALTH_SCORE (R374 to R380). -/
def execHealthScore (s : State) : Host.Outcome State Fault Refusal := .next (s.onCore (fun k => k.healthEv))

/-- LSAFE_SET (R381): OPC_CTRL with LSAFE_SET. -/
def execLsafeSet (s : State) : Host.Outcome State Fault Refusal :=
  .next (s.mgmt Reg.OPC_STAT (fun k => k.opcCmd 1 0))

/-- LSAFE_REL (R381): OPC_CTRL with LSAFE_REL. -/
def execLsafeRel (s : State) : Host.Outcome State Fault Refusal :=
  .next (s.mgmt Reg.OPC_STAT (fun k => k.opcCmd 2 0))

/-- REBASE (R366): OPC_CTRL with REBASE. -/
def execRebase (n : Fin 16) (s : State) : Host.Outcome State Fault Refusal :=
  .next (s.mgmt Reg.OPC_STAT (fun k => k.opcCmd 3 n.val))

/-- CLEAR_EXPEL (R379): OPC_CTRL with CLEAR_EXPEL. -/
def execClearExpel (n : Fin 16) (s : State) : Host.Outcome State Fault Refusal :=
  .next (s.mgmt Reg.OPC_STAT (fun k => k.opcCmd 4 n.val))

/-- MODULE_ACCESS (R383): OPC_MACC is written. -/
def execModuleAccess (val : Word) (s : State) : Host.Outcome State Fault Refusal :=
  .next (s.mgmt Reg.OPC_STAT (fun k => k.maccWrite val.toNat))

/-- MODULE_ACCESS_DONE (R383). -/
def execModuleAccessDone (ack : Bool) (data : Byte) (s : State) : Host.Outcome State Fault Refusal :=
  .next (s.onCore (fun k => k.accDoneEv ack data.toNat))

end Sys2Proof.Machine
end

