-- ==== Sys2Proof/Machine/SchedCmd.lean ====
section
/-!
DEFINITION. The commands of the transmit scheduler (09_scheduling R256 to R266).
-/

namespace Sys2Proof.Machine

open Sys2Proof

/-- ITEM_HANDOVER (R256). -/
def execItemHandover (g : Fin 8) (s : State) : Host.Outcome State Fault Refusal :=
  .next (s.onCore (fun k => (k.handEv g.val).groupDrainChk g.val))

/-- SCH_SELECT (R259). -/
def execSchSelect (g : Fin 8) (s : State) : Host.Outcome State Fault Refusal :=
  .next (s.onCore (fun k => (k.selectEv g.val).groupDrainChk g.val))

/-- SCH_DRAIN_TIMEOUT (R257). -/
def execSchDrainTimeout (g : Fin 8) (s : State) : Host.Outcome State Fault Refusal :=
  .next (s.onCore (fun k => k.groupDrainEv g.val))

/-- GCL_ARM (R264): SCH_GCMD with ARM. -/
def execGclArm (g : Fin 8) (bank : Fin 2) (s : State) : Host.Outcome State Fault Refusal :=
  .next (s.mgmt Reg.SCH_STAT (fun k => k.gclArm g.val bank.val))

/-- GCL_DISARM (R264): SCH_GCMD with DISARM. -/
def execGclDisarm (g : Fin 8) (bank : Fin 2) (s : State) : Host.Outcome State Fault Refusal :=
  .next (s.mgmt Reg.SCH_STAT (fun k => k.gclDisarm g.val bank.val))

/-- HCLEAR (R266): SCH_GCMD with HCLEAR. -/
def execHclear (g : Fin 8) (s : State) : Host.Outcome State Fault Refusal :=
  .next (s.mgmt Reg.SCH_STAT (fun k => (k.hclear g.val, stOk)))

/-- GATE_TAKEOVER (R264). -/
def execGateTakeover (g : Fin 8) (s : State) : Host.Outcome State Fault Refusal :=
  .next (s.onCore (fun k => k.gateEv g.val))

/-- QUEUE_SAMPLE (R266). -/
def execQueueSample (s : State) : Host.Outcome State Fault Refusal :=
  .next (s.onCore (fun k => k.sampleEv))

end Sys2Proof.Machine
end

