-- ==== Sys2Proof/Machine/Dispatch.lean ====
section
/-!
DEFINITION. One arm per command of Syntax.lean (spec/opcode_table.json): a direct call of the command's meaning, on a
state whose queue holds the commands after it.
-/

namespace Sys2Proof.Machine

open Sys2Proof

def exec (i : Instr) (s : State) : Host.Outcome State Fault Refusal :=
  match i with
  | .registerWrite p addr val => Sys2Proof.Machine.execRegisterWrite p addr val s
  | .windowDataAccess p addr wr => Sys2Proof.Machine.execWindowDataAccess p addr wr s
  | .rcRead p addr => Sys2Proof.Machine.execRcRead p addr s
  | .lowWordRead p addr => Sys2Proof.Machine.execLowWordRead p addr s
  | .mgmtFrameAbort p => Sys2Proof.Machine.execMgmtFrameAbort p s
  | .mgmtReservedOpcode p opcode addr => Sys2Proof.Machine.execMgmtReservedOpcode p opcode addr s
  | .mgmtFrameBusy p => Sys2Proof.Machine.execMgmtFrameBusy p s
  | .i3cCcc c => Sys2Proof.Machine.execI3cCcc c s
  | .shadowRead p addr => Sys2Proof.Machine.execShadowRead p addr s
  | .stewardRestart sub => Sys2Proof.Machine.execStewardRestart sub s
  | .eventRateEmit code src key => Sys2Proof.Machine.execEventRateEmit code src key s
  | .fpcPortEnable n => Sys2Proof.Machine.execFpcPortEnable n s
  | .fpcPortDisable n => Sys2Proof.Machine.execFpcPortDisable n s
  | .linkTrained n skew => Sys2Proof.Machine.execLinkTrained n s skew
  | .linkStateTimeout n => Sys2Proof.Machine.execLinkStateTimeout n s
  | .fpcDrainTimeout n => Sys2Proof.Machine.execFpcDrainTimeout n s
  | .linkBlockTx n => Sys2Proof.Machine.execLinkBlockTx n s
  | .linkBlockRx n blk parms => Sys2Proof.Machine.execLinkBlockRx n blk parms s
  | .ackTimeout n => Sys2Proof.Machine.execAckTimeout n s
  | .laneLoss n lane => Sys2Proof.Machine.execLaneLoss n lane s
  | .routerPacketRx src par mem => Sys2Proof.Machine.execRouterPacketRx src s par mem
  | .escTimeout n vc => Sys2Proof.Machine.execEscTimeout n vc s
  | .routerEnable => Sys2Proof.Machine.execRouterEnable s
  | .routerDisable => Sys2Proof.Machine.execRouterDisable s
  | .epochWclose val => Sys2Proof.Machine.execEpochWclose val s
  | .epochSetCur val => Sys2Proof.Machine.execEpochSetCur val s
  | .epochIdle v => Sys2Proof.Machine.execEpochIdle v s
  | .rtTblWrite val => Sys2Proof.Machine.execRtTblWrite val s
  | .circTblWrite val => Sys2Proof.Machine.execCircTblWrite val s
  | .flowEnable f => Sys2Proof.Machine.execFlowEnable f s
  | .flowDisable f => Sys2Proof.Machine.execFlowDisable f s
  | .flowDrainTimeout f => Sys2Proof.Machine.execFlowDrainTimeout f s
  | .flowCtxWrite val => Sys2Proof.Machine.execFlowCtxWrite val s
  | .recordOpen val => Sys2Proof.Machine.execRecordOpen val s
  | .packetAccept mem => Sys2Proof.Machine.execPacketAccept s mem
  | .nackTimeout r => Sys2Proof.Machine.execNackTimeout r s
  | .resendTimeout r => Sys2Proof.Machine.execResendTimeout r s
  | .cmplAckRx => Sys2Proof.Machine.execCmplAckRx s
  | .cmplNackRx => Sys2Proof.Machine.execCmplNackRx s
  | .ctrlMsgBad => Sys2Proof.Machine.execCtrlMsgBad s
  | .recordClose r => Sys2Proof.Machine.execRecordClose r s
  | .custodyRecordOpen => Sys2Proof.Machine.execCustodyRecordOpen s
  | .cleCtxEnable x => Sys2Proof.Machine.execCleCtxEnable x s
  | .cleCtxDisable x => Sys2Proof.Machine.execCleCtxDisable x s
  | .cleStart x => Sys2Proof.Machine.execCleStart x s
  | .cleCtxWrite val => Sys2Proof.Machine.execCleCtxWrite val s
  | .chunkGrant x => Sys2Proof.Machine.execChunkGrant x s
  | .chunkStaged x c => Sys2Proof.Machine.execChunkStaged x c s
  | .heldContribTimeout => Sys2Proof.Machine.execHeldContribTimeout s
  | .rxstageRerequest => Sys2Proof.Machine.execRxstageRerequest s
  | .chunkTimeout x c => Sys2Proof.Machine.execChunkTimeout x c s
  | .chunkReleaseTimeout x c => Sys2Proof.Machine.execChunkReleaseTimeout x c s
  | .patTake churn mem => Sys2Proof.Machine.execPatTake churn s mem
  | .patRound churn err => Sys2Proof.Machine.execPatRound churn err s
  | .checksumCheck x c => Sys2Proof.Machine.execChecksumCheck x c s
  | .parkTimeout x => Sys2Proof.Machine.execParkTimeout x s
  | .ctxDrainTimeout x => Sys2Proof.Machine.execCtxDrainTimeout x s
  | .abortRx => Sys2Proof.Machine.execAbortRx s
  | .xfmSetEnc cls bank => Sys2Proof.Machine.execXfmSetEnc cls bank s
  | .xfmInvalidate cls bank => Sys2Proof.Machine.execXfmInvalidate cls bank s
  | .tableLoad val => Sys2Proof.Machine.execTableLoad val s
  | .rankDescWrite val => Sys2Proof.Machine.execRankDescWrite val s
  | .skimBlock u err => Sys2Proof.Machine.execSkimBlock u err s
  | .expandBlock u err => Sys2Proof.Machine.execExpandBlock u err s
  | .pressBlock tile err => Sys2Proof.Machine.execPressBlock tile err s
  | .rankOrthonormalize d => Sys2Proof.Machine.execRankOrthonormalize d s
  | .poolEnable p => Sys2Proof.Machine.execPoolEnable p s
  | .poolDisable p => Sys2Proof.Machine.execPoolDisable p s
  | .bpmAlloc pool owner => Sys2Proof.Machine.execBpmAlloc pool owner s
  | .bpmFree hi => Sys2Proof.Machine.execBpmFree hi s
  | .bufferRequestServed => Sys2Proof.Machine.execBufferRequestServed s
  | .hbcRetire stack pc => Sys2Proof.Machine.execHbcRetire stack pc s
  | .scrubStep sram found => Sys2Proof.Machine.execScrubStep sram found s
  | .rowRemap stack pc bg bank row found repaired => Sys2Proof.Machine.execRowRemap stack pc bg bank row found repaired s
  | .hbmControllerFault stack => Sys2Proof.Machine.execHbmControllerFault stack s
  | .keyLoad slot pos => Sys2Proof.Machine.execKeyLoad slot pos s
  | .keyLoadDone => Sys2Proof.Machine.execKeyLoadDone s
  | .keySwitch slot pos => Sys2Proof.Machine.execKeySwitch slot pos s
  | .keyRetire slot pos => Sys2Proof.Machine.execKeyRetire slot pos s
  | .keyZeroize slot => Sys2Proof.Machine.execKeyZeroize slot s
  | .heldKeyRetire slot pos => Sys2Proof.Machine.execHeldKeyRetire slot pos s
  | .rekeyReadyRx g => Sys2Proof.Machine.execRekeyReadyRx g s
  | .rekeyRetiredRx g => Sys2Proof.Machine.execRekeyRetiredRx g s
  | .cipherDispatch core => Sys2Proof.Machine.execCipherDispatch core s
  | .cipherComplete core err => Sys2Proof.Machine.execCipherComplete core err s
  | .itemHandover g => Sys2Proof.Machine.execItemHandover g s
  | .schSelect g => Sys2Proof.Machine.execSchSelect g s
  | .schDrainTimeout g => Sys2Proof.Machine.execSchDrainTimeout g s
  | .gclArm g bank => Sys2Proof.Machine.execGclArm g bank s
  | .gclDisarm g bank => Sys2Proof.Machine.execGclDisarm g bank s
  | .hclear g => Sys2Proof.Machine.execHclear g s
  | .gateTakeover g => Sys2Proof.Machine.execGateTakeover g s
  | .queueSample => Sys2Proof.Machine.execQueueSample s
  | .timeXferEnable => Sys2Proof.Machine.execTimeXferEnable s
  | .timeXferDisable => Sys2Proof.Machine.execTimeXferDisable s
  | .ptpMessageRx domain m udp => Sys2Proof.Machine.execPtpMessageRx domain m s udp
  | .ppsInEdge => Sys2Proof.Machine.execPpsInEdge s
  | .todArm hi => Sys2Proof.Machine.execTodArm hi s
  | .ttSample => Sys2Proof.Machine.execTtSample s
  | .sourceTimeout => Sys2Proof.Machine.execSourceTimeout s
  | .holdoverLimit => Sys2Proof.Machine.execHoldoverLimit s
  | .segmentEnable g => Sys2Proof.Machine.execSegmentEnable g s
  | .segmentDisable g => Sys2Proof.Machine.execSegmentDisable g s
  | .shardCmd bank => Sys2Proof.Machine.execShardCmd bank s
  | .segmentEnd g => Sys2Proof.Machine.execSegmentEnd g s
  | .ttNop e => Sys2Proof.Machine.execTtNop e s
  | .ttSlotclass e => Sys2Proof.Machine.execTtSlotclass e s
  | .ttStart e => Sys2Proof.Machine.execTtStart e s
  | .ttGate e => Sys2Proof.Machine.execTtGate e s
  | .ttEpoch e => Sys2Proof.Machine.execTtEpoch e s
  | .ttKeyswitch e => Sys2Proof.Machine.execTtKeyswitch e s
  | .ttDecode e => Sys2Proof.Machine.execTtDecode e s
  | .ttHop e => Sys2Proof.Machine.execTtHop e s
  | .ttShard e => Sys2Proof.Machine.execTtShard e s
  | .ttAster e => Sys2Proof.Machine.execTtAster e s
  | .ttSiteEpoch e => Sys2Proof.Machine.execTtSiteEpoch e s
  | .linePortEnable n => Sys2Proof.Machine.execLinePortEnable n s
  | .linePortDisable n => Sys2Proof.Machine.execLinePortDisable n s
  | .linePortOn n => Sys2Proof.Machine.execLinePortOn n s
  | .lineTrainTimeout n => Sys2Proof.Machine.execLineTrainTimeout n s
  | .laneMarkerRx n lane m => Sys2Proof.Machine.execLaneMarkerRx n lane m s
  | .frameTx n => Sys2Proof.Machine.execFrameTx n s
  | .frameRx n data fec => Sys2Proof.Machine.execFrameRx n data fec s
  | .rawDefectSet n d => Sys2Proof.Machine.execRawDefectSet n d s
  | .rawDefectClear n d => Sys2Proof.Machine.execRawDefectClear n d s
  | .sdsfWindowEnd n => Sys2Proof.Machine.execSdsfWindowEnd n s
  | .defectDeclared u d => Sys2Proof.Machine.execDefectDeclared u d s
  | .defectCleared u d => Sys2Proof.Machine.execDefectCleared u d s
  | .pmSecond n => Sys2Proof.Machine.execPmSecond n s
  | .groupEnable g => Sys2Proof.Machine.execGroupEnable g s
  | .groupDisable g => Sys2Proof.Machine.execGroupDisable g s
  | .groupOn g => Sys2Proof.Machine.execGroupOn g s
  | .groupStartTimeout g => Sys2Proof.Machine.execGroupStartTimeout g s
  | .positionReady g p => Sys2Proof.Machine.execPositionReady g p s
  | .groupAdd g p => Sys2Proof.Machine.execGroupAdd g p s
  | .groupRemove g p => Sys2Proof.Machine.execGroupRemove g p s
  | .groupCancel g => Sys2Proof.Machine.execGroupCancel g s
  | .addAnnounce g => Sys2Proof.Machine.execAddAnnounce g s
  | .addTimeout g => Sys2Proof.Machine.execAddTimeout g s
  | .rowRx g => Sys2Proof.Machine.execRowRx g s
  | .gccHeadTimeout g => Sys2Proof.Machine.execGccHeadTimeout g s
  | .retryTimeout g req => Sys2Proof.Machine.execRetryTimeout g req s
  | .retryFramesRx g => Sys2Proof.Machine.execRetryFramesRx g s
  | .retrySegmentRx g => Sys2Proof.Machine.execRetrySegmentRx g s
  | .retryGoneRx g => Sys2Proof.Machine.execRetryGoneRx g s
  | .retryCopyExpire g => Sys2Proof.Machine.execRetryCopyExpire g s
  | .marginRx g => Sys2Proof.Machine.execMarginRx g s
  | .stepLedgerRx g => Sys2Proof.Machine.execStepLedgerRx g s
  | .moduleInterrupt n acked rxLos => Sys2Proof.Machine.execModuleInterrupt n acked rxLos s
  | .moduleBringupDone n r => Sys2Proof.Machine.execModuleBringupDone n r s
  | .modulePoll n answers => Sys2Proof.Machine.execModulePoll n answers s
  | .fadeSample n r => Sys2Proof.Machine.execFadeSample n r s
  | .marginSend g => Sys2Proof.Machine.execMarginSend g s
  | .spareAddRetry g => Sys2Proof.Machine.execSpareAddRetry g s
  | .hopNotice e => Sys2Proof.Machine.execHopNotice e s
  | .hopReadback n idx => Sys2Proof.Machine.execHopReadback n idx s
  | .hopGuardEnd n => Sys2Proof.Machine.execHopGuardEnd n s
  | .hopStrobeFall n => Sys2Proof.Machine.execHopStrobeFall n s
  | .hopWindowEnd n => Sys2Proof.Machine.execHopWindowEnd n s
  | .healthScore => Sys2Proof.Machine.execHealthScore s
  | .lsafeSet => Sys2Proof.Machine.execLsafeSet s
  | .lsafeRel => Sys2Proof.Machine.execLsafeRel s
  | .rebase n => Sys2Proof.Machine.execRebase n s
  | .clearExpel n => Sys2Proof.Machine.execClearExpel n s
  | .moduleAccess val => Sys2Proof.Machine.execModuleAccess val s
  | .siteEpochWclose val => Sys2Proof.Machine.execSiteEpochWclose val s
  | .siteEpochSetCur val => Sys2Proof.Machine.execSiteEpochSetCur val s
  | .siteEpochIdle v => Sys2Proof.Machine.execSiteEpochIdle v s
  | .srtTblWrite val => Sys2Proof.Machine.execSrtTblWrite val s
  | .siteAutoSwitch => Sys2Proof.Machine.execSiteAutoSwitch s
  | .sitePartition y => Sys2Proof.Machine.execSitePartition y s
  | .siteReconnect y => Sys2Proof.Machine.execSiteReconnect y s
  | .ledgerResend j => Sys2Proof.Machine.execLedgerResend j s
  | .ledgerTmo j => Sys2Proof.Machine.execLedgerTmo j s
  | .jobEntryWrite val => Sys2Proof.Machine.execJobEntryWrite val s
  | .powerOn => Sys2Proof.Machine.execPowerOn s
  | .coldReset => Sys2Proof.Machine.execColdReset s
  | .bootWarm => Sys2Proof.Machine.execBootWarm s
  | .bootStepComplete r => Sys2Proof.Machine.execBootStepComplete r s
  | .bootStepLimit notDone => Sys2Proof.Machine.execBootStepLimit notDone s
  | .nvmErase slot => Sys2Proof.Machine.execNvmErase slot s
  | .nvmProgram slot page => Sys2Proof.Machine.execNvmProgram slot page s
  | .nvmVerify slot => Sys2Proof.Machine.execNvmVerify slot s
  | .nvmCommandDone => Sys2Proof.Machine.execNvmCommandDone s
  | .otpSite => Sys2Proof.Machine.execOtpSite s
  | .otpRollbackInc => Sys2Proof.Machine.execOtpRollbackInc s
  | .otpKekFirst => Sys2Proof.Machine.execOtpKekFirst s
  | .otpKekNext => Sys2Proof.Machine.execOtpKekNext s
  | .otpLinemask => Sys2Proof.Machine.execOtpLinemask s
  | .otpDebugLock => Sys2Proof.Machine.execOtpDebugLock s
  | .otpRootHash => Sys2Proof.Machine.execOtpRootHash s
  | .otpWriteDone => Sys2Proof.Machine.execOtpWriteDone s
  | .descriptorRx => Sys2Proof.Machine.execDescriptorRx s
  | .asterSchedule => Sys2Proof.Machine.execAsterSchedule s
  | .asterCancel => Sys2Proof.Machine.execAsterCancel s
  | .asterLatch => Sys2Proof.Machine.execAsterLatch s
  | .asterDone => Sys2Proof.Machine.execAsterDone s
  | .eventLogWrite => Sys2Proof.Machine.execEventLogWrite s
  | .datagramSend => Sys2Proof.Machine.execDatagramSend s
  | .tlmFrameRx f => Sys2Proof.Machine.execTlmFrameRx f s
  | .tlmLinkChange up => Sys2Proof.Machine.execTlmLinkChange up s
  | .mopArm val => Sys2Proof.Machine.execMopArm val s
  | .mopArmExpire => Sys2Proof.Machine.execMopArmExpire s
  | .zeroize => Sys2Proof.Machine.execZeroize s
  | .laserSafe => Sys2Proof.Machine.execLaserSafe s
  | .hardReset => Sys2Proof.Machine.execHardReset s
  | .readPower => Sys2Proof.Machine.execReadPower s
  | .readEvents => Sys2Proof.Machine.execReadEvents s
  | .readJournal => Sys2Proof.Machine.execReadJournal s
  | .zeroizeNAssert => Sys2Proof.Machine.execZeroizeNAssert s
  | .dbgEnter => Sys2Proof.Machine.execDbgEnter s
  | .pwrEnRise => Sys2Proof.Machine.execPwrEnRise s
  | .pwrEnFall => Sys2Proof.Machine.execPwrEnFall s
  | .prsntNRelease => Sys2Proof.Machine.execPrsntNRelease s
  | .inputUndervoltage mv => Sys2Proof.Machine.execInputUndervoltage mv s
  | .inputOvervoltage mv => Sys2Proof.Machine.execInputOvervoltage mv s
  | .inputOvercurrent ma => Sys2Proof.Machine.execInputOvercurrent ma s
  | .inputAlarm rail mv pw => Sys2Proof.Machine.execInputAlarm rail mv pw s
  | .quiesceRequest => Sys2Proof.Machine.execQuiesceRequest s
  | .quiesceEnd => Sys2Proof.Machine.execQuiesceEnd s
  | .quiesceTimeout => Sys2Proof.Machine.execQuiesceTimeout s
  | .thermalSample temps => Sys2Proof.Machine.execThermalSample temps s
  | .tempStepEnd => Sys2Proof.Machine.execTempStepEnd s
  | .refclkLoss => Sys2Proof.Machine.execRefclkLoss s
  | .pllUnlock j => Sys2Proof.Machine.execPllUnlock j s
  | .locusCountClear => Sys2Proof.Machine.execLocusCountClear s
  | .soakPass u err => Sys2Proof.Machine.execSoakPass u err s
  | .elcQuarantine u => Sys2Proof.Machine.execElcQuarantine u s
  | .elcRelease u => Sys2Proof.Machine.execElcRelease u s
  | .commandCrcWrong p => Sys2Proof.Machine.execCommandCrcWrong p s
  | .ppsOutRise => Sys2Proof.Machine.execPpsOutRise s
  | .genHoldExpire cls bank => Sys2Proof.Machine.execGenHoldExpire cls bank s
  | .pllLock j => Sys2Proof.Machine.execPllLock j s
  | .moduleAccessDone ack data => Sys2Proof.Machine.execModuleAccessDone ack data s

end Sys2Proof.Machine
end

