-- ==== Sys2Proof/Machine/Tick.lean ====
section
/-!
DEFINITION. What passes with 8 ns in which no command comes (assumption log 2): the two counts of time, the shapers' credit,
and the stages of a quiesce or of a power-down that are due, the start of a hop's guard slots (13_optics R373), and the warm boot
that follows a stack fault (15_boot_config R419). Every other time-driven event is a command of its own.
-/

namespace Sys2Proof.Machine

/-- 8 ns without a command. DESIGN CHOICE (assumption log 114): the warm boot after a stack fault comes here, so that the
faulted function can be seen. -/
def State.idle (s : State) : State :=
  let s := (((s.tick 8).onCore (fun k => (List.range 16).foldl Core.hopBegin k.shapersTick)).quRun).powerDownEnd
  if s.aon.boot.warmDue then s.warmBoot else s

end Sys2Proof.Machine
end

