-- ==== Sys2Proof/Safety.lean ====
section
/-!
DEFINITION. The terms the statements use: a command completes, what a command leaves as it stands, what is safe: the OTP
settings never exceed the writes they allow (15_boot_config R426), no debug session is open once debug is locked
(16_management R465), what of a state is key material (08_cipher R228).
-/

namespace Sys2Proof.Machine

/-- The command answers a next state, and `P` holds of it. -/
def Completes (c : Instr) (s : State) (P : State → Prop) : Prop := ∃ t, exec c s = .next t ∧ P t

/-! ### What a command leaves as it stands -/

/-- The parts of the core beside its registers and the event intake. -/
inductive Part
  | tbl | shad | hold | shHold | fns | tim | ttx | tlm | fpc | frt | fcs | mem | psn | bpm | hbc | cle | site | xfm | cip | sch | shpr | lport | lgrp | opc | ident | dseq | desc | svc | free | mgt
deriving DecidableEq, Repr

/-- The part reads the same in both. Of the management port the alert pin and the interrupts it raises follow
MGT_ALERT_STAT, which every event may set (16_management R448, R452), so they are not compared. -/
def Part.same (p : Part) (k k' : Core) : Prop :=
  match p with
  | .tbl => k'.tbl = k.tbl
  | .shad => k'.shad = k.shad
  | .hold => k'.hold = k.hold
  | .shHold => k'.shHold = k.shHold
  | .fns => k'.fns = k.fns
  | .tim => k'.tim = k.tim
  | .ttx => k'.ttx = k.ttx
  | .tlm => k'.tlm = k.tlm
  | .fpc => k'.fpc = k.fpc
  | .frt => k'.frt = k.frt
  | .fcs => k'.fcs = k.fcs
  | .mem => k'.mem = k.mem
  | .psn => k'.psn = k.psn
  | .bpm => k'.bpm = k.bpm
  | .hbc => k'.hbc = k.hbc
  | .cle => k'.cle = k.cle
  | .site => k'.site = k.site
  | .xfm => k'.xfm = k.xfm
  | .cip => k'.cip = k.cip
  | .sch => k'.sch = k.sch
  | .shpr => k'.shpr = k.shpr
  | .lport => k'.lport = k.lport
  | .lgrp => k'.lgrp = k.lgrp
  | .opc => k'.opc = k.opc
  | .ident => k'.ident = k.ident
  | .dseq => k'.dseq = k.dseq
  | .desc => k'.desc = k.desc
  | .svc => k'.svc = k.svc
  | .free => k'.free = k.free
  | .mgt => { k'.mgt with alertLow := k.mgt.alertLow, ibiRaised := k.mgt.ibiRaised } = k.mgt

/-- Only the parts named change. -/
def Core.onlyParts (l : List Part) (k k' : Core) : Prop := ∀ p, p ∉ l → p.same k k'

/-- Only the registers named change, and the two an event may change: the log's drop count and the alert it raises. -/
def Core.onlyRegs (l : List Nat) (k k' : Core) : Prop :=
  ∀ a, a ∉ l → a ≠ Reg.EVL_DROP_CNT → a ≠ Reg.MGT_ALERT_STAT → k'.rd a = k.rd a

/-- The queue, the flash, the OTP banks and Marigold stand, but for Marigold's record store, event sequences and
capability generation, which events and changes of service advance. -/
def State.outsideStands (s t : State) : Prop :=
  t.pending = s.pending ∧ t.nvm = s.nvm ∧ t.otp = s.otp ∧ t.aon.regs = s.aon.regs ∧ t.aon.tbl = s.aon.tbl ∧
  t.aon.shad = s.aon.shad ∧ t.aon.hold = s.aon.hold ∧ t.aon.boot = s.aon.boot ∧ t.aon.mop = s.aon.mop ∧
  t.aon.pwr = s.aon.pwr ∧ t.aon.now = s.aon.now ∧ t.aon.lims = s.aon.lims

/-- Nothing outside the core, only the parts `l` and the registers `r` of the core change. -/
def State.only (s : State) (l : List Part) (r : List Nat) (t : State) : Prop :=
  s.outsideStands t ∧ s.core.onlyParts l t.core ∧ s.core.onlyRegs r t.core

/-! ### Timetable entries -/

/-- Entry `e` of TYPE `typ` is the next in order, in segment `g` at time `t` ns, and its time has come (10_timetable_time
R287). -/
def Core.fires (k : Core) (e typ g t : Nat) : Prop :=
  (∃ o, k.ttNext = some (g, t, o, e)) ∧ k.entType e = typ ∧ t ≤ k.gns

/-! ### Safe states -/

/-- Each OTP setting was written at most as often as R426 allows. -/
def Otp.inLimits (o : Otp) : Prop :=
  o.siteUsed ≤ 4 ∧ o.rbUsed ≤ 128 ∧ o.kekUsed ≤ 8 ∧ o.lmUsed ≤ 2 ∧ o.dbgUsed ≤ 1 ∧ o.rootUsed ≤ 2

/-- No debug session while the debug lock is in force. -/
def Otp.noSession (o : Otp) : Prop := o.locked = true → o.session = false

/-! ### Key material (08_cipher R228) -/

def KeyPos.blind (p : KeyPos) : KeyPos := { p with key := 0, salt := 0 }

def KeySlot.blind (x : KeySlot) : KeySlot := { x with p0 := x.p0.blind, p1 := x.p1.blind }

/-- The state with every key, salt and KEK in it, and the words of an OTP write under way, made the same. -/
def State.blind (s : State) : State :=
  { s with
    core := { s.core with cip := { s.core.cip with
      slots := { cells := s.core.cip.slots.cells.map (fun c => (c.1, c.2.blind)) }, kek := none } }
    otp := { s.otp with kek := s.otp.kek.map (fun _ => 0), busy := s.otp.busy.map (fun b => (b.1, [])) } }

end Sys2Proof.Machine
end

