-- ==== Sys2Proof/Certificates/Slice0/Obligations.lean ====
section
/-!
DEFINITION. The statements for the provers. Each names the rules of spec/ it rests on in its docstring.
-/

open Sys2Proof Sys2Proof.Machine

/-- A step runs the command at the front of the queue: 95_what_each_step_holds, 98_reader. The queue is the model's own (assumption log 1). -/
def Obligations.StepRunsFrontCommand : Prop :=
  ∀ (s : State) (c : Instr) (rest : List Instr), s.pending = c :: rest →
    step s = exec c { s with pending := rest }

/-- A step on an empty queue lets 8 ns pass (the model's choice, assumption log 2): R271, R276. -/
def Obligations.EmptyQueueStepPassesEightNs : Prop :=
  ∀ s : State, s.pending = [] →
    ∃ t, step s = .next t ∧ t.pending = [] ∧ t.aon.now = s.aon.now + 8 ∧
      (s.aon.pwr.pdT = none → s.aon.pwr.quStage = 0 →
        t.core.tim.run = s.core.tim.run + 8 * 65536 ∧
        (0 ≤ (s.core.tim.glob : Int) + (8 * 65536 * (10 ^ 9 + s.core.tim.freq) + s.core.tim.frac) / 10 ^ 9 →
          (t.core.tim.glob : Int) = ((s.core.tim.glob : Int) +
            (8 * 65536 * (10 ^ 9 + s.core.tim.freq) + s.core.tim.frac) / 10 ^ 9) % 2 ^ 80))

/-- Every command completes and leaves the queue of waiting commands as it stands: R13, R14, R489. -/
def Obligations.EveryCommandCompletesAndLeavesTheQueue : Prop :=
  ∀ (c : Instr) (s : State), ∃ t, exec c s = .next t ∧ t.pending = s.pending

/-- REGISTER_WRITE, WINDOW_DATA_ACCESS, RC_READ and LOW_WORD_READ execute and answer: R5, R9, R10, R14, R442, R443, R508. -/
def Obligations.ManagementFramesExecute : Prop :=
  (∀ (p : Path) (a v : Word) (s : State), s.aon.pwr.vinOk = true → s.frameSt a.toNat = stOk →
    Completes (.registerWrite p a v) s (fun t =>
      t.core.mgt.resp = some { path := p, status := stOk, data := none, gen := none })) ∧
  (∀ (p : Path) (i : Fin 12) (v : Word) (s : State), s.aon.pwr.vinOk = true →
    Completes (.registerWrite p (word (Reg.OTP_DATA i)) v) s (fun t =>
      t.aon.rd (Reg.OTP_DATA i) = v.toNat ∧ t.otp = s.otp ∧ t.nvm = s.nvm ∧
      (∀ b, b ≠ Reg.OTP_DATA i → t.aon.rd b = s.aon.rd b) ∧
      s.core.onlyParts [.mgt] t.core ∧ s.core.onlyRegs [Reg.MGT_STAT] t.core)) ∧
  (∀ (p : Path) (v : Word) (s : State), s.aon.pwr.vinOk = true → s.aon.fd Reg.BOOT_NVMB_TBL 23 0 < 64 →
    Completes (.windowDataAccess p (word (Reg.BOOT_NVMB_TBL + 4)) (some v)) s (fun t =>
      t.aon.tb Reg.BOOT_NVMB_TBL (s.aon.fd Reg.BOOT_NVMB_TBL 23 0) = v.toNat ∧
      t.aon.fd Reg.BOOT_NVMB_TBL 23 0 = s.aon.fd Reg.BOOT_NVMB_TBL 23 0 + 1 ∧
      t.aon.fd Reg.BOOT_NVMB_TBL 31 24 = stOk)) ∧
  (∀ (p : Path) (s : State), s.aon.pwr.vinOk = true → s.aon.fd Reg.SUP_MRES_TBL 23 0 < 1024 →
    Completes (.windowDataAccess p (word (Reg.SUP_MRES_TBL + 4)) none) s (fun t =>
      t.core.mgt.resp = some { path := p, status := stOk, data := some (word (s.aon.tb Reg.SUP_MRES_TBL (s.aon.fd Reg.SUP_MRES_TBL 23 0))),
                               gen := none } ∧
      t.aon.fd Reg.SUP_MRES_TBL 23 0 = s.aon.fd Reg.SUP_MRES_TBL 23 0 + 1 ∧
      t.aon.tbl = s.aon.tbl ∧ t.nvm = s.nvm ∧ t.otp = s.otp)) ∧
  (∀ (p : Path) (a : Word) (r : RegRow) (i : Nat) (s : State), s.aon.pwr.vinOk = true → s.frameSt a.toNat = stOk →
    isAon a.toNat = false → regAt a.toNat = some (r, i) → r.acc = .rc ∨ r.acc = .cnt →
    Completes (.rcRead p a) s (fun t =>
      t.core.mgt.resp = some { path := p, status := stOk, data := some (word ((s.executed p).view a.toNat i)), gen := none } ∧
      t.core.rd a.toNat = (if a.toNat = Reg.CLE_PARK_HWM then s.core.cle.park.length % 2 ^ 32 else 0) ∧
      s.only [.mgt] [a.toNat, Reg.MGT_STAT] t)) ∧
  (∀ (p : Path) (a : Word) (r : RegRow) (i : Nat) (s : State), s.aon.pwr.vinOk = true → s.frameSt a.toNat = stOk →
    isAon a.toNat = false → regAt a.toNat = some (r, i) → r.acc = .roLo ∨ r.acc = .rwLo ∨ r.acc = .cumLo →
    Completes (.lowWordRead p a) s (fun t =>
      t.core.mgt.resp = some { path := p, status := stOk, data := some (word ((s.executed p).view a.toNat i)), gen := none } ∧
      t.core.hold.get none (a.toNat + 4) = some (word ((s.executed p).view (a.toNat + 4) i)) ∧
      s.only [.mgt, .hold] [Reg.MGT_STAT] t))

/-- Frames that execute nothing, shadow reads, steward restarts and rate-limited events: R442, R443, R445, R457, R15, R509. -/
def Obligations.FramesThatExecuteNothing : Prop :=
  (∀ (p : Path) (s : State), s.aon.pwr.vinOk = true →
    Completes (.mgmtFrameAbort p) s (fun t => t.core.mgt.resp = none ∧
      t.core.rd Reg.MGT_ABORT_CNT = min (s.core.rd Reg.MGT_ABORT_CNT + 1) (2 ^ 32 - 1) ∧
      s.only [.mgt] [Reg.MGT_ABORT_CNT] t)) ∧
  (∀ (p : Path) (op : Byte) (a : Word) (s : State), s.aon.pwr.vinOk = true →
    Completes (.mgmtReservedOpcode p op a) s (fun t =>
      t.core.mgt.resp = some { path := p, status := stRange, data := none, gen := none } ∧
      t.core.rd Reg.MGT_BADADDR = a.toNat ∧
      t.core.rd Reg.MGT_BADACC_CNT = min (s.core.rd Reg.MGT_BADACC_CNT + 1) (2 ^ 32 - 1) ∧
      t.nvm = s.nvm ∧ t.otp = s.otp ∧ t.aon.regs = s.aon.regs ∧
      s.core.onlyParts [.mgt] t.core ∧ s.core.onlyRegs [Reg.MGT_BADADDR, Reg.MGT_BADACC_CNT] t.core)) ∧
  (∀ (p : Path) (s : State), s.aon.pwr.vinOk = true →
    Completes (.mgmtFrameBusy p) s (fun t =>
      t.core.mgt.busyResp = some { path := p, status := stBusy, data := none, gen := none } ∧
      t.core.mgt.resp = s.core.mgt.resp ∧
      t.core.rd Reg.MGT_BUSY_CNT = min (s.core.rd Reg.MGT_BUSY_CNT + 1) (2 ^ 32 - 1) ∧
      s.only [.mgt] [Reg.MGT_BUSY_CNT] t)) ∧
  (∀ (p : Path) (s : State), s.aon.pwr.vinOk = true →
    Completes (.commandCrcWrong p) s (fun t =>
      t.core.mgt.resp = some { path := p, status := stCorrupt, data := none, gen := none } ∧
      t.core.rd Reg.MGT_CRC_CNT = min (s.core.rd Reg.MGT_CRC_CNT + 1) (2 ^ 32 - 1) ∧
      s.only [.mgt] [Reg.MGT_CRC_CNT] t)) ∧
  (∀ (p : Path) (a : Word) (s : State), s.aon.pwr.vinOk = true → s.frameSt a.toNat = stOk →
    (∃ r i, regAt a.toNat = some (r, i) ∧ r.acc = .cnt) →
    Completes (.shadowRead p a) s (fun t =>
      t.core.mgt.resp = some { path := p, status := stOk, data := some (word (s.shadowVal a.toNat)), gen := some s.core.mgt.shadGen } ∧
      s.only [.mgt] [Reg.MGT_STAT] t)) ∧
  (∀ (sub : Fin 18) (s : State), sub.val ≠ 0 → sub.val ≠ 14 → sub.val ≠ 17 →
    Completes (.stewardRestart sub) s (fun t =>
      t.core.evl.seqs.get 0 (2048 * sub + 0x7FF) = (s.core.evl.seqs.get 0 (2048 * sub + 0x7FF) + 1) % 2 ^ 32 ∧ s.only [] [] t)) ∧
  (∀ (sub : Fin 18) (s : State), sub.val = 14 ∨ sub.val = 17 →
    Completes (.stewardRestart sub) s (fun t =>
      t.aon.seqs.get 0 (2048 * sub + 0x7FF) = (s.aon.seqs.get 0 (2048 * sub + 0x7FF) + 1) % 2 ^ 32 ∧ s.only [] [] t)) ∧
  (∀ (code src key : Nat) (l : Lim) (s : State),
    s.core.evl.lims.find? (fun m => m.is code src key && m.count != 0 && decide (m.ends ≤ s.core.now)) = some l →
    Completes (.eventRateEmit code src key) s (fun t =>
      t.core.evl.lims.find? (fun m => m.is code src key) =
        some { l with ends := s.core.now + l.interval, count := 0, time := 0, args := 0 } ∧
      t.core.evl.seqs.get 0 l.src = (s.core.evl.seqs.get 0 l.src + 1) % 2 ^ 32 ∧ s.only [] [] t))

/-- I3C_CCC: the common command codes of the target: R444, R466. -/
def Obligations.I3cCommonCommandCodes : Prop :=
  ∀ s : State, s.aon.pwr.vinOk = true →
    (∀ da, da < 128 → s.core.i3cDa = 0 → ∀ c, c = Ccc.entdaa da ∨ c = Ccc.setdasa da →
      Completes (.i3cCcc c) s (fun t => t.core.i3cDa = da ∧ s.only [] [Reg.MGT_STAT] t)) ∧
    Completes (.i3cCcc .rstdaa) s (fun t => t.core.i3cDa = 0 ∧ s.only [] [Reg.MGT_STAT] t) ∧
    Completes (.i3cCcc .enec) s (fun t => t.core.mgt.ibiEn = true ∧ s.only [.mgt] [] t) ∧
    Completes (.i3cCcc .disec) s (fun t => t.core.mgt.ibiEn = false ∧ s.only [.mgt] [] t) ∧
    Completes (.i3cCcc .getpid) s (fun t => t.core.mgt.cccResp.length = 6 ∧ s.only [.mgt] [] t) ∧
    Completes (.i3cCcc .getbcr) s (fun t => t.core.mgt.cccResp.length = 1 ∧ s.only [.mgt] [] t) ∧
    Completes (.i3cCcc .getdcr) s (fun t => t.core.mgt.cccResp.length = 1 ∧ s.only [.mgt] [] t) ∧
    Completes (.i3cCcc .getstatus) s (fun t => t.core.mgt.cccResp.length = 2 ∧ s.only [.mgt, .free] [] t)

/-- FPC_PORT_ENABLE, FPC_PORT_DISABLE, LINK_TRAINED, LINK_STATE_TIMEOUT and FPC_DRAIN_TIMEOUT: R64, R72, R87, R434. -/
def Obligations.FabricPortBringUp : Prop :=
  (∀ (n : Fin 32) (s : State), s.answers = true → bitAt s.core.svc.ofl n = true → s.core.fst (.ofl n) = .off →
    s.core.rxBufOk n = true →
    Completes (.fpcPortEnable n) s (fun t => t.core.fst (.ofl n) = .starting ∧ (t.core.port n).link = 1 ∧
      (t.core.port n).laneOk = 0 ∧ t.core.rd (Reg.FPC_P_CTRL n) = 1 ∧ t.core.fd (Reg.FPC_P_STAT n) 7 0 = stOk ∧
      (∀ m, m ≠ n.val → t.core.port m = s.core.port m) ∧
      s.only [.fpc, .fns] [Reg.FPC_P_CTRL n, Reg.FPC_P_STAT n] t)) ∧
  (∀ (n : Fin 32) (s : State), s.answers = true → s.core.fst (.ofl n) = .on → (s.core.fn (.ofl n)).pend = false →
    Completes (.fpcPortDisable n) s (fun t =>
      (t.core.fst (.ofl n) = .draining ∨ t.core.fst (.ofl n) = .off) ∧ (t.core.port n).txq = {} ∧
      t.core.rd (Reg.FPC_P_CTRL n) = 0 ∧ t.core.fd (Reg.FPC_P_STAT n) 7 0 = stOk ∧ s.outsideStands t)) ∧
  (∀ (n : Fin 32) (skew : Nat) (s : State), s.core.fst (.ofl n) = .starting → (s.core.port n).link = 1 → skew ≤ 64 →
    Completes (.linkTrained n skew) s (fun t => (t.core.port n).link = 2 ∧ (t.core.port n).laneOk = 15 ∧
      (∀ m, m ≠ n.val → t.core.port m = s.core.port m) ∧ s.only [.fpc] [] t)) ∧
  (∀ (n : Fin 32) (s : State), s.core.fst (.ofl n) = .starting →
    (s.core.port n).t0 + (if (s.core.port n).link = 1 then 100000000 else 1000000) ≤ s.core.now →
    Completes (.linkStateTimeout n) s (fun t => (t.core.port n).tries = (s.core.port n).tries + 1 ∧
      ((s.core.port n).tries < 2 → t.core.fst (.ofl n) = .starting ∧ (t.core.port n).link = 1 ∧
        (t.core.port n).t0 = s.core.now) ∧
      (2 ≤ (s.core.port n).tries → t.core.fst (.ofl n) = .faulted ∧ (t.core.port n).link = 0 ∧ (t.core.port n).cause = 3) ∧
      (∀ m, m ≠ n.val → t.core.port m = s.core.port m) ∧ s.only [.fpc, .fns] [] t)) ∧
  (∀ (n : Fin 32) (s : State), s.core.fst (.ofl n) = .draining → (s.core.fn (.ofl n)).pend = false →
    (s.core.fn (.ofl n)).since + 2000000 ≤ s.core.now →
    Completes (.fpcDrainTimeout n) s (fun t => t.core.fst (.ofl n) = .off ∧ (t.core.port n).unacked = [] ∧
      (t.core.port n).cur = [] ∧ s.only [.fpc, .fns, .frt] [] t))

/-- LINK_BLOCK_TX, LINK_BLOCK_RX, ACK_TIMEOUT and LANE_LOSS: R56, R57, R59, R61, R62, R64, R65. -/
def Obligations.LinkBlocksAndRetry : Prop :=
  (∀ (n : Fin 32) (s : State), 2 ≤ (s.core.port n).link →
    Completes (.linkBlockTx n) s (fun t => (t.core.port n).lastBlk.length = 528 ∧
      beNat (slice (t.core.port n).lastBlk 524 4) = crc32 ((t.core.port n).lastBlk.take 524) % 2 ^ 32 ∧
      (t.core.port n).nakDue = false ∧ s.outsideStands t)) ∧
  (∀ (n : Fin 32) (blk : List Byte) (parms : Option (List Nat)) (s : State),
    (s.core.port n).link = 2 ∨ (s.core.port n).link = 3 → crc32 (blk.take 524) ≠ beNat (slice blk 524 4) →
    Completes (.linkBlockRx n blk parms) s (fun t =>
      t.core.rd (Reg.FPC_P_CRC_CNT n) = min (s.core.rd (Reg.FPC_P_CRC_CNT n) + 1) (2 ^ 32 - 1) ∧ s.outsideStands t)) ∧
  (∀ (n : Fin 32) (blk : List Byte) (parms : Option (List Nat)) (s : State),
    (s.core.port n).link = 2 → crc32 (blk.take 524) = beNat (slice blk 524 4) → 15 ≤ (s.core.port n).goodRun →
    parms.isSome = true ∨ (s.core.port n).parms = true → (s.core.port n).parmAck = true → (s.core.port n).laneOk = 15 →
    Completes (.linkBlockRx n blk parms) s (fun t => t.core.fst (.ofl n) = .on ∧ (t.core.port n).link = 3 ∧
      s.only [.fpc, .fns] [] t)) ∧
  (∀ (n : Fin 32) (blk : List Byte) (parms : Option (List Nat)) (s : State),
    (s.core.port n).link = 3 → crc32 (blk.take 524) = beNat (slice blk 524 4) →
    Completes (.linkBlockRx n blk parms) s (fun t => (t.core.port n).crcRun = 0 ∧
      (t.core.port n).freedIn.get 0 (fld (beNat (slice blk 512 16)) 71 69) = fld (beNat (slice blk 512 16)) 68 57 ∧
      s.outsideStands t)) ∧
  (∀ (n : Fin 32) (x : TxSlot) (l : List TxSlot) (s : State), (s.core.port n).unacked = x :: l →
    x.t + 10 * s.core.fd (Reg.FPC_P_LLCFG n) 15 0 ≤ s.core.now →
    (s.core.port n).replays + 1 < s.core.fd (Reg.FPC_P_LLCFG n) 19 16 →
    Completes (.ackTimeout n) s (fun t =>
      (t.core.port n).replay.map TxSlot.lsn = (x :: l).map TxSlot.lsn ∧
      (t.core.port n).replays = (s.core.port n).replays + 1 ∧
      t.core.rd (Reg.FPC_P_REPLAY_CNT n) = min (s.core.rd (Reg.FPC_P_REPLAY_CNT n) + 1) (2 ^ 32 - 1) ∧
      s.only [.fpc] [Reg.FPC_P_REPLAY_CNT n] t)) ∧
  (∀ (n : Fin 32) (lane : Fin 4) (s : State), s.core.fst (.ofl n) = .on →
    Completes (.laneLoss n lane) s (fun t => t.core.fst (.ofl n) = .faulted ∧ (t.core.port n).cause = 1 ∧
      (t.core.port n).link = 0 ∧ (t.core.port n).unacked = [] ∧ (t.core.port n).laneOk.testBit lane = false ∧
      s.outsideStands t))

/-- ROUTER_PACKET_RX, ESC_TIMEOUT, ROUTER_ENABLE and ROUTER_DISABLE: R17, R68, R70, R74, R75, R77, R80, R83, R214, R438, R511. -/
def Obligations.RouterHandlesPackets : Prop :=
  (∀ (n : Fin 33) (p : Packet) (rest : List Packet) (s : State), n.val < 32 → s.core.isOn .router = true →
    s.core.isOn (.ofl n) = true → (s.core.port n).rxq = p :: rest → s.core.descFull = false →
    hget p.hdr 255 252 ≠ 1 ∨ hdrCrc p.hdr ≠ hget p.hdr 15 0 →
    Completes (.routerPacketRx n none none) s (fun t => (t.core.port n).rxq = rest ∧
      t.core.rd Reg.FRT_BADHDR_CNT = min (s.core.rd Reg.FRT_BADHDR_CNT + 1) (2 ^ 32 - 1) ∧
      t.core.frt.data = s.core.frt.data ∧ s.only [.fpc, .frt] [Reg.FRT_BADHDR_CNT] t)) ∧
  (∀ (n : Fin 33) (p : Packet) (rest : List Packet) (s : State), n.val < 32 → s.core.isOn .router = true →
    s.core.isOn (.ofl n) = true → (s.core.port n).rxq = p :: rest → s.core.descFull = false →
    hget p.hdr 255 252 = 1 → hdrCrc p.hdr = hget p.hdr 15 0 → hVc p.hdr < 6 → hType p.hdr ≤ 5 →
    vcAllows (hVc p.hdr) (hType p.hdr) = true → hget p.hdr 245 245 = 0 → p.slots = hLen p.hdr + 1 →
    bitAt s.core.frt.ep.wopen (hEpoch p.hdr) = false → hget p.hdr 246 246 = 0 → hType p.hdr ≠ 3 → hType p.hdr ≠ 4 →
    bitAt (s.core.rtEntry (hEpoch p.hdr) (hDst p.hdr)) 63 = true →
    fld (s.core.rtEntry (hEpoch p.hdr) (hDst p.hdr)) 62 60 = 1 →
    Completes (.routerPacketRx n none none) s (fun t => (t.core.port n).rxq = rest ∧
      t.core.frt.data = s.core.frt.data ++ [{ pkt := { p with inPort := n }, site := none }] ∧
      s.only [.fpc, .frt] [] t)) ∧
  (∀ (n : Fin 33) (sub : Fin 18) (p : Packet) (rest : List Packet) (s : State), n.val < 32 → s.core.isOn .router = true →
    s.core.isOn (.ofl n) = true → (s.core.port n).rxq = p :: rest → s.core.descFull = false →
    hget p.hdr 255 252 = 1 → hdrCrc p.hdr = hget p.hdr 15 0 → hVc p.hdr < 6 → hType p.hdr ≤ 5 →
    vcAllows (hVc p.hdr) (hType p.hdr) = true → hget p.hdr 245 245 = 0 → p.slots = hLen p.hdr + 1 →
    bitAt s.core.frt.ep.wopen (hEpoch p.hdr) = false → hget p.hdr 246 246 = 0 → hType p.hdr ≠ 3 → hType p.hdr ≠ 4 →
    bitAt (s.core.rtEntry (hEpoch p.hdr) (hDst p.hdr)) 63 = true →
    fld (s.core.rtEntry (hEpoch p.hdr) (hDst p.hdr)) 62 60 = 1 →
    Completes (.routerPacketRx n (some sub) none) s (fun t => (t.core.port n).rxq = rest ∧
      t.core.frt.data = s.core.frt.data ++ [{ pkt := { p with hdr := hset p.hdr 247 247 1, inPort := n }, site := none }] ∧
      t.core.tb Reg.HBC_FPAR_TBL sub = min (s.core.tb Reg.HBC_FPAR_TBL sub + 1) (2 ^ 32 - 1) ∧
      s.only [.fpc, .frt, .tbl] [] t)) ∧
  (∀ (n : Fin 33) (par : Option (Fin 18)) (mem : Option MemErr) (s : State), s.core.routerBusy n = true →
    (s.memErrs mem).core.routerBusy n = true →
    Completes (.routerPacketRx n par mem) s (fun t => exec (.routerPacketRx n par none) (s.memErrs mem) = .next t)) ∧
  (∀ (n : Fin 32) (vc : Fin 8) (x : QPkt) (rest : List QPkt) (s : State), (s.core.port n).txq.get [] vc = x :: rest →
    vc.val < 7 → x.headT + 10 * s.core.fd Reg.FRT_ESC_TIMEOUT 15 0 ≤ s.core.now → s.core.isOff .router = false →
    Completes (.escTimeout n vc) s (fun t => ((t.core.port n).txq.get [] vc).length = rest.length ∧
      t.core.rd Reg.FRT_ESC_MOVE_CNT = min (s.core.rd Reg.FRT_ESC_MOVE_CNT + 1) (2 ^ 32 - 1) ∧ s.outsideStands t)) ∧
  (∀ s : State, s.answers = true → s.core.fst .router = .off →
    Completes .routerEnable s (fun t => t.core.fst .router = .on ∧ t.aon.fd Reg.BOOT_STAT 7 0 = stOk ∧
      s.core.onlyParts [.fns] t.core ∧ s.core.onlyRegs [] t.core)) ∧
  (∀ s : State, s.answers = true → s.core.fst .router = .on → (s.core.fn .router).pend = false →
    Completes .routerDisable s (fun t => t.aon.fd Reg.BOOT_STAT 7 0 = stOk ∧
      t.core.fst .router = (if s.core.frt.ep.infl0 = 0 ∧ s.core.frt.ep.infl1 = 0 then .off else .draining) ∧
      s.core.onlyParts [.fns] t.core ∧ s.core.onlyRegs [] t.core))

/-- EPOCH_WCLOSE, EPOCH_SET_CUR, EPOCH_IDLE, RT_TBL_WRITE and CIRC_TBL_WRITE: R83, R84, R85, R86, R90, R91. -/
def Obligations.RoutingVersions : Prop :=
  (∀ (v : Word) (s : State), s.answers = true → fld v.toNat 0 0 = s.core.frt.ep.cur →
    ∀ c ∈ [Instr.epochWclose v, Instr.epochSetCur v], Completes c s (fun t =>
      t.core.frt = { s.core.frt with ep := { s.core.frt.ep with wopen := s.core.frt.ep.wopen &&& (3 - fld v.toNat 13 12) } } ∧
      t.core.fd Reg.FRT_STAT 7 0 = stOk ∧ s.only [.frt] [Reg.FRT_STAT] t)) ∧
  (∀ (v : Word) (s : State), s.answers = true → fld v.toNat 0 0 ≠ s.core.frt.ep.cur →
    bitAt (s.core.frt.ep.wopen &&& (3 - fld v.toNat 13 12)) (fld v.toNat 0 0) = true →
    ∀ c ∈ [Instr.epochWclose v, Instr.epochSetCur v], Completes c s (fun t =>
      t.core.frt = { s.core.frt with ep := { s.core.frt.ep with wopen := s.core.frt.ep.wopen &&& (3 - fld v.toNat 13 12) } } ∧
      t.core.fd Reg.FRT_STAT 7 0 = stBusy ∧ s.only [.frt] [Reg.FRT_STAT] t)) ∧
  (∀ (v : Word) (s : State), s.answers = true → fld v.toNat 0 0 ≠ s.core.frt.ep.cur →
    bitAt (s.core.frt.ep.wopen &&& (3 - fld v.toNat 13 12)) (fld v.toNat 0 0) = false →
    ∀ c ∈ [Instr.epochWclose v, Instr.epochSetCur v], Completes c s (fun t =>
      t.core.frt = { s.core.frt with ep := { s.core.frt.ep with
        wopen := s.core.frt.ep.wopen &&& (3 - fld v.toNat 13 12), cur := fld v.toNat 0 0
        idle := setBit s.core.frt.ep.idle (fld v.toNat 0 0) false } } ∧
      t.core.fd Reg.FRT_STAT 7 0 = stOk ∧ s.only [.frt] [Reg.FRT_STAT] t)) ∧
  (∀ (v : Fin 2) (s : State), v.val ≠ s.core.frt.ep.cur → s.core.frt.ep.infl v = 0 →
    s.core.frt.ep.zt v + 10000 ≤ s.core.now →
    Completes (.epochIdle v) s (fun t =>
      t.core.frt = { s.core.frt with ep := { s.core.frt.ep with idle := setBit s.core.frt.ep.idle v true } } ∧
      s.only [.frt] [] t)) ∧
  (∀ (v : Word) (s : State), s.answers = true → s.core.fd Reg.FRT_RT_TBL 23 0 < 1048576 →
    s.core.fd Reg.FRT_RT_TBL 23 0 / 524288 ≠ s.core.frt.ep.cur →
    bitAt s.core.frt.ep.idle (s.core.fd Reg.FRT_RT_TBL 23 0 / 524288) = true ∨
      bitAt s.core.frt.ep.wopen (s.core.fd Reg.FRT_RT_TBL 23 0 / 524288) = true →
    Completes (.rtTblWrite v) s (fun t =>
      t.core.frt.ep = { s.core.frt.ep with wopen := setBit s.core.frt.ep.wopen (s.core.fd Reg.FRT_RT_TBL 23 0 / 524288) true } ∧
      t.core.fd Reg.FRT_RT_TBL 23 0 = s.core.fd Reg.FRT_RT_TBL 23 0 + 1 ∧ t.core.fd Reg.FRT_RT_TBL 31 24 = stOk ∧
      (s.core.fd Reg.FRT_RT_TBL 23 0 % 2 = 0 → t.core.tbl = s.core.tbl ∧
        t.core.lowHeld Reg.FRT_RT_TBL (s.core.fd Reg.FRT_RT_TBL 23 0) = some v) ∧
      (s.core.fd Reg.FRT_RT_TBL 23 0 % 2 = 1 →
        t.core.tb Reg.FRT_RT_TBL (s.core.fd Reg.FRT_RT_TBL 23 0) = v.toNat &&& 0xFFF80000 ∧
        t.core.tb Reg.FRT_RT_TBL (s.core.fd Reg.FRT_RT_TBL 23 0 - 1) =
          ((s.core.lowHeld Reg.FRT_RT_TBL (s.core.fd Reg.FRT_RT_TBL 23 0 - 1)).map (fun (l : Word) => l.toNat)).getD
            (s.core.tb Reg.FRT_RT_TBL (s.core.fd Reg.FRT_RT_TBL 23 0 - 1)) ∧
        (∀ w, w < 1048576 → w / 2 ≠ s.core.fd Reg.FRT_RT_TBL 23 0 / 2 →
          t.core.tb Reg.FRT_RT_TBL w = s.core.tb Reg.FRT_RT_TBL w)) ∧
      s.only [.frt, .tbl] [Reg.FRT_RT_TBL, Reg.FRT_STAT] t)) ∧
  (∀ (v : Word) (s : State), s.answers = true → s.core.fd Reg.FRT_RT_TBL 23 0 < 1048576 →
    s.core.fd Reg.FRT_RT_TBL 23 0 / 524288 = s.core.frt.ep.cur ∨
      (bitAt s.core.frt.ep.idle (s.core.fd Reg.FRT_RT_TBL 23 0 / 524288) = false ∧
        bitAt s.core.frt.ep.wopen (s.core.fd Reg.FRT_RT_TBL 23 0 / 524288) = false) →
    Completes (.rtTblWrite v) s (fun t => t.core.fd Reg.FRT_RT_TBL 31 24 = stEpochBusy ∧
      t.core.fd Reg.FRT_RT_TBL 23 0 = s.core.fd Reg.FRT_RT_TBL 23 0 ∧ s.only [] [Reg.FRT_RT_TBL, Reg.FRT_STAT] t)) ∧
  (∀ (v : Word) (s : State), s.answers = true → s.core.fd Reg.FRT_CIRC_TBL 23 0 < 8192 →
    s.core.fd Reg.FRT_CIRC_TBL 23 0 % 2 = 0 →
    Completes (.circTblWrite v) s (fun t =>
      t.core.lowHeld Reg.FRT_CIRC_TBL (s.core.fd Reg.FRT_CIRC_TBL 23 0) = some (word (v.toNat &&& 0xFFF00000)) ∧
      t.core.fd Reg.FRT_CIRC_TBL 23 0 = s.core.fd Reg.FRT_CIRC_TBL 23 0 + 1 ∧ t.core.fd Reg.FRT_CIRC_TBL 31 24 = stOk ∧
      s.only [.frt] [Reg.FRT_CIRC_TBL, Reg.FRT_STAT] t)) ∧
  (∀ (v : Word) (s : State), s.answers = true → s.core.fd Reg.FRT_CIRC_TBL 23 0 < 8192 →
    s.core.fd Reg.FRT_CIRC_TBL 23 0 % 2 = 1 →
    bitAt v.toNat 31 = false ∨ bitAt (s.core.tb Reg.FRT_CIRC_TBL (s.core.fd Reg.FRT_CIRC_TBL 23 0)) 31 = false →
    Completes (.circTblWrite v) s (fun t =>
      t.core.tb Reg.FRT_CIRC_TBL (s.core.fd Reg.FRT_CIRC_TBL 23 0) = v.toNat ∧
      t.core.tb Reg.FRT_CIRC_TBL (s.core.fd Reg.FRT_CIRC_TBL 23 0 - 1) =
        ((s.core.lowHeld Reg.FRT_CIRC_TBL (s.core.fd Reg.FRT_CIRC_TBL 23 0 - 1)).map (fun (l : Word) => l.toNat)).getD
          (s.core.tb Reg.FRT_CIRC_TBL (s.core.fd Reg.FRT_CIRC_TBL 23 0 - 1)) ∧
      t.core.fd Reg.FRT_CIRC_TBL 23 0 = s.core.fd Reg.FRT_CIRC_TBL 23 0 + 1 ∧ t.core.fd Reg.FRT_CIRC_TBL 31 24 = stOk ∧
      (∀ w, w < 8192 → w / 2 ≠ s.core.fd Reg.FRT_CIRC_TBL 23 0 / 2 → t.core.tb Reg.FRT_CIRC_TBL w = s.core.tb Reg.FRT_CIRC_TBL w) ∧
      s.only [.frt, .tbl] [Reg.FRT_CIRC_TBL, Reg.FRT_STAT] t)) ∧
  (∀ (v : Word) (s : State), s.answers = true → s.core.fd Reg.FRT_CIRC_TBL 23 0 < 8192 →
    s.core.fd Reg.FRT_CIRC_TBL 23 0 % 2 = 1 → bitAt v.toNat 31 = true →
    bitAt (s.core.tb Reg.FRT_CIRC_TBL (s.core.fd Reg.FRT_CIRC_TBL 23 0)) 31 = true →
    Completes (.circTblWrite v) s (fun t => t.core.fd Reg.FRT_CIRC_TBL 31 24 = stBusy ∧
      t.core.fd Reg.FRT_CIRC_TBL 23 0 = s.core.fd Reg.FRT_CIRC_TBL 23 0 ∧ s.only [] [Reg.FRT_CIRC_TBL, Reg.FRT_STAT] t))

/-- FLOW_ENABLE, FLOW_DISABLE, FLOW_DRAIN_TIMEOUT and FLOW_CTX_WRITE: R95, R96, R97, R98, R99, R114, R434. -/
def Obligations.FlowsEnableDisableAndContextWords : Prop :=
  (∀ (f : Fin 16384) (s : State), s.answers = true → s.core.fst (.flow f) = .off →
    Core.flowCheck f ((s.core.ackSettle (s.core.fKeySlot f)).setFst (.flow f) .starting stOk) = stOk →
    Completes (.flowEnable f) s (fun t => t.core.fst (.flow f) = .on ∧
      t.core.fctx f 0x10 = s.core.fctx f 8 ∧ t.core.fctx f 0x18 = s.core.fctx f 0x20 ∧
      (∀ off ∈ [0x48, 0x50, 0x58, 0x60, 0x68, 0x70], t.core.fctx f off = 0) ∧
      t.core.fd Reg.FCS_STAT 7 0 = stOk ∧ s.only [.fns, .tbl, .fcs, .xfm, .cip] [Reg.FCS_STAT] t)) ∧
  (∀ (f : Fin 16384) (s : State), s.answers = true → s.core.fst (.flow f) = .on → (s.core.fn (.flow f)).pend = false →
    Completes (.flowDisable f) s (fun t =>
      t.core.fst (.flow f) = (if s.core.flowRecs f = [] then .off else .draining) ∧
      t.core.fd Reg.FCS_STAT 7 0 = stOk ∧ s.only [.fns] [Reg.FCS_STAT] t)) ∧
  (∀ (f : Fin 16384) (s : State), s.core.fst (.flow f) = .draining → (s.core.fn (.flow f)).pend = false →
    (s.core.fn (.flow f)).since + 100000 * s.core.fd Reg.FCS_DRAIN 15 0 ≤ s.core.now → s.core.cle.failQ = [] →
    Completes (.flowDrainTimeout f) s (fun t => t.core.fst (.flow f) = .off ∧ s.outsideStands t)) ∧
  (∀ (v : Word) (s : State), s.answers = true → s.core.fd Reg.FCS_CTX_TBL 23 0 < 1048576 →
    [0, 1, 4, 5, 6, 7, 8].contains (s.core.fd Reg.FCS_CTX_TBL 23 0 % 64 / 2) = true →
    s.core.isOff (.flow (s.core.fd Reg.FCS_CTX_TBL 23 0 / 64)) = true →
    Completes (.flowCtxWrite v) s (fun t =>
      t.core.tb Reg.FCS_CTX_TBL (s.core.fd Reg.FCS_CTX_TBL 23 0) = v.toNat ∧
      t.core.fd Reg.FCS_CTX_TBL 23 0 = s.core.fd Reg.FCS_CTX_TBL 23 0 + 1 ∧ t.core.fd Reg.FCS_CTX_TBL 31 24 = stOk ∧
      (∀ w, w ≠ s.core.fd Reg.FCS_CTX_TBL 23 0 → t.core.tb Reg.FCS_CTX_TBL w = s.core.tb Reg.FCS_CTX_TBL w) ∧
      s.only [.tbl] [Reg.FCS_CTX_TBL, Reg.FCS_STAT] t)) ∧
  (∀ (v : Word) (s : State), s.answers = true → s.core.fd Reg.FCS_CTX_TBL 23 0 < 1048576 →
    [0, 1, 4, 5, 6, 7, 8].contains (s.core.fd Reg.FCS_CTX_TBL 23 0 % 64 / 2) = true →
    s.core.isOff (.flow (s.core.fd Reg.FCS_CTX_TBL 23 0 / 64)) = false →
    Completes (.flowCtxWrite v) s (fun t => t.core.fd Reg.FCS_CTX_TBL 31 24 = stBusy ∧
      t.core.fd Reg.FCS_CTX_TBL 23 0 = s.core.fd Reg.FCS_CTX_TBL 23 0 ∧ s.only [] [Reg.FCS_CTX_TBL, Reg.FCS_STAT] t))

/-- RECORD_OPEN, PACKET_ACCEPT, NACK_TIMEOUT, RECORD_CLOSE and CUSTODY_RECORD_OPEN: R103, R104, R105, R106, R110, R112, R113, R214. The premise that no chunk failure waits (failQ) holds between commands. -/
def Obligations.ReceiveRecords : Prop :=
  (∀ (v : Word) (s : State), s.answers = true → s.core.fd Reg.FCS_CR_TBL 23 0 < 0x80000 →
    s.core.fd Reg.FCS_CR_TBL 23 0 % 16 = 1 → bitAt v.toNat 31 = true →
    s.core.rOpen (s.core.fd Reg.FCS_CR_TBL 23 0 / 16) = false →
    ((s.core.tbw Reg.FCS_CR_TBL (s.core.fd Reg.FCS_CR_TBL 23 0) (v.toNat &&& 0x7FFFFFFF)).openCheck
      (s.core.fd Reg.FCS_CR_TBL 23 0 / 16)).2 = stOk →
    Completes (.recordOpen v) s (fun t => t.core.rOpen (s.core.fd Reg.FCS_CR_TBL 23 0 / 16) = true ∧
      t.core.rSend (s.core.fd Reg.FCS_CR_TBL 23 0 / 16) = false ∧
      t.core.rBytes (s.core.fd Reg.FCS_CR_TBL 23 0 / 16) = 0 ∧ t.core.rMap (s.core.fd Reg.FCS_CR_TBL 23 0 / 16) = 0 ∧
      t.core.fcs.recT.get 0 (s.core.fd Reg.FCS_CR_TBL 23 0 / 16) = s.core.now + 1000 * s.core.fd Reg.FCS_TIMER 15 0 + 1 ∧
      s.only [.tbl, .fcs] [Reg.FCS_CR_TBL, Reg.FCS_STAT] t)) ∧
  (∀ (d : Deliv) (rest : List Deliv) (s : State), s.core.frt.data = d :: rest → d.site = none → s.core.cle.failQ = [] →
    s.core.isOn (.flow (hFlow d.pkt.hdr)) = true →
    kindType (s.core.fKind (hFlow d.pkt.hdr)) = some (hType d.pkt.hdr) →
    hSrc d.pkt.hdr = s.core.fLocalEid (hFlow d.pkt.hdr) → hCmpl d.pkt.hdr < 0x8000 →
    s.core.rOpen (hCmpl d.pkt.hdr) = true → s.core.rSend (hCmpl d.pkt.hdr) = false →
    s.core.rFlow (hCmpl d.pkt.hdr) = hFlow d.pkt.hdr → s.core.rSize (hCmpl d.pkt.hdr) ≤ 1048576 →
    seqSub (hSeq d.pkt.hdr) (s.core.rBase (hCmpl d.pkt.hdr)) < s.core.rSize (hCmpl d.pkt.hdr) →
    seqSub (hSeq d.pkt.hdr) (s.core.rBase (hCmpl d.pkt.hdr)) % 4096 = 0 →
    payLen d.pkt.hdr = pktLen (s.core.rSize (hCmpl d.pkt.hdr)) (seqSub (hSeq d.pkt.hdr) (s.core.rBase (hCmpl d.pkt.hdr)) / 4096) →
    bitAt (s.core.rMap (hCmpl d.pkt.hdr)) (seqSub (hSeq d.pkt.hdr) (s.core.rBase (hCmpl d.pkt.hdr)) / 4096) = false →
    s.core.rPkts (hCmpl d.pkt.hdr) + 1 < pktCount (s.core.rSize (hCmpl d.pkt.hdr)) →
    s.core.rBytes (hCmpl d.pkt.hdr) + payLen d.pkt.hdr < 2 ^ 21 →
    Completes (.packetAccept none) s (fun t => t.core.frt.data = rest ∧
      t.core.rMap (hCmpl d.pkt.hdr) = s.core.rMap (hCmpl d.pkt.hdr) |||
        2 ^ (seqSub (hSeq d.pkt.hdr) (s.core.rBase (hCmpl d.pkt.hdr)) / 4096) ∧
      t.core.rPkts (hCmpl d.pkt.hdr) = s.core.rPkts (hCmpl d.pkt.hdr) + 1 ∧
      t.core.rBytes (hCmpl d.pkt.hdr) = s.core.rBytes (hCmpl d.pkt.hdr) + payLen d.pkt.hdr ∧
      t.core.mrd (ptrAddr (s.core.rBuf (hCmpl d.pkt.hdr)) + seqSub (hSeq d.pkt.hdr) (s.core.rBase (hCmpl d.pkt.hdr)))
        d.pkt.payload.length = d.pkt.payload ∧
      (∀ a, (a < ptrAddr (s.core.rBuf (hCmpl d.pkt.hdr)) + seqSub (hSeq d.pkt.hdr) (s.core.rBase (hCmpl d.pkt.hdr)) ∨
          ptrAddr (s.core.rBuf (hCmpl d.pkt.hdr)) + seqSub (hSeq d.pkt.hdr) (s.core.rBase (hCmpl d.pkt.hdr)) +
            d.pkt.payload.length ≤ a) → t.core.mem.get 0 a = s.core.mem.get 0 a) ∧
      s.only [.frt, .tbl, .fcs, .mem, .psn] [Reg.FCS_POISON_CNT] t)) ∧
  (∀ (mem : Option MemErr) (s : State), s.core.frt.data ≠ [] → (s.memErrs mem).core.frt.data ≠ [] →
    Completes (.packetAccept mem) s (fun t => exec (.packetAccept none) (s.memErrs mem) = .next t)) ∧
  (∀ (r : Fin 65536) (s : State), s.core.cle.failQ = [] → s.core.rOpen r = true → s.core.rSend r = false →
    s.core.recTimeUp r = true → s.core.rTries r < s.core.fd Reg.FCS_RETRY 3 0 →
    Completes (.nackTimeout r) s (fun t => t.core.rTries r = s.core.rTries r + 1 ∧
      t.core.rd Reg.FCS_NACK_CNT = min (s.core.rd Reg.FCS_NACK_CNT + 1) (2 ^ 32 - 1) ∧
      t.core.frt.own.length = s.core.frt.own.length + 1 ∧
      t.core.fcs.recT.get 0 r = s.core.now + 1000 * s.core.fd Reg.FCS_TIMER 15 0 + 1 ∧
      s.only [.frt, .tbl, .fcs, .free] [Reg.FCS_NACK_CNT] t)) ∧
  (∀ (r : Fin 65536) (s : State), s.answers = true → r.val < 0x8000 → s.core.rOpen r = true →
    Completes (.recordClose r) s (fun t => t.core.rOpen r = false ∧ t.core.fd Reg.FCS_STAT 7 0 = stOk ∧ s.outsideStands t)) ∧
  (∀ (m : CustMsg) (rest : List CustMsg) (s : State), s.core.fcs.custody = m :: rest → m.flow < 16384 →
    s.core.isOn (.flow m.flow) = true → (∃ id, 0xC000 ≤ id ∧ id < 0x10000 ∧ s.core.rOpen id = false) →
    Completes .custodyRecordOpen s (fun t => t.core.fcs.custody = rest ∧
      (∃ id, 0xC000 ≤ id ∧ id < 0x10000 ∧ s.core.rOpen id = false ∧ t.core.rOpen id = true ∧ t.core.rSend id = true ∧
        t.core.rFlow id = m.flow ∧ t.core.rBase id = m.base % 2 ^ 48) ∧
      t.core.frt.own.length = s.core.frt.own.length + pktCount m.size ∧ s.only [.frt, .tbl, .fcs, .free] [] t))

/-- RESEND_TIMEOUT, CMPL_ACK_RX, CMPL_NACK_RX and CTRL_MSG_BAD: R109, R110, R111. -/
def Obligations.AcknowledgementExchange : Prop :=
  (∀ (r : Fin 65536) (s : State), s.core.cle.failQ = [] → s.core.rOpen r = true → s.core.rSend r = true →
    s.core.recTimeUp r = true → s.core.rTries r ≠ s.core.fd Reg.FCS_RETRY 7 4 →
    Completes (.resendTimeout r) s (fun t => t.core.rTries r = (s.core.rTries r + 1) % 16 ∧
      t.core.frt.own.length = s.core.frt.own.length +
        ((bitsOf (pktCount (s.core.rSize r)) (s.core.missing r)).filter (s.core.wasSent r)).length ∧
      t.core.rd Reg.FCS_RESEND_CNT = min (s.core.rd Reg.FCS_RESEND_CNT +
        ((bitsOf (pktCount (s.core.rSize r)) (s.core.missing r)).filter (s.core.wasSent r)).length) (2 ^ 32 - 1) ∧
      s.only [.frt, .tbl, .fcs, .free] [Reg.FCS_RESEND_CNT] t)) ∧
  (∀ (p : Packet) (rest : List Packet) (id : Nat) (s : State), s.core.frt.ctl = p :: rest → s.core.cle.failQ = [] →
    s.core.ctlKind p = .ack id →
    Completes .cmplAckRx s (fun t => t.core.rOpen id = false ∧ t.core.frt.ctl = rest ∧
      fld (t.core.cr id 1) 39 32 = byteAt p.payload 1 ∧ s.outsideStands t)) ∧
  (∀ (p : Packet) (rest : List Packet) (id : Nat) (s : State), s.core.frt.ctl = p :: rest → s.core.cle.failQ = [] →
    s.core.ctlKind p = .nack id → s.core.rTries id ≠ s.core.fd Reg.FCS_RETRY 7 4 →
    Completes .cmplNackRx s (fun t => t.core.rTries id = (s.core.rTries id + 1) % 16 ∧ t.core.frt.ctl = rest ∧
      s.only [.frt, .tbl, .fcs, .free] [Reg.FCS_RESEND_CNT] t)) ∧
  (∀ (p : Packet) (rest : List Packet) (s : State), s.core.frt.ctl = p :: rest → s.core.ctlKind p = .bad →
    Completes .ctrlMsgBad s (fun t => t.core.frt.ctl = rest ∧
      t.core.rd Reg.FCS_CTLBAD_CNT = min (s.core.rd Reg.FCS_CTLBAD_CNT + 1) (2 ^ 32 - 1) ∧
      s.only [.frt] [Reg.FCS_CTLBAD_CNT] t))

/-- CLE_CTX_ENABLE, CLE_CTX_DISABLE, CLE_START and CLE_CTX_WRITE: R121, R122, R123, R141, R142, R143, R144, R145, R434. The premise that no chunk failure waits (failQ) holds between commands. -/
def Obligations.CollectiveContexts : Prop :=
  (∀ (x : Fin 4096) (s : State), s.answers = true → s.core.fst (.ctx x) = .off →
    Core.ctxCheck x (s.core.setFst (.ctx x) .starting stOk) = stOk →
    Completes (.cleCtxEnable x) s (fun t => t.core.fst (.ctx x) = .on ∧ t.core.phase x = 1 ∧
      (∀ off ∈ [0x40, 0x48, 0x50, 0x58, 0x68, 0x70, 0x78], t.core.cc x off = 0) ∧ t.core.cc x 0x60 = 0xFFFFFFFF ∧
      t.core.fd Reg.CLE_STAT 7 0 = stOk ∧ s.only [.fns, .cle, .tbl, .site] [Reg.CLE_STAT] t)) ∧
  (∀ (x : Fin 4096) (s : State), s.answers = true → s.core.fst (.ctx x) = .on → s.core.cle.failQ = [] →
    s.core.phase x = 1 ∨ s.core.phase x = 2 →
    Completes (.cleCtxDisable x) s (fun t => t.core.fst (.ctx x) = .off ∧ t.core.phase x = 0 ∧
      t.core.cle.park = s.core.cle.park.filter (fun p => p.x != x.val) ∧
      t.core.fd Reg.CLE_STAT 7 0 = stOk ∧ s.only [.fns, .cle] [Reg.CLE_STAT] t)) ∧
  (∀ (x : Fin 4096) (s : State), s.answers = true → s.core.cle.failQ = [] → s.core.cle.park = [] →
    (s.core.rkBy Core.rkP x).isSome = false → (s.core.rkBy Core.rkQ x).isSome = false →
    s.core.startCheck x (s.core.rd Reg.CLE_START_SEQ) (s.core.fd Reg.CLE_START_PRED 11 0) = stOk →
    s.core.predOk (s.core.fd Reg.CLE_START_PRED 11 0) (s.core.rd Reg.CLE_START_PSEQ) = true →
    Completes (.cleStart x) s (fun t => t.core.phase x = 3 ∧ t.core.cSeq x = s.core.rd Reg.CLE_START_SEQ ∧
      t.core.cStep x = s.core.rd Reg.CLE_START_STEP ∧ t.core.cReleased x = 0 ∧ t.core.cChecked x = 0 ∧
      t.core.fd Reg.CLE_STAT 7 0 = stOk ∧ s.only [.fns, .cle, .tbl, .site, .xfm] [Reg.CLE_STAT] t)) ∧
  (∀ (x : Fin 4096) (e : Nat) (s : State), s.answers = true → s.core.cle.failQ = [] →
    (s.core.rkBy Core.rkP x).isSome = false → (s.core.rkBy Core.rkQ x).isSome = false →
    s.core.startCheck x (s.core.rd Reg.CLE_START_SEQ) (s.core.fd Reg.CLE_START_PRED 11 0) = stOk →
    s.core.predOk (s.core.fd Reg.CLE_START_PRED 11 0) (s.core.rd Reg.CLE_START_PSEQ) = false →
    s.core.parkSlot = some e →
    Completes (.cleStart x) s (fun t => t.core.phase x = 2 ∧
      t.core.cle.park.length = s.core.cle.park.length + 1 ∧
      (∃ p ∈ t.core.cle.park, p.e = e ∧ p.x = x.val ∧ p.seq = s.core.rd Reg.CLE_START_SEQ ∧
        p.predSeq = s.core.rd Reg.CLE_START_PSEQ) ∧
      t.core.rd Reg.CLE_PARK_CNT = min (s.core.rd Reg.CLE_PARK_CNT + 1) (2 ^ 32 - 1) ∧
      t.core.fd Reg.CLE_STAT 7 0 = stOk ∧
      s.only [.fns, .cle] [Reg.CLE_PARK_CNT, Reg.CLE_PARK_HWM, Reg.CLE_STAT] t)) ∧
  (∀ (v : Word) (s : State), s.answers = true → s.core.fd Reg.CLE_CTX_TBL 23 0 < 131072 →
    s.core.fd Reg.CLE_CTX_TBL 23 0 % 32 < 16 → s.core.isOff (.ctx (s.core.fd Reg.CLE_CTX_TBL 23 0 / 32)) = true →
    Completes (.cleCtxWrite v) s (fun t =>
      t.core.tb Reg.CLE_CTX_TBL (s.core.fd Reg.CLE_CTX_TBL 23 0) = v.toNat ∧
      t.core.fd Reg.CLE_CTX_TBL 23 0 = s.core.fd Reg.CLE_CTX_TBL 23 0 + 1 ∧ t.core.fd Reg.CLE_CTX_TBL 31 24 = stOk ∧
      s.only [.tbl] [Reg.CLE_CTX_TBL, Reg.CLE_STAT] t))

/-- CHUNK_GRANT, CHUNK_STAGED, HELD_CONTRIB_TIMEOUT, PAT_TAKE, PAT_ROUND and CHECKSUM_CHECK: R124, R125, R127, R129, R132, R135, R139, R145, R214. The premise that no chunk failure waits (failQ) and no suspect unit (suspects) holds between commands. -/
def Obligations.ChunksGrantedStagedAndReduced : Prop :=
  (∀ (x : Fin 4096) (s : State), s.core.grantable x = true →
    (s.core.takeBuffer { user := .chunkRec x (s.core.cGranted x), owner := s.core.cOwner x, size := 2, mem := 0 }).2.isSome = true →
    Completes (.chunkGrant x) s (fun t => (∃ n, 1 ≤ n ∧ n ≤ 8 ∧ t.core.cGranted x = s.core.cGranted x + n ∧
        (∀ i, i < n → t.core.rOpen (s.core.cCrBase x + (s.core.cGranted x + i) % s.core.cDepth x) = true) ∧
        (∃ p, t.core.frt.own = s.core.frt.own ++ [p] ∧ byteAt p.payload 0 = 0x10 ∧ byteAt p.payload 20 = n ∧
          hDst p.hdr = s.core.fLocalEid (s.core.cFlow x))) ∧
      s.only [.bpm, .cle, .fcs, .free, .frt, .tbl] [Reg.BPM_WAIT_CNT] t)) ∧
  (∀ (x : Fin 4096) (c m : Nat) (h : Chunk) (ptr : Nat) (s : State), s.core.chunk x c = some h → h.phase = .admitted →
    h.ready2 = true → s.core.fCmode (s.core.cFlow x) = 0 → s.core.cle.failQ = [] →
    s.core.reduces x c = true → m ∈ s.core.others x → s.core.slotGot x c m = false → s.core.partOn (s.core.slotSite x m) = false →
    (s.core.takeBuffer { user := .stage x c, owner := s.core.cOwner x, size := 2, mem := 1 }).2 = some ptr →
    Completes (.chunkStaged x c) s (fun t =>
      (∃ h', t.core.chunk x c = some h' ∧ h'.phase = .staged ∧ h'.stagePtr = some ptr ∧ h'.line = h.raw ∧ h'.buf = none ∧
        h'.csum = (if s.core.summing x then
          contribSum (s.core.wbase x) (s.core.localElems x (s.core.chunkElems x c) h h.raw) else 0)) ∧
      s.outsideStands t)) ∧
  (∀ s : State, Completes .heldContribTimeout s (fun t =>
      (∀ i ∈ t.core.cle.rx, i.held = false ∨ s.core.now < i.t + 1000000 * s.core.fd Reg.CLE_PARK 31 16) ∧
      t.core.rd Reg.CLE_STRAY_CNT = min (s.core.rd Reg.CLE_STRAY_CNT + (s.core.cle.rx.filter (fun i => i.held &&
        decide (i.t + 1000000 * s.core.fd Reg.CLE_PARK 31 16 ≤ s.core.now))).length) (2 ^ 32 - 1) ∧
      s.outsideStands t)) ∧
  (∀ (n : Fin 256) (p : Nat × Nat × Nat) (rest : List (Nat × Nat × Nat)) (h : Chunk) (s : State), s.core.churnOn n = true →
    (s.core.heldBy n).length < 2 → s.core.queueOf (n.val / 16) = p :: rest → s.core.cle.failQ = [] →
    s.core.chunk p.1 p.2.1 = some h → h.taken = true → (∀ z ∈ h.slots.cells, z.2.lack = []) →
    (∃ z ∈ h.slots.cells, z.2.final = false) →
    Completes (.patTake n none) s (fun t => t.core.queueOf (n.val / 16) = rest ∧
      (∃ h', t.core.chunk p.1 p.2.1 = some h' ∧ h'.pats = h.pats.set p.2.2 (.held n) ∧ h'.churns.contains n.val = true) ∧
      s.only [.cle] [] t)) ∧
  (∀ (n : Fin 256) (q : Nat) (p : Nat × Nat × Nat) (l : List (Nat × Nat × Nat)) (h : Chunk) (s : State),
    s.core.churnOn n = true → (s.core.heldBy n).length < 2 →
    s.core.queueOf (n.val / 16) = [] → s.core.stealFrom (n.val / 16) = some q → s.core.queueOf q = l ++ [p] →
    s.core.cle.failQ = [] → s.core.chunk p.1 p.2.1 = some h → h.taken = true → (∀ z ∈ h.slots.cells, z.2.lack = []) →
    (∃ z ∈ h.slots.cells, z.2.final = false) →
    Completes (.patTake n none) s (fun t => t.core.queueOf q = l ∧
      (∃ h', t.core.chunk p.1 p.2.1 = some h' ∧ h'.pats = h.pats.set p.2.2 (.held n) ∧ h'.churns.contains n.val = true) ∧
      t.core.rd Reg.CLE_XSTEAL_CNT = min (s.core.rd Reg.CLE_XSTEAL_CNT + 1) (2 ^ 32 - 1) ∧
      s.only [.cle] [Reg.CLE_XSTEAL_CNT] t)) ∧
  (∀ (n : Fin 256) (mem : Option MemErr) (s : State), s.core.patDue n = true → (s.memErrs mem).core.patDue n = true →
    Completes (.patTake n mem) s (fun t => exec (.patTake n none) (s.memErrs mem) = .next t)) ∧
  (∀ (n : Fin 256) (x c p ptr : Nat) (h : Chunk) (bytes : List Byte) (rs : List Rounded) (s : State), s.core.roundable n = some (x, c, p) →
    s.core.chunk x c = some h → h.resPtr = some ptr → (h.pats.set p .rounded).all (fun q => q == .rounded) = false →
    s.core.unitOn n = true → s.core.cle.failQ = [] →
    encodeElems (s.core.outFmt x) (s.core.resultVals x h (1024 * p) (min 1024 (s.core.chunkElems x c - 1024 * p))) = (bytes, rs) →
    Completes (.patRound n none) s (fun t =>
      (∃ h', t.core.chunk x c = some h' ∧ h'.pats = h.pats.set p .rounded ∧ h'.res = h.res ++ [(p, bytes)] ∧
        h'.sat = h.sat + (rs.filter (·.beyond)).length) ∧
      t.core.mrd (ptrAddr ptr + p * fmtBytes (s.core.outFmt x) 1024) bytes.length = bytes ∧ s.outsideStands t)) ∧
  (∀ (x : Fin 4096) (c : Nat) (h : Chunk) (s : State), s.core.chunk x c = some h → h.phase = .released →
    checkDiff h = 0 → h.status = stOk → s.core.cle.failQ = [] → s.core.cle.suspects = [] → s.core.rkAny x = none →
    Completes (.checksumCheck x c) s (fun t => t.core.chunk x c = none ∧
      t.core.rd Reg.CLE_CHUNK_CNT = min (s.core.rd Reg.CLE_CHUNK_CNT + 1) (2 ^ 32 - 1) ∧ s.outsideStands t))

/-- CHUNK_TIMEOUT, CHUNK_RELEASE_TIMEOUT, PARK_TIMEOUT, CTX_DRAIN_TIMEOUT and ABORT_RX: R128, R143, R144, R146, R148, R149. The premise that no chunk failure waits (failQ) holds between commands. -/
def Obligations.CollectivesThatFail : Prop :=
  (∀ (x : Fin 4096) (c : Nat) (h : Chunk) (s : State), s.core.chunk x c = some h → h.phase = .staged →
    s.core.reduces x c = true → s.core.fCmode (s.core.cFlow x) ≠ 3 → h.admT + 100000 * s.core.cTmo x ≤ s.core.now →
    (∀ m ∈ s.core.others x, s.core.slotGot x c m = true ∨ s.core.partOn (s.core.slotSite x m) = true) →
    s.core.cle.failQ = [] →
    Completes (.chunkTimeout x c) s (fun t => (∃ h', t.core.chunk x c = some h' ∧ h'.phase = .ready ∧
      h'.part = (s.core.others x).any (fun m => !s.core.slotGot x c m) ∧
      h'.pats = List.replicate (s.core.chunkPats x c) (.queued (s.core.homeOf x c))) ∧ s.only [.cle] [] t)) ∧
  (∀ (x : Fin 4096) (c m : Nat) (h : Chunk) (s : State), s.core.chunk x c = some h → h.phase = .staged →
    s.core.reduces x c = true → s.core.fCmode (s.core.cFlow x) ≠ 3 → h.admT + 100000 * s.core.cTmo x ≤ s.core.now →
    m ∈ s.core.others x → s.core.slotGot x c m = false → s.core.partOn (s.core.slotSite x m) = false →
    s.core.fst (.ctx x) = .on →
    Completes (.chunkTimeout x c) s (fun t => t.core.fst (.ctx x) = .faulted ∧ s.outsideStands t)) ∧
  (∀ (x : Fin 4096) (c : Nat) (h : Chunk) (s : State), s.core.chunk x c = some h → h.phase = .staged →
    s.core.reduces x c = false → s.core.fCmode (s.core.cFlow x) ≠ 3 → h.admT + 200000 * s.core.cTmo x ≤ s.core.now →
    s.core.partOn (s.core.slotSite x (s.core.ownerSlot x c)) = true → s.core.cle.failQ = [] → s.core.rkAny x = none →
    Completes (.chunkReleaseTimeout x c) s (fun t => t.core.chunk x c = none ∧
      t.core.rd Reg.CLE_PART_CNT = min (s.core.rd Reg.CLE_PART_CNT + 1) (2 ^ 32 - 1) ∧ s.outsideStands t)) ∧
  (∀ (x : Fin 4096) (p : Park) (s : State), s.core.cle.park.find? (fun q => q.x == x.val) = some p →
    p.t + 1000000 * s.core.fd Reg.CLE_PARK 31 16 ≤ s.core.now → s.core.fst (.ctx x) = .on →
    Completes (.parkTimeout x) s (fun t => t.core.fst (.ctx x) = .faulted ∧ t.core.cle.park.find? (fun q => q.x == x.val) = none ∧
      t.core.rd Reg.CLE_ORDER_CNT = min (s.core.rd Reg.CLE_ORDER_CNT + 1) (2 ^ 32 - 1) ∧ s.outsideStands t)) ∧
  (∀ (x : Fin 4096) (s : State), s.core.fst (.ctx x) = .draining → (s.core.fn (.ctx x)).pend = false →
    (s.core.fn (.ctx x)).since + 200000 * s.core.cTmo x ≤ s.core.now → s.core.cle.failQ = [] →
    Completes (.ctxDrainTimeout x) s (fun t => t.core.fst (.ctx x) = .off ∧ t.core.ctxChunks x = [] ∧ s.outsideStands t)) ∧
  (∀ (p : Packet) (rest : List Packet) (s : State), s.core.frt.ctl = p :: rest → s.core.ctlKind p = .abort →
    (s.core.jobCtxs (beNat (slice p.payload 2 2)) (beNat (slice p.payload 4 2))).any (fun x => s.core.cNotify x == hSrc p.hdr) = false →
    s.core.cle.failQ = [] →
    Completes .abortRx s (fun t => t.core.frt.ctl = rest ∧
      t.core.rd Reg.CLE_ABORT_RX_CNT = min (s.core.rd Reg.CLE_ABORT_RX_CNT + 1) (2 ^ 32 - 1) ∧
      s.only [.frt] [Reg.CLE_ABORT_RX_CNT] t)) ∧
  (∀ (p : Packet) (rest : List Packet) (s : State), s.core.frt.ctl = p :: rest → s.core.ctlKind p = .abort →
    (s.core.jobCtxs (beNat (slice p.payload 2 2)) (beNat (slice p.payload 4 2))).any (fun x => s.core.cNotify x == hSrc p.hdr) = true →
    s.core.cle.aborts.contains (beNat (slice p.payload 2 2), beNat (slice p.payload 4 2)) = false →
    byteAt p.payload 1 ≤ stDenied →
    Completes .abortRx s (fun t => t.core.frt.ctl = rest ∧
      t.core.rd Reg.CLE_ABORT_RX_CNT = s.core.rd Reg.CLE_ABORT_RX_CNT ∧
      (∀ x ∈ s.core.jobCtxs (beNat (slice p.payload 2 2)) (beNat (slice p.payload 4 2)), t.core.fst (.ctx x) = .faulted) ∧
      s.outsideStands t))

/-- XFM_SET_ENC, XFM_INVALIDATE, TABLE_LOAD, RANK_DESC_WRITE and GEN_HOLD_EXPIRE: R172, R184, R186, R187, R192, R193. -/
def Obligations.ClassTablesAndRankDescriptors : Prop :=
  (∀ (c : Fin 16) (b : Fin 2) (s : State), s.answers = true → (s.core.bank c b).valid = true →
    Completes (.xfmSetEnc c b) s (fun t => (t.core.bank c b).enc = true ∧ (t.core.bank c (1 - b.val)).enc = false ∧
      (t.core.bank c b).valid = true ∧ (∀ c' b', c'.val ≠ c.val → b' < 2 → t.core.bank (c' : Fin 16) b' = s.core.bank c' b') ∧
      t.core.fd Reg.XFM_STAT 7 0 = stOk ∧ s.only [.xfm] [Reg.XFM_STAT] t)) ∧
  (∀ (c : Fin 16) (b : Fin 2) (s : State), s.answers = true → s.core.bankFree c b = true →
    Completes (.xfmInvalidate c b) s (fun t => (t.core.bank c b).valid = false ∧ bitAt (t.core.bankWord0 c b) 31 = false ∧
      t.core.fd Reg.XFM_STAT 7 0 = stOk ∧ s.only [.xfm, .tbl] [Reg.XFM_STAT] t)) ∧
  (∀ (v : Word) (c : Fin 16) (b : Fin 2) (s : State), s.answers = true →
    s.core.fd Reg.XFM_CLS_TBL 23 0 = 256 * (2 * c.val + b.val) → bitAt v.toNat 31 = true →
    (s.core.bankCounts c b).sum = 2048 → fld v.toNat 5 4 ≠ 3 →
    (s.core.bank c (1 - b.val)).valid = false ∨ s.core.bankGen c (1 - b.val) ≠ fld v.toNat 3 0 →
    Completes (.tableLoad v) s (fun t => (t.core.bank c b).valid = true ∧ t.core.bankGen c b = fld v.toNat 3 0 ∧
      t.core.bankEcl c b = fld v.toNat 5 4 ∧
      ((s.core.bank c b).valid = false → (s.core.bank c (1 - b.val)).valid = false → (t.core.bank c b).enc = true) ∧
      t.core.fd Reg.XFM_CLS_TBL 23 0 = s.core.fd Reg.XFM_CLS_TBL 23 0 + 1 ∧
      s.only [.xfm, .tbl] [Reg.XFM_CLS_TBL, Reg.XFM_STAT] t)) ∧
  (∀ (v : Word) (d : Fin 64) (s : State), s.answers = true → s.core.fd Reg.XFM_RANK_TBL 23 0 = 16 * d.val →
    bitAt v.toNat 31 = true → s.core.rankCheck d v.toNat = stOk →
    Completes (.rankDescWrite v) s (fun t => t.core.rkValid d = true ∧ t.core.rkR d = fld v.toNat 23 16 ∧
      t.core.rkG d = fld v.toNat 11 0 ∧ t.core.rank d = {} ∧ s.only [.xfm, .tbl] [Reg.XFM_RANK_TBL, Reg.XFM_STAT] t)) ∧
  (∀ (c : Fin 16) (b : Fin 2) (s : State), (s.core.bank c b).held = true →
    (s.core.bank c b).lastT + 100000 * s.core.fd Reg.XFM_GEN_HOLD 15 0 ≤ s.core.now →
    Completes (.genHoldExpire c b) s (fun t => (t.core.bank c b).held = false ∧
      (t.core.bank c b).valid = (s.core.bank c b).valid ∧ (t.core.bank c b).enc = (s.core.bank c b).enc ∧
      s.only [.xfm] [] t))

/-- SKIM_BLOCK, EXPAND_BLOCK, PRESS_BLOCK and RANK_ORTHONORMALIZE: R163, R170, R175, R185, R189, R190, R191. The premise that no chunk failure waits (failQ) holds between commands. -/
def Obligations.TransformUnitsWork : Prop :=
  (∀ (u : Fin 32) (b : XBlk) (rest : List XBlk) (g : XSeg) (s : State), bitAt s.core.svc.skim u = true →
    s.core.unitOn (272 + u) = true → s.core.xfm.skimQ = b :: rest → s.core.xseg b.seg = some g →
    g.done.length + 1 < g.n → s.core.cle.failQ = [] →
    Completes (.skimBlock u none) s (fun t => t.core.xfm.skimQ = rest ∧
      (∃ g', t.core.xseg b.seg = some g' ∧ g'.done = g.done ++ [(b.idx, (s.core.skimOne b.flow b.data).2, false)]) ∧
      s.only [.xfm, .tbl, .free] [Reg.XFM_RAW_BLK_CNT, Reg.XFM_NOSYM_CNT] t)) ∧
  (∀ (u : Fin 32) (b : XBlk) (g : XSeg) (s : State), bitAt s.core.svc.expd u = true →
    s.core.unitOn (304 + u) = true → s.core.expPick u = some (b, false) → b.psn = false →
    s.core.xseg b.seg = some g → (∀ x c, g.use ≠ .gBack x c) → g.done.length + 1 < g.n → s.core.cle.failQ = [] →
    Completes (.expandBlock u none) s (fun t =>
      t.core.xfm.expQ = s.core.xfm.expQ.filter (fun q => !(q.seg == b.seg && q.idx == b.idx)) ∧
      t.core.xfm.rr.get 0 u = (b.flow + 1) % 16384 ∧
      (∃ g', t.core.xseg b.seg = some g' ∧ g'.done = g.done ++ [(b.idx, (s.core.expandOne u b.flow b.data).2)]) ∧
      s.only [.xfm, .free] [Reg.XFM_NOGEN_CNT, Reg.XFM_DECERR_CNT] t)) ∧
  (∀ (u : Fin 32) (b : XBlk) (g : XSeg) (s : State), bitAt s.core.svc.expd u = true →
    s.core.unitOn (304 + u) = true → s.core.expPick u = some (b, true) → b.psn = false →
    s.core.xseg b.seg = some g → (∀ x c, g.use ≠ .gBack x c) → g.done.length + 1 < g.n → s.core.cle.failQ = [] →
    Completes (.expandBlock u none) s (fun t =>
      t.core.xfm.expQ = s.core.xfm.expQ.filter (fun q => !(q.seg == b.seg && q.idx == b.idx)) ∧
      t.core.xfm.rr.get 0 u = (b.flow + 1) % 16384 ∧
      (∃ g', t.core.xseg b.seg = some g' ∧ g'.done = g.done ++ [(b.idx, (s.core.expandOne u b.flow b.data).2)]) ∧
      t.core.rd Reg.XFM_XSTEAL_CNT = min (s.core.rd Reg.XFM_XSTEAL_CNT + 1) (2 ^ 32 - 1) ∧
      s.only [.xfm, .free] [Reg.XFM_XSTEAL_CNT, Reg.XFM_NOGEN_CNT, Reg.XFM_DECERR_CNT] t)) ∧
  (∀ (u : Fin 16) (f x c : Nat) (b : XBlk) (g : XSeg) (h : Chunk) (s : State), bitAt s.core.svc.press u = true →
    s.core.unitOn (256 + u) = true →
    rrPick 16384 s.core.xfm.rrPress (fun g => s.core.xfm.pressQ.any (fun b => b.flow == g && s.core.pressNext b)) = some f →
    s.core.xfm.pressQ.find? (fun b => b.flow == f && s.core.pressNext b) = some b → s.core.xseg b.seg = some g →
    g.use = .contrib x c → g.done.length + 1 < g.n → s.core.chunk x c = some h → s.core.cle.failQ = [] →
    Completes (.pressBlock u none) s (fun t => t.core.xfm.rrPress = (f + 1) % 16384 ∧
      t.core.xfm.pressQ = s.core.xfm.pressQ.filter (fun q => !(q.seg == b.seg && q.idx == b.idx)) ∧
      (∃ g', t.core.xseg b.seg = some g' ∧ g'.done = g.done ++ [(b.idx, [], false)]) ∧
      (∃ h' z, t.core.chunk x c = some h' ∧ h'.rot = h.rot ++ [(b.idx, z)]) ∧ s.outsideStands t)) ∧
  (∀ (d : Fin 64) (s : State), (s.core.rank d).round = 3 →
    Completes (.rankOrthonormalize d) s (fun t => (t.core.rank d).round = 4 ∧
      (t.core.rank d).phat = (cholQr (s.core.rkR d) (s.core.rank d).p).1 ∧
      t.core.rd Reg.XFM_DEFICIENT_CNT = min (s.core.rd Reg.XFM_DEFICIENT_CNT + (cholQr (s.core.rkR d) (s.core.rank d).p).2) (2 ^ 32 - 1) ∧
      s.outsideStands t))

/-- POOL_ENABLE, POOL_DISABLE, BPM_ALLOC, BPM_FREE and BUFFER_REQUEST_SERVED: R201, R202, R203, R204, R205, R206, R207, R208, R209, R434. The premise that no chunk failure waits (failQ) holds between commands; which free buffer is lent is a free value (assumption log 3). -/
def Obligations.PoolsAndBuffers : Prop :=
  (∀ (p : Fin 64) (s : State), s.answers = true → s.core.fst (.pool p) = .off →
    Core.poolCheck p (s.core.setFst (.pool p) .starting stOk) = stOk →
    Completes (.poolEnable p) s (fun t => t.core.fst (.pool p) = .on ∧
      (∀ a, t.core.bpm.alloc.get 0 a = if (s.core.pool p).holds a then 0 else s.core.bpm.alloc.get 0 a) ∧
      t.core.fd Reg.BPM_STAT 7 0 = stOk ∧ s.only [.fns, .bpm] [Reg.BPM_STAT] t)) ∧
  (∀ (p : Fin 64) (s : State), s.answers = true → s.core.fst (.pool p) = .on → (s.core.fn (.pool p)).pend = false →
    Completes (.poolDisable p) s (fun t => t.core.fst (.pool p) = (if s.core.lent p = [] then .off else .draining) ∧
      t.core.fd Reg.BPM_STAT 7 0 = stOk ∧ s.only [.fns] [Reg.BPM_STAT] t)) ∧
  (∀ (p o : Fin 64) (s : State), s.answers = true → s.core.fst (.pool p) = .on → s.core.mayTake p o = true →
    Completes (.bpmAlloc p o) s (fun t => (∃ a ∈ s.core.freeBufs p,
        t.core.bpm.alloc = s.core.bpm.alloc.set 0 a (o.val + 1) ∧ t.core.bpm.rr = s.core.bpm.rr.set 0 p ((o.val + 1) % 64) ∧
        t.core.rd Reg.BPM_ALLOC_PTR_LO = addrPtr a % 2 ^ 32 ∧ t.core.rd Reg.BPM_ALLOC_PTR_HI = addrPtr a / 2 ^ 32 % 2 ^ 32) ∧
      t.core.fd Reg.BPM_STAT 7 0 = stOk ∧
      s.only [.bpm, .free] [Reg.BPM_ALLOC_PTR_LO, Reg.BPM_ALLOC_PTR_HI, Reg.BPM_STAT] t)) ∧
  (∀ (p o : Fin 64) (s : State), s.answers = true → s.core.fst (.pool p) = .on → s.core.mayTake p o = false →
    Completes (.bpmAlloc p o) s (fun t => t.core.fd Reg.BPM_STAT 7 0 = stBusy ∧
      t.core.rd Reg.BPM_ALLOC_BUSY_CNT = min (s.core.rd Reg.BPM_ALLOC_BUSY_CNT + 1) (2 ^ 32 - 1) ∧
      s.only [] [Reg.BPM_ALLOC_BUSY_CNT, Reg.BPM_STAT] t)) ∧
  (∀ (v : Word) (ptr : Nat) (s : State), s.answers = true →
    ptr = 2 ^ 63 * fld v.toNat 31 31 + 2 ^ 32 * fld v.toNat 5 0 + s.core.rd Reg.BPM_FREE_LO →
    s.core.ptrCheck ptr (fld v.toNat 21 16) = stOk →
    Completes (.bpmFree v) s (fun t => t.core.bpm.alloc.get 0 (ptrAddr ptr) = 0 ∧
      (∀ a, a ≠ ptrAddr ptr → t.core.bpm.alloc.get 0 a = s.core.bpm.alloc.get 0 a) ∧
      t.core.fd Reg.BPM_STAT 7 0 = stOk ∧ s.only [.bpm, .fns] [Reg.BPM_STAT] t)) ∧
  (∀ (v : Word) (ptr : Nat) (s : State), s.answers = true →
    ptr = 2 ^ 63 * fld v.toNat 31 31 + 2 ^ 32 * fld v.toNat 5 0 + s.core.rd Reg.BPM_FREE_LO →
    s.core.ptrCheck ptr (fld v.toNat 21 16) ≠ stOk →
    Completes (.bpmFree v) s (fun t => t.core.fd Reg.BPM_STAT 7 0 = s.core.ptrCheck ptr (fld v.toNat 21 16) ∧
      t.core.rd Reg.BPM_BADRET_CNT = min (s.core.rd Reg.BPM_BADRET_CNT + 1) (2 ^ 32 - 1) ∧
      s.only [] [Reg.BPM_BADRET_CNT, Reg.BPM_STAT] t)) ∧
  (∀ (o p x c : Nat) (r : BufReq) (s : State), p < 64 → (∀ q, q < p → s.core.poolPick q = none) →
    rrPick 64 (s.core.bpm.rr.get 0 p) (fun o => (s.core.waitServable p o true).isSome) = some o →
    s.core.waitServable p o true = some r → r.user = .stage x c → s.core.cle.failQ = [] →
    Completes .bufferRequestServed s (fun t =>
      t.core.bpm.waits = s.core.bpm.waits.filter (fun q => decide (q.user ≠ r.user)) ∧
      (∃ a ∈ s.core.freeBufs p, t.core.bpm.granted = s.core.bpm.granted ++ [(r.user, addrPtr a)] ∧
        t.core.bpm.alloc = s.core.bpm.alloc.set 0 a (o + 1)) ∧
      t.core.bpm.rr = s.core.bpm.rr.set 0 p ((o + 1) % 64) ∧ s.only [.bpm, .free] [] t))

/-- HBC_RETIRE, SCRUB_STEP, ROW_REMAP and HBM_CONTROLLER_FAULT: R213, R214, R215, R216, R217, R218, R482. The premise that no chunk failure waits (failQ) holds between commands. -/
def Obligations.DeepMemoryErrorsAndRetirement : Prop :=
  (∀ (k : Fin 8) (j : Fin 32) (s : State), s.answers = true → bitAt s.core.svc.stackSet k = true →
    s.core.hbc.retired.get 0 j = 0 → s.core.hbmStacks ≠ 0 → s.core.liveFlows = [] → s.core.cle.failQ = [] →
    Completes (.hbcRetire k j) s (fun t => t.core.hbc.retired.get 0 j = 4 ∧ t.core.sliceOn j = false ∧
      (∀ i, i ≠ j.val → t.core.hbc.retired.get 0 i = s.core.hbc.retired.get 0 i) ∧
      t.core.hbc.pcCause.get 0 (32 * k.val + j.val) = 4 ∧ t.core.fd Reg.HBC_STAT 7 0 = stOk ∧ s.outsideStands t)) ∧
  (∀ (k : Fin 8) (j : Fin 32) (s : State), s.answers = true → bitAt s.core.svc.stackSet k = false →
    Completes (.hbcRetire k j) s (fun t => t.core.fd Reg.HBC_STAT 7 0 = stRange ∧ s.only [] [Reg.HBC_STAT] t)) ∧
  (∀ (c bg bank row : Nat) (s : State), s.core.svc.sram ≠ 0 →
    Completes (.scrubStep true (.corrected c bg bank row)) s (fun t =>
      t.core.rd Reg.HBC_SRAM_CE_CNT = min (s.core.rd Reg.HBC_SRAM_CE_CNT + 1) (2 ^ 32 - 1) ∧
      t.core.hbc.sramPos = (if s.core.hbc.sramPos + 8 < 65536 * s.core.svc.sram then s.core.hbc.sramPos + 8 else 0) ∧
      s.only [.hbc] [Reg.HBC_SRAM_CE_CNT] t)) ∧
  (∀ (c bg bank row : Nat) (s : State), s.core.svc.sram ≠ 0 → 0x3400000 ≤ s.core.hbc.sramPos →
    Completes (.scrubStep true (.uncorrectable c bg bank row)) s (fun t =>
      t.core.rd Reg.HBC_SRAM_UE_CNT = min (s.core.rd Reg.HBC_SRAM_UE_CNT + 1) (2 ^ 32 - 1) ∧
      t.core.rd Reg.HBC_SRAM_LAST_UE = s.core.hbc.sramPos % 2 ^ 32 ∧
      t.core.psnIn s.core.hbc.sramPos 8 = true ∧
      s.only [.hbc, .psn] [Reg.HBC_SRAM_UE_CNT, Reg.HBC_SRAM_LAST_UE] t)) ∧
  (∀ (k : Fin 8) (j : Fin 32) (bg bank row : Nat) (found : List MemErr) (s r : State), s.core.remapDue k j bg bank row = true →
    r = s.rowRead k j bg bank row found → r.core.remapDue k j bg bank row = true →
    Completes (.rowRemap k j bg bank row found true) s (fun t => t.core.remapDue k j bg bank row = false ∧
      t.core.fd (Reg.HBC_S_STAT k) 23 16 = min (r.core.fd (Reg.HBC_S_STAT k) 23 16 + 1) 255 ∧
      t.nvm.remaps = r.nvm.remaps ++ [(32 * k.val + j.val, bg % 16 * 2 ^ 24 + bank % 16 * 2 ^ 20 + row % 2 ^ 20, 1)] ∧
      r.core.onlyParts [.tbl, .hbc] t.core ∧ r.core.onlyRegs [Reg.HBC_S_STAT k] t.core)) ∧
  (∀ (k : Fin 8) (j : Fin 32) (bg bank row : Nat) (found : List MemErr) (s r : State), s.core.remapDue k j bg bank row = true →
    r = s.rowRead k j bg bank row found → r.core.remapDue k j bg bank row = true →
    r.core.hbmStacks ≠ 0 → r.core.liveFlows = [] → r.core.cle.failQ = [] →
    Completes (.rowRemap k j bg bank row found false) s (fun t => t.core.hbc.retired.get 0 j = 1 ∧ t.core.sliceOn j = false ∧
      (∀ i, i ≠ j.val → t.core.hbc.retired.get 0 i = r.core.hbc.retired.get 0 i) ∧
      t.nvm.remaps = r.nvm.remaps ++ [(32 * k.val + j.val, bg % 16 * 2 ^ 24 + bank % 16 * 2 ^ 20 + row % 2 ^ 20, 0)])) ∧
  (∀ (k : Fin 8) (s : State), bitAt s.core.svc.stackSet k = true → s.core.isOn .hbc = true → s.core.cle.failQ = [] →
    Completes (.hbmControllerFault k) s (fun t => t.core.fst .hbc = .faulted ∧ t.core.hbc.allPoison = true ∧
      bitAt t.core.svc.stackSet k = false ∧ (∀ j : Fin 8, j ≠ k → bitAt t.core.svc.stackSet j = bitAt s.core.svc.stackSet j) ∧
      bitAt t.aon.boot.badStack k = true ∧ t.aon.boot.warmDue = true ∧ s.core.onlyParts [.fns, .hbc, .svc, .free] t.core ∧ s.core.onlyRegs [] t.core))

/-- KEY_LOAD, KEY_LOAD_DONE, KEY_SWITCH, KEY_RETIRE, KEY_ZEROIZE, HELD_KEY_RETIRE, REKEY_READY_RX and REKEY_RETIRED_RX: R227, R230, R231, R232, R243, R244, R245, R248. The premise that no chunk failure waits (failQ) holds between commands. -/
def Obligations.KeySlotsLoadedSwitchedRetired : Prop :=
  (∀ (i : Fin 4096) (p : Fin 2) (s : State), s.answers = true → s.core.kbusy = false →
    Completes (.keyLoad i p) s (fun t => t.core.cip.kcmd = some { slot := i, pos := p, status := stOk } ∧
      t.core.cip.slots = s.core.cip.slots ∧ t.core.fd Reg.CIP_STAT 7 0 = stOk ∧ s.only [.cip] [Reg.CIP_STAT] t)) ∧
  (∀ (i : Fin 4096) (p : Fin 2) (s : State), s.answers = true → s.core.kbusy = true →
    Completes (.keyLoad i p) s (fun t => t.core.fd Reg.CIP_STAT 7 0 = stBusy ∧ s.only [] [Reg.CIP_STAT] t)) ∧
  (∀ (c : KCmd) (b : KeyBlob) (u : State) (q : Nat) (s : State), s.core.cip.kcmd = some c →
    s.core.cip.writes.any (fun w => w.op == .load) = false → s.core.slotBusy c.slot = false →
    s.loadCheck c.slot c.pos (padTo 64 s.core.cip.blob) = (stOk, some b) → s.takeSeq = some (u, q) →
    Completes .keyLoadDone s (fun t => ((t.core.kslot c.slot).pos c.pos).loaded = true ∧
      ((t.core.kslot c.slot).pos c.pos).key = b.key ∧ ((t.core.kslot c.slot).pos c.pos).salt = b.salt ∧
      ((t.core.kslot c.slot).pos c.pos).keyId = b.keyId ∧ ((t.core.kslot c.slot).pos c.pos).loadSeq = q ∧
      ((t.core.kslot c.slot).pos c.pos).used = 0 ∧ t.nvm = u.nvm ∧
      (∀ j, j ≠ c.slot → t.core.kslot j = s.core.kslot j) ∧ t.core.cip.kcmd = none ∧ t.core.cip.blob = [] ∧
      t.core.fd Reg.CIP_STAT 7 0 = stOk ∧ s.core.onlyParts [.cip, .lgrp] t.core ∧ s.core.onlyRegs [Reg.CIP_STAT] t.core)) ∧
  (∀ (c : KCmd) (s : State), s.core.cip.kcmd = some c →
    s.core.cip.writes.any (fun w => w.op == .load) = false → s.core.slotBusy c.slot = true →
    (s.loadCheck c.slot c.pos (padTo 64 s.core.cip.blob)).1 = stOk →
    Completes .keyLoadDone s (fun t => t.core.cip = { s.core.cip with
        writes := s.core.cip.writes ++ [{ slot := c.slot, pos := c.pos, op := .load }] } ∧ s.only [.cip] [] t)) ∧
  (∀ (c : KCmd) (s : State), s.core.cip.kcmd = some c → s.core.cip.writes.any (fun w => w.op == .load) = false →
    (s.loadCheck c.slot c.pos (padTo 64 s.core.cip.blob)).2 = none →
    Completes .keyLoadDone s (fun t => t.core.cip.slots = s.core.cip.slots ∧ t.core.cip.kcmd = none ∧
      t.core.cip.blob = [] ∧ t.core.fd Reg.CIP_STAT 7 0 = (s.loadCheck c.slot c.pos (padTo 64 s.core.cip.blob)).1 ∧
      s.only [.cip] [Reg.CIP_STAT, Reg.CIP_UNWRAP_CNT] t)) ∧
  (∀ (i : Fin 4096) (p : Fin 2) (s : State), s.answers = true → s.core.kbusy = false →
    ((s.core.kslot i).pos p).loaded = true → (s.core.kslot i).txPos ≠ p.val →
    s.core.peersIn i (s.core.kslot i).ready = true → s.core.slotBusy i = true →
    Completes (.keySwitch i p) s (fun t => t.core.cip = { s.core.cip with
        writes := s.core.cip.writes ++ [{ slot := i, pos := p, op := .switch false }] } ∧
      t.core.fd Reg.CIP_STAT 7 0 = stOk ∧ s.only [.cip] [Reg.CIP_STAT] t)) ∧
  (∀ (i : Fin 4096) (p : Fin 2) (s : State), s.answers = true → s.core.kbusy = false →
    ((s.core.kslot i).pos p).loaded = true → (s.core.kslot i).txPos ≠ p.val →
    s.core.peersIn i (s.core.kslot i).ready = true → s.core.slotBusy i = false →
    Completes (.keySwitch i p) s (fun t => (t.core.kslot i).txPos = p.val ∧ (t.core.kslot i).ready = 0 ∧
      (t.core.kslot i).pos p = { (s.core.kslot i).pos p with held := false } ∧
      ((t.core.kslot i).pos (1 - p.val)).held = ((s.core.kslot i).pos (1 - p.val)).loaded ∧
      ((t.core.kslot i).pos (1 - p.val)).key = ((s.core.kslot i).pos (1 - p.val)).key ∧
      (∀ j, j ≠ i.val → t.core.kslot j = s.core.kslot j) ∧ t.core.fd Reg.CIP_STAT 7 0 = stOk ∧
      s.only [.cip] [Reg.CIP_STAT] t)) ∧
  (∀ (i : Fin 4096) (p : Fin 2) (s : State), s.answers = true → s.core.kbusy = false →
    ((s.core.kslot i).pos p).loaded = false →
    Completes (.keySwitch i p) s (fun t => t.core.fd Reg.CIP_STAT 7 0 = stSlot ∧ s.only [] [Reg.CIP_STAT] t)) ∧
  (∀ (i : Fin 4096) (p : Fin 2) (s : State), s.answers = true → s.core.kbusy = false → s.core.slotBusy i = false →
    ((s.core.kslot i).pos p).loaded = true → ((s.core.kslot i).pos p).held = false → (s.core.kslot i).txPos ≠ p.val →
    Completes (.keyRetire i p) s (fun t =>
      (t.core.kslot i).pos p = { prevId := ((s.core.kslot i).pos p).keyId } ∧
      (t.core.kslot i).pos (1 - p.val) = (s.core.kslot i).pos (1 - p.val) ∧
      (∀ j, j ≠ i.val → t.core.kslot j = s.core.kslot j) ∧ t.core.fd Reg.CIP_STAT 7 0 = stOk ∧
      s.only [.cip, .lgrp] [Reg.CIP_STAT] t)) ∧
  (∀ (i : Fin 4096) (s : State), s.answers = true → s.core.slotFlows i = [] → s.core.slotGroups i = [] →
    s.core.cle.failQ = [] →
    Completes (.keyZeroize i) s (fun t => t.core.kslot i = {} ∧ (∀ j, j ≠ i.val → t.core.kslot j = s.core.kslot j) ∧
      (∀ (n : Fin 160) (x : Run), t.core.cip.cores.get none n = some x → x.req.slot ≠ i.val) ∧
      t.core.cip.kcmd = none ∧ t.core.fd Reg.CIP_STAT 7 0 = stOk ∧ s.only [.cip, .frt, .tbl, .cle, .bpm, .fns] [Reg.CIP_STAT, Reg.BPM_BADRET_CNT] t)) ∧
  (∀ (i : Fin 4096) (p : Fin 2) (s : State), ((s.core.kslot i).pos p).loaded = true → ((s.core.kslot i).pos p).held = true →
    ((s.core.kslot i).pos p).lastArr + s.core.keyHold ≤ s.core.now → s.core.slotBusy i = false →
    Completes (.heldKeyRetire i p) s (fun t =>
      (t.core.kslot i).pos p = { prevId := ((s.core.kslot i).pos p).keyId } ∧
      (∀ j, j ≠ i.val → t.core.kslot j = s.core.kslot j) ∧ s.only [.cip, .lgrp] [] t)) ∧
  (∀ (g : Fin 8) (m : List Byte × Nat) (rest : List (List Byte × Nat)) (s : State),
    (s.core.grp g).gccIn = m :: rest → byteAt m.1 0 = 0x31 →
    Completes (.rekeyReadyRx g) s (fun t => (t.core.grp g).gccIn = rest ∧
      (∀ i ∈ s.core.slotsWhere (fun p => p.loaded && p.keyId == beNat (slice m.1 2 4)),
        (t.core.kslot i).ready = setBit (s.core.kslot i).ready (byteAt m.1 1 % 16) true) ∧
      (s.core.slotsWhere (fun p => p.loaded && p.keyId == beNat (slice m.1 2 4)) = [] →
        t.core.cip = s.core.cip ∧
        t.core.rd Reg.CIP_KMSG_CNT = min (s.core.rd Reg.CIP_KMSG_CNT + 1) (2 ^ 32 - 1)) ∧
      s.only [.cip, .lgrp] [Reg.CIP_KMSG_CNT] t)) ∧
  (∀ (g : Fin 8) (m : List Byte × Nat) (rest : List (List Byte × Nat)) (s : State),
    (s.core.grp g).gccIn = m :: rest → byteAt m.1 0 = 0x32 →
    Completes (.rekeyRetiredRx g) s (fun t => (t.core.grp g).gccIn = rest ∧
      (∀ i ∈ s.core.slotsWhere (fun p => (p.loaded && p.keyId == beNat (slice m.1 2 4)) ||
          (!p.loaded && p.prevId == beNat (slice m.1 2 4) && beNat (slice m.1 2 4) != 0)),
        (t.core.kslot i).rack = setBit (s.core.kslot i).rack (byteAt m.1 1 % 16) true) ∧
      (s.core.slotsWhere (fun p => (p.loaded && p.keyId == beNat (slice m.1 2 4)) ||
          (!p.loaded && p.prevId == beNat (slice m.1 2 4) && beNat (slice m.1 2 4) != 0)) = [] →
        t.core.cip = s.core.cip ∧
        t.core.rd Reg.CIP_KMSG_CNT = min (s.core.rd Reg.CIP_KMSG_CNT + 1) (2 ^ 32 - 1)) ∧
      s.only [.cip, .lgrp] [Reg.CIP_KMSG_CNT] t))

/-- CIPHER_DISPATCH and CIPHER_COMPLETE: R233, R234, R235, R237, R238. The premise that no chunk failure waits (failQ) and no suspect unit (suspects) holds between commands. -/
def Obligations.CipherRequests : Prop :=
  (∀ (n : Fin 160) (q : Nat) (r : Req) (rest : List Req) (s : State), bitAt s.core.svc.ciph n = true →
    s.core.cip.cores.get none n = none → rrPick 16 s.core.cip.rr s.core.queueReady = some q → s.core.reqQ q = r :: rest →
    (s.core.reqCheck r).1 = stOk → r.op ≠ 3 → s.core.cle.failQ = [] →
    Completes (.cipherDispatch n) s (fun t => t.core.reqQ q = (rest ++ s.core.cip.qwait.get [] q).take 256 ∧ t.core.cip.rr = (q + 1) % 16 ∧
      (∃ x, t.core.cip.cores.get none n = some x ∧ x.req.slot = r.slot ∧ x.req.op = r.op ∧
        (r.op = 1 → r.iv = [] →
          x.req.iv = s.core.ivOf ((s.core.kslot r.slot).pos (s.core.kslot r.slot).txPos) ∧
          x.pos = (s.core.kslot r.slot).txPos ∧
          ((t.core.kslot r.slot).pos x.pos).used = ((s.core.kslot r.slot).pos x.pos).used + 1)) ∧
      (∀ m, m ≠ n.val → t.core.cip.cores.get none m = s.core.cip.cores.get none m) ∧
      (r.op = 1 → s.only [.cip] [] t) ∧ s.only [.cip, .cle, .xfm] [] t)) ∧
  (∀ (n : Fin 160) (q : Nat) (r : Req) (rest : List Req) (s : State), bitAt s.core.svc.ciph n = true →
    s.core.cip.cores.get none n = none → rrPick 16 s.core.cip.rr s.core.queueReady = some q → s.core.reqQ q = r :: rest →
    (s.core.reqCheck r).1 ≠ stOk → r.op = 1 → s.core.cle.failQ = [] →
    Completes (.cipherDispatch n) s (fun t => t.core.reqQ q = (rest ++ s.core.cip.qwait.get [] q).take 256 ∧ t.core.cip.cores = s.core.cip.cores ∧
      t.core.rd (s.core.reqCheck r).2 = min (s.core.rd (s.core.reqCheck r).2 + 1) (2 ^ 32 - 1) ∧
      s.only [.cip, .tbl, .frt] [(s.core.reqCheck r).2] t)) ∧
  (∀ (n : Fin 160) (x : Run) (s : State), s.core.cip.cores.get none n = some x → x.req.op = 1 →
    s.core.unitOn (336 + n.val) = true → s.core.cle.failQ = [] → s.core.cle.suspects = [] → s.core.cip.writes = [] →
    Completes (.cipherComplete n none) s (fun t => t.core.cip.cores.get none n = none ∧
      (∃ i : Item, t.core.cip.hand.get [] x.req.g = s.core.cip.hand.get [] x.req.g ++ [i] ∧ i.ct = x.out ∧
        i.hdr = x.req.hdr ∧ i.ke = x.pos ∧ i.q = s.core.fQueue (shFlow x.req.hdr)) ∧
      t.core.rd Reg.CIP_INV_LO + 2 ^ 32 * t.core.rd (Reg.CIP_INV_LO + 4) =
        min (s.core.rd Reg.CIP_INV_LO + 2 ^ 32 * s.core.rd (Reg.CIP_INV_LO + 4) + 1) (2 ^ 64 - 1) ∧
      s.only [.cip] [Reg.CIP_INV_LO, Reg.CIP_INV_LO + 4] t))

/-- ITEM_HANDOVER, SCH_SELECT and SCH_DRAIN_TIMEOUT: R256, R257, R259, R260. -/
def Obligations.SchedulerHandsOverAndSelects : Prop :=
  (∀ (g : Fin 8) (i : Item) (rest : List Item) (s : State), s.core.cip.hand.get [] g = i :: rest →
    s.core.siteOk i.ver (s.core.useSite i.use) g (shFlow i.hdr) = true → s.core.groupItems g < 16384 →
    ((s.core.schg g).queue i.q).length < s.core.qLimit g i.q → s.core.fst (.group g) ≠ .draining →
    Completes (.itemHandover g) s (fun t => t.core.cip.hand.get [] g = rest ∧ t.core.cip.handWait.get 0 g = 0 ∧
      ((t.core.schg g).queue i.q).map Item.hdr = ((s.core.schg g).queue i.q).map Item.hdr ++ [i.hdr] ∧
      ((t.core.schg g).queue i.q).map Item.ct = ((s.core.schg g).queue i.q).map Item.ct ++ [i.ct] ∧
      (∀ q, q ≠ i.q → (t.core.schg g).queue q = (s.core.schg g).queue q) ∧ s.only [.cip, .sch] [] t)) ∧
  (∀ (g : Fin 8) (i : Item) (rest : List Item) (s : State), s.core.cip.hand.get [] g = i :: rest →
    s.core.siteOk i.ver (s.core.useSite i.use) g (shFlow i.hdr) = false →
    Completes (.itemHandover g) s (fun t =>
      t.core.rd Reg.FRT_SITE_DROP_CNT = min (s.core.rd Reg.FRT_SITE_DROP_CNT + 1) (2 ^ 32 - 1) ∧
      (s.core.fst (.group g) ≠ .draining → t.core.cip.hand.get [] g = rest ∧
        s.only [.cip, .frt] [Reg.FRT_SITE_DROP_CNT] t))) ∧
  (∀ (g : Fin 8) (i : Item) (rest : List Item) (s : State), s.core.cip.hand.get [] g = i :: rest →
    s.core.siteOk i.ver (s.core.useSite i.use) g (shFlow i.hdr) = true →
    16384 ≤ s.core.groupItems g ∨ s.core.qLimit g i.q ≤ ((s.core.schg g).queue i.q).length →
    s.core.cip.handWait.get 0 g ≠ 1 → s.core.fst (.group g) ≠ .draining →
    Completes (.itemHandover g) s (fun t => t.core.cip.hand = s.core.cip.hand ∧ t.core.cip.handWait.get 0 g = 1 ∧
      t.core.rd Reg.SCH_FULL_CNT = min (s.core.rd Reg.SCH_FULL_CNT + 1) (2 ^ 32 - 1) ∧
      s.only [.cip] [Reg.SCH_FULL_CNT] t)) ∧
  (∀ (g : Fin 8) (s : State), s.core.cip.hand.get [] g = [] → s.core.fst (.group g) ≠ .draining →
    Completes (.itemHandover g) s (fun t => s.only [] [] t)) ∧
  (∀ (g : Fin 8) (p : Nat × Nat) (q : Nat) (i : Item) (rest : List Item) (s : State), s.core.fst (.group g) = .on →
    (s.core.grp g).resend.all (fun r => decide (s.core.now ≤ r.t + s.core.retryEff)) = true →
    (s.core.schg g).endRow ≤ s.core.nextRow g → p = s.core.nextPlace g →
    s.core.slotClass g (slotOf (s.core.placeTime g p / 65536)) ≠ 2 ∨ (s.core.grp g).resend = [] →
    (s.core.countNoFit g (s.core.placeTime g p / 65536) (s.core.dataIn g p.1)).pickQueue g (s.core.placeTime g p / 65536)
      (s.core.dataIn g p.1) = some q →
    ((s.core.countNoFit g (s.core.placeTime g p / 65536) (s.core.dataIn g p.1)).schg g).queue q = i :: rest →
    Completes (.schSelect g) s (fun t => ((t.core.schg g).queue q).map Item.hdr = rest.map Item.hdr ∧
      (t.core.grp g).txSegs = (s.core.grp g).txSegs ++ [{ i.seg with at_ := p }] ∧
      ((t.core.schg g).endRow, (t.core.schg g).endCell) = s.core.placeAfter g 1100 p ((i.bytes + 63) / 64) ∧
      s.only [.sch, .lgrp, .shpr] [Reg.SCH_NOFIT_CNT] t)) ∧
  (∀ (g : Fin 8) (p : Nat × Nat) (s : State), s.core.fst (.group g) = .on →
    (s.core.grp g).resend.all (fun r => decide (s.core.now ≤ r.t + s.core.retryEff)) = true →
    (s.core.schg g).endRow ≤ s.core.nextRow g → p = s.core.nextPlace g →
    s.core.slotClass g (slotOf (s.core.placeTime g p / 65536)) ≠ 2 ∨ (s.core.grp g).resend = [] →
    (s.core.countNoFit g (s.core.placeTime g p / 65536) (s.core.dataIn g p.1)).pickQueue g (s.core.placeTime g p / 65536)
      (s.core.dataIn g p.1) = none →
    Completes (.schSelect g) s (fun t => (t.core.grp g).txSegs = (s.core.grp g).txSegs ∧
      s.only [.sch, .lgrp] [Reg.SCH_NOFIT_CNT] t)) ∧
  (∀ (g : Fin 8) (p : Nat × Nat) (r : Resend) (rest : List Resend) (s : State), s.core.fst (.group g) = .on →
    (s.core.grp g).resend.all (fun r => decide (s.core.now ≤ r.t + s.core.retryEff)) = true →
    (s.core.schg g).endRow ≤ s.core.nextRow g → p = s.core.nextPlace g → s.core.dataIn g p.1 ≠ 0 →
    s.core.slotClass g (slotOf (s.core.placeTime g p / 65536)) = 2 → (s.core.grp g).resend = r :: rest →
    Completes (.schSelect g) s (fun t => (t.core.grp g).resend = rest ∧
      (t.core.grp g).txSegs = (s.core.grp g).txSegs ++ [{ r.seg with resend := true, held := false, at_ := p }] ∧
      ((t.core.schg g).endRow, (t.core.schg g).endCell) = s.core.placeAfter g 1100 p ((r.seg.bytes + 63) / 64) ∧
      t.core.rd (Reg.LCD_G_RESEND_CNT g) = min (s.core.rd (Reg.LCD_G_RESEND_CNT g) + 1) (2 ^ 32 - 1) ∧
      s.only [.sch, .lgrp] [Reg.LCD_G_RESEND_CNT g] t)) ∧
  (∀ (g : Fin 8) (r : Resend) (s : State), (s.core.grp g).resend = [r] → r.t + s.core.retryEff < s.core.now →
    s.core.nextRow g < (s.core.schg g).endRow → s.core.fst (.group g) = .on →
    Completes (.schSelect g) s (fun t => (t.core.grp g).resend = [] ∧
      (t.core.grp g).gcc = (s.core.grp g).gcc ++ [padTo 24 ([0x12, 0] ++ beBytes 2 r.id ++ beBytes 4 r.gseq ++ [1])] ∧
      s.only [.lgrp] [] t)) ∧
  (∀ (g : Fin 8) (s : State), s.core.fst (.group g) = .draining → (s.core.fn (.group g)).pend = false →
    (s.core.fn (.group g)).since + 100000000 ≤ s.core.now →
    Completes (.schDrainTimeout g) s (fun t => t.core.fst (.group g) = .off ∧ (t.core.schg g).qs = {} ∧
      (t.core.grp g).txSegs = [] ∧ s.outsideStands t))

/-- GCL_ARM, GCL_DISARM, GATE_TAKEOVER, HCLEAR and QUEUE_SAMPLE: R264, R266. -/
def Obligations.GateListsAndQueueSamples : Prop :=
  (∀ (g : Fin 8) (b : Fin 2) (s : State), s.answers = true → (s.core.schg g).act.map Prod.fst ≠ some b.val →
    (s.core.schg g).armed ≠ some (1 - b.val) → s.core.gclOk g b = true → s.core.gclBase g b % 8 = 0 →
    s.core.gns + 10000 ≤ s.core.gclBase g b →
    Completes (.gclArm g b) s (fun t => t.core.schg g = { s.core.schg g with armed := some b.val } ∧
      (∀ h, h ≠ g.val → t.core.schg h = s.core.schg h) ∧ t.core.fd Reg.SCH_STAT 7 0 = stOk ∧ s.only [.sch] [Reg.SCH_STAT] t)) ∧
  (∀ (g : Fin 8) (b : Fin 2) (s : State), s.answers = true → (s.core.schg g).act.map Prod.fst = some b.val →
    Completes (.gclArm g b) s (fun t => t.core.fd Reg.SCH_STAT 7 0 = stBusy ∧ s.only [] [Reg.SCH_STAT] t)) ∧
  (∀ (g : Fin 8) (b : Fin 2) (s : State), s.answers = true →
    Completes (.gclDisarm g b) s (fun t =>
      ((s.core.schg g).armed = some b.val → t.core.schg g = { s.core.schg g with armed := none } ∧
        t.core.fd Reg.SCH_STAT 7 0 = stOk) ∧
      ((s.core.schg g).armed ≠ some b.val → t.core.schg g = s.core.schg g ∧ t.core.fd Reg.SCH_STAT 7 0 = stRange) ∧
      (∀ h, h ≠ g.val → t.core.schg h = s.core.schg h) ∧ s.only [.sch] [Reg.SCH_STAT] t)) ∧
  (∀ (g : Fin 8) (b : Nat) (s : State), (s.core.schg g).armed = some b → s.core.gclBase g b ≤ s.core.gns →
    Completes (.gateTakeover g) s (fun t =>
      t.core.schg g = { s.core.schg g with act := some (b, s.core.gclBase g b), armed := none } ∧
      (∀ h, h ≠ g.val → t.core.schg h = s.core.schg h) ∧ s.only [.sch] [] t)) ∧
  (∀ (g : Fin 8) (l : List (Nat × Nat)) (s : State), s.answers = true →
    l = (if (s.core.schg g).sampT = s.core.gns / 1000 + 1 then (s.core.schg g).samp else []) →
    Completes (.hclear g) s (fun t =>
      (∀ w, w < 16384 → w / 2048 = g.val → t.core.tb Reg.SCH_HIST_TBL w = min (l.countP (fun b => b.2 == w)) (2 ^ 32 - 1)) ∧
      (∀ w, w < 16384 → w / 2048 ≠ g.val → l.all (fun b => b.2 != w) = true →
        t.core.tb Reg.SCH_HIST_TBL w = s.core.tb Reg.SCH_HIST_TBL w) ∧
      t.core.fd Reg.SCH_STAT 7 0 = stOk ∧ s.only [.tbl] [Reg.SCH_STAT] t)) ∧
  (∀ (g : Fin 8) (q : Fin 64) (s : State), s.core.fst (.group g) ≠ .off → (s.core.schg g).sampT ≤ s.core.gns / 1000 →
    Completes .queueSample s (fun t => (t.core.schg g).sampT = s.core.gns / 1000 + 1 ∧
      t.core.tb Reg.SCH_HIST_TBL (32 * (64 * g.val + q.val) + depthBin (s.core.depth g q)) =
        min (s.core.tb Reg.SCH_HIST_TBL (32 * (64 * g.val + q.val) + depthBin (s.core.depth g q)) + 1) (2 ^ 32 - 1) ∧
      t.core.tb Reg.SCH_HIST_TBL (32 * (64 * g.val + q.val) + 16 + delayBin (s.core.headAge g q)) =
        min (s.core.tb Reg.SCH_HIST_TBL (32 * (64 * g.val + q.val) + 16 + delayBin (s.core.headAge g q)) + 1) (2 ^ 32 - 1) ∧
      s.only [.sch, .tbl] [] t))

/-- TIME_XFER_ENABLE, TIME_XFER_DISABLE, PTP_MESSAGE_RX, PPS_IN_EDGE, TOD_ARM, TT_SAMPLE, SOURCE_TIMEOUT, HOLDOVER_LIMIT and PPS_OUT_RISE: R273, R274, R275, R276, R278, R281, R295. -/
def Obligations.TimeSourcesAndStates : Prop :=
  (∀ s : State, s.answers = true → s.core.fst .timeXfer = .off →
    Completes .timeXferEnable s (fun t => t.core.fst .timeXfer = .on ∧ t.core.fd Reg.TBS_STAT 7 0 = stOk ∧
      s.only [.fns] [Reg.TBS_STAT] t)) ∧
  (∀ s : State, s.answers = true → s.core.fst .timeXfer = .on → (s.core.fn .timeXfer).pend = false →
    Completes .timeXferDisable s (fun t => t.core.fst .timeXfer = .off ∧ t.core.fd Reg.TBS_STAT 7 0 = stOk ∧
      (s.core.isLocked = true → t.core.tim.tstate = tsHoldover ∧
        t.core.rd Reg.TBS_UNLOCK_CNT = min (s.core.rd Reg.TBS_UNLOCK_CNT + 1) (2 ^ 32 - 1)) ∧
      (s.core.tim.tstate = tsAcquiring → t.core.tim.tstate = tsFree) ∧
      s.only [.fns, .tim] ([Reg.TBS_STAT, Reg.TBS_UNLOCK_CNT] ++ (List.range 16).map Reg.TBS_P_ASYM_EST) t)) ∧
  (∀ (udp : Bool) (d : Nat) (m : PtpMsg) (s : State),
    s.core.fd Reg.TBS_CFG 26 20 ≠ d ∨ bitAt (s.core.rd Reg.TBS_CFG) 19 ≠ udp →
    Completes (.ptpMessageRx d m udp) s (fun t => t = s)) ∧
  (∀ (src iv : Nat) (ds : List Nat) (udp : Bool) (s : State), s.takesTime = true → s.core.timeSrc ≠ 1 →
    bitAt (s.core.rd Reg.TBS_CFG) 19 = udp →
    Completes (.ptpMessageRx (s.core.fd Reg.TBS_CFG 26 20) (.announce src ds iv) udp) s (fun t =>
      t.core.tim.ptpPeers.map PtpPeer.src = (s.core.tim.ptpPeers.map PtpPeer.src).filter (fun p => p != src) ++ [src] ∧
      t.core.tim.ptpPeers.getLast?.map (fun p => (p.ds, p.t, p.interval)) = some (ds, s.core.now, iv) ∧
      t.core.tim.ptpMaster = t.core.tim.bestMaster s.core.now ∧ t.core.tim.glob = s.core.tim.glob ∧ s.only [.tim] [] t)) ∧
  (∀ (src t4 : Nat) (udp : Bool) (s : State), s.takesTime = true → s.core.timeSrc ≠ 1 →
    bitAt (s.core.rd Reg.TBS_CFG) 19 = udp → s.core.tim.ptpMaster = some src →
    s.core.tim.bestMaster s.core.now = some src → fld s.core.tim.ptpHave 2 0 = 7 →
    Completes (.ptpMessageRx (s.core.fd Reg.TBS_CFG 26 20) (.delayResp src t4) udp) s (fun t =>
      t.core.tim.ptpDelay = ((s.core.tim.ptpT2 : Int) - s.core.tim.ptpT1) + ((t4 : Int) - s.core.tim.ptpT3) ∧
      bitAt t.core.tim.ptpHave 3 = true ∧ s.only [.tim] [] t)) ∧
  (∀ (src origin arrival : Nat) (udp : Bool) (s : State), s.takesTime = true → s.core.timeSrc ≠ 1 →
    bitAt (s.core.rd Reg.TBS_CFG) 19 = udp → s.core.tim.ptpMaster = some src →
    s.core.tim.bestMaster s.core.now = some src → bitAt s.core.tim.ptpHave 3 = true →
    Completes (.ptpMessageRx (s.core.fd Reg.TBS_CFG 26 20) (.sync src true origin arrival) udp) s (fun t =>
      t.core.rd Reg.TBS_PTP_SYNC_CNT = min (s.core.rd Reg.TBS_PTP_SYNC_CNT + 1) (2 ^ 32 - 1) ∧
      t.core.tim.ptpOffset = (2000 * (s.core.tim.ptpDelay - 2 * ((arrival : Int) - origin))) / 262144 ∧ s.outsideStands t)) ∧
  (∀ (src origin arrival : Nat) (udp : Bool) (s : State), s.takesTime = true → s.core.timeSrc ≠ 1 →
    bitAt (s.core.rd Reg.TBS_CFG) 19 = udp → s.core.tim.ptpMaster ≠ some src → s.core.tim.bestMaster s.core.now ≠ some src →
    Completes (.ptpMessageRx (s.core.fd Reg.TBS_CFG 26 20) (.sync src true origin arrival) udp) s (fun t =>
      t.core.rd Reg.TBS_PTP_SYNC_CNT = s.core.rd Reg.TBS_PTP_SYNC_CNT ∧ s.only [.tim] [] t)) ∧
  (∀ (e : Nat) (s : State), s.takesTime = true → s.core.timeSrc = 1 → s.core.tim.ppsNext = some e →
    s.core.tim.ppsArmed = false → 65536000 < ((e : Int) * 65536 - s.core.tim.glob).natAbs →
    Completes .ppsInEdge s (fun t =>
      t.core.rd Reg.TBS_TT_DISC_CNT = min (s.core.rd Reg.TBS_TT_DISC_CNT + 1) (2 ^ 32 - 1) ∧
      s.only [] [Reg.TBS_TT_DISC_CNT] t)) ∧
  (∀ (e : Nat) (s : State), s.takesTime = true → s.core.timeSrc = 1 → s.core.tim.ppsNext = some e →
    s.core.tim.ppsArmed = true ∨ ((e : Int) * 65536 - s.core.tim.glob).natAbs ≤ 65536000 →
    Completes .ppsInEdge s (fun t => t.core.tim.ppsNext = some (e + 1000000000) ∧ t.core.tim.ppsArmed = false ∧
      s.outsideStands t)) ∧
  (∀ (v : Word) (s : State), s.answers = true → s.core.fst .timeXfer = .off →
    (s.core.rd Reg.TBS_TOD_LO + 2 ^ 32 * v.toNat) % 1000000000 = 0 →
    Completes (.todArm v) s (fun t => t.core.tim.ppsArmed = true ∧
      t.core.tim.ppsNext = some (s.core.rd Reg.TBS_TOD_LO + 2 ^ 32 * v.toNat) ∧ t.core.rd Reg.TBS_TOD_HI = v.toNat ∧
      t.core.fd Reg.TBS_STAT 7 0 = stOk ∧ s.only [.tim] [Reg.TBS_TOD_HI, Reg.TBS_STAT] t)) ∧
  (∀ (v : Word) (s : State), s.answers = true → s.core.fst .timeXfer ≠ .off →
    Completes (.todArm v) s (fun t => t.core.fd Reg.TBS_STAT 7 0 = stBusy ∧ s.only [] [Reg.TBS_STAT] t)) ∧
  (∀ (n start : Nat) (raw f : Int) (s : State), s.core.onLine = true → s.core.fst .timeXfer = .on →
    s.core.sourcePort = some n → (s.core.lp n).tt = some (raw, f, start) → (s.core.lp n).peerLevel ≠ 15 →
    s.core.inGuard n = false → (s.core.optic n).hop ≠ .window → (s.core.lp n).hopAt = 0 ∨ (s.core.lp n).hopAt < start →
    s.core.tim.srcT = 0 ∨ s.core.tim.srcT < start →
    s.core.tim.tstate = tsAcquiring ∨ s.core.isLocked = true → s.core.tim.samples.length < 15 →
    Completes .ttSample s (fun t => (t.core.lp n).tt = none ∧
      t.core.tim.samples = s.core.tim.samples ++ [8192 * signed 32 (s.core.rd (Reg.TBS_P_ASYM n)) - 125 * raw] ∧
      t.core.tim.lastLine = s.core.now ∧
      t.core.rd Reg.TBS_TT_SAMP_CNT = min (s.core.rd Reg.TBS_TT_SAMP_CNT + 1) (2 ^ 32 - 1) ∧
      s.only [.tim, .lport, .free] [Reg.TBS_P_RAW n, Reg.TBS_TT_SAMP_CNT] t)) ∧
  (∀ (n start : Nat) (raw f : Int) (s : State), s.core.onLine = true → s.core.fst .timeXfer = .on →
    s.core.sourcePort = some n → (s.core.lp n).tt = some (raw, f, start) → (s.core.lp n).peerLevel ≠ 15 →
    s.core.inGuard n = true ∨ (s.core.optic n).hop = .window ∨ ((s.core.lp n).hopAt ≠ 0 ∧ start ≤ (s.core.lp n).hopAt) ∨
      (s.core.tim.srcT ≠ 0 ∧ start ≤ s.core.tim.srcT) →
    Completes .ttSample s (fun t => (t.core.lp n).tt = none ∧
      t.core.rd Reg.TBS_TT_DISC_CNT = min (s.core.rd Reg.TBS_TT_DISC_CNT + 1) (2 ^ 32 - 1) ∧
      s.only [.lport, .free] [Reg.TBS_P_RAW n, Reg.TBS_TT_DISC_CNT] t)) ∧
  (∀ s : State,
    (s.core.tim.tstate = tsLockedLine ∧ s.core.tim.lastLine + 1342178 ≤ s.core.now) ∨
    (s.core.tim.tstate = tsLockedRef ∧
      s.core.tim.lastRef + 64 * (if s.core.timeSrc = 1 then 1000000000 else s.core.tim.syncInt) ≤ s.core.now) →
    Completes .sourceTimeout s (fun t => t.core.tim.tstate = tsHoldover ∧ t.core.tim.holdT = s.core.now ∧
      t.core.tim.level = s.core.tim.level ∧
      t.core.rd Reg.TBS_UNLOCK_CNT = min (s.core.rd Reg.TBS_UNLOCK_CNT + 1) (2 ^ 32 - 1) ∧
      s.only [.tim] ([Reg.TBS_UNLOCK_CNT] ++ (List.range 16).map Reg.TBS_P_ASYM_EST) t)) ∧
  (∀ s : State, s.core.tim.tstate = tsHoldover →
    s.core.tim.holdT + 100000000 * s.core.fd Reg.TBS_CFG 15 0 ≤ s.core.now →
    Completes .holdoverLimit s (fun t =>
      t.core.tim.tstate = (if s.core.fst .timeXfer = .on ∧ s.core.timeSrc = 2 ∧ 16 ≤ s.core.tim.goodRef ∧
        s.core.now < s.core.tim.lastRef + 64 * s.core.tim.syncInt then tsLockedRef else tsFree) ∧
      s.only [.tim] [] t)) ∧
  (∀ s : State, s.core.isLocked = true ∨ s.core.tim.tstate = tsHoldover → s.core.gns % 1000000000 < 10000 →
    s.core.tim.ppsOutT ≠ s.core.gns / 1000000000 * 1000000000 + 1 →
    Completes .ppsOutRise s (fun t => t.core.ppsHigh = true ∧ s.only [.tim] [] t)) ∧
  (∀ s : State, s.core.isLocked = false → s.core.tim.tstate ≠ tsHoldover →
    Completes .ppsOutRise s (fun t => t.core.ppsHigh = false ∧ s.only [.tim] [] t))

/-- SEGMENT_ENABLE, SEGMENT_DISABLE, SEGMENT_END and SHARD_CMD: R283, R284, R291, R434. -/
def Obligations.TimetableSegments : Prop :=
  (∀ (g : Fin 64) (s : State), s.answers = true → s.core.fst (.segment g) = .off →
    Core.segCheck g (s.core.setFst (.segment g) .starting stOk) = stOk →
    Completes (.segmentEnable g) s (fun t => t.core.fst (.segment g) = .on ∧ t.core.segRun g = {} ∧
      (∀ h : Fin 64, h ≠ g → t.core.fst (.segment h) = s.core.fst (.segment h) ∧ t.core.segRun h = s.core.segRun h) ∧
      t.core.fd Reg.TTX_STAT 7 0 = stOk ∧ s.only [.fns, .ttx] [Reg.TTX_STAT] t)) ∧
  (∀ (g : Fin 64) (s : State), s.answers = true → s.core.fst (.segment g) = .off →
    Core.segCheck g (s.core.setFst (.segment g) .starting stOk) ≠ stOk →
    Completes (.segmentEnable g) s (fun t => t.core.fst (.segment g) = .off ∧
      t.core.fd Reg.TTX_STAT 7 0 = Core.segCheck g (s.core.setFst (.segment g) .starting stOk) ∧
      s.only [.fns] [Reg.TTX_STAT] t)) ∧
  (∀ (g : Fin 64) (s : State), s.answers = true → s.core.fst (.segment g) = .on → (s.core.fn (.segment g)).pend = false →
    Completes (.segmentDisable g) s (fun t => t.core.fst (.segment g) = .off ∧
      (t.core.segRun g).cycle = s.core.segCycles g ∧ t.core.fd Reg.TTX_STAT 7 0 = stOk ∧
      (∀ h : Fin 64, h ≠ g → t.core.fst (.segment h) = s.core.fst (.segment h) ∧ t.core.segRun h = s.core.segRun h) ∧
      (∀ n, n < 16 → (s.core.optic n).hop = .noticed → s.core.segFirst g ≤ (s.core.optic n).hopTt →
        (s.core.optic n).hopTt < s.core.segFirst g + s.core.segLen g → (t.core.optic n).hop = .idle) ∧
      s.only [.fns, .ttx, .opc, .lgrp] [Reg.TTX_STAT] t)) ∧
  (∀ (g : Fin 64) (s : State), s.core.fst (.segment g) = .on →
    (s.core.segPeriod g = 0 ∧ (s.core.segRun g).cycle ≠ 0) ∨
    (s.core.segPeriod g ≠ 0 ∧ s.core.segCount g ≠ 0 ∧
      s.core.segBase g + s.core.segCount g * s.core.segPeriod g ≤ s.core.gns) →
    Completes (.segmentEnd g) s (fun t => t.core.fst (.segment g) = .off ∧ s.only [.fns] [] t)) ∧
  (∀ (b : Fin 2) (s : State), s.answers = true →
    Completes (.shardCmd b) s (fun t => t.core.ttx = { s.core.ttx with shard := some b.val } ∧
      t.core.fd Reg.TTX_STAT 7 0 = stOk ∧ s.only [.ttx] [Reg.TTX_STAT] t))

/-- TT_NOP, TT_SLOTCLASS, TT_START, TT_GATE, TT_EPOCH, TT_KEYSWITCH, TT_DECODE, TT_SHARD, TT_ASTER and TT_SITE_EPOCH: R244, R264, R286, R287, R288, R289, R390, R455. The premise that no chunk failure waits (failQ) holds between commands. -/
def Obligations.TimetableEntriesFire : Prop :=
  (∀ (e : Fin 65536) (g t0 : Nat) (s : State), s.core.fires e tyNop g t0 →
    Completes (.ttNop e) s (fun t => t.core.segRun g = (s.core.segFired g e).segRun g ∧
      t.core.ttx.recent = (t0 :: s.core.ttx.recent).take 64 ∧ s.only [.ttx] [Reg.TTX_LATE_CNT] t)) ∧
  (∀ (e : Fin 65536) (g t0 : Nat) (s : State), s.core.fires e tySlotclass g t0 →
    s.core.isOn (.group (s.core.entArg e 46 44)) = true →
    bitAt (s.core.tb Reg.TTX_PAT_TBL (8 * s.core.entArg e 43 40 + 4)) 31 = true →
    Completes (.ttSlotclass e) s (fun t => t.core.rd Reg.TTX_FIRED_CNT = min (s.core.rd Reg.TTX_FIRED_CNT + 1) (2 ^ 32 - 1) ∧
      t.core.segRun g = (s.core.segFired g e).segRun g ∧
      (t.core.curPat (s.core.entArg e 46 44)).cur = s.core.entArg e 43 40 ∧
      (t.core.curPat (s.core.entArg e 46 44)).base = (25 * t0 + 32767) / 32768 ∧
      s.only [.ttx] [Reg.TTX_LATE_CNT, Reg.TTX_FIRED_CNT] t)) ∧
  (∀ (e : Fin 65536) (g t0 : Nat) (s : State), s.core.fires e tySlotclass g t0 →
    s.core.isOn (.group (s.core.entArg e 46 44)) = false ∨
      bitAt (s.core.tb Reg.TTX_PAT_TBL (8 * s.core.entArg e 43 40 + 4)) 31 = false →
    Completes (.ttSlotclass e) s (fun t => t.core.rd Reg.TTX_REFUSED_CNT = min (s.core.rd Reg.TTX_REFUSED_CNT + 1) (2 ^ 32 - 1) ∧
      t.core.segRun g = (s.core.segFired g e).segRun g ∧ t.core.ttx.pats = s.core.ttx.pats ∧
      s.only [.ttx] [Reg.TTX_LATE_CNT, Reg.TTX_REFUSED_CNT] t)) ∧
  (∀ (e : Fin 65536) (g t0 x q : Nat) (s : State), s.core.fires e tyStart g t0 → x = s.core.entArg e 51 40 →
    q = (fld (s.core.entB e) 63 32 + (s.core.segRun g).cycle * s.core.segStride g) % 2 ^ 32 →
    s.core.cle.failQ = [] → s.core.cle.park = [] → (s.core.rkBy Core.rkP x).isSome = false →
    (s.core.rkBy Core.rkQ x).isSome = false → s.core.startCheck x q (fld (s.core.entB e) 31 20) = stOk →
    s.core.predOk (fld (s.core.entB e) 31 20) ((q + 2 ^ 32 - fld (s.core.entB e) 19 8) % 2 ^ 32) = true →
    Completes (.ttStart e) s (fun t => t.core.rd Reg.TTX_FIRED_CNT = min (s.core.rd Reg.TTX_FIRED_CNT + 1) (2 ^ 32 - 1) ∧
      t.core.segRun g = (s.core.segFired g e).segRun g ∧ t.core.phase x = 3 ∧ t.core.cSeq x = q ∧
      t.core.cStep x = (s.core.segStep0 g + (s.core.segRun g).cycle) % 2 ^ 32 ∧ s.outsideStands t)) ∧
  (∀ (e : Fin 65536) (g t0 h b : Nat) (s : State), s.core.fires e tyGate g t0 → h = s.core.entArg e 42 40 →
    b = s.core.entArg e 43 43 → (s.core.schg h).act.map Prod.fst ≠ some b → s.core.gclOk h b = true →
    Completes (.ttGate e) s (fun t => t.core.rd Reg.TTX_FIRED_CNT = min (s.core.rd Reg.TTX_FIRED_CNT + 1) (2 ^ 32 - 1) ∧
      t.core.segRun g = (s.core.segFired g e).segRun g ∧ (t.core.schg h).act = some (b, t0) ∧
      s.only [.ttx, .sch] [Reg.TTX_LATE_CNT, Reg.TTX_FIRED_CNT] t)) ∧
  (∀ (e : Fin 65536) (g t0 v : Nat) (s : State), s.core.fires e tyEpoch g t0 → v = s.core.entArg e 40 40 →
    bitAt s.core.frt.ep.wopen v = false →
    Completes (.ttEpoch e) s (fun t => t.core.rd Reg.TTX_FIRED_CNT = min (s.core.rd Reg.TTX_FIRED_CNT + 1) (2 ^ 32 - 1) ∧
      t.core.segRun g = (s.core.segFired g e).segRun g ∧ t.core.frt.ep.cur = v ∧
      s.only [.ttx, .frt] [Reg.TTX_LATE_CNT, Reg.TTX_FIRED_CNT] t)) ∧
  (∀ (e : Fin 65536) (g t0 v : Nat) (s : State), s.core.fires e tyEpoch g t0 → v = s.core.entArg e 40 40 →
    bitAt s.core.frt.ep.wopen v = true → v ≠ s.core.frt.ep.cur →
    Completes (.ttEpoch e) s (fun t => t.core.rd Reg.TTX_REFUSED_CNT = min (s.core.rd Reg.TTX_REFUSED_CNT + 1) (2 ^ 32 - 1) ∧
      t.core.segRun g = (s.core.segFired g e).segRun g ∧ t.core.frt.ep.cur = s.core.frt.ep.cur ∧
      s.only [.ttx] [Reg.TTX_LATE_CNT, Reg.TTX_REFUSED_CNT] t)) ∧
  (∀ (e : Fin 65536) (g t0 i p : Nat) (s : State), s.core.fires e tyKeyswitch g t0 → i = s.core.entArg e 51 40 →
    p = s.core.entArg e 52 52 → ((s.core.kslot i).pos p).loaded = true → (s.core.kslot i).txPos ≠ p →
    s.core.peersIn i (s.core.kslot i).ready = true → s.core.slotBusy i = false →
    Completes (.ttKeyswitch e) s (fun t => t.core.rd Reg.TTX_FIRED_CNT = min (s.core.rd Reg.TTX_FIRED_CNT + 1) (2 ^ 32 - 1) ∧
      t.core.segRun g = (s.core.segFired g e).segRun g ∧ (t.core.kslot i).txPos = p ∧ (t.core.kslot i).ready = 0 ∧
      ((t.core.kslot i).pos (1 - p)).held = ((s.core.kslot i).pos (1 - p)).loaded ∧
      s.only [.ttx, .cip] [Reg.TTX_LATE_CNT, Reg.TTX_FIRED_CNT] t)) ∧
  (∀ (e : Fin 65536) (g t0 i p : Nat) (s : State), s.core.fires e tyKeyswitch g t0 → i = s.core.entArg e 51 40 →
    p = s.core.entArg e 52 52 → ((s.core.kslot i).pos p).loaded = true → (s.core.kslot i).txPos ≠ p →
    s.core.peersIn i (s.core.kslot i).ready = false →
    Completes (.ttKeyswitch e) s (fun t => t.core.rd Reg.TTX_REFUSED_CNT = min (s.core.rd Reg.TTX_REFUSED_CNT + 1) (2 ^ 32 - 1) ∧
      t.core.segRun g = (s.core.segFired g e).segRun g ∧ (t.core.kslot i).txPos = (s.core.kslot i).txPos ∧
      s.only [.ttx] [Reg.TTX_LATE_CNT, Reg.TTX_REFUSED_CNT] t)) ∧
  (∀ (e : Fin 65536) (g t0 c b : Nat) (s : State), s.core.fires e tyDecode g t0 → c = s.core.entArg e 43 40 →
    b = s.core.entArg e 44 44 → (s.core.bank c b).valid = true →
    Completes (.ttDecode e) s (fun t => t.core.rd Reg.TTX_FIRED_CNT = min (s.core.rd Reg.TTX_FIRED_CNT + 1) (2 ^ 32 - 1) ∧
      t.core.segRun g = (s.core.segFired g e).segRun g ∧ (t.core.bank c b).enc = true ∧ (t.core.bank c (1 - b)).enc = false ∧
      s.only [.ttx, .xfm] [Reg.TTX_LATE_CNT, Reg.TTX_FIRED_CNT] t)) ∧
  (∀ (e : Fin 65536) (g t0 : Nat) (s : State), s.core.fires e tyShard g t0 →
    Completes (.ttShard e) s (fun t => t.core.rd Reg.TTX_FIRED_CNT = min (s.core.rd Reg.TTX_FIRED_CNT + 1) (2 ^ 32 - 1) ∧
      t.core.segRun g = (s.core.segFired g e).segRun g ∧ t.core.ttx.shard = some (s.core.entArg e 40 40) ∧
      s.only [.ttx] [Reg.TTX_LATE_CNT, Reg.TTX_FIRED_CNT] t)) ∧
  (∀ (e : Fin 65536) (g t0 : Nat) (s : State), s.core.fires e tyAster g t0 → s.core.mgt.asterT = none →
    Completes (.ttAster e) s (fun t => t.core.rd Reg.TTX_FIRED_CNT = min (s.core.rd Reg.TTX_FIRED_CNT + 1) (2 ^ 32 - 1) ∧
      t.core.segRun g = (s.core.segFired g e).segRun g ∧ t.core.mgt.asterT = some t0 ∧
      s.only [.ttx, .mgt] [Reg.TTX_LATE_CNT, Reg.TTX_FIRED_CNT] t)) ∧
  (∀ (e : Fin 65536) (g t0 v : Nat) (s : State), s.core.fires e tySiteEpoch g t0 → v = s.core.entArg e 40 40 →
    bitAt s.core.frt.sep.wopen v = false →
    Completes (.ttSiteEpoch e) s (fun t => t.core.rd Reg.TTX_FIRED_CNT = min (s.core.rd Reg.TTX_FIRED_CNT + 1) (2 ^ 32 - 1) ∧
      t.core.segRun g = (s.core.segFired g e).segRun g ∧ t.core.frt.sep.cur = v ∧
      s.only [.ttx, .frt] [Reg.TTX_LATE_CNT, Reg.TTX_FIRED_CNT] t))

/-- HOP_NOTICE, HOP_READBACK, TT_HOP, HOP_GUARD_END, HOP_STROBE_FALL and HOP_WINDOW_END: R370, R371, R372, R373. -/
def Obligations.WavelengthHops : Prop :=
  (∀ (e : Fin 65536) (g t0 n i : Nat) (s : State), s.core.entTime e = some (g, t0) → s.core.entType e = tyHop →
    s.core.ttx.hops.get 0 e = 0 → t0 ≤ s.core.gns + 10000008 → n = s.core.entArg e 43 40 → i = s.core.entArg e 51 44 →
    (s.core.optic n).hop = .idle → s.core.hopCheck n i t0 = stOk →
    Completes (.hopNotice e) s (fun t => (t.core.optic n).hop = .noticed ∧ (t.core.optic n).hopT = hopStart t0 ∧
      (t.core.optic n).nextIdx = i ∧ (t.core.optic n).hopRead = false ∧ t.core.ttx.hops.get 0 e = 1 ∧
      s.only [.ttx, .opc, .lgrp] [] t)) ∧
  (∀ (e : Fin 65536) (g t0 n i st : Nat) (s : State), s.core.entTime e = some (g, t0) → s.core.entType e = tyHop →
    s.core.ttx.hops.get 0 e = 0 → t0 ≤ s.core.gns + 10000008 → n = s.core.entArg e 43 40 → i = s.core.entArg e 51 44 →
    st = (if (s.core.optic n).hop = .idle then s.core.hopCheck n i t0 else stBusy) → st ≠ stOk →
    Completes (.hopNotice e) s (fun t => t.core.ttx.hops.get 0 e = st + 2 ∧ t.core.opc = s.core.opc ∧
      t.core.rd Reg.TTX_REFUSED_CNT = min (s.core.rd Reg.TTX_REFUSED_CNT + 1) (2 ^ 32 - 1) ∧
      s.only [.ttx] [Reg.TTX_REFUSED_CNT] t)) ∧
  (∀ (n : Fin 16) (idx g t0 : Nat) (s : State), (s.core.optic n).hop = .noticed → (s.core.optic n).hopRead = false →
    s.core.entTime (s.core.optic n).hopTt = some (g, t0) → t0 ≤ s.core.gns + 1000008 → idx = (s.core.optic n).nextIdx →
    Completes (.hopReadback n idx) s (fun t => t.core.optic n = { s.core.optic n with hopRead := true } ∧
      (∀ m, m ≠ n.val → t.core.optic m = s.core.optic m) ∧ s.only [.opc] [] t)) ∧
  (∀ (n : Fin 16) (idx g t0 : Nat) (s : State), (s.core.optic n).hop = .noticed → (s.core.optic n).hopRead = false →
    s.core.entTime (s.core.optic n).hopTt = some (g, t0) → t0 ≤ s.core.gns + 1000008 → idx ≠ (s.core.optic n).nextIdx →
    Completes (.hopReadback n idx) s (fun t => (t.core.optic n).hop = .idle ∧
      t.core.ttx.hops.get 0 (s.core.optic n).hopTt = stTimeout + 2 ∧
      t.core.rd Reg.TTX_REFUSED_CNT = min (s.core.rd Reg.TTX_REFUSED_CNT + 1) (2 ^ 32 - 1) ∧
      (∀ m, m ≠ n.val → t.core.optic m = s.core.optic m) ∧ s.only [.ttx, .opc, .lgrp] [Reg.TTX_REFUSED_CNT] t)) ∧
  (∀ (e : Fin 65536) (g t0 n : Nat) (s : State), s.core.fires e tyHop g t0 → n = s.core.entArg e 43 40 →
    s.core.ttx.hops.get 0 e = 1 → (s.core.optic n).hop = .noticed → (s.core.optic n).hopTt = e.val →
    s.core.opc.lsafe = false → (s.core.optic n).hopRead = true →
    Completes (.ttHop e) s (fun t =>
      (t.core.optic n).hop = (if (s.core.optic n).hopT ≤ s.core.gns then .guard else .armed) ∧
      ((s.core.optic n).hopT ≤ s.core.gns → (t.core.optic n).strobe = true) ∧
      t.core.ttx.hops.get 0 e = 0 ∧ t.core.segRun g = (s.core.segFired g e).segRun g ∧
      t.core.rd Reg.TTX_FIRED_CNT = min (s.core.rd Reg.TTX_FIRED_CNT + 1) (2 ^ 32 - 1) ∧
      s.only [.ttx, .opc, .lport] [Reg.TTX_LATE_CNT, Reg.TTX_FIRED_CNT] t)) ∧
  (∀ (n : Fin 16) (s : State), (s.core.optic n).hop = .guard → (s.core.optic n).hopT + 3933 ≤ s.core.gns →
    Completes (.hopGuardEnd n) s (fun t =>
      t.core.rd (Reg.LFR_P_CFG n) = args [(31, 31, 1), (30, 28, s.core.hopGroup n (s.core.optic n).hopEntry),
        (27, 24, s.core.hopPos n (s.core.optic n).hopEntry)] ∧
      (t.core.optic n).hop = (if (s.core.optic n).strobe then .dark else .window) ∧
      (t.core.optic n).chan = (s.core.optic n).hopEntry ∧ (t.core.optic n).hist = [] ∧ s.outsideStands t)) ∧
  (∀ (n : Fin 16) (s : State), (s.core.optic n).strobe = true →
    (s.core.optic n).hopT + 100 ≤ s.core.gns → ((s.core.optic n).hopT + (s.core.optic n).hopDold) / 8 * 8 ≤ s.core.gns →
    Completes (.hopStrobeFall n) s (fun t => (t.core.optic n).strobe = false ∧
      (t.core.optic n).hop = (if (s.core.optic n).hop = .dark then .window else (s.core.optic n).hop) ∧
      (t.core.optic n).hopOld = none ∧ s.outsideStands t)) ∧
  (∀ (n : Fin 16) (s : State), (s.core.optic n).hop = .window →
    (s.core.optic n).hopT + s.core.hopNom n (s.core.optic n).hopEntry + 3933 ≤ s.core.gns →
    Completes (.hopWindowEnd n) s (fun t => (t.core.optic n).hop = .idle ∧ (t.core.optic n).strobe = false ∧
      t.core.rd Reg.OPC_HOP_CNT = min (s.core.rd Reg.OPC_HOP_CNT + 1) (2 ^ 32 - 1) ∧
      t.core.rd Reg.OPC_HOPFAIL_CNT = (if (s.core.lp n).al.inIf = true ∧
          (s.core.optic n).hopIfT ≤ (s.core.optic n).hopT + s.core.hopNom n (s.core.optic n).hopEntry + 3000
        then s.core.rd Reg.OPC_HOPFAIL_CNT else min (s.core.rd Reg.OPC_HOPFAIL_CNT + 1) (2 ^ 32 - 1)) ∧
      s.outsideStands t))

/-- LINE_PORT_ENABLE, LINE_PORT_DISABLE, LINE_PORT_ON, LINE_TRAIN_TIMEOUT and LANE_MARKER_RX: R328, R334, R336, R337, R434. -/
def Obligations.LinePortsTrainAndLock : Prop :=
  (∀ (n : Fin 16) (s : State), s.answers = true → bitAt s.core.svc.line n = true →
    s.core.pAssigned n = false ∨ s.core.trnNames n = false → s.core.fst (.linePort n) = .off →
    Completes (.linePortEnable n) s (fun t => t.core.fst (.linePort n) = .starting ∧ (t.core.lp n).lanes = {} ∧
      (t.core.lp n).tries = 0 ∧ (t.core.lp n).al = {} ∧ (t.core.optic n).txdis = s.core.opc.lsafe ∧
      t.core.rd (Reg.LFR_P_CTRL n) = 1 ∧ t.core.rd (Reg.TBS_P_DELAY n) = 0 ∧ t.core.fd (Reg.LFR_P_STAT n) 7 0 = stOk ∧
      (∀ m : Fin 16, m ≠ n → t.core.fst (.linePort m) = s.core.fst (.linePort m) ∧ t.core.lp m = s.core.lp m) ∧
      s.only [.fns, .lport, .opc, .tim] [Reg.LFR_P_CTRL n, Reg.TBS_P_DELAY n, Reg.TBS_P_ASYM_EST n, Reg.LFR_P_STAT n] t)) ∧
  (∀ (n : Fin 16) (s : State), s.answers = true → bitAt s.core.svc.line n = false →
    Completes (.linePortEnable n) s (fun t => t.core.fd (Reg.LFR_P_STAT n) 7 0 = stRange ∧
      s.only [] [Reg.LFR_P_STAT n] t)) ∧
  (∀ (n : Fin 16) (s : State), s.answers = true → s.core.fst (.linePort n) = .on →
    (s.core.fn (.linePort n)).pend = false →
    Completes (.linePortDisable n) s (fun t => t.core.fst (.linePort n) = .off ∧ t.core.rd (Reg.LFR_P_CTRL n) = 0 ∧
      (t.core.lp n).lanes = {} ∧ t.core.fd (Reg.LFR_P_STAT n) 7 0 = stOk ∧ s.outsideStands t)) ∧
  (∀ (n : Fin 16) (s : State), s.core.fst (.linePort n) = .starting → s.core.lanesLocked n = true →
    Completes (.linePortOn n) s (fun t => t.core.fst (.linePort n) = .on ∧ (t.core.lp n).al = {} ∧
      (t.core.lp n).alT = s.core.now ∧ s.outsideStands t)) ∧
  (∀ (n : Fin 16) (s : State), s.core.fst (.linePort n) = .starting →
    (s.core.fn (.linePort n)).since + 50000000 ≤ s.core.now →
    Completes (.lineTrainTimeout n) s (fun t =>
      ((s.core.lp n).tries < 2 → t.core.fst (.linePort n) = .starting ∧ (t.core.lp n).tries = (s.core.lp n).tries + 1 ∧
        (t.core.lp n).lanes = {} ∧ (t.core.fn (.linePort n)).since = s.core.now) ∧
      (2 ≤ (s.core.lp n).tries → t.core.fst (.linePort n) = .faulted) ∧ s.outsideStands t)) ∧
  (∀ (n : Fin 16) (l : Fin 8) (m : List Byte) (s : State), s.core.fst (.linePort n) ≠ .off →
    s.core.fst (.linePort n) ≠ .faulted → ((s.core.lp n).lanes.get {} l).lock = false →
    ((s.core.lp n).lanes.get {} l).good = 1 → ((s.core.lp n).lanes.get {} l).t + 20965 ≤ s.core.now →
    s.core.now ≤ ((s.core.lp n).lanes.get {} l).t + 20975 →
    s.core.markerMf n l m = some ((((s.core.lp n).lanes.get {} l).mf + 1) % 2 ^ 32) →
    Completes (.laneMarkerRx n l (some m)) s (fun t => ((t.core.lp n).lanes.get {} l).lock = true ∧
      (∀ j, j ≠ l.val → (t.core.lp n).lanes.get {} j = (s.core.lp n).lanes.get {} j) ∧ s.only [.lport] [] t)) ∧
  (∀ (n : Fin 16) (l : Fin 8) (s : State), s.core.fst (.linePort n) ≠ .off → s.core.fst (.linePort n) ≠ .faulted →
    ((s.core.lp n).lanes.get {} l).lock = true → 2 ≤ ((s.core.lp n).lanes.get {} l).miss →
    Completes (.laneMarkerRx n l none) s (fun t => (t.core.lp n).lanes.get {} l = {} ∧
      (∀ j, j ≠ l.val → (t.core.lp n).lanes.get {} j = (s.core.lp n).lanes.get {} j) ∧ s.only [.lport] [] t))

/-- FRAME_TX and FRAME_RX: R301, R303, R304, R305, R311, R312. -/
def Obligations.FramesSentAndReceived : Prop :=
  (∀ (n : Fin 16) (s : State), s.core.fst (.linePort n) = .on → (s.core.lp n).txNext ≤ s.core.frame →
    s.core.trnTo n = none → s.core.pAssigned n = false ∨ s.core.fst (.group (s.core.pGroup n)) = .on →
    Completes (.frameTx n) s (fun t => (t.core.lp n).txNext = s.core.frame + 1 ∧ (t.core.lp n).txLast.take 6 = faw ∧
      (t.core.lp n).txAis = false ∧ (t.core.lp n).txBip = frameBip (t.core.lp n).txLast ∧
      (t.core.lp n).codOut.length = 8 ∧ s.outsideStands t)) ∧
  (∀ (n : Fin 16) (s : State), s.core.fst (.linePort n) = .on → (s.core.lp n).txNext ≤ s.core.frame →
    s.core.trnTo n = none → s.core.pAssigned n = true → s.core.fst (.group (s.core.pGroup n)) = .faulted →
    Completes (.frameTx n) s (fun t => (t.core.lp n).txNext = s.core.frame + 1 ∧ (t.core.lp n).txAis = true ∧
      (t.core.lp n).txLast = scrambleFrame (aisFrame s.core.frame) ∧ (t.core.lp n).codOut.length = 8 ∧
      s.only [.lport, .free] [] t)) ∧
  (∀ (n : Fin 16) (data : List Byte) (fec : List CwErr) (s : State), s.core.pLive n = false →
    Completes (.frameRx n data fec) s (fun t => s.only [] [] t)) ∧
  (∀ (n : Fin 16) (data : List Byte) (s : State), s.core.pLive n = true → s.core.deskewed n = true →
    (s.core.lp n).al.inIf = true → (s.core.lp n).al.buf.length + data.length < 8192 →
    Completes (.frameRx n data []) s (fun t => (t.core.lp n).al.buf = (s.core.lp n).al.buf ++ data ∧
      (t.core.lp n).al.n = (s.core.lp n).al.n + data.length ∧ (t.core.lp n).al.inIf = true ∧ s.outsideStands t)) ∧
  (∀ (n : Fin 16) (data : List Byte) (s : State), s.core.pLive n = true → s.core.deskewed n = true →
    (s.core.lp n).al.inIf = false →
    fawMatches ((s.core.lp n).al.n - (s.core.lp n).al.win.length) ((s.core.lp n).al.win ++ data) = [] →
    Completes (.frameRx n data []) s (fun t => (t.core.lp n).al.inIf = false ∧
      (t.core.lp n).al.n = (s.core.lp n).al.n + data.length ∧ s.outsideStands t)) ∧
  (∀ (n : Fin 16) (data f : List Byte) (s : State), s.core.pLive n = true → s.core.deskewed n = true →
    (s.core.lp n).al.inIf = true → 8192 ≤ (s.core.lp n).al.buf.length + data.length →
    f = ((s.core.lp n).al.buf ++ data).take 8192 → bitDiff (f.take 6) faw ≤ 3 →
    Completes (.frameRx n data []) s (fun t => (t.core.lp n).gid = beNat (slice (scrambleFrame f) 8 2) ∧
      (t.core.lp n).member = beNat (slice (scrambleFrame f) 10 2) / 4096 ∧
      (t.core.lp n).winFrames = (s.core.lp n).winFrames + 1 ∧
      (t.core.lp n).rxAt = (if (s.core.lp n).al.buf = [] then s.core.tim.glob else (s.core.lp n).al.bufT) ∧
      (t.core.lp n).al.inIf = true ∧ (t.core.lp n).al.buf = ((s.core.lp n).al.buf ++ data).drop 8192 ∧ s.outsideStands t))

/-- RAW_DEFECT_SET, RAW_DEFECT_CLEAR, SDSF_WINDOW_END, DEFECT_DECLARED, DEFECT_CLEARED and PM_SECOND: R314, R316, R319. -/
def Obligations.LineDefectsAndPerformance : Prop :=
  (∀ (n : Fin 16) (d : Fin 8) (s : State), s.core.pLive n = true → 3 ≤ d.val ∨ s.core.hopSusp n = false →
    s.core.setDue n d = true →
    Completes (.rawDefectSet n d) s (fun t => bitAt (t.core.lp n).raw d = true ∧
      (∀ e : Fin 8, e ≠ d → bitAt (t.core.lp n).raw e = bitAt (s.core.lp n).raw e) ∧ s.outsideStands t)) ∧
  (∀ (n : Fin 16) (d : Fin 8) (s : State), s.core.pLive n = true → 3 ≤ d.val ∨ s.core.hopSusp n = false →
    s.core.clearDue n d = true →
    Completes (.rawDefectClear n d) s (fun t => bitAt (t.core.lp n).raw d = false ∧
      (∀ e : Fin 8, e ≠ d → bitAt (t.core.lp n).raw e = bitAt (s.core.lp n).raw e) ∧ s.outsideStands t)) ∧
  (∀ (n : Fin 16) (s : State), 2 ^ 20 ≤ (s.core.lp n).winFrames →
    Completes (.sdsfWindowEnd n) s (fun t =>
      bitAt (t.core.lp n).raw 6 = decide (s.core.fd (Reg.LFR_P_SDSF n) 15 0 ≤ (s.core.lp n).winErr) ∧
      bitAt (t.core.lp n).raw 7 = decide (s.core.fd (Reg.LFR_P_SDSF n) 31 16 ≤ (s.core.lp n).winErr) ∧
      (t.core.lp n).winErr = 0 ∧ (t.core.lp n).winFrames = (s.core.lp n).winFrames - 2 ^ 20 ∧ s.outsideStands t)) ∧
  (∀ (u : Fin 24) (d : Fin 10) (i : Nat) (set : Bool) (c : Instr) (s : State), c = (if set then .defectDeclared u d else .defectCleared u d) →
    u.val < 16 → d.val < 8 → bitAt (if set then (s.core.lp u).eff else (s.core.lp u).full) d = set →
    bitAt (s.core.lp u).decl d ≠ set → i = (if set then d.val else 8 + d.val) →
    (s.core.lp u).rawT.get 0 i + (s.core.lp u).rawLim.get 0 i ≤ s.core.now →
    set = false ∨ s.core.mayDeclare u = true → set = false ∨ 3 ≤ d.val ∨ s.core.hopSusp u = false →
    Completes c s (fun t => bitAt (t.core.lp u).decl d = set ∧
      (∀ e : Fin 10, e ≠ d → bitAt (t.core.lp u).decl e = bitAt (s.core.lp u).decl e) ∧ s.only [.lport] [] t)) ∧
  (∀ (g : Fin 8) (i : Fin 2) (u : Fin 24) (d : Fin 10) (set : Bool) (c : Instr) (s : State), u.val = 16 + g.val →
    d.val = 8 + i.val → c = (if set then .defectDeclared u d else .defectCleared u d) → s.core.gLive g = true →
    bitAt (s.core.grp g).sigRaw i = set → bitAt (s.core.grp g).sigDecl i ≠ set →
    (s.core.grp g).sigT.get 0 i + (s.core.grp g).sigLim.get 0 i ≤ s.core.now →
    Completes c s (fun t => bitAt (t.core.grp g).sigDecl i = set ∧ s.only [.lgrp] [] t)) ∧
  (∀ (n : Fin 16) (e : Bool × Bool × Nat × Bool) (l : List (Bool × Bool × Nat × Bool)) (s : State),
    s.core.pLive n = true → (s.core.lp n).secDone ≤ s.core.gns / 1000000000 → s.core.gns / 1000000000 ≠ 0 →
    (s.core.lp n).neHist = e :: l → l.length = 9 →
    Completes (.pmSecond n) s (fun t => (t.core.lp n).secDone = s.core.gns / 1000000000 + 1 ∧
      (t.core.lp n).secErr = 0 ∧ (t.core.lp n).neHist.length = 10 ∧
      t.core.rd (Reg.LFR_P_NE_UAS n) =
        (if e.2.2.2 then min (s.core.rd (Reg.LFR_P_NE_UAS n) + 1) (2 ^ 32 - 1) else s.core.rd (Reg.LFR_P_NE_UAS n)) ∧
      t.core.rd (Reg.LFR_P_NE_ES n) = (if e.1 && !e.2.2.2 then min (s.core.rd (Reg.LFR_P_NE_ES n) + 1) (2 ^ 32 - 1)
        else s.core.rd (Reg.LFR_P_NE_ES n)) ∧
      t.core.rd (Reg.LFR_P_NE_SES n) = (if e.2.1 && !e.2.2.2 then min (s.core.rd (Reg.LFR_P_NE_SES n) + 1) (2 ^ 32 - 1)
        else s.core.rd (Reg.LFR_P_NE_SES n)) ∧
      (∀ m : Fin 16, m ≠ n → t.core.lp m = s.core.lp m) ∧ s.outsideStands t))

/-- GROUP_ENABLE, GROUP_DISABLE, GROUP_ON, GROUP_START_TIMEOUT and POSITION_READY: R257, R321, R323, R352, R434. -/
def Obligations.GroupsStartAndStop : Prop :=
  (∀ (g : Fin 8) (s : State), s.answers = true → s.core.fst (.group g) = .off →
    Core.groupCheck g (s.core.setFst (.group g) .starting stOk) = stOk →
    Completes (.groupEnable g) s (fun t => t.core.fst (.group g) = .starting ∧ t.core.rd (Reg.LFR_G_CTRL g) = 1 ∧
      (t.core.grp g).gcc.length = 1 ∧ (t.core.grp g).peerMargin = none ∧ (t.core.grp g).rxReady = 0 ∧
      t.core.fd (Reg.LFR_G_STAT g) 7 0 = stOk ∧ s.outsideStands t)) ∧
  (∀ (g : Fin 8) (s : State), s.answers = true → s.core.fst (.group g) = .off →
    Core.groupCheck g (s.core.setFst (.group g) .starting stOk) ≠ stOk →
    Completes (.groupEnable g) s (fun t => t.core.fst (.group g) = .off ∧
      t.core.fd (Reg.LFR_G_STAT g) 7 0 = Core.groupCheck g (s.core.setFst (.group g) .starting stOk) ∧
      s.only [.fns] [Reg.LFR_G_STAT g] t)) ∧
  (∀ (g : Fin 8) (s : State), s.answers = true → s.core.fst (.group g) = .on → (s.core.fn (.group g)).pend = false →
    (s.core.schg g).items ≠ [] →
    Completes (.groupDisable g) s (fun t => t.core.fst (.group g) = .draining ∧ t.core.rd (Reg.LFR_G_CTRL g) = 0 ∧
      t.core.fd (Reg.LFR_G_STAT g) 7 0 = stOk ∧ t.core.schg g = s.core.schg g ∧ s.outsideStands t)) ∧
  (∀ (g : Fin 8) (w c init par : Nat) (s : State), s.core.fst (.group g) = .starting →
    (s.core.grp g).peerMargin = some w →
    (s.core.candidates g).find? (s.core.acceptable g (fun p => worseClass (s.core.ownClass g p) (fld w (2 * p + 1) (2 * p)))) =
      some (c, init, par) →
    maskIn init (s.core.grp g).rxReady = true → maskIn init (s.core.grp g).peerReady = true →
    (s.core.placeAll g (bitsOf 16 (s.core.grp g).rxReady)).2 = [] →
    Completes (.groupOn g) s (fun t => t.core.fst (.group g) = .on ∧ (t.core.grp g).init = init ∧
      (t.core.grp g).parity = par ∧ (t.core.grp g).chosen = c ∧
      (t.core.grp g).startRow = some ((s.core.frame / 256 + 1) * 256) ∧ (t.core.grp g).txSvc = 0 ∧ s.outsideStands t)) ∧
  (∀ (g : Fin 8) (w : Nat) (s : State), s.core.fst (.group g) = .starting → (s.core.grp g).peerMargin = some w →
    (s.core.candidates g).find? (s.core.acceptable g (fun p => worseClass (s.core.ownClass g p) (fld w (2 * p + 1) (2 * p)))) = none →
    Completes (.groupOn g) s (fun t => t.core.fst (.group g) = .off ∧ (t.core.grp g).chosen = 7 ∧
      t.core.fd (Reg.LFR_G_STAT g) 7 0 = stRange ∧ s.outsideStands t)) ∧
  (∀ (g : Fin 8) (s : State), s.core.fst (.group g) = .starting → (s.core.fn (.group g)).since + 100000000 ≤ s.core.now →
    Completes (.groupStartTimeout g) s (fun t => t.core.fst (.group g) = .off ∧
      t.core.fd (Reg.LFR_G_STAT g) 7 0 = stTimeout ∧ s.outsideStands t)) ∧
  (∀ (g : Fin 8) (p : Fin 16) (s : State), s.core.fst (.group g) = .on ∨ s.core.fst (.group g) = .starting →
    bitAt (s.core.gConfig g) p = true → bitAt (s.core.grp g).rxReady p = false → s.core.settled g p = true →
    (s.core.placeAll g (bitsOf 16 (setBit (s.core.grp g).rxReady p true))).2 = [] →
    Completes (.positionReady g p) s (fun t => bitAt (t.core.grp g).rxReady p = true ∧
      (∀ q : Fin 16, q ≠ p → bitAt (t.core.grp g).rxReady q = bitAt (s.core.grp g).rxReady q) ∧
      (t.core.grp g).dcomp = (if s.core.fst (.group g) = .on then
        max (s.core.grp g).dcomp (s.core.maxDelay g (bitsOf 16 (setBit (s.core.grp g).rxReady p true)))
        else (s.core.grp g).dcomp) ∧ s.only [.lgrp] [] t)) ∧
  (∀ (g : Fin 8) (p : Fin 16) (s : State), s.core.fst (.group g) = .on ∨ s.core.fst (.group g) = .starting →
    bitAt (s.core.gConfig g) p = true → bitAt (s.core.grp g).rxReady p = false → s.core.settled g p = true →
    (s.core.placeAll g (bitsOf 16 (setBit (s.core.grp g).rxReady p true))).2 ≠ [] →
    Completes (.positionReady g p) s (fun t => (t.core.grp g).rxReady = (s.core.grp g).rxReady ∧
      t.core.fd (Reg.LFR_G_STAT g) 7 0 = stBusy ∧ s.outsideStands t))

/-- GROUP_ADD, GROUP_REMOVE, GROUP_CANCEL, ADD_ANNOUNCE, ADD_TIMEOUT and SPARE_ADD_RETRY: R324, R325, R369. -/
def Obligations.GroupMembersChange : Prop :=
  (∀ (g : Fin 8) (p : Fin 16) (s : State), s.answers = true → s.core.isOn (.group g) = true →
    (s.core.grp g).chg = none → (s.core.grp g).addWait = none → bitAt (s.core.gConfig g) p = true →
    bitAt (s.core.grp g).inSvc p = false →
    (s.core.portAt g p).any (fun n => s.core.isOn (.linePort n)) = true →
    Completes (.groupAdd g p) s (fun t =>
      (bitAt (s.core.grp g).peerReady p = true →
        (t.core.grp g).chg = some (setBit (s.core.grp g).inSvc p true, 256 * (s.core.frame / 256 + 9) % 2 ^ 32, s.core.frame + 1)) ∧
      (bitAt (s.core.grp g).peerReady p = false → (t.core.grp g).chg = none ∧
        (t.core.grp g).addWait = some (p.val, s.core.now)) ∧
      t.core.fd (Reg.LFR_G_STAT g) 7 0 = stOk ∧ s.only [.lgrp] [Reg.LFR_G_STAT g] t)) ∧
  (∀ (g : Fin 8) (p : Fin 16) (c : Instr) (s : State), c = .groupAdd g p ∨ c = .groupRemove g p → s.answers = true →
    s.core.isOn (.group g) = true → (s.core.grp g).chg.isSome = true →
    Completes c s (fun t => t.core.fd (Reg.LFR_G_STAT g) 7 0 = stBusy ∧ s.only [] [Reg.LFR_G_STAT g] t)) ∧
  (∀ (g : Fin 8) (p : Fin 16) (s : State), s.answers = true → s.core.isOn (.group g) = true →
    (s.core.grp g).chg = none → (s.core.grp g).addWait = none → bitAt (s.core.grp g).inSvc p = true →
    Completes (.groupRemove g p) s (fun t =>
      (s.core.gMinData g ≤ popCount 16 (setBit (s.core.grp g).inSvc p false &&& (65535 - (s.core.grp g).parity)) →
        setBit (s.core.grp g).inSvc p false ≠ 0 →
        (t.core.grp g).chg = some (setBit (s.core.grp g).inSvc p false, 256 * (s.core.frame / 256 + 9) % 2 ^ 32, s.core.frame + 1) ∧
        t.core.fd (Reg.LFR_G_STAT g) 7 0 = stOk) ∧
      (popCount 16 (setBit (s.core.grp g).inSvc p false &&& (65535 - (s.core.grp g).parity)) < s.core.gMinData g →
        (t.core.grp g).chg = none ∧ t.core.fd (Reg.LFR_G_STAT g) 7 0 = stRange) ∧
      s.only [.lgrp] [Reg.LFR_G_STAT g] t)) ∧
  (∀ (g : Fin 8) (s : State), s.answers = true → s.core.isOn (.group g) = true →
    Completes (.groupCancel g) s (fun t => (t.core.grp g).addWait = none ∧ (t.core.grp g).chg = (s.core.grp g).chg ∧
      t.core.fd (Reg.LFR_G_STAT g) 7 0 = stOk ∧ s.only [.lgrp] [Reg.LFR_G_STAT g] t)) ∧
  (∀ (g : Fin 8) (p t0 : Nat) (s : State), (s.core.grp g).addWait = some (p, t0) → s.core.isOn (.group g) = true →
    bitAt (s.core.grp g).peerReady p = true → (s.core.grp g).chg = none →
    Completes (.addAnnounce g) s (fun t => (t.core.grp g).addWait = none ∧
      (t.core.grp g).chg = some (setBit (s.core.grp g).inSvc p true, 256 * (s.core.frame / 256 + 9) % 2 ^ 32, s.core.frame + 1) ∧
      s.only [.lgrp] [] t)) ∧
  (∀ (g : Fin 8) (p t0 : Nat) (s : State), (s.core.grp g).addWait = some (p, t0) →
    t0 + 1000000 * s.core.fd (Reg.LFR_G_ADDTMO g) 15 0 ≤ s.core.now →
    Completes (.addTimeout g) s (fun t => (t.core.grp g).addWait = none ∧
      t.core.fd (Reg.LFR_G_STAT g) 7 0 = stTimeout ∧ s.only [.lgrp] [Reg.LFR_G_STAT g] t)) ∧
  (∀ (g : Fin 8) (p q : Nat) (s : State), s.core.isOn (.group g) = true → (s.core.grp g).spareRetryT ≠ 0 →
    (s.core.grp g).spareRetryT - 1 + 1000000000 ≤ s.core.now → (s.core.grp g).spareFor = none →
    (List.range 16).find? (s.core.wants g) = some p → s.core.peerClass g p ≠ 3 → s.core.spareFor g p = some q →
    (s.core.groupAdd g q).2 = stOk →
    Completes (.spareAddRetry g) s (fun t => (t.core.grp g).spareFor = some (p, q) ∧ (t.core.grp g).spareRetryT = 0 ∧
      ((t.core.grp g).chg.isSome = true ∨ (t.core.grp g).addWait = some (q, s.core.now)) ∧ s.only [.lgrp] [] t))

/-- ROW_RX, GCC_HEAD_TIMEOUT, RETRY_TIMEOUT, RETRY_FRAMES_RX, RETRY_SEGMENT_RX, RETRY_GONE_RX, RETRY_COPY_EXPIRE, RXSTAGE_REREQUEST, MARGIN_RX and MARGIN_SEND: R310, R327, R339, R341, R343, R346, R347, R352, R367, R130. The premise that no chunk failure waits (failQ) holds between commands. -/
def Obligations.RowsRetriesAndMessages : Prop :=
  (∀ (g : Fin 8) (r : RxRow) (s : State), (s.core.grp g).nextRow = some r → s.core.gLive g = true →
    r.t + (s.core.grp g).dcomp + 202 ≤ s.core.now → (s.core.grp g).nextSeq.getD r.gseq = r.gseq → r.gseq < 2 ^ 32 →
    r.members.1.getD (s.core.grp g).rxSvc = 0 → s.core.cle.failQ = [] →
    Completes (.rowRx g) s (fun t => (t.core.grp g).rows = (s.core.grp g).rows.filter (fun q => q.gseq != r.gseq) ∧
      (t.core.grp g).part = (s.core.grp g).part ∧ (t.core.grp g).nextSeq = none ∧ s.outsideStands t)) ∧
  (∀ (g : Fin 8) (r : RxRow) (s : State), (s.core.grp g).nextRow = some r → s.core.gLive g = true →
    r.t + (s.core.grp g).dcomp + 202 ≤ s.core.now → (s.core.grp g).nextSeq.getD r.gseq = r.gseq → r.gseq < 2 ^ 32 →
    r.frames.all (fun f => f.2.2) = true → (s.core.grp g).part = none → (s.core.grp g).reqs = [] →
    bitsOf 16 ((s.core.grp g).rxSvc &&& (65535 - (s.core.grp g).parity)) ≠ [] → s.core.cle.failQ = [] →
    Completes (.rowRx g) s (fun t => (t.core.grp g).rows = (s.core.grp g).rows.filter (fun q => q.gseq != r.gseq) ∧
      (t.core.grp g).rxSvc = (s.core.grp g).rxSvc ∧ (t.core.grp g).reqs.map RReq.gseq = [r.gseq] ∧
      (t.core.grp g).nextSeq = some ((r.gseq + 1) % 2 ^ 32) ∧
      t.core.rd (Reg.LCD_G_UNREC_CNT g) = min (s.core.rd (Reg.LCD_G_UNREC_CNT g) + 1) (2 ^ 32 - 1) ∧
      t.core.rd (Reg.LCD_G_REQ_CNT g) = min (s.core.rd (Reg.LCD_G_REQ_CNT g) + 1) (2 ^ 32 - 1) ∧ s.outsideStands t)) ∧
  (∀ (g : Fin 8) (q n : Nat) (s : State), (s.core.grp g).nextRow = none → s.core.gLive g = true →
    (s.core.grp g).nextSeq = some q → s.core.rowsDue g = n → 0 < n → s.core.cle.failQ = [] →
    Completes (.rowRx g) s (fun t => (t.core.grp g).nextSeq = some ((q + n) % 2 ^ 32) ∧
      t.core.rd (Reg.LCD_G_UNREC_CNT g) = min (s.core.rd (Reg.LCD_G_UNREC_CNT g) + n) (2 ^ 32 - 1) ∧ s.outsideStands t)) ∧
  (∀ (g : Fin 8) (s : State), (s.core.grp g).gcc ≠ [] → (s.core.grp g).gccCopy = 0 →
    (s.core.grp g).gccT + 10000000 ≤ s.core.now →
    Completes (.gccHeadTimeout g) s (fun t => (t.core.grp g).gcc = (s.core.grp g).gcc.drop 1 ∧
      (t.core.grp g).gccT = s.core.now ∧
      t.core.rd (Reg.LFR_G_GCCDROP_CNT g) = min (s.core.rd (Reg.LFR_G_GCCDROP_CNT g) + 1) (2 ^ 32 - 1) ∧
      s.only [.lgrp] [Reg.LFR_G_GCCDROP_CNT g] t)) ∧
  (∀ (g : Fin 8) (i : Fin 65536) (r : RReq) (s : State), (s.core.grp g).reqs.find? (fun q => q.id == i.val) = some r →
    r.t ≤ s.core.now →
    Completes (.retryTimeout g i) s (fun t =>
      (r.tries < s.core.fd Reg.LCD_RETRY 15 12 →
        (∃ q, (t.core.grp g).reqs = (s.core.grp g).reqs.filter (fun q => q.id != i.val) ++ [q] ∧ q.tries = r.tries + 1 ∧
          q.gseq = r.gseq ∧ q.t = s.core.now + s.core.rtmo g) ∧
        t.core.rd (Reg.LCD_G_REQ_CNT g) = min (s.core.rd (Reg.LCD_G_REQ_CNT g) + 1) (2 ^ 32 - 1) ∧
        (t.core.grp g).gcc.length = (s.core.grp g).gcc.length + 1) ∧
      (s.core.fd Reg.LCD_RETRY 15 12 ≤ r.tries →
        (t.core.grp g).reqs = (s.core.grp g).reqs.filter (fun q => q.id != r.id) ∧
        t.core.rd (Reg.LCD_G_GIVEUP_CNT g) = min (s.core.rd (Reg.LCD_G_GIVEUP_CNT g) + 1) (2 ^ 32 - 1)) ∧
      s.only [.lgrp, .opc] [Reg.LCD_G_REQ_CNT g, Reg.LCD_G_GIVEUP_CNT g] t)) ∧
  (∀ (g : Fin 8) (m : List Byte × Nat) (rest : List (List Byte × Nat)) (l : List RCopy) (s : State),
    (s.core.grp g).gccIn = m :: rest → byteAt m.1 0 = 0x10 → s.core.gLive g = true → (s.core.grp g).seenReq = [] →
    l = (((s.core.grp g).copies.filter (fun c => !s.core.copyOld c)).filter (fun c => c.frames.any (fun f =>
      decide ((f.1 + 2 ^ 32 - beNat (slice m.1 4 4)) % 2 ^ 32 < beNat (slice m.1 8 2)) &&
        bitAt (beNat (slice m.1 10 2)) f.2))).filter (fun c => !c.gone) → l ≠ [] →
    (s.core.grp g).resend.length + l.length ≤ 4096 →
    Completes (.retryFramesRx g) s (fun t => (t.core.grp g).gccIn = rest ∧
      (t.core.grp g).resend.map Resend.seg = (s.core.grp g).resend.map Resend.seg ++ l.map RCopy.seg ∧
      s.only [.lgrp] [] t)) ∧
  (∀ (g : Fin 8) (m : List Byte × Nat) (rest : List (List Byte × Nat)) (s : State),
    (s.core.grp g).gccIn = m :: rest → byteAt m.1 0 = 0x11 → s.core.gLive g = true → (s.core.grp g).seenReq = [] →
    (s.core.grp g).copies = [] →
    Completes (.retrySegmentRx g) s (fun t => (t.core.grp g).gccIn = rest ∧
      (t.core.grp g).gcc.length = (s.core.grp g).gcc.length + 1 ∧ (t.core.grp g).resend = (s.core.grp g).resend ∧
      s.only [.lgrp] [] t)) ∧
  (∀ (g : Fin 8) (m : List Byte × Nat) (rest : List (List Byte × Nat)) (r : RReq) (s : State),
    (s.core.grp g).gccIn = m :: rest → byteAt m.1 0 = 0x12 →
    (s.core.grp g).reqs.find? (fun q => q.id == beNat (slice m.1 2 2)) = some r →
    Completes (.retryGoneRx g) s (fun t => (t.core.grp g).gccIn = rest ∧
      (t.core.grp g).reqs = (s.core.grp g).reqs.filter (fun q => q.id != r.id) ∧
      t.core.rd (Reg.LCD_G_GONE_CNT g) = min (s.core.rd (Reg.LCD_G_GONE_CNT g) + 1) (2 ^ 32 - 1) ∧
      t.core.rd (Reg.LCD_G_GIVEUP_CNT g) = min (s.core.rd (Reg.LCD_G_GIVEUP_CNT g) + 1) (2 ^ 32 - 1) ∧
      s.only [.lgrp, .opc] [Reg.LCD_G_GONE_CNT g, Reg.LCD_G_GIVEUP_CNT g] t)) ∧
  (∀ (g : Fin 8) (s : State), s.core.fst (.group g) ≠ .draining →
    Completes (.retryCopyExpire g) s (fun t =>
      (t.core.grp g).copies = (s.core.grp g).copies.filter (fun c => !s.core.copyOld c) ∧
      (t.core.grp g).resend = (s.core.grp g).resend.filter (fun r => decide (s.core.now ≤ r.t + s.core.retryEff)) ∧
      s.only [.lgrp] [] t)) ∧
  (∀ (r : RxRefused) (rest : List RxRefused) (s : State), s.core.cle.refused = r :: rest →
    r.t + s.core.retryEff < s.core.now →
    Completes .rxstageRerequest s (fun t => t.core.cle.refused = rest ∧ s.only [.cle] [] t)) ∧
  (∀ (r : RxRefused) (rest : List RxRefused) (s : State), s.core.cle.refused = r :: rest →
    s.core.now ≤ r.t + s.core.retryEff →
    (s.core.servePool { user := .rx 0, owner := s.core.rxOwner, size := stageSize r.big, mem := 0, either := true }).isSome = true →
    s.core.heldItems < s.core.fd Reg.CLE_RXSTAGE 12 0 →
    (s.core.grp r.g).reqs = [] →
    Completes .rxstageRerequest s (fun t => t.core.cle.refused = rest ∧ (t.core.grp r.g).reqs.length = 1 ∧
      (t.core.grp r.g).gcc.length = (s.core.grp r.g).gcc.length + 1 ∧
      s.only [.cle, .lgrp] [Reg.LCD_G_REQ_CNT r.g] t)) ∧
  (∀ (g : Fin 8) (m : List Byte × Nat) (rest : List (List Byte × Nat)) (s : State),
    (s.core.grp g).gccIn = m :: rest → byteAt m.1 0 = 0x13 →
    Completes (.marginRx g) s (fun t => (t.core.grp g).gccIn = rest ∧
      (t.core.grp g).peerMargin = (if s.core.peerOut g = true
        then (s.core.grp g).peerMargin else some (beNat (slice m.1 4 4))) ∧ s.outsideStands t)) ∧
  (∀ (g : Fin 8) (s : State), s.core.fst (.group g) = .starting → (s.core.grp g).gcc = [] →
    Completes (.marginSend g) s (fun t => (t.core.grp g).gcc = [padTo 24 (marginMsg (s.core.classWord g (s.core.ownClass g)))] ∧
      (t.core.grp g).marginT = s.core.now ∧ s.only [.lgrp] [] t)) ∧
  (∀ (g : Fin 8) (s : State), s.core.fst (.group g) = .on →
    s.core.classWord g (s.core.runClass g) ≠ (s.core.grp g).ownMargin →
    Completes (.marginSend g) s (fun t => (t.core.grp g).ownMargin = s.core.classWord g (s.core.runClass g) ∧
      (t.core.grp g).gcc = (s.core.grp g).gcc ++ [padTo 24 (marginMsg (s.core.classWord g (s.core.runClass g)))] ∧
      s.only [.lgrp] [] t))

/-- SITE_EPOCH_WCLOSE, SITE_EPOCH_SET_CUR, SITE_EPOCH_IDLE, SRT_TBL_WRITE and SITE_AUTO_SWITCH: R390, R391. -/
def Obligations.SiteRoutingVersions : Prop :=
  (∀ (v : Word) (c : Instr) (s : State), s.answers = true → c = .siteEpochWclose v ∨ c = .siteEpochSetCur v →
    Completes c s (fun t =>
      t.core.frt.sep.wopen = s.core.frt.sep.wopen &&& (3 - fld v.toNat 13 12) ∧
      (bitAt t.core.frt.sep.wopen (fld v.toNat 0 0) = false ∨ fld v.toNat 0 0 = s.core.frt.sep.cur →
        t.core.frt.sep.cur = fld v.toNat 0 0 ∧ t.core.fd Reg.FRT_STAT 7 0 = stOk) ∧
      (bitAt t.core.frt.sep.wopen (fld v.toNat 0 0) = true → fld v.toNat 0 0 ≠ s.core.frt.sep.cur →
        t.core.frt.sep.cur = s.core.frt.sep.cur ∧ t.core.fd Reg.FRT_STAT 7 0 = stBusy) ∧
      t.core.frt.ep = s.core.frt.ep ∧ s.only [.frt] [Reg.FRT_STAT] t)) ∧
  (∀ (v : Fin 2) (s : State), v.val ≠ s.core.frt.sep.cur → s.core.frt.sep.infl v = 0 →
    s.core.frt.sep.zt v + 10000 ≤ s.core.now →
    Completes (.siteEpochIdle v) s (fun t => bitAt t.core.frt.sep.idle v = true ∧ t.core.frt.sep.cur = s.core.frt.sep.cur ∧
      s.only [.frt] [] t)) ∧
  (∀ (v : Word) (w : Nat) (s : State), s.answers = true → w = s.core.fd Reg.FRT_SRT_TBL 23 0 → w < 32 →
    w / 16 ≠ s.core.frt.sep.cur → bitAt s.core.frt.sep.idle (w / 16) = true ∨ bitAt s.core.frt.sep.wopen (w / 16) = true →
    Completes (.srtTblWrite v) s (fun t => bitAt t.core.frt.sep.wopen (w / 16) = true ∧
      t.core.tb Reg.FRT_SRT_TBL w = v.toNat &&& 0xC0000007 ∧ t.core.fd Reg.FRT_SRT_TBL 23 0 = w + 1 ∧
      (∀ j, j < 32 → j ≠ w → t.core.tb Reg.FRT_SRT_TBL j = s.core.tb Reg.FRT_SRT_TBL j) ∧
      s.only [.frt, .tbl] [Reg.FRT_SRT_TBL, Reg.FRT_STAT] t)) ∧
  (∀ (v : Word) (w : Nat) (s : State), s.answers = true → w = s.core.fd Reg.FRT_SRT_TBL 23 0 → w < 32 →
    w / 16 = s.core.frt.sep.cur ∨
      (bitAt s.core.frt.sep.idle (w / 16) = false ∧ bitAt s.core.frt.sep.wopen (w / 16) = false) →
    Completes (.srtTblWrite v) s (fun t => t.core.fd Reg.FRT_SRT_TBL 31 24 = stEpochBusy ∧
      t.core.fd Reg.FRT_SRT_TBL 23 0 = w ∧ s.only [] [Reg.FRT_SRT_TBL, Reg.FRT_STAT] t)) ∧
  (∀ (n : Nat) (s : State), s.core.fd Reg.FRT_SAUTO 31 31 = 1 →
    bitAt s.core.frt.sep.wopen (1 - s.core.frt.sep.cur) = false →
    s.core.frt.autoT = 0 ∨ s.core.frt.autoT - 1 + 10000000000 ≤ s.core.now →
    (List.range 16).find? (s.core.autoFor (1 - s.core.frt.sep.cur)) = some n →
    Completes .siteAutoSwitch s (fun t => t.core.frt.sep.cur = 1 - s.core.frt.sep.cur ∧
      t.core.frt.autoT = s.core.now + 1 ∧ s.only [.frt] [] t))

/-- SITE_PARTITION, SITE_RECONNECT, LEDGER_RESEND, LEDGER_TMO, STEP_LEDGER_RX and JOB_ENTRY_WRITE: R392, R395, R396, R398, R399. The premise that no chunk failure waits (failQ) holds between commands. -/
def Obligations.PartitionsAndLedgers : Prop :=
  (∀ (i : Fin 16) (s : State), s.core.partOn i = false → s.core.groupsTo i ≠ [] →
    (∀ g ∈ s.core.groupsTo i, s.core.gsf g = true ∧ s.core.site.failT.get 0 g ≠ 0 ∧
      s.core.site.failT.get 0 g - 1 + 1000000 * s.core.fd Reg.CLE_PART_CFG 15 0 ≤ s.core.now) →
    s.core.cle.chunks = [] → s.core.cle.failQ = [] →
    Completes (.sitePartition i) s (fun t => t.core.partOn i = true ∧
      (∀ j, j ≠ i.val → t.core.partOn j = s.core.partOn j) ∧
      t.core.rd Reg.CLE_PEPOCH = (s.core.rd Reg.CLE_PEPOCH + 1) % 2 ^ 32 ∧
      t.core.rd Reg.CLE_PARTDECL_CNT = min (s.core.rd Reg.CLE_PARTDECL_CNT + 1) (2 ^ 32 - 1) ∧
      (∀ e ∈ s.core.jobEntries, bitAt (s.core.jSites e) i = true → bitAt (t.core.jPsites e) i = true ∧
        (s.core.jState e = jRunning → t.core.jState e = jPartitioned)) ∧ s.outsideStands t)) ∧
  (∀ (i : Fin 16) (g : Nat) (s : State), s.core.partOn i = true → g ∈ s.core.groupsTo i → s.core.gsf g = false →
    s.core.site.clearT.get 0 g ≠ 0 →
    s.core.site.clearT.get 0 g - 1 + 10000000 * s.core.fd Reg.CLE_PART_CFG 31 16 ≤ s.core.now →
    Completes (.siteReconnect i) s (fun t => t.core.partOn i = false ∧
      (∀ j, j ≠ i.val → t.core.partOn j = s.core.partOn j) ∧
      (∀ e ∈ s.core.jobEntries, bitAt (s.core.jSites e) i = true →
        s.core.jState e = jPartitioned ∨ s.core.jState e = jRunning → t.core.jState e = jReconciling) ∧ s.outsideStands t)) ∧
  (∀ (j : Fin 65600) (s : State), s.core.jValid j = true → s.core.jState j = jReconciling →
    s.core.site.ledSent.get 0 j ≠ 0 → s.core.site.ledSent.get 0 j - 1 + 100000000 ≤ s.core.now →
    Completes (.ledgerResend j) s (fun t => t.core.site.ledSent.get 0 j = s.core.now + 1 ∧
      t.core.site.lastLed.get [] (s.core.jJob j) = s.core.ledgerOf j ∧ s.only [.lgrp, .site] [] t)) ∧
  (∀ (j : Fin 65600) (s : State), s.core.jValid j = true → s.core.jState j = jReconciling →
    s.core.site.ledT.get 0 j ≠ 0 →
    s.core.site.ledT.get 0 j - 1 + 1000000 * s.core.fd Reg.CLE_PART_CFG2 15 0 ≤ s.core.now → s.core.jNpart j ≠ 0 →
    s.core.jPsites j ≠ 0 → s.core.jDrift j = false →
    Completes (.ledgerTmo j) s (fun t => t.core.jState j = jDiverged ∧
      fld (t.core.jw j 6) 15 0 = s.core.jPsites j ∧ t.core.site.ledT.get 0 j = 0 ∧
      t.core.rd Reg.CLE_DIVERGE_CNT = min (s.core.rd Reg.CLE_DIVERGE_CNT + 1) (2 ^ 32 - 1) ∧
      t.core.rd Reg.CLE_LEDGER_TMO_CNT = min (s.core.rd Reg.CLE_LEDGER_TMO_CNT +
        ((bitsOf 16 (s.core.jPsites j)).filter (fun i => !bitAt (s.core.site.ledGot.get 0 j) i)).length) (2 ^ 32 - 1) ∧
      s.outsideStands t)) ∧
  (∀ (g : Fin 8) (m : List Byte × Nat) (rest : List (List Byte × Nat)) (s : State),
    (s.core.grp g).gccIn = m :: rest → byteAt m.1 0 = 0x22 →
    (List.range 64).find? (fun e => s.core.jValid e && s.core.jJob e == beNat (slice m.1 2 2) &&
      s.core.jIncarn e == beNat (slice m.1 4 2)) = none →
    Completes (.stepLedgerRx g) s (fun t => (t.core.grp g).gccIn = rest ∧
      t.core.rd Reg.CLE_STRAY_CNT = min (s.core.rd Reg.CLE_STRAY_CNT + 1) (2 ^ 32 - 1) ∧
      s.only [.lgrp] [Reg.CLE_STRAY_CNT] t)) ∧
  (∀ (g : Fin 8) (m : List Byte × Nat) (rest : List (List Byte × Nat)) (e i : Nat) (s : State),
    (s.core.grp g).gccIn = m :: rest → byteAt m.1 0 = 0x22 →
    (List.range 64).find? (fun e => s.core.jValid e && s.core.jJob e == beNat (slice m.1 2 2) &&
      s.core.jIncarn e == beNat (slice m.1 4 2)) = some e →
    i = byteAt m.1 1 % 16 → s.core.jState e = jReconciling → bitAt (s.core.jPsites e) i = true →
    bitAt (s.core.site.ledGot.get 0 e) i = false →
    (bitsOf 16 (s.core.jPsites e)).all (bitAt (setBit (s.core.site.ledGot.get 0 e) i true)) = false →
    Completes (.stepLedgerRx g) s (fun t => (t.core.grp g).gccIn = rest ∧
      t.core.site.ledGot.get 0 e = setBit (s.core.site.ledGot.get 0 e) i true ∧
      t.core.site.ledDiv.get 0 e = setBit (s.core.site.ledDiv.get 0 e) i (beNat (slice m.1 14 2) != 0) ∧
      s.only [.lgrp, .site] [] t)) ∧
  (∀ (g : Fin 8) (m : List Byte × Nat) (rest : List (List Byte × Nat)) (e i : Nat) (s : State),
    (s.core.grp g).gccIn = m :: rest → byteAt m.1 0 = 0x22 →
    (List.range 64).find? (fun e => s.core.jValid e && s.core.jJob e == beNat (slice m.1 2 2) &&
      s.core.jIncarn e == beNat (slice m.1 4 2)) = some e →
    i = byteAt m.1 1 % 16 → s.core.jState e ≠ jReconciling → s.core.site.ansT.get 0 (16 * e + i) = 0 →
    Completes (.stepLedgerRx g) s (fun t => (t.core.grp g).gccIn = rest ∧
      (t.core.grp g).gcc.length = (s.core.grp g).gcc.length + 1 ∧
      t.core.site.ansT.get 0 (16 * e + i) = s.core.now + 1 ∧ s.only [.lgrp, .site] [] t)) ∧
  (∀ (v : Word) (e : Nat) (s : State), s.answers = true → s.core.fd Reg.CLE_JOB_TBL 23 0 = 8 * e → e < 64 →
    s.core.liveCtxs.any (fun x => s.core.cJob x == s.core.jJob e || s.core.cJob x == fld v.toNat 31 16) = false →
    s.core.jValid e = false ∨ fld v.toNat 31 16 ≠ s.core.jJob e ∨
      serialBefore 16 (s.core.jIncarn e) (fld v.toNat 15 0) = true →
    Completes (.jobEntryWrite v) s (fun t => t.core.jw e 0 = v.toNat ∧ t.core.jState e = jRunning ∧ t.core.jPsites e = 0 ∧
      t.core.jNpart e = 0 ∧ t.core.fd Reg.CLE_JOB_TBL 23 0 = 8 * e + 1 ∧ t.core.fd Reg.CLE_JOB_TBL 31 24 = stOk ∧
      s.only [.tbl, .site] [Reg.CLE_JOB_TBL, Reg.CLE_STAT] t)) ∧
  (∀ (v : Word) (w : Nat) (s : State), s.answers = true → s.core.fd Reg.CLE_JOB_TBL 23 0 = w → w < 512 → w % 8 < 3 →
    s.core.liveCtxs.any (fun x => s.core.cJob x == s.core.jJob (w / 8)) = true →
    Completes (.jobEntryWrite v) s (fun t => t.core.fd Reg.CLE_JOB_TBL 31 24 = stBusy ∧
      t.core.fd Reg.CLE_JOB_TBL 23 0 = w ∧ s.only [] [Reg.CLE_JOB_TBL, Reg.CLE_STAT] t))

/-- MODULE_INTERRUPT, MODULE_POLL, MODULE_BRINGUP_DONE and FADE_SAMPLE: R360, R362, R363, R364, R365, R366. -/
def Obligations.ModulesAndFade : Prop :=
  (∀ (n : Fin 16) (rxLos : Bool) (s : State), (s.core.optic n).present = true →
    Completes (.moduleInterrupt n true rxLos) s (fun t => (t.core.lp n).modLos = rxLos ∧ (t.core.optic n).noAck = 0 ∧
      (t.core.optic n).present = true ∧ (∀ m : Fin 16, m ≠ n → t.core.optic m = s.core.optic m ∧
        (t.core.lp m).modLos = (s.core.lp m).modLos) ∧ s.outsideStands t)) ∧
  (∀ (n : Fin 16) (rxLos : Bool) (s : State), (s.core.optic n).present = true →
    Completes (.moduleInterrupt n false rxLos) s (fun t =>
      (2 ≤ (s.core.optic n).noAck → (t.core.optic n).present = false ∧ (t.core.optic n).mstate = 0 ∧
        (t.core.lp n).modLos = true) ∧
      ((s.core.optic n).noAck < 2 → (t.core.optic n).present = true ∧ (t.core.optic n).noAck = (s.core.optic n).noAck + 1 ∧
        (t.core.lp n).modLos = (s.core.lp n).modLos) ∧
      t.core.rd Reg.OPC_I2C_ERR_CNT = min (s.core.rd Reg.OPC_I2C_ERR_CNT + 1) (2 ^ 32 - 1) ∧ s.outsideStands t)) ∧
  (∀ (n : Fin 16) (s : State), (s.core.optic n).present = false →
    Completes (.modulePoll n true) s (fun t => (t.core.optic n).present = true ∧ (t.core.optic n).mstate = 0 ∧
      (∀ m : Fin 16, m ≠ n → t.core.optic m = s.core.optic m) ∧ s.only [.opc] [] t)) ∧
  (∀ (n : Fin 16) (s : State), (s.core.optic n).present = false →
    Completes (.modulePoll n false) s (fun t =>
      t.core.rd Reg.OPC_I2C_ERR_CNT = min (s.core.rd Reg.OPC_I2C_ERR_CNT + 1) (2 ^ 32 - 1) ∧
      s.only [] [Reg.OPC_I2C_ERR_CNT] t)) ∧
  (∀ (n : Fin 16) (r : BringUp) (s : State), r.status = stOk →
    Completes (.moduleBringupDone n r) s (fun t => (t.core.optic n).present = true ∧
      (t.core.optic n).mstate = r.mstate % 8 ∧ (t.core.optic n).ident = r.ident % 256 ∧
      (t.core.optic n).hopCap = r.hopSig ∧ (t.core.optic n).vdm = r.vdm ∧ (t.core.optic n).base = none ∧
      (t.core.optic n).baseRun = true ∧ (t.core.lp n).modLos = false ∧
      (∀ m : Fin 16, m ≠ n → t.core.optic m = s.core.optic m) ∧ s.outsideStands t)) ∧
  (∀ (n : Fin 16) (r : BringUp) (s : State), r.status ≠ stOk → r.ident = 0 →
    Completes (.moduleBringupDone n r) s (fun t => (t.core.optic n).present = false ∧ (t.core.optic n).mstate = 0 ∧
      (t.core.optic n).hopCap = false ∧ (∀ m : Fin 16, m ≠ n → t.core.optic m = s.core.optic m) ∧ s.only [.opc] [] t)) ∧
  (∀ (n : Fin 16) (r : BringUp) (s : State), r.status ≠ stOk → r.ident ≠ 0 →
    Completes (.moduleBringupDone n r) s (fun t => (t.core.optic n).present = true ∧
      (t.core.optic n).mstate = r.mstate % 8 ∧ (t.core.optic n).ident = r.ident % 256 ∧
      (t.core.optic n).hopCap = false ∧ (t.core.optic n).vdm = false ∧ (t.core.optic n).baseRun = false ∧
      (∀ m : Fin 16, m ≠ n → t.core.optic m = s.core.optic m) ∧ s.only [.opc] [] t)) ∧
  (∀ (n : Fin 16) (r : OptRead) (s : State), (s.core.optic n).ready = true → s.core.sampleOff n = false →
    (s.core.optic n).vdm = false →
    Completes (.fadeSample n r) s (fun t => t.core.fd (Reg.OPC_P_MON0 n) 31 16 = r.txBias % 65536 ∧
      t.core.fd (Reg.OPC_P_MON0 n) 15 0 = r.txPwr % 65536 ∧ t.core.fd (Reg.OPC_P_MON1 n) 31 16 = r.rxPwr % 65536 ∧
      (t.core.optic n).hist = (s.core.optic n).hist ∧ (t.core.optic n).fade = (s.core.optic n).fade ∧
      (∀ m : Fin 16, m ≠ n → t.core.optic m = s.core.optic m) ∧
      s.only [.opc, .tlm, .free] [Reg.OPC_P_MON0 n, Reg.OPC_P_MON1 n, Reg.OPC_P_BASE n] t)) ∧
  (∀ (n : Fin 16) (r : OptRead) (s : State), (s.core.optic n).ready = true → s.core.sampleOff n = false →
    (s.core.optic n).vdm = true →
    Completes (.fadeSample n r) s (fun t => t.core.fd (Reg.OPC_P_MON0 n) 31 16 = r.txBias % 65536 ∧
      t.core.fd (Reg.OPC_P_MON0 n) 15 0 = r.txPwr % 65536 ∧ t.core.fd (Reg.OPC_P_MON2 n) 31 16 = toFld 16 r.margin ∧
      (t.core.optic n).hist.head? = some (s.core.now, r.margin) ∧ (t.core.optic n).read = true ∧
      (9 ≤ (s.core.optic n).hist.length →
        ((s.core.optic n).hist.take 9).foldl (fun a p => a + p.2) r.margin ≤ 100 * (s.core.fd Reg.OPC_FADE 31 24 : Int) →
        bitAt (t.core.optic n).fade 0 = true) ∧
      (∀ m : Fin 16, m ≠ n → t.core.optic m = s.core.optic m) ∧
      s.only [.opc, .lgrp, .tlm, .free]
        [Reg.OPC_P_MON0 n, Reg.OPC_P_MON1 n, Reg.OPC_P_MON2 n, Reg.OPC_P_BASE n, Reg.OPC_P_TREND n] t)) ∧
  (∀ (n : Fin 16) (r : OptRead) (s : State), (s.core.optic n).ready = true → bitAt (s.core.lp n).eff 0 = true →
    Completes (.fadeSample n r) s (fun t => (t.core.optic n).read = false ∧
      (t.core.optic n).hist = (s.core.optic n).hist ∧ (t.core.optic n).fade = (s.core.optic n).fade ∧
      s.only [.opc, .tlm] [] t))

/-- HEALTH_SCORE, LSAFE_SET, LSAFE_REL, REBASE, CLEAR_EXPEL, MODULE_ACCESS and MODULE_ACCESS_DONE: R366, R374, R379, R381, R383. -/
def Obligations.HealthAndLaserSafe : Prop :=
  (∀ s : State, s.core.opc.hsSec ≤ s.core.gns / 1000000000 →
    Completes .healthScore s (fun t => t.core.opc.hsSec = s.core.gns / 1000000000 + 1 ∧
      (∀ n : Fin 16, (t.core.optic n).score = if s.core.isOn (.linePort n) = true
        then (7 * (s.core.optic n).score + s.core.rawScore n) / 8 else (s.core.optic n).score) ∧
      s.only [.opc, .lport, .lgrp, .free] [Reg.OPC_EXPEL_CNT, Reg.OPC_WOULD_CNT] t)) ∧
  (∀ s : State, s.answers = true → s.core.opc.lsafe = false →
    Completes .lsafeSet s (fun t => t.core.opc.lsafe = true ∧
      (∀ n : Fin 16, (t.core.optic n).txdis = true ∧ ((t.core.optic n).hop = .idle ∨ (t.core.optic n).hop = .noticed) ∧
        (t.core.optic n).score = (s.core.optic n).score) ∧
      t.core.fd Reg.OPC_STAT 7 0 = stOk ∧
      s.only [.opc, .lgrp] [Reg.OPC_STAT, Reg.OPC_HOP_CNT, Reg.OPC_HOPFAIL_CNT] t)) ∧
  (∀ s : State, s.answers = true → s.core.opc.lsafe = true →
    Completes .lsafeRel s (fun t => t.core.opc.lsafe = false ∧
      (∀ n : Fin 16, (t.core.optic n).txdis =
        !(s.core.isOn (.linePort n) || s.core.fst (.linePort n) == .starting)) ∧
      t.core.fd Reg.OPC_STAT 7 0 = stOk ∧ s.only [.opc] [Reg.OPC_STAT] t)) ∧
  (∀ (n : Fin 16) (s : State), s.answers = true →
    Completes (.rebase n) s (fun t => (t.core.optic n).baseRun = true ∧ (t.core.optic n).baseN = 0 ∧
      (t.core.optic n).base = (s.core.optic n).base ∧ (∀ m : Fin 16, m ≠ n → t.core.optic m = s.core.optic m) ∧
      t.core.fd Reg.OPC_STAT 7 0 = stOk ∧ s.only [.opc] [Reg.OPC_STAT] t)) ∧
  (∀ (n : Fin 16) (s : State), s.answers = true →
    Completes (.clearExpel n) s (fun t => (t.core.optic n).expelled = false ∧
      (∀ m : Fin 16, m ≠ n → t.core.optic m = s.core.optic m) ∧
      t.core.opc.peers.map Peer.score = s.core.opc.peers.map Peer.score ∧
      ((s.core.lp n).peerKnown = true → ∀ q ∈ t.core.opc.peers, q.site = (s.core.lp n).peerSite →
        q.gw = (s.core.lp n).peerGw → q.expelled = false) ∧
      t.core.fd Reg.OPC_STAT 7 0 = stOk ∧ s.only [.opc] [Reg.OPC_STAT] t)) ∧
  (∀ (v : Word) (s : State), s.answers = true → s.core.opc.acc = none →
    bitAt v.toNat 31 = false ∨ maccDenied (fld v.toNat 26 19) (fld v.toNat 18 11) = false →
    Completes (.moduleAccess v) s (fun t => t.core.opc.acc =
        some (fld v.toNat 30 27, bitAt v.toNat 31, fld v.toNat 26 19, fld v.toNat 18 11, fld v.toNat 10 3) ∧
      t.core.fd Reg.OPC_STAT 7 0 = stOk ∧ s.only [.opc] [Reg.OPC_STAT] t)) ∧
  (∀ (v : Word) (s : State), s.answers = true → s.core.opc.acc = none → bitAt v.toNat 31 = true →
    maccDenied (fld v.toNat 26 19) (fld v.toNat 18 11) = true →
    Completes (.moduleAccess v) s (fun t => t.core.opc.acc = none ∧ t.core.fd Reg.OPC_STAT 7 0 = stDenied ∧
      s.only [.opc] [Reg.OPC_STAT] t)) ∧
  (∀ (v : Word) (s : State), s.answers = true → s.core.opc.acc ≠ none →
    Completes (.moduleAccess v) s (fun t => t.core.fd Reg.OPC_STAT 7 0 = stBusy ∧ s.only [] [Reg.OPC_STAT] t)) ∧
  (∀ (n p b d : Nat) (data : Byte) (s : State), s.core.opc.acc = some (n, false, p, b, d) →
    Completes (.moduleAccessDone true data) s (fun t => t.core.opc.acc = none ∧ fld t.core.mresRead 7 0 = data.toNat ∧
      fld t.core.mresRead 15 8 = stOk ∧ bitAt t.core.mresRead 31 = false ∧ (t.core.optic n).noAck = 0 ∧
      s.only [.opc] [] t)) ∧
  (∀ (n p b d : Nat) (data : Byte) (s : State), s.core.opc.acc = some (n, true, p, b, d) →
    Completes (.moduleAccessDone true data) s (fun t => t.core.opc.acc = none ∧
      fld t.core.mresRead 7 0 = fld s.core.opc.accRes 7 0 ∧ fld t.core.mresRead 15 8 = stOk ∧
      bitAt t.core.mresRead 31 = false ∧ (t.core.optic n).noAck = 0 ∧ s.only [.opc] [] t)) ∧
  (∀ (n p b d : Nat) (wr : Bool) (data : Byte) (s : State), s.core.opc.acc = some (n, wr, p, b, d) →
    Completes (.moduleAccessDone false data) s (fun t => t.core.opc.acc = none ∧ fld t.core.mresRead 15 8 = stTimeout ∧
      bitAt t.core.mresRead 31 = false ∧
      t.core.rd Reg.OPC_I2C_ERR_CNT = min (s.core.rd Reg.OPC_I2C_ERR_CNT + 1) (2 ^ 32 - 1) ∧ s.outsideStands t))

/-- POWER_ON, COLD_RESET, BOOT_WARM, BOOT_STEP_COMPLETE and BOOT_STEP_LIMIT: R419, R421, R422, R423, R427, R438, R480, R489. That a reserved failure status is free, that BOOT_WARM writes PREF as it stands and that LCD_MARGIN_CFG is the only RWS register of the core are this model's reading (Boot.lean, Start.lean). -/
def Obligations.StartsAndResets : Prop :=
  (∀ (c : Instr) (s : State), c = .powerOn ∨ c = .coldReset →
    Completes c s (fun t => t.nvm.bootNum = s.nvm.bootNum + 1 ∧ t.nvm.slots = s.nvm.slots ∧ t.nvm.busy = none ∧
      t.aon.boot.phase = 0 ∧ t.aon.boot.step = 1 ∧ t.aon.boot.wait = false ∧ t.aon.boot.warm = false ∧
      t.core.regs.cells = [] ∧ t.core.tbl.cells = [] ∧ t.aon.regs.cells = [] ∧
      t.otp.siteVal = s.otp.siteNext ∧ t.otp.lineMask = s.otp.lineNext ∧ t.otp.root = s.otp.rootNext ∧
      t.otp.session = false ∧ t.otp.busy = none ∧ t.otp.kek = s.otp.kek ∧ t.otp.locked = s.otp.locked ∧
      t.otp.kekUsed = s.otp.kekUsed ∧ t.aon.pwr.pst = .standby ∧ t.aon.pwr.trip = false ∧ t.pending = s.pending ∧
      (c = .powerOn → t.aon.store = [] ∧ t.aon.pwr.quar.cells = []) ∧
      (c = .coldReset → t.aon.store = s.aon.store ∧ ∀ u, (s.aon.quarantine u).state ≠ 3 →
        (t.aon.quarantine u).state = (s.aon.quarantine u).state ∧ (t.aon.quarantine u).bin = (s.aon.quarantine u).bin))) ∧
  (∀ s : State, s.aon.pwr.trip = false →
    Completes .bootWarm s (fun t => t.aon.rd Reg.BOOT_CTRL = s.aon.rd Reg.BOOT_CTRL % 2 ∧
      t.nvm.bootNum = s.nvm.bootNum + 1 ∧ t.aon.boot.warm = true ∧ t.aon.boot.step = 1 ∧ t.aon.boot.phase = 0 ∧
      t.core.rd Reg.LCD_MARGIN_CFG = s.core.rd Reg.LCD_MARGIN_CFG ∧ t.core.tbl.cells = [] ∧
      t.aon.pwr.pst = s.aon.pwr.pst ∧ t.aon.store = s.aon.store ∧ t.nvm.slots = s.nvm.slots ∧
      t.otp.siteVal = s.otp.siteNext ∧ t.otp.session = false ∧ t.otp.busy = s.otp.busy ∧
      t.aon.fd Reg.BOOT_STAT 7 0 = stOk ∧ t.pending = s.pending)) ∧
  (∀ s : State, s.aon.pwr.trip = true →
    Completes .bootWarm s (fun t => t.aon.fd Reg.BOOT_STAT 7 0 = stDenied ∧ t.core = s.core ∧ t.nvm = s.nvm ∧
      t.otp = s.otp ∧ t.aon.boot = s.aon.boot ∧ t.aon.pwr = s.aon.pwr ∧ t.pending = s.pending)) ∧
  (∀ (r : StepResult) (s : State), s.stepRuns = true → s.aon.boot.step = 1 → r.ok = true →
    Completes (.bootStepComplete r) s (fun t => t.aon.boot.step = 2 ∧ t.nvm.bootNum = s.nvm.bootNum ∧
      (∃ j ∈ t.nvm.journal, j.step = 1 ∧ j.mark = 2 ∧ j.bootNum = s.nvm.bootNum) ∧
      (s.aon.pwr.pwrEn = false → t.aon.boot.wait = true ∧ t.aon.pwr.pst = s.aon.pwr.pst) ∧
      (s.aon.pwr.pwrEn = true → s.aon.pwr.pdT = none → s.aon.pwr.trip = false →
        t.aon.boot.wait = false ∧ t.aon.pwr.pst = .ramping ∧ t.aon.boot.stepT = s.aon.now))) ∧
  (∀ (r : StepResult) (s : State), s.stepRuns = true → s.aon.boot.step = 7 → r.ok = true → s.aon.pwr.qreq = false →
    Completes (.bootStepComplete r) s (fun t => t.core.svc.ofl = maskOut 32 s.core.svc.ofl r.excluded ∧
      t.aon.boot.step = 8 ∧ t.aon.boot.wait = false ∧ t.core.fns = s.core.fns ∧ t.otp = s.otp)) ∧
  (∀ (r : StepResult) (s : State), s.stepRuns = true → r.ok = false → optionalStep s.aon.boot.step = false →
    Completes (.bootStepComplete r) s (fun t =>
      (s.altFor s.aon.boot.step = false → t.nvm.bootNum = s.nvm.bootNum + 1 ∧ t.aon.boot.warm = true ∧
        t.aon.boot.step = 1 ∧ t.aon.boot.phase = 0) ∧
      (s.altFor s.aon.boot.step = true → t.nvm.bootNum = s.nvm.bootNum ∧ t.aon.boot.phase = 2 ∧
        t.aon.boot.step = s.aon.boot.step ∧ (r.status ≠ 0 → r.status ≤ 0x12 → t.aon.boot.haltSt = r.status)))) ∧
  (∀ (x : Nat) (s : State), s.stepRuns = true → optionalStep s.aon.boot.step = false →
    s.aon.boot.stepT + stepLimit s.aon.boot.step s.aon.boot.method ≤ s.aon.now →
    Completes (.bootStepLimit x) s (fun t =>
      (s.altFor s.aon.boot.step = false → t.nvm.bootNum = s.nvm.bootNum + 1 ∧ t.aon.boot.warm = true ∧
        t.aon.boot.step = 1 ∧ t.aon.mop.op = 3) ∧
      (s.altFor s.aon.boot.step = true → t.nvm.bootNum = s.nvm.bootNum ∧ t.aon.boot.phase = 2 ∧
        t.aon.boot.haltSt = stTimeout))) ∧
  (∀ (x : Nat) (s : State), s.stepRuns = true → s.aon.boot.step = 7 → s.altFor 7 = true → s.aon.pwr.qreq = false →
    s.aon.boot.stepT + stepLimit 7 s.aon.boot.method ≤ s.aon.now →
    Completes (.bootStepLimit x) s (fun t => t.core.svc.ofl = 0 ∧ bitAt t.core.svc.skip 6 = true ∧
      t.aon.boot.step = 8 ∧ t.aon.boot.wait = false ∧ t.nvm.bootNum = s.nvm.bootNum)) ∧
  (∀ (x : Nat) (s : State), s.aon.now < s.aon.boot.stepT + stepLimit s.aon.boot.step s.aon.boot.method →
    Completes (.bootStepLimit x) s (fun t => t = s))

/-- PWR_EN_RISE and _FALL, PRSNT_N_RELEASE, INPUT_UNDERVOLTAGE, _OVERVOLTAGE, _OVERCURRENT and _ALARM, QUIESCE_REQUEST, _END and _TIMEOUT: R462, R470, R471, R473, R475, R476, R477. That a quiesce outside ON only records the pin is the model's choice (assumption log). -/
def Obligations.PowerAndHotPlug : Prop :=
  (∀ s : State, s.aon.pwr.pwrEn = false → s.aon.boot.phase = 0 → s.aon.boot.step = 0 → s.aon.pwr.vinOk = true →
    s.aon.pwr.pst = .standby →
    Completes .pwrEnRise s (fun t => t.aon.pwr.pwrEn = true ∧ t.nvm.bootNum = s.nvm.bootNum + 1 ∧ t.aon.boot.step = 1 ∧
      t.aon.boot.warm = decide (0 < s.nvm.bootNum) ∧ t.otp.siteVal = s.otp.siteNext)) ∧
  (∀ s : State, s.aon.pwr.pwrEn = false → s.aon.boot.phase = 0 → s.aon.boot.step = 2 → s.aon.boot.wait = true →
    s.aon.pwr.quStage = 0 → s.aon.pwr.pst = .standby → s.aon.pwr.pdT = none → s.aon.pwr.trip = false →
    Completes .pwrEnRise s (fun t => t.aon.pwr.pwrEn = true ∧ t.aon.pwr.pst = .ramping ∧ t.aon.boot.step = 2 ∧
      t.aon.boot.wait = false ∧ t.aon.boot.stepT = s.aon.now ∧ t.nvm.bootNum = s.nvm.bootNum ∧ t.otp = s.otp)) ∧
  (∀ s : State, s.aon.pwr.pwrEn = true → s.aon.pwr.pst = .safe →
    Completes .pwrEnFall s (fun t => t.aon.pwr.pwrEn = false ∧ t.aon.pwr.pst = .safe ∧
      t.aon.pwr.pdT = some (s.aon.now + 9000000) ∧ t.aon.pwr.safeRm = s.aon.pwr.safeRm ∧ t.otp.busy = s.otp.busy ∧
      t.nvm = s.nvm)) ∧
  (∀ (c : Instr) (s : State), c = .pwrEnFall ∧ s.aon.pwr.pst = .on ∨ c = .prsntNRelease → s.aon.pwr.pwrEn = true →
    s.aon.pwr.pst ≠ .fail →
    Completes c s (fun t => t.aon.pwr.pst = .fail ∧ t.aon.pwr.pdT = some (s.aon.now + 9000000) ∧
      t.aon.pwr.pwrEn = (c != .pwrEnFall) ∧ t.aon.pwr.safeRm = false ∧ t.aon.pwr.lock = 0 ∧
      t.otp.busy = none ∧ t.nvm.busy = none ∧ t.nvm.slots = s.nvm.slots ∧ t.aon.boot.step = 0 ∧ t.otp.session = false)) ∧
  (∀ (n : Nat) (c : Instr) (s : State),
    c = .inputUndervoltage n ∧ n < 38000 ∨ c = .inputOvervoltage n ∧ 62000 < n ∨ c = .inputOvercurrent n ∧ 24000 < n →
    s.aon.pwr.pst ≠ .fail →
    Completes c s (fun t => t.aon.pwr.vinOk = false ∧ t.aon.pwr.pst = .fail ∧ t.aon.pwr.pdT = some (s.aon.now + 9000000) ∧
      t.otp.busy = none ∧ t.nvm.busy = none ∧ t.nvm.slots = s.nvm.slots ∧ t.aon.boot.step = 0)) ∧
  (∀ (n : Nat) (c : Instr) (s : State),
    c = .inputUndervoltage n ∧ 38000 ≤ n ∨ c = .inputOvervoltage n ∧ n ≤ 62000 ∨ c = .inputOvercurrent n ∧ n ≤ 24000 →
    Completes c s (fun t => t = s)) ∧
  (∀ (r mv pw : Nat) (s : State), r < 16 →
    Completes (.inputAlarm r mv pw) s (fun t =>
      (railBad r mv = true → t.aon.boot.altRails = true ∧ t.aon.boot.step = 1 ∧ t.aon.boot.warm = true ∧
        t.nvm.bootNum = s.nvm.bootNum + 1 ∧ t.aon.mop.op = 3 ∧ t.aon.pwr.pst = s.aon.pwr.pst) ∧
      (railBad r mv = false → t = s))) ∧
  (∀ s : State, s.aon.pwr.qreq = false → s.aon.pwr.pst = .on → s.aon.boot.phase = 1 → s.core.liveFns = [] →
    s.core.cle.failQ = [] → s.otp.busy = none → s.nvm.busy = none →
    Completes .quiesceRequest s (fun t => t.aon.pwr.qreq = true ∧ t.aon.pwr.pst = .safe ∧ t.aon.pwr.safeRm = true ∧
      t.core.opc.lsafe = true ∧ t.core.fns = s.core.fns ∧
      t.aon.rd Reg.PWR_QUIESCE_CNT = min (s.aon.rd Reg.PWR_QUIESCE_CNT + 1) (2 ^ 32 - 1) ∧ t.otp = s.otp ∧ t.nvm = s.nvm)) ∧
  (∀ s : State, s.aon.pwr.qreq = false → s.aon.pwr.pst ≠ .on ∨ s.aon.boot.phase = 0 →
    Completes .quiesceRequest s (fun t => t = { s with aon := { s.aon with pwr := { s.aon.pwr with qreq := true } } })) ∧
  (∀ s : State, s.aon.pwr.qreq = true → s.aon.pwr.pst = .safe → s.aon.pwr.pdT = none → s.aon.boot.phase = 1 →
    Completes .quiesceEnd s (fun t => t.aon.pwr.qreq = false ∧ t.aon.pwr.pst = .on ∧ t.aon.pwr.safeRm = false ∧
      t.core.opc = s.core.opc ∧ t.core.fns = s.core.fns ∧ t.aon.boot = s.aon.boot ∧ t.otp = s.otp ∧ t.nvm = s.nvm)) ∧
  (∀ s : State, 2 ≤ s.aon.pwr.quStage → s.aon.pwr.quStage ≤ 4 → s.aon.pwr.quT + 1000000 * s.aon.fd Reg.PWR_QLIM 15 0 ≤ s.aon.now →
    s.otp.busy = none → s.nvm.busy = none →
    Completes .quiesceTimeout s (fun t => t.aon.pwr.quStage = 0 ∧ t.aon.pwr.pst = .safe ∧ t.aon.pwr.safeRm = true ∧
      t.core.opc.lsafe = true ∧ t.otp = s.otp ∧ t.nvm = s.nvm))

/-- THERMAL_SAMPLE, TEMP_STEP_END, REFCLK_LOSS, PLL_UNLOCK and PLL_LOCK: R478, R479, R481, R488. -/
def Obligations.ThermalAndClocks : Prop :=
  (∀ (temps : List (Option Int)) (s : State),
    Completes (.thermalSample temps) s (fun t =>
      (∀ (n : Fin 48) (x : Int), temps.getD n none = some x → -640 ≤ x → x ≤ 2400 →
        (t.aon.pwr.sensor n).valid = true ∧ (t.aon.pwr.sensor n).temp = x) ∧
      (∀ n : Fin 48, temps.getD n none = none → (t.aon.pwr.sensor n).valid = false) ∧
      (∀ (n : Fin 48) (x : Int), temps.getD n none = some x → x < -640 ∨ 2400 < x → (t.aon.pwr.sensor n).valid = false) ∧
      (∀ (n : Fin 48) (i : Fin 3) (x : Int), temps.getD n none = some x → -640 ≤ x → x ≤ 2400 → sensorGroup n ≠ 2 →
        s.aon.threshold (sensorGroup n) i ≤ x → bitAt (t.aon.pwr.thr.get 0 (sensorGroup n)) i = true) ∧
      t.otp.kek = s.otp.kek ∧ t.nvm.slots = s.nvm.slots ∧ t.pending = s.pending)) ∧
  (∀ (t0 n : Nat) (s : State), s.aon.pwr.stepT = some (t0, n) →
    t0 + 1000000 * s.aon.fd Reg.THM_STEP 15 0 ≤ s.aon.now →
    Completes .tempStepEnd s (fun t => t.aon.inStep = false ∧ t.aon.pwr = { s.aon.pwr with stepT := none } ∧
      t.aon.regs = s.aon.regs ∧ t.aon.boot = s.aon.boot ∧ t.nvm = s.nvm ∧ t.otp = s.otp ∧ s.core.onlyParts [] t.core)) ∧
  (∀ s : State,
    Completes .refclkLoss s (fun t => t.aon.pwr.refclk = false ∧ t.aon.boot.step = 1 ∧ t.aon.boot.warm = true ∧
      t.nvm.bootNum = s.nvm.bootNum + 1 ∧ t.aon.mop.op = 3 ∧ t.aon.pwr.pst = s.aon.pwr.pst)) ∧
  (∀ (i : Fin 16) (s : State), bitAt s.aon.pwr.lock i = true →
    Completes (.pllUnlock i) s (fun t => bitAt t.aon.pwr.lock i = false ∧ bitAt t.aon.pwr.held i = true ∧
      (∀ j : Fin 16, j ≠ i → bitAt t.aon.pwr.lock j = bitAt s.aon.pwr.lock j) ∧
      t.aon.rd Reg.CLK_UNLOCK_CNT = min (s.aon.rd Reg.CLK_UNLOCK_CNT + 1) (2 ^ 32 - 1) ∧
      t.aon.boot = s.aon.boot ∧ t.nvm = s.nvm ∧ t.otp = s.otp ∧ t.pending = s.pending)) ∧
  (∀ (i : Fin 16) (s : State),
    Completes (.pllLock i) s (fun t => bitAt t.aon.pwr.lock i = true ∧
      (∀ j : Fin 16, j ≠ i → bitAt t.aon.pwr.lock j = bitAt s.aon.pwr.lock j) ∧
      bitAt t.aon.pwr.held i = false ∧
      t = { s with aon := { s.aon with pwr := { s.aon.pwr with lock := t.aon.pwr.lock, held := t.aon.pwr.held } } }))

/-- LOCUS_COUNT_CLEAR, SOAK_PASS, ELC_QUARANTINE and ELC_RELEASE: R483, R484, R485, R491. -/
def Obligations.LocusAndQuarantine : Prop :=
  (∀ s : State, s.core.gns / 86400000000000 ≠ s.aon.pwr.day →
    Completes .locusCountClear s (fun t => t.aon.pwr.day = s.core.gns / 86400000000000 ∧
      (∀ u c, u < 752 → c < 160 → t.aon.locus u c = 0) ∧ (∀ u, t.aon.quarantine u = s.aon.quarantine u) ∧
      t.core = s.core ∧ t.nvm = s.nvm ∧ t.otp = s.otp ∧ t.aon.regs = s.aon.regs ∧ t.pending = s.pending)) ∧
  (∀ (u : Fin 752) (s : State), (s.aon.quarantine u).state = 1 → s.aon.boot.phase = 1 → s.answers = true →
    (s.aon.quarantine u).bin ≤ tempBin (s.tempAt (unitSensor u)) →
    Completes (.soakPass u true) s (fun t => (t.aon.quarantine u).state = 2 ∧
      (t.aon.quarantine u).bin = (s.aon.quarantine u).bin ∧ (∀ v, v ≠ u.val → t.aon.quarantine v = s.aon.quarantine v) ∧
      t.aon.regs = s.aon.regs ∧ t.nvm = s.nvm ∧ t.otp = s.otp ∧ s.core.onlyParts [] t.core)) ∧
  (∀ (u : Fin 752) (s : State), (s.aon.quarantine u).state = 1 → s.aon.boot.phase = 1 → s.answers = true →
    (s.aon.quarantine u).bin ≤ tempBin (s.tempAt (unitSensor u)) →
    Completes (.soakPass u false) s (fun t =>
      ((s.aon.quarantine u).passes + 1 < s.aon.fd Reg.ELC_SOAK 31 16 → (t.aon.quarantine u).state = 1 ∧
        (t.aon.quarantine u).passes = (s.aon.quarantine u).passes + 1 ∧ t.core = s.core ∧ t.aon.tbl = s.aon.tbl) ∧
      (s.aon.fd Reg.ELC_SOAK 31 16 ≤ (s.aon.quarantine u).passes + 1 →
        (t.aon.quarantine u).state = (if unitKind u = 5 then 3 else 0) ∧ (∀ c, c < 160 → t.aon.locus u c = 0) ∧
        t.aon.rd Reg.ELC_CLEAR_CNT = min (s.aon.rd Reg.ELC_CLEAR_CNT + 1) (2 ^ 32 - 1)) ∧
      (∀ v, v ≠ u.val → t.aon.quarantine v = s.aon.quarantine v) ∧ t.nvm = s.nvm ∧ t.otp = s.otp)) ∧
  (∀ (u : Fin 1024) (s : State), u.val ≤ 751 → unitKind u ≠ 5 → (s.aon.quarantine u).state = 0 →
    Completes (.elcQuarantine u) s (fun t => (t.aon.quarantine u).state = 1 ∧
      (t.aon.quarantine u).bin = tempBin (s.tempAt (unitSensor u)) ∧
      (∀ v, v ≠ u.val → t.aon.quarantine v = s.aon.quarantine v) ∧
      t.aon.rd Reg.ELC_QUAR_CNT = min (s.aon.rd Reg.ELC_QUAR_CNT + 1) (2 ^ 32 - 1) ∧
      t.aon.fd Reg.PWR_STAT 7 0 = stOk ∧ (s.core.cip.writes = [] → t.nvm = s.nvm) ∧ t.otp = s.otp)) ∧
  (∀ (u : Fin 1024) (s : State), u.val ≤ 751 → unitKind u ≠ 5 →
    Completes (.elcRelease u) s (fun t => (t.aon.quarantine u).state = 0 ∧ (∀ c, c < 160 → t.aon.locus u c = 0) ∧
      (∀ v, v ≠ u.val → t.aon.quarantine v = s.aon.quarantine v) ∧ t.aon.fd Reg.PWR_STAT 7 0 = stOk ∧
      t.nvm = s.nvm ∧ t.otp = s.otp)) ∧
  (∀ (u : Fin 1024) (c : Instr) (s : State), c = .elcQuarantine u ∨ c = .elcRelease u →
    751 < u.val ∨ unitKind u = 5 →
    Completes c s (fun t => t.aon.fd Reg.PWR_STAT 7 0 = (if 751 < u.val then stRange else stDenied) ∧
      t.core = s.core ∧ t.aon.pwr = s.aon.pwr ∧ t.aon.tbl = s.aon.tbl ∧ t.nvm = s.nvm ∧ t.otp = s.otp))

/-- NVM_ERASE, NVM_PROGRAM, NVM_VERIFY and NVM_COMMAND_DONE: R425, R418, R438, R475. -/
def Obligations.FlashCommands : Prop :=
  (∀ (c : Instr) (n : Nat) (i : Fin 2) (s : State), c = .nvmErase i ∧ n = 1 ∨ c = .nvmVerify i ∧ n = 3 → s.nvm.busy = none →
    s.quieted = false → i.val ≠ s.aon.boot.image →
    Completes c s (fun t => t.nvm = { s.nvm with busy := some (n, i.val, 0) } ∧ t.aon.fd Reg.BOOT_STAT 7 0 = stOk ∧
      t.otp = s.otp ∧ t.aon.boot = s.aon.boot ∧ t.aon.pwr = s.aon.pwr ∧ s.core.onlyParts [.free] t.core ∧
      t.core.regs = s.core.regs)) ∧
  (∀ (i : Fin 2) (page : Nat) (s : State), page ≤ 98303 → s.nvm.busy = none → s.quieted = false →
    i.val ≠ s.aon.boot.image →
    Completes (.nvmProgram i page) s (fun t => t.nvm.busy = some (2, i.val, page) ∧
      (∀ b, b < 256 → t.nvm.slots.get 0xFF (i * slotSize + 256 * page + b) = s.aon.pageBytes.getD b 0) ∧
      (∀ a, a < i * slotSize + 256 * page ∨ i * slotSize + 256 * page + 256 ≤ a →
        t.nvm.slots.get 0xFF a = s.nvm.slots.get 0xFF a) ∧
      t.aon.fd Reg.BOOT_STAT 7 0 = stOk ∧ t.nvm.bootNum = s.nvm.bootNum ∧ t.nvm.journal = s.nvm.journal ∧
      t.otp = s.otp ∧ t.aon.boot = s.aon.boot ∧ t.core.regs = s.core.regs)) ∧
  (∀ (c : Instr) (i : Fin 2) (page : Nat) (s : State), c = .nvmErase i ∨ c = .nvmVerify i ∨ c = .nvmProgram i page →
    s.nvm.busy ≠ none ∨ (s.quieted = false ∧ (i.val = s.aon.boot.image ∨ (c = .nvmProgram i page ∧ 98303 < page))) →
    Completes c s (fun t => t.nvm = s.nvm ∧ t.aon.fd Reg.BOOT_STAT 7 0 =
        (if s.nvm.busy ≠ none then stBusy else if i.val = s.aon.boot.image then stDenied else stRange) ∧
      t.otp = s.otp ∧ t.core.regs = s.core.regs)) ∧
  (∀ (i p : Nat) (s : State), s.nvm.busy = some (1, i, p) → s.aon.pwr.quStage = 0 →
    Completes .nvmCommandDone s (fun t => t.nvm.busy = none ∧ t.nvm.st = stOk ∧
      (∀ a, t.nvm.slots.get 0xFF a = if a / slotSize = i then 0xFF else s.nvm.slots.get 0xFF a) ∧
      t.nvm.journal = s.nvm.journal ∧ t.core = s.core ∧ t.aon = s.aon ∧ t.otp = s.otp)) ∧
  (∀ (i p : Nat) (s : State), s.nvm.busy = some (3, i, p) → s.aon.pwr.quStage = 0 →
    Completes .nvmCommandDone s (fun t => t.nvm = { s.nvm with busy := none, st := s.imageCheck i } ∧
      t.core = s.core ∧ t.aon = s.aon ∧ t.otp = s.otp))

/-- OTP_SITE, OTP_ROLLBACK_INC, OTP_KEK_FIRST, OTP_KEK_NEXT, OTP_LINEMASK, OTP_DEBUG_LOCK, OTP_ROOT_HASH and OTP_WRITE_DONE: R426, R427, R428, R465. -/
def Obligations.OtpWrites : Prop :=
  (∀ (n : Nat) (c : Instr) (s : State),
    c = .otpSite ∧ n = 1 ∨ c = .otpRollbackInc ∧ n = 2 ∨ c = .otpKekFirst ∧ n = 3 ∨ c = .otpKekNext ∧ n = 4 ∨
      c = .otpLinemask ∧ n = 5 ∨ c = .otpDebugLock ∧ n = 6 ∨ c = .otpRootHash ∧ n = 7 →
    Completes c s (fun t =>
      (s.otpCheck n = stOk → t.otp.busy = some (n, s.aon.otpData.map word) ∧ t.otp.used n = s.otp.used n + 1 ∧
        (∀ m, 0 < m → m < 8 → m ≠ n → (m = 3 ∨ m = 4 → n ≠ 3 ∧ n ≠ 4) → t.otp.used m = s.otp.used m) ∧ t.otp.last = stOk) ∧
      (s.otpCheck n ≠ stOk → t.otp = { s.otp with last := s.otpCheck n }) ∧
      (s.otp.busy = none → s.quieted = false → otpFieldOk n s.aon.otpData = true → otpLimit n ≤ s.otp.used n →
        t.otp.last = stLocked) ∧
      (s.otp.busy ≠ none → t.otp.last = stBusy) ∧
      t.otp.kek = s.otp.kek ∧ t.otp.siteVal = s.otp.siteVal ∧ t.otp.siteNext = s.otp.siteNext ∧
      t.otp.rollback = s.otp.rollback ∧ t.otp.locked = s.otp.locked ∧ t.otp.lineNext = s.otp.lineNext ∧
      t.otp.rootNext = s.otp.rootNext ∧ (∀ i, i < 12 → t.aon.rd (Reg.OTP_DATA i) = 0) ∧ t.nvm = s.nvm ∧
      t.aon.boot = s.aon.boot ∧ t.core.regs = s.core.regs ∧ s.core.onlyParts [.free] t.core)) ∧
  (∀ (n : Nat) (d : List Word) (s : State), s.otp.busy = some (n, d) → n = 1 ∨ n = 2 ∨ n = 5 ∨ n = 7 →
    Completes .otpWriteDone s (fun t => t.otp.busy = none ∧
      t.otp.siteNext = (if n = 1 then some ((d.map (·.toNat)).getD 0 0) else s.otp.siteNext) ∧
      t.otp.rollback = (if n = 2 then s.otp.rollback + 1 else s.otp.rollback) ∧
      t.otp.lineNext = (if n = 5 then (d.map (·.toNat)).getD 0 0 else s.otp.lineNext) ∧
      t.otp.rootNext = (if n = 7 then some (wordsBytes (d.map (·.toNat))) else s.otp.rootNext) ∧
      t.otp.siteVal = s.otp.siteVal ∧ t.otp.lineMask = s.otp.lineMask ∧ t.otp.root = s.otp.root ∧
      t.otp.kek = s.otp.kek ∧ t.otp.locked = s.otp.locked ∧ t.otp.used = s.otp.used ∧ t.nvm = s.nvm)) ∧
  (∀ (d : List Word) (s : State), s.otp.busy = some (3, d) → s.aon.pwr.quStage = 0 →
    Completes .otpWriteDone s (fun t => t.otp.busy = none ∧ t.otp.kek = some (keyOf (d.map (·.toNat))) ∧
      t.otp.kekGen = s.otp.kekUsed - 1 ∧ (s.answers = true → t.core.cip.kek = some (keyOf (d.map (·.toNat)))) ∧
      t.otp.locked = s.otp.locked ∧ t.otp.rollback = s.otp.rollback ∧ t.otp.used = s.otp.used ∧ t.nvm = s.nvm)) ∧
  (∀ (d : List Word) (k : BitVec 256) (s : State), s.otp.busy = some (4, d) → s.otp.nextKek (d.map (·.toNat)) = some k →
    Completes .otpWriteDone s (fun t => t.otp.busy = none ∧ t.otp.kek = some k ∧ t.otp.kekGen = s.otp.kekUsed - 1 ∧
      t.otp.used = s.otp.used ∧ t.otp.locked = s.otp.locked ∧ t.nvm = s.nvm)) ∧
  (∀ (d : List Word) (s : State), s.otp.busy = some (6, d) →
    Completes .otpWriteDone s (fun t => t.otp.busy = none ∧ t.otp.locked = true ∧ t.otp.session = false ∧
      t.otp.kek = s.otp.kek ∧ t.otp.used = s.otp.used ∧ t.nvm = s.nvm))

/-- DESCRIPTOR_RX: R430, R431, R432, R433, R475. The order in which positions are tried is the model's choice (assumption log 45). -/
def Obligations.DescriptorsTaken : Prop :=
  (∀ s : State, s.core.desc = none → s.core.frt.desc = [] → Completes .descriptorRx s (fun t => t = s)) ∧
  (∀ (p : Packet) (rest : List Packet) (s : State), s.core.desc = none → s.core.frt.desc = p :: rest → s.descShut = true →
    Completes .descriptorRx s (fun t => t.core = { s.core with frt := { s.core.frt with desc := rest } } ∧
      t.aon = s.aon ∧ t.nvm = s.nvm ∧ t.otp = s.otp ∧ t.pending = s.pending)) ∧
  (∀ (p : Packet) (rest : List Packet) (st : Nat) (s : State), s.core.desc = none → s.core.frt.desc = p :: rest →
    s.descShut = false → s.descCheck (hSrc p.hdr) p.payload = .error st →
    Completes .descriptorRx s (fun t => t.core.frt.desc = rest ∧ t.core.dseq = s.core.dseq ∧ t.core.desc = none ∧
      t.aon.rd Reg.BOOT_DESC_REJ_CNT = min (s.aon.rd Reg.BOOT_DESC_REJ_CNT + 1) (2 ^ 32 - 1) ∧
      t.aon.rd Reg.BOOT_DESC_OK_CNT = s.aon.rd Reg.BOOT_DESC_OK_CNT ∧
      (st = stTag → (t.core.kslot (s.core.ctlSlot (descCtrl p.payload))).tagFail =
        min ((s.core.kslot (s.core.ctlSlot (descCtrl p.payload))).tagFail + 1) 65535) ∧
      (st ≠ stTag → t.core.cip = s.core.cip) ∧ t.core.frt.own = s.core.frt.own ∧
      s.core.onlyParts [.frt, .cip] t.core ∧ s.core.onlyRegs [] t.core ∧ t.nvm = s.nvm ∧ t.otp = s.otp)) ∧
  (∀ (p : Packet) (rest : List Packet) (body : List Byte) (s : State), s.core.desc = none → s.core.frt.desc = p :: rest →
    s.descShut = false → s.descCheck (hSrc p.hdr) p.payload = .ok body → bytesToWords body ≠ [] →
    (takeRec (bytesToWords body)).1 = .bad →
    Completes .descriptorRx s (fun t => t.core.frt.desc = rest ∧ t.core.desc = none ∧
      t.core.dseq.get 0 (descCtrl p.payload) = descNum p.payload 8 8 + 1 ∧
      (∀ c, c ≠ descCtrl p.payload → t.core.dseq.get 0 c = s.core.dseq.get 0 c) ∧
      t.aon.rd Reg.BOOT_DESC_OK_CNT = min (s.aon.rd Reg.BOOT_DESC_OK_CNT + 1) (2 ^ 32 - 1) ∧
      t.aon.rd Reg.BOOT_REC_FAIL_CNT = min (s.aon.rd Reg.BOOT_REC_FAIL_CNT + 1) (2 ^ 32 - 1) ∧
      s.core.onlyParts [.frt, .cip, .dseq, .free] t.core ∧ s.core.onlyRegs [] t.core ∧ t.nvm = s.nvm ∧ t.otp = s.otp))

/-- MOP_ARM, MOP_ARM_EXPIRE, ZEROIZE, LASER_SAFE, HARD_RESET, READ_POWER, READ_EVENTS, READ_JOURNAL, ZEROIZE_N_ASSERT and DBG_ENTER: R462, R463, R464, R465, R381, R248, R468. That an operation is one step, never seen running, is the model's choice (assumption log). -/
def Obligations.GuaranteedOperations : Prop :=
  (∀ (v : Word) (s : State),
    Completes (.mopArm v) s (fun t => t = { s with aon := { s.aon with mop := { s.aon.mop with arm := some (fld v.toNat 3 0, s.aon.now) } } })) ∧
  (∀ (o t0 : Nat) (s : State), s.aon.mop.arm = some (o, t0) →
    Completes .mopArmExpire s (fun t => t = { s with aon := { s.aon with mop := { s.aon.mop with
      arm := if t0 + 10000000 ≤ s.aon.now then none else some (o, t0) } } })) ∧
  (∀ (c : Instr) (n : Nat) (s : State), c = .zeroize ∧ n = 1 ∨ c = .hardReset ∧ n = 3 → s.armed n = false →
    Completes c s (fun t => t.aon.mop.st = stDenied ∧ t.aon.mop.arm = none ∧ t.aon.mop.op = s.aon.mop.op ∧
      t.core = s.core ∧ t.nvm = s.nvm ∧ t.otp = s.otp ∧ t.aon.boot = s.aon.boot)) ∧
  (∀ (c : Instr) (s : State), c = .zeroize ∧ s.armed 1 = true ∨ c = .zeroizeNAssert ∨ c = .dbgEnter ∧ s.otp.locked = false →
    (∀ i, i < 4096 → s.core.slotFlows i = [] ∧ s.core.slotGroups i = []) → s.core.cle.failQ = [] →
    Completes c s (fun t => (∀ i, i < 4096 → t.core.kslot i = {}) ∧ t.core.cip.kek = none ∧ t.core.cip.noLoad = true ∧
      t.aon.mop.op = 1 ∧ t.aon.mop.st = stOk ∧ t.aon.mop.arm = none ∧ t.otp.kek = s.otp.kek ∧
      t.otp.session = (if c = .dbgEnter then true else s.otp.session) ∧ t.core.fns = s.core.fns ∧ t.nvm = s.nvm ∧
      t.aon.boot = s.aon.boot ∧ t.aon.pwr = s.aon.pwr)) ∧
  (∀ s : State, s.otp.locked = true → Completes .dbgEnter s (fun t => t = s)) ∧
  (∀ s : State,
    Completes .laserSafe s (fun t => t.core.opc.lsafe = true ∧ t.core.opc.acc = none ∧
      (s.core.opc.lsafe = false → ∀ n : Fin 16, (t.core.optic n).txdis = true) ∧ t.aon.mop.op = 2 ∧ t.aon.mop.st = stOk ∧
      t.aon.mop.arm = none ∧ t.core.fns = s.core.fns ∧ t.core.cip = s.core.cip ∧ t.nvm = s.nvm ∧ t.otp = s.otp ∧
      t.aon.boot = s.aon.boot ∧ t.aon.pwr = s.aon.pwr)) ∧
  (∀ s : State, s.armed 3 = true →
    Completes .hardReset s (fun t => t.aon.mop.op = 3 ∧ t.aon.mop.st = stOk ∧ t.aon.mop.arm = none ∧
      t.nvm.bootNum = s.nvm.bootNum + 1 ∧ t.aon.boot.warm = true ∧ t.aon.boot.step = 1 ∧ t.core.tbl.cells = [] ∧
      t.core.cip.kek = none ∧ t.otp.kek = s.otp.kek ∧ t.nvm.slots = s.nvm.slots ∧ t.aon.pwr.pst = s.aon.pwr.pst)) ∧
  (∀ s : State,
    Completes .readPower s (fun t => t.aon.mop.op = 4 ∧ t.aon.mop.st = stOk ∧ t.aon.mop.arm = none ∧
      (∀ n, n < 48 → t.aon.tb Reg.SUP_MRES_TBL n = (s.aon.pwr.sensor n).powerWord % 2 ^ 32) ∧
      t.aon.tb Reg.SUP_MRES_TBL 48 = s.aon.pwr.vin % 2 ^ 32 ∧ t.aon.tb Reg.SUP_MRES_TBL 49 = s.aon.pwr.iin % 2 ^ 32 ∧
      t.aon.tb Reg.SUP_MRES_TBL 50 = s.aon.pwr.pin % 2 ^ 32 ∧
      (∀ r, r < 16 → t.aon.tb Reg.SUP_MRES_TBL (51 + r) = s.aon.pwr.rails.get 0 r % 2 ^ 32) ∧
      bitAt (t.aon.tb Reg.SUP_MRES_TBL 67) 0 = s.aon.pwr.trip ∧ t.aon.pwr = s.aon.pwr ∧ t.nvm = s.nvm ∧ t.otp = s.otp ∧
      s.core.onlyParts [.free] t.core)) ∧
  (∀ s : State,
    Completes .readEvents s (fun t => t.aon.mop.op = 5 ∧ t.aon.mop.st = stOk ∧ t.aon.mop.arm = none ∧
      (∀ (i : Nat) (e : Event), s.aon.store[i]? = some e → i < 64 →
        ∀ w, w < 8 → t.aon.tb Reg.SUP_MRES_TBL (8 * i + w) = e.word w) ∧
      (∀ w, 8 * s.aon.store.length ≤ w → w < 512 → t.aon.tb Reg.SUP_MRES_TBL w = 0) ∧ t.nvm = s.nvm ∧ t.otp = s.otp ∧
      s.core.onlyParts [.free] t.core)) ∧
  (∀ s : State,
    Completes .readJournal s (fun t => t.aon.mop.op = 6 ∧ t.aon.mop.st = stOk ∧ t.aon.mop.arm = none ∧
      (∀ w, w < 512 → t.aon.tb Reg.SUP_MRES_TBL w = s.nvm.journalWord w % 2 ^ 32) ∧ t.nvm = s.nvm ∧ t.otp = s.otp ∧
      s.core.onlyParts [.free] t.core))

/-- ASTER_SCHEDULE, ASTER_CANCEL, ASTER_LATCH, ASTER_DONE, EVENT_LOG_WRITE, DATAGRAM_SEND, TLM_FRAME_RX and TLM_LINK_CHANGE: R451, R452, R454, R455, R456, R458, R459. The length of a PAUSE quantum is the model's choice (assumption log). -/
def Obligations.AsterLogAndExport : Prop :=
  (∀ (T : Nat) (s : State), s.answers = true → T = s.core.rd Reg.MGT_ASTER_T_LO + 2 ^ 32 * s.core.rd Reg.MGT_ASTER_T_HI →
    Completes .asterSchedule s (fun t =>
      (T < s.core.gns + 10000 → t.core.mgt.asterT = s.core.mgt.asterT ∧ t.core.fd Reg.MGT_STAT 7 0 = stRange) ∧
      (s.core.gns + 10000 ≤ T → s.core.mgt.asterT = none → t.core.mgt.asterT = some T ∧ t.core.fd Reg.MGT_STAT 7 0 = stOk) ∧
      (∀ u, s.core.gns + 10000 ≤ T → s.core.mgt.asterT = some u → u ≠ T → t.core.mgt.asterT = some u ∧
        t.core.fd Reg.MGT_STAT 7 0 = stBusy) ∧
      s.only [.mgt] [Reg.MGT_STAT] t)) ∧
  (∀ s : State, s.answers = true →
    Completes .asterCancel s (fun t =>
      (s.core.mgt.asterT ≠ none → s.core.mgt.latching = false → t.core.mgt.asterT = none ∧ t.core.fd Reg.MGT_STAT 7 0 = stOk) ∧
      (s.core.mgt.asterT = none ∨ s.core.mgt.latching = true → t.core.mgt.asterT = s.core.mgt.asterT ∧
        t.core.fd Reg.MGT_STAT 7 0 = stRange) ∧
      s.only [.mgt] [Reg.MGT_STAT] t)) ∧
  (∀ (T : Nat) (s : State), s.core.mgt.asterT = some T → s.core.mgt.latching = false → T ≤ s.core.gns →
    Completes .asterLatch s (fun t => t.core.mgt.latching = true ∧ t.core.mgt.asterT = some T ∧
      (∀ a, a < 2 ^ 24 → shadowed a = true → t.core.shad.get 0 a = s.core.regs.get 0 a ∧
        t.aon.shad.get 0 a = s.aon.regs.get 0 a) ∧
      (∀ a, t.core.rd a = if restarts a = true then (regReset a).toNat else s.core.rd a) ∧
      (∀ a, t.aon.rd a = if restarts a = true then (regReset a).toNat else s.aon.rd a) ∧
      t.core.mgt.gen = s.core.mgt.gen ∧ t.aon.boot = s.aon.boot ∧ t.nvm = s.nvm ∧ t.otp = s.otp ∧
      s.core.onlyParts [.shad, .tbl, .mgt] t.core)) ∧
  (∀ (T : Nat) (s : State), s.core.mgt.asterT = some T → s.core.mgt.latching = true →
    Completes .asterDone s (fun t => t.core.mgt.asterT = none ∧ t.core.mgt.latching = false ∧
      t.core.mgt.gen = (s.core.mgt.gen + 1) % 65536 ∧ s.only [.mgt, .tlm] [Reg.TLM_DROP_CNT] t)) ∧
  (∀ (e : Event) (l : List Event) (s : State), s.core.evl.running = true → s.core.evl.intake = e :: l →
    s.core.evl.dropped = 0 →
    Completes .eventLogWrite s (fun t =>
      t.core.rd Reg.EVL_WRITTEN = (s.core.rd Reg.EVL_WRITTEN + 1) % 2 ^ 32 ∧
      (∀ w, w < 8 → t.core.tb Reg.EVL_LOG_TBL (8 * (s.core.rd Reg.EVL_WRITTEN % 65536) + w) = e.word w) ∧
      l <+: t.core.evl.intake ∧ t.aon.store.getLast? = some e ∧
      s.only [.tbl, .psn, .tlm] [Reg.EVL_WRITTEN, Reg.TLM_DROP_CNT] t)) ∧
  (∀ (n : Nat) (s : State), n = tlmFit 24 s.core.tlm.fifo → n ≠ 0 → s.core.tlm.link = true →
    s.core.tlm.pauseTill ≤ s.core.now → n < s.core.tlm.fifo.length ∨ s.core.tlm.curT + 10000 ≤ s.core.now →
    Completes .datagramSend s (fun t => t.core.tlm.fifo = s.core.tlm.fifo.drop n ∧
      t.core.tlm.seq = (s.core.tlm.seq + 1) % 2 ^ 32 ∧
      t.core.rd Reg.TLM_DGRAM_CNT = min (s.core.rd Reg.TLM_DGRAM_CNT + 1) (2 ^ 32 - 1) ∧
      s.only [.tlm, .free] [Reg.TLM_DGRAM_CNT] t)) ∧
  (∀ s : State, s.core.tlm.link = false ∨ s.core.now < s.core.tlm.pauseTill →
    Completes .datagramSend s (fun t => s.only [] [] t)) ∧
  (∀ (q : Nat) (s : State), bitAt (s.core.rd Reg.TLM_CFG) 29 = true →
    Completes (.tlmFrameRx (.pause q)) s (fun t => t.core.tlm = { s.core.tlm with pauseTill := s.core.now + q % 65536 * 512 / 25 } ∧
      s.only [.tlm] [] t)) ∧
  (∀ s : State,
    Completes (.tlmFrameRx .other) s (fun t =>
      t.core.rd Reg.TLM_RXDISC_CNT = min (s.core.rd Reg.TLM_RXDISC_CNT + 1) (2 ^ 32 - 1) ∧ s.only [] [Reg.TLM_RXDISC_CNT] t)) ∧
  (∀ (up : Bool) (s : State),
    Completes (.tlmLinkChange up) s (fun t => t.core.tlm.link = up ∧
      t.core.tlm.seq = (if up = true then 0 else s.core.tlm.seq) ∧ t.core.tlm.fifo = s.core.tlm.fifo ∧ s.only [.tlm] [] t))

/-- Flow commands that have no effect: R99. -/
def Obligations.FlowCommandsWithoutEffect : Prop :=
  ∀ (c : Instr) (f : Fin 16384) (st : Nat) (s : State), s.answers = true →
    (c = .flowEnable f ∧ s.core.fst (.flow f) = .on ∧ st = stOk) ∨
    (c = .flowDisable f ∧ s.core.fst (.flow f) = .off ∧ st = stOk) ∨
    (c = .flowEnable f ∧ s.core.fst (.flow f) = .faulted ∧ st = stBusy) →
    Completes c s (fun t => t.core.fd Reg.FCS_STAT 7 0 = st ∧
      t.core.fns = s.core.fns.set {} (FnId.code (.flow f)) { s.core.fn (.flow f) with last := st } ∧
      s.only [.fns] [Reg.FCS_STAT] t)

/-- The escape table and FRT_ESC_PORTDIR are written only while the router is OFF: R82. The window's own STATUS shows the same status (00_scope R11). -/
def Obligations.EscapeRoutesHeldWhileRouterRuns : Prop :=
  (∀ (p : Path) (v : Word) (s : State), s.aon.pwr.vinOk = true → s.answers = true → s.core.cle.failQ = [] →
    Completes (.registerWrite p (word Reg.FRT_ESC_PORTDIR) v) s (fun t =>
      (s.core.fst .router = .off → t.core.rd Reg.FRT_ESC_PORTDIR = v.toNat ∧ t.core.fd Reg.FRT_STAT 7 0 = stOk) ∧
      (s.core.fst .router ≠ .off → t.core.rd Reg.FRT_ESC_PORTDIR = s.core.rd Reg.FRT_ESC_PORTDIR ∧
        t.core.fd Reg.FRT_STAT 7 0 = stBusy) ∧
      s.only [.mgt] [Reg.FRT_ESC_PORTDIR, Reg.FRT_STAT, Reg.MGT_STAT] t)) ∧
  (∀ (p : Path) (v : Word) (w : Nat) (s : State), s.aon.pwr.vinOk = true → s.answers = true → s.core.cle.failQ = [] →
    w = s.core.fd Reg.FRT_ESC_TBL 23 0 → w < 65536 →
    Completes (.windowDataAccess p (word (Reg.FRT_ESC_TBL + 4)) (some v)) s (fun t =>
      (s.core.fst .router = .off → t.core.tb Reg.FRT_ESC_TBL w = v.toNat &&& 0xDFDFDFDF ∧
        t.core.fd Reg.FRT_ESC_TBL 23 0 = w + 1 ∧ t.core.fd Reg.FRT_STAT 7 0 = stOk ∧
        (∀ j, j < 65536 → j ≠ w → t.core.tb Reg.FRT_ESC_TBL j = s.core.tb Reg.FRT_ESC_TBL j) ∧
        s.only [.mgt, .tbl] [Reg.FRT_ESC_TBL, Reg.FRT_STAT, Reg.MGT_STAT] t) ∧
      (s.core.fst .router ≠ .off → t.core.fd Reg.FRT_ESC_TBL 23 0 = w ∧ t.core.fd Reg.FRT_STAT 7 0 = stBusy ∧
        s.only [.mgt] [Reg.FRT_ESC_TBL, Reg.FRT_STAT, Reg.MGT_STAT] t)))

/-- CLK_STAT shows the reference and the locked PLLs and is read only: R492. -/
def Obligations.ClockStatusRegister : Prop :=
  (∀ (s : State) (mg : Bool), (s.readReg 0x60000 mg).1 = s ∧
    bitAt (s.readReg 0x60000 mg).2.1 31 = s.aon.pwr.refclk ∧
    (∀ i : Fin 16, bitAt (s.readReg 0x60000 mg).2.1 i = bitAt s.aon.pwr.lock i) ∧
    (∀ i, 16 ≤ i → i < 31 → bitAt (s.readReg 0x60000 mg).2.1 i = false)) ∧
  (∀ (s : State) (v : Nat) (mg : Bool), (s.writeReg 0x60000 v mg).1 = s) ∧
  (∀ mg : Bool, (State.reset.readReg 0x60000 mg).2.1 = 0)

/-- A 64-bit value is read as one value: R9. -/
def Obligations.SixtyFourBitPairs : Prop :=
  ∀ (s t : State) (a i : Nat) (r : RegRow) (mg mg' : Bool), regAt a = some (r, i) →
    r.acc = .roLo ∨ r.acc = .rwLo ∨ r.acc = .cumLo →
    (s.readReg a mg).2.1 = s.view a i ∧
    (t.core.hold = (s.readReg a mg).1.core.hold → t.aon.hold = (s.readReg a mg).1.aon.hold →
      (t.readReg (a + 4) mg').2.1 = s.view (a + 4) i % 2 ^ 32 ∧
      ((t.readReg (a + 4) mg').1.readReg (a + 4) mg').2.1 = (t.readReg (a + 4) mg').1.view (a + 4) i) ∧
    (t.core.hold.get none (a + 4) = none → t.aon.hold.get none (a + 4) = none →
      (t.readReg (a + 4) mg').2.1 = t.view (a + 4) i)

/-- The default rule of arbitration picks the first claimer at or after the pointer: R24. -/
def Obligations.RoundRobinGrantsTheNextClaimer : Prop :=
  ∀ (n ptr : Nat) (claims : Nat → Bool), 0 < n →
    (∀ w, rrPick n ptr claims = some w ↔ w < n ∧ claims w = true ∧
      ∀ j, j < n → claims j = true → (w + n - ptr % n) % n ≤ (j + n - ptr % n) % n) ∧
    (rrPick n ptr claims = none ↔ ∀ j, j < n → claims j = false)

/-- What is encrypted decrypts to the same bytes and verifies: R225. -/
def Obligations.CipherRoundTrip : Prop :=
  ∀ (key : BitVec 256) (iv aad pt : List Byte), iv.length = 12 →
    (gcmEncrypt key iv aad pt).1.length = pt.length ∧
    gcmDecrypt key iv aad (gcmEncrypt key iv aad pt).1 (gcmEncrypt key iv aad pt).2 = (pt, true)

/-- Descrambling a scrambled frame gives the frame back: R304. -/
def Obligations.ScramblerUndoesItself : Prop :=
  ∀ f : List Byte, (scrambleFrame f).length = f.length ∧ (scrambleFrame f).take 7 = f.take 7 ∧
    scrambleFrame (scrambleFrame f) = f

/-- What reset leaves is safe: R426, R465, R472, R489. That the factory state of the OTP banks is unwritten is the model's reading. -/
def Obligations.ResetIsSafe : Prop :=
  State.reset.pending = [] ∧ Memory.wf State.reset.core.mem = true ∧ State.reset.otp.inLimits ∧ State.reset.otp.noSession ∧
  State.reset.aon.pwr.pst = .standby ∧ State.reset.aon.pwr.quar.cells = [] ∧ State.reset.stepRuns = false

/-- No step writes an OTP setting more often than it may be written: R426, R427. -/
def Obligations.OtpLimitsKept : Prop :=
  ∀ s t : State, step s = .next t → s.otp.inLimits → t.otp.inLimits

/-- Once debug is locked no step opens a debug session, and the lock stays: R465. -/
def Obligations.DebugLockKept : Prop :=
  ∀ s t : State, step s = .next t → s.otp.noSession → t.otp.noSession ∧ (s.otp.locked = true → t.otp.locked = true)

/-- Every step keeps the memory in its canonical form: R196, R199. -/
def Obligations.MemoryStaysCanonical : Prop :=
  ∀ s t : State, step s = .next t → Memory.wf s.core.mem = true → Memory.wf t.core.mem = true

/-- An OTP setting changes only at the end of its write, and comes into force for the gateway only at a start: R426, R427, R428. -/
def Obligations.OtpSettingsChangeOnlyWhereTheyMay : Prop :=
  ∀ (c : Instr) (s t : State), exec c s = .next t →
    (c ≠ .otpWriteDone → t.otp.kek = s.otp.kek ∧ t.otp.kekGen = s.otp.kekGen ∧ t.otp.rollback = s.otp.rollback ∧
      t.otp.locked = s.otp.locked ∧ t.otp.siteNext = s.otp.siteNext ∧ t.otp.lineNext = s.otp.lineNext ∧
      t.otp.rootNext = s.otp.rootNext) ∧
    (t.nvm.bootNum = s.nvm.bootNum → t.otp.siteVal = s.otp.siteVal ∧ t.otp.lineMask = s.otp.lineMask ∧
      t.otp.root = s.otp.root)

/-- No read of a register or window depends on key material: R228, R246. -/
def Obligations.KeysCannotBeRead : Prop :=
  ∀ (s s' : State) (a : Nat) (mg : Bool), s.blind = s'.blind → (s.readReg a mg).2 = (s'.readReg a mg).2
end

