-- ==== Sys2Proof/Laws/State.lean ====
section
/-!
SUPPORT. One law per part of the core and update of Machine/Ops.lean: every part an update does not name stands.
-/

namespace Sys2Proof.Machine

variable (k : Core)

/-! ### wr -/

@[simp] theorem Core.wr_tbl (a v : Nat) : (k.wr a v).tbl = k.tbl := (rfl)
@[simp] theorem Core.wr_shad (a v : Nat) : (k.wr a v).shad = k.shad := (rfl)
@[simp] theorem Core.wr_hold (a v : Nat) : (k.wr a v).hold = k.hold := (rfl)
@[simp] theorem Core.wr_shHold (a v : Nat) : (k.wr a v).shHold = k.shHold := (rfl)
@[simp] theorem Core.wr_fns (a v : Nat) : (k.wr a v).fns = k.fns := (rfl)
@[simp] theorem Core.wr_tim (a v : Nat) : (k.wr a v).tim = k.tim := (rfl)
@[simp] theorem Core.wr_ttx (a v : Nat) : (k.wr a v).ttx = k.ttx := (rfl)
@[simp] theorem Core.wr_evl (a v : Nat) : (k.wr a v).evl = k.evl := (rfl)
@[simp] theorem Core.wr_mgt (a v : Nat) : (k.wr a v).mgt = k.mgt := (rfl)
@[simp] theorem Core.wr_tlm (a v : Nat) : (k.wr a v).tlm = k.tlm := (rfl)
@[simp] theorem Core.wr_fpc (a v : Nat) : (k.wr a v).fpc = k.fpc := (rfl)
@[simp] theorem Core.wr_frt (a v : Nat) : (k.wr a v).frt = k.frt := (rfl)
@[simp] theorem Core.wr_fcs (a v : Nat) : (k.wr a v).fcs = k.fcs := (rfl)
@[simp] theorem Core.wr_mem (a v : Nat) : (k.wr a v).mem = k.mem := (rfl)
@[simp] theorem Core.wr_psn (a v : Nat) : (k.wr a v).psn = k.psn := (rfl)
@[simp] theorem Core.wr_bpm (a v : Nat) : (k.wr a v).bpm = k.bpm := (rfl)
@[simp] theorem Core.wr_hbc (a v : Nat) : (k.wr a v).hbc = k.hbc := (rfl)
@[simp] theorem Core.wr_cle (a v : Nat) : (k.wr a v).cle = k.cle := (rfl)
@[simp] theorem Core.wr_site (a v : Nat) : (k.wr a v).site = k.site := (rfl)
@[simp] theorem Core.wr_xfm (a v : Nat) : (k.wr a v).xfm = k.xfm := (rfl)
@[simp] theorem Core.wr_cip (a v : Nat) : (k.wr a v).cip = k.cip := (rfl)
@[simp] theorem Core.wr_sch (a v : Nat) : (k.wr a v).sch = k.sch := (rfl)
@[simp] theorem Core.wr_shpr (a v : Nat) : (k.wr a v).shpr = k.shpr := (rfl)
@[simp] theorem Core.wr_lport (a v : Nat) : (k.wr a v).lport = k.lport := (rfl)
@[simp] theorem Core.wr_lgrp (a v : Nat) : (k.wr a v).lgrp = k.lgrp := (rfl)
@[simp] theorem Core.wr_opc (a v : Nat) : (k.wr a v).opc = k.opc := (rfl)
@[simp] theorem Core.wr_ident (a v : Nat) : (k.wr a v).ident = k.ident := (rfl)
@[simp] theorem Core.wr_dseq (a v : Nat) : (k.wr a v).dseq = k.dseq := (rfl)
@[simp] theorem Core.wr_desc (a v : Nat) : (k.wr a v).desc = k.desc := (rfl)
@[simp] theorem Core.wr_svc (a v : Nat) : (k.wr a v).svc = k.svc := (rfl)
@[simp] theorem Core.wr_free (a v : Nat) : (k.wr a v).free = k.free := (rfl)

/-! ### wrf -/

@[simp] theorem Core.wrf_tbl (a h l v : Nat) : (k.wrf a h l v).tbl = k.tbl := (rfl)
@[simp] theorem Core.wrf_shad (a h l v : Nat) : (k.wrf a h l v).shad = k.shad := (rfl)
@[simp] theorem Core.wrf_hold (a h l v : Nat) : (k.wrf a h l v).hold = k.hold := (rfl)
@[simp] theorem Core.wrf_shHold (a h l v : Nat) : (k.wrf a h l v).shHold = k.shHold := (rfl)
@[simp] theorem Core.wrf_fns (a h l v : Nat) : (k.wrf a h l v).fns = k.fns := (rfl)
@[simp] theorem Core.wrf_tim (a h l v : Nat) : (k.wrf a h l v).tim = k.tim := (rfl)
@[simp] theorem Core.wrf_ttx (a h l v : Nat) : (k.wrf a h l v).ttx = k.ttx := (rfl)
@[simp] theorem Core.wrf_evl (a h l v : Nat) : (k.wrf a h l v).evl = k.evl := (rfl)
@[simp] theorem Core.wrf_mgt (a h l v : Nat) : (k.wrf a h l v).mgt = k.mgt := (rfl)
@[simp] theorem Core.wrf_tlm (a h l v : Nat) : (k.wrf a h l v).tlm = k.tlm := (rfl)
@[simp] theorem Core.wrf_fpc (a h l v : Nat) : (k.wrf a h l v).fpc = k.fpc := (rfl)
@[simp] theorem Core.wrf_frt (a h l v : Nat) : (k.wrf a h l v).frt = k.frt := (rfl)
@[simp] theorem Core.wrf_fcs (a h l v : Nat) : (k.wrf a h l v).fcs = k.fcs := (rfl)
@[simp] theorem Core.wrf_mem (a h l v : Nat) : (k.wrf a h l v).mem = k.mem := (rfl)
@[simp] theorem Core.wrf_psn (a h l v : Nat) : (k.wrf a h l v).psn = k.psn := (rfl)
@[simp] theorem Core.wrf_bpm (a h l v : Nat) : (k.wrf a h l v).bpm = k.bpm := (rfl)
@[simp] theorem Core.wrf_hbc (a h l v : Nat) : (k.wrf a h l v).hbc = k.hbc := (rfl)
@[simp] theorem Core.wrf_cle (a h l v : Nat) : (k.wrf a h l v).cle = k.cle := (rfl)
@[simp] theorem Core.wrf_site (a h l v : Nat) : (k.wrf a h l v).site = k.site := (rfl)
@[simp] theorem Core.wrf_xfm (a h l v : Nat) : (k.wrf a h l v).xfm = k.xfm := (rfl)
@[simp] theorem Core.wrf_cip (a h l v : Nat) : (k.wrf a h l v).cip = k.cip := (rfl)
@[simp] theorem Core.wrf_sch (a h l v : Nat) : (k.wrf a h l v).sch = k.sch := (rfl)
@[simp] theorem Core.wrf_shpr (a h l v : Nat) : (k.wrf a h l v).shpr = k.shpr := (rfl)
@[simp] theorem Core.wrf_lport (a h l v : Nat) : (k.wrf a h l v).lport = k.lport := (rfl)
@[simp] theorem Core.wrf_lgrp (a h l v : Nat) : (k.wrf a h l v).lgrp = k.lgrp := (rfl)
@[simp] theorem Core.wrf_opc (a h l v : Nat) : (k.wrf a h l v).opc = k.opc := (rfl)
@[simp] theorem Core.wrf_ident (a h l v : Nat) : (k.wrf a h l v).ident = k.ident := (rfl)
@[simp] theorem Core.wrf_dseq (a h l v : Nat) : (k.wrf a h l v).dseq = k.dseq := (rfl)
@[simp] theorem Core.wrf_desc (a h l v : Nat) : (k.wrf a h l v).desc = k.desc := (rfl)
@[simp] theorem Core.wrf_svc (a h l v : Nat) : (k.wrf a h l v).svc = k.svc := (rfl)
@[simp] theorem Core.wrf_free (a h l v : Nat) : (k.wrf a h l v).free = k.free := (rfl)

/-! ### cntN -/

@[simp] theorem Core.cntN_tbl (a n : Nat) : (k.cntN a n).tbl = k.tbl := (rfl)
@[simp] theorem Core.cntN_shad (a n : Nat) : (k.cntN a n).shad = k.shad := (rfl)
@[simp] theorem Core.cntN_hold (a n : Nat) : (k.cntN a n).hold = k.hold := (rfl)
@[simp] theorem Core.cntN_shHold (a n : Nat) : (k.cntN a n).shHold = k.shHold := (rfl)
@[simp] theorem Core.cntN_fns (a n : Nat) : (k.cntN a n).fns = k.fns := (rfl)
@[simp] theorem Core.cntN_tim (a n : Nat) : (k.cntN a n).tim = k.tim := (rfl)
@[simp] theorem Core.cntN_ttx (a n : Nat) : (k.cntN a n).ttx = k.ttx := (rfl)
@[simp] theorem Core.cntN_evl (a n : Nat) : (k.cntN a n).evl = k.evl := (rfl)
@[simp] theorem Core.cntN_mgt (a n : Nat) : (k.cntN a n).mgt = k.mgt := (rfl)
@[simp] theorem Core.cntN_tlm (a n : Nat) : (k.cntN a n).tlm = k.tlm := (rfl)
@[simp] theorem Core.cntN_fpc (a n : Nat) : (k.cntN a n).fpc = k.fpc := (rfl)
@[simp] theorem Core.cntN_frt (a n : Nat) : (k.cntN a n).frt = k.frt := (rfl)
@[simp] theorem Core.cntN_fcs (a n : Nat) : (k.cntN a n).fcs = k.fcs := (rfl)
@[simp] theorem Core.cntN_mem (a n : Nat) : (k.cntN a n).mem = k.mem := (rfl)
@[simp] theorem Core.cntN_psn (a n : Nat) : (k.cntN a n).psn = k.psn := (rfl)
@[simp] theorem Core.cntN_bpm (a n : Nat) : (k.cntN a n).bpm = k.bpm := (rfl)
@[simp] theorem Core.cntN_hbc (a n : Nat) : (k.cntN a n).hbc = k.hbc := (rfl)
@[simp] theorem Core.cntN_cle (a n : Nat) : (k.cntN a n).cle = k.cle := (rfl)
@[simp] theorem Core.cntN_site (a n : Nat) : (k.cntN a n).site = k.site := (rfl)
@[simp] theorem Core.cntN_xfm (a n : Nat) : (k.cntN a n).xfm = k.xfm := (rfl)
@[simp] theorem Core.cntN_cip (a n : Nat) : (k.cntN a n).cip = k.cip := (rfl)
@[simp] theorem Core.cntN_sch (a n : Nat) : (k.cntN a n).sch = k.sch := (rfl)
@[simp] theorem Core.cntN_shpr (a n : Nat) : (k.cntN a n).shpr = k.shpr := (rfl)
@[simp] theorem Core.cntN_lport (a n : Nat) : (k.cntN a n).lport = k.lport := (rfl)
@[simp] theorem Core.cntN_lgrp (a n : Nat) : (k.cntN a n).lgrp = k.lgrp := (rfl)
@[simp] theorem Core.cntN_opc (a n : Nat) : (k.cntN a n).opc = k.opc := (rfl)
@[simp] theorem Core.cntN_ident (a n : Nat) : (k.cntN a n).ident = k.ident := (rfl)
@[simp] theorem Core.cntN_dseq (a n : Nat) : (k.cntN a n).dseq = k.dseq := (rfl)
@[simp] theorem Core.cntN_desc (a n : Nat) : (k.cntN a n).desc = k.desc := (rfl)
@[simp] theorem Core.cntN_svc (a n : Nat) : (k.cntN a n).svc = k.svc := (rfl)
@[simp] theorem Core.cntN_free (a n : Nat) : (k.cntN a n).free = k.free := (rfl)

/-! ### cnt -/

@[simp] theorem Core.cnt_tbl (a : Nat) : (k.cnt a).tbl = k.tbl := (rfl)
@[simp] theorem Core.cnt_shad (a : Nat) : (k.cnt a).shad = k.shad := (rfl)
@[simp] theorem Core.cnt_hold (a : Nat) : (k.cnt a).hold = k.hold := (rfl)
@[simp] theorem Core.cnt_shHold (a : Nat) : (k.cnt a).shHold = k.shHold := (rfl)
@[simp] theorem Core.cnt_fns (a : Nat) : (k.cnt a).fns = k.fns := (rfl)
@[simp] theorem Core.cnt_tim (a : Nat) : (k.cnt a).tim = k.tim := (rfl)
@[simp] theorem Core.cnt_ttx (a : Nat) : (k.cnt a).ttx = k.ttx := (rfl)
@[simp] theorem Core.cnt_evl (a : Nat) : (k.cnt a).evl = k.evl := (rfl)
@[simp] theorem Core.cnt_mgt (a : Nat) : (k.cnt a).mgt = k.mgt := (rfl)
@[simp] theorem Core.cnt_tlm (a : Nat) : (k.cnt a).tlm = k.tlm := (rfl)
@[simp] theorem Core.cnt_fpc (a : Nat) : (k.cnt a).fpc = k.fpc := (rfl)
@[simp] theorem Core.cnt_frt (a : Nat) : (k.cnt a).frt = k.frt := (rfl)
@[simp] theorem Core.cnt_fcs (a : Nat) : (k.cnt a).fcs = k.fcs := (rfl)
@[simp] theorem Core.cnt_mem (a : Nat) : (k.cnt a).mem = k.mem := (rfl)
@[simp] theorem Core.cnt_psn (a : Nat) : (k.cnt a).psn = k.psn := (rfl)
@[simp] theorem Core.cnt_bpm (a : Nat) : (k.cnt a).bpm = k.bpm := (rfl)
@[simp] theorem Core.cnt_hbc (a : Nat) : (k.cnt a).hbc = k.hbc := (rfl)
@[simp] theorem Core.cnt_cle (a : Nat) : (k.cnt a).cle = k.cle := (rfl)
@[simp] theorem Core.cnt_site (a : Nat) : (k.cnt a).site = k.site := (rfl)
@[simp] theorem Core.cnt_xfm (a : Nat) : (k.cnt a).xfm = k.xfm := (rfl)
@[simp] theorem Core.cnt_cip (a : Nat) : (k.cnt a).cip = k.cip := (rfl)
@[simp] theorem Core.cnt_sch (a : Nat) : (k.cnt a).sch = k.sch := (rfl)
@[simp] theorem Core.cnt_shpr (a : Nat) : (k.cnt a).shpr = k.shpr := (rfl)
@[simp] theorem Core.cnt_lport (a : Nat) : (k.cnt a).lport = k.lport := (rfl)
@[simp] theorem Core.cnt_lgrp (a : Nat) : (k.cnt a).lgrp = k.lgrp := (rfl)
@[simp] theorem Core.cnt_opc (a : Nat) : (k.cnt a).opc = k.opc := (rfl)
@[simp] theorem Core.cnt_ident (a : Nat) : (k.cnt a).ident = k.ident := (rfl)
@[simp] theorem Core.cnt_dseq (a : Nat) : (k.cnt a).dseq = k.dseq := (rfl)
@[simp] theorem Core.cnt_desc (a : Nat) : (k.cnt a).desc = k.desc := (rfl)
@[simp] theorem Core.cnt_svc (a : Nat) : (k.cnt a).svc = k.svc := (rfl)
@[simp] theorem Core.cnt_free (a : Nat) : (k.cnt a).free = k.free := (rfl)

/-! ### cum -/

@[simp] theorem Core.cum_tbl (a n : Nat) : (k.cum a n).tbl = k.tbl := (rfl)
@[simp] theorem Core.cum_shad (a n : Nat) : (k.cum a n).shad = k.shad := (rfl)
@[simp] theorem Core.cum_hold (a n : Nat) : (k.cum a n).hold = k.hold := (rfl)
@[simp] theorem Core.cum_shHold (a n : Nat) : (k.cum a n).shHold = k.shHold := (rfl)
@[simp] theorem Core.cum_fns (a n : Nat) : (k.cum a n).fns = k.fns := (rfl)
@[simp] theorem Core.cum_tim (a n : Nat) : (k.cum a n).tim = k.tim := (rfl)
@[simp] theorem Core.cum_ttx (a n : Nat) : (k.cum a n).ttx = k.ttx := (rfl)
@[simp] theorem Core.cum_evl (a n : Nat) : (k.cum a n).evl = k.evl := (rfl)
@[simp] theorem Core.cum_mgt (a n : Nat) : (k.cum a n).mgt = k.mgt := (rfl)
@[simp] theorem Core.cum_tlm (a n : Nat) : (k.cum a n).tlm = k.tlm := (rfl)
@[simp] theorem Core.cum_fpc (a n : Nat) : (k.cum a n).fpc = k.fpc := (rfl)
@[simp] theorem Core.cum_frt (a n : Nat) : (k.cum a n).frt = k.frt := (rfl)
@[simp] theorem Core.cum_fcs (a n : Nat) : (k.cum a n).fcs = k.fcs := (rfl)
@[simp] theorem Core.cum_mem (a n : Nat) : (k.cum a n).mem = k.mem := (rfl)
@[simp] theorem Core.cum_psn (a n : Nat) : (k.cum a n).psn = k.psn := (rfl)
@[simp] theorem Core.cum_bpm (a n : Nat) : (k.cum a n).bpm = k.bpm := (rfl)
@[simp] theorem Core.cum_hbc (a n : Nat) : (k.cum a n).hbc = k.hbc := (rfl)
@[simp] theorem Core.cum_cle (a n : Nat) : (k.cum a n).cle = k.cle := (rfl)
@[simp] theorem Core.cum_site (a n : Nat) : (k.cum a n).site = k.site := (rfl)
@[simp] theorem Core.cum_xfm (a n : Nat) : (k.cum a n).xfm = k.xfm := (rfl)
@[simp] theorem Core.cum_cip (a n : Nat) : (k.cum a n).cip = k.cip := (rfl)
@[simp] theorem Core.cum_sch (a n : Nat) : (k.cum a n).sch = k.sch := (rfl)
@[simp] theorem Core.cum_shpr (a n : Nat) : (k.cum a n).shpr = k.shpr := (rfl)
@[simp] theorem Core.cum_lport (a n : Nat) : (k.cum a n).lport = k.lport := (rfl)
@[simp] theorem Core.cum_lgrp (a n : Nat) : (k.cum a n).lgrp = k.lgrp := (rfl)
@[simp] theorem Core.cum_opc (a n : Nat) : (k.cum a n).opc = k.opc := (rfl)
@[simp] theorem Core.cum_ident (a n : Nat) : (k.cum a n).ident = k.ident := (rfl)
@[simp] theorem Core.cum_dseq (a n : Nat) : (k.cum a n).dseq = k.dseq := (rfl)
@[simp] theorem Core.cum_desc (a n : Nat) : (k.cum a n).desc = k.desc := (rfl)
@[simp] theorem Core.cum_svc (a n : Nat) : (k.cum a n).svc = k.svc := (rfl)
@[simp] theorem Core.cum_free (a n : Nat) : (k.cum a n).free = k.free := (rfl)

/-! ### tbw -/

@[simp] theorem Core.tbw_regs (w i v : Nat) : (k.tbw w i v).regs = k.regs := (rfl)
@[simp] theorem Core.tbw_shad (w i v : Nat) : (k.tbw w i v).shad = k.shad := (rfl)
@[simp] theorem Core.tbw_hold (w i v : Nat) : (k.tbw w i v).hold = k.hold := (rfl)
@[simp] theorem Core.tbw_shHold (w i v : Nat) : (k.tbw w i v).shHold = k.shHold := (rfl)
@[simp] theorem Core.tbw_fns (w i v : Nat) : (k.tbw w i v).fns = k.fns := (rfl)
@[simp] theorem Core.tbw_tim (w i v : Nat) : (k.tbw w i v).tim = k.tim := (rfl)
@[simp] theorem Core.tbw_ttx (w i v : Nat) : (k.tbw w i v).ttx = k.ttx := (rfl)
@[simp] theorem Core.tbw_evl (w i v : Nat) : (k.tbw w i v).evl = k.evl := (rfl)
@[simp] theorem Core.tbw_mgt (w i v : Nat) : (k.tbw w i v).mgt = k.mgt := (rfl)
@[simp] theorem Core.tbw_tlm (w i v : Nat) : (k.tbw w i v).tlm = k.tlm := (rfl)
@[simp] theorem Core.tbw_fpc (w i v : Nat) : (k.tbw w i v).fpc = k.fpc := (rfl)
@[simp] theorem Core.tbw_frt (w i v : Nat) : (k.tbw w i v).frt = k.frt := (rfl)
@[simp] theorem Core.tbw_fcs (w i v : Nat) : (k.tbw w i v).fcs = k.fcs := (rfl)
@[simp] theorem Core.tbw_mem (w i v : Nat) : (k.tbw w i v).mem = k.mem := (rfl)
@[simp] theorem Core.tbw_psn (w i v : Nat) : (k.tbw w i v).psn = k.psn := (rfl)
@[simp] theorem Core.tbw_bpm (w i v : Nat) : (k.tbw w i v).bpm = k.bpm := (rfl)
@[simp] theorem Core.tbw_hbc (w i v : Nat) : (k.tbw w i v).hbc = k.hbc := (rfl)
@[simp] theorem Core.tbw_cle (w i v : Nat) : (k.tbw w i v).cle = k.cle := (rfl)
@[simp] theorem Core.tbw_site (w i v : Nat) : (k.tbw w i v).site = k.site := (rfl)
@[simp] theorem Core.tbw_xfm (w i v : Nat) : (k.tbw w i v).xfm = k.xfm := (rfl)
@[simp] theorem Core.tbw_cip (w i v : Nat) : (k.tbw w i v).cip = k.cip := (rfl)
@[simp] theorem Core.tbw_sch (w i v : Nat) : (k.tbw w i v).sch = k.sch := (rfl)
@[simp] theorem Core.tbw_shpr (w i v : Nat) : (k.tbw w i v).shpr = k.shpr := (rfl)
@[simp] theorem Core.tbw_lport (w i v : Nat) : (k.tbw w i v).lport = k.lport := (rfl)
@[simp] theorem Core.tbw_lgrp (w i v : Nat) : (k.tbw w i v).lgrp = k.lgrp := (rfl)
@[simp] theorem Core.tbw_opc (w i v : Nat) : (k.tbw w i v).opc = k.opc := (rfl)
@[simp] theorem Core.tbw_ident (w i v : Nat) : (k.tbw w i v).ident = k.ident := (rfl)
@[simp] theorem Core.tbw_dseq (w i v : Nat) : (k.tbw w i v).dseq = k.dseq := (rfl)
@[simp] theorem Core.tbw_desc (w i v : Nat) : (k.tbw w i v).desc = k.desc := (rfl)
@[simp] theorem Core.tbw_svc (w i v : Nat) : (k.tbw w i v).svc = k.svc := (rfl)
@[simp] theorem Core.tbw_free (w i v : Nat) : (k.tbw w i v).free = k.free := (rfl)

/-! ### tbwf -/

@[simp] theorem Core.tbwf_regs (w i h l v : Nat) : (k.tbwf w i h l v).regs = k.regs := (rfl)
@[simp] theorem Core.tbwf_shad (w i h l v : Nat) : (k.tbwf w i h l v).shad = k.shad := (rfl)
@[simp] theorem Core.tbwf_hold (w i h l v : Nat) : (k.tbwf w i h l v).hold = k.hold := (rfl)
@[simp] theorem Core.tbwf_shHold (w i h l v : Nat) : (k.tbwf w i h l v).shHold = k.shHold := (rfl)
@[simp] theorem Core.tbwf_fns (w i h l v : Nat) : (k.tbwf w i h l v).fns = k.fns := (rfl)
@[simp] theorem Core.tbwf_tim (w i h l v : Nat) : (k.tbwf w i h l v).tim = k.tim := (rfl)
@[simp] theorem Core.tbwf_ttx (w i h l v : Nat) : (k.tbwf w i h l v).ttx = k.ttx := (rfl)
@[simp] theorem Core.tbwf_evl (w i h l v : Nat) : (k.tbwf w i h l v).evl = k.evl := (rfl)
@[simp] theorem Core.tbwf_mgt (w i h l v : Nat) : (k.tbwf w i h l v).mgt = k.mgt := (rfl)
@[simp] theorem Core.tbwf_tlm (w i h l v : Nat) : (k.tbwf w i h l v).tlm = k.tlm := (rfl)
@[simp] theorem Core.tbwf_fpc (w i h l v : Nat) : (k.tbwf w i h l v).fpc = k.fpc := (rfl)
@[simp] theorem Core.tbwf_frt (w i h l v : Nat) : (k.tbwf w i h l v).frt = k.frt := (rfl)
@[simp] theorem Core.tbwf_fcs (w i h l v : Nat) : (k.tbwf w i h l v).fcs = k.fcs := (rfl)
@[simp] theorem Core.tbwf_mem (w i h l v : Nat) : (k.tbwf w i h l v).mem = k.mem := (rfl)
@[simp] theorem Core.tbwf_psn (w i h l v : Nat) : (k.tbwf w i h l v).psn = k.psn := (rfl)
@[simp] theorem Core.tbwf_bpm (w i h l v : Nat) : (k.tbwf w i h l v).bpm = k.bpm := (rfl)
@[simp] theorem Core.tbwf_hbc (w i h l v : Nat) : (k.tbwf w i h l v).hbc = k.hbc := (rfl)
@[simp] theorem Core.tbwf_cle (w i h l v : Nat) : (k.tbwf w i h l v).cle = k.cle := (rfl)
@[simp] theorem Core.tbwf_site (w i h l v : Nat) : (k.tbwf w i h l v).site = k.site := (rfl)
@[simp] theorem Core.tbwf_xfm (w i h l v : Nat) : (k.tbwf w i h l v).xfm = k.xfm := (rfl)
@[simp] theorem Core.tbwf_cip (w i h l v : Nat) : (k.tbwf w i h l v).cip = k.cip := (rfl)
@[simp] theorem Core.tbwf_sch (w i h l v : Nat) : (k.tbwf w i h l v).sch = k.sch := (rfl)
@[simp] theorem Core.tbwf_shpr (w i h l v : Nat) : (k.tbwf w i h l v).shpr = k.shpr := (rfl)
@[simp] theorem Core.tbwf_lport (w i h l v : Nat) : (k.tbwf w i h l v).lport = k.lport := (rfl)
@[simp] theorem Core.tbwf_lgrp (w i h l v : Nat) : (k.tbwf w i h l v).lgrp = k.lgrp := (rfl)
@[simp] theorem Core.tbwf_opc (w i h l v : Nat) : (k.tbwf w i h l v).opc = k.opc := (rfl)
@[simp] theorem Core.tbwf_ident (w i h l v : Nat) : (k.tbwf w i h l v).ident = k.ident := (rfl)
@[simp] theorem Core.tbwf_dseq (w i h l v : Nat) : (k.tbwf w i h l v).dseq = k.dseq := (rfl)
@[simp] theorem Core.tbwf_desc (w i h l v : Nat) : (k.tbwf w i h l v).desc = k.desc := (rfl)
@[simp] theorem Core.tbwf_svc (w i h l v : Nat) : (k.tbwf w i h l v).svc = k.svc := (rfl)
@[simp] theorem Core.tbwf_free (w i h l v : Nat) : (k.tbwf w i h l v).free = k.free := (rfl)

/-! ### setFn -/

@[simp] theorem Core.setFn_regs (i : FnId) (f : Fn) : (k.setFn i f).regs = k.regs := (rfl)
@[simp] theorem Core.setFn_tbl (i : FnId) (f : Fn) : (k.setFn i f).tbl = k.tbl := (rfl)
@[simp] theorem Core.setFn_shad (i : FnId) (f : Fn) : (k.setFn i f).shad = k.shad := (rfl)
@[simp] theorem Core.setFn_hold (i : FnId) (f : Fn) : (k.setFn i f).hold = k.hold := (rfl)
@[simp] theorem Core.setFn_shHold (i : FnId) (f : Fn) : (k.setFn i f).shHold = k.shHold := (rfl)
@[simp] theorem Core.setFn_tim (i : FnId) (f : Fn) : (k.setFn i f).tim = k.tim := (rfl)
@[simp] theorem Core.setFn_ttx (i : FnId) (f : Fn) : (k.setFn i f).ttx = k.ttx := (rfl)
@[simp] theorem Core.setFn_evl (i : FnId) (f : Fn) : (k.setFn i f).evl = k.evl := (rfl)
@[simp] theorem Core.setFn_mgt (i : FnId) (f : Fn) : (k.setFn i f).mgt = k.mgt := (rfl)
@[simp] theorem Core.setFn_tlm (i : FnId) (f : Fn) : (k.setFn i f).tlm = k.tlm := (rfl)
@[simp] theorem Core.setFn_fpc (i : FnId) (f : Fn) : (k.setFn i f).fpc = k.fpc := (rfl)
@[simp] theorem Core.setFn_frt (i : FnId) (f : Fn) : (k.setFn i f).frt = k.frt := (rfl)
@[simp] theorem Core.setFn_fcs (i : FnId) (f : Fn) : (k.setFn i f).fcs = k.fcs := (rfl)
@[simp] theorem Core.setFn_mem (i : FnId) (f : Fn) : (k.setFn i f).mem = k.mem := (rfl)
@[simp] theorem Core.setFn_psn (i : FnId) (f : Fn) : (k.setFn i f).psn = k.psn := (rfl)
@[simp] theorem Core.setFn_bpm (i : FnId) (f : Fn) : (k.setFn i f).bpm = k.bpm := (rfl)
@[simp] theorem Core.setFn_hbc (i : FnId) (f : Fn) : (k.setFn i f).hbc = k.hbc := (rfl)
@[simp] theorem Core.setFn_cle (i : FnId) (f : Fn) : (k.setFn i f).cle = k.cle := (rfl)
@[simp] theorem Core.setFn_site (i : FnId) (f : Fn) : (k.setFn i f).site = k.site := (rfl)
@[simp] theorem Core.setFn_xfm (i : FnId) (f : Fn) : (k.setFn i f).xfm = k.xfm := (rfl)
@[simp] theorem Core.setFn_cip (i : FnId) (f : Fn) : (k.setFn i f).cip = k.cip := (rfl)
@[simp] theorem Core.setFn_sch (i : FnId) (f : Fn) : (k.setFn i f).sch = k.sch := (rfl)
@[simp] theorem Core.setFn_shpr (i : FnId) (f : Fn) : (k.setFn i f).shpr = k.shpr := (rfl)
@[simp] theorem Core.setFn_lport (i : FnId) (f : Fn) : (k.setFn i f).lport = k.lport := (rfl)
@[simp] theorem Core.setFn_lgrp (i : FnId) (f : Fn) : (k.setFn i f).lgrp = k.lgrp := (rfl)
@[simp] theorem Core.setFn_opc (i : FnId) (f : Fn) : (k.setFn i f).opc = k.opc := (rfl)
@[simp] theorem Core.setFn_ident (i : FnId) (f : Fn) : (k.setFn i f).ident = k.ident := (rfl)
@[simp] theorem Core.setFn_dseq (i : FnId) (f : Fn) : (k.setFn i f).dseq = k.dseq := (rfl)
@[simp] theorem Core.setFn_desc (i : FnId) (f : Fn) : (k.setFn i f).desc = k.desc := (rfl)
@[simp] theorem Core.setFn_svc (i : FnId) (f : Fn) : (k.setFn i f).svc = k.svc := (rfl)
@[simp] theorem Core.setFn_free (i : FnId) (f : Fn) : (k.setFn i f).free = k.free := (rfl)

/-! ### fnLast -/

@[simp] theorem Core.fnLast_regs (i : FnId) (st : Nat) : (k.fnLast i st).regs = k.regs := (rfl)
@[simp] theorem Core.fnLast_tbl (i : FnId) (st : Nat) : (k.fnLast i st).tbl = k.tbl := (rfl)
@[simp] theorem Core.fnLast_shad (i : FnId) (st : Nat) : (k.fnLast i st).shad = k.shad := (rfl)
@[simp] theorem Core.fnLast_hold (i : FnId) (st : Nat) : (k.fnLast i st).hold = k.hold := (rfl)
@[simp] theorem Core.fnLast_shHold (i : FnId) (st : Nat) : (k.fnLast i st).shHold = k.shHold := (rfl)
@[simp] theorem Core.fnLast_tim (i : FnId) (st : Nat) : (k.fnLast i st).tim = k.tim := (rfl)
@[simp] theorem Core.fnLast_ttx (i : FnId) (st : Nat) : (k.fnLast i st).ttx = k.ttx := (rfl)
@[simp] theorem Core.fnLast_evl (i : FnId) (st : Nat) : (k.fnLast i st).evl = k.evl := (rfl)
@[simp] theorem Core.fnLast_mgt (i : FnId) (st : Nat) : (k.fnLast i st).mgt = k.mgt := (rfl)
@[simp] theorem Core.fnLast_tlm (i : FnId) (st : Nat) : (k.fnLast i st).tlm = k.tlm := (rfl)
@[simp] theorem Core.fnLast_fpc (i : FnId) (st : Nat) : (k.fnLast i st).fpc = k.fpc := (rfl)
@[simp] theorem Core.fnLast_frt (i : FnId) (st : Nat) : (k.fnLast i st).frt = k.frt := (rfl)
@[simp] theorem Core.fnLast_fcs (i : FnId) (st : Nat) : (k.fnLast i st).fcs = k.fcs := (rfl)
@[simp] theorem Core.fnLast_mem (i : FnId) (st : Nat) : (k.fnLast i st).mem = k.mem := (rfl)
@[simp] theorem Core.fnLast_psn (i : FnId) (st : Nat) : (k.fnLast i st).psn = k.psn := (rfl)
@[simp] theorem Core.fnLast_bpm (i : FnId) (st : Nat) : (k.fnLast i st).bpm = k.bpm := (rfl)
@[simp] theorem Core.fnLast_hbc (i : FnId) (st : Nat) : (k.fnLast i st).hbc = k.hbc := (rfl)
@[simp] theorem Core.fnLast_cle (i : FnId) (st : Nat) : (k.fnLast i st).cle = k.cle := (rfl)
@[simp] theorem Core.fnLast_site (i : FnId) (st : Nat) : (k.fnLast i st).site = k.site := (rfl)
@[simp] theorem Core.fnLast_xfm (i : FnId) (st : Nat) : (k.fnLast i st).xfm = k.xfm := (rfl)
@[simp] theorem Core.fnLast_cip (i : FnId) (st : Nat) : (k.fnLast i st).cip = k.cip := (rfl)
@[simp] theorem Core.fnLast_sch (i : FnId) (st : Nat) : (k.fnLast i st).sch = k.sch := (rfl)
@[simp] theorem Core.fnLast_shpr (i : FnId) (st : Nat) : (k.fnLast i st).shpr = k.shpr := (rfl)
@[simp] theorem Core.fnLast_lport (i : FnId) (st : Nat) : (k.fnLast i st).lport = k.lport := (rfl)
@[simp] theorem Core.fnLast_lgrp (i : FnId) (st : Nat) : (k.fnLast i st).lgrp = k.lgrp := (rfl)
@[simp] theorem Core.fnLast_opc (i : FnId) (st : Nat) : (k.fnLast i st).opc = k.opc := (rfl)
@[simp] theorem Core.fnLast_ident (i : FnId) (st : Nat) : (k.fnLast i st).ident = k.ident := (rfl)
@[simp] theorem Core.fnLast_dseq (i : FnId) (st : Nat) : (k.fnLast i st).dseq = k.dseq := (rfl)
@[simp] theorem Core.fnLast_desc (i : FnId) (st : Nat) : (k.fnLast i st).desc = k.desc := (rfl)
@[simp] theorem Core.fnLast_svc (i : FnId) (st : Nat) : (k.fnLast i st).svc = k.svc := (rfl)
@[simp] theorem Core.fnLast_free (i : FnId) (st : Nat) : (k.fnLast i st).free = k.free := (rfl)

/-! ### putPhase -/

@[simp] theorem Core.putPhase_regs (x p : Nat) : (k.putPhase x p).regs = k.regs := (rfl)
@[simp] theorem Core.putPhase_tbl (x p : Nat) : (k.putPhase x p).tbl = k.tbl := (rfl)
@[simp] theorem Core.putPhase_shad (x p : Nat) : (k.putPhase x p).shad = k.shad := (rfl)
@[simp] theorem Core.putPhase_hold (x p : Nat) : (k.putPhase x p).hold = k.hold := (rfl)
@[simp] theorem Core.putPhase_shHold (x p : Nat) : (k.putPhase x p).shHold = k.shHold := (rfl)
@[simp] theorem Core.putPhase_fns (x p : Nat) : (k.putPhase x p).fns = k.fns := (rfl)
@[simp] theorem Core.putPhase_tim (x p : Nat) : (k.putPhase x p).tim = k.tim := (rfl)
@[simp] theorem Core.putPhase_ttx (x p : Nat) : (k.putPhase x p).ttx = k.ttx := (rfl)
@[simp] theorem Core.putPhase_evl (x p : Nat) : (k.putPhase x p).evl = k.evl := (rfl)
@[simp] theorem Core.putPhase_mgt (x p : Nat) : (k.putPhase x p).mgt = k.mgt := (rfl)
@[simp] theorem Core.putPhase_tlm (x p : Nat) : (k.putPhase x p).tlm = k.tlm := (rfl)
@[simp] theorem Core.putPhase_fpc (x p : Nat) : (k.putPhase x p).fpc = k.fpc := (rfl)
@[simp] theorem Core.putPhase_frt (x p : Nat) : (k.putPhase x p).frt = k.frt := (rfl)
@[simp] theorem Core.putPhase_fcs (x p : Nat) : (k.putPhase x p).fcs = k.fcs := (rfl)
@[simp] theorem Core.putPhase_mem (x p : Nat) : (k.putPhase x p).mem = k.mem := (rfl)
@[simp] theorem Core.putPhase_psn (x p : Nat) : (k.putPhase x p).psn = k.psn := (rfl)
@[simp] theorem Core.putPhase_bpm (x p : Nat) : (k.putPhase x p).bpm = k.bpm := (rfl)
@[simp] theorem Core.putPhase_hbc (x p : Nat) : (k.putPhase x p).hbc = k.hbc := (rfl)
@[simp] theorem Core.putPhase_site (x p : Nat) : (k.putPhase x p).site = k.site := (rfl)
@[simp] theorem Core.putPhase_xfm (x p : Nat) : (k.putPhase x p).xfm = k.xfm := (rfl)
@[simp] theorem Core.putPhase_cip (x p : Nat) : (k.putPhase x p).cip = k.cip := (rfl)
@[simp] theorem Core.putPhase_sch (x p : Nat) : (k.putPhase x p).sch = k.sch := (rfl)
@[simp] theorem Core.putPhase_shpr (x p : Nat) : (k.putPhase x p).shpr = k.shpr := (rfl)
@[simp] theorem Core.putPhase_lport (x p : Nat) : (k.putPhase x p).lport = k.lport := (rfl)
@[simp] theorem Core.putPhase_lgrp (x p : Nat) : (k.putPhase x p).lgrp = k.lgrp := (rfl)
@[simp] theorem Core.putPhase_opc (x p : Nat) : (k.putPhase x p).opc = k.opc := (rfl)
@[simp] theorem Core.putPhase_ident (x p : Nat) : (k.putPhase x p).ident = k.ident := (rfl)
@[simp] theorem Core.putPhase_dseq (x p : Nat) : (k.putPhase x p).dseq = k.dseq := (rfl)
@[simp] theorem Core.putPhase_desc (x p : Nat) : (k.putPhase x p).desc = k.desc := (rfl)
@[simp] theorem Core.putPhase_svc (x p : Nat) : (k.putPhase x p).svc = k.svc := (rfl)
@[simp] theorem Core.putPhase_free (x p : Nat) : (k.putPhase x p).free = k.free := (rfl)

/-! ### fresh -/

@[simp] theorem Core.fresh_regs : (k.fresh).regs = k.regs := (rfl)
@[simp] theorem Core.fresh_tbl : (k.fresh).tbl = k.tbl := (rfl)
@[simp] theorem Core.fresh_shad : (k.fresh).shad = k.shad := (rfl)
@[simp] theorem Core.fresh_hold : (k.fresh).hold = k.hold := (rfl)
@[simp] theorem Core.fresh_shHold : (k.fresh).shHold = k.shHold := (rfl)
@[simp] theorem Core.fresh_fns : (k.fresh).fns = k.fns := (rfl)
@[simp] theorem Core.fresh_tim : (k.fresh).tim = k.tim := (rfl)
@[simp] theorem Core.fresh_ttx : (k.fresh).ttx = k.ttx := (rfl)
@[simp] theorem Core.fresh_evl : (k.fresh).evl = k.evl := (rfl)
@[simp] theorem Core.fresh_mgt : (k.fresh).mgt = k.mgt := (rfl)
@[simp] theorem Core.fresh_tlm : (k.fresh).tlm = k.tlm := (rfl)
@[simp] theorem Core.fresh_fpc : (k.fresh).fpc = k.fpc := (rfl)
@[simp] theorem Core.fresh_frt : (k.fresh).frt = k.frt := (rfl)
@[simp] theorem Core.fresh_fcs : (k.fresh).fcs = k.fcs := (rfl)
@[simp] theorem Core.fresh_mem : (k.fresh).mem = k.mem := (rfl)
@[simp] theorem Core.fresh_psn : (k.fresh).psn = k.psn := (rfl)
@[simp] theorem Core.fresh_bpm : (k.fresh).bpm = k.bpm := (rfl)
@[simp] theorem Core.fresh_hbc : (k.fresh).hbc = k.hbc := (rfl)
@[simp] theorem Core.fresh_cle : (k.fresh).cle = k.cle := (rfl)
@[simp] theorem Core.fresh_site : (k.fresh).site = k.site := (rfl)
@[simp] theorem Core.fresh_xfm : (k.fresh).xfm = k.xfm := (rfl)
@[simp] theorem Core.fresh_cip : (k.fresh).cip = k.cip := (rfl)
@[simp] theorem Core.fresh_sch : (k.fresh).sch = k.sch := (rfl)
@[simp] theorem Core.fresh_shpr : (k.fresh).shpr = k.shpr := (rfl)
@[simp] theorem Core.fresh_lport : (k.fresh).lport = k.lport := (rfl)
@[simp] theorem Core.fresh_lgrp : (k.fresh).lgrp = k.lgrp := (rfl)
@[simp] theorem Core.fresh_opc : (k.fresh).opc = k.opc := (rfl)
@[simp] theorem Core.fresh_ident : (k.fresh).ident = k.ident := (rfl)
@[simp] theorem Core.fresh_dseq : (k.fresh).dseq = k.dseq := (rfl)
@[simp] theorem Core.fresh_desc : (k.fresh).desc = k.desc := (rfl)
@[simp] theorem Core.fresh_svc : (k.fresh).svc = k.svc := (rfl)

/-! ### setPsn -/

@[simp] theorem Core.setPsn_regs (a n : Nat) (b : Bool) : (k.setPsn a n b).regs = k.regs := (rfl)
@[simp] theorem Core.setPsn_tbl (a n : Nat) (b : Bool) : (k.setPsn a n b).tbl = k.tbl := (rfl)
@[simp] theorem Core.setPsn_shad (a n : Nat) (b : Bool) : (k.setPsn a n b).shad = k.shad := (rfl)
@[simp] theorem Core.setPsn_hold (a n : Nat) (b : Bool) : (k.setPsn a n b).hold = k.hold := (rfl)
@[simp] theorem Core.setPsn_shHold (a n : Nat) (b : Bool) : (k.setPsn a n b).shHold = k.shHold := (rfl)
@[simp] theorem Core.setPsn_fns (a n : Nat) (b : Bool) : (k.setPsn a n b).fns = k.fns := (rfl)
@[simp] theorem Core.setPsn_tim (a n : Nat) (b : Bool) : (k.setPsn a n b).tim = k.tim := (rfl)
@[simp] theorem Core.setPsn_ttx (a n : Nat) (b : Bool) : (k.setPsn a n b).ttx = k.ttx := (rfl)
@[simp] theorem Core.setPsn_evl (a n : Nat) (b : Bool) : (k.setPsn a n b).evl = k.evl := (rfl)
@[simp] theorem Core.setPsn_mgt (a n : Nat) (b : Bool) : (k.setPsn a n b).mgt = k.mgt := (rfl)
@[simp] theorem Core.setPsn_tlm (a n : Nat) (b : Bool) : (k.setPsn a n b).tlm = k.tlm := (rfl)
@[simp] theorem Core.setPsn_fpc (a n : Nat) (b : Bool) : (k.setPsn a n b).fpc = k.fpc := (rfl)
@[simp] theorem Core.setPsn_frt (a n : Nat) (b : Bool) : (k.setPsn a n b).frt = k.frt := (rfl)
@[simp] theorem Core.setPsn_fcs (a n : Nat) (b : Bool) : (k.setPsn a n b).fcs = k.fcs := (rfl)
@[simp] theorem Core.setPsn_mem (a n : Nat) (b : Bool) : (k.setPsn a n b).mem = k.mem := (rfl)
@[simp] theorem Core.setPsn_bpm (a n : Nat) (b : Bool) : (k.setPsn a n b).bpm = k.bpm := (rfl)
@[simp] theorem Core.setPsn_hbc (a n : Nat) (b : Bool) : (k.setPsn a n b).hbc = k.hbc := (rfl)
@[simp] theorem Core.setPsn_cle (a n : Nat) (b : Bool) : (k.setPsn a n b).cle = k.cle := (rfl)
@[simp] theorem Core.setPsn_site (a n : Nat) (b : Bool) : (k.setPsn a n b).site = k.site := (rfl)
@[simp] theorem Core.setPsn_xfm (a n : Nat) (b : Bool) : (k.setPsn a n b).xfm = k.xfm := (rfl)
@[simp] theorem Core.setPsn_cip (a n : Nat) (b : Bool) : (k.setPsn a n b).cip = k.cip := (rfl)
@[simp] theorem Core.setPsn_sch (a n : Nat) (b : Bool) : (k.setPsn a n b).sch = k.sch := (rfl)
@[simp] theorem Core.setPsn_shpr (a n : Nat) (b : Bool) : (k.setPsn a n b).shpr = k.shpr := (rfl)
@[simp] theorem Core.setPsn_lport (a n : Nat) (b : Bool) : (k.setPsn a n b).lport = k.lport := (rfl)
@[simp] theorem Core.setPsn_lgrp (a n : Nat) (b : Bool) : (k.setPsn a n b).lgrp = k.lgrp := (rfl)
@[simp] theorem Core.setPsn_opc (a n : Nat) (b : Bool) : (k.setPsn a n b).opc = k.opc := (rfl)
@[simp] theorem Core.setPsn_ident (a n : Nat) (b : Bool) : (k.setPsn a n b).ident = k.ident := (rfl)
@[simp] theorem Core.setPsn_dseq (a n : Nat) (b : Bool) : (k.setPsn a n b).dseq = k.dseq := (rfl)
@[simp] theorem Core.setPsn_desc (a n : Nat) (b : Bool) : (k.setPsn a n b).desc = k.desc := (rfl)
@[simp] theorem Core.setPsn_svc (a n : Nat) (b : Bool) : (k.setPsn a n b).svc = k.svc := (rfl)
@[simp] theorem Core.setPsn_free (a n : Nat) (b : Bool) : (k.setPsn a n b).free = k.free := (rfl)

/-! ### mwr -/

@[simp] theorem Core.mwr_regs (a : Nat) (l : List Byte) : (k.mwr a l).regs = k.regs := (rfl)
@[simp] theorem Core.mwr_tbl (a : Nat) (l : List Byte) : (k.mwr a l).tbl = k.tbl := (rfl)
@[simp] theorem Core.mwr_shad (a : Nat) (l : List Byte) : (k.mwr a l).shad = k.shad := (rfl)
@[simp] theorem Core.mwr_hold (a : Nat) (l : List Byte) : (k.mwr a l).hold = k.hold := (rfl)
@[simp] theorem Core.mwr_shHold (a : Nat) (l : List Byte) : (k.mwr a l).shHold = k.shHold := (rfl)
@[simp] theorem Core.mwr_fns (a : Nat) (l : List Byte) : (k.mwr a l).fns = k.fns := (rfl)
@[simp] theorem Core.mwr_tim (a : Nat) (l : List Byte) : (k.mwr a l).tim = k.tim := (rfl)
@[simp] theorem Core.mwr_ttx (a : Nat) (l : List Byte) : (k.mwr a l).ttx = k.ttx := (rfl)
@[simp] theorem Core.mwr_evl (a : Nat) (l : List Byte) : (k.mwr a l).evl = k.evl := (rfl)
@[simp] theorem Core.mwr_mgt (a : Nat) (l : List Byte) : (k.mwr a l).mgt = k.mgt := (rfl)
@[simp] theorem Core.mwr_tlm (a : Nat) (l : List Byte) : (k.mwr a l).tlm = k.tlm := (rfl)
@[simp] theorem Core.mwr_fpc (a : Nat) (l : List Byte) : (k.mwr a l).fpc = k.fpc := (rfl)
@[simp] theorem Core.mwr_frt (a : Nat) (l : List Byte) : (k.mwr a l).frt = k.frt := (rfl)
@[simp] theorem Core.mwr_fcs (a : Nat) (l : List Byte) : (k.mwr a l).fcs = k.fcs := (rfl)
@[simp] theorem Core.mwr_bpm (a : Nat) (l : List Byte) : (k.mwr a l).bpm = k.bpm := (rfl)
@[simp] theorem Core.mwr_hbc (a : Nat) (l : List Byte) : (k.mwr a l).hbc = k.hbc := (rfl)
@[simp] theorem Core.mwr_cle (a : Nat) (l : List Byte) : (k.mwr a l).cle = k.cle := (rfl)
@[simp] theorem Core.mwr_site (a : Nat) (l : List Byte) : (k.mwr a l).site = k.site := (rfl)
@[simp] theorem Core.mwr_xfm (a : Nat) (l : List Byte) : (k.mwr a l).xfm = k.xfm := (rfl)
@[simp] theorem Core.mwr_cip (a : Nat) (l : List Byte) : (k.mwr a l).cip = k.cip := (rfl)
@[simp] theorem Core.mwr_sch (a : Nat) (l : List Byte) : (k.mwr a l).sch = k.sch := (rfl)
@[simp] theorem Core.mwr_shpr (a : Nat) (l : List Byte) : (k.mwr a l).shpr = k.shpr := (rfl)
@[simp] theorem Core.mwr_lport (a : Nat) (l : List Byte) : (k.mwr a l).lport = k.lport := (rfl)
@[simp] theorem Core.mwr_lgrp (a : Nat) (l : List Byte) : (k.mwr a l).lgrp = k.lgrp := (rfl)
@[simp] theorem Core.mwr_opc (a : Nat) (l : List Byte) : (k.mwr a l).opc = k.opc := (rfl)
@[simp] theorem Core.mwr_ident (a : Nat) (l : List Byte) : (k.mwr a l).ident = k.ident := (rfl)
@[simp] theorem Core.mwr_dseq (a : Nat) (l : List Byte) : (k.mwr a l).dseq = k.dseq := (rfl)
@[simp] theorem Core.mwr_desc (a : Nat) (l : List Byte) : (k.mwr a l).desc = k.desc := (rfl)
@[simp] theorem Core.mwr_svc (a : Nat) (l : List Byte) : (k.mwr a l).svc = k.svc := (rfl)
@[simp] theorem Core.mwr_free (a : Nat) (l : List Byte) : (k.mwr a l).free = k.free := (rfl)

/-! ### winAdv -/

@[simp] theorem Core.winAdv_tbl (w : Nat) : (k.winAdv w).tbl = k.tbl := (rfl)
@[simp] theorem Core.winAdv_shad (w : Nat) : (k.winAdv w).shad = k.shad := (rfl)
@[simp] theorem Core.winAdv_hold (w : Nat) : (k.winAdv w).hold = k.hold := (rfl)
@[simp] theorem Core.winAdv_shHold (w : Nat) : (k.winAdv w).shHold = k.shHold := (rfl)
@[simp] theorem Core.winAdv_fns (w : Nat) : (k.winAdv w).fns = k.fns := (rfl)
@[simp] theorem Core.winAdv_tim (w : Nat) : (k.winAdv w).tim = k.tim := (rfl)
@[simp] theorem Core.winAdv_ttx (w : Nat) : (k.winAdv w).ttx = k.ttx := (rfl)
@[simp] theorem Core.winAdv_evl (w : Nat) : (k.winAdv w).evl = k.evl := (rfl)
@[simp] theorem Core.winAdv_mgt (w : Nat) : (k.winAdv w).mgt = k.mgt := (rfl)
@[simp] theorem Core.winAdv_tlm (w : Nat) : (k.winAdv w).tlm = k.tlm := (rfl)
@[simp] theorem Core.winAdv_fpc (w : Nat) : (k.winAdv w).fpc = k.fpc := (rfl)
@[simp] theorem Core.winAdv_frt (w : Nat) : (k.winAdv w).frt = k.frt := (rfl)
@[simp] theorem Core.winAdv_fcs (w : Nat) : (k.winAdv w).fcs = k.fcs := (rfl)
@[simp] theorem Core.winAdv_mem (w : Nat) : (k.winAdv w).mem = k.mem := (rfl)
@[simp] theorem Core.winAdv_psn (w : Nat) : (k.winAdv w).psn = k.psn := (rfl)
@[simp] theorem Core.winAdv_bpm (w : Nat) : (k.winAdv w).bpm = k.bpm := (rfl)
@[simp] theorem Core.winAdv_hbc (w : Nat) : (k.winAdv w).hbc = k.hbc := (rfl)
@[simp] theorem Core.winAdv_cle (w : Nat) : (k.winAdv w).cle = k.cle := (rfl)
@[simp] theorem Core.winAdv_site (w : Nat) : (k.winAdv w).site = k.site := (rfl)
@[simp] theorem Core.winAdv_xfm (w : Nat) : (k.winAdv w).xfm = k.xfm := (rfl)
@[simp] theorem Core.winAdv_cip (w : Nat) : (k.winAdv w).cip = k.cip := (rfl)
@[simp] theorem Core.winAdv_sch (w : Nat) : (k.winAdv w).sch = k.sch := (rfl)
@[simp] theorem Core.winAdv_shpr (w : Nat) : (k.winAdv w).shpr = k.shpr := (rfl)
@[simp] theorem Core.winAdv_lport (w : Nat) : (k.winAdv w).lport = k.lport := (rfl)
@[simp] theorem Core.winAdv_lgrp (w : Nat) : (k.winAdv w).lgrp = k.lgrp := (rfl)
@[simp] theorem Core.winAdv_opc (w : Nat) : (k.winAdv w).opc = k.opc := (rfl)
@[simp] theorem Core.winAdv_ident (w : Nat) : (k.winAdv w).ident = k.ident := (rfl)
@[simp] theorem Core.winAdv_dseq (w : Nat) : (k.winAdv w).dseq = k.dseq := (rfl)
@[simp] theorem Core.winAdv_desc (w : Nat) : (k.winAdv w).desc = k.desc := (rfl)
@[simp] theorem Core.winAdv_svc (w : Nat) : (k.winAdv w).svc = k.svc := (rfl)
@[simp] theorem Core.winAdv_free (w : Nat) : (k.winAdv w).free = k.free := (rfl)

end Sys2Proof.Machine
end

