-- ==== Sys2Proof/Laws/Frames.lean ====
section
/-!
SUPPORT. What events, changes of a function and window statuses leave as it stands, part by part of the core; what a
command on the core leaves as it stands in the whole machine.
-/

namespace Sys2Proof.Machine

variable (k : Core)

/-! ### winSt -/

@[simp] theorem Core.winSt_tbl (w : Nat) (m : Bool) (st : Nat) : (k.winSt w m st).tbl = k.tbl := by
  unfold Core.winSt; split <;> simp
@[simp] theorem Core.winSt_shad (w : Nat) (m : Bool) (st : Nat) : (k.winSt w m st).shad = k.shad := by
  unfold Core.winSt; split <;> simp
@[simp] theorem Core.winSt_hold (w : Nat) (m : Bool) (st : Nat) : (k.winSt w m st).hold = k.hold := by
  unfold Core.winSt; split <;> simp
@[simp] theorem Core.winSt_shHold (w : Nat) (m : Bool) (st : Nat) : (k.winSt w m st).shHold = k.shHold := by
  unfold Core.winSt; split <;> simp
@[simp] theorem Core.winSt_fns (w : Nat) (m : Bool) (st : Nat) : (k.winSt w m st).fns = k.fns := by
  unfold Core.winSt; split <;> simp
@[simp] theorem Core.winSt_tim (w : Nat) (m : Bool) (st : Nat) : (k.winSt w m st).tim = k.tim := by
  unfold Core.winSt; split <;> simp
@[simp] theorem Core.winSt_ttx (w : Nat) (m : Bool) (st : Nat) : (k.winSt w m st).ttx = k.ttx := by
  unfold Core.winSt; split <;> simp
@[simp] theorem Core.winSt_evl (w : Nat) (m : Bool) (st : Nat) : (k.winSt w m st).evl = k.evl := by
  unfold Core.winSt; split <;> simp
@[simp] theorem Core.winSt_mgt (w : Nat) (m : Bool) (st : Nat) : (k.winSt w m st).mgt = k.mgt := by
  unfold Core.winSt; split <;> simp
@[simp] theorem Core.winSt_tlm (w : Nat) (m : Bool) (st : Nat) : (k.winSt w m st).tlm = k.tlm := by
  unfold Core.winSt; split <;> simp
@[simp] theorem Core.winSt_fpc (w : Nat) (m : Bool) (st : Nat) : (k.winSt w m st).fpc = k.fpc := by
  unfold Core.winSt; split <;> simp
@[simp] theorem Core.winSt_frt (w : Nat) (m : Bool) (st : Nat) : (k.winSt w m st).frt = k.frt := by
  unfold Core.winSt; split <;> simp
@[simp] theorem Core.winSt_fcs (w : Nat) (m : Bool) (st : Nat) : (k.winSt w m st).fcs = k.fcs := by
  unfold Core.winSt; split <;> simp
@[simp] theorem Core.winSt_mem (w : Nat) (m : Bool) (st : Nat) : (k.winSt w m st).mem = k.mem := by
  unfold Core.winSt; split <;> simp
@[simp] theorem Core.winSt_psn (w : Nat) (m : Bool) (st : Nat) : (k.winSt w m st).psn = k.psn := by
  unfold Core.winSt; split <;> simp
@[simp] theorem Core.winSt_bpm (w : Nat) (m : Bool) (st : Nat) : (k.winSt w m st).bpm = k.bpm := by
  unfold Core.winSt; split <;> simp
@[simp] theorem Core.winSt_hbc (w : Nat) (m : Bool) (st : Nat) : (k.winSt w m st).hbc = k.hbc := by
  unfold Core.winSt; split <;> simp
@[simp] theorem Core.winSt_cle (w : Nat) (m : Bool) (st : Nat) : (k.winSt w m st).cle = k.cle := by
  unfold Core.winSt; split <;> simp
@[simp] theorem Core.winSt_site (w : Nat) (m : Bool) (st : Nat) : (k.winSt w m st).site = k.site := by
  unfold Core.winSt; split <;> simp
@[simp] theorem Core.winSt_xfm (w : Nat) (m : Bool) (st : Nat) : (k.winSt w m st).xfm = k.xfm := by
  unfold Core.winSt; split <;> simp
@[simp] theorem Core.winSt_cip (w : Nat) (m : Bool) (st : Nat) : (k.winSt w m st).cip = k.cip := by
  unfold Core.winSt; split <;> simp
@[simp] theorem Core.winSt_sch (w : Nat) (m : Bool) (st : Nat) : (k.winSt w m st).sch = k.sch := by
  unfold Core.winSt; split <;> simp
@[simp] theorem Core.winSt_shpr (w : Nat) (m : Bool) (st : Nat) : (k.winSt w m st).shpr = k.shpr := by
  unfold Core.winSt; split <;> simp
@[simp] theorem Core.winSt_lport (w : Nat) (m : Bool) (st : Nat) : (k.winSt w m st).lport = k.lport := by
  unfold Core.winSt; split <;> simp
@[simp] theorem Core.winSt_lgrp (w : Nat) (m : Bool) (st : Nat) : (k.winSt w m st).lgrp = k.lgrp := by
  unfold Core.winSt; split <;> simp
@[simp] theorem Core.winSt_opc (w : Nat) (m : Bool) (st : Nat) : (k.winSt w m st).opc = k.opc := by
  unfold Core.winSt; split <;> simp
@[simp] theorem Core.winSt_ident (w : Nat) (m : Bool) (st : Nat) : (k.winSt w m st).ident = k.ident := by
  unfold Core.winSt; split <;> simp
@[simp] theorem Core.winSt_dseq (w : Nat) (m : Bool) (st : Nat) : (k.winSt w m st).dseq = k.dseq := by
  unfold Core.winSt; split <;> simp
@[simp] theorem Core.winSt_desc (w : Nat) (m : Bool) (st : Nat) : (k.winSt w m st).desc = k.desc := by
  unfold Core.winSt; split <;> simp
@[simp] theorem Core.winSt_svc (w : Nat) (m : Bool) (st : Nat) : (k.winSt w m st).svc = k.svc := by
  unfold Core.winSt; split <;> simp
@[simp] theorem Core.winSt_free (w : Nat) (m : Bool) (st : Nat) : (k.winSt w m st).free = k.free := by
  unfold Core.winSt; split <;> simp

/-! ### intake -/

@[simp] theorem Core.intake_tbl (e : Event) : (k.intake e).tbl = k.tbl := by
  unfold Core.intake; split <;> simp
@[simp] theorem Core.intake_shad (e : Event) : (k.intake e).shad = k.shad := by
  unfold Core.intake; split <;> simp
@[simp] theorem Core.intake_hold (e : Event) : (k.intake e).hold = k.hold := by
  unfold Core.intake; split <;> simp
@[simp] theorem Core.intake_shHold (e : Event) : (k.intake e).shHold = k.shHold := by
  unfold Core.intake; split <;> simp
@[simp] theorem Core.intake_fns (e : Event) : (k.intake e).fns = k.fns := by
  unfold Core.intake; split <;> simp
@[simp] theorem Core.intake_tim (e : Event) : (k.intake e).tim = k.tim := by
  unfold Core.intake; split <;> simp
@[simp] theorem Core.intake_ttx (e : Event) : (k.intake e).ttx = k.ttx := by
  unfold Core.intake; split <;> simp
@[simp] theorem Core.intake_mgt (e : Event) : (k.intake e).mgt = k.mgt := by
  unfold Core.intake; split <;> simp
@[simp] theorem Core.intake_tlm (e : Event) : (k.intake e).tlm = k.tlm := by
  unfold Core.intake; split <;> simp
@[simp] theorem Core.intake_fpc (e : Event) : (k.intake e).fpc = k.fpc := by
  unfold Core.intake; split <;> simp
@[simp] theorem Core.intake_frt (e : Event) : (k.intake e).frt = k.frt := by
  unfold Core.intake; split <;> simp
@[simp] theorem Core.intake_fcs (e : Event) : (k.intake e).fcs = k.fcs := by
  unfold Core.intake; split <;> simp
@[simp] theorem Core.intake_mem (e : Event) : (k.intake e).mem = k.mem := by
  unfold Core.intake; split <;> simp
@[simp] theorem Core.intake_psn (e : Event) : (k.intake e).psn = k.psn := by
  unfold Core.intake; split <;> simp
@[simp] theorem Core.intake_bpm (e : Event) : (k.intake e).bpm = k.bpm := by
  unfold Core.intake; split <;> simp
@[simp] theorem Core.intake_hbc (e : Event) : (k.intake e).hbc = k.hbc := by
  unfold Core.intake; split <;> simp
@[simp] theorem Core.intake_cle (e : Event) : (k.intake e).cle = k.cle := by
  unfold Core.intake; split <;> simp
@[simp] theorem Core.intake_site (e : Event) : (k.intake e).site = k.site := by
  unfold Core.intake; split <;> simp
@[simp] theorem Core.intake_xfm (e : Event) : (k.intake e).xfm = k.xfm := by
  unfold Core.intake; split <;> simp
@[simp] theorem Core.intake_cip (e : Event) : (k.intake e).cip = k.cip := by
  unfold Core.intake; split <;> simp
@[simp] theorem Core.intake_sch (e : Event) : (k.intake e).sch = k.sch := by
  unfold Core.intake; split <;> simp
@[simp] theorem Core.intake_shpr (e : Event) : (k.intake e).shpr = k.shpr := by
  unfold Core.intake; split <;> simp
@[simp] theorem Core.intake_lport (e : Event) : (k.intake e).lport = k.lport := by
  unfold Core.intake; split <;> simp
@[simp] theorem Core.intake_lgrp (e : Event) : (k.intake e).lgrp = k.lgrp := by
  unfold Core.intake; split <;> simp
@[simp] theorem Core.intake_opc (e : Event) : (k.intake e).opc = k.opc := by
  unfold Core.intake; split <;> simp
@[simp] theorem Core.intake_ident (e : Event) : (k.intake e).ident = k.ident := by
  unfold Core.intake; split <;> simp
@[simp] theorem Core.intake_dseq (e : Event) : (k.intake e).dseq = k.dseq := by
  unfold Core.intake; split <;> simp
@[simp] theorem Core.intake_desc (e : Event) : (k.intake e).desc = k.desc := by
  unfold Core.intake; split <;> simp
@[simp] theorem Core.intake_svc (e : Event) : (k.intake e).svc = k.svc := by
  unfold Core.intake; split <;> simp
@[simp] theorem Core.intake_free (e : Event) : (k.intake e).free = k.free := by
  unfold Core.intake; split <;> simp

/-! ### emitAt -/

@[simp] theorem Core.emitAt_tbl (t src code a : Nat) : (k.emitAt t src code a).tbl = k.tbl := by
  unfold Core.emitAt; simp
@[simp] theorem Core.emitAt_shad (t src code a : Nat) : (k.emitAt t src code a).shad = k.shad := by
  unfold Core.emitAt; simp
@[simp] theorem Core.emitAt_hold (t src code a : Nat) : (k.emitAt t src code a).hold = k.hold := by
  unfold Core.emitAt; simp
@[simp] theorem Core.emitAt_shHold (t src code a : Nat) : (k.emitAt t src code a).shHold = k.shHold := by
  unfold Core.emitAt; simp
@[simp] theorem Core.emitAt_fns (t src code a : Nat) : (k.emitAt t src code a).fns = k.fns := by
  unfold Core.emitAt; simp
@[simp] theorem Core.emitAt_tim (t src code a : Nat) : (k.emitAt t src code a).tim = k.tim := by
  unfold Core.emitAt; simp
@[simp] theorem Core.emitAt_ttx (t src code a : Nat) : (k.emitAt t src code a).ttx = k.ttx := by
  unfold Core.emitAt; simp
@[simp] theorem Core.emitAt_mgt (t src code a : Nat) : (k.emitAt t src code a).mgt = k.mgt := by
  unfold Core.emitAt; simp
@[simp] theorem Core.emitAt_tlm (t src code a : Nat) : (k.emitAt t src code a).tlm = k.tlm := by
  unfold Core.emitAt; simp
@[simp] theorem Core.emitAt_fpc (t src code a : Nat) : (k.emitAt t src code a).fpc = k.fpc := by
  unfold Core.emitAt; simp
@[simp] theorem Core.emitAt_frt (t src code a : Nat) : (k.emitAt t src code a).frt = k.frt := by
  unfold Core.emitAt; simp
@[simp] theorem Core.emitAt_fcs (t src code a : Nat) : (k.emitAt t src code a).fcs = k.fcs := by
  unfold Core.emitAt; simp
@[simp] theorem Core.emitAt_mem (t src code a : Nat) : (k.emitAt t src code a).mem = k.mem := by
  unfold Core.emitAt; simp
@[simp] theorem Core.emitAt_psn (t src code a : Nat) : (k.emitAt t src code a).psn = k.psn := by
  unfold Core.emitAt; simp
@[simp] theorem Core.emitAt_bpm (t src code a : Nat) : (k.emitAt t src code a).bpm = k.bpm := by
  unfold Core.emitAt; simp
@[simp] theorem Core.emitAt_hbc (t src code a : Nat) : (k.emitAt t src code a).hbc = k.hbc := by
  unfold Core.emitAt; simp
@[simp] theorem Core.emitAt_cle (t src code a : Nat) : (k.emitAt t src code a).cle = k.cle := by
  unfold Core.emitAt; simp
@[simp] theorem Core.emitAt_site (t src code a : Nat) : (k.emitAt t src code a).site = k.site := by
  unfold Core.emitAt; simp
@[simp] theorem Core.emitAt_xfm (t src code a : Nat) : (k.emitAt t src code a).xfm = k.xfm := by
  unfold Core.emitAt; simp
@[simp] theorem Core.emitAt_cip (t src code a : Nat) : (k.emitAt t src code a).cip = k.cip := by
  unfold Core.emitAt; simp
@[simp] theorem Core.emitAt_sch (t src code a : Nat) : (k.emitAt t src code a).sch = k.sch := by
  unfold Core.emitAt; simp
@[simp] theorem Core.emitAt_shpr (t src code a : Nat) : (k.emitAt t src code a).shpr = k.shpr := by
  unfold Core.emitAt; simp
@[simp] theorem Core.emitAt_lport (t src code a : Nat) : (k.emitAt t src code a).lport = k.lport := by
  unfold Core.emitAt; simp
@[simp] theorem Core.emitAt_lgrp (t src code a : Nat) : (k.emitAt t src code a).lgrp = k.lgrp := by
  unfold Core.emitAt; simp
@[simp] theorem Core.emitAt_opc (t src code a : Nat) : (k.emitAt t src code a).opc = k.opc := by
  unfold Core.emitAt; simp
@[simp] theorem Core.emitAt_ident (t src code a : Nat) : (k.emitAt t src code a).ident = k.ident := by
  unfold Core.emitAt; simp
@[simp] theorem Core.emitAt_dseq (t src code a : Nat) : (k.emitAt t src code a).dseq = k.dseq := by
  unfold Core.emitAt; simp
@[simp] theorem Core.emitAt_desc (t src code a : Nat) : (k.emitAt t src code a).desc = k.desc := by
  unfold Core.emitAt; simp
@[simp] theorem Core.emitAt_svc (t src code a : Nat) : (k.emitAt t src code a).svc = k.svc := by
  unfold Core.emitAt; simp
@[simp] theorem Core.emitAt_free (t src code a : Nat) : (k.emitAt t src code a).free = k.free := by
  unfold Core.emitAt; simp

/-! ### emit -/

@[simp] theorem Core.emit_tbl (src code : Nat) (l : List (Nat × Nat × Nat)) : (k.emit src code l).tbl = k.tbl := by
  unfold Core.emit; simp
@[simp] theorem Core.emit_shad (src code : Nat) (l : List (Nat × Nat × Nat)) : (k.emit src code l).shad = k.shad := by
  unfold Core.emit; simp
@[simp] theorem Core.emit_hold (src code : Nat) (l : List (Nat × Nat × Nat)) : (k.emit src code l).hold = k.hold := by
  unfold Core.emit; simp
@[simp] theorem Core.emit_shHold (src code : Nat) (l : List (Nat × Nat × Nat)) : (k.emit src code l).shHold = k.shHold := by
  unfold Core.emit; simp
@[simp] theorem Core.emit_fns (src code : Nat) (l : List (Nat × Nat × Nat)) : (k.emit src code l).fns = k.fns := by
  unfold Core.emit; simp
@[simp] theorem Core.emit_tim (src code : Nat) (l : List (Nat × Nat × Nat)) : (k.emit src code l).tim = k.tim := by
  unfold Core.emit; simp
@[simp] theorem Core.emit_ttx (src code : Nat) (l : List (Nat × Nat × Nat)) : (k.emit src code l).ttx = k.ttx := by
  unfold Core.emit; simp
@[simp] theorem Core.emit_mgt (src code : Nat) (l : List (Nat × Nat × Nat)) : (k.emit src code l).mgt = k.mgt := by
  unfold Core.emit; simp
@[simp] theorem Core.emit_tlm (src code : Nat) (l : List (Nat × Nat × Nat)) : (k.emit src code l).tlm = k.tlm := by
  unfold Core.emit; simp
@[simp] theorem Core.emit_fpc (src code : Nat) (l : List (Nat × Nat × Nat)) : (k.emit src code l).fpc = k.fpc := by
  unfold Core.emit; simp
@[simp] theorem Core.emit_frt (src code : Nat) (l : List (Nat × Nat × Nat)) : (k.emit src code l).frt = k.frt := by
  unfold Core.emit; simp
@[simp] theorem Core.emit_fcs (src code : Nat) (l : List (Nat × Nat × Nat)) : (k.emit src code l).fcs = k.fcs := by
  unfold Core.emit; simp
@[simp] theorem Core.emit_mem (src code : Nat) (l : List (Nat × Nat × Nat)) : (k.emit src code l).mem = k.mem := by
  unfold Core.emit; simp
@[simp] theorem Core.emit_psn (src code : Nat) (l : List (Nat × Nat × Nat)) : (k.emit src code l).psn = k.psn := by
  unfold Core.emit; simp
@[simp] theorem Core.emit_bpm (src code : Nat) (l : List (Nat × Nat × Nat)) : (k.emit src code l).bpm = k.bpm := by
  unfold Core.emit; simp
@[simp] theorem Core.emit_hbc (src code : Nat) (l : List (Nat × Nat × Nat)) : (k.emit src code l).hbc = k.hbc := by
  unfold Core.emit; simp
@[simp] theorem Core.emit_cle (src code : Nat) (l : List (Nat × Nat × Nat)) : (k.emit src code l).cle = k.cle := by
  unfold Core.emit; simp
@[simp] theorem Core.emit_site (src code : Nat) (l : List (Nat × Nat × Nat)) : (k.emit src code l).site = k.site := by
  unfold Core.emit; simp
@[simp] theorem Core.emit_xfm (src code : Nat) (l : List (Nat × Nat × Nat)) : (k.emit src code l).xfm = k.xfm := by
  unfold Core.emit; simp
@[simp] theorem Core.emit_cip (src code : Nat) (l : List (Nat × Nat × Nat)) : (k.emit src code l).cip = k.cip := by
  unfold Core.emit; simp
@[simp] theorem Core.emit_sch (src code : Nat) (l : List (Nat × Nat × Nat)) : (k.emit src code l).sch = k.sch := by
  unfold Core.emit; simp
@[simp] theorem Core.emit_shpr (src code : Nat) (l : List (Nat × Nat × Nat)) : (k.emit src code l).shpr = k.shpr := by
  unfold Core.emit; simp
@[simp] theorem Core.emit_lport (src code : Nat) (l : List (Nat × Nat × Nat)) : (k.emit src code l).lport = k.lport := by
  unfold Core.emit; simp
@[simp] theorem Core.emit_lgrp (src code : Nat) (l : List (Nat × Nat × Nat)) : (k.emit src code l).lgrp = k.lgrp := by
  unfold Core.emit; simp
@[simp] theorem Core.emit_opc (src code : Nat) (l : List (Nat × Nat × Nat)) : (k.emit src code l).opc = k.opc := by
  unfold Core.emit; simp
@[simp] theorem Core.emit_ident (src code : Nat) (l : List (Nat × Nat × Nat)) : (k.emit src code l).ident = k.ident := by
  unfold Core.emit; simp
@[simp] theorem Core.emit_dseq (src code : Nat) (l : List (Nat × Nat × Nat)) : (k.emit src code l).dseq = k.dseq := by
  unfold Core.emit; simp
@[simp] theorem Core.emit_desc (src code : Nat) (l : List (Nat × Nat × Nat)) : (k.emit src code l).desc = k.desc := by
  unfold Core.emit; simp
@[simp] theorem Core.emit_svc (src code : Nat) (l : List (Nat × Nat × Nat)) : (k.emit src code l).svc = k.svc := by
  unfold Core.emit; simp
@[simp] theorem Core.emit_free (src code : Nat) (l : List (Nat × Nat × Nat)) : (k.emit src code l).free = k.free := by
  unfold Core.emit; simp

/-! ### flushLim -/

@[simp] theorem Core.flushLim_tbl (l : Lim) : (k.flushLim l).tbl = k.tbl := by
  unfold Core.flushLim; simp
@[simp] theorem Core.flushLim_shad (l : Lim) : (k.flushLim l).shad = k.shad := by
  unfold Core.flushLim; simp
@[simp] theorem Core.flushLim_hold (l : Lim) : (k.flushLim l).hold = k.hold := by
  unfold Core.flushLim; simp
@[simp] theorem Core.flushLim_shHold (l : Lim) : (k.flushLim l).shHold = k.shHold := by
  unfold Core.flushLim; simp
@[simp] theorem Core.flushLim_fns (l : Lim) : (k.flushLim l).fns = k.fns := by
  unfold Core.flushLim; simp
@[simp] theorem Core.flushLim_tim (l : Lim) : (k.flushLim l).tim = k.tim := by
  unfold Core.flushLim; simp
@[simp] theorem Core.flushLim_ttx (l : Lim) : (k.flushLim l).ttx = k.ttx := by
  unfold Core.flushLim; simp
@[simp] theorem Core.flushLim_mgt (l : Lim) : (k.flushLim l).mgt = k.mgt := by
  unfold Core.flushLim; simp
@[simp] theorem Core.flushLim_tlm (l : Lim) : (k.flushLim l).tlm = k.tlm := by
  unfold Core.flushLim; simp
@[simp] theorem Core.flushLim_fpc (l : Lim) : (k.flushLim l).fpc = k.fpc := by
  unfold Core.flushLim; simp
@[simp] theorem Core.flushLim_frt (l : Lim) : (k.flushLim l).frt = k.frt := by
  unfold Core.flushLim; simp
@[simp] theorem Core.flushLim_fcs (l : Lim) : (k.flushLim l).fcs = k.fcs := by
  unfold Core.flushLim; simp
@[simp] theorem Core.flushLim_mem (l : Lim) : (k.flushLim l).mem = k.mem := by
  unfold Core.flushLim; simp
@[simp] theorem Core.flushLim_psn (l : Lim) : (k.flushLim l).psn = k.psn := by
  unfold Core.flushLim; simp
@[simp] theorem Core.flushLim_bpm (l : Lim) : (k.flushLim l).bpm = k.bpm := by
  unfold Core.flushLim; simp
@[simp] theorem Core.flushLim_hbc (l : Lim) : (k.flushLim l).hbc = k.hbc := by
  unfold Core.flushLim; simp
@[simp] theorem Core.flushLim_cle (l : Lim) : (k.flushLim l).cle = k.cle := by
  unfold Core.flushLim; simp
@[simp] theorem Core.flushLim_site (l : Lim) : (k.flushLim l).site = k.site := by
  unfold Core.flushLim; simp
@[simp] theorem Core.flushLim_xfm (l : Lim) : (k.flushLim l).xfm = k.xfm := by
  unfold Core.flushLim; simp
@[simp] theorem Core.flushLim_cip (l : Lim) : (k.flushLim l).cip = k.cip := by
  unfold Core.flushLim; simp
@[simp] theorem Core.flushLim_sch (l : Lim) : (k.flushLim l).sch = k.sch := by
  unfold Core.flushLim; simp
@[simp] theorem Core.flushLim_shpr (l : Lim) : (k.flushLim l).shpr = k.shpr := by
  unfold Core.flushLim; simp
@[simp] theorem Core.flushLim_lport (l : Lim) : (k.flushLim l).lport = k.lport := by
  unfold Core.flushLim; simp
@[simp] theorem Core.flushLim_lgrp (l : Lim) : (k.flushLim l).lgrp = k.lgrp := by
  unfold Core.flushLim; simp
@[simp] theorem Core.flushLim_opc (l : Lim) : (k.flushLim l).opc = k.opc := by
  unfold Core.flushLim; simp
@[simp] theorem Core.flushLim_ident (l : Lim) : (k.flushLim l).ident = k.ident := by
  unfold Core.flushLim; simp
@[simp] theorem Core.flushLim_dseq (l : Lim) : (k.flushLim l).dseq = k.dseq := by
  unfold Core.flushLim; simp
@[simp] theorem Core.flushLim_desc (l : Lim) : (k.flushLim l).desc = k.desc := by
  unfold Core.flushLim; simp
@[simp] theorem Core.flushLim_svc (l : Lim) : (k.flushLim l).svc = k.svc := by
  unfold Core.flushLim; simp
@[simp] theorem Core.flushLim_free (l : Lim) : (k.flushLim l).free = k.free := by
  unfold Core.flushLim; simp

/-! ### emitLimN -/

@[simp] theorem Core.emitLimN_tbl (src code key iv lo w n : Nat) (l : List (Nat × Nat × Nat)) : (k.emitLimN src code key iv lo w n l).tbl = k.tbl := by
  unfold Core.emitLimN; repeat' split
  all_goals simp
@[simp] theorem Core.emitLimN_shad (src code key iv lo w n : Nat) (l : List (Nat × Nat × Nat)) : (k.emitLimN src code key iv lo w n l).shad = k.shad := by
  unfold Core.emitLimN; repeat' split
  all_goals simp
@[simp] theorem Core.emitLimN_hold (src code key iv lo w n : Nat) (l : List (Nat × Nat × Nat)) : (k.emitLimN src code key iv lo w n l).hold = k.hold := by
  unfold Core.emitLimN; repeat' split
  all_goals simp
@[simp] theorem Core.emitLimN_shHold (src code key iv lo w n : Nat) (l : List (Nat × Nat × Nat)) : (k.emitLimN src code key iv lo w n l).shHold = k.shHold := by
  unfold Core.emitLimN; repeat' split
  all_goals simp
@[simp] theorem Core.emitLimN_fns (src code key iv lo w n : Nat) (l : List (Nat × Nat × Nat)) : (k.emitLimN src code key iv lo w n l).fns = k.fns := by
  unfold Core.emitLimN; repeat' split
  all_goals simp
@[simp] theorem Core.emitLimN_tim (src code key iv lo w n : Nat) (l : List (Nat × Nat × Nat)) : (k.emitLimN src code key iv lo w n l).tim = k.tim := by
  unfold Core.emitLimN; repeat' split
  all_goals simp
@[simp] theorem Core.emitLimN_ttx (src code key iv lo w n : Nat) (l : List (Nat × Nat × Nat)) : (k.emitLimN src code key iv lo w n l).ttx = k.ttx := by
  unfold Core.emitLimN; repeat' split
  all_goals simp
@[simp] theorem Core.emitLimN_mgt (src code key iv lo w n : Nat) (l : List (Nat × Nat × Nat)) : (k.emitLimN src code key iv lo w n l).mgt = k.mgt := by
  unfold Core.emitLimN; repeat' split
  all_goals simp
@[simp] theorem Core.emitLimN_tlm (src code key iv lo w n : Nat) (l : List (Nat × Nat × Nat)) : (k.emitLimN src code key iv lo w n l).tlm = k.tlm := by
  unfold Core.emitLimN; repeat' split
  all_goals simp
@[simp] theorem Core.emitLimN_fpc (src code key iv lo w n : Nat) (l : List (Nat × Nat × Nat)) : (k.emitLimN src code key iv lo w n l).fpc = k.fpc := by
  unfold Core.emitLimN; repeat' split
  all_goals simp
@[simp] theorem Core.emitLimN_frt (src code key iv lo w n : Nat) (l : List (Nat × Nat × Nat)) : (k.emitLimN src code key iv lo w n l).frt = k.frt := by
  unfold Core.emitLimN; repeat' split
  all_goals simp
@[simp] theorem Core.emitLimN_fcs (src code key iv lo w n : Nat) (l : List (Nat × Nat × Nat)) : (k.emitLimN src code key iv lo w n l).fcs = k.fcs := by
  unfold Core.emitLimN; repeat' split
  all_goals simp
@[simp] theorem Core.emitLimN_mem (src code key iv lo w n : Nat) (l : List (Nat × Nat × Nat)) : (k.emitLimN src code key iv lo w n l).mem = k.mem := by
  unfold Core.emitLimN; repeat' split
  all_goals simp
@[simp] theorem Core.emitLimN_psn (src code key iv lo w n : Nat) (l : List (Nat × Nat × Nat)) : (k.emitLimN src code key iv lo w n l).psn = k.psn := by
  unfold Core.emitLimN; repeat' split
  all_goals simp
@[simp] theorem Core.emitLimN_bpm (src code key iv lo w n : Nat) (l : List (Nat × Nat × Nat)) : (k.emitLimN src code key iv lo w n l).bpm = k.bpm := by
  unfold Core.emitLimN; repeat' split
  all_goals simp
@[simp] theorem Core.emitLimN_hbc (src code key iv lo w n : Nat) (l : List (Nat × Nat × Nat)) : (k.emitLimN src code key iv lo w n l).hbc = k.hbc := by
  unfold Core.emitLimN; repeat' split
  all_goals simp
@[simp] theorem Core.emitLimN_cle (src code key iv lo w n : Nat) (l : List (Nat × Nat × Nat)) : (k.emitLimN src code key iv lo w n l).cle = k.cle := by
  unfold Core.emitLimN; repeat' split
  all_goals simp
@[simp] theorem Core.emitLimN_site (src code key iv lo w n : Nat) (l : List (Nat × Nat × Nat)) : (k.emitLimN src code key iv lo w n l).site = k.site := by
  unfold Core.emitLimN; repeat' split
  all_goals simp
@[simp] theorem Core.emitLimN_xfm (src code key iv lo w n : Nat) (l : List (Nat × Nat × Nat)) : (k.emitLimN src code key iv lo w n l).xfm = k.xfm := by
  unfold Core.emitLimN; repeat' split
  all_goals simp
@[simp] theorem Core.emitLimN_cip (src code key iv lo w n : Nat) (l : List (Nat × Nat × Nat)) : (k.emitLimN src code key iv lo w n l).cip = k.cip := by
  unfold Core.emitLimN; repeat' split
  all_goals simp
@[simp] theorem Core.emitLimN_sch (src code key iv lo w n : Nat) (l : List (Nat × Nat × Nat)) : (k.emitLimN src code key iv lo w n l).sch = k.sch := by
  unfold Core.emitLimN; repeat' split
  all_goals simp
@[simp] theorem Core.emitLimN_shpr (src code key iv lo w n : Nat) (l : List (Nat × Nat × Nat)) : (k.emitLimN src code key iv lo w n l).shpr = k.shpr := by
  unfold Core.emitLimN; repeat' split
  all_goals simp
@[simp] theorem Core.emitLimN_lport (src code key iv lo w n : Nat) (l : List (Nat × Nat × Nat)) : (k.emitLimN src code key iv lo w n l).lport = k.lport := by
  unfold Core.emitLimN; repeat' split
  all_goals simp
@[simp] theorem Core.emitLimN_lgrp (src code key iv lo w n : Nat) (l : List (Nat × Nat × Nat)) : (k.emitLimN src code key iv lo w n l).lgrp = k.lgrp := by
  unfold Core.emitLimN; repeat' split
  all_goals simp
@[simp] theorem Core.emitLimN_opc (src code key iv lo w n : Nat) (l : List (Nat × Nat × Nat)) : (k.emitLimN src code key iv lo w n l).opc = k.opc := by
  unfold Core.emitLimN; repeat' split
  all_goals simp
@[simp] theorem Core.emitLimN_ident (src code key iv lo w n : Nat) (l : List (Nat × Nat × Nat)) : (k.emitLimN src code key iv lo w n l).ident = k.ident := by
  unfold Core.emitLimN; repeat' split
  all_goals simp
@[simp] theorem Core.emitLimN_dseq (src code key iv lo w n : Nat) (l : List (Nat × Nat × Nat)) : (k.emitLimN src code key iv lo w n l).dseq = k.dseq := by
  unfold Core.emitLimN; repeat' split
  all_goals simp
@[simp] theorem Core.emitLimN_desc (src code key iv lo w n : Nat) (l : List (Nat × Nat × Nat)) : (k.emitLimN src code key iv lo w n l).desc = k.desc := by
  unfold Core.emitLimN; repeat' split
  all_goals simp
@[simp] theorem Core.emitLimN_svc (src code key iv lo w n : Nat) (l : List (Nat × Nat × Nat)) : (k.emitLimN src code key iv lo w n l).svc = k.svc := by
  unfold Core.emitLimN; repeat' split
  all_goals simp
@[simp] theorem Core.emitLimN_free (src code key iv lo w n : Nat) (l : List (Nat × Nat × Nat)) : (k.emitLimN src code key iv lo w n l).free = k.free := by
  unfold Core.emitLimN; repeat' split
  all_goals simp

/-! ### emitLim -/

@[simp] theorem Core.emitLim_tbl (src code key lo w : Nat) (l : List (Nat × Nat × Nat)) : (k.emitLim src code key lo w l).tbl = k.tbl := by
  unfold Core.emitLim; simp
@[simp] theorem Core.emitLim_shad (src code key lo w : Nat) (l : List (Nat × Nat × Nat)) : (k.emitLim src code key lo w l).shad = k.shad := by
  unfold Core.emitLim; simp
@[simp] theorem Core.emitLim_hold (src code key lo w : Nat) (l : List (Nat × Nat × Nat)) : (k.emitLim src code key lo w l).hold = k.hold := by
  unfold Core.emitLim; simp
@[simp] theorem Core.emitLim_shHold (src code key lo w : Nat) (l : List (Nat × Nat × Nat)) : (k.emitLim src code key lo w l).shHold = k.shHold := by
  unfold Core.emitLim; simp
@[simp] theorem Core.emitLim_fns (src code key lo w : Nat) (l : List (Nat × Nat × Nat)) : (k.emitLim src code key lo w l).fns = k.fns := by
  unfold Core.emitLim; simp
@[simp] theorem Core.emitLim_tim (src code key lo w : Nat) (l : List (Nat × Nat × Nat)) : (k.emitLim src code key lo w l).tim = k.tim := by
  unfold Core.emitLim; simp
@[simp] theorem Core.emitLim_ttx (src code key lo w : Nat) (l : List (Nat × Nat × Nat)) : (k.emitLim src code key lo w l).ttx = k.ttx := by
  unfold Core.emitLim; simp
@[simp] theorem Core.emitLim_mgt (src code key lo w : Nat) (l : List (Nat × Nat × Nat)) : (k.emitLim src code key lo w l).mgt = k.mgt := by
  unfold Core.emitLim; simp
@[simp] theorem Core.emitLim_tlm (src code key lo w : Nat) (l : List (Nat × Nat × Nat)) : (k.emitLim src code key lo w l).tlm = k.tlm := by
  unfold Core.emitLim; simp
@[simp] theorem Core.emitLim_fpc (src code key lo w : Nat) (l : List (Nat × Nat × Nat)) : (k.emitLim src code key lo w l).fpc = k.fpc := by
  unfold Core.emitLim; simp
@[simp] theorem Core.emitLim_frt (src code key lo w : Nat) (l : List (Nat × Nat × Nat)) : (k.emitLim src code key lo w l).frt = k.frt := by
  unfold Core.emitLim; simp
@[simp] theorem Core.emitLim_fcs (src code key lo w : Nat) (l : List (Nat × Nat × Nat)) : (k.emitLim src code key lo w l).fcs = k.fcs := by
  unfold Core.emitLim; simp
@[simp] theorem Core.emitLim_mem (src code key lo w : Nat) (l : List (Nat × Nat × Nat)) : (k.emitLim src code key lo w l).mem = k.mem := by
  unfold Core.emitLim; simp
@[simp] theorem Core.emitLim_psn (src code key lo w : Nat) (l : List (Nat × Nat × Nat)) : (k.emitLim src code key lo w l).psn = k.psn := by
  unfold Core.emitLim; simp
@[simp] theorem Core.emitLim_bpm (src code key lo w : Nat) (l : List (Nat × Nat × Nat)) : (k.emitLim src code key lo w l).bpm = k.bpm := by
  unfold Core.emitLim; simp
@[simp] theorem Core.emitLim_hbc (src code key lo w : Nat) (l : List (Nat × Nat × Nat)) : (k.emitLim src code key lo w l).hbc = k.hbc := by
  unfold Core.emitLim; simp
@[simp] theorem Core.emitLim_cle (src code key lo w : Nat) (l : List (Nat × Nat × Nat)) : (k.emitLim src code key lo w l).cle = k.cle := by
  unfold Core.emitLim; simp
@[simp] theorem Core.emitLim_site (src code key lo w : Nat) (l : List (Nat × Nat × Nat)) : (k.emitLim src code key lo w l).site = k.site := by
  unfold Core.emitLim; simp
@[simp] theorem Core.emitLim_xfm (src code key lo w : Nat) (l : List (Nat × Nat × Nat)) : (k.emitLim src code key lo w l).xfm = k.xfm := by
  unfold Core.emitLim; simp
@[simp] theorem Core.emitLim_cip (src code key lo w : Nat) (l : List (Nat × Nat × Nat)) : (k.emitLim src code key lo w l).cip = k.cip := by
  unfold Core.emitLim; simp
@[simp] theorem Core.emitLim_sch (src code key lo w : Nat) (l : List (Nat × Nat × Nat)) : (k.emitLim src code key lo w l).sch = k.sch := by
  unfold Core.emitLim; simp
@[simp] theorem Core.emitLim_shpr (src code key lo w : Nat) (l : List (Nat × Nat × Nat)) : (k.emitLim src code key lo w l).shpr = k.shpr := by
  unfold Core.emitLim; simp
@[simp] theorem Core.emitLim_lport (src code key lo w : Nat) (l : List (Nat × Nat × Nat)) : (k.emitLim src code key lo w l).lport = k.lport := by
  unfold Core.emitLim; simp
@[simp] theorem Core.emitLim_lgrp (src code key lo w : Nat) (l : List (Nat × Nat × Nat)) : (k.emitLim src code key lo w l).lgrp = k.lgrp := by
  unfold Core.emitLim; simp
@[simp] theorem Core.emitLim_opc (src code key lo w : Nat) (l : List (Nat × Nat × Nat)) : (k.emitLim src code key lo w l).opc = k.opc := by
  unfold Core.emitLim; simp
@[simp] theorem Core.emitLim_ident (src code key lo w : Nat) (l : List (Nat × Nat × Nat)) : (k.emitLim src code key lo w l).ident = k.ident := by
  unfold Core.emitLim; simp
@[simp] theorem Core.emitLim_dseq (src code key lo w : Nat) (l : List (Nat × Nat × Nat)) : (k.emitLim src code key lo w l).dseq = k.dseq := by
  unfold Core.emitLim; simp
@[simp] theorem Core.emitLim_desc (src code key lo w : Nat) (l : List (Nat × Nat × Nat)) : (k.emitLim src code key lo w l).desc = k.desc := by
  unfold Core.emitLim; simp
@[simp] theorem Core.emitLim_svc (src code key lo w : Nat) (l : List (Nat × Nat × Nat)) : (k.emitLim src code key lo w l).svc = k.svc := by
  unfold Core.emitLim; simp
@[simp] theorem Core.emitLim_free (src code key lo w : Nat) (l : List (Nat × Nat × Nat)) : (k.emitLim src code key lo w l).free = k.free := by
  unfold Core.emitLim; simp

/-! ### ctxEvent -/

@[simp] theorem Core.ctxEvent_tbl (x n ph q oph st : Nat) : (k.ctxEvent x n ph q oph st).tbl = k.tbl := by
  unfold Core.ctxEvent; simp
@[simp] theorem Core.ctxEvent_shad (x n ph q oph st : Nat) : (k.ctxEvent x n ph q oph st).shad = k.shad := by
  unfold Core.ctxEvent; simp
@[simp] theorem Core.ctxEvent_hold (x n ph q oph st : Nat) : (k.ctxEvent x n ph q oph st).hold = k.hold := by
  unfold Core.ctxEvent; simp
@[simp] theorem Core.ctxEvent_shHold (x n ph q oph st : Nat) : (k.ctxEvent x n ph q oph st).shHold = k.shHold := by
  unfold Core.ctxEvent; simp
@[simp] theorem Core.ctxEvent_fns (x n ph q oph st : Nat) : (k.ctxEvent x n ph q oph st).fns = k.fns := by
  unfold Core.ctxEvent; simp
@[simp] theorem Core.ctxEvent_tim (x n ph q oph st : Nat) : (k.ctxEvent x n ph q oph st).tim = k.tim := by
  unfold Core.ctxEvent; simp
@[simp] theorem Core.ctxEvent_ttx (x n ph q oph st : Nat) : (k.ctxEvent x n ph q oph st).ttx = k.ttx := by
  unfold Core.ctxEvent; simp
@[simp] theorem Core.ctxEvent_mgt (x n ph q oph st : Nat) : (k.ctxEvent x n ph q oph st).mgt = k.mgt := by
  unfold Core.ctxEvent; simp
@[simp] theorem Core.ctxEvent_tlm (x n ph q oph st : Nat) : (k.ctxEvent x n ph q oph st).tlm = k.tlm := by
  unfold Core.ctxEvent; simp
@[simp] theorem Core.ctxEvent_fpc (x n ph q oph st : Nat) : (k.ctxEvent x n ph q oph st).fpc = k.fpc := by
  unfold Core.ctxEvent; simp
@[simp] theorem Core.ctxEvent_frt (x n ph q oph st : Nat) : (k.ctxEvent x n ph q oph st).frt = k.frt := by
  unfold Core.ctxEvent; simp
@[simp] theorem Core.ctxEvent_fcs (x n ph q oph st : Nat) : (k.ctxEvent x n ph q oph st).fcs = k.fcs := by
  unfold Core.ctxEvent; simp
@[simp] theorem Core.ctxEvent_mem (x n ph q oph st : Nat) : (k.ctxEvent x n ph q oph st).mem = k.mem := by
  unfold Core.ctxEvent; simp
@[simp] theorem Core.ctxEvent_psn (x n ph q oph st : Nat) : (k.ctxEvent x n ph q oph st).psn = k.psn := by
  unfold Core.ctxEvent; simp
@[simp] theorem Core.ctxEvent_bpm (x n ph q oph st : Nat) : (k.ctxEvent x n ph q oph st).bpm = k.bpm := by
  unfold Core.ctxEvent; simp
@[simp] theorem Core.ctxEvent_hbc (x n ph q oph st : Nat) : (k.ctxEvent x n ph q oph st).hbc = k.hbc := by
  unfold Core.ctxEvent; simp
@[simp] theorem Core.ctxEvent_cle (x n ph q oph st : Nat) : (k.ctxEvent x n ph q oph st).cle = k.cle := by
  unfold Core.ctxEvent; simp
@[simp] theorem Core.ctxEvent_site (x n ph q oph st : Nat) : (k.ctxEvent x n ph q oph st).site = k.site := by
  unfold Core.ctxEvent; simp
@[simp] theorem Core.ctxEvent_xfm (x n ph q oph st : Nat) : (k.ctxEvent x n ph q oph st).xfm = k.xfm := by
  unfold Core.ctxEvent; simp
@[simp] theorem Core.ctxEvent_cip (x n ph q oph st : Nat) : (k.ctxEvent x n ph q oph st).cip = k.cip := by
  unfold Core.ctxEvent; simp
@[simp] theorem Core.ctxEvent_sch (x n ph q oph st : Nat) : (k.ctxEvent x n ph q oph st).sch = k.sch := by
  unfold Core.ctxEvent; simp
@[simp] theorem Core.ctxEvent_shpr (x n ph q oph st : Nat) : (k.ctxEvent x n ph q oph st).shpr = k.shpr := by
  unfold Core.ctxEvent; simp
@[simp] theorem Core.ctxEvent_lport (x n ph q oph st : Nat) : (k.ctxEvent x n ph q oph st).lport = k.lport := by
  unfold Core.ctxEvent; simp
@[simp] theorem Core.ctxEvent_lgrp (x n ph q oph st : Nat) : (k.ctxEvent x n ph q oph st).lgrp = k.lgrp := by
  unfold Core.ctxEvent; simp
@[simp] theorem Core.ctxEvent_opc (x n ph q oph st : Nat) : (k.ctxEvent x n ph q oph st).opc = k.opc := by
  unfold Core.ctxEvent; simp
@[simp] theorem Core.ctxEvent_ident (x n ph q oph st : Nat) : (k.ctxEvent x n ph q oph st).ident = k.ident := by
  unfold Core.ctxEvent; simp
@[simp] theorem Core.ctxEvent_dseq (x n ph q oph st : Nat) : (k.ctxEvent x n ph q oph st).dseq = k.dseq := by
  unfold Core.ctxEvent; simp
@[simp] theorem Core.ctxEvent_desc (x n ph q oph st : Nat) : (k.ctxEvent x n ph q oph st).desc = k.desc := by
  unfold Core.ctxEvent; simp
@[simp] theorem Core.ctxEvent_svc (x n ph q oph st : Nat) : (k.ctxEvent x n ph q oph st).svc = k.svc := by
  unfold Core.ctxEvent; simp
@[simp] theorem Core.ctxEvent_free (x n ph q oph st : Nat) : (k.ctxEvent x n ph q oph st).free = k.free := by
  unfold Core.ctxEvent; simp

/-! ### fnEvent -/

@[simp] theorem Core.fnEvent_tbl (i : FnId) (q n : FState) (st : Nat) : (k.fnEvent i q n st).tbl = k.tbl := by
  unfold Core.fnEvent; split <;> simp
@[simp] theorem Core.fnEvent_shad (i : FnId) (q n : FState) (st : Nat) : (k.fnEvent i q n st).shad = k.shad := by
  unfold Core.fnEvent; split <;> simp
@[simp] theorem Core.fnEvent_hold (i : FnId) (q n : FState) (st : Nat) : (k.fnEvent i q n st).hold = k.hold := by
  unfold Core.fnEvent; split <;> simp
@[simp] theorem Core.fnEvent_shHold (i : FnId) (q n : FState) (st : Nat) : (k.fnEvent i q n st).shHold = k.shHold := by
  unfold Core.fnEvent; split <;> simp
@[simp] theorem Core.fnEvent_fns (i : FnId) (q n : FState) (st : Nat) : (k.fnEvent i q n st).fns = k.fns := by
  unfold Core.fnEvent; split <;> simp
@[simp] theorem Core.fnEvent_tim (i : FnId) (q n : FState) (st : Nat) : (k.fnEvent i q n st).tim = k.tim := by
  unfold Core.fnEvent; split <;> simp
@[simp] theorem Core.fnEvent_ttx (i : FnId) (q n : FState) (st : Nat) : (k.fnEvent i q n st).ttx = k.ttx := by
  unfold Core.fnEvent; split <;> simp
@[simp] theorem Core.fnEvent_mgt (i : FnId) (q n : FState) (st : Nat) : (k.fnEvent i q n st).mgt = k.mgt := by
  unfold Core.fnEvent; split <;> simp
@[simp] theorem Core.fnEvent_tlm (i : FnId) (q n : FState) (st : Nat) : (k.fnEvent i q n st).tlm = k.tlm := by
  unfold Core.fnEvent; split <;> simp
@[simp] theorem Core.fnEvent_fpc (i : FnId) (q n : FState) (st : Nat) : (k.fnEvent i q n st).fpc = k.fpc := by
  unfold Core.fnEvent; split <;> simp
@[simp] theorem Core.fnEvent_frt (i : FnId) (q n : FState) (st : Nat) : (k.fnEvent i q n st).frt = k.frt := by
  unfold Core.fnEvent; split <;> simp
@[simp] theorem Core.fnEvent_fcs (i : FnId) (q n : FState) (st : Nat) : (k.fnEvent i q n st).fcs = k.fcs := by
  unfold Core.fnEvent; split <;> simp
@[simp] theorem Core.fnEvent_mem (i : FnId) (q n : FState) (st : Nat) : (k.fnEvent i q n st).mem = k.mem := by
  unfold Core.fnEvent; split <;> simp
@[simp] theorem Core.fnEvent_psn (i : FnId) (q n : FState) (st : Nat) : (k.fnEvent i q n st).psn = k.psn := by
  unfold Core.fnEvent; split <;> simp
@[simp] theorem Core.fnEvent_bpm (i : FnId) (q n : FState) (st : Nat) : (k.fnEvent i q n st).bpm = k.bpm := by
  unfold Core.fnEvent; split <;> simp
@[simp] theorem Core.fnEvent_hbc (i : FnId) (q n : FState) (st : Nat) : (k.fnEvent i q n st).hbc = k.hbc := by
  unfold Core.fnEvent; split <;> simp
@[simp] theorem Core.fnEvent_site (i : FnId) (q n : FState) (st : Nat) : (k.fnEvent i q n st).site = k.site := by
  unfold Core.fnEvent; split <;> simp
@[simp] theorem Core.fnEvent_xfm (i : FnId) (q n : FState) (st : Nat) : (k.fnEvent i q n st).xfm = k.xfm := by
  unfold Core.fnEvent; split <;> simp
@[simp] theorem Core.fnEvent_cip (i : FnId) (q n : FState) (st : Nat) : (k.fnEvent i q n st).cip = k.cip := by
  unfold Core.fnEvent; split <;> simp
@[simp] theorem Core.fnEvent_sch (i : FnId) (q n : FState) (st : Nat) : (k.fnEvent i q n st).sch = k.sch := by
  unfold Core.fnEvent; split <;> simp
@[simp] theorem Core.fnEvent_shpr (i : FnId) (q n : FState) (st : Nat) : (k.fnEvent i q n st).shpr = k.shpr := by
  unfold Core.fnEvent; split <;> simp
@[simp] theorem Core.fnEvent_lport (i : FnId) (q n : FState) (st : Nat) : (k.fnEvent i q n st).lport = k.lport := by
  unfold Core.fnEvent; split <;> simp
@[simp] theorem Core.fnEvent_lgrp (i : FnId) (q n : FState) (st : Nat) : (k.fnEvent i q n st).lgrp = k.lgrp := by
  unfold Core.fnEvent; split <;> simp
@[simp] theorem Core.fnEvent_opc (i : FnId) (q n : FState) (st : Nat) : (k.fnEvent i q n st).opc = k.opc := by
  unfold Core.fnEvent; split <;> simp
@[simp] theorem Core.fnEvent_ident (i : FnId) (q n : FState) (st : Nat) : (k.fnEvent i q n st).ident = k.ident := by
  unfold Core.fnEvent; split <;> simp
@[simp] theorem Core.fnEvent_dseq (i : FnId) (q n : FState) (st : Nat) : (k.fnEvent i q n st).dseq = k.dseq := by
  unfold Core.fnEvent; split <;> simp
@[simp] theorem Core.fnEvent_desc (i : FnId) (q n : FState) (st : Nat) : (k.fnEvent i q n st).desc = k.desc := by
  unfold Core.fnEvent; split <;> simp
@[simp] theorem Core.fnEvent_svc (i : FnId) (q n : FState) (st : Nat) : (k.fnEvent i q n st).svc = k.svc := by
  unfold Core.fnEvent; split <;> simp
@[simp] theorem Core.fnEvent_free (i : FnId) (q n : FState) (st : Nat) : (k.fnEvent i q n st).free = k.free := by
  unfold Core.fnEvent; split <;> simp

/-! ### setFst -/

@[simp] theorem Core.setFst_tbl (i : FnId) (n : FState) (st : Nat) : (k.setFst i n st).tbl = k.tbl := by
  unfold Core.setFst; simp
@[simp] theorem Core.setFst_shad (i : FnId) (n : FState) (st : Nat) : (k.setFst i n st).shad = k.shad := by
  unfold Core.setFst; simp
@[simp] theorem Core.setFst_hold (i : FnId) (n : FState) (st : Nat) : (k.setFst i n st).hold = k.hold := by
  unfold Core.setFst; simp
@[simp] theorem Core.setFst_shHold (i : FnId) (n : FState) (st : Nat) : (k.setFst i n st).shHold = k.shHold := by
  unfold Core.setFst; simp
@[simp] theorem Core.setFst_tim (i : FnId) (n : FState) (st : Nat) : (k.setFst i n st).tim = k.tim := by
  unfold Core.setFst; simp
@[simp] theorem Core.setFst_ttx (i : FnId) (n : FState) (st : Nat) : (k.setFst i n st).ttx = k.ttx := by
  unfold Core.setFst; simp
@[simp] theorem Core.setFst_mgt (i : FnId) (n : FState) (st : Nat) : (k.setFst i n st).mgt = k.mgt := by
  unfold Core.setFst; simp
@[simp] theorem Core.setFst_tlm (i : FnId) (n : FState) (st : Nat) : (k.setFst i n st).tlm = k.tlm := by
  unfold Core.setFst; simp
@[simp] theorem Core.setFst_fpc (i : FnId) (n : FState) (st : Nat) : (k.setFst i n st).fpc = k.fpc := by
  unfold Core.setFst; simp
@[simp] theorem Core.setFst_frt (i : FnId) (n : FState) (st : Nat) : (k.setFst i n st).frt = k.frt := by
  unfold Core.setFst; simp
@[simp] theorem Core.setFst_fcs (i : FnId) (n : FState) (st : Nat) : (k.setFst i n st).fcs = k.fcs := by
  unfold Core.setFst; simp
@[simp] theorem Core.setFst_mem (i : FnId) (n : FState) (st : Nat) : (k.setFst i n st).mem = k.mem := by
  unfold Core.setFst; simp
@[simp] theorem Core.setFst_psn (i : FnId) (n : FState) (st : Nat) : (k.setFst i n st).psn = k.psn := by
  unfold Core.setFst; simp
@[simp] theorem Core.setFst_bpm (i : FnId) (n : FState) (st : Nat) : (k.setFst i n st).bpm = k.bpm := by
  unfold Core.setFst; simp
@[simp] theorem Core.setFst_hbc (i : FnId) (n : FState) (st : Nat) : (k.setFst i n st).hbc = k.hbc := by
  unfold Core.setFst; simp
@[simp] theorem Core.setFst_site (i : FnId) (n : FState) (st : Nat) : (k.setFst i n st).site = k.site := by
  unfold Core.setFst; simp
@[simp] theorem Core.setFst_xfm (i : FnId) (n : FState) (st : Nat) : (k.setFst i n st).xfm = k.xfm := by
  unfold Core.setFst; simp
@[simp] theorem Core.setFst_cip (i : FnId) (n : FState) (st : Nat) : (k.setFst i n st).cip = k.cip := by
  unfold Core.setFst; simp
@[simp] theorem Core.setFst_sch (i : FnId) (n : FState) (st : Nat) : (k.setFst i n st).sch = k.sch := by
  unfold Core.setFst; simp
@[simp] theorem Core.setFst_shpr (i : FnId) (n : FState) (st : Nat) : (k.setFst i n st).shpr = k.shpr := by
  unfold Core.setFst; simp
@[simp] theorem Core.setFst_lport (i : FnId) (n : FState) (st : Nat) : (k.setFst i n st).lport = k.lport := by
  unfold Core.setFst; simp
@[simp] theorem Core.setFst_lgrp (i : FnId) (n : FState) (st : Nat) : (k.setFst i n st).lgrp = k.lgrp := by
  unfold Core.setFst; simp
@[simp] theorem Core.setFst_opc (i : FnId) (n : FState) (st : Nat) : (k.setFst i n st).opc = k.opc := by
  unfold Core.setFst; simp
@[simp] theorem Core.setFst_ident (i : FnId) (n : FState) (st : Nat) : (k.setFst i n st).ident = k.ident := by
  unfold Core.setFst; simp
@[simp] theorem Core.setFst_dseq (i : FnId) (n : FState) (st : Nat) : (k.setFst i n st).dseq = k.dseq := by
  unfold Core.setFst; simp
@[simp] theorem Core.setFst_desc (i : FnId) (n : FState) (st : Nat) : (k.setFst i n st).desc = k.desc := by
  unfold Core.setFst; simp
@[simp] theorem Core.setFst_svc (i : FnId) (n : FState) (st : Nat) : (k.setFst i n st).svc = k.svc := by
  unfold Core.setFst; simp
@[simp] theorem Core.setFst_free (i : FnId) (n : FState) (st : Nat) : (k.setFst i n st).free = k.free := by
  unfold Core.setFst; simp

/-! ### fnFault -/

@[simp] theorem Core.fnFault_tbl (i : FnId) (st : Nat) : (k.fnFault i st).tbl = k.tbl := by
  unfold Core.fnFault; split <;> simp
@[simp] theorem Core.fnFault_shad (i : FnId) (st : Nat) : (k.fnFault i st).shad = k.shad := by
  unfold Core.fnFault; split <;> simp
@[simp] theorem Core.fnFault_hold (i : FnId) (st : Nat) : (k.fnFault i st).hold = k.hold := by
  unfold Core.fnFault; split <;> simp
@[simp] theorem Core.fnFault_shHold (i : FnId) (st : Nat) : (k.fnFault i st).shHold = k.shHold := by
  unfold Core.fnFault; split <;> simp
@[simp] theorem Core.fnFault_tim (i : FnId) (st : Nat) : (k.fnFault i st).tim = k.tim := by
  unfold Core.fnFault; split <;> simp
@[simp] theorem Core.fnFault_ttx (i : FnId) (st : Nat) : (k.fnFault i st).ttx = k.ttx := by
  unfold Core.fnFault; split <;> simp
@[simp] theorem Core.fnFault_mgt (i : FnId) (st : Nat) : (k.fnFault i st).mgt = k.mgt := by
  unfold Core.fnFault; split <;> simp
@[simp] theorem Core.fnFault_tlm (i : FnId) (st : Nat) : (k.fnFault i st).tlm = k.tlm := by
  unfold Core.fnFault; split <;> simp
@[simp] theorem Core.fnFault_fpc (i : FnId) (st : Nat) : (k.fnFault i st).fpc = k.fpc := by
  unfold Core.fnFault; split <;> simp
@[simp] theorem Core.fnFault_frt (i : FnId) (st : Nat) : (k.fnFault i st).frt = k.frt := by
  unfold Core.fnFault; split <;> simp
@[simp] theorem Core.fnFault_fcs (i : FnId) (st : Nat) : (k.fnFault i st).fcs = k.fcs := by
  unfold Core.fnFault; split <;> simp
@[simp] theorem Core.fnFault_mem (i : FnId) (st : Nat) : (k.fnFault i st).mem = k.mem := by
  unfold Core.fnFault; split <;> simp
@[simp] theorem Core.fnFault_psn (i : FnId) (st : Nat) : (k.fnFault i st).psn = k.psn := by
  unfold Core.fnFault; split <;> simp
@[simp] theorem Core.fnFault_bpm (i : FnId) (st : Nat) : (k.fnFault i st).bpm = k.bpm := by
  unfold Core.fnFault; split <;> simp
@[simp] theorem Core.fnFault_hbc (i : FnId) (st : Nat) : (k.fnFault i st).hbc = k.hbc := by
  unfold Core.fnFault; split <;> simp
@[simp] theorem Core.fnFault_site (i : FnId) (st : Nat) : (k.fnFault i st).site = k.site := by
  unfold Core.fnFault; split <;> simp
@[simp] theorem Core.fnFault_xfm (i : FnId) (st : Nat) : (k.fnFault i st).xfm = k.xfm := by
  unfold Core.fnFault; split <;> simp
@[simp] theorem Core.fnFault_cip (i : FnId) (st : Nat) : (k.fnFault i st).cip = k.cip := by
  unfold Core.fnFault; split <;> simp
@[simp] theorem Core.fnFault_sch (i : FnId) (st : Nat) : (k.fnFault i st).sch = k.sch := by
  unfold Core.fnFault; split <;> simp
@[simp] theorem Core.fnFault_shpr (i : FnId) (st : Nat) : (k.fnFault i st).shpr = k.shpr := by
  unfold Core.fnFault; split <;> simp
@[simp] theorem Core.fnFault_lport (i : FnId) (st : Nat) : (k.fnFault i st).lport = k.lport := by
  unfold Core.fnFault; split <;> simp
@[simp] theorem Core.fnFault_lgrp (i : FnId) (st : Nat) : (k.fnFault i st).lgrp = k.lgrp := by
  unfold Core.fnFault; split <;> simp
@[simp] theorem Core.fnFault_opc (i : FnId) (st : Nat) : (k.fnFault i st).opc = k.opc := by
  unfold Core.fnFault; split <;> simp
@[simp] theorem Core.fnFault_ident (i : FnId) (st : Nat) : (k.fnFault i st).ident = k.ident := by
  unfold Core.fnFault; split <;> simp
@[simp] theorem Core.fnFault_dseq (i : FnId) (st : Nat) : (k.fnFault i st).dseq = k.dseq := by
  unfold Core.fnFault; split <;> simp
@[simp] theorem Core.fnFault_desc (i : FnId) (st : Nat) : (k.fnFault i st).desc = k.desc := by
  unfold Core.fnFault; split <;> simp
@[simp] theorem Core.fnFault_svc (i : FnId) (st : Nat) : (k.fnFault i st).svc = k.svc := by
  unfold Core.fnFault; split <;> simp
@[simp] theorem Core.fnFault_free (i : FnId) (st : Nat) : (k.fnFault i st).free = k.free := by
  unfold Core.fnFault; split <;> simp

end Sys2Proof.Machine
end

