-- ==== Sys2Proof/Laws/Sparse.lean ====
section
/-!
SUPPORT. Laws of the sparse map: a read after a write, and the canonical form that every write keeps.
-/

namespace Sys2Proof

variable {α : Type}

theorem lookupCell_eraseCell_same (d : α) (k : Nat) (l : List (Nat × α)) : lookupCell d k (eraseCell k l) = d := by
  induction l with
  | nil => rfl
  | cons c l ih =>
    obtain ⟨j, w⟩ := c
    by_cases h : j = k <;> simp [eraseCell, lookupCell, h, ih]

theorem lookupCell_eraseCell_ne (d : α) {j k : Nat} (h : j ≠ k) (l : List (Nat × α)) :
    lookupCell d j (eraseCell k l) = lookupCell d j l := by
  induction l with
  | nil => rfl
  | cons c l ih =>
    obtain ⟨i, w⟩ := c
    by_cases hk : i = k
    · subst hk; simp [eraseCell, lookupCell, ih, Ne.symm h]
    · simp [eraseCell, lookupCell, hk, ih]

theorem lookupCell_insertCell_ne (d : α) {j k : Nat} (h : j ≠ k) (v : α) (l : List (Nat × α)) :
    lookupCell d j (insertCell k v l) = lookupCell d j l := by
  induction l with
  | nil => simp [insertCell, lookupCell, Ne.symm h]
  | cons c l ih =>
    obtain ⟨i, w⟩ := c
    by_cases hk : k < i <;> simp [insertCell, lookupCell, hk, ih, Ne.symm h]

theorem lookupCell_insertCell_same (d : α) (k : Nat) (v : α) (l : List (Nat × α)) (h : ∀ c ∈ l, c.1 ≠ k) :
    lookupCell d k (insertCell k v l) = v := by
  induction l with
  | nil => simp [insertCell, lookupCell]
  | cons c l ih =>
    obtain ⟨i, w⟩ := c
    have hi : i ≠ k := h (i, w) (by simp)
    by_cases hk : k < i
    · simp [insertCell, lookupCell, hk]
    · simp only [insertCell, hk, if_false, lookupCell, hi]
      exact ih (fun c hc => h c (by simp [hc]))

theorem eraseCell_fresh (k : Nat) (l : List (Nat × α)) : ∀ c ∈ eraseCell k l, c.1 ≠ k := by
  induction l with
  | nil => simp [eraseCell]
  | cons c l ih =>
    obtain ⟨i, w⟩ := c
    by_cases hk : i = k
    · simpa [eraseCell, hk] using ih
    · simp only [eraseCell, hk, if_false, List.mem_cons]
      rintro c (rfl | hc)
      · exact hk
      · exact ih c hc

/-- A cell reads as written. -/
@[simp] theorem SMap.get_set_same [DecidableEq α] (m : SMap α) (d : α) (k : Nat) (v : α) : (m.set d k v).get d k = v := by
  unfold SMap.set SMap.get
  split
  · rename_i h; subst h; exact lookupCell_eraseCell_same _ _ _
  · exact lookupCell_insertCell_same _ _ _ _ (eraseCell_fresh k _)

/-- Every other cell reads as before. -/
theorem SMap.get_set_ne [DecidableEq α] (m : SMap α) (d e : α) {j k : Nat} (h : j ≠ k) (v : α) :
    (m.set d k v).get e j = m.get e j := by
  unfold SMap.set SMap.get
  split
  · exact lookupCell_eraseCell_ne _ h _
  · rw [lookupCell_insertCell_ne _ h, lookupCell_eraseCell_ne _ h]

theorem SMap.get_set [DecidableEq α] (m : SMap α) (d : α) (j k : Nat) (v : α) :
    (m.set d k v).get d j = if j = k then v else m.get d j := by
  split
  · rename_i h; subst h; exact SMap.get_set_same m d _ v
  · rename_i h; exact SMap.get_set_ne m d d h v

@[simp] theorem SMap.get_empty (d : α) (k : Nat) : ({} : SMap α).get d k = d := rfl

/-! ### The canonical form -/

theorem ascending_none_some (c : Nat × α) (l : List (Nat × α)) (b : Nat) (h : b < c.1) (hl : ascending none (c :: l) = true) :
    ascending (some b) (c :: l) = true := by
  obtain ⟨j, w⟩ := c
  simp only [ascending] at hl ⊢
  simp [h, hl]

theorem ascending_weaken {b b' : Nat} (h : b' ≤ b) (l : List (Nat × α)) (hl : ascending (some b) l = true) :
    ascending (some b') l = true := by
  cases l with
  | nil => rfl
  | cons c l =>
    obtain ⟨j, w⟩ := c
    simp only [ascending, Bool.and_eq_true, decide_eq_true_eq] at hl ⊢
    exact ⟨by omega, hl.2⟩

theorem ascending_insert (k : Nat) (v : α) (l : List (Nat × α)) (o : Option Nat) (ho : ∀ b ∈ o, b < k)
    (hf : ∀ c ∈ l, c.1 ≠ k) (hl : ascending o l = true) : ascending o (insertCell k v l) = true := by
  induction l generalizing o with
  | nil => cases o <;> simp [insertCell, ascending]; exact ho _ rfl
  | cons c l ih =>
    obtain ⟨j, w⟩ := c
    have hj : j ≠ k := hf (j, w) (by simp)
    have tail : ascending (some j) l = true := by cases o <;> simp_all [ascending]
    by_cases hk : k < j
    · have h1 : ascending (some k) ((j, w) :: l) = true := by simp [ascending, hk, tail]
      have : insertCell k v ((j, w) :: l) = (k, v) :: (j, w) :: l := by simp [insertCell, hk]
      rw [this]
      cases o with
      | none => simpa [ascending] using h1
      | some b => simp [ascending, ho b rfl]; simpa [ascending] using h1
    · have hlt : j < k := by omega
      have h2 := ih (some j) (by simpa using hlt) (fun c hc => hf c (by simp [hc])) tail
      have : insertCell k v ((j, w) :: l) = (j, w) :: insertCell k v l := by simp [insertCell, hk]
      rw [this]
      cases o with
      | none => simpa [ascending] using h2
      | some b =>
        simp only [ascending, Bool.and_eq_true, decide_eq_true_eq] at hl ⊢
        exact ⟨hl.1, h2⟩

theorem ascending_erase (k : Nat) (l : List (Nat × α)) (o : Option Nat) (hl : ascending o l = true) :
    ascending o (eraseCell k l) = true := by
  induction l generalizing o with
  | nil => rfl
  | cons c l ih =>
    obtain ⟨j, w⟩ := c
    have tail : ascending (some j) l = true := by cases o <;> simp_all [ascending]
    by_cases hk : j = k
    · simp only [eraseCell, hk, if_true]
      cases o with
      | none =>
        have := ih none (by
          cases l with
          | nil => rfl
          | cons c l => obtain ⟨i, u⟩ := c; simp_all [ascending])
        exact this
      | some b =>
        have hb : b < j := by simp_all [ascending]
        exact ih (some b) (ascending_weaken (by omega) l tail)
    · simp only [eraseCell, hk, if_false]
      have h2 := ih (some j) tail
      cases o with
      | none => simpa [ascending] using h2
      | some b =>
        simp only [ascending, Bool.and_eq_true, decide_eq_true_eq] at hl ⊢
        exact ⟨hl.1, h2⟩

theorem eraseCell_subset (k : Nat) (l : List (Nat × α)) : ∀ c ∈ eraseCell k l, c ∈ l := by
  induction l with
  | nil => simp [eraseCell]
  | cons c l ih =>
    obtain ⟨i, w⟩ := c
    by_cases hk : i = k
    · simp only [eraseCell, hk, if_true]; intro c hc; exact List.mem_cons_of_mem _ (ih c hc)
    · simp only [eraseCell, hk, if_false, List.mem_cons]
      rintro c (rfl | hc)
      · exact Or.inl rfl
      · exact Or.inr (ih c hc)

theorem insertCell_mem (k : Nat) (v : α) (l : List (Nat × α)) : ∀ c ∈ insertCell k v l, c = (k, v) ∨ c ∈ l := by
  induction l with
  | nil => simp [insertCell]
  | cons c l ih =>
    obtain ⟨i, w⟩ := c
    by_cases hk : k < i
    · simp [insertCell, hk]
    · simp only [insertCell, hk, if_false, List.mem_cons]
      rintro c (rfl | hc)
      · exact Or.inr (Or.inl rfl)
      · rcases ih c hc with h | h
        · exact Or.inl h
        · exact Or.inr (Or.inr h)

/-- A write keeps the canonical form. -/
theorem SMap.wf_set [DecidableEq α] (m : SMap α) (D : Nat → α) (k : Nat) (v : α) (h : m.wf D = true) :
    (m.set (D k) k v).wf D = true := by
  simp only [SMap.wf, Bool.and_eq_true, List.all_eq_true, decide_eq_true_eq] at h ⊢
  unfold SMap.set
  split
  · exact ⟨ascending_erase k _ _ h.1, fun c hc => h.2 c (eraseCell_subset k _ c hc)⟩
  · rename_i hv
    refine ⟨ascending_insert k v _ _ (by simp) (eraseCell_fresh k _) (ascending_erase k _ _ h.1), fun c hc => ?_⟩
    rcases insertCell_mem k v _ c hc with rfl | hc
    · exact hv
    · exact h.2 c (eraseCell_subset k _ c hc)

theorem SMap.wf_upd [DecidableEq α] (m : SMap α) (D : Nat → α) (k : Nat) (f : α → α) (h : m.wf D = true) :
    (m.upd (D k) k f).wf D = true := SMap.wf_set m D k _ h

end Sys2Proof
end

