-- ==== Sys2Proof/Laws/Memory.lean ====
section
/-!
SUPPORT. The memory: what a write leaves in it, and that it keeps the canonical form.
-/

namespace Sys2Proof.Machine

/-- A write leaves every byte outside it. -/
theorem get_memPut_out (l : List Byte) : ∀ (m : SMap Byte) (a b : Nat), b < a ∨ a + l.length ≤ b →
    (memPut m a l).get 0 b = m.get 0 b := by
  induction l with
  | nil => intro m a b _; rfl
  | cons x l ih =>
    intro m a b h
    simp only [List.length_cons] at h
    rw [memPut, ih _ _ _ (by omega), SMap.get_set_ne _ _ _ (by omega)]

/-- A byte read after a write into it is the byte written. -/
theorem get_memPut_in (l : List Byte) : ∀ (m : SMap Byte) (a i : Nat), i < l.length →
    (memPut m a l).get 0 (a + i) = l.getD i 0 := by
  induction l with
  | nil => intro m a i h; simp at h
  | cons x l ih =>
    intro m a i h
    rw [memPut]
    cases i with
    | zero => rw [get_memPut_out _ _ _ _ (by omega)]; simp
    | succ i =>
      have := ih (m.set 0 a x) (a + 1) i (by simpa using h)
      simpa [Nat.add_assoc, Nat.add_comm 1 i] using this

/-- The canonical form is kept. -/
theorem Memory.wf_memPut (l : List Byte) : ∀ (m : SMap Byte) (a : Nat), Memory.wf m = true → Memory.wf (memPut m a l) = true := by
  induction l with
  | nil => intro m a h; exact h
  | cons x l ih => intro m a h; exact ih _ _ (SMap.wf_set m (fun _ => 0) a x h)

@[simp] theorem Core.mem_mwr (k : Core) (a : Nat) (l : List Byte) : (k.mwr a l).mem = memPut k.mem a l := rfl

theorem Core.wf_mwr (k : Core) (a : Nat) (l : List Byte) (h : Memory.wf k.mem = true) : Memory.wf (k.mwr a l).mem = true :=
  Memory.wf_memPut l k.mem a h

theorem Core.mrd_length (k : Core) : ∀ (n a : Nat), (k.mrd a n).length = n
  | 0, _ => rfl
  | n + 1, a => by simp [Core.mrd, Core.mrd_length k n (a + 1)]

/-- Bytes read are the memory's bytes. -/
theorem Core.mrd_getD (k : Core) : ∀ (n a i : Nat), i < n → (k.mrd a n).getD i 0 = k.mem.get 0 (a + i)
  | 0, _, _, h => absurd h (Nat.not_lt_zero _)
  | n + 1, a, 0, _ => by simp [Core.mrd]
  | n + 1, a, i + 1, h => by
    have := Core.mrd_getD k n (a + 1) i (by omega)
    simpa [Core.mrd, Nat.add_assoc, Nat.add_comm 1 i] using this

end Sys2Proof.Machine
end

