-- ==== Sys2Proof/Laws/Ops.lean ====
section
/-!
SUPPORT. What the shared operations do: reading a register, table word or function after it is written, and what a
command on the core (`State.onCore`, `State.mgmt`) may change beside what its core function changes: the event intake
and its two registers, the alert, Marigold's record store, the capability generation.
-/

namespace Sys2Proof.Machine

variable (k : Core) (s : State)

/-! ### Registers -/

theorem word_toNat (n : Nat) : (word n).toNat = n % 2 ^ 32 := by simp [word]

theorem Core.rd_lt (a : Nat) : k.rd a < 2 ^ 32 := by unfold Core.rd; exact BitVec.isLt _

theorem Core.rd_wr_same (a v : Nat) : (k.wr a v).rd a = v % 2 ^ 32 := by
  simp only [Core.rd, Core.wr, SMap.get_set_same, word_toNat]

theorem Core.rd_wr_ne {a b : Nat} (h : b ≠ a) (v : Nat) : (k.wr a v).rd b = k.rd b := by
  simp only [Core.rd, Core.wr, SMap.get_set_ne _ _ _ h]

theorem Core.rd_wrf_ne {a b : Nat} (h : b ≠ a) (hi lo v : Nat) : (k.wrf a hi lo v).rd b = k.rd b :=
  Core.rd_wr_ne k h _

theorem Core.rd_cnt_ne {a b : Nat} (h : b ≠ a) : (k.cnt a).rd b = k.rd b := Core.rd_wr_ne k h _

/-- A counter advances by one and stops at its greatest value (03_fabric_side R88). -/
theorem Core.rd_cnt_same (a : Nat) : (k.cnt a).rd a = min (k.rd a + 1) (2 ^ 32 - 1) := by
  have h := Core.rd_wr_same k a (satAdd 32 (k.rd a) 1)
  have e : satAdd 32 (k.rd a) 1 = min (k.rd a + 1) (2 ^ 32 - 1) := rfl
  rw [e] at h
  have hlt : min (k.rd a + 1) (2 ^ 32 - 1) < 2 ^ 32 := by omega
  rw [Nat.mod_eq_of_lt hlt] at h
  exact h

/-! ### Fields -/

theorem fld_lt (w hi lo : Nat) : fld w hi lo < 2 ^ (hi + 1 - lo) := Nat.mod_lt _ (by positivity)

theorem fld_eq (w hi lo : Nat) : fld w hi lo = w / 2 ^ lo % 2 ^ (hi + 1 - lo) := by
  simp [fld, Nat.shiftRight_eq_div_pow]

/-- What setting a field does, in place values. -/
theorem setFld_eq (w hi lo v : Nat) :
    setFld w hi lo v = w % 2 ^ lo + (v % 2 ^ (hi + 1 - lo)) * 2 ^ lo +
      w / 2 ^ lo / 2 ^ (hi + 1 - lo) * 2 ^ (hi + 1 - lo) * 2 ^ lo := by
  unfold setFld
  rw [fld_eq]
  have h1 := Nat.div_add_mod w (2 ^ lo)
  have h2 := Nat.div_add_mod (w / 2 ^ lo) (2 ^ (hi + 1 - lo))
  set p := 2 ^ lo
  set q := 2 ^ (hi + 1 - lo)
  set a := w / p
  have : w = w % p + (a % q) * p + a / q * q * p := by
    calc w = p * a + w % p := h1.symm
      _ = p * (q * (a / q) + a % q) + w % p := by rw [h2]
      _ = _ := by ring
  omega

/-- A field reads as set. -/
theorem fld_setFld_same (w hi lo v : Nat) : fld (setFld w hi lo v) hi lo = v % 2 ^ (hi + 1 - lo) := by
  rw [fld_eq, setFld_eq]
  have hp : 0 < 2 ^ lo := by positivity
  have hq : 0 < 2 ^ (hi + 1 - lo) := by positivity
  have e : w % 2 ^ lo + v % 2 ^ (hi + 1 - lo) * 2 ^ lo + w / 2 ^ lo / 2 ^ (hi + 1 - lo) * 2 ^ (hi + 1 - lo) * 2 ^ lo
      = w % 2 ^ lo + (v % 2 ^ (hi + 1 - lo) + w / 2 ^ lo / 2 ^ (hi + 1 - lo) * 2 ^ (hi + 1 - lo)) * 2 ^ lo := by ring
  rw [e, Nat.add_mul_div_right _ _ hp, Nat.div_eq_of_lt (Nat.mod_lt _ hp), Nat.zero_add, Nat.add_mul_mod_self_right,
    Nat.mod_mod]

theorem setFld_lt {w hi lo : Nat} (n v : Nat) (h : hi < n) (hl : lo ≤ hi) (hw : w < 2 ^ n) : setFld w hi lo v < 2 ^ n := by
  rw [setFld_eq]
  have hp : 0 < 2 ^ lo := by positivity
  have e : 2 ^ n = 2 ^ lo * 2 ^ (hi + 1 - lo) * 2 ^ (n - (hi + 1)) := by
    rw [← pow_add, ← pow_add]; congr 1; omega
  have h1 := Nat.mod_lt w hp
  have h2 := Nat.mod_lt v (show 0 < 2 ^ (hi + 1 - lo) by positivity)
  have h3 : w / 2 ^ lo / 2 ^ (hi + 1 - lo) < 2 ^ (n - (hi + 1)) := by
    rw [Nat.div_div_eq_div_mul, Nat.div_lt_iff_lt_mul (by positivity)]
    calc w < 2 ^ n := hw
      _ = _ := by rw [e]; ring
  rw [e]
  generalize w / 2 ^ lo / 2 ^ (hi + 1 - lo) = c at *
  generalize 2 ^ (n - (hi + 1)) = r at *
  generalize v % 2 ^ (hi + 1 - lo) = b at *
  generalize 2 ^ (hi + 1 - lo) = q at *
  generalize w % 2 ^ lo = a at *
  generalize 2 ^ lo = p at *
  have h4 : (c + 1) * q * p ≤ r * q * p := by gcongr; omega
  have h5 : (b + 1) * p ≤ q * p := by gcongr; omega
  nlinarith

theorem Core.fd_wrf_same (a hi lo v : Nat) (h : hi < 32) (hl : lo ≤ hi) :
    (k.wrf a hi lo v).fd a hi lo = v % 2 ^ (hi + 1 - lo) := by
  unfold Core.wrf Core.fd
  rw [Core.rd_wr_same, Nat.mod_eq_of_lt (setFld_lt 32 v h hl (Core.rd_lt k a)), fld_setFld_same]

/-! ### Tables and functions -/

theorem Core.tb_tbw_same (win w v : Nat) : (k.tbw win w v).tb win w = v % 2 ^ 32 := by
  simp only [Core.tb, Core.tbw, SMap.get_set_same, word_toNat]

theorem Core.tb_tbw_ne {win w win' w' : Nat} (h : tkey win' w' ≠ tkey win w) (v : Nat) :
    (k.tbw win w v).tb win' w' = k.tb win' w' := by
  simp only [Core.tb, Core.tbw, SMap.get_set_ne _ _ _ h]

@[simp] theorem Core.fn_setFn_same (i : FnId) (f : Fn) : (k.setFn i f).fn i = f := by
  simp only [Core.fn, Core.setFn, SMap.get_set_same]

theorem Core.fn_setFn_ne {i j : FnId} (h : j.code ≠ i.code) (f : Fn) : (k.setFn i f).fn j = k.fn j := by
  simp only [Core.fn, Core.setFn, SMap.get_set_ne _ _ _ h]

@[simp] theorem Core.fn_setFst_same (i : FnId) (n : FState) (st : Nat) :
    (k.setFst i n st).fn i = { k.fn i with fst := n, since := k.now } := by
  unfold Core.setFst
  simp only [Core.fn, Core.fnEvent_fns, Core.setFn, SMap.get_set_same]

@[simp] theorem Core.fst_setFst_same (i : FnId) (n : FState) (st : Nat) : (k.setFst i n st).fst i = n := by
  simp [Core.fst]

theorem Core.fn_setFst_ne {i j : FnId} (h : j.code ≠ i.code) (n : FState) (st : Nat) :
    (k.setFst i n st).fn j = k.fn j := by
  unfold Core.setFst
  simp only [Core.fn, Core.fnEvent_fns, Core.setFn, SMap.get_set_ne _ _ _ h]

/-! ### Events touch two registers -/

/-- The registers an event may change: the drop count of the log and the alert it raises. -/
def evReg (a : Nat) : Prop := a = Reg.EVL_DROP_CNT ∨ a = Reg.MGT_ALERT_STAT

theorem Core.rd_of_regs {k k' : Core} (h : k'.regs = k.regs) (a : Nat) : k'.rd a = k.rd a := by
  unfold Core.rd; rw [h]

theorem Core.rd_intake (e : Event) {a : Nat} (h : ¬ evReg a) : (k.intake e).rd a = k.rd a := by
  unfold evReg at h
  simp only [not_or] at h
  unfold Core.intake
  split
  · exact (Core.rd_wrf_ne _ h.2 _ _ _).trans (Core.rd_cnt_ne k h.1)
  · rfl

theorem Core.rd_emitAt (t src code b : Nat) {a : Nat} (h : ¬ evReg a) : (k.emitAt t src code b).rd a = k.rd a := by
  unfold Core.emitAt
  exact (Core.rd_intake _ _ h).trans (Core.rd_of_regs rfl a)

theorem Core.rd_emit (src code : Nat) (l : List (Nat × Nat × Nat)) {a : Nat} (h : ¬ evReg a) :
    (k.emit src code l).rd a = k.rd a := Core.rd_emitAt k _ _ _ _ h

theorem Core.rd_flushLim (l : Lim) {a : Nat} (h : ¬ evReg a) : (k.flushLim l).rd a = k.rd a := by
  unfold Core.flushLim
  exact (Core.rd_of_regs rfl a).trans (Core.rd_emitAt k _ _ _ _ h)

theorem Core.rd_emitLimN (src code key iv lo w n : Nat) (l : List (Nat × Nat × Nat)) {a : Nat} (h : ¬ evReg a) :
    (k.emitLimN src code key iv lo w n l).rd a = k.rd a := by
  unfold Core.emitLimN
  split
  · exact (Core.rd_of_regs rfl a).trans (Core.rd_emitAt k _ _ _ _ h)
  · split
    · exact Core.rd_of_regs rfl a
    · split
      · exact (Core.rd_of_regs rfl a).trans (Core.rd_emitAt k _ _ _ _ h)
      · exact (Core.rd_of_regs rfl a).trans (Core.rd_flushLim k _ h)

theorem Core.rd_emitLim (src code key lo w : Nat) (l : List (Nat × Nat × Nat)) {a : Nat} (h : ¬ evReg a) :
    (k.emitLim src code key lo w l).rd a = k.rd a := Core.rd_emitLimN k _ _ _ _ _ _ _ _ h

theorem Core.rd_fnEvent (i : FnId) (q n : FState) (st : Nat) {a : Nat} (h : ¬ evReg a) :
    (k.fnEvent i q n st).rd a = k.rd a := by
  unfold Core.fnEvent
  split
  case h_2 => exact (Core.rd_emit _ _ _ _ h).trans (Core.rd_of_regs rfl a)
  all_goals first
    | exact Core.rd_emit k _ _ _ h
    | rfl

theorem Core.rd_setFst (i : FnId) (n : FState) (st : Nat) {a : Nat} (h : ¬ evReg a) :
    (k.setFst i n st).rd a = k.rd a := by
  unfold Core.setFst
  exact (Core.rd_fnEvent _ _ _ _ _ h).trans (Core.rd_of_regs rfl a)

/-! ### A command on the core -/

@[simp] theorem State.drainEvents_regs : s.drainEvents.core.regs = s.core.regs := by
  unfold State.drainEvents; split <;> rfl
@[simp] theorem State.drainEvents_tbl : s.drainEvents.core.tbl = s.core.tbl := by
  unfold State.drainEvents; split <;> rfl
@[simp] theorem State.drainEvents_shad : s.drainEvents.core.shad = s.core.shad := by
  unfold State.drainEvents; split <;> rfl
@[simp] theorem State.drainEvents_hold : s.drainEvents.core.hold = s.core.hold := by
  unfold State.drainEvents; split <;> rfl
@[simp] theorem State.drainEvents_shHold : s.drainEvents.core.shHold = s.core.shHold := by
  unfold State.drainEvents; split <;> rfl
@[simp] theorem State.drainEvents_fns : s.drainEvents.core.fns = s.core.fns := by
  unfold State.drainEvents; split <;> rfl
@[simp] theorem State.drainEvents_tim : s.drainEvents.core.tim = s.core.tim := by
  unfold State.drainEvents; split <;> rfl
@[simp] theorem State.drainEvents_ttx : s.drainEvents.core.ttx = s.core.ttx := by
  unfold State.drainEvents; split <;> rfl
@[simp] theorem State.drainEvents_mgt : s.drainEvents.core.mgt = s.core.mgt := by
  unfold State.drainEvents; split <;> rfl
@[simp] theorem State.drainEvents_tlm : s.drainEvents.core.tlm = s.core.tlm := by
  unfold State.drainEvents; split <;> rfl
@[simp] theorem State.drainEvents_fpc : s.drainEvents.core.fpc = s.core.fpc := by
  unfold State.drainEvents; split <;> rfl
@[simp] theorem State.drainEvents_frt : s.drainEvents.core.frt = s.core.frt := by
  unfold State.drainEvents; split <;> rfl
@[simp] theorem State.drainEvents_fcs : s.drainEvents.core.fcs = s.core.fcs := by
  unfold State.drainEvents; split <;> rfl
@[simp] theorem State.drainEvents_mem : s.drainEvents.core.mem = s.core.mem := by
  unfold State.drainEvents; split <;> rfl
@[simp] theorem State.drainEvents_psn : s.drainEvents.core.psn = s.core.psn := by
  unfold State.drainEvents; split <;> rfl
@[simp] theorem State.drainEvents_bpm : s.drainEvents.core.bpm = s.core.bpm := by
  unfold State.drainEvents; split <;> rfl
@[simp] theorem State.drainEvents_hbc : s.drainEvents.core.hbc = s.core.hbc := by
  unfold State.drainEvents; split <;> rfl
@[simp] theorem State.drainEvents_cle : s.drainEvents.core.cle = s.core.cle := by
  unfold State.drainEvents; split <;> rfl
@[simp] theorem State.drainEvents_site : s.drainEvents.core.site = s.core.site := by
  unfold State.drainEvents; split <;> rfl
@[simp] theorem State.drainEvents_xfm : s.drainEvents.core.xfm = s.core.xfm := by
  unfold State.drainEvents; split <;> rfl
@[simp] theorem State.drainEvents_cip : s.drainEvents.core.cip = s.core.cip := by
  unfold State.drainEvents; split <;> rfl
@[simp] theorem State.drainEvents_sch : s.drainEvents.core.sch = s.core.sch := by
  unfold State.drainEvents; split <;> rfl
@[simp] theorem State.drainEvents_shpr : s.drainEvents.core.shpr = s.core.shpr := by
  unfold State.drainEvents; split <;> rfl
@[simp] theorem State.drainEvents_lport : s.drainEvents.core.lport = s.core.lport := by
  unfold State.drainEvents; split <;> rfl
@[simp] theorem State.drainEvents_lgrp : s.drainEvents.core.lgrp = s.core.lgrp := by
  unfold State.drainEvents; split <;> rfl
@[simp] theorem State.drainEvents_opc : s.drainEvents.core.opc = s.core.opc := by
  unfold State.drainEvents; split <;> rfl
@[simp] theorem State.drainEvents_ident : s.drainEvents.core.ident = s.core.ident := by
  unfold State.drainEvents; split <;> rfl
@[simp] theorem State.drainEvents_dseq : s.drainEvents.core.dseq = s.core.dseq := by
  unfold State.drainEvents; split <;> rfl
@[simp] theorem State.drainEvents_desc : s.drainEvents.core.desc = s.core.desc := by
  unfold State.drainEvents; split <;> rfl
@[simp] theorem State.drainEvents_svc : s.drainEvents.core.svc = s.core.svc := by
  unfold State.drainEvents; split <;> rfl
@[simp] theorem State.drainEvents_free : s.drainEvents.core.free = s.core.free := by
  unfold State.drainEvents; split <;> rfl
@[simp] theorem State.alertChk_regs : s.alertChk.core.regs = s.core.regs := by
  unfold State.alertChk; dsimp only; split <;> rfl
@[simp] theorem State.alertChk_tbl : s.alertChk.core.tbl = s.core.tbl := by
  unfold State.alertChk; dsimp only; split <;> rfl
@[simp] theorem State.alertChk_shad : s.alertChk.core.shad = s.core.shad := by
  unfold State.alertChk; dsimp only; split <;> rfl
@[simp] theorem State.alertChk_hold : s.alertChk.core.hold = s.core.hold := by
  unfold State.alertChk; dsimp only; split <;> rfl
@[simp] theorem State.alertChk_shHold : s.alertChk.core.shHold = s.core.shHold := by
  unfold State.alertChk; dsimp only; split <;> rfl
@[simp] theorem State.alertChk_fns : s.alertChk.core.fns = s.core.fns := by
  unfold State.alertChk; dsimp only; split <;> rfl
@[simp] theorem State.alertChk_tim : s.alertChk.core.tim = s.core.tim := by
  unfold State.alertChk; dsimp only; split <;> rfl
@[simp] theorem State.alertChk_ttx : s.alertChk.core.ttx = s.core.ttx := by
  unfold State.alertChk; dsimp only; split <;> rfl
@[simp] theorem State.alertChk_evl : s.alertChk.core.evl = s.core.evl := by
  unfold State.alertChk; dsimp only; split <;> rfl
@[simp] theorem State.alertChk_tlm : s.alertChk.core.tlm = s.core.tlm := by
  unfold State.alertChk; dsimp only; split <;> rfl
@[simp] theorem State.alertChk_fpc : s.alertChk.core.fpc = s.core.fpc := by
  unfold State.alertChk; dsimp only; split <;> rfl
@[simp] theorem State.alertChk_frt : s.alertChk.core.frt = s.core.frt := by
  unfold State.alertChk; dsimp only; split <;> rfl
@[simp] theorem State.alertChk_fcs : s.alertChk.core.fcs = s.core.fcs := by
  unfold State.alertChk; dsimp only; split <;> rfl
@[simp] theorem State.alertChk_mem : s.alertChk.core.mem = s.core.mem := by
  unfold State.alertChk; dsimp only; split <;> rfl
@[simp] theorem State.alertChk_psn : s.alertChk.core.psn = s.core.psn := by
  unfold State.alertChk; dsimp only; split <;> rfl
@[simp] theorem State.alertChk_bpm : s.alertChk.core.bpm = s.core.bpm := by
  unfold State.alertChk; dsimp only; split <;> rfl
@[simp] theorem State.alertChk_hbc : s.alertChk.core.hbc = s.core.hbc := by
  unfold State.alertChk; dsimp only; split <;> rfl
@[simp] theorem State.alertChk_cle : s.alertChk.core.cle = s.core.cle := by
  unfold State.alertChk; dsimp only; split <;> rfl
@[simp] theorem State.alertChk_site : s.alertChk.core.site = s.core.site := by
  unfold State.alertChk; dsimp only; split <;> rfl
@[simp] theorem State.alertChk_xfm : s.alertChk.core.xfm = s.core.xfm := by
  unfold State.alertChk; dsimp only; split <;> rfl
@[simp] theorem State.alertChk_cip : s.alertChk.core.cip = s.core.cip := by
  unfold State.alertChk; dsimp only; split <;> rfl
@[simp] theorem State.alertChk_sch : s.alertChk.core.sch = s.core.sch := by
  unfold State.alertChk; dsimp only; split <;> rfl
@[simp] theorem State.alertChk_shpr : s.alertChk.core.shpr = s.core.shpr := by
  unfold State.alertChk; dsimp only; split <;> rfl
@[simp] theorem State.alertChk_lport : s.alertChk.core.lport = s.core.lport := by
  unfold State.alertChk; dsimp only; split <;> rfl
@[simp] theorem State.alertChk_lgrp : s.alertChk.core.lgrp = s.core.lgrp := by
  unfold State.alertChk; dsimp only; split <;> rfl
@[simp] theorem State.alertChk_opc : s.alertChk.core.opc = s.core.opc := by
  unfold State.alertChk; dsimp only; split <;> rfl
@[simp] theorem State.alertChk_ident : s.alertChk.core.ident = s.core.ident := by
  unfold State.alertChk; dsimp only; split <;> rfl
@[simp] theorem State.alertChk_dseq : s.alertChk.core.dseq = s.core.dseq := by
  unfold State.alertChk; dsimp only; split <;> rfl
@[simp] theorem State.alertChk_desc : s.alertChk.core.desc = s.core.desc := by
  unfold State.alertChk; dsimp only; split <;> rfl
@[simp] theorem State.alertChk_svc : s.alertChk.core.svc = s.core.svc := by
  unfold State.alertChk; dsimp only; split <;> rfl
@[simp] theorem State.alertChk_free : s.alertChk.core.free = s.core.free := by
  unfold State.alertChk; dsimp only; split <;> rfl
@[simp] theorem State.emitAAt_tbl (t src code a : Nat) : (s.emitAAt t src code a).core.tbl = s.core.tbl := by
  unfold State.emitAAt; simp
@[simp] theorem State.emitA_tbl (src code : Nat) (l : List (Nat × Nat × Nat)) :
    (s.emitA src code l).core.tbl = s.core.tbl := by
  unfold State.emitA; simp
@[simp] theorem State.capCheck_tbl (old : Svc) : (s.capCheck old).core.tbl = s.core.tbl := by
  unfold State.capCheck; split <;> simp
@[simp] theorem State.onCore_tbl (f : Core → Core) : (s.onCore f).core.tbl = (f s.core).tbl := by
  unfold State.onCore; simp
theorem State.mgmt_tbl (h : s.answers = true) (stat : Nat) (f : Core → Core × Nat) :
    (s.mgmt stat f).core.tbl = (f s.core).1.tbl := by
  unfold State.mgmt; simp [h]
@[simp] theorem State.emitAAt_shad (t src code a : Nat) : (s.emitAAt t src code a).core.shad = s.core.shad := by
  unfold State.emitAAt; simp
@[simp] theorem State.emitA_shad (src code : Nat) (l : List (Nat × Nat × Nat)) :
    (s.emitA src code l).core.shad = s.core.shad := by
  unfold State.emitA; simp
@[simp] theorem State.capCheck_shad (old : Svc) : (s.capCheck old).core.shad = s.core.shad := by
  unfold State.capCheck; split <;> simp
@[simp] theorem State.onCore_shad (f : Core → Core) : (s.onCore f).core.shad = (f s.core).shad := by
  unfold State.onCore; simp
theorem State.mgmt_shad (h : s.answers = true) (stat : Nat) (f : Core → Core × Nat) :
    (s.mgmt stat f).core.shad = (f s.core).1.shad := by
  unfold State.mgmt; simp [h]
@[simp] theorem State.emitAAt_hold (t src code a : Nat) : (s.emitAAt t src code a).core.hold = s.core.hold := by
  unfold State.emitAAt; simp
@[simp] theorem State.emitA_hold (src code : Nat) (l : List (Nat × Nat × Nat)) :
    (s.emitA src code l).core.hold = s.core.hold := by
  unfold State.emitA; simp
@[simp] theorem State.capCheck_hold (old : Svc) : (s.capCheck old).core.hold = s.core.hold := by
  unfold State.capCheck; split <;> simp
@[simp] theorem State.onCore_hold (f : Core → Core) : (s.onCore f).core.hold = (f s.core).hold := by
  unfold State.onCore; simp
theorem State.mgmt_hold (h : s.answers = true) (stat : Nat) (f : Core → Core × Nat) :
    (s.mgmt stat f).core.hold = (f s.core).1.hold := by
  unfold State.mgmt; simp [h]
@[simp] theorem State.emitAAt_shHold (t src code a : Nat) : (s.emitAAt t src code a).core.shHold = s.core.shHold := by
  unfold State.emitAAt; simp
@[simp] theorem State.emitA_shHold (src code : Nat) (l : List (Nat × Nat × Nat)) :
    (s.emitA src code l).core.shHold = s.core.shHold := by
  unfold State.emitA; simp
@[simp] theorem State.capCheck_shHold (old : Svc) : (s.capCheck old).core.shHold = s.core.shHold := by
  unfold State.capCheck; split <;> simp
@[simp] theorem State.onCore_shHold (f : Core → Core) : (s.onCore f).core.shHold = (f s.core).shHold := by
  unfold State.onCore; simp
theorem State.mgmt_shHold (h : s.answers = true) (stat : Nat) (f : Core → Core × Nat) :
    (s.mgmt stat f).core.shHold = (f s.core).1.shHold := by
  unfold State.mgmt; simp [h]
@[simp] theorem State.emitAAt_fns (t src code a : Nat) : (s.emitAAt t src code a).core.fns = s.core.fns := by
  unfold State.emitAAt; simp
@[simp] theorem State.emitA_fns (src code : Nat) (l : List (Nat × Nat × Nat)) :
    (s.emitA src code l).core.fns = s.core.fns := by
  unfold State.emitA; simp
@[simp] theorem State.capCheck_fns (old : Svc) : (s.capCheck old).core.fns = s.core.fns := by
  unfold State.capCheck; split <;> simp
@[simp] theorem State.onCore_fns (f : Core → Core) : (s.onCore f).core.fns = (f s.core).fns := by
  unfold State.onCore; simp
theorem State.mgmt_fns (h : s.answers = true) (stat : Nat) (f : Core → Core × Nat) :
    (s.mgmt stat f).core.fns = (f s.core).1.fns := by
  unfold State.mgmt; simp [h]
@[simp] theorem State.emitAAt_tim (t src code a : Nat) : (s.emitAAt t src code a).core.tim = s.core.tim := by
  unfold State.emitAAt; simp
@[simp] theorem State.emitA_tim (src code : Nat) (l : List (Nat × Nat × Nat)) :
    (s.emitA src code l).core.tim = s.core.tim := by
  unfold State.emitA; simp
@[simp] theorem State.capCheck_tim (old : Svc) : (s.capCheck old).core.tim = s.core.tim := by
  unfold State.capCheck; split <;> simp
@[simp] theorem State.onCore_tim (f : Core → Core) : (s.onCore f).core.tim = (f s.core).tim := by
  unfold State.onCore; simp
theorem State.mgmt_tim (h : s.answers = true) (stat : Nat) (f : Core → Core × Nat) :
    (s.mgmt stat f).core.tim = (f s.core).1.tim := by
  unfold State.mgmt; simp [h]
@[simp] theorem State.emitAAt_ttx (t src code a : Nat) : (s.emitAAt t src code a).core.ttx = s.core.ttx := by
  unfold State.emitAAt; simp
@[simp] theorem State.emitA_ttx (src code : Nat) (l : List (Nat × Nat × Nat)) :
    (s.emitA src code l).core.ttx = s.core.ttx := by
  unfold State.emitA; simp
@[simp] theorem State.capCheck_ttx (old : Svc) : (s.capCheck old).core.ttx = s.core.ttx := by
  unfold State.capCheck; split <;> simp
@[simp] theorem State.onCore_ttx (f : Core → Core) : (s.onCore f).core.ttx = (f s.core).ttx := by
  unfold State.onCore; simp
theorem State.mgmt_ttx (h : s.answers = true) (stat : Nat) (f : Core → Core × Nat) :
    (s.mgmt stat f).core.ttx = (f s.core).1.ttx := by
  unfold State.mgmt; simp [h]
@[simp] theorem State.emitAAt_tlm (t src code a : Nat) : (s.emitAAt t src code a).core.tlm = s.core.tlm := by
  unfold State.emitAAt; simp
@[simp] theorem State.emitA_tlm (src code : Nat) (l : List (Nat × Nat × Nat)) :
    (s.emitA src code l).core.tlm = s.core.tlm := by
  unfold State.emitA; simp
@[simp] theorem State.capCheck_tlm (old : Svc) : (s.capCheck old).core.tlm = s.core.tlm := by
  unfold State.capCheck; split <;> simp
@[simp] theorem State.onCore_tlm (f : Core → Core) : (s.onCore f).core.tlm = (f s.core).tlm := by
  unfold State.onCore; simp
theorem State.mgmt_tlm (h : s.answers = true) (stat : Nat) (f : Core → Core × Nat) :
    (s.mgmt stat f).core.tlm = (f s.core).1.tlm := by
  unfold State.mgmt; simp [h]
@[simp] theorem State.emitAAt_fpc (t src code a : Nat) : (s.emitAAt t src code a).core.fpc = s.core.fpc := by
  unfold State.emitAAt; simp
@[simp] theorem State.emitA_fpc (src code : Nat) (l : List (Nat × Nat × Nat)) :
    (s.emitA src code l).core.fpc = s.core.fpc := by
  unfold State.emitA; simp
@[simp] theorem State.capCheck_fpc (old : Svc) : (s.capCheck old).core.fpc = s.core.fpc := by
  unfold State.capCheck; split <;> simp
@[simp] theorem State.onCore_fpc (f : Core → Core) : (s.onCore f).core.fpc = (f s.core).fpc := by
  unfold State.onCore; simp
theorem State.mgmt_fpc (h : s.answers = true) (stat : Nat) (f : Core → Core × Nat) :
    (s.mgmt stat f).core.fpc = (f s.core).1.fpc := by
  unfold State.mgmt; simp [h]
@[simp] theorem State.emitAAt_frt (t src code a : Nat) : (s.emitAAt t src code a).core.frt = s.core.frt := by
  unfold State.emitAAt; simp
@[simp] theorem State.emitA_frt (src code : Nat) (l : List (Nat × Nat × Nat)) :
    (s.emitA src code l).core.frt = s.core.frt := by
  unfold State.emitA; simp
@[simp] theorem State.capCheck_frt (old : Svc) : (s.capCheck old).core.frt = s.core.frt := by
  unfold State.capCheck; split <;> simp
@[simp] theorem State.onCore_frt (f : Core → Core) : (s.onCore f).core.frt = (f s.core).frt := by
  unfold State.onCore; simp
theorem State.mgmt_frt (h : s.answers = true) (stat : Nat) (f : Core → Core × Nat) :
    (s.mgmt stat f).core.frt = (f s.core).1.frt := by
  unfold State.mgmt; simp [h]
@[simp] theorem State.emitAAt_fcs (t src code a : Nat) : (s.emitAAt t src code a).core.fcs = s.core.fcs := by
  unfold State.emitAAt; simp
@[simp] theorem State.emitA_fcs (src code : Nat) (l : List (Nat × Nat × Nat)) :
    (s.emitA src code l).core.fcs = s.core.fcs := by
  unfold State.emitA; simp
@[simp] theorem State.capCheck_fcs (old : Svc) : (s.capCheck old).core.fcs = s.core.fcs := by
  unfold State.capCheck; split <;> simp
@[simp] theorem State.onCore_fcs (f : Core → Core) : (s.onCore f).core.fcs = (f s.core).fcs := by
  unfold State.onCore; simp
theorem State.mgmt_fcs (h : s.answers = true) (stat : Nat) (f : Core → Core × Nat) :
    (s.mgmt stat f).core.fcs = (f s.core).1.fcs := by
  unfold State.mgmt; simp [h]
@[simp] theorem State.emitAAt_mem (t src code a : Nat) : (s.emitAAt t src code a).core.mem = s.core.mem := by
  unfold State.emitAAt; simp
@[simp] theorem State.emitA_mem (src code : Nat) (l : List (Nat × Nat × Nat)) :
    (s.emitA src code l).core.mem = s.core.mem := by
  unfold State.emitA; simp
@[simp] theorem State.capCheck_mem (old : Svc) : (s.capCheck old).core.mem = s.core.mem := by
  unfold State.capCheck; split <;> simp
@[simp] theorem State.onCore_mem (f : Core → Core) : (s.onCore f).core.mem = (f s.core).mem := by
  unfold State.onCore; simp
theorem State.mgmt_mem (h : s.answers = true) (stat : Nat) (f : Core → Core × Nat) :
    (s.mgmt stat f).core.mem = (f s.core).1.mem := by
  unfold State.mgmt; simp [h]
@[simp] theorem State.emitAAt_psn (t src code a : Nat) : (s.emitAAt t src code a).core.psn = s.core.psn := by
  unfold State.emitAAt; simp
@[simp] theorem State.emitA_psn (src code : Nat) (l : List (Nat × Nat × Nat)) :
    (s.emitA src code l).core.psn = s.core.psn := by
  unfold State.emitA; simp
@[simp] theorem State.capCheck_psn (old : Svc) : (s.capCheck old).core.psn = s.core.psn := by
  unfold State.capCheck; split <;> simp
@[simp] theorem State.onCore_psn (f : Core → Core) : (s.onCore f).core.psn = (f s.core).psn := by
  unfold State.onCore; simp
theorem State.mgmt_psn (h : s.answers = true) (stat : Nat) (f : Core → Core × Nat) :
    (s.mgmt stat f).core.psn = (f s.core).1.psn := by
  unfold State.mgmt; simp [h]
@[simp] theorem State.emitAAt_bpm (t src code a : Nat) : (s.emitAAt t src code a).core.bpm = s.core.bpm := by
  unfold State.emitAAt; simp
@[simp] theorem State.emitA_bpm (src code : Nat) (l : List (Nat × Nat × Nat)) :
    (s.emitA src code l).core.bpm = s.core.bpm := by
  unfold State.emitA; simp
@[simp] theorem State.capCheck_bpm (old : Svc) : (s.capCheck old).core.bpm = s.core.bpm := by
  unfold State.capCheck; split <;> simp
@[simp] theorem State.onCore_bpm (f : Core → Core) : (s.onCore f).core.bpm = (f s.core).bpm := by
  unfold State.onCore; simp
theorem State.mgmt_bpm (h : s.answers = true) (stat : Nat) (f : Core → Core × Nat) :
    (s.mgmt stat f).core.bpm = (f s.core).1.bpm := by
  unfold State.mgmt; simp [h]
@[simp] theorem State.emitAAt_hbc (t src code a : Nat) : (s.emitAAt t src code a).core.hbc = s.core.hbc := by
  unfold State.emitAAt; simp
@[simp] theorem State.emitA_hbc (src code : Nat) (l : List (Nat × Nat × Nat)) :
    (s.emitA src code l).core.hbc = s.core.hbc := by
  unfold State.emitA; simp
@[simp] theorem State.capCheck_hbc (old : Svc) : (s.capCheck old).core.hbc = s.core.hbc := by
  unfold State.capCheck; split <;> simp
@[simp] theorem State.onCore_hbc (f : Core → Core) : (s.onCore f).core.hbc = (f s.core).hbc := by
  unfold State.onCore; simp
theorem State.mgmt_hbc (h : s.answers = true) (stat : Nat) (f : Core → Core × Nat) :
    (s.mgmt stat f).core.hbc = (f s.core).1.hbc := by
  unfold State.mgmt; simp [h]
@[simp] theorem State.emitAAt_cle (t src code a : Nat) : (s.emitAAt t src code a).core.cle = s.core.cle := by
  unfold State.emitAAt; simp
@[simp] theorem State.emitA_cle (src code : Nat) (l : List (Nat × Nat × Nat)) :
    (s.emitA src code l).core.cle = s.core.cle := by
  unfold State.emitA; simp
@[simp] theorem State.capCheck_cle (old : Svc) : (s.capCheck old).core.cle = s.core.cle := by
  unfold State.capCheck; split <;> simp
@[simp] theorem State.onCore_cle (f : Core → Core) : (s.onCore f).core.cle = (f s.core).cle := by
  unfold State.onCore; simp
theorem State.mgmt_cle (h : s.answers = true) (stat : Nat) (f : Core → Core × Nat) :
    (s.mgmt stat f).core.cle = (f s.core).1.cle := by
  unfold State.mgmt; simp [h]
@[simp] theorem State.emitAAt_site (t src code a : Nat) : (s.emitAAt t src code a).core.site = s.core.site := by
  unfold State.emitAAt; simp
@[simp] theorem State.emitA_site (src code : Nat) (l : List (Nat × Nat × Nat)) :
    (s.emitA src code l).core.site = s.core.site := by
  unfold State.emitA; simp
@[simp] theorem State.capCheck_site (old : Svc) : (s.capCheck old).core.site = s.core.site := by
  unfold State.capCheck; split <;> simp
@[simp] theorem State.onCore_site (f : Core → Core) : (s.onCore f).core.site = (f s.core).site := by
  unfold State.onCore; simp
theorem State.mgmt_site (h : s.answers = true) (stat : Nat) (f : Core → Core × Nat) :
    (s.mgmt stat f).core.site = (f s.core).1.site := by
  unfold State.mgmt; simp [h]
@[simp] theorem State.emitAAt_xfm (t src code a : Nat) : (s.emitAAt t src code a).core.xfm = s.core.xfm := by
  unfold State.emitAAt; simp
@[simp] theorem State.emitA_xfm (src code : Nat) (l : List (Nat × Nat × Nat)) :
    (s.emitA src code l).core.xfm = s.core.xfm := by
  unfold State.emitA; simp
@[simp] theorem State.capCheck_xfm (old : Svc) : (s.capCheck old).core.xfm = s.core.xfm := by
  unfold State.capCheck; split <;> simp
@[simp] theorem State.onCore_xfm (f : Core → Core) : (s.onCore f).core.xfm = (f s.core).xfm := by
  unfold State.onCore; simp
theorem State.mgmt_xfm (h : s.answers = true) (stat : Nat) (f : Core → Core × Nat) :
    (s.mgmt stat f).core.xfm = (f s.core).1.xfm := by
  unfold State.mgmt; simp [h]
@[simp] theorem State.emitAAt_cip (t src code a : Nat) : (s.emitAAt t src code a).core.cip = s.core.cip := by
  unfold State.emitAAt; simp
@[simp] theorem State.emitA_cip (src code : Nat) (l : List (Nat × Nat × Nat)) :
    (s.emitA src code l).core.cip = s.core.cip := by
  unfold State.emitA; simp
@[simp] theorem State.capCheck_cip (old : Svc) : (s.capCheck old).core.cip = s.core.cip := by
  unfold State.capCheck; split <;> simp
@[simp] theorem State.onCore_cip (f : Core → Core) : (s.onCore f).core.cip = (f s.core).cip := by
  unfold State.onCore; simp
theorem State.mgmt_cip (h : s.answers = true) (stat : Nat) (f : Core → Core × Nat) :
    (s.mgmt stat f).core.cip = (f s.core).1.cip := by
  unfold State.mgmt; simp [h]
@[simp] theorem State.emitAAt_sch (t src code a : Nat) : (s.emitAAt t src code a).core.sch = s.core.sch := by
  unfold State.emitAAt; simp
@[simp] theorem State.emitA_sch (src code : Nat) (l : List (Nat × Nat × Nat)) :
    (s.emitA src code l).core.sch = s.core.sch := by
  unfold State.emitA; simp
@[simp] theorem State.capCheck_sch (old : Svc) : (s.capCheck old).core.sch = s.core.sch := by
  unfold State.capCheck; split <;> simp
@[simp] theorem State.onCore_sch (f : Core → Core) : (s.onCore f).core.sch = (f s.core).sch := by
  unfold State.onCore; simp
theorem State.mgmt_sch (h : s.answers = true) (stat : Nat) (f : Core → Core × Nat) :
    (s.mgmt stat f).core.sch = (f s.core).1.sch := by
  unfold State.mgmt; simp [h]
@[simp] theorem State.emitAAt_shpr (t src code a : Nat) : (s.emitAAt t src code a).core.shpr = s.core.shpr := by
  unfold State.emitAAt; simp
@[simp] theorem State.emitA_shpr (src code : Nat) (l : List (Nat × Nat × Nat)) :
    (s.emitA src code l).core.shpr = s.core.shpr := by
  unfold State.emitA; simp
@[simp] theorem State.capCheck_shpr (old : Svc) : (s.capCheck old).core.shpr = s.core.shpr := by
  unfold State.capCheck; split <;> simp
@[simp] theorem State.onCore_shpr (f : Core → Core) : (s.onCore f).core.shpr = (f s.core).shpr := by
  unfold State.onCore; simp
theorem State.mgmt_shpr (h : s.answers = true) (stat : Nat) (f : Core → Core × Nat) :
    (s.mgmt stat f).core.shpr = (f s.core).1.shpr := by
  unfold State.mgmt; simp [h]
@[simp] theorem State.emitAAt_lport (t src code a : Nat) : (s.emitAAt t src code a).core.lport = s.core.lport := by
  unfold State.emitAAt; simp
@[simp] theorem State.emitA_lport (src code : Nat) (l : List (Nat × Nat × Nat)) :
    (s.emitA src code l).core.lport = s.core.lport := by
  unfold State.emitA; simp
@[simp] theorem State.capCheck_lport (old : Svc) : (s.capCheck old).core.lport = s.core.lport := by
  unfold State.capCheck; split <;> simp
@[simp] theorem State.onCore_lport (f : Core → Core) : (s.onCore f).core.lport = (f s.core).lport := by
  unfold State.onCore; simp
theorem State.mgmt_lport (h : s.answers = true) (stat : Nat) (f : Core → Core × Nat) :
    (s.mgmt stat f).core.lport = (f s.core).1.lport := by
  unfold State.mgmt; simp [h]
@[simp] theorem State.emitAAt_lgrp (t src code a : Nat) : (s.emitAAt t src code a).core.lgrp = s.core.lgrp := by
  unfold State.emitAAt; simp
@[simp] theorem State.emitA_lgrp (src code : Nat) (l : List (Nat × Nat × Nat)) :
    (s.emitA src code l).core.lgrp = s.core.lgrp := by
  unfold State.emitA; simp
@[simp] theorem State.capCheck_lgrp (old : Svc) : (s.capCheck old).core.lgrp = s.core.lgrp := by
  unfold State.capCheck; split <;> simp
@[simp] theorem State.onCore_lgrp (f : Core → Core) : (s.onCore f).core.lgrp = (f s.core).lgrp := by
  unfold State.onCore; simp
theorem State.mgmt_lgrp (h : s.answers = true) (stat : Nat) (f : Core → Core × Nat) :
    (s.mgmt stat f).core.lgrp = (f s.core).1.lgrp := by
  unfold State.mgmt; simp [h]
@[simp] theorem State.emitAAt_opc (t src code a : Nat) : (s.emitAAt t src code a).core.opc = s.core.opc := by
  unfold State.emitAAt; simp
@[simp] theorem State.emitA_opc (src code : Nat) (l : List (Nat × Nat × Nat)) :
    (s.emitA src code l).core.opc = s.core.opc := by
  unfold State.emitA; simp
@[simp] theorem State.capCheck_opc (old : Svc) : (s.capCheck old).core.opc = s.core.opc := by
  unfold State.capCheck; split <;> simp
@[simp] theorem State.onCore_opc (f : Core → Core) : (s.onCore f).core.opc = (f s.core).opc := by
  unfold State.onCore; simp
theorem State.mgmt_opc (h : s.answers = true) (stat : Nat) (f : Core → Core × Nat) :
    (s.mgmt stat f).core.opc = (f s.core).1.opc := by
  unfold State.mgmt; simp [h]
@[simp] theorem State.emitAAt_ident (t src code a : Nat) : (s.emitAAt t src code a).core.ident = s.core.ident := by
  unfold State.emitAAt; simp
@[simp] theorem State.emitA_ident (src code : Nat) (l : List (Nat × Nat × Nat)) :
    (s.emitA src code l).core.ident = s.core.ident := by
  unfold State.emitA; simp
@[simp] theorem State.capCheck_ident (old : Svc) : (s.capCheck old).core.ident = s.core.ident := by
  unfold State.capCheck; split <;> simp
@[simp] theorem State.onCore_ident (f : Core → Core) : (s.onCore f).core.ident = (f s.core).ident := by
  unfold State.onCore; simp
theorem State.mgmt_ident (h : s.answers = true) (stat : Nat) (f : Core → Core × Nat) :
    (s.mgmt stat f).core.ident = (f s.core).1.ident := by
  unfold State.mgmt; simp [h]
@[simp] theorem State.emitAAt_dseq (t src code a : Nat) : (s.emitAAt t src code a).core.dseq = s.core.dseq := by
  unfold State.emitAAt; simp
@[simp] theorem State.emitA_dseq (src code : Nat) (l : List (Nat × Nat × Nat)) :
    (s.emitA src code l).core.dseq = s.core.dseq := by
  unfold State.emitA; simp
@[simp] theorem State.capCheck_dseq (old : Svc) : (s.capCheck old).core.dseq = s.core.dseq := by
  unfold State.capCheck; split <;> simp
@[simp] theorem State.onCore_dseq (f : Core → Core) : (s.onCore f).core.dseq = (f s.core).dseq := by
  unfold State.onCore; simp
theorem State.mgmt_dseq (h : s.answers = true) (stat : Nat) (f : Core → Core × Nat) :
    (s.mgmt stat f).core.dseq = (f s.core).1.dseq := by
  unfold State.mgmt; simp [h]
@[simp] theorem State.emitAAt_desc (t src code a : Nat) : (s.emitAAt t src code a).core.desc = s.core.desc := by
  unfold State.emitAAt; simp
@[simp] theorem State.emitA_desc (src code : Nat) (l : List (Nat × Nat × Nat)) :
    (s.emitA src code l).core.desc = s.core.desc := by
  unfold State.emitA; simp
@[simp] theorem State.capCheck_desc (old : Svc) : (s.capCheck old).core.desc = s.core.desc := by
  unfold State.capCheck; split <;> simp
@[simp] theorem State.onCore_desc (f : Core → Core) : (s.onCore f).core.desc = (f s.core).desc := by
  unfold State.onCore; simp
theorem State.mgmt_desc (h : s.answers = true) (stat : Nat) (f : Core → Core × Nat) :
    (s.mgmt stat f).core.desc = (f s.core).1.desc := by
  unfold State.mgmt; simp [h]
@[simp] theorem State.emitAAt_svc (t src code a : Nat) : (s.emitAAt t src code a).core.svc = s.core.svc := by
  unfold State.emitAAt; simp
@[simp] theorem State.emitA_svc (src code : Nat) (l : List (Nat × Nat × Nat)) :
    (s.emitA src code l).core.svc = s.core.svc := by
  unfold State.emitA; simp
@[simp] theorem State.capCheck_svc (old : Svc) : (s.capCheck old).core.svc = s.core.svc := by
  unfold State.capCheck; split <;> simp
@[simp] theorem State.onCore_svc (f : Core → Core) : (s.onCore f).core.svc = (f s.core).svc := by
  unfold State.onCore; simp
theorem State.mgmt_svc (h : s.answers = true) (stat : Nat) (f : Core → Core × Nat) :
    (s.mgmt stat f).core.svc = (f s.core).1.svc := by
  unfold State.mgmt; simp [h]
@[simp] theorem State.emitAAt_free (t src code a : Nat) : (s.emitAAt t src code a).core.free = s.core.free := by
  unfold State.emitAAt; simp
@[simp] theorem State.emitA_free (src code : Nat) (l : List (Nat × Nat × Nat)) :
    (s.emitA src code l).core.free = s.core.free := by
  unfold State.emitA; simp
@[simp] theorem State.capCheck_free (old : Svc) : (s.capCheck old).core.free = s.core.free := by
  unfold State.capCheck; split <;> simp
@[simp] theorem State.onCore_free (f : Core → Core) : (s.onCore f).core.free = (f s.core).free := by
  unfold State.onCore; simp
theorem State.mgmt_free (h : s.answers = true) (stat : Nat) (f : Core → Core × Nat) :
    (s.mgmt stat f).core.free = (f s.core).1.free := by
  unfold State.mgmt; simp [h]

theorem State.rd_drainEvents (a : Nat) : s.drainEvents.core.rd a = s.core.rd a := Core.rd_of_regs (by simp) a

theorem State.rd_alertChk (a : Nat) : s.alertChk.core.rd a = s.core.rd a := Core.rd_of_regs (by simp) a

theorem State.rd_emitAAt (t src code b : Nat) {a : Nat} (h : ¬ evReg a) :
    (s.emitAAt t src code b).core.rd a = s.core.rd a := by
  unfold State.emitAAt
  rw [State.rd_alertChk, State.rd_drainEvents]
  exact Core.rd_intake _ _ h

theorem State.rd_capCheck (old : Svc) {a : Nat} (h : ¬ evReg a) : (s.capCheck old).core.rd a = s.core.rd a := by
  unfold State.capCheck
  split
  · exact State.rd_emitAAt _ _ _ _ _ h
  · rfl

theorem State.rd_onCore (f : Core → Core) {a : Nat} (h : ¬ evReg a) : (s.onCore f).core.rd a = (f s.core).rd a := by
  unfold State.onCore
  rw [State.rd_capCheck _ _ h, State.rd_alertChk, State.rd_drainEvents]

theorem State.rd_mgmt (ha : s.answers = true) (stat : Nat) (f : Core → Core × Nat) {a : Nat} (h : ¬ evReg a)
    (hs : a ≠ stat) : (s.mgmt stat f).core.rd a = (f s.core).1.rd a := by
  unfold State.mgmt
  rw [if_pos ha, State.rd_onCore _ _ h]
  exact Core.rd_wrf_ne _ hs _ _ _

/-- A command's status shows in its status register (00_scope R12). -/
theorem State.mgmt_status (ha : s.answers = true) (stat : Nat) (f : Core → Core × Nat) (h : ¬ evReg stat) :
    (s.mgmt stat f).core.fd stat 7 0 = (f s.core).2 % 256 := by
  unfold State.mgmt Core.fd
  rw [if_pos ha, State.rd_onCore _ _ h]
  exact Core.fd_wrf_same _ _ _ _ _ (by omega) (by omega)

/-! ### What a command on the core leaves -/

@[simp] theorem State.drainEvents_pending : s.drainEvents.pending = s.pending := by
  unfold State.drainEvents; split <;> rfl
@[simp] theorem State.alertChk_pending : s.alertChk.pending = s.pending := by
  unfold State.alertChk; dsimp only; split <;> rfl
@[simp] theorem State.emitAAt_pending (t src code a : Nat) : (s.emitAAt t src code a).pending = s.pending := by
  unfold State.emitAAt; simp
@[simp] theorem State.emitA_pending (src code : Nat) (l : List (Nat × Nat × Nat)) :
    (s.emitA src code l).pending = s.pending := by
  unfold State.emitA; simp
@[simp] theorem State.capCheck_pending (old : Svc) : (s.capCheck old).pending = s.pending := by
  unfold State.capCheck; split <;> simp
@[simp] theorem State.onCore_pending (f : Core → Core) : (s.onCore f).pending = s.pending := by
  unfold State.onCore; simp
@[simp] theorem State.mgmt_pending (stat : Nat) (f : Core → Core × Nat) : (s.mgmt stat f).pending = s.pending := by
  unfold State.mgmt; split <;> simp
@[simp] theorem State.drainEvents_nvm : s.drainEvents.nvm = s.nvm := by
  unfold State.drainEvents; split <;> rfl
@[simp] theorem State.alertChk_nvm : s.alertChk.nvm = s.nvm := by
  unfold State.alertChk; dsimp only; split <;> rfl
@[simp] theorem State.emitAAt_nvm (t src code a : Nat) : (s.emitAAt t src code a).nvm = s.nvm := by
  unfold State.emitAAt; simp
@[simp] theorem State.emitA_nvm (src code : Nat) (l : List (Nat × Nat × Nat)) :
    (s.emitA src code l).nvm = s.nvm := by
  unfold State.emitA; simp
@[simp] theorem State.capCheck_nvm (old : Svc) : (s.capCheck old).nvm = s.nvm := by
  unfold State.capCheck; split <;> simp
@[simp] theorem State.onCore_nvm (f : Core → Core) : (s.onCore f).nvm = s.nvm := by
  unfold State.onCore; simp
@[simp] theorem State.mgmt_nvm (stat : Nat) (f : Core → Core × Nat) : (s.mgmt stat f).nvm = s.nvm := by
  unfold State.mgmt; split <;> simp
@[simp] theorem State.drainEvents_otp : s.drainEvents.otp = s.otp := by
  unfold State.drainEvents; split <;> rfl
@[simp] theorem State.alertChk_otp : s.alertChk.otp = s.otp := by
  unfold State.alertChk; dsimp only; split <;> rfl
@[simp] theorem State.emitAAt_otp (t src code a : Nat) : (s.emitAAt t src code a).otp = s.otp := by
  unfold State.emitAAt; simp
@[simp] theorem State.emitA_otp (src code : Nat) (l : List (Nat × Nat × Nat)) :
    (s.emitA src code l).otp = s.otp := by
  unfold State.emitA; simp
@[simp] theorem State.capCheck_otp (old : Svc) : (s.capCheck old).otp = s.otp := by
  unfold State.capCheck; split <;> simp
@[simp] theorem State.onCore_otp (f : Core → Core) : (s.onCore f).otp = s.otp := by
  unfold State.onCore; simp
@[simp] theorem State.mgmt_otp (stat : Nat) (f : Core → Core × Nat) : (s.mgmt stat f).otp = s.otp := by
  unfold State.mgmt; split <;> simp
@[simp] theorem State.drainEvents_aon_regs : s.drainEvents.aon.regs = s.aon.regs := by
  unfold State.drainEvents; split <;> rfl
@[simp] theorem State.alertChk_aon_regs : s.alertChk.aon.regs = s.aon.regs := by
  unfold State.alertChk; dsimp only; split <;> rfl
@[simp] theorem State.emitAAt_aon_regs (t src code a : Nat) : (s.emitAAt t src code a).aon.regs = s.aon.regs := by
  unfold State.emitAAt; simp
@[simp] theorem State.emitA_aon_regs (src code : Nat) (l : List (Nat × Nat × Nat)) :
    (s.emitA src code l).aon.regs = s.aon.regs := by
  unfold State.emitA; simp
@[simp] theorem State.capCheck_aon_regs (old : Svc) : (s.capCheck old).aon.regs = s.aon.regs := by
  unfold State.capCheck; split <;> simp
@[simp] theorem State.onCore_aon_regs (f : Core → Core) : (s.onCore f).aon.regs = s.aon.regs := by
  unfold State.onCore; simp
@[simp] theorem State.mgmt_aon_regs (stat : Nat) (f : Core → Core × Nat) : (s.mgmt stat f).aon.regs = s.aon.regs := by
  unfold State.mgmt; split <;> simp
@[simp] theorem State.drainEvents_aon_tbl : s.drainEvents.aon.tbl = s.aon.tbl := by
  unfold State.drainEvents; split <;> rfl
@[simp] theorem State.alertChk_aon_tbl : s.alertChk.aon.tbl = s.aon.tbl := by
  unfold State.alertChk; dsimp only; split <;> rfl
@[simp] theorem State.emitAAt_aon_tbl (t src code a : Nat) : (s.emitAAt t src code a).aon.tbl = s.aon.tbl := by
  unfold State.emitAAt; simp
@[simp] theorem State.emitA_aon_tbl (src code : Nat) (l : List (Nat × Nat × Nat)) :
    (s.emitA src code l).aon.tbl = s.aon.tbl := by
  unfold State.emitA; simp
@[simp] theorem State.capCheck_aon_tbl (old : Svc) : (s.capCheck old).aon.tbl = s.aon.tbl := by
  unfold State.capCheck; split <;> simp
@[simp] theorem State.onCore_aon_tbl (f : Core → Core) : (s.onCore f).aon.tbl = s.aon.tbl := by
  unfold State.onCore; simp
@[simp] theorem State.mgmt_aon_tbl (stat : Nat) (f : Core → Core × Nat) : (s.mgmt stat f).aon.tbl = s.aon.tbl := by
  unfold State.mgmt; split <;> simp
@[simp] theorem State.drainEvents_aon_shad : s.drainEvents.aon.shad = s.aon.shad := by
  unfold State.drainEvents; split <;> rfl
@[simp] theorem State.alertChk_aon_shad : s.alertChk.aon.shad = s.aon.shad := by
  unfold State.alertChk; dsimp only; split <;> rfl
@[simp] theorem State.emitAAt_aon_shad (t src code a : Nat) : (s.emitAAt t src code a).aon.shad = s.aon.shad := by
  unfold State.emitAAt; simp
@[simp] theorem State.emitA_aon_shad (src code : Nat) (l : List (Nat × Nat × Nat)) :
    (s.emitA src code l).aon.shad = s.aon.shad := by
  unfold State.emitA; simp
@[simp] theorem State.capCheck_aon_shad (old : Svc) : (s.capCheck old).aon.shad = s.aon.shad := by
  unfold State.capCheck; split <;> simp
@[simp] theorem State.onCore_aon_shad (f : Core → Core) : (s.onCore f).aon.shad = s.aon.shad := by
  unfold State.onCore; simp
@[simp] theorem State.mgmt_aon_shad (stat : Nat) (f : Core → Core × Nat) : (s.mgmt stat f).aon.shad = s.aon.shad := by
  unfold State.mgmt; split <;> simp
@[simp] theorem State.drainEvents_aon_hold : s.drainEvents.aon.hold = s.aon.hold := by
  unfold State.drainEvents; split <;> rfl
@[simp] theorem State.alertChk_aon_hold : s.alertChk.aon.hold = s.aon.hold := by
  unfold State.alertChk; dsimp only; split <;> rfl
@[simp] theorem State.emitAAt_aon_hold (t src code a : Nat) : (s.emitAAt t src code a).aon.hold = s.aon.hold := by
  unfold State.emitAAt; simp
@[simp] theorem State.emitA_aon_hold (src code : Nat) (l : List (Nat × Nat × Nat)) :
    (s.emitA src code l).aon.hold = s.aon.hold := by
  unfold State.emitA; simp
@[simp] theorem State.capCheck_aon_hold (old : Svc) : (s.capCheck old).aon.hold = s.aon.hold := by
  unfold State.capCheck; split <;> simp
@[simp] theorem State.onCore_aon_hold (f : Core → Core) : (s.onCore f).aon.hold = s.aon.hold := by
  unfold State.onCore; simp
@[simp] theorem State.mgmt_aon_hold (stat : Nat) (f : Core → Core × Nat) : (s.mgmt stat f).aon.hold = s.aon.hold := by
  unfold State.mgmt; split <;> simp
@[simp] theorem State.drainEvents_aon_boot : s.drainEvents.aon.boot = s.aon.boot := by
  unfold State.drainEvents; split <;> rfl
@[simp] theorem State.alertChk_aon_boot : s.alertChk.aon.boot = s.aon.boot := by
  unfold State.alertChk; dsimp only; split <;> rfl
@[simp] theorem State.emitAAt_aon_boot (t src code a : Nat) : (s.emitAAt t src code a).aon.boot = s.aon.boot := by
  unfold State.emitAAt; simp
@[simp] theorem State.emitA_aon_boot (src code : Nat) (l : List (Nat × Nat × Nat)) :
    (s.emitA src code l).aon.boot = s.aon.boot := by
  unfold State.emitA; simp
@[simp] theorem State.capCheck_aon_boot (old : Svc) : (s.capCheck old).aon.boot = s.aon.boot := by
  unfold State.capCheck; split <;> simp
@[simp] theorem State.onCore_aon_boot (f : Core → Core) : (s.onCore f).aon.boot = s.aon.boot := by
  unfold State.onCore; simp
@[simp] theorem State.mgmt_aon_boot (stat : Nat) (f : Core → Core × Nat) : (s.mgmt stat f).aon.boot = s.aon.boot := by
  unfold State.mgmt; split <;> simp
@[simp] theorem State.drainEvents_aon_mop : s.drainEvents.aon.mop = s.aon.mop := by
  unfold State.drainEvents; split <;> rfl
@[simp] theorem State.alertChk_aon_mop : s.alertChk.aon.mop = s.aon.mop := by
  unfold State.alertChk; dsimp only; split <;> rfl
@[simp] theorem State.emitAAt_aon_mop (t src code a : Nat) : (s.emitAAt t src code a).aon.mop = s.aon.mop := by
  unfold State.emitAAt; simp
@[simp] theorem State.emitA_aon_mop (src code : Nat) (l : List (Nat × Nat × Nat)) :
    (s.emitA src code l).aon.mop = s.aon.mop := by
  unfold State.emitA; simp
@[simp] theorem State.capCheck_aon_mop (old : Svc) : (s.capCheck old).aon.mop = s.aon.mop := by
  unfold State.capCheck; split <;> simp
@[simp] theorem State.onCore_aon_mop (f : Core → Core) : (s.onCore f).aon.mop = s.aon.mop := by
  unfold State.onCore; simp
@[simp] theorem State.mgmt_aon_mop (stat : Nat) (f : Core → Core × Nat) : (s.mgmt stat f).aon.mop = s.aon.mop := by
  unfold State.mgmt; split <;> simp
@[simp] theorem State.drainEvents_aon_pwr : s.drainEvents.aon.pwr = s.aon.pwr := by
  unfold State.drainEvents; split <;> rfl
@[simp] theorem State.alertChk_aon_pwr : s.alertChk.aon.pwr = s.aon.pwr := by
  unfold State.alertChk; dsimp only; split <;> rfl
@[simp] theorem State.emitAAt_aon_pwr (t src code a : Nat) : (s.emitAAt t src code a).aon.pwr = s.aon.pwr := by
  unfold State.emitAAt; simp
@[simp] theorem State.emitA_aon_pwr (src code : Nat) (l : List (Nat × Nat × Nat)) :
    (s.emitA src code l).aon.pwr = s.aon.pwr := by
  unfold State.emitA; simp
@[simp] theorem State.capCheck_aon_pwr (old : Svc) : (s.capCheck old).aon.pwr = s.aon.pwr := by
  unfold State.capCheck; split <;> simp
@[simp] theorem State.onCore_aon_pwr (f : Core → Core) : (s.onCore f).aon.pwr = s.aon.pwr := by
  unfold State.onCore; simp
@[simp] theorem State.mgmt_aon_pwr (stat : Nat) (f : Core → Core × Nat) : (s.mgmt stat f).aon.pwr = s.aon.pwr := by
  unfold State.mgmt; split <;> simp
@[simp] theorem State.drainEvents_aon_now : s.drainEvents.aon.now = s.aon.now := by
  unfold State.drainEvents; split <;> rfl
@[simp] theorem State.alertChk_aon_now : s.alertChk.aon.now = s.aon.now := by
  unfold State.alertChk; dsimp only; split <;> rfl
@[simp] theorem State.emitAAt_aon_now (t src code a : Nat) : (s.emitAAt t src code a).aon.now = s.aon.now := by
  unfold State.emitAAt; simp
@[simp] theorem State.emitA_aon_now (src code : Nat) (l : List (Nat × Nat × Nat)) :
    (s.emitA src code l).aon.now = s.aon.now := by
  unfold State.emitA; simp
@[simp] theorem State.capCheck_aon_now (old : Svc) : (s.capCheck old).aon.now = s.aon.now := by
  unfold State.capCheck; split <;> simp
@[simp] theorem State.onCore_aon_now (f : Core → Core) : (s.onCore f).aon.now = s.aon.now := by
  unfold State.onCore; simp
@[simp] theorem State.mgmt_aon_now (stat : Nat) (f : Core → Core × Nat) : (s.mgmt stat f).aon.now = s.aon.now := by
  unfold State.mgmt; split <;> simp
@[simp] theorem State.drainEvents_aon_lims : s.drainEvents.aon.lims = s.aon.lims := by
  unfold State.drainEvents; split <;> rfl
@[simp] theorem State.alertChk_aon_lims : s.alertChk.aon.lims = s.aon.lims := by
  unfold State.alertChk; dsimp only; split <;> rfl
@[simp] theorem State.emitAAt_aon_lims (t src code a : Nat) : (s.emitAAt t src code a).aon.lims = s.aon.lims := by
  unfold State.emitAAt; simp
@[simp] theorem State.emitA_aon_lims (src code : Nat) (l : List (Nat × Nat × Nat)) :
    (s.emitA src code l).aon.lims = s.aon.lims := by
  unfold State.emitA; simp
@[simp] theorem State.capCheck_aon_lims (old : Svc) : (s.capCheck old).aon.lims = s.aon.lims := by
  unfold State.capCheck; split <;> simp
@[simp] theorem State.onCore_aon_lims (f : Core → Core) : (s.onCore f).aon.lims = s.aon.lims := by
  unfold State.onCore; simp
@[simp] theorem State.mgmt_aon_lims (stat : Nat) (f : Core → Core × Nat) : (s.mgmt stat f).aon.lims = s.aon.lims := by
  unfold State.mgmt; split <;> simp

end Sys2Proof.Machine
end

