-- ==== Sys2Proof/Laws/Only.lean ====
section
/-!
SUPPORT. Composing what stands: `Core.onlyParts` and `Core.onlyRegs` of the shared operations, and from them `State.only`
of a command on the core.
-/

namespace Sys2Proof.Machine

variable {k k' k'' : Core} {l l' : List Part} {r r' : List Nat}

theorem Core.onlyParts_refl (l : List Part) (k : Core) : k.onlyParts l k := by
  intro p _; cases p <;> rfl

theorem Part.same_trans {p : Part} (h : p.same k k') (h' : p.same k' k'') : p.same k k'' := by
  cases p
  case mgt =>
    simp only [Part.same] at *
    rw [← h, ← h']
  all_goals exact Eq.trans h' h

theorem Core.onlyParts_trans (h : k.onlyParts l k') (h' : k'.onlyParts l k'') : k.onlyParts l k'' :=
  fun p hp => Part.same_trans (h p hp) (h' p hp)

theorem Core.onlyParts_mono (hl : ∀ p ∈ l, p ∈ l') (h : k.onlyParts l k') : k.onlyParts l' k' :=
  fun p hp => h p (fun hm => hp (hl p hm))

theorem Core.onlyRegs_refl (r : List Nat) (k : Core) : k.onlyRegs r k := fun _ _ _ _ => rfl

theorem Core.onlyRegs_trans (h : k.onlyRegs r k') (h' : k'.onlyRegs r k'') : k.onlyRegs r k'' :=
  fun a ha h1 h2 => (h' a ha h1 h2).trans (h a ha h1 h2)

theorem Core.onlyRegs_mono (hl : ∀ a ∈ r, a ∈ r') (h : k.onlyRegs r k') : k.onlyRegs r' k' :=
  fun a ha => h a (fun hm => ha (hl a hm))

theorem Core.onlyRegs_of_regs (h : k'.regs = k.regs) : k.onlyRegs r k' := fun a _ _ _ => Core.rd_of_regs h a

/-! ### The shared operations -/

theorem Core.onlyParts_wr (a v : Nat) : k.onlyParts l (k.wr a v) := by
  intro p _; cases p <;> simp [Part.same]

theorem Core.onlyParts_wrf (a h lo v : Nat) : k.onlyParts l (k.wrf a h lo v) := Core.onlyParts_wr _ _

theorem Core.onlyParts_cnt (a : Nat) : k.onlyParts l (k.cnt a) := Core.onlyParts_wr _ _

theorem Core.onlyParts_emit (src code : Nat) (e : List (Nat × Nat × Nat)) : k.onlyParts l (k.emit src code e) := by
  intro p _; cases p <;> simp [Part.same]

theorem Core.onlyParts_emitLim (src code key lo w : Nat) (e : List (Nat × Nat × Nat)) :
    k.onlyParts l (k.emitLim src code key lo w e) := by
  intro p _; cases p <;> simp [Part.same]

theorem Core.onlyParts_setFst (i : FnId) (n : FState) (st : Nat) (hf : Part.fns ∈ l) (hc : Part.cle ∈ l) :
    k.onlyParts l (k.setFst i n st) := by
  intro p hp
  cases p
  case fns => exact absurd hf hp
  case cle => exact absurd hc hp
  all_goals simp [Part.same]

theorem Core.onlyRegs_wr {a : Nat} (h : a ∈ r) (v : Nat) : k.onlyRegs r (k.wr a v) :=
  fun b hb _ _ => Core.rd_wr_ne k (show b ≠ a from fun e => hb (e.symm ▸ h)) v

theorem Core.onlyRegs_wrf {a : Nat} (h : a ∈ r) (hi lo v : Nat) : k.onlyRegs r (k.wrf a hi lo v) :=
  Core.onlyRegs_wr h _

theorem Core.onlyRegs_cnt {a : Nat} (h : a ∈ r) : k.onlyRegs r (k.cnt a) := Core.onlyRegs_wr h _

theorem Core.onlyRegs_emit (src code : Nat) (e : List (Nat × Nat × Nat)) : k.onlyRegs r (k.emit src code e) :=
  fun _ _ h1 h2 => Core.rd_emit k _ _ _ (by simp [evReg, h1, h2])

theorem Core.onlyRegs_emitLim (src code key lo w : Nat) (e : List (Nat × Nat × Nat)) :
    k.onlyRegs r (k.emitLim src code key lo w e) :=
  fun _ _ h1 h2 => Core.rd_emitLim k _ _ _ _ _ _ (by simp [evReg, h1, h2])

theorem Core.onlyRegs_setFst (i : FnId) (n : FState) (st : Nat) : k.onlyRegs r (k.setFst i n st) :=
  fun _ _ h1 h2 => Core.rd_setFst k _ _ _ (by simp [evReg, h1, h2])

/-! ### A command on the core -/

theorem Part.same_alert {s : State} (p : Part) (h : p.same k s.core) : p.same k s.alertChk.core := by
  cases p
  case mgt =>
    unfold State.alertChk
    dsimp only
    split
    · exact h
    · exact h
  all_goals simpa [Part.same] using h

theorem Part.same_drain {s : State} (p : Part) (h : p.same k s.core) : p.same k s.drainEvents.core := by
  cases p <;> simpa [Part.same] using h

theorem Part.same_emitAAt {s : State} (p : Part) (t src code b : Nat) (h : p.same k s.core) :
    p.same k (s.emitAAt t src code b).core := by
  unfold State.emitAAt
  refine Part.same_alert p (Part.same_drain p ?_)
  cases p <;> simpa [Part.same] using h

theorem Part.same_capCheck {s : State} (p : Part) (old : Svc) (h : p.same k s.core) :
    p.same k (s.capCheck old).core := by
  unfold State.capCheck
  split
  · exact Part.same_emitAAt p _ _ _ _ h
  · exact h

theorem Part.same_onCore (s : State) (f : Core → Core) (p : Part) (h : p.same s.core (f s.core)) :
    p.same s.core (s.onCore f).core := by
  unfold State.onCore
  exact Part.same_capCheck p _ (Part.same_alert p (Part.same_drain p h))

theorem State.outsideStands_onCore (s : State) (f : Core → Core) : s.outsideStands (s.onCore f) := by
  simp [State.outsideStands]

theorem State.outsideStands_mgmt (s : State) (stat : Nat) (f : Core → Core × Nat) : s.outsideStands (s.mgmt stat f) := by
  simp [State.outsideStands]

theorem State.only_onCore (s : State) (f : Core → Core) (hp : s.core.onlyParts l (f s.core))
    (hr : s.core.onlyRegs r (f s.core)) : s.only l r (s.onCore f) :=
  ⟨State.outsideStands_onCore s f, fun p h => Part.same_onCore s f p (hp p h),
   fun a h h1 h2 => (State.rd_onCore s f (by simp [evReg, h1, h2])).trans (hr a h h1 h2)⟩

theorem State.only_mgmt (s : State) (ha : s.answers = true) (stat : Nat) (f : Core → Core × Nat) (hs : stat ∈ r)
    (hp : s.core.onlyParts l (f s.core).1) (hr : s.core.onlyRegs r (f s.core).1) : s.only l r (s.mgmt stat f) := by
  unfold State.mgmt
  rw [if_pos ha]
  exact State.only_onCore s _ (Core.onlyParts_trans hp (Core.onlyParts_wrf _ _ _ _))
    (Core.onlyRegs_trans hr (Core.onlyRegs_wrf hs _ _ _))

end Sys2Proof.Machine
end

