-- ==== Sys2Proof/WellFormed.lean ====
section
/-!
DEFINITION. The shape a command's data must have: indices are bounded by their types; lengths of blocks, frames and
markers, and the ranges of the remaining numbers, are checked here.
-/

namespace Sys2Proof

/-- A link block is 528 B (03_fabric_side R56), and a parameter exchange names eight buffer sizes of 13 bits (R64,
R72). -/
def Instr.wfBlock (blk : List Byte) (parms : Option (List Nat)) : Bool :=
  decide (blk.length = 528) && match parms with
    | none => true
    | some l => decide (l.length = 8) && l.all (· ≤ 4096)

/-- A dynamic I3C address has 7 bits (16_management R466: I3C_DA [29:23], 0 none). -/
def Ccc.wf : Ccc → Bool
  | .entdaa d | .setdasa d => decide (0 < d ∧ d < 128)
  | _ => true

/-- Bank group, bank and row fit ROW_REMAPPED (07_buffers_memory R224), the load class 0 to 7 (17_power_thermal R482). -/
def ScrubFind.wf : ScrubFind → Bool
  | .clean => true
  | .corrected c bg bank row | .uncorrectable c bg bank row => decide (c < 8 ∧ bg < 16 ∧ bank < 16 ∧ row < 2 ^ 20)

/-- A word of 8 B in SRAM, of 32 B in HBM (07_buffers_memory R213). -/
def MemErr.wf (e : MemErr) : Bool :=
  decide (e.cls < 8 ∧ e.bg < 16 ∧ e.bank < 16 ∧ e.row < 2 ^ 20 ∧ e.addr % (if e.sram then 8 else 32) = 0)

/-- A codeword of 544 symbols, its bytes within a lane's share of the 8,192 B (12_line_coding_retry R333, R335). -/
def CwErr.wf (e : CwErr) : Bool := decide (e.lo ≤ e.hi ∧ e.hi < 1024 ∧ 0 < e.syms ∧ e.syms ≤ 544)

/-- The well-formed commands. -/
def Instr.wf : Instr → Bool
  | .linkBlockRx _ blk parms => Instr.wfBlock blk parms
  | .frameRx _ data fec => decide (data.length = 8192) && fec.all CwErr.wf   -- 11_line_framing R301
  | .laneMarkerRx _ _ (some m) => decide (m.length = 1024)     -- 12_line_coding_retry R333
  | .i3cCcc c => c.wf
  | .mgmtReservedOpcode _ op _ => decide (op ≠ 0x02 ∧ op ≠ 0x0B ∧ op ≠ 0x0C)   -- 16_management R442
  | .thermalSample t => decide (t.length = 48)                 -- 17_power_thermal R478
  | .nvmProgram _ page => decide (page < 2 ^ 17)               -- 15_boot_config R438
  | .rowRemap _ _ bg bank row found _ => decide (bg < 16 ∧ bank < 16 ∧ row < 2 ^ 20) && found.all MemErr.wf   -- 07_buffers_memory R224
  | .scrubStep _ found => found.wf
  | .routerPacketRx _ _ mem | .packetAccept mem | .patTake _ mem => (mem.map MemErr.wf).getD true
  | .inputAlarm rail _ _ => decide (rail ≤ 16)                 -- 17_power_thermal R494
  | .ptpMessageRx domain _ _ => decide (domain < 256)
  | .hopReadback _ idx => decide (idx < 256)
  | _ => true

end Sys2Proof
end

