-- ==== Sys2Proof/Tests/Slice0.lean ====
section
/-!
SUPPORT. Small tests: an ill-formed command for each check, numbers the spec works out itself, and for each statement with
hypotheses a theorem that shows states and operands which meet them, clause by clause.
-/

namespace Sys2Proof.Tests

open Sys2Proof Sys2Proof.Machine

set_option Elab.async false

/-! ### Ill-formed commands -/

theorem test_wf_block_length : Instr.wf (.linkBlockRx 0 [0] none) = false := by decide
theorem test_wf_block_parms : Instr.wfBlock [] (some [1]) = false := by decide
theorem test_wf_frame_length : Instr.wf (.frameRx 0 [] []) = false := by decide
theorem test_wf_marker_length : Instr.wf (.laneMarkerRx 0 0 (some [])) = false := by decide
theorem test_wf_codeword_span : CwErr.wf { lane := 0, lo := 1, hi := 0, syms := 1 } = false := by decide
theorem test_wf_word_address : MemErr.wf { sram := true, addr := 4, ue := true, cls := 0 } = false := by decide
theorem test_wf_scrub_row : Instr.wf (.scrubStep false (.corrected 0 0 0 1048576)) = false := by decide
theorem test_wf_i3c_address : Instr.wf (.i3cCcc (.entdaa 128)) = false := by decide
theorem test_wf_reserved_opcode : Instr.wf (.mgmtReservedOpcode .spi 0x0B 0) = false := by decide
theorem test_wf_sensors : Instr.wf (.thermalSample []) = false := by decide
theorem test_wf_page : Instr.wf (.nvmProgram 0 131072) = false := by decide
theorem test_wf_row : Instr.wf (.rowRemap 0 0 16 0 0 [] true) = false := by decide
theorem test_wf_rail : Instr.wf (.inputAlarm 17 0 0) = false := by decide
theorem test_wf_domain : Instr.wf (.ptpMessageRx 256 (.delayReqSent 0) false) = false := by decide
theorem test_wf_hop_index : Instr.wf (.hopReadback 0 256) = false := by decide

/-- A packet header with fields set, and its CRC. -/
def hdr (l : List (Nat × Nat × Nat)) : BitVec 256 :=
  let h := l.foldl (fun (h : BitVec 256) p => hset h p.1 p.2.1 p.2.2) 0
  hset h 15 0 (hdrCrc h)

/-! ### Worked examples of the spec -/

/-- 00_scope R10: three writes through a window over 1,024 words, from WORD 0x3FE. -/
theorem test_window :
    let wr := fun (k : Core) => (k.winWrite Reg.TTX_PAT_TBL 1024 true (tblPlain Reg.TTX_PAT_TBL 0) 0).1
    ((({} : Core).wr Reg.TTX_PAT_TBL 0x3FE |> wr |> wr |> wr)).rd Reg.TTX_PAT_TBL = 0x07000400 := by decide +kernel

/-- 01_architecture R24: the pointer at 5, then 6, then 10, with requesters 2, 5 and 9. -/
theorem test_round_robin : rrPick 16 5 (fun i => [2, 5, 9].contains i) = some 5 ∧
    rrPick 16 6 (fun i => [2, 9].contains i) = some 9 ∧ rrPick 16 10 (fun i => [2].contains i) = some 2 := by decide

/-- 02_arithmetic R33: three FP32 elements on the grid of WBASE -20, the third below one step. -/
theorem test_grid : [0x40490FDB, 0xBDCCCCCD, 0x35000000].map (fun v => addend (-20) (decodeFp eFp32 0 v)) =
    [some 3294198, some (-104857), some 0] := by decide +kernel

/-- 02_arithmetic R28: MXFP8 E4M3 element 0x5A under scale 0x7C. -/
theorem test_mx_element : decodeMx eE4m3 0x7C 0x5A = .fin false 10 (-2) := by decide +kernel

/-- 02_arithmetic R35: 32,768 overflows the window at WBASE -176, 16,384 does not. -/
theorem test_window_overflow : (decodeFp eFp32 0 0x47000000).overflows (-176) = true ∧
    (decodeFp eFp32 0 0x46800000).overflows (-176) = false := by decide +kernel

/-- 02_arithmetic R36 to R38: 3,189,341 x 2^-20 in FP32, BF16 and INT32; the tie 2.5 in INT32. -/
theorem test_round : (roundScalar eFp32 false 3189341 (2 ^ 20)).enc = 0x4042A974 ∧
    (roundScalar eBf16 false 3189341 (2 ^ 20)).enc = 0x4043 ∧ (roundScalar eInt32 false 3189341 (2 ^ 20)).enc = 3 ∧
    (roundScalar eInt32 false 5 2).enc = 2 := by decide +kernel

/-- 02_arithmetic R43: a residue of -6, and the accumulators' checksum. -/
theorem test_checksum : checksum [-8, 4, -2] = 0x1FFFFFFFFFFFFFF9 ∧ checksum [-3, 1, 5] = 14 ∧ checksum [-3, 1, 7] = 20 := by
  decide +kernel

/-- 03_fabric_side R76: SRC_EID 0x12345, FLOW_ID 0x123. -/
theorem test_spread : spreadHash (hdr [(210, 193, 0x12345), (192, 179, 0x123)]) = 0x13175 := by decide +kernel

/-- 06_compression R161: 3.3125, -0.078125 and 0.00830078125 (units of 2^-17) in one MXFP8 E4M3 block. -/
theorem test_quantize : ((quantBlock 0x08 ([.fin false 434176 (-17), .fin true 10240 (-17), .fin false 1088 (-17)] ++
    List.replicate 29 (.fin false 0 0))).1).take 4 = [0x78, 0x7D, 0xD2, 0x38] := by decide +kernel

/-- 08_cipher R233: the IV of gateway 12 of site 3, invocation 7 of LOAD_SEQ 0x2A41. -/
theorem test_iv : (({} : Core).wr Reg.FRT_SITE (3 * 64 + 12)).ivOf { salt := 0x5A3CE7FF, loadSeq := 0x2A41, used := 7 } =
    [0x5A, 0x3C, 0xE4, 0xCC, 0, 0, 0x2A, 0x41, 0, 0, 0, 7] := by decide +kernel

/-- 10_timetable_time R272: frame and slot of 1 s. -/
theorem test_time : frameOf 1000000000 = 12207031 ∧ slotOf 1000000000 = 762939 := by decide

/-- 12_line_coding_retry R339: P and Q of one byte of four data positions. -/
theorem test_parity : (parityP [(0, [0x12]), (1, [0x34]), (2, [0x56]), (3, [0x78])]) = [0x08] ∧
    (parityQ [(0, [0x12]), (1, [0x34]), (2, [0x56]), (3, [0x78])]) = [0xD8] := by decide +kernel

/-- FIPS 197, appendix C.3 (named by 08_cipher): AES-256 of one block, and back. -/
theorem test_aes :
    let ks := aesKeys ((List.range 32).map byte)
    let ct := [0x8E, 0xA2, 0xB7, 0xCA, 0x51, 0x67, 0x45, 0xBF, 0xEA, 0xFC, 0x49, 0x90, 0x4B, 0x49, 0x60, 0x89]
    aesEnc ks ((List.range 16).map (fun i => byte (17 * i))) = ct ∧
    aesDec ks ct = (List.range 16).map (fun i => byte (17 * i)) := by decide +kernel

/-- The two S-box tables undo each other. -/
theorem test_sbox : (List.range 256).all (fun x => aesInvSub (aesSub x) == x && aesSub (aesInvSub x) == x) = true := by
  decide +kernel

/-! ### A witness for every clause with hypotheses: states and operands that meet them together -/

/-- Booted and powered. -/
def up (k : Core) : State :=
  { pending := [], core := k, aon := { boot := { phase := 1 }, pwr := { pst := .on } }, nvm := {}, otp := {} }

def fns (l : List (FnId × FState)) (k : Core) : Core := l.foldl (fun k p => k.setFn p.1 { fst := p.2 }) k
def regs (l : List (Nat × Nat)) (k : Core) : Core := l.foldl (fun k p => k.wr p.1 p.2) k
def tbls (l : List (Nat × Nat × Nat)) (k : Core) : Core := l.foldl (fun k p => k.tbw p.1 p.2.1 p.2.2) k
def clk (ns : Nat) (k : Core) : Core := { k with tim := { k.tim with run := ns * 65536, glob := ns * 65536 } }

def aonRegs (l : List (Nat × Nat)) (s : State) : State := { s with aon := l.foldl (fun k p => k.wr p.1 p.2) s.aon }

/-- The row of an address the register map holds. -/
def rowOf (a : Nat) (h : (regAt a).isSome = true) : RegRow := ((regAt a).get h).1

def goodBlk : List Byte := List.replicate 524 0 ++ beBytes 4 0x0E0EBDD7

/-- The remainder after `n` bytes of 0, each step's evaluated before the next. -/
def zerosCrc : Nat → Nat → Nat
  | 0, r => r
  | n + 1, r => match [0, 1, 2, 3, 4, 5, 6, 7].foldl (fun r i => crcBit 32 0x04C11DB7 r ((0 : Byte).getLsbD i)) r with
    | 0 => zerosCrc n 0
    | m + 1 => zerosCrc n (m + 1)

theorem zerosCrc_eq (n : Nat) : ∀ r, (List.replicate n (0 : Byte)).foldl (fun (r : Nat) (x : Byte) =>
    [0, 1, 2, 3, 4, 5, 6, 7].foldl (fun r i => crcBit 32 0x04C11DB7 r (x.getLsbD i)) r) r = zerosCrc n r := by
  induction n with
  | zero => intro r; rfl
  | succ n ih =>
    intro r
    rw [List.replicate_succ, List.foldl_cons, ih, zerosCrc]
    split
    · rename_i h; rw [h]
    · rename_i h; rw [h]

/-- The CRC of 524 bytes of 0. -/
theorem crc_zeros : crc32 (List.replicate 524 0) = 0x0E0EBDD7 := by
  rw [crc32]
  simp only [zerosCrc_eq]
  decide +kernel

theorem goodBlk_crc : crc32 (goodBlk.take 524) = beNat (slice goodBlk 524 4) := by
  rw [show goodBlk.take 524 = List.replicate 524 0 by decide +kernel, crc_zeros]
  decide +kernel

/-- A data packet on VC 2 from endpoint 2 to endpoint 1, of 64 payload bytes: flow 0, record 0. -/
def pkt : Packet :=
  { hdr := hdr [(255, 252, 1), (251, 249, 2), (234, 229, 63), (228, 211, 1), (210, 193, 2)], data := List.replicate 64 0, slots := 1, inPort := 0 }

/-- Key position 0 of slot `i` loaded, for flows. -/
def keyed (i : Nat) (k : Core) : Core := k.setKslot i { p0 := { loaded := true } }

/-- Flow `f` is a message flow to site 1 on group 0, queue 0. -/
def flowCfg (f : Nat) (k : Core) : Core :=
  tbls [(Reg.SCH_QCFG_TBL, 0, 0x80000400)] (fns [(.group 0, .on)]
    (keyed 0 (k.setFctx f 0 (2 * 2 ^ 57 + 2 ^ 47 + 2 ^ 11))))

/-- Buffer `i` of a pool of `n` SRAM buffers of 64 KiB, held by owner 0. -/
def pooled (n : Nat) (k : Core) : Core :=
  { tbls [(Reg.BPM_POOL_TBL, 0, 0x20000000), (Reg.BPM_POOL_TBL, 1, 0x3400000), (Reg.BPM_POOL_TBL, 3, n), (Reg.BPM_OWN_TBL, 1, n)]
      (fns [(.pool 0, .on)] k) with bpm := { alloc := ({} : SMap Nat).set 0 0x3400000 1 } }

/-- Record `id` open for flow 0 at sequence number 0, sending or not, of `n` bytes. -/
def record (id : Nat) (send : Bool) (n : Nat) (k : Core) : Core :=
  tbls [(Reg.FCS_CR_TBL, 16 * id + 1, if send then 0xC0000000 else 0x80000000), (Reg.FCS_CR_TBL, 16 * id + 3, n * 256)] k

/-- The first packet, of 4 KiB, of a message of 8 KiB. -/
def first : Packet :=
  { hdr := hdr [(255, 252, 1), (251, 249, 2), (240, 235, 63), (234, 229, 63), (228, 211, 1), (210, 193, 2)],
    data := [], slots := 64, inPort := 0 }

/-- A control message of operation `op` from endpoint 0, the rest of its 64 bytes 0. -/
def ctl (op : Byte) : Packet := { hdr := hdr [(234, 229, 63)], data := op :: List.replicate 63 0, slots := 1, inPort := 0 }

/-- Context `x`, of ring algorithm `algo`: this gateway in slot 0, site 1 in slot 1, one chunk deep, over flow 0. -/
def ctxCfg (x algo : Nat) (k : Core) : Core :=
  ((((((k.setCc x 0 (2 * 2 ^ 27 + algo * 2 ^ 22 + 2 ^ 16)).setCc x 8 0x10).setCc x 0x18 1024).setCc x 0x20
    (0x8000 * 2 ^ 34)).setCc x 0x30 (2 ^ 48)).setFctx 0 0 (2 * 2 ^ 60 + 2 ^ 57)).setFctx 0 0x40 (x * 2 ^ 42)

/-- Context 0 runs one chunk. -/
def running (algo : Nat) (k : Core) : Core :=
  ((fns [(.ctx 0, .on), (.flow 0, .on)] (ctxCfg 0 algo k)).putPhase 0 3).setCc 0 0x50 (2 ^ 32)

/-- A wrapped key for slot 4,095: KEY_ID 7, OWNER 3, PURPOSE FLOW, every byte of the key 1, under a KEK of 0. -/
def blob : List Byte :=
  [75, 87, 1, 0, 15, 255, 0, 0, 67, 139, 142, 6, 102, 43, 211, 85, 237, 103, 91, 74, 30, 219, 234, 2, 158, 121, 39, 184, 95, 71, 226, 116,
   233, 69, 163, 212, 99, 253, 58, 224, 255, 78, 79, 177, 102, 188, 122, 195, 164, 195, 165, 101, 44, 161, 105, 184, 129, 201, 192, 238, 243, 89, 67, 242]
/-- Its load is under way. -/
def loading : State := up { cip := { kek := some 0, blob := blob, kcmd := some { slot := 4095, pos := 1, status := 0 } } }

/-- A message item for site 1 on group 0, queue 0. -/
def item : Item := { g := 0, q := 0, hdr := [], ct := [], bytes := 64, ke := 0, grp := false, ver := 0, use := .msgOut 0 0 0 0 0 }
/-- Items of flow 0 leave for site 1 on group 0. -/
def siteUp (k : Core) : Core := regs [(Reg.LFR_G_CFG 0, 0x1000)] (tbls [(Reg.FRT_SRT_TBL, 1, 0x80000000)] (flowCfg 0 k))

/-- Gate list 1 of group 7: one entry of 8 ns from global time 10 us on. -/
def gates (k : Core) : Core :=
  tbls [(Reg.SCH_GCL_TBL, 8200 * 7 + 4100, 1), (Reg.SCH_GCL_TBL, 8200 * 7 + 4101, 10000), (Reg.SCH_GCL_TBL, 8200 * 7 + 4106, 1)] k

/-- The timebase takes its sources, `src` in TBS_CFG. -/
def timed (src : Nat) (t : Tim) : State := up (regs [(Reg.TBS_CFG, src * 2 ^ 30)] (fns [(.timeXfer, .on)] { tim := t }))

/-- Segment 63 is ON and holds entry 65,535 alone: its type, its argument from bit 40 on, its second word, due at `t`. -/
def entry (t typ arg b0 b1 : Nat) (k : Core) : Core :=
  tbls [(Reg.TTX_SEG_TBL, 8 * 63, 65535), (Reg.TTX_SEG_TBL, 8 * 63 + 1, t), (Reg.TTX_ENT_TBL, 4 * 65535 + 1, typ * 2 ^ 28 + arg * 2 ^ 8),
    (Reg.TTX_ENT_TBL, 4 * 65535 + 2, b0), (Reg.TTX_ENT_TBL, 4 * 65535 + 3, b1)] (fns [(.segment 63, .on)] k)

theorem fires_of {k : Core} {e typ g t o : Nat} (h : k.ttNext = some (g, t, o, e) ∧ k.entType e = typ ∧ t ≤ k.gns) :
    k.fires e typ g t := ⟨⟨o, h.1⟩, h.2⟩

def setLp (n : Nat) (p : LPort) (k : Core) : Core := { k with lport := k.lport.set {} n p }

/-- Group 7 with line port 15 as its one member, at position 0. -/
def grpCfg (k : Core) : Core :=
  regs [(Reg.LFR_G_CFG 7, 0x10000), (Reg.LFR_G_MEMBERS 7, 0x10001), (Reg.LFR_P_CFG 15, 2 ^ 31 + 7 * 2 ^ 28), (Reg.CIP_G_SLOT 7, 2 ^ 31)]
    ((fns [(.linePort 15, .on)] k).setKslot 0 { purpose := 1, p0 := { loaded := true } })

def island (b : Boot) (p : Pwr) (ns : Nat) : State := { State.reset with aon := { boot := b, pwr := p, now := ns } }

/-- A KEK of 32 bytes of 2, wrapped under a KEK of 0. -/
def nextKek : List Word := [0xE0638B58, 0x9A8A2D22, 0x5E424BB1, 0xC25A87A4, 0xA1FD7B61, 0xB2F84F2E, 0x576D9CB6, 0xD6135097, 0x0942B4A1, 0x9DE88619]

/-- A descriptor from endpoint 2, one word long, under a key of 0; and the state that admits it. -/
def desc : Packet :=
  { hdr := hdr [(240, 235, 1), (234, 229, 3), (210, 193, 2)], slots := 2, inPort := 0,
    data := [74, 68, 1, 0, 0, 0, 0, 0, 0, 0, 0, 0, 0, 0, 0, 0, 0, 0, 0, 0, 255, 255, 255, 255, 0, 0, 0, 0, 0, 4, 0, 0] ++
      [144, 101, 116, 26, 93, 27, 166, 226, 219, 16, 55, 0, 219, 1, 161, 143] ++ List.replicate 16 0 ++ [149, 29, 189, 161] }

def admitting (p : Packet) : State :=
  up (({ ident := [0, 0x80000002, 0, 0, 0], frt := { desc := [p] } } : Core).setKslot 0 { purpose := 2, p0 := { loaded := true } })

theorem test_hyps_StepRunsFrontCommand :
    ∃ (s : State) (c : Instr) (rest : List Instr), s.pending = c :: rest :=
  ⟨{ up {} with pending := [.powerOn] }, .powerOn, [], by decide +kernel⟩

theorem test_hyps_EmptyQueueStepPassesEightNs :
    ∃ (s : State), s.pending = [] :=
  ⟨State.reset, by decide +kernel⟩

theorem test_hyps_ManagementFramesExecute :
    (∃ (_ : Path) (a : Word) (_ : Word) (s : State), s.aon.pwr.vinOk = true ∧ s.frameSt a.toNat = stOk) ∧
    (∃ (_ : Path) (_ : Fin 12) (_ : Word) (s : State), s.aon.pwr.vinOk = true) ∧
    (∃ (_ : Path) (_ : Word) (s : State), s.aon.pwr.vinOk = true ∧ s.aon.fd Reg.BOOT_NVMB_TBL 23 0 < 64) ∧
    (∃ (_ : Path) (s : State), s.aon.pwr.vinOk = true ∧ s.aon.fd Reg.SUP_MRES_TBL 23 0 < 1024) ∧
    (∃ (_ : Path) (a : Word) (r : RegRow) (i : Nat) (s : State), s.aon.pwr.vinOk = true ∧ s.frameSt a.toNat = stOk ∧
      isAon a.toNat = false ∧ regAt a.toNat = some (r, i) ∧ (r.acc = .rc ∨ r.acc = .cnt)) ∧
    (∃ (_ : Path) (a : Word) (r : RegRow) (i : Nat) (s : State), s.aon.pwr.vinOk = true ∧ s.frameSt a.toNat = stOk ∧
      isAon a.toNat = false ∧ regAt a.toNat = some (r, i) ∧ (r.acc = .roLo ∨ r.acc = .rwLo ∨ r.acc = .cumLo)) :=
  ⟨⟨.spi, 0x60000, 0, State.reset, by decide +kernel⟩,
   ⟨.spi, 11, 0xFFFFFFFF, State.reset, by decide +kernel⟩,
   ⟨.i3c, 1, aonRegs [(Reg.BOOT_NVMB_TBL, 63)] State.reset, by decide +kernel⟩,
   ⟨.i3c, aonRegs [(Reg.SUP_MRES_TBL, 1023)] State.reset, by decide +kernel⟩,
   ⟨.spi, word Reg.MGT_ABORT_CNT, rowOf Reg.MGT_ABORT_CNT (by decide +kernel), 0, up {}, by decide +kernel⟩,
   ⟨.spi, word Reg.TBS_TIME_LO, rowOf Reg.TBS_TIME_LO (by decide +kernel), 0, up {}, by decide +kernel⟩⟩

theorem test_hyps_FramesThatExecuteNothing :
    (∃ (_ : Path) (s : State), s.aon.pwr.vinOk = true) ∧
    (∃ (_ : Path) (_ : Byte) (_ : Word) (s : State), s.aon.pwr.vinOk = true) ∧
    (∃ (_ : Path) (s : State), s.aon.pwr.vinOk = true) ∧
    (∃ (_ : Path) (s : State), s.aon.pwr.vinOk = true) ∧
    (∃ (a : Word) (s : State), s.aon.pwr.vinOk = true ∧ s.frameSt a.toNat = stOk ∧
      (∃ r i, regAt a.toNat = some (r, i) ∧ r.acc = .cnt)) ∧
    (∃ (sub : Fin 18) (_ : State), sub.val ≠ 0 ∧ sub.val ≠ 14 ∧ sub.val ≠ 17) ∧
    (∃ (sub : Fin 18) (_ : State), (sub.val = 14 ∨ sub.val = 17)) ∧
    (∃ (code : Nat) (src : Nat) (key : Nat) (l : Lim) (s : State), s.core.evl.lims.find? (fun m => m.is code src key
      && m.count != 0 && decide (m.ends ≤ s.core.now)) = some l) :=
  ⟨⟨.spi, State.reset, by decide +kernel⟩,
   ⟨.i3c, 0x0B, 4, State.reset, by decide +kernel⟩,
   ⟨.spi, State.reset, by decide +kernel⟩,
   ⟨.spi, State.reset, by decide +kernel⟩,
   ⟨word Reg.MGT_ABORT_CNT, up {}, by decide +kernel, by decide +kernel, rowOf Reg.MGT_ABORT_CNT (by decide +kernel),
     0, by decide +kernel, by decide +kernel⟩,
   ⟨16, State.reset, by decide +kernel⟩,
   ⟨17, State.reset, by decide +kernel⟩,
   ⟨1, 2, 3, { code := 1, src := 2, key := 3, ends := 0, interval := 1000000, count := 1 },
     up { evl := { lims := [{ code := 1, src := 2, key := 3, ends := 0, interval := 1000000, count := 1 }] } },
     by decide +kernel⟩⟩

theorem test_hyps_I3cCommonCommandCodes :
    ∃ (s : State), s.aon.pwr.vinOk = true :=
  ⟨State.reset, by decide +kernel⟩

theorem test_hyps_FabricPortBringUp :
    (∃ (n : Fin 32) (s : State), s.answers = true ∧ bitAt s.core.svc.ofl n = true ∧ s.core.fst (.ofl n) = .off ∧
      s.core.rxBufOk n = true) ∧
    (∃ (n : Fin 32) (s : State), s.answers = true ∧ s.core.fst (.ofl n) = .on ∧ (s.core.fn (.ofl n)).pend = false) ∧
    (∃ (n : Fin 32) (skew : Nat) (s : State), s.core.fst (.ofl n) = .starting ∧ (s.core.port n).link = 1 ∧ skew ≤ 64) ∧
    (∃ (n : Fin 32) (s : State), s.core.fst (.ofl n) = .starting ∧
      (s.core.port n).t0 + (if (s.core.port n).link = 1 then 100000000 else 1000000) ≤ s.core.now) ∧
    (∃ (n : Fin 32) (s : State), s.core.fst (.ofl n) = .starting ∧
      (s.core.port n).t0 + (if (s.core.port n).link = 1 then 100000000 else 1000000) ≤ s.core.now) ∧
    (∃ (n : Fin 32) (s : State), s.core.fst (.ofl n) = .draining ∧ (s.core.fn (.ofl n)).pend = false ∧
      (s.core.fn (.ofl n)).since + 2000000 ≤ s.core.now) :=
  ⟨⟨31, up { svc := { ofl := 2 ^ 31 } }, by decide +kernel⟩,
   ⟨31, up (fns [(.ofl 31, .on)] {}), by decide +kernel⟩,
   ⟨31, 64, up (fns [(.ofl 31, .starting)] (({} : Core).setPort 31 { link := 1 })), by decide +kernel⟩,
   ⟨0, up (clk 1000000 (fns [(.ofl 0, .starting)] {})), by decide +kernel⟩,
   ⟨0, up (clk 100000001 (fns [(.ofl 0, .starting)] (({} : Core).setPort 0 { link := 1, t0 := 1 }))),
     by decide +kernel⟩,
   ⟨0, up (clk 2000000 (fns [(.ofl 0, .draining)] {})), by decide +kernel⟩⟩

theorem test_hyps_LinkBlocksAndRetry :
    (∃ (n : Fin 32) (s : State), 2 ≤ (s.core.port n).link) ∧
    (∃ (n : Fin 32) (blk : List Byte) (s : State), ((s.core.port n).link = 2 ∨ (s.core.port n).link = 3) ∧
      crc32 (blk.take 524) ≠ beNat (slice blk 524 4)) ∧
    (∃ (n : Fin 32) (blk : List Byte) (parms : Option (List Nat)) (s : State), (s.core.port n).link = 2 ∧
      crc32 (blk.take 524) = beNat (slice blk 524 4) ∧ 15 ≤ (s.core.port n).goodRun ∧
      (parms.isSome = true ∨ (s.core.port n).parms = true) ∧ (s.core.port n).parmAck = true ∧
      (s.core.port n).laneOk = 15) ∧
    (∃ (n : Fin 32) (blk : List Byte) (s : State), (s.core.port n).link = 3 ∧
      crc32 (blk.take 524) = beNat (slice blk 524 4)) ∧
    (∃ (n : Fin 32) (x : TxSlot) (l : List TxSlot) (s : State), (s.core.port n).unacked = x :: l ∧
      x.t + 10 * s.core.fd (Reg.FPC_P_LLCFG n) 15 0 ≤ s.core.now ∧
      (s.core.port n).replays + 1 < s.core.fd (Reg.FPC_P_LLCFG n) 19 16) ∧
    (∃ (n : Fin 32) (_ : Fin 4) (s : State), s.core.fst (.ofl n) = .on) :=
  ⟨⟨0, up (({} : Core).setPort 0 { link := 2 }), by decide +kernel⟩,
   ⟨31, List.replicate 524 0, up (({} : Core).setPort 31 { link := 3 }), by decide +kernel, by
     rw [show (List.replicate 524 (0 : Byte)).take 524 = List.replicate 524 0 by decide +kernel, crc_zeros]; decide +kernel⟩,
   ⟨0, goodBlk, some [80], up (({} : Core).setPort 0 { link := 2, goodRun := 15, parmAck := true, laneOk := 15 }),
     by decide +kernel, goodBlk_crc, by decide +kernel⟩,
   ⟨0, goodBlk, up (({} : Core).setPort 0 { link := 3 }), by decide +kernel, goodBlk_crc⟩,
   ⟨0, { lsn := 0, typ := 1, data := [], t := 0 }, [], up (clk 1000000 (({} : Core).setPort
     0 { unacked := [{ lsn := 0, typ := 1, data := [], t := 0 }] })), by decide +kernel⟩,
   ⟨31, 3, up (fns [(.ofl 31, .on)] {}), by decide +kernel⟩⟩

theorem test_hyps_RouterHandlesPackets :
    (∃ (n : Fin 33) (p : Packet) (rest : List Packet) (s : State), n.val < 32 ∧ s.core.isOn .router = true ∧
      s.core.isOn (.ofl n) = true ∧ (s.core.port n).rxq = p :: rest ∧ s.core.descFull = false ∧
      (hget p.hdr 255 252 ≠ 1 ∨ hdrCrc p.hdr ≠ hget p.hdr 15 0)) ∧
    (∃ (n : Fin 33) (p : Packet) (rest : List Packet) (s : State), n.val < 32 ∧ s.core.isOn .router = true ∧
      s.core.isOn (.ofl n) = true ∧ (s.core.port n).rxq = p :: rest ∧ s.core.descFull = false ∧
      hget p.hdr 255 252 = 1 ∧ hdrCrc p.hdr = hget p.hdr 15 0 ∧ hVc p.hdr < 6 ∧ hType p.hdr ≤ 5 ∧
      vcAllows (hVc p.hdr) (hType p.hdr) = true ∧ hget p.hdr 245 245 = 0 ∧ p.slots = hLen p.hdr + 1 ∧
      bitAt s.core.frt.ep.wopen (hEpoch p.hdr) = false ∧ hget p.hdr 246 246 = 0 ∧ hType p.hdr ≠ 3 ∧ hType p.hdr ≠ 4 ∧
      bitAt (s.core.rtEntry (hEpoch p.hdr) (hDst p.hdr)) 63 = true ∧
      fld (s.core.rtEntry (hEpoch p.hdr) (hDst p.hdr)) 62 60 = 1) ∧
    (∃ (n : Fin 33) (_ : Fin 18) (p : Packet) (rest : List Packet) (s : State), n.val < 32 ∧
      s.core.isOn .router = true ∧ s.core.isOn (.ofl n) = true ∧ (s.core.port n).rxq = p :: rest ∧
      s.core.descFull = false ∧ hget p.hdr 255 252 = 1 ∧ hdrCrc p.hdr = hget p.hdr 15 0 ∧ hVc p.hdr < 6 ∧
      hType p.hdr ≤ 5 ∧ vcAllows (hVc p.hdr) (hType p.hdr) = true ∧ hget p.hdr 245 245 = 0 ∧
      p.slots = hLen p.hdr + 1 ∧ bitAt s.core.frt.ep.wopen (hEpoch p.hdr) = false ∧ hget p.hdr 246 246 = 0 ∧
      hType p.hdr ≠ 3 ∧ hType p.hdr ≠ 4 ∧ bitAt (s.core.rtEntry (hEpoch p.hdr) (hDst p.hdr)) 63 = true ∧
      fld (s.core.rtEntry (hEpoch p.hdr) (hDst p.hdr)) 62 60 = 1) ∧
    (∃ (n : Fin 33) (_ : Option (Fin 18)) (mem : Option MemErr) (s : State), s.core.routerBusy n = true ∧
      (s.memErrs mem).core.routerBusy n = true) ∧
    (∃ (n : Fin 32) (vc : Fin 8) (x : QPkt) (rest : List QPkt) (s : State), (s.core.port n).txq.get [] vc = x :: rest
      ∧ vc.val < 7 ∧ x.headT + 10 * s.core.fd Reg.FRT_ESC_TIMEOUT 15 0 ≤ s.core.now ∧ s.core.isOff .router = false) ∧
    (∃ (s : State), s.answers = true ∧ s.core.fst .router = .off) ∧
    (∃ (s : State), s.answers = true ∧ s.core.fst .router = .on ∧ (s.core.fn .router).pend = false) :=
  ⟨⟨31, { hdr := 0, data := [], slots := 0, inPort := 31 }, [], up (fns [(.router, .on), (.ofl 31, .on)] (({} :
     Core).setPort 31 { rxq := [{ hdr := 0, data := [], slots := 0, inPort := 31 }] })), by decide +kernel⟩,
   ⟨0, pkt, [], up (tbls [(Reg.FRT_RT_TBL, 3, 0x90000000)] (fns [(.router, .on), (.ofl 0, .on)] (({} : Core).setPort
     0 { rxq := [pkt] }))), by decide +kernel⟩,
   ⟨0, 17, pkt, [], up (tbls [(Reg.FRT_RT_TBL, 3, 0x90000000)] (fns [(.router, .on), (.ofl 0, .on)] (({} :
     Core).setPort 0 { rxq := [pkt] }))), by decide +kernel⟩,
   ⟨0, some 17, some { sram := true, addr := 0, ue := false, cls := 0 }, up (fns [(.router, .on), (.ofl 0, .on)]
     (({ svc := { sram := 1 } } : Core).setPort 0 { rxq := [pkt] })), by decide +kernel⟩,
   ⟨0, 6, { pkt := pkt }, [], up (clk 1000000 (fns [(.router, .on)] (({} : Core).setPort
     0 { txq := (({} : SMap (List QPkt)).set [] 6 [{ pkt := pkt }]) }))), by decide +kernel⟩,
   ⟨up {}, by decide +kernel⟩,
   ⟨up (fns [(.router, .on)] {}), by decide +kernel⟩⟩

theorem test_hyps_RoutingVersions :
    (∃ (v : Word) (s : State), s.answers = true ∧ fld v.toNat 0 0 = s.core.frt.ep.cur) ∧
    (∃ (v : Word) (s : State), s.answers = true ∧ fld v.toNat 0 0 ≠ s.core.frt.ep.cur ∧
      bitAt (s.core.frt.ep.wopen &&& (3 - fld v.toNat 13 12)) (fld v.toNat 0 0) = true) ∧
    (∃ (v : Word) (s : State), s.answers = true ∧ fld v.toNat 0 0 ≠ s.core.frt.ep.cur ∧
      bitAt (s.core.frt.ep.wopen &&& (3 - fld v.toNat 13 12)) (fld v.toNat 0 0) = false) ∧
    (∃ (v : Fin 2) (s : State), v.val ≠ s.core.frt.ep.cur ∧ s.core.frt.ep.infl v = 0 ∧
      s.core.frt.ep.zt v + 10000 ≤ s.core.now) ∧
    (∃ (_ : Word) (s : State), s.answers = true ∧ s.core.fd Reg.FRT_RT_TBL 23 0 < 1048576 ∧
      s.core.fd Reg.FRT_RT_TBL 23 0 / 524288 ≠ s.core.frt.ep.cur ∧
      (bitAt s.core.frt.ep.idle (s.core.fd Reg.FRT_RT_TBL 23 0 / 524288) = true ∨ bitAt s.core.frt.ep.wopen
      (s.core.fd Reg.FRT_RT_TBL 23 0 / 524288) = true)) ∧
    (∃ (_ : Word) (s : State), s.answers = true ∧ s.core.fd Reg.FRT_RT_TBL 23 0 < 1048576 ∧
      s.core.fd Reg.FRT_RT_TBL 23 0 / 524288 ≠ s.core.frt.ep.cur ∧
      (bitAt s.core.frt.ep.idle (s.core.fd Reg.FRT_RT_TBL 23 0 / 524288) = true ∨ bitAt s.core.frt.ep.wopen
      (s.core.fd Reg.FRT_RT_TBL 23 0 / 524288) = true)) ∧
    (∃ (_ : Word) (s : State), s.answers = true ∧ s.core.fd Reg.FRT_RT_TBL 23 0 < 1048576 ∧
      (s.core.fd Reg.FRT_RT_TBL 23 0 / 524288 = s.core.frt.ep.cur ∨ (bitAt s.core.frt.ep.idle (s.core.fd
      Reg.FRT_RT_TBL 23 0 / 524288) = false ∧ bitAt s.core.frt.ep.wopen (s.core.fd Reg.FRT_RT_TBL 23 0 / 524288) =
      false))) ∧
    (∃ (_ : Word) (s : State), s.answers = true ∧ s.core.fd Reg.FRT_RT_TBL 23 0 < 1048576 ∧
      (s.core.fd Reg.FRT_RT_TBL 23 0 / 524288 = s.core.frt.ep.cur ∨ (bitAt s.core.frt.ep.idle (s.core.fd
      Reg.FRT_RT_TBL 23 0 / 524288) = false ∧ bitAt s.core.frt.ep.wopen (s.core.fd Reg.FRT_RT_TBL 23 0 / 524288) =
      false))) ∧
    (∃ (_ : Word) (s : State), s.answers = true ∧ s.core.fd Reg.FRT_CIRC_TBL 23 0 < 8192 ∧
      s.core.fd Reg.FRT_CIRC_TBL 23 0 % 2 = 0) ∧
    (∃ (v : Word) (s : State), s.answers = true ∧ s.core.fd Reg.FRT_CIRC_TBL 23 0 < 8192 ∧
      s.core.fd Reg.FRT_CIRC_TBL 23 0 % 2 = 1 ∧
      (bitAt v.toNat 31 = false ∨ bitAt (s.core.tb Reg.FRT_CIRC_TBL (s.core.fd Reg.FRT_CIRC_TBL 23 0)) 31 = false)) ∧
    (∃ (v : Word) (s : State), s.answers = true ∧ s.core.fd Reg.FRT_CIRC_TBL 23 0 < 8192 ∧
      s.core.fd Reg.FRT_CIRC_TBL 23 0 % 2 = 1 ∧ bitAt v.toNat 31 = true ∧
      bitAt (s.core.tb Reg.FRT_CIRC_TBL (s.core.fd Reg.FRT_CIRC_TBL 23 0)) 31 = true) :=
  ⟨⟨0, up {}, by decide +kernel⟩,
   ⟨1, up { frt := { ep := { wopen := 2 } } }, by decide +kernel⟩,
   ⟨0x2001, up { frt := { ep := { wopen := 2, idle := 2 } } }, by decide +kernel⟩,
   ⟨1, up (clk 10000 {}), by decide +kernel⟩,
   ⟨0, up (regs [(Reg.FRT_RT_TBL, 524288)] { frt := { ep := { idle := 2 } } }), by decide +kernel⟩,
   ⟨0, up (regs [(Reg.FRT_RT_TBL, 1048575)] { frt := { ep := { wopen := 2 } } }), by decide +kernel⟩,
   ⟨0, up (regs [(Reg.FRT_RT_TBL, 524287)] {}), by decide +kernel⟩,
   ⟨0, up (regs [(Reg.FRT_RT_TBL, 524288)] {}), by decide +kernel⟩,
   ⟨0xFFFFFFFF, up (regs [(Reg.FRT_CIRC_TBL, 0)] {}), by decide +kernel⟩,
   ⟨0x80000000, up (regs [(Reg.FRT_CIRC_TBL, 8191)] {}), by decide +kernel⟩,
   ⟨0x80000000, up (tbls [(Reg.FRT_CIRC_TBL, 8191, 0x80000000)] (regs [(Reg.FRT_CIRC_TBL, 8191)] {})),
     by decide +kernel⟩⟩

theorem test_hyps_FlowsEnableDisableAndContextWords :
    (∃ (f : Fin 16384) (s : State), s.answers = true ∧ s.core.fst (.flow f) = .off ∧
      Core.flowCheck f ((s.core.ackSettle (s.core.fKeySlot f)).setFst (.flow f) .starting stOk) = stOk) ∧
    (∃ (f : Fin 16384) (s : State), s.answers = true ∧ s.core.fst (.flow f) = .on ∧
      (s.core.fn (.flow f)).pend = false) ∧
    (∃ (f : Fin 16384) (s : State), s.core.fst (.flow f) = .draining ∧ (s.core.fn (.flow f)).pend = false ∧
      (s.core.fn (.flow f)).since + 100000 * s.core.fd Reg.FCS_DRAIN 15 0 ≤ s.core.now ∧ s.core.cle.failQ = []) ∧
    (∃ (_ : Word) (s : State), s.answers = true ∧ s.core.fd Reg.FCS_CTX_TBL 23 0 < 1048576 ∧
      [0, 1, 4, 5, 6, 7, 8].contains (s.core.fd Reg.FCS_CTX_TBL 23 0 % 64 / 2) = true ∧
      s.core.isOff (.flow (s.core.fd Reg.FCS_CTX_TBL 23 0 / 64)) = true) ∧
    (∃ (_ : Word) (s : State), s.answers = true ∧ s.core.fd Reg.FCS_CTX_TBL 23 0 < 1048576 ∧
      [0, 1, 4, 5, 6, 7, 8].contains (s.core.fd Reg.FCS_CTX_TBL 23 0 % 64 / 2) = true ∧
      s.core.isOff (.flow (s.core.fd Reg.FCS_CTX_TBL 23 0 / 64)) = false) :=
  ⟨⟨16383, up (flowCfg 16383 {}), by decide +kernel⟩,
   ⟨16383, up (fns [(.flow 16383, .on)] {}), by decide +kernel⟩,
   ⟨0, up (clk 1000000000000 (fns [(.flow 0, .draining)] {})), by decide +kernel⟩,
   ⟨0, up (regs [(Reg.FCS_CTX_TBL, 1048576 - 64 + 17)] {}), by decide +kernel⟩,
   ⟨0, up (regs [(Reg.FCS_CTX_TBL, 0)] (fns [(.flow 0, .on)] {})), by decide +kernel⟩⟩

theorem test_hyps_ReceiveRecords :
    (∃ (v : Word) (s : State), s.answers = true ∧ s.core.fd Reg.FCS_CR_TBL 23 0 < 0x80000 ∧
      s.core.fd Reg.FCS_CR_TBL 23 0 % 16 = 1 ∧ bitAt v.toNat 31 = true ∧
      s.core.rOpen (s.core.fd Reg.FCS_CR_TBL 23 0 / 16) = false ∧
      ((s.core.tbw Reg.FCS_CR_TBL (s.core.fd Reg.FCS_CR_TBL 23 0) (v.toNat &&& 0x7FFFFFFF)).openCheck (s.core.fd
      Reg.FCS_CR_TBL 23 0 / 16)).2 = stOk) ∧
    (∃ (d : Deliv) (rest : List Deliv) (s : State), s.core.frt.data = d :: rest ∧ d.site = none ∧
      s.core.cle.failQ = [] ∧ s.core.isOn (.flow (hFlow d.pkt.hdr)) = true ∧
      kindType (s.core.fKind (hFlow d.pkt.hdr)) = some (hType d.pkt.hdr) ∧
      hSrc d.pkt.hdr = s.core.fLocalEid (hFlow d.pkt.hdr) ∧ hCmpl d.pkt.hdr < 0x8000 ∧
      s.core.rOpen (hCmpl d.pkt.hdr) = true ∧ s.core.rSend (hCmpl d.pkt.hdr) = false ∧
      s.core.rFlow (hCmpl d.pkt.hdr) = hFlow d.pkt.hdr ∧ s.core.rSize (hCmpl d.pkt.hdr) ≤ 1048576 ∧
      seqSub (hSeq d.pkt.hdr) (s.core.rBase (hCmpl d.pkt.hdr)) < s.core.rSize (hCmpl d.pkt.hdr) ∧
      seqSub (hSeq d.pkt.hdr) (s.core.rBase (hCmpl d.pkt.hdr)) % 4096 = 0 ∧
      payLen d.pkt.hdr = pktLen (s.core.rSize (hCmpl d.pkt.hdr)) (seqSub (hSeq d.pkt.hdr) (s.core.rBase (hCmpl
      d.pkt.hdr)) / 4096) ∧ bitAt (s.core.rMap (hCmpl d.pkt.hdr)) (seqSub (hSeq d.pkt.hdr) (s.core.rBase (hCmpl
      d.pkt.hdr)) / 4096) = false ∧ s.core.rPkts (hCmpl d.pkt.hdr) + 1 < pktCount (s.core.rSize (hCmpl d.pkt.hdr)) ∧
      s.core.rBytes (hCmpl d.pkt.hdr) + payLen d.pkt.hdr < 2 ^ 21) ∧
    (∃ (mem : Option MemErr) (s : State), s.core.frt.data ≠ [] ∧ (s.memErrs mem).core.frt.data ≠ []) ∧
    (∃ (r : Fin 65536) (s : State), s.core.cle.failQ = [] ∧ s.core.rOpen r = true ∧ s.core.rSend r = false ∧
      s.core.recTimeUp r = true ∧ s.core.rTries r < s.core.fd Reg.FCS_RETRY 3 0) ∧
    (∃ (r : Fin 65536) (s : State), s.answers = true ∧ r.val < 0x8000 ∧ s.core.rOpen r = true) ∧
    (∃ (r : Fin 65536) (s : State), s.answers = true ∧ r.val < 0x8000 ∧ s.core.rOpen r = true) ∧
    (∃ (m : CustMsg) (rest : List CustMsg) (s : State), s.core.fcs.custody = m :: rest ∧ m.flow < 16384 ∧
      s.core.isOn (.flow m.flow) = true ∧ (∃ id, 0xC000 ≤ id ∧ id < 0x10000 ∧ s.core.rOpen id = false)) :=
  ⟨⟨0x80000000, up (regs [(Reg.FCS_CR_TBL, 16 * 32767 + 1)] (tbls [(Reg.FCS_CR_TBL, 16 * 32767 + 3, 65536 * 256),
     (Reg.FCS_CR_TBL, 16 * 32767 + 4, 0x3400000)] (pooled 1 (fns [(.flow 0, .on)] {})))), by decide +kernel⟩,
   ⟨{ pkt := first }, [], up (record 0 false 8192 ((fns [(.flow 0, .on)] ({ frt := { data := [{ pkt := first }] } } :
     Core)).setFctx 0 0 (2 * 2 ^ 11))), by decide +kernel⟩,
   ⟨some { sram := true, addr := 0, ue := false, cls := 0 },
     up { svc := { sram := 1 }, frt := { data := [{ pkt := first }] } }, by decide +kernel⟩,
   ⟨32767, up (record 32767 false 4096 { fcs := { recT := ({} : SMap Nat).set 0 32767 1 } }), by decide +kernel⟩,
   ⟨0, up (record 0 false 1 {}), by decide +kernel⟩,
   ⟨32767, up (record 32767 true 1 {}), by decide +kernel⟩,
   ⟨{ flow := 16383, base := 0, size := 1, cmpl := 0, ptr := 0 }, [], up (fns [(.flow 16383,
     .on)] { fcs := { custody := [{ flow := 16383, base := 0, size := 1, cmpl := 0, ptr := 0 }] } }),
     by decide +kernel, by decide +kernel, by decide +kernel, 0xFFFF, by decide +kernel⟩⟩

theorem test_hyps_AcknowledgementExchange :
    (∃ (r : Fin 65536) (s : State), s.core.cle.failQ = [] ∧ s.core.rOpen r = true ∧ s.core.rSend r = true ∧
      s.core.recTimeUp r = true ∧ s.core.rTries r ≠ s.core.fd Reg.FCS_RETRY 7 4) ∧
    (∃ (p : Packet) (rest : List Packet) (id : Nat) (s : State), s.core.frt.ctl = p :: rest ∧ s.core.cle.failQ = [] ∧
      s.core.ctlKind p = .ack id) ∧
    (∃ (p : Packet) (rest : List Packet) (id : Nat) (s : State), s.core.frt.ctl = p :: rest ∧ s.core.cle.failQ = [] ∧
      s.core.ctlKind p = .nack id ∧ s.core.rTries id ≠ s.core.fd Reg.FCS_RETRY 7 4) ∧
    (∃ (p : Packet) (rest : List Packet) (s : State), s.core.frt.ctl = p :: rest ∧ s.core.ctlKind p = .bad) :=
  ⟨⟨65535, up (record 65535 true 1 { fcs := { recT := ({} : SMap Nat).set 0 65535 1 } }), by decide +kernel⟩,
   ⟨ctl 1, [], 65535, up (record 65535 true 1 { frt := { ctl := [ctl 1] } }), by decide +kernel⟩,
   ⟨ctl 2, [], 65535, up (record 65535 true 1 { frt := { ctl := [ctl 2] } }), by decide +kernel⟩,
   ⟨ctl 0xFF, [], up { frt := { ctl := [ctl 0xFF] } }, by decide +kernel⟩⟩

theorem test_hyps_CollectiveContexts :
    (∃ (x : Fin 4096) (s : State), s.answers = true ∧ s.core.fst (.ctx x) = .off ∧
      Core.ctxCheck x (s.core.setFst (.ctx x) .starting stOk) = stOk) ∧
    (∃ (x : Fin 4096) (s : State), s.answers = true ∧ s.core.fst (.ctx x) = .on ∧ s.core.cle.failQ = [] ∧
      (s.core.phase x = 1 ∨ s.core.phase x = 2)) ∧
    (∃ (x : Fin 4096) (s : State), s.answers = true ∧ s.core.fst (.ctx x) = .on ∧ s.core.cle.failQ = [] ∧
      (s.core.phase x = 1 ∨ s.core.phase x = 2)) ∧
    (∃ (x : Fin 4096) (s : State), s.answers = true ∧ s.core.cle.failQ = [] ∧ s.core.cle.park = [] ∧
      (s.core.rkBy Core.rkP x).isSome = false ∧ (s.core.rkBy Core.rkQ x).isSome = false ∧
      s.core.startCheck x (s.core.rd Reg.CLE_START_SEQ) (s.core.fd Reg.CLE_START_PRED 11 0) = stOk ∧
      s.core.predOk (s.core.fd Reg.CLE_START_PRED 11 0) (s.core.rd Reg.CLE_START_PSEQ) = true) ∧
    (∃ (x : Fin 4096) (e : Nat) (s : State), s.answers = true ∧ s.core.cle.failQ = [] ∧
      (s.core.rkBy Core.rkP x).isSome = false ∧ (s.core.rkBy Core.rkQ x).isSome = false ∧
      s.core.startCheck x (s.core.rd Reg.CLE_START_SEQ) (s.core.fd Reg.CLE_START_PRED 11 0) = stOk ∧
      s.core.predOk (s.core.fd Reg.CLE_START_PRED 11 0) (s.core.rd Reg.CLE_START_PSEQ) = false ∧
      s.core.parkSlot = some e) ∧
    (∃ (_ : Word) (s : State), s.answers = true ∧ s.core.fd Reg.CLE_CTX_TBL 23 0 < 131072 ∧
      s.core.fd Reg.CLE_CTX_TBL 23 0 % 32 < 16 ∧ s.core.isOff (.ctx (s.core.fd Reg.CLE_CTX_TBL 23 0 / 32)) = true) :=
  ⟨⟨4095, up (ctxCfg 4095 0 { svc := { churn := 1 } }), by decide +kernel⟩,
   ⟨4095, up ((fns [(.ctx 4095, .on)] {}).putPhase 4095 1), by decide +kernel⟩,
   ⟨0, up ((fns [(.ctx 0, .on)] {}).putPhase 0 2), by decide +kernel⟩,
   ⟨4095, up (regs [(Reg.CLE_START_SEQ, 1), (Reg.CLE_START_PRED, 0xFFF)] ((fns [(.ctx 4095, .on), (.flow 0, .on)]
     (ctxCfg 4095 0 {})).putPhase 4095 1)), by decide +kernel⟩,
   ⟨0, 0, up (regs [(Reg.CLE_START_SEQ, 1), (Reg.CLE_START_PRED, 1)] ((fns [(.ctx 0, .on), (.ctx 1, .on), (.flow 0,
     .on)] (ctxCfg 0 0 {})).putPhase 0 1)), by decide +kernel⟩,
   ⟨0, up (regs [(Reg.CLE_CTX_TBL, 131071 - 16)] {}), by decide +kernel⟩⟩

theorem test_hyps_ChunksGrantedStagedAndReduced :
    (∃ (x : Fin 4096) (s : State), s.core.grantable x = true ∧
      (s.core.takeBuffer { user := .chunkRec x (s.core.cGranted x), owner := s.core.cOwner x, size := 2, mem := 0 }).2.isSome = true) ∧
    (∃ (x : Fin 4096) (c : Nat) (m : Nat) (h : Chunk) (ptr : Nat) (s : State), s.core.chunk x c = some h ∧
      h.phase = .admitted ∧ h.ready2 = true ∧ s.core.fCmode (s.core.cFlow x) = 0 ∧ s.core.cle.failQ = [] ∧
      s.core.reduces x c = true ∧ m ∈ s.core.others x ∧ s.core.slotGot x c m = false ∧
      s.core.partOn (s.core.slotSite x m) = false ∧
      (s.core.takeBuffer { user := .stage x c, owner := s.core.cOwner x, size := 2, mem := 1 }).2 = some ptr) ∧
    (∃ (n : Fin 256) (p : Nat × Nat × Nat) (rest : List (Nat × Nat × Nat)) (h : Chunk) (s : State), s.core.churnOn n
      = true ∧ (s.core.heldBy n).length < 2 ∧ s.core.queueOf (n.val / 16) = p :: rest ∧ s.core.cle.failQ = [] ∧
      s.core.chunk p.1 p.2.1 = some h ∧ h.taken = true ∧ (∀ z ∈ h.slots.cells, z.2.lack = []) ∧
      (∃ z ∈ h.slots.cells, z.2.final = false)) ∧
    (∃ (n : Fin 256) (q : Nat) (p : Nat × Nat × Nat) (l : List (Nat × Nat × Nat)) (h : Chunk) (s : State),
      s.core.churnOn n = true ∧ (s.core.heldBy n).length < 2 ∧ s.core.queueOf (n.val / 16) = [] ∧
      s.core.stealFrom (n.val / 16) = some q ∧ s.core.queueOf q = l ++ [p] ∧ s.core.cle.failQ = [] ∧
      s.core.chunk p.1 p.2.1 = some h ∧ h.taken = true ∧ (∀ z ∈ h.slots.cells, z.2.lack = []) ∧
      (∃ z ∈ h.slots.cells, z.2.final = false)) ∧
    (∃ (n : Fin 256) (mem : Option MemErr) (s : State), s.core.patDue n = true ∧ (s.memErrs mem).core.patDue n = true) ∧
    (∃ (n : Fin 256) (x : Nat) (c : Nat) (p : Nat) (ptr : Nat) (h : Chunk) (bytes : List Byte) (rs : List Rounded) (s
      : State), s.core.roundable n = some (x, c, p) ∧ s.core.chunk x c = some h ∧ h.resPtr = some ptr ∧
      (h.pats.set p .rounded).all (fun q => q == .rounded) = false ∧ s.core.unitOn n = true ∧ s.core.cle.failQ = [] ∧
      encodeElems (s.core.outFmt x) (s.core.resultVals x h (1024 * p) (min 1024 (s.core.chunkElems x c - 1024 * p)))
      = (bytes, rs)) ∧
    (∃ (x : Fin 4096) (c : Nat) (h : Chunk) (s : State), s.core.chunk x c = some h ∧ h.phase = .released ∧
      checkDiff h = 0 ∧ h.status = stOk ∧ s.core.cle.failQ = [] ∧ s.core.cle.suspects = [] ∧ s.core.rkAny x = none) :=
  ⟨⟨0, up (running 0 { bpm := { granted := [(.chunkRec 0 0, 0x3400000)] } }), by decide +kernel⟩,
   ⟨0, 0, 1, { x := 0, c := 0, phase := .admitted, ready2 := true }, 2 ^ 63, up (running
     0 { bpm := { granted := [(.stage 0 0, 2 ^ 63)] }, cle := { chunks := [{ x := 0, c := 0, phase := .admitted, ready2 := true }] } }), by decide +kernel⟩,
   ⟨255, (0, 0, 0), [], { x := 0, c := 0, phase := .ready, taken := true, slots := ({} : SMap CSlot).set {} 1 { present := true }, pats := [.queued 15] }, up { svc := { churn := 2 ^ 255 }, cle := { chunks := [{ x := 0, c := 0, phase := .ready, taken := true, slots := ({} : SMap CSlot).set {} 1 { present := true }, pats := [.queued 15] }], queues := ({} : SMap _).set [] 15 [(0, 0, 0)] } }, by decide +kernel⟩,
   ⟨0, 1, (0, 0, 0), [], { x := 0, c := 0, phase := .ready, taken := true, slots := ({} : SMap CSlot).set {} 1 { present := true }, pats := [.queued 15] }, up (regs [(Reg.CLE_STEAL, 1)] { svc := { churn := 1 + 2 ^ 16 }, cle := { chunks := [{ x := 0, c := 0, phase := .ready, taken := true, slots := ({} : SMap CSlot).set {} 1 { present := true }, pats := [.queued 15] }], queues := ({} : SMap _).set [] 1 [(0, 0, 0)] } }), by decide +kernel⟩,
   ⟨255, some { sram := true, addr := 0, ue := false, cls := 0 },
     up { svc := { churn := 2 ^ 255, sram := 1 }, cle := { chunks := [{ x := 0, c := 0, phase := .ready, taken := true, slots := ({} : SMap CSlot).set {} 1 { present := true }, pats := [.queued 15] }], queues := ({} : SMap _).set [] 15 [(0, 0, 0)] } }, by decide +kernel⟩,
   ⟨255, 0, 0, 0, 0, { x := 0, c := 0, phase := .ready, decided := true, pats := [.held 255, .queued 0], resPtr := some 0 }, [], [], up { svc := { churn := 2 ^ 255 }, cle := { chunks := [{ x := 0, c := 0, phase := .ready, decided := true, pats := [.held 255, .queued 0], resPtr := some 0 }] } }, by decide +kernel⟩,
   ⟨0, 0, { x := 0, c := 0, phase := .released },
     up { cle := { chunks := [{ x := 0, c := 0, phase := .released }] } }, by decide +kernel⟩⟩

theorem test_hyps_CollectivesThatFail :
    (∃ (x : Fin 4096) (c : Nat) (h : Chunk) (s : State), s.core.chunk x c = some h ∧ h.phase = .staged ∧
      s.core.reduces x c = true ∧ s.core.fCmode (s.core.cFlow x) ≠ 3 ∧ h.admT + 100000 * s.core.cTmo x ≤ s.core.now ∧
      (∀ m ∈ s.core.others x, s.core.slotGot x c m = true ∨ s.core.partOn (s.core.slotSite x m) = true) ∧
      s.core.cle.failQ = []) ∧
    (∃ (x : Fin 4096) (c : Nat) (m : Nat) (h : Chunk) (s : State), s.core.chunk x c = some h ∧ h.phase = .staged ∧
      s.core.reduces x c = true ∧ s.core.fCmode (s.core.cFlow x) ≠ 3 ∧ h.admT + 100000 * s.core.cTmo x ≤ s.core.now ∧
      m ∈ s.core.others x ∧ s.core.slotGot x c m = false ∧ s.core.partOn (s.core.slotSite x m) = false ∧
      s.core.fst (.ctx x) = .on) ∧
    (∃ (x : Fin 4096) (c : Nat) (h : Chunk) (s : State), s.core.chunk x c = some h ∧ h.phase = .staged ∧
      s.core.reduces x c = false ∧ s.core.fCmode (s.core.cFlow x) ≠ 3 ∧
      h.admT + 200000 * s.core.cTmo x ≤ s.core.now ∧
      s.core.partOn (s.core.slotSite x (s.core.ownerSlot x c)) = true ∧ s.core.cle.failQ = [] ∧ s.core.rkAny x = none) ∧
    (∃ (x : Fin 4096) (p : Park) (s : State), s.core.cle.park.find? (fun q => q.x == x.val) = some p ∧
      p.t + 1000000 * s.core.fd Reg.CLE_PARK 31 16 ≤ s.core.now ∧ s.core.fst (.ctx x) = .on) ∧
    (∃ (x : Fin 4096) (s : State), s.core.fst (.ctx x) = .draining ∧ (s.core.fn (.ctx x)).pend = false ∧
      (s.core.fn (.ctx x)).since + 200000 * s.core.cTmo x ≤ s.core.now ∧ s.core.cle.failQ = []) ∧
    (∃ (p : Packet) (rest : List Packet) (s : State), s.core.frt.ctl = p :: rest ∧ s.core.ctlKind p = .abort ∧
      (s.core.jobCtxs (beNat (slice p.payload 2 2)) (beNat (slice p.payload 4 2))).any (fun x => s.core.cNotify x ==
      hSrc p.hdr) = false ∧ s.core.cle.failQ = []) ∧
    (∃ (p : Packet) (rest : List Packet) (s : State), s.core.frt.ctl = p :: rest ∧ s.core.ctlKind p = .abort ∧
      (s.core.jobCtxs (beNat (slice p.payload 2 2)) (beNat (slice p.payload 4 2))).any (fun x => s.core.cNotify x ==
      hSrc p.hdr) = true ∧ s.core.cle.aborts.contains (beNat (slice p.payload 2 2), beNat (slice p.payload 4 2)) =
      false ∧ byteAt p.payload 1 ≤ stDenied) :=
  ⟨⟨0, 0, { x := 0, c := 0, phase := .staged }, up (clk 100000 (running
     0 { site := { part := 2 }, cle := { chunks := [{ x := 0, c := 0, phase := .staged }] } })), by decide +kernel⟩,
   ⟨0, 0, 1, { x := 0, c := 0, phase := .staged }, up (clk 100000 (running
     0 { cle := { chunks := [{ x := 0, c := 0, phase := .staged }] } })), by decide +kernel⟩,
   ⟨0, 1, { x := 0, c := 1, phase := .staged }, up (clk 200000 (running
     1 { site := { part := 2 }, cle := { chunks := [{ x := 0, c := 1, phase := .staged }] } })), by decide +kernel⟩,
   ⟨4095, { e := 255, x := 4095, seq := 1, step := 0, predCtx := 1, predSeq := 0, elems := 0, due := none, t := 0 },
     up (clk (10 ^ 12) (fns [(.ctx 4095,
     .on)] { cle := { park := [{ e := 255, x := 4095, seq := 1, step := 0, predCtx := 1, predSeq := 0, elems := 0, due := none, t := 0 }] } })), by decide +kernel⟩,
   ⟨0, up (clk 200000 (fns [(.ctx 0, .draining)] (ctxCfg 0 0 {}))), by decide +kernel⟩,
   ⟨ctl 0x11, [], up { frt := { ctl := [ctl 0x11] } }, by decide +kernel⟩,
   ⟨ctl 0x11, [], up (fns [(.ctx 0, .on)] { frt := { ctl := [ctl 0x11] } }), by decide +kernel⟩⟩

theorem test_hyps_ClassTablesAndRankDescriptors :
    (∃ (c : Fin 16) (b : Fin 2) (s : State), s.answers = true ∧ (s.core.bank c b).valid = true) ∧
    (∃ (c : Fin 16) (b : Fin 2) (s : State), s.answers = true ∧ s.core.bankFree c b = true) ∧
    (∃ (v : Word) (c : Fin 16) (b : Fin 2) (s : State), s.answers = true ∧
      s.core.fd Reg.XFM_CLS_TBL 23 0 = 256 * (2 * c.val + b.val) ∧ bitAt v.toNat 31 = true ∧
      (s.core.bankCounts c b).sum = 2048 ∧ fld v.toNat 5 4 ≠ 3 ∧
      ((s.core.bank c (1 - b.val)).valid = false ∨ s.core.bankGen c (1 - b.val) ≠ fld v.toNat 3 0)) ∧
    (∃ (v : Word) (d : Fin 64) (s : State), s.answers = true ∧ s.core.fd Reg.XFM_RANK_TBL 23 0 = 16 * d.val ∧
      bitAt v.toNat 31 = true ∧ s.core.rankCheck d v.toNat = stOk) ∧
    (∃ (c : Fin 16) (b : Fin 2) (s : State), (s.core.bank c b).held = true ∧
      (s.core.bank c b).lastT + 100000 * s.core.fd Reg.XFM_GEN_HOLD 15 0 ≤ s.core.now) :=
  ⟨⟨15, 1, up (({} : Core).setBank 15 1 { valid := true }), by decide +kernel⟩,
   ⟨15, 1, up {}, by decide +kernel⟩,
   ⟨0x80000000, 15, 1, up (regs [(Reg.XFM_CLS_TBL, 256 * 31)] (tbls [(Reg.XFM_CLS_TBL, 256 * 31 + 1, 0x800)] {})),
     by decide +kernel⟩,
   ⟨0x80040001, 63, up (regs [(Reg.XFM_RANK_TBL, 16 * 63)] (tbls [(Reg.XFM_RANK_TBL, 16 * 63 + 1, 0x3002),
     (Reg.XFM_RANK_TBL, 16 * 63 + 2, 4), (Reg.XFM_RANK_TBL, 16 * 63 + 3, 4), (Reg.XFM_RANK_TBL, 16 * 63 + 6,
     0x100000)] { hbc := { stackMask := 1 } })), by decide +kernel⟩,
   ⟨15, 1, up (clk (10 ^ 12) (({} : Core).setBank 15 1 { held := true })), by decide +kernel⟩⟩

theorem test_hyps_TransformUnitsWork :
    (∃ (u : Fin 32) (b : XBlk) (rest : List XBlk) (g : XSeg) (s : State), bitAt s.core.svc.skim u = true ∧
      s.core.unitOn (272 + u) = true ∧ s.core.xfm.skimQ = b :: rest ∧ s.core.xseg b.seg = some g ∧
      g.done.length + 1 < g.n ∧ s.core.cle.failQ = []) ∧
    (∃ (u : Fin 32) (b : XBlk) (g : XSeg) (s : State), bitAt s.core.svc.expd u = true ∧
      s.core.unitOn (304 + u) = true ∧ s.core.expPick u = some (b, false) ∧ b.psn = false ∧
      s.core.xseg b.seg = some g ∧ (∀ x c, g.use ≠ .gBack x c) ∧ g.done.length + 1 < g.n ∧ s.core.cle.failQ = []) ∧
    (∃ (u : Fin 32) (b : XBlk) (g : XSeg) (s : State), bitAt s.core.svc.expd u = true ∧
      s.core.unitOn (304 + u) = true ∧ s.core.expPick u = some (b, true) ∧ b.psn = false ∧
      s.core.xseg b.seg = some g ∧ (∀ x c, g.use ≠ .gBack x c) ∧ g.done.length + 1 < g.n ∧ s.core.cle.failQ = []) ∧
    (∃ (u : Fin 16) (f : Nat) (x : Nat) (c : Nat) (b : XBlk) (g : XSeg) (h : Chunk) (s : State), bitAt
      s.core.svc.press u = true ∧ s.core.unitOn (256 + u) = true ∧
      rrPick 16384 s.core.xfm.rrPress (fun g => s.core.xfm.pressQ.any (fun b => b.flow == g && s.core.pressNext b)) =
      some f ∧ s.core.xfm.pressQ.find? (fun b => b.flow == f && s.core.pressNext b) = some b ∧
      s.core.xseg b.seg = some g ∧ g.use = .contrib x c ∧ g.done.length + 1 < g.n ∧ s.core.chunk x c = some h ∧
      s.core.cle.failQ = []) ∧
    (∃ (d : Fin 64) (s : State), (s.core.rank d).round = 3) :=
  ⟨⟨31, { flow := 0, seg := 0, idx := 0, data := [] }, [], { id := 0, flow := 0, use := .msgOut 0 0 0 0, n := 2 },
     up { svc := { skim := 2 ^ 31 }, xfm := { skimQ := [{ flow := 0, seg := 0, idx := 0, data := [] }], segs := [{ id := 0, flow := 0, use := .msgOut 0 0 0 0, n := 2 }] } }, by decide +kernel⟩,
   ⟨31, { flow := 31, seg := 0, idx := 0, data := [] }, { id := 0, flow := 0, use := .msgIn 0, n := 2 },
     up { svc := { expd := 2 ^ 31 }, xfm := { expQ := [{ flow := 31, seg := 0, idx := 0, data := [] }], segs := [{ id := 0, flow := 0, use := .msgIn 0, n := 2 }] } }, by decide +kernel, by decide +kernel, by decide +kernel, rfl, by decide +kernel, fun _ _ h => (by cases h), by decide, rfl⟩,
   ⟨31, { flow := 0, seg := 0, idx := 0, data := [] }, { id := 0, flow := 0, use := .msgIn 0, n := 2 },
     up { svc := { expd := 2 ^ 31 }, xfm := { expQ := [{ flow := 0, seg := 0, idx := 0, data := [] }], segs := [{ id := 0, flow := 0, use := .msgIn 0, n := 2 }] } }, by decide +kernel, by decide +kernel, by decide +kernel, rfl, by decide +kernel, fun _ _ h => (by cases h), by decide, rfl⟩,
   ⟨15, 16383, 0, 0, { flow := 16383, seg := 0, idx := 0, data := [] }, { id := 0, flow := 0, use := .contrib 0 0, n := 2 }, { x := 0, c := 0, phase := .admitted }, up { svc := { press := 2 ^ 15 }, cle := { chunks := [{ x := 0, c := 0, phase := .admitted }] }, xfm := { rrPress := 16383, pressQ := [{ flow := 16383, seg := 0, idx := 0, data := [] }], segs := [{ id := 0, flow := 0, use := .contrib 0 0, n := 2 }] } }, by decide +kernel⟩,
   ⟨63, up (({} : Core).setRank 63 { round := 3 }), by decide +kernel⟩⟩

theorem test_hyps_PoolsAndBuffers :
    (∃ (p : Fin 64) (s : State), s.answers = true ∧ s.core.fst (.pool p) = .off ∧
      Core.poolCheck p (s.core.setFst (.pool p) .starting stOk) = stOk) ∧
    (∃ (p : Fin 64) (s : State), s.answers = true ∧ s.core.fst (.pool p) = .on ∧ (s.core.fn (.pool p)).pend = false) ∧
    (∃ (p : Fin 64) (o : Fin 64) (s : State), s.answers = true ∧ s.core.fst (.pool p) = .on ∧
      s.core.mayTake p o = true) ∧
    (∃ (p : Fin 64) (o : Fin 64) (s : State), s.answers = true ∧ s.core.fst (.pool p) = .on ∧
      s.core.mayTake p o = false) ∧
    (∃ (v : Word) (ptr : Nat) (s : State), s.answers = true ∧
      ptr = 2 ^ 63 * fld v.toNat 31 31 + 2 ^ 32 * fld v.toNat 5 0 + s.core.rd Reg.BPM_FREE_LO ∧
      s.core.ptrCheck ptr (fld v.toNat 21 16) = stOk) ∧
    (∃ (v : Word) (ptr : Nat) (s : State), s.answers = true ∧
      ptr = 2 ^ 63 * fld v.toNat 31 31 + 2 ^ 32 * fld v.toNat 5 0 + s.core.rd Reg.BPM_FREE_LO ∧
      s.core.ptrCheck ptr (fld v.toNat 21 16) ≠ stOk) ∧
    (∃ (o : Nat) (p : Nat) (x : Nat) (c : Nat) (r : BufReq) (s : State), p < 64 ∧
      (∀ q, q < p → s.core.poolPick q = none) ∧
      rrPick 64 (s.core.bpm.rr.get 0 p) (fun o => (s.core.waitServable p o true).isSome) = some o ∧
      s.core.waitServable p o true = some r ∧ r.user = .stage x c ∧ s.core.cle.failQ = []) :=
  ⟨⟨63, up (tbls [(Reg.BPM_POOL_TBL, 4 * 63, 0x20000000), (Reg.BPM_POOL_TBL, 4 * 63 + 1, 0x3400000),
     (Reg.BPM_POOL_TBL, 4 * 63 + 3, 1)] { svc := { sram := 833 } }), by decide +kernel⟩,
   ⟨63, up (fns [(.pool 63, .on)] {}), by decide +kernel⟩,
   ⟨0, 63, up (tbls [(Reg.BPM_OWN_TBL, 127, 1)] (pooled 2 {})), by decide +kernel⟩,
   ⟨0, 0, up (pooled 1 {}), by decide +kernel⟩,
   ⟨0, 0x3400000, up (regs [(Reg.BPM_FREE_LO, 0x3400000)] (pooled 1 {})), by decide +kernel⟩,
   ⟨0x3F0000, 0x3400000, up (regs [(Reg.BPM_FREE_LO, 0x3400000)] (pooled 1 {})), by decide +kernel⟩,
   ⟨63, 0, 0, 0, { user := .stage 0 0, owner := 63, size := 2, mem := 0 }, up (tbls [(Reg.BPM_OWN_TBL, 126, 1),
     (Reg.BPM_OWN_TBL, 127, 1), (Reg.BPM_POOL_TBL, 0, 0x20000000), (Reg.BPM_POOL_TBL, 1, 0x3400000),
     (Reg.BPM_POOL_TBL, 3, 1)] (fns [(.pool 0,
     .on)] { bpm := { waits := [{ user := .stage 0 0, owner := 63, size := 2, mem := 0 }] } })), by decide +kernel⟩⟩

theorem test_hyps_DeepMemoryErrorsAndRetirement :
    (∃ (k : Fin 8) (j : Fin 32) (s : State), s.answers = true ∧ bitAt s.core.svc.stackSet k = true ∧
      s.core.hbc.retired.get 0 j = 0 ∧ s.core.hbmStacks ≠ 0 ∧ s.core.liveFlows = [] ∧ s.core.cle.failQ = []) ∧
    (∃ (k : Fin 8) (_ : Fin 32) (s : State), s.answers = true ∧ bitAt s.core.svc.stackSet k = false) ∧
    (∃ (_ : Nat) (_ : Nat) (_ : Nat) (_ : Nat) (s : State), s.core.svc.sram ≠ 0) ∧
    (∃ (_ : Nat) (_ : Nat) (_ : Nat) (_ : Nat) (s : State), s.core.svc.sram ≠ 0 ∧ 0x3400000 ≤ s.core.hbc.sramPos) ∧
    (∃ (k : Fin 8) (j : Fin 32) (bg : Nat) (bank : Nat) (row : Nat) (found : List MemErr) (s : State) (r : State),
      s.core.remapDue k j bg bank row = true ∧ r = s.rowRead k j bg bank row found ∧
      r.core.remapDue k j bg bank row = true) ∧
    (∃ (k : Fin 8) (j : Fin 32) (bg : Nat) (bank : Nat) (row : Nat) (found : List MemErr) (s : State) (r : State),
      s.core.remapDue k j bg bank row = true ∧ r = s.rowRead k j bg bank row found ∧
      r.core.remapDue k j bg bank row = true ∧ r.core.hbmStacks ≠ 0 ∧ r.core.liveFlows = [] ∧ r.core.cle.failQ = []) ∧
    (∃ (k : Fin 8) (s : State), bitAt s.core.svc.stackSet k = true ∧ s.core.isOn .hbc = true ∧ s.core.cle.failQ = []) :=
  ⟨⟨7, 31, up { svc := { stackSet := 128 }, hbc := { stackMask := 1 } }, by decide +kernel⟩,
   ⟨7, 31, up {}, by decide +kernel⟩,
   ⟨0, 3, 3, 0, up { svc := { sram := 1 } }, by decide +kernel⟩,
   ⟨0, 3, 3, 0, up { svc := { sram := 1 }, hbc := { sramPos := 0x3400000 } }, by decide +kernel⟩,
   ⟨7, 31, 3, 3, 0, [],
     up { svc := { stackSet := 128 }, hbc := { stackMask := 2, rowDue := ({} : SMap Nat).set 0 (rowKey 7 31 3 3 0) 1 } }, up { svc := { stackSet := 128 }, hbc := { stackMask := 2, rowDue := ({} : SMap Nat).set 0 (rowKey 7 31 3 3 0) 1 } }, by decide +kernel⟩,
   ⟨7, 31, 3, 3, 0, [],
     up { svc := { stackSet := 128 }, hbc := { stackMask := 2, rowDue := ({} : SMap Nat).set 0 (rowKey 7 31 3 3 0) 1 } }, up { svc := { stackSet := 128 }, hbc := { stackMask := 2, rowDue := ({} : SMap Nat).set 0 (rowKey 7 31 3 3 0) 1 } }, by decide +kernel⟩,
   ⟨7, up (fns [(.hbc, .on)] { svc := { stackSet := 128 } }), by decide +kernel⟩⟩

theorem test_hyps_KeySlotsLoadedSwitchedRetired :
    (∃ (_ : Fin 4096) (_ : Fin 2) (s : State), s.answers = true ∧ s.core.kbusy = false) ∧
    (∃ (_ : Fin 4096) (_ : Fin 2) (s : State), s.answers = true ∧ s.core.kbusy = true) ∧
    (∃ (c : KCmd) (b : KeyBlob) (u : State) (q : Nat) (s : State), s.core.cip.kcmd = some c ∧
      s.core.cip.writes.any (fun w => w.op == .load) = false ∧ s.core.slotBusy c.slot = false ∧
      s.loadCheck c.slot c.pos (padTo 64 s.core.cip.blob) = (stOk, some b) ∧ s.takeSeq = some (u, q)) ∧
    (∃ (c : KCmd) (s : State), s.core.cip.kcmd = some c ∧ s.core.cip.writes.any (fun w => w.op == .load) = false ∧
      s.core.slotBusy c.slot = true ∧ (s.loadCheck c.slot c.pos (padTo 64 s.core.cip.blob)).1 = stOk) ∧
    (∃ (c : KCmd) (s : State), s.core.cip.kcmd = some c ∧ s.core.cip.writes.any (fun w => w.op == .load) = false ∧
      (s.loadCheck c.slot c.pos (padTo 64 s.core.cip.blob)).2 = none) ∧
    (∃ (i : Fin 4096) (p : Fin 2) (s : State), s.answers = true ∧ s.core.kbusy = false ∧
      ((s.core.kslot i).pos p).loaded = true ∧ (s.core.kslot i).txPos ≠ p.val ∧
      s.core.peersIn i (s.core.kslot i).ready = true ∧ s.core.slotBusy i = true) ∧
    (∃ (i : Fin 4096) (p : Fin 2) (s : State), s.answers = true ∧ s.core.kbusy = false ∧
      ((s.core.kslot i).pos p).loaded = true ∧ (s.core.kslot i).txPos ≠ p.val ∧
      s.core.peersIn i (s.core.kslot i).ready = true ∧ s.core.slotBusy i = false) ∧
    (∃ (i : Fin 4096) (p : Fin 2) (s : State), s.answers = true ∧ s.core.kbusy = false ∧
      ((s.core.kslot i).pos p).loaded = false) ∧
    (∃ (i : Fin 4096) (p : Fin 2) (s : State), s.answers = true ∧ s.core.kbusy = false ∧ s.core.slotBusy i = false ∧
      ((s.core.kslot i).pos p).loaded = true ∧ ((s.core.kslot i).pos p).held = false ∧ (s.core.kslot i).txPos ≠ p.val) ∧
    (∃ (i : Fin 4096) (s : State), s.answers = true ∧ s.core.slotFlows i = [] ∧ s.core.slotGroups i = [] ∧
      s.core.cle.failQ = []) ∧
    (∃ (i : Fin 4096) (p : Fin 2) (s : State), ((s.core.kslot i).pos p).loaded = true ∧
      ((s.core.kslot i).pos p).held = true ∧ ((s.core.kslot i).pos p).lastArr + s.core.keyHold ≤ s.core.now ∧
      s.core.slotBusy i = false) ∧
    (∃ (g : Fin 8) (m : List Byte × Nat) (rest : List (List Byte × Nat)) (s : State), (s.core.grp g).gccIn = m ::
      rest ∧ byteAt m.1 0 = 0x31) ∧
    (∃ (g : Fin 8) (m : List Byte × Nat) (rest : List (List Byte × Nat)) (s : State), (s.core.grp g).gccIn = m ::
      rest ∧ byteAt m.1 0 = 0x32) :=
  ⟨⟨4095, 1, up {}, by decide +kernel⟩,
   ⟨4095, 1, up { cip := { kcmd := some { slot := 0, pos := 0, status := 0 } } }, by decide +kernel⟩,
   ⟨{ slot := 4095, pos := 1, status := 0 }, { key := BitVec.ofNat 256 0x101010101010101010101010101010101010101010101010101010101010101, salt := 0, keyId := 7, owner := 3, purpose := 0 }, ((loading.takeSeq).get (by decide +kernel)).1, 0, loading, by decide +kernel⟩,
   ⟨{ slot := 4095, pos := 1, status := 0 }, { loading with core := { loading.core with cip := { loading.core.cip with cores := ({} : SMap _).set none 159 (some { req := { op := 1, slot := 4095, epoch := 0, owner := 0, flow := 0, use := .msgOut 0 0 0 0 0 }, pos := 0, out := [], ok := true }) } } }, by decide +kernel⟩,
   ⟨{ slot := 4095, pos := 1, status := 0 }, up { cip := { kcmd := some { slot := 4095, pos := 1, status := 0 } } },
     by decide +kernel⟩,
   ⟨4095, 1, up (({ cip := { cores := ({} : SMap _).set none 159 (some { req := { op := 1, slot := 4095, epoch := 0, owner := 0, flow := 0, use := .msgOut 0 0 0 0 0 }, pos := 0, out := [], ok := true }) } } : Core).setKslot 4095 { p1 := { loaded := true } }), by decide +kernel⟩,
   ⟨4095, 1, up (({} : Core).setKslot 4095 { p1 := { loaded := true } }), by decide +kernel⟩,
   ⟨4095, 1, up {}, by decide +kernel⟩,
   ⟨4095, 1, up (({} : Core).setKslot 4095 { p1 := { loaded := true } }), by decide +kernel⟩,
   ⟨4095, up {}, by decide +kernel⟩,
   ⟨4095, 1, up (clk (10 ^ 12) (({} : Core).setKslot 4095 { p1 := { loaded := true, held := true } })),
     by decide +kernel⟩,
   ⟨7, ([0x31], 0), [], up (({} : Core).setGrp 7 { gccIn := [([0x31], 0)] }), by decide +kernel⟩,
   ⟨7, ([0x32], 0), [], up (({} : Core).setGrp 7 { gccIn := [([0x32], 0)] }), by decide +kernel⟩⟩

theorem test_hyps_CipherRequests :
    (∃ (n : Fin 160) (q : Nat) (r : Req) (rest : List Req) (s : State), bitAt s.core.svc.ciph n = true ∧
      s.core.cip.cores.get none n = none ∧ rrPick 16 s.core.cip.rr s.core.queueReady = some q ∧
      s.core.reqQ q = r :: rest ∧ (s.core.reqCheck r).1 = stOk ∧ r.op ≠ 3 ∧ s.core.cle.failQ = []) ∧
    (∃ (n : Fin 160) (q : Nat) (r : Req) (rest : List Req) (s : State), bitAt s.core.svc.ciph n = true ∧
      s.core.cip.cores.get none n = none ∧ rrPick 16 s.core.cip.rr s.core.queueReady = some q ∧
      s.core.reqQ q = r :: rest ∧ (s.core.reqCheck r).1 ≠ stOk ∧ r.op = 1 ∧ s.core.cle.failQ = []) ∧
    (∃ (n : Fin 160) (x : Run) (s : State), s.core.cip.cores.get none n = some x ∧ x.req.op = 1 ∧
      s.core.unitOn (336 + n.val) = true ∧ s.core.cle.failQ = [] ∧ s.core.cle.suspects = [] ∧ s.core.cip.writes = []) :=
  ⟨⟨159, 7, { op := 1, slot := 0, epoch := 0, owner := 0, flow := 0, use := .msgOut 0 0 0 0 0 }, [], up (keyed
     0 { svc := { ciph := 2 ^ 159 }, cip := { queues := ({} : SMap _).set [] 7 [{ op := 1, slot := 0, epoch := 0, owner := 0, flow := 0, use := .msgOut 0 0 0 0 0 }] } }), by decide +kernel⟩,
   ⟨159, 7, { op := 1, slot := 1, epoch := 0, owner := 0, flow := 0, use := .msgOut 0 0 0 0 0 }, [], up (keyed
     0 { svc := { ciph := 2 ^ 159 }, cip := { queues := ({} : SMap _).set [] 7 [{ op := 1, slot := 1, epoch := 0, owner := 0, flow := 0, use := .msgOut 0 0 0 0 0 }] } }), by decide +kernel⟩,
   ⟨159, { req := { op := 1, slot := 0, epoch := 0, owner := 0, flow := 0, use := .msgOut 0 0 0 0 0 }, pos := 0, out := [], ok := true }, up { svc := { ciph := 2 ^ 159 }, cip := { cores := ({} : SMap _).set none 159 (some { req := { op := 1, slot := 0, epoch := 0, owner := 0, flow := 0, use := .msgOut 0 0 0 0 0 }, pos := 0, out := [], ok := true }) } }, by decide +kernel⟩⟩

theorem test_hyps_SchedulerHandsOverAndSelects :
    (∃ (g : Fin 8) (i : Item) (rest : List Item) (s : State), s.core.cip.hand.get [] g = i :: rest ∧
      s.core.siteOk i.ver (s.core.useSite i.use) g (shFlow i.hdr) = true ∧ s.core.groupItems g < 16384 ∧
      ((s.core.schg g).queue i.q).length < s.core.qLimit g i.q ∧ s.core.fst (.group g) ≠ .draining) ∧
    (∃ (g : Fin 8) (i : Item) (rest : List Item) (s : State), s.core.cip.hand.get [] g = i :: rest ∧
      s.core.siteOk i.ver (s.core.useSite i.use) g (shFlow i.hdr) = false) ∧
    (∃ (g : Fin 8) (i : Item) (rest : List Item) (s : State), s.core.cip.hand.get [] g = i :: rest ∧
      s.core.siteOk i.ver (s.core.useSite i.use) g (shFlow i.hdr) = true ∧
      (16384 ≤ s.core.groupItems g ∨ s.core.qLimit g i.q ≤ ((s.core.schg g).queue i.q).length) ∧
      s.core.cip.handWait.get 0 g ≠ 1 ∧ s.core.fst (.group g) ≠ .draining) ∧
    (∃ (g : Fin 8) (s : State), s.core.cip.hand.get [] g = [] ∧ s.core.fst (.group g) ≠ .draining) ∧
    (∃ (g : Fin 8) (p : Nat × Nat) (q : Nat) (i : Item) (rest : List Item) (s : State), s.core.fst (.group g) = .on ∧
      (s.core.grp g).resend.all (fun r => decide (s.core.now ≤ r.t + s.core.retryEff)) = true ∧
      (s.core.schg g).endRow ≤ s.core.nextRow g ∧ p = s.core.nextPlace g ∧
      (s.core.slotClass g (slotOf (s.core.placeTime g p / 65536)) ≠ 2 ∨ (s.core.grp g).resend = []) ∧
      (s.core.countNoFit g (s.core.placeTime g p / 65536) (s.core.dataIn g p.1)).pickQueue g (s.core.placeTime g p /
      65536) (s.core.dataIn g p.1) = some q ∧ ((s.core.countNoFit g (s.core.placeTime g p / 65536) (s.core.dataIn g
      p.1)).schg g).queue q = i :: rest) ∧
    (∃ (g : Fin 8) (p : Nat × Nat) (s : State), s.core.fst (.group g) = .on ∧
      (s.core.grp g).resend.all (fun r => decide (s.core.now ≤ r.t + s.core.retryEff)) = true ∧
      (s.core.schg g).endRow ≤ s.core.nextRow g ∧ p = s.core.nextPlace g ∧
      (s.core.slotClass g (slotOf (s.core.placeTime g p / 65536)) ≠ 2 ∨ (s.core.grp g).resend = []) ∧
      (s.core.countNoFit g (s.core.placeTime g p / 65536) (s.core.dataIn g p.1)).pickQueue g (s.core.placeTime g p /
      65536) (s.core.dataIn g p.1) = none) ∧
    (∃ (g : Fin 8) (p : Nat × Nat) (r : Resend) (rest : List Resend) (s : State), s.core.fst (.group g) = .on ∧
      (s.core.grp g).resend.all (fun r => decide (s.core.now ≤ r.t + s.core.retryEff)) = true ∧
      (s.core.schg g).endRow ≤ s.core.nextRow g ∧ p = s.core.nextPlace g ∧ s.core.dataIn g p.1 ≠ 0 ∧
      s.core.slotClass g (slotOf (s.core.placeTime g p / 65536)) = 2 ∧ (s.core.grp g).resend = r :: rest) ∧
    (∃ (g : Fin 8) (r : Resend) (s : State), (s.core.grp g).resend = [r] ∧ r.t + s.core.retryEff < s.core.now ∧
      s.core.nextRow g < (s.core.schg g).endRow ∧ s.core.fst (.group g) = .on) ∧
    (∃ (g : Fin 8) (s : State), s.core.fst (.group g) = .draining ∧ (s.core.fn (.group g)).pend = false ∧
      (s.core.fn (.group g)).since + 100000000 ≤ s.core.now) :=
  ⟨⟨0, item, [], up (siteUp { cip := { hand := ({} : SMap _).set [] 0 [item] } }), by decide +kernel⟩,
   ⟨0, item, [], up { cip := { hand := ({} : SMap _).set [] 0 [item] } }, by decide +kernel⟩,
   ⟨0, item, [], up (tbls [(Reg.SCH_QCFG_TBL, 0, 0x80000000)]
     (siteUp { cip := { hand := ({} : SMap _).set [] 0 [item] } })), by decide +kernel⟩,
   ⟨7, up {}, by decide +kernel⟩,
   ⟨0, (0, 0), 0, item, [], up ((siteUp (({} : Core).setGrp 0 { txSvc := 1 })).setSchg
     0 { qs := ({} : SMap _).set [] 0 [item] }), by decide +kernel⟩,
   ⟨0, (0, 0), up (siteUp (({} : Core).setGrp 0 { txSvc := 1 })), by decide +kernel⟩,
   ⟨0, (304, 1), { seg := { hdr := [], ct := [], ke := 0, grp := false }, id := 0, gseq := 0, t := 0 }, [], up (clk
     24904 ((siteUp {}).setGrp
     0 { txSvc := 1, resend := [{ seg := { hdr := [], ct := [], ke := 0, grp := false }, id := 0, gseq := 0, t := 0 }] })), by decide +kernel⟩,
   ⟨0, { seg := { hdr := [], ct := [], ke := 0, grp := false }, id := 0, gseq := 0, t := 0 }, up (clk (10 ^ 10)
     (((siteUp {}).setGrp
     0 { resend := [{ seg := { hdr := [], ct := [], ke := 0, grp := false }, id := 0, gseq := 0, t := 0 }] }).setSchg
     0 { endRow := 2 ^ 40 })), by decide +kernel⟩,
   ⟨7, up (clk 100000000 (fns [(.group 7, .draining)] {})), by decide +kernel⟩⟩

theorem test_hyps_GateListsAndQueueSamples :
    (∃ (g : Fin 8) (b : Fin 2) (s : State), s.answers = true ∧ (s.core.schg g).act.map Prod.fst ≠ some b.val ∧
      (s.core.schg g).armed ≠ some (1 - b.val) ∧ s.core.gclOk g b = true ∧ s.core.gclBase g b % 8 = 0 ∧
      s.core.gns + 10000 ≤ s.core.gclBase g b) ∧
    (∃ (g : Fin 8) (b : Fin 2) (s : State), s.answers = true ∧ (s.core.schg g).act.map Prod.fst = some b.val) ∧
    (∃ (_ : Fin 8) (_ : Fin 2) (s : State), s.answers = true) ∧
    (∃ (g : Fin 8) (b : Nat) (s : State), (s.core.schg g).armed = some b ∧ s.core.gclBase g b ≤ s.core.gns) ∧
    (∃ (g : Fin 8) (l : List (Nat × Nat)) (s : State), s.answers = true ∧
      l = (if (s.core.schg g).sampT = s.core.gns / 1000 + 1 then (s.core.schg g).samp else [])) ∧
    (∃ (g : Fin 8) (l : List (Nat × Nat)) (s : State), s.answers = true ∧
      l = (if (s.core.schg g).sampT = s.core.gns / 1000 + 1 then (s.core.schg g).samp else [])) ∧
    (∃ (g : Fin 8) (_ : Fin 64) (s : State), s.core.fst (.group g) ≠ .off ∧ (s.core.schg g).sampT ≤ s.core.gns / 1000) :=
  ⟨⟨7, 1, up (gates {}), by decide +kernel⟩,
   ⟨7, 1, up (({} : Core).setSchg 7 { act := some (1, 0) }), by decide +kernel⟩,
   ⟨7, 1, up {}, by decide +kernel⟩,
   ⟨7, 1, up (clk 10000 (gates (({} : Core).setSchg 7 { armed := some 1 }))), by decide +kernel⟩,
   ⟨7, [], up {}, by decide +kernel⟩,
   ⟨7, [(511, 32 * 511 + 31)], up (({} : Core).setSchg 7 { sampT := 1, samp := [(511, 32 * 511 + 31)] }),
     by decide +kernel⟩,
   ⟨7, 63, up (fns [(.group 7, .on)] {}), by decide +kernel⟩⟩

theorem test_hyps_TimeSourcesAndStates :
    (∃ (s : State), s.answers = true ∧ s.core.fst .timeXfer = .off) ∧
    (∃ (s : State), s.answers = true ∧ s.core.fst .timeXfer = .on ∧ (s.core.fn .timeXfer).pend = false) ∧
    (∃ (udp : Bool) (d : Nat) (_ : PtpMsg) (s : State), (s.core.fd Reg.TBS_CFG 26 20 ≠ d ∨ bitAt (s.core.rd
      Reg.TBS_CFG) 19 ≠ udp)) ∧
    (∃ (udp : Bool) (d : Nat) (_ : PtpMsg) (s : State), (s.core.fd Reg.TBS_CFG 26 20 ≠ d ∨ bitAt (s.core.rd
      Reg.TBS_CFG) 19 ≠ udp)) ∧
    (∃ (_ : Nat) (_ : Nat) (_ : List Nat) (udp : Bool) (s : State), s.takesTime = true ∧ s.core.timeSrc ≠ 1 ∧
      bitAt (s.core.rd Reg.TBS_CFG) 19 = udp) ∧
    (∃ (src : Nat) (_ : Nat) (udp : Bool) (s : State), s.takesTime = true ∧ s.core.timeSrc ≠ 1 ∧
      bitAt (s.core.rd Reg.TBS_CFG) 19 = udp ∧ s.core.tim.ptpMaster = some src ∧
      s.core.tim.bestMaster s.core.now = some src ∧ fld s.core.tim.ptpHave 2 0 = 7) ∧
    (∃ (src : Nat) (_ : Nat) (_ : Nat) (udp : Bool) (s : State), s.takesTime = true ∧ s.core.timeSrc ≠ 1 ∧
      bitAt (s.core.rd Reg.TBS_CFG) 19 = udp ∧ s.core.tim.ptpMaster = some src ∧
      s.core.tim.bestMaster s.core.now = some src ∧ bitAt s.core.tim.ptpHave 3 = true) ∧
    (∃ (src : Nat) (_ : Nat) (_ : Nat) (udp : Bool) (s : State), s.takesTime = true ∧ s.core.timeSrc ≠ 1 ∧
      bitAt (s.core.rd Reg.TBS_CFG) 19 = udp ∧ s.core.tim.ptpMaster ≠ some src ∧
      s.core.tim.bestMaster s.core.now ≠ some src) ∧
    (∃ (e : Nat) (s : State), s.takesTime = true ∧ s.core.timeSrc = 1 ∧ s.core.tim.ppsNext = some e ∧
      s.core.tim.ppsArmed = false ∧ 65536000 < ((e : Int) * 65536 - s.core.tim.glob).natAbs) ∧
    (∃ (e : Nat) (s : State), s.takesTime = true ∧ s.core.timeSrc = 1 ∧ s.core.tim.ppsNext = some e ∧
      (s.core.tim.ppsArmed = true ∨ ((e : Int) * 65536 - s.core.tim.glob).natAbs ≤ 65536000)) ∧
    (∃ (v : Word) (s : State), s.answers = true ∧ s.core.fst .timeXfer = .off ∧
      (s.core.rd Reg.TBS_TOD_LO + 2 ^ 32 * v.toNat) % 1000000000 = 0) ∧
    (∃ (_ : Word) (s : State), s.answers = true ∧ s.core.fst .timeXfer ≠ .off) ∧
    (∃ (n : Nat) (start : Nat) (raw : Int) (f : Int) (s : State), s.core.onLine = true ∧ s.core.fst .timeXfer = .on ∧
      s.core.sourcePort = some n ∧ (s.core.lp n).tt = some (raw, f, start) ∧ (s.core.lp n).peerLevel ≠ 15 ∧
      s.core.inGuard n = false ∧ (s.core.optic n).hop ≠ .window ∧
      ((s.core.lp n).hopAt = 0 ∨ (s.core.lp n).hopAt < start) ∧ (s.core.tim.srcT = 0 ∨ s.core.tim.srcT < start) ∧
      (s.core.tim.tstate = tsAcquiring ∨ s.core.isLocked = true) ∧ s.core.tim.samples.length < 15) ∧
    (∃ (n : Nat) (start : Nat) (raw : Int) (f : Int) (s : State), s.core.onLine = true ∧ s.core.fst .timeXfer = .on ∧
      s.core.sourcePort = some n ∧ (s.core.lp n).tt = some (raw, f, start) ∧ (s.core.lp n).peerLevel ≠ 15 ∧
      (s.core.inGuard n = true ∨ (s.core.optic n).hop = .window ∨ ((s.core.lp n).hopAt ≠ 0 ∧
      start ≤ (s.core.lp n).hopAt) ∨ (s.core.tim.srcT ≠ 0 ∧ start ≤ s.core.tim.srcT))) ∧
    (∃ (s : State), ((s.core.tim.tstate = tsLockedLine ∧
      s.core.tim.lastLine + 1342178 ≤ s.core.now) ∨ (s.core.tim.tstate = tsLockedRef ∧
      s.core.tim.lastRef + 64 * (if s.core.timeSrc = 1 then 1000000000 else s.core.tim.syncInt) ≤ s.core.now))) ∧
    (∃ (s : State), s.core.tim.tstate = tsHoldover ∧
      s.core.tim.holdT + 100000000 * s.core.fd Reg.TBS_CFG 15 0 ≤ s.core.now) ∧
    (∃ (s : State), (s.core.isLocked = true ∨ s.core.tim.tstate = tsHoldover) ∧ s.core.gns % 1000000000 < 10000 ∧
      s.core.tim.ppsOutT ≠ s.core.gns / 1000000000 * 1000000000 + 1) ∧
    (∃ (s : State), s.core.isLocked = false ∧ s.core.tim.tstate ≠ tsHoldover) :=
  ⟨⟨up {}, by decide +kernel⟩,
   ⟨up (fns [(.timeXfer, .on)] {}), by decide +kernel⟩,
   ⟨true, 0, .delayReqSent 0, up {}, by decide +kernel⟩,
   ⟨false, 127, .delayReqSent 0, up {}, by decide +kernel⟩,
   ⟨1, 7812500, [0], false, timed 0 {}, by decide +kernel⟩,
   ⟨0, 0, false, timed 0 { ptpMaster := some 0, ptpHave := 7, ptpPeers := [{ src := 0, ds := [0], t := 1, prev := 1, interval := 1 }] }, by decide +kernel⟩,
   ⟨0, 0, 0, false, timed
     0 { ptpMaster := some 0, ptpHave := 8, ptpPeers := [{ src := 0, ds := [0], t := 1, prev := 1, interval := 1 }] }, by decide +kernel⟩,
   ⟨1, 0, 0, false, timed
     0 { ptpMaster := some 0, ptpHave := 8, ptpPeers := [{ src := 0, ds := [0], t := 1, prev := 1, interval := 1 }] }, by decide +kernel⟩,
   ⟨1001, timed 1 { ppsNext := some 1001 }, by decide +kernel⟩,
   ⟨1000, timed 1 { ppsNext := some 1000 }, by decide +kernel⟩,
   ⟨0, up {}, by decide +kernel⟩,
   ⟨0, up (fns [(.timeXfer, .on)] {}), by decide +kernel⟩,
   ⟨15, 1, 0, 0, up (regs [(Reg.TBS_CFG, 2 ^ 31), (Reg.LFR_P_CFG 15, 2 ^ 31)] (fns [(.timeXfer, .on), (.group 0,
     .on)] ((({ tim := { tstate := tsAcquiring }, lport := ({} : SMap LPort).set {} 15 { tt := some (0, 0, 1), peerLevel := 0 } } : Core).setGrp 0 { rxSvc := 1 })))), by decide +kernel⟩,
   ⟨15, 1, 0, 0, up (regs [(Reg.TBS_CFG, 2 ^ 31), (Reg.LFR_P_CFG 15, 2 ^ 31)] (fns [(.timeXfer, .on), (.group 0,
     .on)] ((({ tim := { tstate := tsAcquiring }, lport := ({} : SMap LPort).set {} 15 { tt := some (0, 0, 1), peerLevel := 0, hopAt := 1 } } : Core).setGrp 0 { rxSvc := 1 })))), by decide +kernel⟩,
   ⟨up (regs [(Reg.TBS_CFG, 0)] { tim := { tstate := tsLockedLine, run := 1342178 * 65536 } }), by decide +kernel⟩,
   ⟨up { tim := { tstate := tsHoldover, run := 10 ^ 13 * 65536 } }, by decide +kernel⟩,
   ⟨up { tim := { tstate := tsHoldover, glob := 9999 * 65536 } }, by decide +kernel⟩,
   ⟨up {}, by decide +kernel⟩⟩

theorem test_hyps_TimetableSegments :
    (∃ (g : Fin 64) (s : State), s.answers = true ∧ s.core.fst (.segment g) = .off ∧
      Core.segCheck g (s.core.setFst (.segment g) .starting stOk) = stOk) ∧
    (∃ (g : Fin 64) (s : State), s.answers = true ∧ s.core.fst (.segment g) = .off ∧
      Core.segCheck g (s.core.setFst (.segment g) .starting stOk) ≠ stOk) ∧
    (∃ (g : Fin 64) (s : State), s.answers = true ∧ s.core.fst (.segment g) = .on ∧
      (s.core.fn (.segment g)).pend = false) ∧
    (∃ (g : Fin 64) (s : State), s.core.fst (.segment g) = .on ∧ ((s.core.segPeriod g = 0 ∧
      (s.core.segRun g).cycle ≠ 0) ∨ (s.core.segPeriod g ≠ 0 ∧ s.core.segCount g ≠ 0 ∧
      s.core.segBase g + s.core.segCount g * s.core.segPeriod g ≤ s.core.gns))) ∧
    (∃ (g : Fin 64) (s : State), s.core.fst (.segment g) = .on ∧ ((s.core.segPeriod g = 0 ∧
      (s.core.segRun g).cycle ≠ 0) ∨ (s.core.segPeriod g ≠ 0 ∧ s.core.segCount g ≠ 0 ∧
      s.core.segBase g + s.core.segCount g * s.core.segPeriod g ≤ s.core.gns))) ∧
    (∃ (_ : Fin 2) (s : State), s.answers = true) :=
  ⟨⟨63, up (tbls [(Reg.TTX_SEG_TBL, 8 * 63, 65535), (Reg.TTX_SEG_TBL, 8 * 63 + 1,
     100000)] { tim := { tstate := tsHoldover } }), by decide +kernel⟩,
   ⟨63, up {}, by decide +kernel⟩,
   ⟨63, up (fns [(.segment 63, .on)] {}), by decide +kernel⟩,
   ⟨63, up (fns [(.segment 63, .on)] (({} : Core).setSegRun 63 { cycle := 1 })), by decide +kernel⟩,
   ⟨0, up (clk 1000 (tbls [(Reg.TTX_SEG_TBL, 3, 1000), (Reg.TTX_SEG_TBL, 5, 1)] (fns [(.segment 0, .on)] {}))),
     by decide +kernel⟩,
   ⟨1, up {}, by decide +kernel⟩⟩

theorem test_hyps_TimetableEntriesFire :
    (∃ (e : Fin 65536) (g : Nat) (t0 : Nat) (s : State), s.core.fires e tyNop g t0) ∧
    (∃ (e : Fin 65536) (g : Nat) (t0 : Nat) (s : State), s.core.fires e tySlotclass g t0 ∧
      s.core.isOn (.group (s.core.entArg e 46 44)) = true ∧
      bitAt (s.core.tb Reg.TTX_PAT_TBL (8 * s.core.entArg e 43 40 + 4)) 31 = true) ∧
    (∃ (e : Fin 65536) (g : Nat) (t0 : Nat) (s : State), s.core.fires e tySlotclass g t0 ∧
      (s.core.isOn (.group (s.core.entArg e 46 44)) = false ∨ bitAt (s.core.tb Reg.TTX_PAT_TBL (8 * s.core.entArg e
      43 40 + 4)) 31 = false)) ∧
    (∃ (e : Fin 65536) (g : Nat) (t0 : Nat) (x : Nat) (q : Nat) (s : State), s.core.fires e tyStart g t0 ∧
      x = s.core.entArg e 51 40 ∧ q = (fld (s.core.entB e) 63 32 + (s.core.segRun g).cycle * s.core.segStride g) % 2
      ^ 32 ∧ s.core.cle.failQ = [] ∧ s.core.cle.park = [] ∧ (s.core.rkBy Core.rkP x).isSome = false ∧
      (s.core.rkBy Core.rkQ x).isSome = false ∧ s.core.startCheck x q (fld (s.core.entB e) 31 20) = stOk ∧
      s.core.predOk (fld (s.core.entB e) 31 20) ((q + 2 ^ 32 - fld (s.core.entB e) 19 8) % 2 ^ 32) = true) ∧
    (∃ (e : Fin 65536) (g : Nat) (t0 : Nat) (h : Nat) (b : Nat) (s : State), s.core.fires e tyGate g t0 ∧
      h = s.core.entArg e 42 40 ∧ b = s.core.entArg e 43 43 ∧ (s.core.schg h).act.map Prod.fst ≠ some b ∧
      s.core.gclOk h b = true) ∧
    (∃ (e : Fin 65536) (g : Nat) (t0 : Nat) (v : Nat) (s : State), s.core.fires e tyEpoch g t0 ∧
      v = s.core.entArg e 40 40 ∧ bitAt s.core.frt.ep.wopen v = false) ∧
    (∃ (e : Fin 65536) (g : Nat) (t0 : Nat) (v : Nat) (s : State), s.core.fires e tyEpoch g t0 ∧
      v = s.core.entArg e 40 40 ∧ bitAt s.core.frt.ep.wopen v = true ∧ v ≠ s.core.frt.ep.cur) ∧
    (∃ (e : Fin 65536) (g : Nat) (t0 : Nat) (i : Nat) (p : Nat) (s : State), s.core.fires e tyKeyswitch g t0 ∧
      i = s.core.entArg e 51 40 ∧ p = s.core.entArg e 52 52 ∧ ((s.core.kslot i).pos p).loaded = true ∧
      (s.core.kslot i).txPos ≠ p ∧ s.core.peersIn i (s.core.kslot i).ready = true ∧ s.core.slotBusy i = false) ∧
    (∃ (e : Fin 65536) (g : Nat) (t0 : Nat) (i : Nat) (p : Nat) (s : State), s.core.fires e tyKeyswitch g t0 ∧
      i = s.core.entArg e 51 40 ∧ p = s.core.entArg e 52 52 ∧ ((s.core.kslot i).pos p).loaded = true ∧
      (s.core.kslot i).txPos ≠ p ∧ s.core.peersIn i (s.core.kslot i).ready = false) ∧
    (∃ (e : Fin 65536) (g : Nat) (t0 : Nat) (c : Nat) (b : Nat) (s : State), s.core.fires e tyDecode g t0 ∧
      c = s.core.entArg e 43 40 ∧ b = s.core.entArg e 44 44 ∧ (s.core.bank c b).valid = true) ∧
    (∃ (e : Fin 65536) (g : Nat) (t0 : Nat) (s : State), s.core.fires e tyShard g t0) ∧
    (∃ (e : Fin 65536) (g : Nat) (t0 : Nat) (s : State), s.core.fires e tyAster g t0 ∧ s.core.mgt.asterT = none) ∧
    (∃ (e : Fin 65536) (g : Nat) (t0 : Nat) (v : Nat) (s : State), s.core.fires e tySiteEpoch g t0 ∧
      v = s.core.entArg e 40 40 ∧ bitAt s.core.frt.sep.wopen v = false) :=
  ⟨⟨65535, 63, 0, up (entry 0 tyNop 0 0 0 {}), fires_of (o := 1) (by decide +kernel)⟩,
   ⟨65535, 63, 0, up (tbls [(Reg.TTX_PAT_TBL, 8 * 15 + 4, 0x80000000)] (entry 0 tySlotclass 0x7F 0 0 (fns [(.group 7,
     .on)] {}))), fires_of (o := 1) (by decide +kernel), by decide +kernel⟩,
   ⟨65535, 63, 0, up (entry 0 tySlotclass 0x7F 0 0 {}), fires_of (o := 1) (by decide +kernel), by decide +kernel⟩,
   ⟨65535, 63, 0, 4095, 1, up (entry 0 tyStart 4095 0xFFF00000 1 ((fns [(.ctx 4095, .on), (.flow 0, .on)] (ctxCfg
     4095 0 {})).putPhase 4095 1)), fires_of (o := 1) (by decide +kernel), by decide +kernel⟩,
   ⟨65535, 63, 0, 7, 1, up (entry 0 tyGate 15 0 0 (gates {})), fires_of (o := 1) (by decide +kernel),
     by decide +kernel⟩,
   ⟨65535, 63, 0, 1, up (entry 0 tyEpoch 1 0 0 {}), fires_of (o := 1) (by decide +kernel), by decide +kernel⟩,
   ⟨65535, 63, 0, 1, up (entry 0 tyEpoch 1 0 0 { frt := { ep := { wopen := 2 } } }), fires_of (o := 1)
     (by decide +kernel), by decide +kernel⟩,
   ⟨65535, 63, 0, 4095, 1, up (entry 0 tyKeyswitch 0x1FFF 0 0 (({} : Core).setKslot
     4095 { p1 := { loaded := true } })), fires_of (o := 1) (by decide +kernel), by decide +kernel⟩,
   ⟨65535, 63, 0, 4095, 1, up (entry 0 tyKeyswitch 0x1FFF 0 0 (regs [(Reg.CIP_G_SLOT 7, 2 ^ 31 + 4095)] (({} :
     Core).setKslot 4095 { p1 := { loaded := true } }))), fires_of (o := 1) (by decide +kernel), by decide +kernel⟩,
   ⟨65535, 63, 0, 15, 1, up (entry 0 tyDecode 31 0 0 (({} : Core).setBank 15 1 { valid := true })), fires_of (o := 1)
     (by decide +kernel), by decide +kernel⟩,
   ⟨65535, 63, 0, up (entry 0 tyShard 0 0 0 {}), fires_of (o := 0) (by decide +kernel)⟩,
   ⟨65535, 63, 0, up (entry 0 tyAster 0 0 0 {}), fires_of (o := 1) (by decide +kernel), by decide +kernel⟩,
   ⟨65535, 63, 0, 1, up (entry 0 tySiteEpoch 1 0 0 {}), fires_of (o := 1) (by decide +kernel), by decide +kernel⟩⟩

theorem test_hyps_WavelengthHops :
    (∃ (e : Fin 65536) (g : Nat) (t0 : Nat) (n : Nat) (i : Nat) (s : State), s.core.entTime e = some (g, t0) ∧
      s.core.entType e = tyHop ∧ s.core.ttx.hops.get 0 e = 0 ∧ t0 ≤ s.core.gns + 10000008 ∧
      n = s.core.entArg e 43 40 ∧ i = s.core.entArg e 51 44 ∧ (s.core.optic n).hop = .idle ∧
      s.core.hopCheck n i t0 = stOk) ∧
    (∃ (e : Fin 65536) (g : Nat) (t0 : Nat) (n : Nat) (i : Nat) (st : Nat) (s : State), s.core.entTime e = some (g,
      t0) ∧ s.core.entType e = tyHop ∧ s.core.ttx.hops.get 0 e = 0 ∧ t0 ≤ s.core.gns + 10000008 ∧
      n = s.core.entArg e 43 40 ∧ i = s.core.entArg e 51 44 ∧
      st = (if (s.core.optic n).hop = .idle then s.core.hopCheck n i t0 else stBusy) ∧ st ≠ stOk) ∧
    (∃ (n : Fin 16) (idx : Nat) (g : Nat) (t0 : Nat) (s : State), (s.core.optic n).hop = .noticed ∧
      (s.core.optic n).hopRead = false ∧ s.core.entTime (s.core.optic n).hopTt = some (g, t0) ∧
      t0 ≤ s.core.gns + 1000008 ∧ idx = (s.core.optic n).nextIdx) ∧
    (∃ (n : Fin 16) (idx : Nat) (g : Nat) (t0 : Nat) (s : State), (s.core.optic n).hop = .noticed ∧
      (s.core.optic n).hopRead = false ∧ s.core.entTime (s.core.optic n).hopTt = some (g, t0) ∧
      t0 ≤ s.core.gns + 1000008 ∧ idx ≠ (s.core.optic n).nextIdx) ∧
    (∃ (e : Fin 65536) (g : Nat) (t0 : Nat) (n : Nat) (s : State), s.core.fires e tyHop g t0 ∧
      n = s.core.entArg e 43 40 ∧ s.core.ttx.hops.get 0 e = 1 ∧ (s.core.optic n).hop = .noticed ∧
      (s.core.optic n).hopTt = e.val ∧ s.core.opc.lsafe = false ∧ (s.core.optic n).hopRead = true) ∧
    (∃ (n : Fin 16) (s : State), (s.core.optic n).hop = .guard ∧ (s.core.optic n).hopT + 3933 ≤ s.core.gns) ∧
    (∃ (n : Fin 16) (s : State), (s.core.optic n).strobe = true ∧ (s.core.optic n).hopT + 100 ≤ s.core.gns ∧
      ((s.core.optic n).hopT + (s.core.optic n).hopDold) / 8 * 8 ≤ s.core.gns) ∧
    (∃ (n : Fin 16) (s : State), (s.core.optic n).hop = .window ∧
      (s.core.optic n).hopT + s.core.hopNom n (s.core.optic n).hopEntry + 3933 ≤ s.core.gns) :=
  ⟨⟨65535, 63, 10000008, 15, 255, up (regs [(Reg.LFR_G_MEMBERS 7, 0x80000000)] (tbls [(Reg.OPC_HOP_TBL, 2 * (256 * 15
     + 255), 0x80000000), (Reg.OPC_HOP_TBL, 2 * (256 * 15 + 255) + 1, 0xFE000000)] (entry 10000008 tyHop 0xFFF 0 0
     (fns [(.group 7, .on)] (({} : Core).setOptic 15 { hopCap := true, entries := 256 }))))), by decide +kernel⟩,
   ⟨65535, 63, 0, 15, 255, stTimeout, up (entry 0 tyHop 0xFFF 0 0 {}), by decide +kernel⟩,
   ⟨15, 255, 63, 1000008, up (entry 1000008 tyHop 0xFFF 0 0 (({} : Core).setOptic
     15 { hop := .noticed, hopTt := 65535, nextIdx := 255 })), by decide +kernel⟩,
   ⟨15, 0, 63, 1000008, up (entry 1000008 tyHop 0xFFF 0 0 (({} : Core).setOptic
     15 { hop := .noticed, hopTt := 65535, nextIdx := 255 })), by decide +kernel⟩,
   ⟨65535, 63, 0, 15, up (entry 0 tyHop 0xFFF 0
     0 { (({} : Core).setOptic 15 { hop := .noticed, hopTt := 65535, hopRead := true }) with ttx := { hops := ({} : SMap Nat).set 0 65535 1 } }), fires_of (o := 1) (by decide +kernel), by decide +kernel⟩,
   ⟨15, up (clk 3933 (({} : Core).setOptic 15 { hop := .guard })), by decide +kernel⟩,
   ⟨15, up (clk 100 (({} : Core).setOptic 15 { strobe := true })), by decide +kernel⟩,
   ⟨15, up (clk 3933 (({} : Core).setOptic 15 { hop := .window })), by decide +kernel⟩⟩

theorem test_hyps_LinePortsTrainAndLock :
    (∃ (n : Fin 16) (s : State), s.answers = true ∧ bitAt s.core.svc.line n = true ∧
      (s.core.pAssigned n = false ∨ s.core.trnNames n = false) ∧ s.core.fst (.linePort n) = .off) ∧
    (∃ (n : Fin 16) (s : State), s.answers = true ∧ bitAt s.core.svc.line n = false) ∧
    (∃ (n : Fin 16) (s : State), s.answers = true ∧ s.core.fst (.linePort n) = .on ∧
      (s.core.fn (.linePort n)).pend = false) ∧
    (∃ (n : Fin 16) (s : State), s.core.fst (.linePort n) = .starting ∧ s.core.lanesLocked n = true) ∧
    (∃ (n : Fin 16) (s : State), s.core.fst (.linePort n) = .starting ∧
      (s.core.fn (.linePort n)).since + 50000000 ≤ s.core.now) ∧
    (∃ (n : Fin 16) (l : Fin 8) (m : List Byte) (s : State), s.core.fst (.linePort n) ≠ .off ∧
      s.core.fst (.linePort n) ≠ .faulted ∧ ((s.core.lp n).lanes.get {} l).lock = false ∧
      ((s.core.lp n).lanes.get {} l).good = 1 ∧ ((s.core.lp n).lanes.get {} l).t + 20965 ≤ s.core.now ∧
      s.core.now ≤ ((s.core.lp n).lanes.get {} l).t + 20975 ∧
      s.core.markerMf n l m = some ((((s.core.lp n).lanes.get {} l).mf + 1) % 2 ^ 32)) ∧
    (∃ (n : Fin 16) (l : Fin 8) (s : State), s.core.fst (.linePort n) ≠ .off ∧ s.core.fst (.linePort n) ≠ .faulted ∧
      ((s.core.lp n).lanes.get {} l).lock = true ∧ 2 ≤ ((s.core.lp n).lanes.get {} l).miss) :=
  ⟨⟨15, up { svc := { line := 2 ^ 15 } }, by decide +kernel⟩,
   ⟨15, up {}, by decide +kernel⟩,
   ⟨15, up (fns [(.linePort 15, .on)] {}), by decide +kernel⟩,
   ⟨15, up (setLp 15 { lanes := (List.range 8).foldl (fun (m : SMap LaneRx) l => m.set {} l { lock := true }) {} }
     (fns [(.linePort 15, .starting)] {})), by decide +kernel⟩,
   ⟨15, up (clk 50000000 (fns [(.linePort 15, .starting)] {})), by decide +kernel⟩,
   ⟨15, 7, laneMarker 15 7 1, up (clk 20970 (setLp 15 { lanes := ({} : SMap LaneRx).set {} 7 { good := 1 } } (fns
     [(.linePort 15, .starting)] {}))), by decide +kernel⟩,
   ⟨15, 7, up (setLp 15 { lanes := ({} : SMap LaneRx).set {} 7 { lock := true, miss := 2 } } (fns [(.linePort 15,
     .on)] {})), by decide +kernel⟩⟩

theorem test_hyps_FramesSentAndReceived :
    (∃ (n : Fin 16) (s : State), s.core.fst (.linePort n) = .on ∧ (s.core.lp n).txNext ≤ s.core.frame ∧
      s.core.trnTo n = none ∧ (s.core.pAssigned n = false ∨ s.core.fst (.group (s.core.pGroup n)) = .on)) ∧
    (∃ (n : Fin 16) (s : State), s.core.fst (.linePort n) = .on ∧ (s.core.lp n).txNext ≤ s.core.frame ∧
      s.core.trnTo n = none ∧ s.core.pAssigned n = true ∧ s.core.fst (.group (s.core.pGroup n)) = .faulted) ∧
    (∃ (n : Fin 16) (_ : List Byte) (_ : List CwErr) (s : State), s.core.pLive n = false) ∧
    (∃ (n : Fin 16) (data : List Byte) (s : State), s.core.pLive n = true ∧ s.core.deskewed n = true ∧
      (s.core.lp n).al.inIf = true ∧ (s.core.lp n).al.buf.length + data.length < 8192) ∧
    (∃ (n : Fin 16) (data : List Byte) (s : State), s.core.pLive n = true ∧ s.core.deskewed n = true ∧
      (s.core.lp n).al.inIf = false ∧ fawMatches ((s.core.lp n).al.n - (s.core.lp n).al.win.length) ((s.core.lp
      n).al.win ++ data) = []) ∧
    (∃ (n : Fin 16) (data f : List Byte) (s : State), s.core.pLive n = true ∧ s.core.deskewed n = true ∧
      (s.core.lp n).al.inIf = true ∧ 8192 ≤ (s.core.lp n).al.buf.length + data.length ∧
      f = ((s.core.lp n).al.buf ++ data).take 8192 ∧ bitDiff (f.take 6) faw ≤ 3) :=
  ⟨⟨15, up (fns [(.linePort 15, .on)] {}), by decide +kernel⟩,
   ⟨15, up (regs [(Reg.LFR_P_CFG 15, 2 ^ 31 + 7 * 2 ^ 28)] (fns [(.linePort 15, .on), (.group 7, .faulted)] {})),
     by decide +kernel⟩,
   ⟨15, [0], [], up {}, by decide +kernel⟩,
   ⟨15, [], up (setLp 15 { al := { inIf := true } } (fns [(.linePort 15, .draining)] {})), by decide +kernel⟩,
   ⟨15, List.replicate 8 0, up (fns [(.linePort 15, .on)] {}), by decide +kernel⟩,
   ⟨15, List.replicate 8186 0, _, up (setLp 15 { al := { inIf := true, buf := faw } } (fns [(.linePort 15, .on)] {})),
    by decide +kernel, by decide +kernel, by decide +kernel, by rw [List.length_replicate]; decide +kernel, rfl, by decide +kernel⟩⟩

theorem test_hyps_LineDefectsAndPerformance :
    (∃ (n : Fin 16) (d : Fin 8) (s : State), s.core.pLive n = true ∧ (3 ≤ d.val ∨ s.core.hopSusp n = false) ∧
      s.core.setDue n d = true) ∧
    (∃ (n : Fin 16) (d : Fin 8) (s : State), s.core.pLive n = true ∧ (3 ≤ d.val ∨ s.core.hopSusp n = false) ∧
      s.core.setDue n d = true) ∧
    (∃ (n : Fin 16) (d : Fin 8) (s : State), s.core.pLive n = true ∧ (3 ≤ d.val ∨ s.core.hopSusp n = false) ∧
      s.core.clearDue n d = true) ∧
    (∃ (n : Fin 16) (s : State), 2 ^ 20 ≤ (s.core.lp n).winFrames) ∧
    (∃ (u : Fin 24) (d : Fin 10) (i : Nat) (set : Bool) (c : Instr) (s : State), c = (if set then .defectDeclared u d
      else .defectCleared u d) ∧ u.val < 16 ∧ d.val < 8 ∧
      bitAt (if set then (s.core.lp u).eff else (s.core.lp u).full) d = set ∧ bitAt (s.core.lp u).decl d ≠ set ∧
      i = (if set then d.val else 8 + d.val) ∧ (s.core.lp u).rawT.get 0 i + (s.core.lp u).rawLim.get 0 i ≤ s.core.now
      ∧ (set = false ∨ s.core.mayDeclare u = true) ∧ (set = false ∨ 3 ≤ d.val ∨ s.core.hopSusp u = false)) ∧
    (∃ (u : Fin 24) (d : Fin 10) (i : Nat) (set : Bool) (c : Instr) (s : State), c = (if set then .defectDeclared u d
      else .defectCleared u d) ∧ u.val < 16 ∧ d.val < 8 ∧
      bitAt (if set then (s.core.lp u).eff else (s.core.lp u).full) d = set ∧ bitAt (s.core.lp u).decl d ≠ set ∧
      i = (if set then d.val else 8 + d.val) ∧ (s.core.lp u).rawT.get 0 i + (s.core.lp u).rawLim.get 0 i ≤ s.core.now
      ∧ (set = false ∨ s.core.mayDeclare u = true) ∧ (set = false ∨ 3 ≤ d.val ∨ s.core.hopSusp u = false)) ∧
    (∃ (g : Fin 8) (i : Fin 2) (u : Fin 24) (d : Fin 10) (set : Bool) (c : Instr) (s : State), u.val = 16 + g.val ∧
      d.val = 8 + i.val ∧ c = (if set then .defectDeclared u d else .defectCleared u d) ∧ s.core.gLive g = true ∧
      bitAt (s.core.grp g).sigRaw i = set ∧ bitAt (s.core.grp g).sigDecl i ≠ set ∧
      (s.core.grp g).sigT.get 0 i + (s.core.grp g).sigLim.get 0 i ≤ s.core.now) ∧
    (∃ (n : Fin 16) (e : Bool × Bool × Nat × Bool) (l : List (Bool × Bool × Nat × Bool)) (s : State), s.core.pLive n
      = true ∧ (s.core.lp n).secDone ≤ s.core.gns / 1000000000 ∧ s.core.gns / 1000000000 ≠ 0 ∧
      (s.core.lp n).neHist = e :: l ∧ l.length = 9) :=
  ⟨⟨15, 3, up (clk 0 (setLp 15 { aisRun := 3 } (fns [(.linePort 15, .on)] {}))), by decide +kernel⟩,
   ⟨15, 0, up (clk 1000 (setLp 15 { condLos := true } (fns [(.linePort 15, .on)] {}))), by decide +kernel⟩,
   ⟨15, 3, up (clk 0 (setLp 15 { noAisRun := 3 } (fns [(.linePort 15, .on)] {}))), by decide +kernel⟩,
   ⟨15, up (clk 0 (setLp 15 { winFrames := 2 ^ 20 } (fns [(.linePort 15, .on)] {}))), by decide +kernel⟩,
   ⟨15, 7, 7, true, .defectDeclared 15 7, up (clk 0 (setLp 15 { eff := 128 } (fns [(.linePort 15, .on)] {}))),
     by decide +kernel⟩,
   ⟨15, 0, 8, false, .defectCleared 15 0, up (clk 0 (setLp 15 { decl := 1 } (fns [(.linePort 15, .on)] {}))),
     by decide +kernel⟩,
   ⟨7, 1, 23, 9, true, .defectDeclared 23 9, up ((fns [(.group 7, .on)] {}).setGrp 7 { sigRaw := 2 }),
     by decide +kernel⟩,
   ⟨15, (false, false, 0, false), List.replicate 9 (false, false, 0, false), up (clk 1000000000 (setLp
     15 { neHist := List.replicate 10 (false, false, 0, false) } (fns [(.linePort 15, .on)] {}))), by decide +kernel⟩⟩

theorem test_hyps_GroupsStartAndStop :
    (∃ (g : Fin 8) (s : State), s.answers = true ∧ s.core.fst (.group g) = .off ∧
      Core.groupCheck g (s.core.setFst (.group g) .starting stOk) = stOk) ∧
    (∃ (g : Fin 8) (s : State), s.answers = true ∧ s.core.fst (.group g) = .off ∧
      Core.groupCheck g (s.core.setFst (.group g) .starting stOk) ≠ stOk) ∧
    (∃ (g : Fin 8) (s : State), s.answers = true ∧ s.core.fst (.group g) = .on ∧
      (s.core.fn (.group g)).pend = false ∧ (s.core.schg g).items ≠ []) ∧
    (∃ (g : Fin 8) (w : Nat) (c : Nat) (init : Nat) (par : Nat) (s : State), s.core.fst (.group g) = .starting ∧
      (s.core.grp g).peerMargin = some w ∧ (s.core.candidates g).find? (s.core.acceptable g (fun p => worseClass
      (s.core.ownClass g p) (fld w (2 * p + 1) (2 * p)))) = some (c, init, par) ∧
      maskIn init (s.core.grp g).rxReady = true ∧ maskIn init (s.core.grp g).peerReady = true ∧
      (s.core.placeAll g (bitsOf 16 (s.core.grp g).rxReady)).2 = []) ∧
    (∃ (g : Fin 8) (w : Nat) (s : State), s.core.fst (.group g) = .starting ∧ (s.core.grp g).peerMargin = some w ∧
      (s.core.candidates g).find? (s.core.acceptable g (fun p => worseClass (s.core.ownClass g p) (fld w (2 * p + 1)
      (2 * p)))) = none) ∧
    (∃ (g : Fin 8) (s : State), s.core.fst (.group g) = .starting ∧
      (s.core.fn (.group g)).since + 100000000 ≤ s.core.now) ∧
    (∃ (g : Fin 8) (p : Fin 16) (s : State), (s.core.fst (.group g) = .on ∨ s.core.fst (.group g) = .starting) ∧
      bitAt (s.core.gConfig g) p = true ∧ bitAt (s.core.grp g).rxReady p = false ∧ s.core.settled g p = true ∧
      (s.core.placeAll g (bitsOf 16 (setBit (s.core.grp g).rxReady p true))).2 = []) ∧
    (∃ (g : Fin 8) (p : Fin 16) (s : State), (s.core.fst (.group g) = .on ∨ s.core.fst (.group g) = .starting) ∧
      bitAt (s.core.gConfig g) p = true ∧ bitAt (s.core.grp g).rxReady p = false ∧ s.core.settled g p = true ∧
      (s.core.placeAll g (bitsOf 16 (setBit (s.core.grp g).rxReady p true))).2 ≠ []) :=
  ⟨⟨7, up (grpCfg {}), by decide +kernel⟩,
   ⟨7, up {}, by decide +kernel⟩,
   ⟨7, up ((fns [(.group 7, .on)] {}).setSchg 7 { qs := ({} : SMap _).set [] 0 [item] }), by decide +kernel⟩,
   ⟨7, 1, 0, 1, 0, up (regs [(Reg.LCD_P_STAT 15, 2 ^ 20)] (grpCfg ((fns [(.group 7, .starting)] {}).setGrp
     7 { peerMargin := some 1, rxReady := 1, peerReady := 1 }))), by decide +kernel⟩,
   ⟨7, 3, up (grpCfg ((fns [(.group 7, .starting)] {}).setGrp 7 { peerMargin := some 3 })), by decide +kernel⟩,
   ⟨7, up (clk 100000000 (fns [(.group 7, .starting)] {})), by decide +kernel⟩,
   ⟨7, 0, up (clk 41944 (grpCfg (setLp 15 { al := { inIf := true, inMf := true } } ((fns [(.group 7, .on)] {}).setGrp
     7 { arrSeen := 1 })))), by decide +kernel⟩,
   ⟨7, 0, up (clk 41944 (regs [(Reg.LFR_G_MEMBERS 7, 0x30001), (Reg.LFR_P_CFG 14, 2 ^ 31 + 7 * 2 ^ 28 + 2 ^ 24)]
     (grpCfg (setLp 14 { al := { inIf := true } } (setLp 15 { al := { inIf := true, inMf := true } } ((fns [(.group
     7, .on)] {}).setGrp 7 { arrSeen := 3, arrT := ({} : SMap Int).set 0 1 4000001 })))))), by decide +kernel⟩⟩

theorem test_hyps_GroupMembersChange :
    (∃ (g : Fin 8) (p : Fin 16) (s : State), s.answers = true ∧ s.core.isOn (.group g) = true ∧
      (s.core.grp g).chg = none ∧ (s.core.grp g).addWait = none ∧ bitAt (s.core.gConfig g) p = true ∧
      bitAt (s.core.grp g).inSvc p = false ∧ (s.core.portAt g p).any (fun n => s.core.isOn (.linePort n)) = true) ∧
    (∃ (g : Fin 8) (p : Fin 16) (s : State), s.answers = true ∧ s.core.isOn (.group g) = true ∧
      (s.core.grp g).chg = none ∧ (s.core.grp g).addWait = none ∧ bitAt (s.core.gConfig g) p = true ∧
      bitAt (s.core.grp g).inSvc p = false ∧ (s.core.portAt g p).any (fun n => s.core.isOn (.linePort n)) = true) ∧
    (∃ (g : Fin 8) (p : Fin 16) (c : Instr) (s : State), (c = .groupAdd g p ∨ c = .groupRemove g p) ∧
      s.answers = true ∧ s.core.isOn (.group g) = true ∧ (s.core.grp g).chg.isSome = true) ∧
    (∃ (g : Fin 8) (p : Fin 16) (s : State), s.answers = true ∧ s.core.isOn (.group g) = true ∧
      (s.core.grp g).chg = none ∧ (s.core.grp g).addWait = none ∧ bitAt (s.core.grp g).inSvc p = true) ∧
    (∃ (g : Fin 8) (s : State), s.answers = true ∧ s.core.isOn (.group g) = true) ∧
    (∃ (g : Fin 8) (p : Nat) (t0 : Nat) (s : State), (s.core.grp g).addWait = some (p, t0) ∧
      s.core.isOn (.group g) = true ∧ bitAt (s.core.grp g).peerReady p = true ∧ (s.core.grp g).chg = none) ∧
    (∃ (g : Fin 8) (p : Nat) (t0 : Nat) (s : State), (s.core.grp g).addWait = some (p, t0) ∧
      t0 + 1000000 * s.core.fd (Reg.LFR_G_ADDTMO g) 15 0 ≤ s.core.now) ∧
    (∃ (g : Fin 8) (p : Nat) (q : Nat) (s : State), s.core.isOn (.group g) = true ∧ (s.core.grp g).spareRetryT ≠ 0 ∧
      (s.core.grp g).spareRetryT - 1 + 1000000000 ≤ s.core.now ∧ (s.core.grp g).spareFor = none ∧
      (List.range 16).find? (s.core.wants g) = some p ∧ s.core.peerClass g p ≠ 3 ∧ s.core.spareFor g p = some q ∧
      (s.core.groupAdd g q).2 = stOk) :=
  ⟨⟨7, 0, up (grpCfg ((fns [(.group 7, .on)] {}).setGrp 7 { })), by decide +kernel⟩,
   ⟨7, 0, up (grpCfg ((fns [(.group 7, .on)] {}).setGrp 7 { peerReady := 1 })), by decide +kernel⟩,
   ⟨7, 15, .groupAdd 7 15, up (grpCfg ((fns [(.group 7, .on)] {}).setGrp 7 { chg := some (0, 0, 0) })),
     by decide +kernel⟩,
   ⟨7, 0, up (grpCfg ((fns [(.group 7, .on)] {}).setGrp 7 { txSvc := 1 })), by decide +kernel⟩,
   ⟨7, up (grpCfg ((fns [(.group 7, .on)] {}).setGrp 7 { })), by decide +kernel⟩,
   ⟨7, 0, 0, up (grpCfg ((fns [(.group 7, .on)] {}).setGrp 7 { addWait := some (0, 0), peerReady := 1 })),
     by decide +kernel⟩,
   ⟨7, 0, 0, up (clk (10 ^ 12) (({} : Core).setGrp 7 { addWait := some (0, 0) })), by decide +kernel⟩,
   ⟨7, 0, 1, up (clk (10 ^ 9) (regs [(Reg.LFR_G_MEMBERS 7, 0x30001), (Reg.LFR_P_CFG 14, 2 ^ 31 + 7 * 2 ^ 28 + 2 ^
     24)] ((grpCfg ((fns [(.group 7, .on), (.linePort 14, .on)] {}).setGrp
     7 { txSvc := 1, spareRetryT := 1, peerReady := 2, peerMargin := some 4 })).setOptic 15 { fade := 1 } |>.setOptic
     14 { read := true }))), by decide +kernel⟩⟩

theorem test_hyps_RowsRetriesAndMessages :
    (∃ (g : Fin 8) (r : RxRow) (s : State), (s.core.grp g).nextRow = some r ∧ s.core.gLive g = true ∧
      r.t + (s.core.grp g).dcomp + 202 ≤ s.core.now ∧ (s.core.grp g).nextSeq.getD r.gseq = r.gseq ∧ r.gseq < 2 ^ 32 ∧
      r.members.1.getD (s.core.grp g).rxSvc = 0 ∧ s.core.cle.failQ = []) ∧
    (∃ (g : Fin 8) (r : RxRow) (s : State), (s.core.grp g).nextRow = some r ∧ s.core.gLive g = true ∧
      r.t + (s.core.grp g).dcomp + 202 ≤ s.core.now ∧ (s.core.grp g).nextSeq.getD r.gseq = r.gseq ∧ r.gseq < 2 ^ 32 ∧
      r.frames.all (fun f => f.2.2) = true ∧ (s.core.grp g).part = none ∧ (s.core.grp g).reqs = [] ∧
      bitsOf 16 ((s.core.grp g).rxSvc &&& (65535 - (s.core.grp g).parity)) ≠ [] ∧ s.core.cle.failQ = []) ∧
    (∃ (g : Fin 8) (q : Nat) (n : Nat) (s : State), (s.core.grp g).nextRow = none ∧ s.core.gLive g = true ∧
      (s.core.grp g).nextSeq = some q ∧ s.core.rowsDue g = n ∧ 0 < n ∧ s.core.cle.failQ = []) ∧
    (∃ (g : Fin 8) (s : State), (s.core.grp g).gcc ≠ [] ∧ (s.core.grp g).gccCopy = 0 ∧
      (s.core.grp g).gccT + 10000000 ≤ s.core.now) ∧
    (∃ (g : Fin 8) (i : Fin 65536) (r : RReq) (s : State), (s.core.grp g).reqs.find? (fun q => q.id == i.val) = some
      r ∧ r.t ≤ s.core.now) ∧
    (∃ (g : Fin 8) (m : List Byte × Nat) (rest : List (List Byte × Nat)) (l : List RCopy) (s : State), (s.core.grp
      g).gccIn = m :: rest ∧ byteAt m.1 0 = 0x10 ∧ s.core.gLive g = true ∧ (s.core.grp g).seenReq = [] ∧
      l = (((s.core.grp g).copies.filter (fun c => !s.core.copyOld c)).filter (fun c => c.frames.any (fun f => decide
      ((f.1 + 2 ^ 32 - beNat (slice m.1 4 4)) % 2 ^ 32 < beNat (slice m.1 8 2)) && bitAt (beNat (slice m.1 10 2))
      f.2))).filter (fun c => !c.gone) ∧ l ≠ [] ∧ (s.core.grp g).resend.length + l.length ≤ 4096) ∧
    (∃ (g : Fin 8) (m : List Byte × Nat) (rest : List (List Byte × Nat)) (s : State), (s.core.grp g).gccIn = m ::
      rest ∧ byteAt m.1 0 = 0x11 ∧ s.core.gLive g = true ∧ (s.core.grp g).seenReq = [] ∧ (s.core.grp g).copies = []) ∧
    (∃ (g : Fin 8) (m : List Byte × Nat) (rest : List (List Byte × Nat)) (r : RReq) (s : State), (s.core.grp g).gccIn
      = m :: rest ∧ byteAt m.1 0 = 0x12 ∧ (s.core.grp g).reqs.find? (fun q => q.id == beNat (slice m.1 2 2)) = some r) ∧
    (∃ (g : Fin 8) (s : State), s.core.fst (.group g) ≠ .draining) ∧
    (∃ (r : RxRefused) (rest : List RxRefused) (s : State), s.core.cle.refused = r :: rest ∧
      r.t + s.core.retryEff < s.core.now) ∧
    (∃ (r : RxRefused) (rest : List RxRefused) (s : State), s.core.cle.refused = r :: rest ∧
      s.core.now ≤ r.t + s.core.retryEff ∧
      (s.core.servePool { user := .rx 0, owner := s.core.rxOwner, size := stageSize r.big, mem := 0, either := true }).isSome = true ∧ s.core.heldItems < s.core.fd Reg.CLE_RXSTAGE 12 0 ∧ (s.core.grp r.g).reqs = []) ∧
    (∃ (g : Fin 8) (m : List Byte × Nat) (rest : List (List Byte × Nat)) (s : State), (s.core.grp g).gccIn = m ::
      rest ∧ byteAt m.1 0 = 0x13) ∧
    (∃ (g : Fin 8) (s : State), s.core.fst (.group g) = .starting ∧ (s.core.grp g).gcc = []) ∧
    (∃ (g : Fin 8) (s : State), s.core.fst (.group g) = .on ∧
      s.core.classWord g (s.core.runClass g) ≠ (s.core.grp g).ownMargin) :=
  ⟨⟨7, { gseq := 0, frames := [], t := 0 }, up (clk 202 ((fns [(.group 7, .on)] {}).setGrp
     7 { rows := [{ gseq := 0, frames := [], t := 0 }] })), by decide +kernel⟩,
   ⟨7, { gseq := 0, frames := [(0, [], true)], t := 0 }, up (clk 202 ((fns [(.group 7, .on)] {}).setGrp
     7 { rxSvc := 1, rows := [{ gseq := 0, frames := [(0, [], true)], t := 0 }] })), by decide +kernel⟩,
   ⟨7, 0, 1, up (clk 202 ((fns [(.group 7, .on)] {}).setGrp 7 { rxSvc := 1, nextSeq := some 0 })), by decide +kernel⟩,
   ⟨7, up (clk 10000000 ((fns [(.group 7, .on)] {}).setGrp 7 { gcc := [[0x20]] })), by decide +kernel⟩,
   ⟨7, 65535, { id := 65535, frames := true, gseq := 0, t := 0, tries := 1 }, up (clk 0 ((fns [(.group 7,
     .on)] {}).setGrp 7 { reqs := [{ id := 65535, frames := true, gseq := 0, t := 0, tries := 1 }] })),
     by decide +kernel⟩,
   ⟨7, ([0x10, 0, 0, 0, 0, 0, 0, 0, 0, 1, 0, 1], 0), [],
     [{ seg := { hdr := [], ct := [], ke := 0, grp := false }, gseq := 0, pos := 0, cell := 0, frames := [(0, 0)], t := 0 }], up (clk 0 ((fns [(.group 7, .on)] {}).setGrp 7 { gccIn := [([0x10, 0, 0, 0, 0, 0, 0, 0, 0, 1, 0, 1], 0)], copies := [{ seg := { hdr := [], ct := [], ke := 0, grp := false }, gseq := 0, pos := 0, cell := 0, frames := [(0, 0)], t := 0 }] })), by decide +kernel⟩,
   ⟨7, ([0x11], 0), [], up (clk 0 ((fns [(.group 7, .on)] {}).setGrp 7 { gccIn := [([0x11], 0)] })),
     by decide +kernel⟩,
   ⟨7, ([0x12, 0, 0xFF, 0xFF], 0), [], { id := 65535, frames := true, gseq := 0, t := 0, tries := 1 }, up (clk 0
     ((fns [(.group 7, .on)] {}).setGrp
     7 { gccIn := [([0x12, 0, 0xFF, 0xFF], 0)], reqs := [{ id := 65535, frames := true, gseq := 0, t := 0, tries := 1 }] })), by decide +kernel⟩,
   ⟨7, up (clk 0 ((fns [(.group 7, .on)] {}).setGrp 7 { })), by decide +kernel⟩,
   ⟨{ g := 7, gseq := 0, pos := 0, cell := 0, big := false, key := [], t := 0 }, [], up (clk (10 ^
     10) { cle := { refused := [{ g := 7, gseq := 0, pos := 0, cell := 0, big := false, key := [], t := 0 }] } }),
     by decide +kernel⟩,
   ⟨{ g := 7, gseq := 0, pos := 0, cell := 0, big := false, key := [], t := 0 }, [], up (regs [(Reg.CLE_RXSTAGE, 1)]
     (pooled 2 { cle := { refused := [{ g := 7, gseq := 0, pos := 0, cell := 0, big := false, key := [], t := 0 }] } })), by decide +kernel⟩,
   ⟨7, ([0x13], 0), [], up (clk 0 ((fns [(.group 7, .on)] {}).setGrp 7 { gccIn := [([0x13], 0)] })),
     by decide +kernel⟩,
   ⟨7, up (clk 0 ((fns [(.group 7, .starting)] {}).setGrp 7 { })), by decide +kernel⟩,
   ⟨7, up (clk 0 ((fns [(.group 7, .on)] {}).setGrp 7 { ownMargin := 1 })), by decide +kernel⟩⟩

theorem test_hyps_SiteRoutingVersions :
    (∃ (v : Word) (c : Instr) (s : State), s.answers = true ∧ (c = .siteEpochWclose v ∨ c = .siteEpochSetCur v)) ∧
    (∃ (v : Word) (c : Instr) (s : State), s.answers = true ∧ (c = .siteEpochWclose v ∨ c = .siteEpochSetCur v)) ∧
    (∃ (v : Fin 2) (s : State), v.val ≠ s.core.frt.sep.cur ∧ s.core.frt.sep.infl v = 0 ∧
      s.core.frt.sep.zt v + 10000 ≤ s.core.now) ∧
    (∃ (_ : Word) (w : Nat) (s : State), s.answers = true ∧ w = s.core.fd Reg.FRT_SRT_TBL 23 0 ∧ w < 32 ∧
      w / 16 ≠ s.core.frt.sep.cur ∧ (bitAt s.core.frt.sep.idle (w / 16) = true ∨ bitAt s.core.frt.sep.wopen (w / 16)
      = true)) ∧
    (∃ (_ : Word) (w : Nat) (s : State), s.answers = true ∧ w = s.core.fd Reg.FRT_SRT_TBL 23 0 ∧ w < 32 ∧
      w / 16 ≠ s.core.frt.sep.cur ∧ (bitAt s.core.frt.sep.idle (w / 16) = true ∨ bitAt s.core.frt.sep.wopen (w / 16)
      = true)) ∧
    (∃ (_ : Word) (w : Nat) (s : State), s.answers = true ∧ w = s.core.fd Reg.FRT_SRT_TBL 23 0 ∧ w < 32 ∧
      (w / 16 = s.core.frt.sep.cur ∨ (bitAt s.core.frt.sep.idle (w / 16) = false ∧
      bitAt s.core.frt.sep.wopen (w / 16) = false))) ∧
    (∃ (_ : Word) (w : Nat) (s : State), s.answers = true ∧ w = s.core.fd Reg.FRT_SRT_TBL 23 0 ∧ w < 32 ∧
      (w / 16 = s.core.frt.sep.cur ∨ (bitAt s.core.frt.sep.idle (w / 16) = false ∧
      bitAt s.core.frt.sep.wopen (w / 16) = false))) ∧
    (∃ (n : Nat) (s : State), s.core.fd Reg.FRT_SAUTO 31 31 = 1 ∧
      bitAt s.core.frt.sep.wopen (1 - s.core.frt.sep.cur) = false ∧
      (s.core.frt.autoT = 0 ∨ s.core.frt.autoT - 1 + 10000000000 ≤ s.core.now) ∧
      (List.range 16).find? (s.core.autoFor (1 - s.core.frt.sep.cur)) = some n) :=
  ⟨⟨0, .siteEpochSetCur 0, up {}, by decide +kernel⟩,
   ⟨word 0x3001, .siteEpochWclose (word 0x3001), up { frt := { sep := { wopen := 3 } } }, by decide +kernel⟩,
   ⟨1, up (clk 10000 {}), by decide +kernel⟩,
   ⟨0, 31, up (regs [(Reg.FRT_SRT_TBL, 31)] { frt := { sep := { idle := 2 } } }), by decide +kernel⟩,
   ⟨0, 16, up (regs [(Reg.FRT_SRT_TBL, 16)] { frt := { sep := { wopen := 2 } } }), by decide +kernel⟩,
   ⟨0, 31, up (regs [(Reg.FRT_SRT_TBL, 31)] {}), by decide +kernel⟩,
   ⟨0, 15, up (regs [(Reg.FRT_SRT_TBL, 15)] {}), by decide +kernel⟩,
   ⟨15, up (clk (10 ^ 10) (regs [(Reg.FRT_SAUTO, 2 ^ 31)] (tbls [(Reg.FRT_SRT_TBL, 15, 0x80000000), (Reg.FRT_SRT_TBL,
     31, 0x80000001)] ((fns [(.group 0, .on), (.group 1,
     .on)] { site := { failT := ({} : SMap Nat).set 0 0 1 } }).setGrp 0 { sigRaw := 1 })))), by decide +kernel⟩⟩

theorem test_hyps_PartitionsAndLedgers :
    (∃ (i : Fin 16) (s : State), s.core.partOn i = false ∧ s.core.groupsTo i ≠ [] ∧
      (∀ g ∈ s.core.groupsTo i, s.core.gsf g = true ∧ s.core.site.failT.get 0 g ≠ 0 ∧
      s.core.site.failT.get 0 g - 1 + 1000000 * s.core.fd Reg.CLE_PART_CFG 15 0 ≤ s.core.now) ∧
      s.core.cle.chunks = [] ∧ s.core.cle.failQ = []) ∧
    (∃ (i : Fin 16) (g : Nat) (s : State), s.core.partOn i = true ∧ g ∈ s.core.groupsTo i ∧ s.core.gsf g = false ∧
      s.core.site.clearT.get 0 g ≠ 0 ∧ s.core.site.clearT.get 0 g - 1 + 10000000 * s.core.fd Reg.CLE_PART_CFG 31 16 ≤
      s.core.now) ∧
    (∃ (j : Fin 65600) (s : State), s.core.jValid j = true ∧ s.core.jState j = jReconciling ∧
      s.core.site.ledSent.get 0 j ≠ 0 ∧ s.core.site.ledSent.get 0 j - 1 + 100000000 ≤ s.core.now) ∧
    (∃ (j : Fin 65600) (s : State), s.core.jValid j = true ∧ s.core.jState j = jReconciling ∧
      s.core.site.ledT.get 0 j ≠ 0 ∧ s.core.site.ledT.get 0 j - 1 + 1000000 * s.core.fd Reg.CLE_PART_CFG2 15 0 ≤
      s.core.now ∧ s.core.jNpart j ≠ 0 ∧ s.core.jPsites j ≠ 0 ∧ s.core.jDrift j = false) ∧
    (∃ (g : Fin 8) (m : List Byte × Nat) (rest : List (List Byte × Nat)) (s : State), (s.core.grp g).gccIn = m ::
      rest ∧ byteAt m.1 0 = 0x22 ∧ (List.range 64).find? (fun e => s.core.jValid e && s.core.jJob e == beNat (slice
      m.1 2 2) && s.core.jIncarn e == beNat (slice m.1 4 2)) = none) ∧
    (∃ (g : Fin 8) (m : List Byte × Nat) (rest : List (List Byte × Nat)) (e : Nat) (i : Nat) (s : State), (s.core.grp
      g).gccIn = m :: rest ∧ byteAt m.1 0 = 0x22 ∧
      (List.range 64).find? (fun e => s.core.jValid e && s.core.jJob e == beNat (slice m.1 2 2) && s.core.jIncarn e
      == beNat (slice m.1 4 2)) = some e ∧ i = byteAt m.1 1 % 16 ∧ s.core.jState e = jReconciling ∧
      bitAt (s.core.jPsites e) i = true ∧ bitAt (s.core.site.ledGot.get 0 e) i = false ∧
      (bitsOf 16 (s.core.jPsites e)).all (bitAt (setBit (s.core.site.ledGot.get 0 e) i true)) = false) ∧
    (∃ (g : Fin 8) (m : List Byte × Nat) (rest : List (List Byte × Nat)) (e : Nat) (i : Nat) (s : State), (s.core.grp
      g).gccIn = m :: rest ∧ byteAt m.1 0 = 0x22 ∧
      (List.range 64).find? (fun e => s.core.jValid e && s.core.jJob e == beNat (slice m.1 2 2) && s.core.jIncarn e
      == beNat (slice m.1 4 2)) = some e ∧ i = byteAt m.1 1 % 16 ∧ s.core.jState e ≠ jReconciling ∧
      s.core.site.ansT.get 0 (16 * e + i) = 0) ∧
    (∃ (v : Word) (e : Nat) (s : State), s.answers = true ∧ s.core.fd Reg.CLE_JOB_TBL 23 0 = 8 * e ∧ e < 64 ∧
      s.core.liveCtxs.any (fun x => s.core.cJob x == s.core.jJob e || s.core.cJob x == fld v.toNat 31 16) = false ∧
      (s.core.jValid e = false ∨ fld v.toNat 31 16 ≠ s.core.jJob e ∨ serialBefore 16 (s.core.jIncarn e) (fld v.toNat
      15 0) = true)) ∧
    (∃ (_ : Word) (w : Nat) (s : State), s.answers = true ∧ s.core.fd Reg.CLE_JOB_TBL 23 0 = w ∧ w < 512 ∧
      w % 8 < 3 ∧ s.core.liveCtxs.any (fun x => s.core.cJob x == s.core.jJob (w / 8)) = true) :=
  ⟨⟨15, up (clk (10 ^ 12) (regs [(Reg.LFR_G_CFG 7, 0xF000)] ((fns [(.group 7,
     .on)] { site := { failT := ({} : SMap Nat).set 0 7 1 } }).setGrp 7 { sigRaw := 1 }))), by decide +kernel⟩,
   ⟨15, 7, up (clk (10 ^ 12) (regs [(Reg.LFR_G_CFG 7, 0xF000)] ((fns [(.group 7,
     .on)] { site := { part := 2 ^ 15, clearT := ({} : SMap Nat).set 0 7 1 } }).setGrp 7 { }))), by decide +kernel⟩,
   ⟨63, up (clk 100000000 (tbls [(Reg.CLE_JOB_TBL, 8 * 63 + 1, 0x90000000), (Reg.CLE_JOB_TBL, 8 * 63 + 2,
     0xC0000000), (Reg.CLE_JOB_TBL, 8 * 63 + 6, 0x10000)] { site := { ledSent := ({} : SMap Nat).set 0 63 1 } })),
     by decide +kernel⟩,
   ⟨63, up (clk (10 ^ 12) (tbls [(Reg.CLE_JOB_TBL, 8 * 63 + 1, 0x90000000), (Reg.CLE_JOB_TBL, 8 * 63 + 2,
     0xC0000000), (Reg.CLE_JOB_TBL, 8 * 63 + 6, 0x10000)] { site := { ledT := ({} : SMap Nat).set 0 63 1 } })),
     by decide +kernel⟩,
   ⟨7, ([0x22], 0), [], up (({} : Core).setGrp 7 { gccIn := [([0x22], 0)] }), by decide +kernel⟩,
   ⟨7, ([0x22, 15], 0), [], 63, 15, up (clk 0 (tbls [(Reg.CLE_JOB_TBL, 8 * 63 + 1, 0x90000000), (Reg.CLE_JOB_TBL, 8 *
     63 + 2, 0xC0000000), (Reg.CLE_JOB_TBL, 8 * 63 + 6, 0x10000)] (({} : Core).setGrp
     7 { gccIn := [([0x22, 15], 0)] }))), by decide +kernel⟩,
   ⟨7, ([0x22, 15], 0), [], 63, 15, up (tbls [(Reg.CLE_JOB_TBL, 8 * 63 + 1, 0x80000000)] (({} : Core).setGrp
     7 { gccIn := [([0x22, 15], 0)] })), by decide +kernel⟩,
   ⟨0, 63, up (regs [(Reg.CLE_JOB_TBL, 8 * 63)] {}), by decide +kernel⟩,
   ⟨0, 506, up (regs [(Reg.CLE_JOB_TBL, 506)] (fns [(.ctx 0, .on)] {})), by decide +kernel⟩⟩

theorem test_hyps_ModulesAndFade :
    (∃ (n : Fin 16) (_ : Bool) (s : State), (s.core.optic n).present = true) ∧
    (∃ (n : Fin 16) (_ : Bool) (s : State), (s.core.optic n).present = true) ∧
    (∃ (n : Fin 16) (s : State), (s.core.optic n).present = false) ∧
    (∃ (n : Fin 16) (s : State), (s.core.optic n).present = false) ∧
    (∃ (_ : Fin 16) (r : BringUp) (_ : State), r.status = stOk) ∧
    (∃ (_ : Fin 16) (r : BringUp) (_ : State), r.status ≠ stOk ∧ r.ident = 0) ∧
    (∃ (_ : Fin 16) (r : BringUp) (_ : State), r.status ≠ stOk ∧ r.ident ≠ 0) ∧
    (∃ (n : Fin 16) (_ : OptRead) (s : State), (s.core.optic n).ready = true ∧ s.core.sampleOff n = false ∧
      (s.core.optic n).vdm = false) ∧
    (∃ (n : Fin 16) (_ : OptRead) (s : State), (s.core.optic n).ready = true ∧ s.core.sampleOff n = false ∧
      (s.core.optic n).vdm = true) ∧
    (∃ (n : Fin 16) (_ : OptRead) (s : State), (s.core.optic n).ready = true ∧ bitAt (s.core.lp n).eff 0 = true) :=
  ⟨⟨15, true, up (({} : Core).setOptic 15 { present := true }), by decide +kernel⟩,
   ⟨15, true, up (({} : Core).setOptic 15 { present := true }), by decide +kernel⟩,
   ⟨15, up {}, by decide +kernel⟩,
   ⟨15, up {}, by decide +kernel⟩,
   ⟨15, { status := 0, ident := 0, mstate := 3, hopSig := true, entries := 256, vdm := true }, up {},
     by decide +kernel⟩,
   ⟨15, { status := 17, ident := 0, mstate := 3, hopSig := true, entries := 256, vdm := true }, up {},
     by decide +kernel⟩,
   ⟨15, { status := 17, ident := 1, mstate := 3, hopSig := true, entries := 256, vdm := true }, up {},
     by decide +kernel⟩,
   ⟨15, { txBias := 0, txPwr := 0, rxPwr := 0, osnr := 0, margin := 0, berNlog := 0 }, up (({} : Core).setOptic
     15 { present := true, mstate := 3 }), by decide +kernel⟩,
   ⟨15, { txBias := 0, txPwr := 0, rxPwr := 0, osnr := 0, margin := 0, berNlog := 0 }, up (({} : Core).setOptic
     15 { present := true, mstate := 3, vdm := true }), by decide +kernel⟩,
   ⟨15, { txBias := 0, txPwr := 0, rxPwr := 0, osnr := 0, margin := 0, berNlog := 0 }, up (setLp 15 { eff := 1 } (({}
     : Core).setOptic 15 { present := true, mstate := 3 })), by decide +kernel⟩⟩

theorem test_hyps_HealthAndLaserSafe :
    (∃ (s : State), s.core.opc.hsSec ≤ s.core.gns / 1000000000) ∧
    (∃ (s : State), s.answers = true ∧ s.core.opc.lsafe = false) ∧
    (∃ (s : State), s.answers = true ∧ s.core.opc.lsafe = true) ∧
    (∃ (_ : Fin 16) (s : State), s.answers = true) ∧
    (∃ (_ : Fin 16) (s : State), s.answers = true) ∧
    (∃ (v : Word) (s : State), s.answers = true ∧ s.core.opc.acc = none ∧
      (bitAt v.toNat 31 = false ∨ maccDenied (fld v.toNat 26 19) (fld v.toNat 18 11) = false)) ∧
    (∃ (v : Word) (s : State), s.answers = true ∧ s.core.opc.acc = none ∧ bitAt v.toNat 31 = true ∧
      maccDenied (fld v.toNat 26 19) (fld v.toNat 18 11) = true) ∧
    (∃ (_ : Word) (s : State), s.answers = true ∧ s.core.opc.acc ≠ none) ∧
    (∃ (n : Nat) (p : Nat) (b : Nat) (d : Nat) (_ : Byte) (s : State), s.core.opc.acc = some (n, false, p, b, d)) ∧
    (∃ (n : Nat) (p : Nat) (b : Nat) (d : Nat) (_ : Byte) (s : State), s.core.opc.acc = some (n, true, p, b, d)) ∧
    (∃ (n : Nat) (p : Nat) (b : Nat) (d : Nat) (wr : Bool) (_ : Byte) (s : State), s.core.opc.acc = some (n, wr, p,
      b, d)) :=
  ⟨⟨up {}, by decide +kernel⟩,
   ⟨up {}, by decide +kernel⟩,
   ⟨up { opc := { lsafe := true } }, by decide +kernel⟩,
   ⟨15, up {}, by decide +kernel⟩,
   ⟨15, up {}, by decide +kernel⟩,
   ⟨0, up {}, by decide +kernel⟩,
   ⟨word (2 ^ 31 + 26 * 2 ^ 11), up {}, by decide +kernel⟩,
   ⟨0, up { opc := { acc := some (15, false, 0, 0, 0) } }, by decide +kernel⟩,
   ⟨15, 255, 255, 0, 0xFF, up { opc := { acc := some (15, false, 255, 255, 0) } }, by decide +kernel⟩,
   ⟨15, 255, 255, 0, 0xFF, up { opc := { acc := some (15, true, 255, 255, 0) } }, by decide +kernel⟩,
   ⟨15, 255, 255, 0, true, 0xFF, up { opc := { acc := some (15, true, 255, 255, 0) } }, by decide +kernel⟩⟩

theorem test_hyps_StartsAndResets :
    (∃ (c : Instr) (_ : State), (c = .powerOn ∨ c = .coldReset)) ∧
    (∃ (s : State), s.aon.pwr.trip = false) ∧
    (∃ (s : State), s.aon.pwr.trip = true) ∧
    (∃ (r : StepResult) (s : State), s.stepRuns = true ∧ s.aon.boot.step = 1 ∧ r.ok = true) ∧
    (∃ (r : StepResult) (s : State), s.stepRuns = true ∧ s.aon.boot.step = 7 ∧ r.ok = true ∧ s.aon.pwr.qreq = false) ∧
    (∃ (r : StepResult) (s : State), s.stepRuns = true ∧ r.ok = false ∧ optionalStep s.aon.boot.step = false) ∧
    (∃ (_ : Nat) (s : State), s.stepRuns = true ∧ optionalStep s.aon.boot.step = false ∧
      s.aon.boot.stepT + stepLimit s.aon.boot.step s.aon.boot.method ≤ s.aon.now) ∧
    (∃ (_ : Nat) (s : State), s.stepRuns = true ∧ s.aon.boot.step = 7 ∧ s.altFor 7 = true ∧ s.aon.pwr.qreq = false ∧
      s.aon.boot.stepT + stepLimit 7 s.aon.boot.method ≤ s.aon.now) ∧
    (∃ (_ : Nat) (s : State), s.aon.now < s.aon.boot.stepT + stepLimit s.aon.boot.step s.aon.boot.method) :=
  ⟨⟨.coldReset, State.reset, by decide +kernel⟩,
   ⟨State.reset, by decide +kernel⟩,
   ⟨island {} { trip := true } 0, by decide +kernel⟩,
   ⟨{ ok := true, status := 0, excluded := 0, alternate := 0, margins := [] }, island { step := 1 } {} 0,
     by decide +kernel⟩,
   ⟨{ ok := true, status := 0, excluded := 0, alternate := 0, margins := [] }, island { step := 7 } {} 0,
     by decide +kernel⟩,
   ⟨{ ok := false, status := 0, excluded := 0, alternate := 0, margins := [] }, island { step := 14 } {} 0,
     by decide +kernel⟩,
   ⟨0, island { step := 1 } {} (10 ^ 9), by decide +kernel⟩,
   ⟨0, { island { step := 7 } {} (10 ^ 10) with nvm := { bootNum := 2, journal := [{ step := 7, mark := 3, method := 0, warm := false, image := 0, status := 0, bootNum := 1, time := 0, arg := 0 }] } }, by decide +kernel⟩,
   ⟨0, island { step := 1 } {} 0, by decide +kernel⟩⟩

theorem test_hyps_PowerAndHotPlug :
    (∃ (s : State), s.aon.pwr.pwrEn = false ∧ s.aon.boot.phase = 0 ∧ s.aon.boot.step = 0 ∧ s.aon.pwr.vinOk = true ∧
      s.aon.pwr.pst = .standby) ∧
    (∃ (s : State), s.aon.pwr.pwrEn = false ∧ s.aon.boot.phase = 0 ∧ s.aon.boot.step = 2 ∧ s.aon.boot.wait = true ∧
      s.aon.pwr.quStage = 0 ∧ s.aon.pwr.pst = .standby ∧ s.aon.pwr.pdT = none ∧ s.aon.pwr.trip = false) ∧
    (∃ (s : State), s.aon.pwr.pwrEn = true ∧ s.aon.pwr.pst = .safe) ∧
    (∃ (c : Instr) (s : State), (c = .pwrEnFall ∧ s.aon.pwr.pst = .on ∨ c = .prsntNRelease) ∧
      s.aon.pwr.pwrEn = true ∧ s.aon.pwr.pst ≠ .fail) ∧
    (∃ (n : Nat) (c : Instr) (s : State), (c = .inputUndervoltage n ∧ n < 38000 ∨ c = .inputOvervoltage n ∧
      62000 < n ∨ c = .inputOvercurrent n ∧ 24000 < n) ∧ s.aon.pwr.pst ≠ .fail) ∧
    (∃ (n : Nat) (c : Instr) (s : State), (c = .inputUndervoltage n ∧ n < 38000 ∨ c = .inputOvervoltage n ∧
      62000 < n ∨ c = .inputOvercurrent n ∧ 24000 < n) ∧ s.aon.pwr.pst ≠ .fail) ∧
    (∃ (n : Nat) (c : Instr) (s : State), (c = .inputUndervoltage n ∧ n < 38000 ∨ c = .inputOvervoltage n ∧
      62000 < n ∨ c = .inputOvercurrent n ∧ 24000 < n) ∧ s.aon.pwr.pst ≠ .fail) ∧
    (∃ (n : Nat) (c : Instr) (_ : State), (c = .inputUndervoltage n ∧ 38000 ≤ n ∨ c = .inputOvervoltage n ∧
      n ≤ 62000 ∨ c = .inputOvercurrent n ∧ n ≤ 24000)) ∧
    (∃ (n : Nat) (c : Instr) (_ : State), (c = .inputUndervoltage n ∧ 38000 ≤ n ∨ c = .inputOvervoltage n ∧
      n ≤ 62000 ∨ c = .inputOvercurrent n ∧ n ≤ 24000)) ∧
    (∃ (n : Nat) (c : Instr) (_ : State), (c = .inputUndervoltage n ∧ 38000 ≤ n ∨ c = .inputOvervoltage n ∧
      n ≤ 62000 ∨ c = .inputOvercurrent n ∧ n ≤ 24000)) ∧
    (∃ (r : Nat) (_ : Nat) (_ : Nat) (_ : State), r < 16) ∧
    (∃ (s : State), s.aon.pwr.qreq = false ∧ s.aon.pwr.pst = .on ∧ s.aon.boot.phase = 1 ∧ s.core.liveFns = [] ∧
      s.core.cle.failQ = [] ∧ s.otp.busy = none ∧ s.nvm.busy = none) ∧
    (∃ (s : State), s.aon.pwr.qreq = false ∧ (s.aon.pwr.pst ≠ .on ∨ s.aon.boot.phase = 0)) ∧
    (∃ (s : State), s.aon.pwr.qreq = true ∧ s.aon.pwr.pst = .safe ∧ s.aon.pwr.pdT = none ∧ s.aon.boot.phase = 1) ∧
    (∃ (s : State), 2 ≤ s.aon.pwr.quStage ∧ s.aon.pwr.quStage ≤ 4 ∧
      s.aon.pwr.quT + 1000000 * s.aon.fd Reg.PWR_QLIM 15 0 ≤ s.aon.now ∧ s.otp.busy = none ∧ s.nvm.busy = none) :=
  ⟨⟨State.reset, by decide +kernel⟩,
   ⟨island { step := 2, wait := true } {} 0, by decide +kernel⟩,
   ⟨island {} { pwrEn := true, pst := .safe } 0, by decide +kernel⟩,
   ⟨.pwrEnFall, island {} { pwrEn := true, pst := .on } 0, by decide +kernel⟩,
   ⟨62001, .inputOvervoltage 62001, State.reset, by decide +kernel⟩,
   ⟨37999, .inputUndervoltage 37999, State.reset, by decide +kernel⟩,
   ⟨24001, .inputOvercurrent 24001, State.reset, by decide +kernel⟩,
   ⟨62000, .inputOvervoltage 62000, State.reset, by decide +kernel⟩,
   ⟨38000, .inputUndervoltage 38000, State.reset, by decide +kernel⟩,
   ⟨24000, .inputOvercurrent 24000, State.reset, by decide +kernel⟩,
   ⟨15, 0, 0, State.reset, by decide +kernel⟩,
   ⟨up {}, by decide +kernel⟩,
   ⟨State.reset, by decide +kernel⟩,
   ⟨island { phase := 1 } { qreq := true, pst := .safe } 0, by decide +kernel⟩,
   ⟨island {} { quStage := 2 } (10 ^ 11), by decide +kernel⟩⟩

theorem test_hyps_ThermalAndClocks :
    (∃ (t0 : Nat) (n : Nat) (s : State), s.aon.pwr.stepT = some (t0, n) ∧
      t0 + 1000000 * s.aon.fd Reg.THM_STEP 15 0 ≤ s.aon.now) ∧
    (∃ (i : Fin 16) (s : State), bitAt s.aon.pwr.lock i = true) :=
  ⟨⟨0, 63, island {} { stepT := some (0, 63) } (10 ^ 12), by decide +kernel⟩,
   ⟨15, island {} { lock := 2 ^ 15 } 0, by decide +kernel⟩⟩

theorem test_hyps_LocusAndQuarantine :
    (∃ (s : State), s.core.gns / 86400000000000 ≠ s.aon.pwr.day) ∧
    (∃ (u : Fin 752) (s : State), (s.aon.quarantine u).state = 1 ∧ s.aon.boot.phase = 1 ∧ s.answers = true ∧
      (s.aon.quarantine u).bin ≤ tempBin (s.tempAt (unitSensor u))) ∧
    (∃ (u : Fin 752) (s : State), (s.aon.quarantine u).state = 1 ∧ s.aon.boot.phase = 1 ∧ s.answers = true ∧
      (s.aon.quarantine u).bin ≤ tempBin (s.tempAt (unitSensor u))) ∧
    (∃ (u : Fin 1024) (s : State), u.val ≤ 751 ∧ unitKind u ≠ 5 ∧ (s.aon.quarantine u).state = 0) ∧
    (∃ (u : Fin 1024) (_ : State), u.val ≤ 751 ∧ unitKind u ≠ 5) ∧
    (∃ (u : Fin 1024) (c : Instr) (_ : State), (c = .elcQuarantine u ∨ c = .elcRelease u) ∧
      (751 < u.val ∨ unitKind u = 5)) :=
  ⟨⟨up (clk 86400000000000 {}), by decide +kernel⟩,
   ⟨751, { up {} with aon := { (up {}).aon with pwr := { pst := .on, quar := ({} : SMap Quar).set {} 751 { state := 1 }, sens := ({} : SMap Sensor).set {} (unitSensor 751) { valid := true } } } }, by decide +kernel⟩,
   ⟨751, { up {} with aon := { (up {}).aon with pwr := { pst := .on, quar := ({} : SMap Quar).set {} 751 { state := 1 }, sens := ({} : SMap Sensor).set {} (unitSensor 751) { valid := true } } } }, by decide +kernel⟩,
   ⟨495, up {}, by decide +kernel⟩,
   ⟨495, up {}, by decide +kernel⟩,
   ⟨752, .elcQuarantine 752, up {}, by decide +kernel⟩⟩

theorem test_hyps_FlashCommands :
    (∃ (c : Instr) (n : Nat) (i : Fin 2) (s : State), (c = .nvmErase i ∧ n = 1 ∨ c = .nvmVerify i ∧ n = 3) ∧
      s.nvm.busy = none ∧ s.quieted = false ∧ i.val ≠ s.aon.boot.image) ∧
    (∃ (i : Fin 2) (page : Nat) (s : State), page ≤ 98303 ∧ s.nvm.busy = none ∧ s.quieted = false ∧
      i.val ≠ s.aon.boot.image) ∧
    (∃ (c : Instr) (i : Fin 2) (page : Nat) (s : State), (c = .nvmErase i ∨ c = .nvmVerify i ∨ c = .nvmProgram i
      page) ∧ (s.nvm.busy ≠ none ∨ (s.quieted = false ∧ (i.val = s.aon.boot.image ∨ (c = .nvmProgram i page ∧
      98303 < page))))) ∧
    (∃ (c : Instr) (i : Fin 2) (page : Nat) (s : State), (c = .nvmErase i ∨ c = .nvmVerify i ∨ c = .nvmProgram i
      page) ∧ (s.nvm.busy ≠ none ∨ (s.quieted = false ∧ (i.val = s.aon.boot.image ∨ (c = .nvmProgram i page ∧
      98303 < page))))) ∧
    (∃ (i : Nat) (p : Nat) (s : State), s.nvm.busy = some (1, i, p) ∧ s.aon.pwr.quStage = 0) ∧
    (∃ (i : Nat) (p : Nat) (s : State), s.nvm.busy = some (3, i, p) ∧ s.aon.pwr.quStage = 0) :=
  ⟨⟨.nvmErase 1, 1, 1, up {}, by decide +kernel⟩,
   ⟨1, 98303, up {}, by decide +kernel⟩,
   ⟨.nvmProgram 1 98304, 1, 98304, up {}, by decide +kernel⟩,
   ⟨.nvmErase 0, 0, 0, up {}, by decide +kernel⟩,
   ⟨1, 0, { up {} with nvm := { busy := some (1, 1, 0) } }, by decide +kernel⟩,
   ⟨1, 0, { up {} with nvm := { busy := some (3, 1, 0) } }, by decide +kernel⟩⟩

theorem test_hyps_OtpWrites :
    (∃ (n : Nat) (c : Instr) (_ : State), (c = .otpSite ∧ n = 1 ∨ c = .otpRollbackInc ∧ n = 2 ∨ c = .otpKekFirst ∧
      n = 3 ∨ c = .otpKekNext ∧ n = 4 ∨ c = .otpLinemask ∧ n = 5 ∨ c = .otpDebugLock ∧ n = 6 ∨ c = .otpRootHash ∧
      n = 7)) ∧
    (∃ (n : Nat) (d : List Word) (s : State), s.otp.busy = some (n, d) ∧ (n = 1 ∨ n = 2 ∨ n = 5 ∨ n = 7)) ∧
    (∃ (d : List Word) (s : State), s.otp.busy = some (3, d) ∧ s.aon.pwr.quStage = 0) ∧
    (∃ (d : List Word) (k : BitVec 256) (s : State), s.otp.busy = some (4, d) ∧
      s.otp.nextKek (d.map (·.toNat)) = some k) ∧
    (∃ (d : List Word) (s : State), s.otp.busy = some (6, d)) :=
  ⟨⟨7, .otpRootHash, up {}, by decide +kernel⟩,
   ⟨7, [], { up {} with otp := { busy := some (7, []) } }, by decide +kernel⟩,
   ⟨[], { up {} with otp := { busy := some (3, []) } }, by decide +kernel⟩,
   ⟨nextKek, BitVec.ofNat 256
     0x202020202020202020202020202020202020202020202020202020202020202, { up {} with otp := { kek := some 0, busy := some (4, nextKek) } }, by decide +kernel⟩,
   ⟨[], { up {} with otp := { busy := some (6, []) } }, by decide +kernel⟩⟩

theorem test_hyps_DescriptorsTaken :
    (∃ (s : State), s.core.desc = none ∧ s.core.frt.desc = []) ∧
    (∃ (p : Packet) (rest : List Packet) (s : State), s.core.desc = none ∧ s.core.frt.desc = p :: rest ∧
      s.descShut = true) ∧
    (∃ (p : Packet) (rest : List Packet) (st : Nat) (s : State), s.core.desc = none ∧ s.core.frt.desc = p :: rest ∧
      s.descShut = false ∧ s.descCheck (hSrc p.hdr) p.payload = .error st) ∧
    (∃ (p : Packet) (rest : List Packet) (body : List Byte) (s : State), s.core.desc = none ∧
      s.core.frt.desc = p :: rest ∧ s.descShut = false ∧ s.descCheck (hSrc p.hdr) p.payload = .ok body ∧
      bytesToWords body ≠ [] ∧ (takeRec (bytesToWords body)).1 = .bad) :=
  ⟨⟨up {}, by decide +kernel⟩,
   ⟨desc, [], { admitting desc with aon := { pwr := { pst := .safe } } }, by decide +kernel⟩,
   ⟨desc, [], stDenied, up { frt := { desc := [desc] } }, by decide +kernel⟩,
   ⟨desc, [], [0, 0, 0, 0], admitting desc, by decide +kernel⟩⟩

theorem test_hyps_GuaranteedOperations :
    (∃ (o : Nat) (t0 : Nat) (s : State), s.aon.mop.arm = some (o, t0)) ∧
    (∃ (c : Instr) (n : Nat) (s : State), (c = .zeroize ∧ n = 1 ∨ c = .hardReset ∧ n = 3) ∧ s.armed n = false) ∧
    (∃ (c : Instr) (s : State), (c = .zeroize ∧ s.armed 1 = true ∨ c = .zeroizeNAssert ∨ c = .dbgEnter ∧
      s.otp.locked = false) ∧ (∀ i, i < 4096 → s.core.slotFlows i = [] ∧ s.core.slotGroups i = []) ∧
      s.core.cle.failQ = []) ∧
    (∃ (s : State), s.otp.locked = true) ∧
    (∃ (s : State), s.armed 3 = true) :=
  ⟨⟨3, 0, { State.reset with aon := { mop := { arm := some (3, 0) } } }, by decide +kernel⟩,
   ⟨.hardReset, 3, State.reset, by decide +kernel⟩,
   ⟨.dbgEnter, State.reset, by decide, fun i _ => ⟨rfl, List.filter_eq_nil_iff.2 fun g hg => by
    have h : ∀ g ∈ List.range 8, bitAt (State.reset.core.rd (Reg.CIP_G_SLOT g)) 31 = false := by decide +kernel
    simp [h g hg]⟩, rfl⟩,
   ⟨{ State.reset with otp := { locked := true } }, by decide +kernel⟩,
   ⟨{ State.reset with aon := { mop := { arm := some (3, 0) } } }, by decide +kernel⟩⟩

theorem test_hyps_AsterLogAndExport :
    (∃ (T : Nat) (s : State), s.answers = true ∧
      T = s.core.rd Reg.MGT_ASTER_T_LO + 2 ^ 32 * s.core.rd Reg.MGT_ASTER_T_HI) ∧
    (∃ (s : State), s.answers = true) ∧
    (∃ (T : Nat) (s : State), s.core.mgt.asterT = some T ∧ s.core.mgt.latching = false ∧ T ≤ s.core.gns) ∧
    (∃ (T : Nat) (s : State), s.core.mgt.asterT = some T ∧ s.core.mgt.latching = true) ∧
    (∃ (e : Event) (l : List Event) (s : State), s.core.evl.running = true ∧ s.core.evl.intake = e :: l ∧
      s.core.evl.dropped = 0) ∧
    (∃ (n : Nat) (s : State), n = tlmFit 24 s.core.tlm.fifo ∧ n ≠ 0 ∧ s.core.tlm.link = true ∧
      s.core.tlm.pauseTill ≤ s.core.now ∧ (n < s.core.tlm.fifo.length ∨ s.core.tlm.curT + 10000 ≤ s.core.now)) ∧
    (∃ (s : State), (s.core.tlm.link = false ∨ s.core.now < s.core.tlm.pauseTill)) ∧
    (∃ (_ : Nat) (s : State), bitAt (s.core.rd Reg.TLM_CFG) 29 = true) :=
  ⟨⟨0, up {}, by decide +kernel⟩,
   ⟨up {}, by decide +kernel⟩,
   ⟨0, up { mgt := { asterT := some 0 } }, by decide +kernel⟩,
   ⟨0, up { mgt := { asterT := some 0, latching := true } }, by decide +kernel⟩,
   ⟨{}, [], up { evl := { running := true, intake := [{}] } }, by decide +kernel⟩,
   ⟨1, up (clk 10000 { tlm := { link := true, fifo := [{ typ := 1, body := [] }] } }), by decide +kernel⟩,
   ⟨up {}, by decide +kernel⟩,
   ⟨0, up (regs [(Reg.TLM_CFG, 2 ^ 29)] {}), by decide +kernel⟩⟩

theorem test_hyps_FlowCommandsWithoutEffect :
    (∃ (c : Instr) (f : Fin 16384) (st : Nat) (s : State), s.answers = true ∧ ((c = .flowEnable f ∧
      s.core.fst (.flow f) = .on ∧ st = stOk) ∨ (c = .flowDisable f ∧ s.core.fst (.flow f) = .off ∧
      st = stOk) ∨ (c = .flowEnable f ∧ s.core.fst (.flow f) = .faulted ∧ st = stBusy))) ∧
    (∃ (c : Instr) (f : Fin 16384) (st : Nat) (s : State), s.answers = true ∧ ((c = .flowEnable f ∧
      s.core.fst (.flow f) = .on ∧ st = stOk) ∨ (c = .flowDisable f ∧ s.core.fst (.flow f) = .off ∧
      st = stOk) ∨ (c = .flowEnable f ∧ s.core.fst (.flow f) = .faulted ∧ st = stBusy))) ∧
    (∃ (c : Instr) (f : Fin 16384) (st : Nat) (s : State), s.answers = true ∧ ((c = .flowEnable f ∧
      s.core.fst (.flow f) = .on ∧ st = stOk) ∨ (c = .flowDisable f ∧ s.core.fst (.flow f) = .off ∧
      st = stOk) ∨ (c = .flowEnable f ∧ s.core.fst (.flow f) = .faulted ∧ st = stBusy))) :=
  ⟨⟨.flowEnable 16383, 16383, stOk, up (fns [(.flow 16383, .on)] {}), by decide +kernel⟩,
   ⟨.flowDisable 0, 0, stOk, up {}, by decide +kernel⟩,
   ⟨.flowEnable 0, 0, stBusy, up (fns [(.flow 0, .faulted)] {}), by decide +kernel⟩⟩

theorem test_hyps_EscapeRoutesHeldWhileRouterRuns :
    (∃ (_ : Path) (_ : Word) (s : State), s.aon.pwr.vinOk = true ∧ s.answers = true ∧ s.core.cle.failQ = []) ∧
    (∃ (_ : Path) (_ : Word) (w : Nat) (s : State), s.aon.pwr.vinOk = true ∧ s.answers = true ∧
      s.core.cle.failQ = [] ∧ w = s.core.fd Reg.FRT_ESC_TBL 23 0 ∧ w < 65536) :=
  ⟨⟨.spi, 0, up {}, by decide +kernel⟩,
   ⟨.spi, 0, 65535, up (regs [(Reg.FRT_ESC_TBL, 65535)] {}), by decide +kernel⟩⟩

theorem test_hyps_SixtyFourBitPairs :
    ∃ (_ : State) (_ : State) (a : Nat) (i : Nat) (r : RegRow) (_ : Bool) (_ : Bool), regAt a = some (r, i) ∧
      (r.acc = .roLo ∨ r.acc = .rwLo ∨ r.acc = .cumLo) :=
  ⟨State.reset, State.reset, Reg.TBS_TIME_LO, 0, rowOf Reg.TBS_TIME_LO (by decide +kernel), true, true,
    by decide +kernel⟩

theorem test_hyps_RoundRobinGrantsTheNextClaimer :
    ∃ (n : Nat) (_ : Nat) (_ : Nat → Bool), 0 < n :=
  ⟨1, 0, fun _ => true, by decide +kernel⟩

theorem test_hyps_CipherRoundTrip :
    ∃ (_ : BitVec 256) (iv : List Byte) (_ : List Byte) (_ : List Byte), iv.length = 12 :=
  ⟨0, List.replicate 12 0, [], [], by decide +kernel⟩

theorem test_hyps_OtpLimitsKept :
    ∃ s t : State, step s = .next t ∧ s.otp.inLimits :=
  ⟨State.reset, _, rfl, by simp [Otp.inLimits, State.reset]⟩

theorem test_hyps_DebugLockKept :
    ∃ s t : State, step s = .next t ∧ s.otp.noSession ∧ s.otp.locked = true :=
  ⟨{ State.reset with otp := { locked := true } }, _, rfl, fun _ => rfl, rfl⟩

theorem test_hyps_MemoryStaysCanonical :
    ∃ s t : State, step s = .next t ∧ Memory.wf s.core.mem = true :=
  ⟨State.reset, _, rfl, rfl⟩

theorem test_hyps_OtpSettingsChangeOnlyWhereTheyMay :
    ∃ (c : Instr) (s t : State), exec c s = .next t :=
  ⟨.flowEnable 0, State.reset, _, rfl⟩

theorem test_hyps_KeysCannotBeRead :
    ∃ (s : State) (s' : State) (_ : Nat) (_ : Bool), s.blind = s'.blind :=
  ⟨up {}, up { cip := { kek := some 7 } }, 0, true, by decide +kernel⟩

end Sys2Proof.Tests
end

section
/-!
PROOFS. Register access (00_scope R5 to R11, 16_management R442, R443): 64-bit pairs are read as one value, and the
management frames REGISTER_WRITE, WINDOW_DATA_ACCESS, RC_READ and LOW_WORD_READ execute and answer.
-/

namespace Sys2Proof.Machine

open Sys2Proof

/-! ### The register map -/

/-- A register found is a row of the list, and the address is one of the row's. -/
theorem findRow_eq_some {a i : Nat} {r : RegRow} : ∀ {l : List RegRow}, findRow a l = some (r, i) → r ∈ l ∧ r.inst a = some i
  | q :: l, h => by
    unfold findRow at h
    split at h
    case h_1 j hj =>
      obtain ⟨rfl, rfl⟩ : q = r ∧ j = i := by simpa using h
      exact ⟨List.mem_cons_self, hj⟩
    case h_2 =>
      obtain ⟨hm, hi⟩ := findRow_eq_some h
      exact ⟨List.mem_cons_of_mem _ hm, hi⟩

/-- The address number `i` of a row. -/
theorem RegRow.inst_eq_some {r : RegRow} {a i : Nat} (h : r.inst a = some i) :
    i < max 1 r.n ∧ a = r.base + i * r.stride := by
  unfold RegRow.inst at h
  split at h
  · contradiction
  next hb =>
    split at h
    next hn =>
      obtain ⟨ha, rfl⟩ : a = r.base ∧ 0 = i := by simpa using h
      exact ⟨by omega, by omega⟩
    next hn =>
      obtain ⟨⟨hm, hq⟩, rfl⟩ : ((a - r.base) % r.stride = 0 ∧ (a - r.base) / r.stride < r.n) ∧
          (a - r.base) / r.stride = i := by simpa using h
      have hdiv := Nat.div_mul_cancel (Nat.dvd_of_mod_eq_zero hm)
      exact ⟨by omega, by omega⟩

/-- The low word of a 64-bit pair. -/
def Acc.isLow : Acc → Bool
  | .roLo | .rwLo | .cumLo => true
  | _ => false

/-- The high word of a 64-bit pair. -/
def Acc.isHigh : Acc → Bool
  | .roHi | .rwHi | .cumHi => true
  | _ => false

theorem Acc.isLow_iff {c : Acc} : c.isLow = true ↔ c = .roLo ∨ c = .rwLo ∨ c = .cumLo := by
  cases c <;> simp [Acc.isLow]

/-- Four addresses above address `i` of the row stands address `i` of a row of high words. -/
def RegRow.pairedAt (r : RegRow) (i : Nat) : Bool :=
  (regAt (r.base + i * r.stride + 4)).any (fun q => q.1.acc.isHigh && q.2 == i)

/-- The map pairs every low word: a check of the 119 low words it holds. -/
theorem regRows_paired :
    regRows.all (fun r => !r.acc.isLow || (List.range (max 1 r.n)).all r.pairedAt) = true := by decide +kernel

/-- Four addresses above a low word stands its high word, of the same number in its row (00_scope R9). -/
theorem regAt_high_of_low {a i : Nat} {r : RegRow} (h : regAt a = some (r, i)) (hl : r.acc.isLow = true) :
    ∃ q, regAt (a + 4) = some (q, i) ∧ q.acc.isHigh = true := by
  obtain ⟨hm, hi⟩ := findRow_eq_some h
  obtain ⟨hlt, rfl⟩ := RegRow.inst_eq_some hi
  have hall := List.all_eq_true.1 regRows_paired r hm
  rw [hl, Bool.not_true, Bool.false_or] at hall
  have hp : r.pairedAt i = true := List.all_eq_true.1 hall i (List.mem_range.2 hlt)
  unfold RegRow.pairedAt at hp
  obtain ⟨⟨q, j⟩, hq, hj⟩ := (Option.any_eq_true _ _).1 hp
  obtain ⟨hh, rfl⟩ : q.acc.isHigh = true ∧ j = i := by simpa using hj
  exact ⟨q, hq, hh⟩

/-- Marigold's addresses lie below all others. -/
theorem isAon_add {a : Nat} (h : isAon a = false) (n : Nat) : isAon (a + n) = false := by
  simp only [isAon, decide_eq_false_iff_not] at h ⊢
  omega

/-! ### Holding copies (00_scope R9) -/

section
variable (s : State)

/-- The copy held for the high word at `h`, in Marigold or in the core. -/
def State.held (h : Nat) : Option Word := if isAon h then s.aon.hold.get none h else s.core.hold.get none h

theorem State.held_of_hold {s t : State} (hk : t.core.hold = s.core.hold) (ha : t.aon.hold = s.aon.hold) (h : Nat) :
    t.held h = s.held h := by
  unfold State.held; rw [hk, ha]

/-- Hold a copy of the live word at `h`, number `i` of its row. -/
def State.keep (i h : Nat) : State :=
  if isAon h then { s with aon := { s.aon with hold := s.aon.hold.set none h (some (word (s.view h i))) } }
  else { s with core := { s.core with hold := s.core.hold.set none h (some (word (s.view h i))) } }

theorem State.latchHigh_eq (a i : Nat) :
    s.latchHigh a i = if a = Reg.TBS_TIME_LO then (s.keep i (a + 4)).keep i (a + 8) else s.keep i (a + 4) := (rfl)

theorem State.held_keep_same (i h : Nat) : (s.keep i h).held h = some (word (s.view h i)) := by
  unfold State.keep State.held
  by_cases hA : isAon h = true
  · simp only [if_pos hA, SMap.get_set_same]
  · simp only [if_neg hA, SMap.get_set_same]

theorem State.held_keep_ne {h g : Nat} (hg : g ≠ h) (i : Nat) : (s.keep i h).held g = s.held g := by
  unfold State.keep State.held
  by_cases hA : isAon h = true
  · simp only [if_pos hA, SMap.get_set_ne _ _ _ hg]
  · simp only [if_neg hA, SMap.get_set_ne _ _ _ hg]

/-- A read of a low word leaves its high word's copy. -/
theorem State.held_latchHigh (a i : Nat) : (s.latchHigh a i).held (a + 4) = some (word (s.view (a + 4) i)) := by
  rw [State.latchHigh_eq]
  split
  · rw [State.held_keep_ne _ (by omega), State.held_keep_same]
  · exact s.held_keep_same i (a + 4)

/-- A copy held is what a read of the high word returns. -/
theorem State.readHigh_of_held {a i : Nat} {v : Word} (h : s.held a = some v) : (s.readHigh a i).2 = v.toNat := by
  unfold State.held at h
  unfold State.readHigh
  by_cases hA : isAon a = true
  · simp only [if_pos hA] at h ⊢
    rw [h]
  · simp only [if_neg hA] at h ⊢
    rw [h]

/-- With no copy held a read of the high word returns the live word and changes nothing. -/
theorem State.readHigh_of_not_held {a i : Nat} (h : s.held a = none) : s.readHigh a i = (s, s.view a i) := by
  unfold State.held at h
  unfold State.readHigh
  by_cases hA : isAon a = true
  · simp only [if_pos hA] at h ⊢
    rw [h]
  · simp only [if_neg hA] at h ⊢
    rw [h]

/-- A read of the high word forgets its copy. -/
theorem State.held_readHigh (a i : Nat) : (s.readHigh a i).1.held a = none := by
  unfold State.readHigh State.held
  by_cases hA : isAon a = true
  · cases h : s.aon.hold.get none a <;> simp [hA, h]
  · cases h : s.core.hold.get none a <;> simp [hA, h]

/-! ### Reads by the register's kind -/

theorem State.readReg_low {a i : Nat} {r : RegRow} (h : regAt a = some (r, i)) (hl : r.acc.isLow = true) (mg : Bool) :
    s.readReg a mg = (s.latchHigh a i, s.view a i, false) := by
  unfold State.readReg
  rw [h]
  rcases Acc.isLow_iff.1 hl with e | e | e <;> simp [e]

theorem State.readReg_high {a i : Nat} {r : RegRow} (h : regAt a = some (r, i)) (hh : r.acc.isHigh = true) (mg : Bool) :
    s.readReg a mg = ((s.readHigh a i).1, (s.readHigh a i).2, false) := by
  unfold State.readReg
  rw [h]
  cases e : r.acc <;> simp_all [Acc.isHigh]

end

/-! ### What a management frame executes and answers (16_management R441 to R443, 19_register_index R508) -/

section
variable (s : State)

theorem State.frameSt_of_aon {a : Nat} (h4 : a % 4 = 0) (hr : (regAt a).isSome = true) (ha : isAon a = true) :
    s.frameSt a = stOk := by
  unfold State.frameSt
  rw [if_neg (not_not.2 h4), if_neg (by simp [Option.isNone_iff_eq_none, Option.ne_none_iff_isSome, hr]), ha]
  simp

/-- A WRITE frame that is executed: the register's write, its status in LAST_ST, the answer. -/
theorem State.mgmtWrite_of_ok {a : Nat} (hv : s.aon.pwr.vinOk = true) (hf : s.frameSt a = stOk) (p : Path) {v st : Nat}
    {t : State} (hw : (s.executed p).writeReg a v true = (t, st)) :
    s.mgmtWrite p a v = (t.putStat a st).answer p stOk none none := by
  unfold State.mgmtWrite
  simp only [hv, hf, hw, Bool.not_true, Bool.false_eq_true, if_false, ne_eq, not_true_eq_false]

/-- A READ frame that is executed: the register's read, and the answer with its value. -/
theorem State.mgmtRead_of_ok {a : Nat} (hv : s.aon.pwr.vinOk = true) (hf : s.frameSt a = stOk) (p : Path) {t : State}
    {v : Nat} (hr : (s.executed p).readReg a true = (t, v, false)) :
    s.mgmtRead p a = t.answer p stOk (some (word v)) none := by
  unfold State.mgmtRead
  simp only [hv, hf, hr, Bool.not_true, Bool.false_eq_true, if_false, ne_eq, not_true_eq_false]

theorem Completes.of_exec {s t : State} {c : Instr} {P : State → Prop} (he : exec c s = .next t) (h : P t) :
    Completes c s P := ⟨t, he, h⟩

theorem exec_registerWrite (p : Path) (a v : Word) :
    exec (.registerWrite p a v) s = .next (s.mgmtWrite p a.toNat v.toNat) := rfl

theorem exec_windowDataAccess_write (p : Path) (a v : Word) :
    exec (.windowDataAccess p a (some v)) s = .next (s.mgmtWrite p a.toNat v.toNat) := rfl

theorem exec_windowDataAccess_read (p : Path) (a : Word) :
    exec (.windowDataAccess p a none) s = .next (s.mgmtRead p a.toNat) := rfl

theorem exec_rcRead (p : Path) (a : Word) : exec (.rcRead p a) s = .next (s.mgmtRead p a.toNat) := rfl

theorem exec_lowWordRead (p : Path) (a : Word) : exec (.lowWordRead p a) s = .next (s.mgmtRead p a.toNat) := rfl

/-! ### What stands beside -/

/-- Marigold's part replaced. -/
def State.setAon (k : Aon) : State := { s with aon := k }

@[simp] theorem State.setAon_aon (k : Aon) : (s.setAon k).aon = k := rfl

@[simp] theorem State.setAon_core (k : Aon) : (s.setAon k).core = s.core := rfl

@[simp] theorem State.setAon_nvm (k : Aon) : (s.setAon k).nvm = s.nvm := rfl

@[simp] theorem State.setAon_otp (k : Aon) : (s.setAon k).otp = s.otp := rfl

@[simp] theorem State.answer_resp (p : Path) (st : Nat) (d : Option Word) (g : Option Nat) :
    (s.answer p st d g).core.mgt.resp = some { path := p, status := st, data := d, gen := g } := rfl

@[simp] theorem State.answer_rd (p : Path) (st : Nat) (d : Option Word) (g : Option Nat) (a : Nat) :
    (s.answer p st d g).core.rd a = s.core.rd a := rfl

@[simp] theorem State.answer_hold (p : Path) (st : Nat) (d : Option Word) (g : Option Nat) :
    (s.answer p st d g).core.hold = s.core.hold := rfl

@[simp] theorem State.answer_nvm (p : Path) (st : Nat) (d : Option Word) (g : Option Nat) :
    (s.answer p st d g).nvm = s.nvm := rfl

@[simp] theorem State.answer_otp (p : Path) (st : Nat) (d : Option Word) (g : Option Nat) :
    (s.answer p st d g).otp = s.otp := rfl

@[simp] theorem State.answer_aon (p : Path) (st : Nat) (d : Option Word) (g : Option Nat) :
    (s.answer p st d g).aon = s.aon := rfl

theorem State.executed_core (p : Path) : (s.executed p).core = s.core.wrf Reg.MGT_STAT 31 30 (Path.code p) := (rfl)

@[simp] theorem State.executed_aon (p : Path) : (s.executed p).aon = s.aon := by
  unfold State.executed; rfl

@[simp] theorem State.executed_nvm (p : Path) : (s.executed p).nvm = s.nvm := by
  unfold State.executed; rfl

@[simp] theorem State.executed_otp (p : Path) : (s.executed p).otp = s.otp := by
  unfold State.executed; rfl

variable {s} {t u : State} {l : List Part} {r : List Nat}

theorem State.only_trans (h : s.only l r t) (h' : t.only l r u) : s.only l r u := by
  obtain ⟨ho, hp, hr⟩ := h
  obtain ⟨ho', hp', hr'⟩ := h'
  refine ⟨?_, Core.onlyParts_trans hp hp', Core.onlyRegs_trans hr hr'⟩
  unfold State.outsideStands at *
  grind

theorem State.only_of_core {k : Core} (hp : s.core.onlyParts l k) (hr : s.core.onlyRegs r k) :
    s.only l r { s with core := k } :=
  ⟨⟨rfl, rfl, rfl, rfl, rfl, rfl, rfl, rfl, rfl, rfl, rfl, rfl⟩, hp, hr⟩

theorem State.only_executed (hr : Reg.MGT_STAT ∈ r) (p : Path) : s.only l r (s.executed p) :=
  State.only_of_core (Core.onlyParts_wrf _ _ _ _) (Core.onlyRegs_wrf hr _ _ _)

theorem State.onlyParts_answer {k : Core} (h : k.onlyParts l s.core) (hl : Part.mgt ∈ l) (p : Path) (st : Nat)
    (d : Option Word) (g : Option Nat) : k.onlyParts l (s.answer p st d g).core := by
  refine Core.onlyParts_trans h (fun q hq => ?_)
  cases q
  case mgt => exact absurd hl hq
  all_goals rfl

theorem State.onlyRegs_answer {k : Core} (h : k.onlyRegs r s.core) (p : Path) (st : Nat)
    (d : Option Word) (g : Option Nat) : k.onlyRegs r (s.answer p st d g).core :=
  Core.onlyRegs_trans h (Core.onlyRegs_of_regs rfl)

theorem State.only_answer (hl : Part.mgt ∈ l) (p : Path) (st : Nat) (d : Option Word) (g : Option Nat) :
    s.only l r (s.answer p st d g) :=
  State.only_of_core (State.onlyParts_answer (Core.onlyParts_refl l _) hl p st d g)
    (State.onlyRegs_answer (Core.onlyRegs_refl r _) p st d g)

/-- A read that clears its register changes that register alone. -/
theorem State.only_clearRead {a : Nat} (ha : isAon a = false) (hr : a ∈ r) : s.only l r (s.clearRead a) := by
  unfold State.clearRead
  rw [if_neg (by simp [ha])]
  exact State.only_of_core (Core.onlyParts_wr _ _) (Core.onlyRegs_wr hr _)

theorem State.only_keep {h : Nat} (hh : isAon h = false) (hl : Part.hold ∈ l) (i : Nat) : s.only l r (s.keep i h) := by
  unfold State.keep
  rw [if_neg (by simp [hh])]
  refine State.only_of_core (fun q hq => ?_) (Core.onlyRegs_of_regs rfl)
  cases q
  case hold => exact absurd hl hq
  all_goals rfl

/-- A read of a low word changes the holding copies alone. -/
theorem State.only_latchHigh {a : Nat} (ha : isAon a = false) (hl : Part.hold ∈ l) (i : Nat) :
    s.only l r (s.latchHigh a i) := by
  rw [State.latchHigh_eq]
  split
  · exact State.only_trans (State.only_keep (isAon_add ha 4) hl i) (State.only_keep (isAon_add ha 8) hl i)
  · exact State.only_keep (isAon_add ha 4) hl i

theorem State.rd_clearRead {a : Nat} (ha : isAon a = false) :
    (s.clearRead a).core.rd a = if a = Reg.CLE_PARK_HWM then s.core.cle.park.length % 2 ^ 32 else 0 := by
  unfold State.clearRead
  rw [if_neg (by simp [ha])]
  refine (Core.rd_wr_same _ _ _).trans ?_
  split <;> rfl

theorem State.held_of_core {h : Nat} (hh : isAon h = false) : s.held h = s.core.hold.get none h := by
  unfold State.held
  rw [if_neg (by simp [hh])]

theorem State.readReg_clearing {a i : Nat} {q : RegRow} (h : regAt a = some (q, i)) (hc : q.acc = .rc ∨ q.acc = .cnt)
    (mg : Bool) : s.readReg a mg = (s.clearRead a, s.view a i, false) := by
  unfold State.readReg
  rw [h]
  rcases hc with e | e <;> simp [e]

end

/-! ### Fields beside the one set -/

theorem testBit_fld (w hi lo j : Nat) : (fld w hi lo).testBit j = (decide (j < hi + 1 - lo) && w.testBit (lo + j)) := by
  unfold fld
  rw [Nat.testBit_mod_two_pow, Nat.testBit_shiftRight]

/-- Setting a field leaves what lies below it. -/
theorem setFld_mod (w hi lo v : Nat) : setFld w hi lo v % 2 ^ lo = w % 2 ^ lo := by
  rw [setFld_eq, Nat.add_mul_mod_self_right, Nat.add_mul_mod_self_right, Nat.mod_mod]

/-- Setting a field leaves what lies above it. -/
theorem setFld_div {hi lo : Nat} (h : lo ≤ hi) (w v : Nat) : setFld w hi lo v / 2 ^ (hi + 1) = w / 2 ^ (hi + 1) := by
  have e : 2 ^ (hi + 1) = 2 ^ lo * 2 ^ (hi + 1 - lo) := by rw [← pow_add]; congr 1; omega
  have hp : 0 < 2 ^ lo := by positivity
  have hq : 0 < 2 ^ (hi + 1 - lo) := by positivity
  have hw : setFld w hi lo v / 2 ^ lo =
      v % 2 ^ (hi + 1 - lo) + w / 2 ^ lo / 2 ^ (hi + 1 - lo) * 2 ^ (hi + 1 - lo) := by
    rw [setFld_eq, Nat.add_mul_div_right _ _ hp, Nat.add_mul_div_right _ _ hp, Nat.div_eq_of_lt (Nat.mod_lt _ hp),
      Nat.zero_add]
  rw [e, ← Nat.div_div_eq_div_mul, hw, Nat.add_mul_div_right _ _ hq, Nat.div_eq_of_lt (Nat.mod_lt _ hq), Nat.zero_add,
    Nat.div_div_eq_div_mul]

/-- A field below the one set reads as before. -/
theorem fld_setFld_below {lo hi' : Nat} (h : hi' < lo) (w hi lo' v : Nat) :
    fld (setFld w hi lo v) hi' lo' = fld w hi' lo' := by
  refine Nat.eq_of_testBit_eq fun j => ?_
  rw [testBit_fld, testBit_fld]
  by_cases hj : j < hi' + 1 - lo'
  · have hb := congrArg (Nat.testBit · (lo' + j)) (setFld_mod w hi lo v)
    simp only [Nat.testBit_mod_two_pow, show lo' + j < lo by omega, decide_true, Bool.true_and] at hb
    rw [hb]
  · simp [hj]

/-- A field above the one set reads as before. -/
theorem fld_setFld_above {hi lo lo' : Nat} (hl : lo ≤ hi) (h : hi < lo') (w hi' v : Nat) :
    fld (setFld w hi lo v) hi' lo' = fld w hi' lo' := by
  refine Nat.eq_of_testBit_eq fun j => ?_
  rw [testBit_fld, testBit_fld]
  have hb := congrArg (Nat.testBit · (lo' + j - (hi + 1))) (setFld_div hl w v)
  simp only [Nat.testBit_div_two_pow, show lo' + j - (hi + 1) + (hi + 1) = lo' + j by omega] at hb
  rw [hb]

/-! ### Marigold's registers and windows -/

section
variable (k : Aon)

theorem Aon.rd_lt (a : Nat) : k.rd a < 2 ^ 32 := by unfold Aon.rd; exact BitVec.isLt _

theorem Aon.rd_wr_same (a v : Nat) : (k.wr a v).rd a = v % 2 ^ 32 := by
  simp only [Aon.rd, Aon.wr, SMap.get_set_same, word_toNat]

theorem Aon.rd_wr_ne {a b : Nat} (h : b ≠ a) (v : Nat) : (k.wr a v).rd b = k.rd b := by
  simp only [Aon.rd, Aon.wr, SMap.get_set_ne _ _ _ h]

theorem Aon.tb_tbw_same (win w v : Nat) : (k.tbw win w v).tb win w = v % 2 ^ 32 := by
  simp only [Aon.tb, Aon.tbw, SMap.get_set_same, word_toNat]

theorem Aon.fd_wrf_ne {a b : Nat} (h : b ≠ a) (hi lo v hi' lo' : Nat) :
    (k.wrf a hi lo v).fd b hi' lo' = k.fd b hi' lo' := by
  unfold Aon.fd Aon.wrf
  rw [Aon.rd_wr_ne k h]

theorem Aon.rd_wrf_same (a v : Nat) {hi lo : Nat} (h : hi < 32) (hl : lo ≤ hi) :
    (k.wrf a hi lo v).rd a = setFld (k.rd a) hi lo v := by
  unfold Aon.wrf
  rw [Aon.rd_wr_same, Nat.mod_eq_of_lt (setFld_lt 32 v h hl (k.rd_lt a))]

theorem Aon.fd_wrf_same (a v : Nat) {hi lo : Nat} (h : hi < 32) (hl : lo ≤ hi) :
    (k.wrf a hi lo v).fd a hi lo = v % 2 ^ (hi + 1 - lo) := by
  unfold Aon.fd
  rw [Aon.rd_wrf_same k a v h hl, fld_setFld_same]

/-- WORD advances. -/
theorem Aon.fd_winAdv_word (win : Nat) : (k.winAdv win).fd win 23 0 = (k.fd win 23 0 + 1) % 2 ^ 24 :=
  k.fd_wrf_same win _ (by omega) (by omega)

theorem Aon.fd_winAdv_status (win : Nat) : (k.winAdv win).fd win 31 24 = k.fd win 31 24 := by
  unfold Aon.winAdv Aon.fd
  rw [Aon.rd_wrf_same _ _ _ (by omega) (by omega), fld_setFld_above (by omega) (by omega)]

theorem Aon.fd_winSt_word (win : Nat) (mg : Bool) (st : Nat) : (k.winSt win mg st).fd win 23 0 = k.fd win 23 0 := by
  unfold Aon.winSt
  split
  · unfold Aon.fd
    rw [Aon.rd_wrf_same _ _ _ (by omega) (by omega), fld_setFld_below (by omega)]
  · rfl

theorem Aon.fd_winSt_status (win st : Nat) : (k.winSt win true st).fd win 31 24 = st % 2 ^ 8 :=
  k.fd_wrf_same win _ (by omega) (by omega)

@[simp] theorem Aon.tbl_wrf (a hi lo v : Nat) : (k.wrf a hi lo v).tbl = k.tbl := by
  unfold Aon.wrf Aon.wr; rfl

@[simp] theorem Aon.tbl_winAdv (win : Nat) : (k.winAdv win).tbl = k.tbl := Aon.tbl_wrf _ _ _ _ _

@[simp] theorem Aon.tbl_winSt (win : Nat) (mg : Bool) (st : Nat) : (k.winSt win mg st).tbl = k.tbl := by
  unfold Aon.winSt
  split
  · exact Aon.tbl_wrf _ _ _ _ _
  · rfl

theorem Aon.tb_of_tbl {k k' : Aon} (h : k'.tbl = k.tbl) (win w : Nat) : k'.tb win w = k.tb win w := by
  unfold Aon.tb; rw [h]

theorem Aon.tb_wrf (a hi lo v win w : Nat) : (k.wrf a hi lo v).tb win w = k.tb win w :=
  Aon.tb_of_tbl (k.tbl_wrf a hi lo v) win w

theorem Aon.tb_winAdv (v win w : Nat) : (k.winAdv v).tb win w = k.tb win w := Aon.tb_of_tbl (k.tbl_winAdv v) win w

theorem Aon.tb_winSt (v : Nat) (mg : Bool) (st win w : Nat) : (k.winSt v mg st).tb win w = k.tb win w :=
  Aon.tb_of_tbl (k.tbl_winSt v mg st) win w

theorem Aon.rd_tbw (win w v a : Nat) : (k.tbw win w v).rd a = k.rd a := (rfl)

theorem Aon.fd_tbw (win w v a hi lo : Nat) : (k.tbw win w v).fd a hi lo = k.fd a hi lo := by
  unfold Aon.fd; rw [Aon.rd_tbw]

/-- A word accepted by the flash page buffer's window: stored, LAST_ST is ST_OK, WORD advances. -/
theorem Aon.winWrite_pageBuffer (v : Nat) (h : k.fd Reg.BOOT_NVMB_TBL 23 0 < 64) :
    k.winWrite Reg.BOOT_NVMB_TBL 64 true v =
      (((k.tbw Reg.BOOT_NVMB_TBL (k.fd Reg.BOOT_NVMB_TBL 23 0) v).winSt Reg.BOOT_NVMB_TBL true stOk).winAdv
        Reg.BOOT_NVMB_TBL, stOk) := by
  unfold Aon.winWrite
  simp only [Nat.not_le.2 h, if_false, if_true]

end

/-! ### Frames to Marigold's registers -/

section
variable (s : State)

theorem toNat_word {a : Nat} (h : a < 2 ^ 32) : (word a).toNat = a := by rw [word_toNat, Nat.mod_eq_of_lt h]

theorem State.putStat_of_none {a : Nat} (h : statReg a = none) (st : Nat) : s.putStat a st = s := by
  unfold State.putStat; rw [h]

theorem State.putStat_pageBuffer (st : Nat) :
    (s.putStat (Reg.BOOT_NVMB_TBL + 4) st).aon = s.aon.wrf Reg.BOOT_STAT 7 0 st := (rfl)

theorem otpData_lt (i : Fin 12) : Reg.OTP_DATA i < 0x40000 := by
  show 0x20010 + i.val * 0x4 < 0x40000
  omega

theorem regAt_otpData (i : Fin 12) :
    regAt (Reg.OTP_DATA i) = some (⟨0x20010, 12, 0x4, 0x0, .wo, [⟨31, 0, 0, 4294967295⟩], 0⟩, i.val) := by
  revert i; decide +kernel

theorem regAt_pageBufferData :
    regAt (Reg.BOOT_NVMB_TBL + 4) = some (⟨0x1010C, 1, 0x0, 0, .winData, [], 64⟩, 0) := by decide +kernel

theorem regAt_opResultData :
    regAt (Reg.SUP_MRES_TBL + 4) = some (⟨0x214, 1, 0x0, 0, .winData, [], 1024⟩, 0) := by decide +kernel

/-- OTP_DATA holds what is written (15_boot_config R439). -/
theorem State.writeReg_otpData (i : Fin 12) (v : Nat) (mg : Bool) :
    s.writeReg (Reg.OTP_DATA i) v mg = (s.setAon (s.aon.wr (Reg.OTP_DATA i) v), stOk) := by
  have lower : 0x20010 ≤ Reg.OTP_DATA i := Nat.le_add_right _ _
  have upper := otpData_lt i
  have other : ∀ b, b < 0x20010 → Reg.OTP_DATA i ≠ b := fun b hb e => by omega
  have hA : isAon (Reg.OTP_DATA i) = true := by simp only [isAon, decide_eq_true_eq]; omega
  unfold State.writeReg
  rw [regAt_otpData]
  simp only [hA, if_true, Acc.writable]
  unfold State.aonWrite
  rw [if_neg (other Reg.SUP_MOP_ARM (by decide)), if_neg (other Reg.SUP_MOP (by decide)),
    if_neg (other Reg.BOOT_CTRL (by decide)), if_neg (other Reg.BOOT_FCMD (by decide)),
    if_neg (other Reg.BOOT_NVM_CMD (by decide)), if_neg (other Reg.OTP_CMD (by decide)), if_pos upper]
  rfl

theorem State.writeReg_pageBuffer (v : Nat) (h : s.aon.fd Reg.BOOT_NVMB_TBL 23 0 < 64) :
    s.writeReg (Reg.BOOT_NVMB_TBL + 4) v true =
      (s.setAon (((s.aon.tbw Reg.BOOT_NVMB_TBL (s.aon.fd Reg.BOOT_NVMB_TBL 23 0) v).winSt Reg.BOOT_NVMB_TBL true
        stOk).winAdv Reg.BOOT_NVMB_TBL), stOk) := by
  unfold State.writeReg
  rw [regAt_pageBufferData]
  have hA : isAon (Reg.BOOT_NVMB_TBL + 4) = true := by decide
  simp only [hA, if_true, Nat.add_sub_cancel]
  rw [Aon.winWrite_pageBuffer _ _ h]
  rfl

/-- A read of the result window of the guaranteed operations: the word at WORD, LAST_ST, WORD advances. -/
theorem State.readReg_opResult (h : s.aon.fd Reg.SUP_MRES_TBL 23 0 < 1024) :
    s.readReg (Reg.SUP_MRES_TBL + 4) true =
      (s.setAon ((s.aon.winSt Reg.SUP_MRES_TBL true stOk).winAdv Reg.SUP_MRES_TBL),
        s.aon.tb Reg.SUP_MRES_TBL (s.aon.fd Reg.SUP_MRES_TBL 23 0), false) := by
  unfold State.readReg
  rw [regAt_opResultData]
  have hA : isAon (Reg.SUP_MRES_TBL + 4) = true := by decide
  simp only [hA, if_true, Nat.add_sub_cancel]
  unfold State.aonFetch
  rw [if_neg (Nat.not_le.2 h)]
  rfl

theorem statReg_otpData (i : Fin 12) : statReg (Reg.OTP_DATA i) = none := by
  revert i; decide

theorem State.frameSt_otpData (i : Fin 12) : s.frameSt (Reg.OTP_DATA i) = stOk :=
  s.frameSt_of_aon (by revert i; decide) (by rw [regAt_otpData]; rfl) (by revert i; decide)

end

/-! ### The obligations -/

/-- Settles O51: the low word's read leaves the copy the high word's next read returns and forgets. -/
theorem sixtyFourBitPairs : Obligations.SixtyFourBitPairs := by
  unfold Obligations.SixtyFourBitPairs
  intro s t a i r mg mg' hr hacc
  have hl : r.acc.isLow = true := Acc.isLow_iff.2 hacc
  obtain ⟨q, hq, hh⟩ := regAt_high_of_low hr hl
  rw [s.readReg_low hr hl]
  refine ⟨rfl, fun hk ha => ?_, fun hk ha => ?_⟩
  · have hc : t.held (a + 4) = some (word (s.view (a + 4) i)) :=
      (State.held_of_hold hk ha (a + 4)).trans (s.held_latchHigh a i)
    rw [t.readReg_high hq hh]
    refine ⟨(t.readHigh_of_held hc).trans (word_toNat _), ?_⟩
    rw [State.readReg_high _ hq hh, State.readHigh_of_not_held _ (t.held_readHigh (a + 4) i)]
  · have hn : t.held (a + 4) = none := by unfold State.held; rw [hk, ha, ite_self]
    rw [t.readReg_high hq hh, t.readHigh_of_not_held hn]

/-- Settles O4, frame by frame: what an executed frame's register access does, then the answer. -/
theorem managementFramesExecute : Obligations.ManagementFramesExecute := by
  unfold Obligations.ManagementFramesExecute
  refine ⟨?write, ?otpData, ?pageBuffer, ?opResult, ?clearing, ?lowWord⟩
  case write =>
    intro p a v s hv hf
    refine .of_exec (exec_registerWrite s p a v) ?_
    rw [s.mgmtWrite_of_ok hv hf p (Prod.eta _).symm, State.answer_resp]
  case otpData =>
    intro p i v s hv
    have ha : (word (Reg.OTP_DATA i)).toNat = Reg.OTP_DATA i := toNat_word ((otpData_lt i).trans (by decide))
    refine .of_exec (exec_registerWrite s p _ v) ?_
    rw [ha, s.mgmtWrite_of_ok hv (s.frameSt_otpData i) p (State.writeReg_otpData _ i _ _),
      State.putStat_of_none _ (statReg_otpData i), State.answer_aon, State.answer_otp, State.answer_nvm,
      State.setAon_aon, State.setAon_otp, State.setAon_nvm, State.executed_aon, State.executed_otp, State.executed_nvm]
    refine ⟨?_, rfl, rfl, fun b hb => Aon.rd_wr_ne _ hb _, State.onlyParts_answer ?_ (by simp) _ _ _ _,
      State.onlyRegs_answer ?_ _ _ _ _⟩
    · rw [Aon.rd_wr_same, Nat.mod_eq_of_lt v.isLt]
    · rw [State.setAon_core, State.executed_core]
      exact Core.onlyParts_wrf _ _ _ _
    · rw [State.setAon_core, State.executed_core]
      exact Core.onlyRegs_wrf (by simp) _ _ _
  case pageBuffer =>
    intro p v s hv hw
    have ha : (word (Reg.BOOT_NVMB_TBL + 4)).toNat = Reg.BOOT_NVMB_TBL + 4 := toNat_word (by decide)
    have hf : s.frameSt (Reg.BOOT_NVMB_TBL + 4) = stOk :=
      s.frameSt_of_aon (by decide) (by rw [regAt_pageBufferData]; rfl) (by decide)
    refine .of_exec (exec_windowDataAccess_write s p _ v) ?_
    rw [ha, s.mgmtWrite_of_ok hv hf p (State.writeReg_pageBuffer _ _ (by rwa [State.executed_aon])), State.answer_aon,
      State.putStat_pageBuffer, State.setAon_aon, State.executed_aon]
    refine ⟨?_, ?_, ?_⟩
    · rw [Aon.tb_wrf, Aon.tb_winAdv, Aon.tb_winSt, Aon.tb_tbw_same, Nat.mod_eq_of_lt v.isLt]
    · rw [Aon.fd_wrf_ne _ (by decide), Aon.fd_winAdv_word, Aon.fd_winSt_word, Aon.fd_tbw, Nat.mod_eq_of_lt (by omega)]
    · rw [Aon.fd_wrf_ne _ (by decide), Aon.fd_winAdv_status, Aon.fd_winSt_status, Nat.zero_mod]
  case opResult =>
    intro p s hv hw
    have ha : (word (Reg.SUP_MRES_TBL + 4)).toNat = Reg.SUP_MRES_TBL + 4 := toNat_word (by decide)
    have hf : s.frameSt (Reg.SUP_MRES_TBL + 4) = stOk :=
      s.frameSt_of_aon (by decide) (by rw [regAt_opResultData]; rfl) (by decide)
    refine .of_exec (exec_windowDataAccess_read s p _) ?_
    rw [ha, s.mgmtRead_of_ok hv hf p ((s.executed p).readReg_opResult (by rwa [State.executed_aon])), State.answer_aon,
      State.answer_nvm, State.answer_otp, State.setAon_aon, State.setAon_nvm, State.setAon_otp, State.executed_aon,
      State.executed_nvm, State.executed_otp]
    refine ⟨State.answer_resp _ _ _ _ _, ?_, ?_, rfl, rfl⟩
    · rw [Aon.fd_winAdv_word, Aon.fd_winSt_word, Nat.mod_eq_of_lt (by omega)]
    · rw [Aon.tbl_winAdv, Aon.tbl_winSt]
  case clearing =>
    intro p a r i s hv hf ha hr hc
    refine .of_exec (exec_rcRead s p a) ?_
    rw [s.mgmtRead_of_ok hv hf p ((s.executed p).readReg_clearing hr hc true)]
    refine ⟨State.answer_resp _ _ _ _ _, ?_, ?_⟩
    · rw [State.answer_rd, State.rd_clearRead ha, State.executed_core, Core.wrf_cle]
    · exact State.only_trans (State.only_executed (by simp) p)
        (State.only_trans (State.only_clearRead ha (by simp)) (State.only_answer (by simp) _ _ _ _))
  case lowWord =>
    intro p a r i s hv hf ha hr hc
    refine .of_exec (exec_lowWordRead s p a) ?_
    rw [s.mgmtRead_of_ok hv hf p ((s.executed p).readReg_low hr (Acc.isLow_iff.2 hc) true)]
    refine ⟨State.answer_resp _ _ _ _ _, ?_, ?_⟩
    · rw [State.answer_hold, ← State.held_of_core (isAon_add ha 4), State.held_latchHigh]
    · exact State.only_trans (State.only_executed (by simp) p)
        (State.only_trans (State.only_latchHigh ha (by simp) i) (State.only_answer (by simp) _ _ _ _))

end Sys2Proof.Machine
end

section
/-!
PROOFS. The queue of waiting commands is the model's own (assumption log 1): no operation of a state reads or writes it. One
frame lemma per operation, in the order of the model's files; from them, that every command completes and leaves the queue.
-/

namespace Sys2Proof.Machine

open Sys2Proof

/-- Work on a list, each part of which leaves the queue, leaves it. -/
theorem foldl_pending {α : Type} {f : State → α → State} (hf : ∀ s a, (f s a).pending = s.pending) (l : List α) (s : State) :
    (l.foldl f s).pending = s.pending := by
  induction l generalizing s with
  | nil => rfl
  | cons a l ih => exact (ih (f s a)).trans (hf s a)

/-- A choice between two states that both hold the queue holds it. -/
theorem ite_pending {p : Prop} [Decidable p] {s t u : State} (ht : t.pending = s.pending) (hu : u.pending = s.pending) :
    (if p then t else u).pending = s.pending := by
  split
  · exact ht
  · exact hu

section
variable (s : State)

/-! ### Events and the core (Machine/Ops.lean) -/

@[simp] theorem State.mgmtWin_pending (stat win words : Nat) (f : Core → Nat → Nat → Core × Nat) (v : Nat) :
    (s.mgmtWin stat win words f v).pending = s.pending := s.mgmt_pending _ _

@[simp] theorem State.bootFcmd_pending (cmd : Nat) : (s.bootFcmd cmd).1.pending = s.pending := by
  unfold State.bootFcmd; split <;> simp

@[simp] theorem State.bootSt_pending (r : State × Nat) : (State.bootSt r).pending = r.1.pending := by
  unfold State.bootSt; rfl

/-! ### Keys (Machine/Cipher.lean) -/

theorem State.takeSeq_pending {t : State} {n : Nat} (h : s.takeSeq = some (t, n)) : t.pending = s.pending := by
  unfold State.takeSeq at h
  dsimp only at h
  split at h
  · cases h; rfl
  · split at h
    · cases h
    · cases h; rfl

@[simp] theorem State.loadKey_pending (i pos : Nat) (blob : List Byte) : (s.loadKey i pos blob).1.pending = s.pending := by
  unfold State.loadKey
  dsimp only
  split
  case h_1 ht => exact (s.takeSeq_pending ht :)
  case h_2 => rfl

@[simp] theorem State.loadEnd_pending : s.loadEnd.pending = s.pending := by
  unfold State.loadEnd; split
  · rfl
  · exact s.loadKey_pending _ _ _

@[simp] theorem State.loadDone_pending : s.loadDone.pending = s.pending := by
  unfold State.loadDone; split
  · rfl
  · split
    · rfl
    · split
      · rfl
      · exact s.loadEnd_pending

@[simp] theorem State.slotWrite_pending (w : SlotWrite) : (s.slotWrite w).pending = s.pending := by
  unfold State.slotWrite; dsimp only; split
  · exact State.loadEnd_pending _
  all_goals rfl

@[simp] theorem State.keySettle_pending : s.keySettle.pending = s.pending :=
  foldl_pending (fun s w => by split <;> simp) _ s

/-! ### Units and their quarantine (Machine/Locus.lean) -/

@[simp] theorem State.flushALim_pending (l : Lim) : (s.flushALim l).pending = s.pending := s.emitAAt_pending _ _ _ _

@[simp] theorem State.emitALim_pending (src code key iv lo w : Nat) (l : List (Nat × Nat × Nat)) :
    (s.emitALim src code key iv lo w l).pending = s.pending := by
  unfold State.emitALim; dsimp only; split
  · simp
  · split
    · rfl
    · split <;> simp

@[simp] theorem State.quarEvent_pending (u what bin cls : Nat) : (s.quarEvent u what bin cls).pending = s.pending :=
  s.emitA_pending _ _ _

@[simp] theorem State.takeOut_pending (u : Nat) : (s.takeOut u).pending = s.pending := by
  unfold State.takeOut; split
  · rfl
  · split <;> simp

@[simp] theorem State.putBack_pending (u : Nat) : (s.putBack u).pending = s.pending := by
  unfold State.putBack; split <;> simp

@[simp] theorem State.quarantine_pending (u bin cls : Nat) : (s.quarantine u bin cls).pending = s.pending := by
  simp [State.quarantine]

@[simp] theorem State.due_pending (u bin cls : Nat) : (s.due u bin cls).pending = s.pending := by
  unfold State.due; split
  · rfl
  · split <;> simp

@[simp] theorem State.locusError_pending (u : Nat) (ue : Bool) (cls : Nat) :
    (s.locusError u ue cls).pending = s.pending := by
  simp only [State.locusError, apply_ite State.pending, State.due_pending, State.emitALim_pending, ite_self]

@[simp] theorem State.unitError_pending (u : Nat) (e : Option Err) : (s.unitError u e).pending = s.pending := by
  cases e
  · rfl
  · exact s.locusError_pending _ _ _

@[simp] theorem State.recordSuspects_pending : s.recordSuspects.pending = s.pending :=
  foldl_pending (fun s u => by simp) _ _

@[simp] theorem State.soak_pending (u : Nat) (err : Bool) : (s.soak u err).pending = s.pending := by
  unfold State.soak; dsimp only; split
  · rfl
  · split
    · simp
    · split <;> simp

@[simp] theorem State.elcCmd_pending (cmd u : Nat) : (s.elcCmd cmd u).1.pending = s.pending := by
  unfold State.elcCmd; dsimp only; split
  · rfl
  · split
    · rfl
    · split
      · split <;> simp
      · split <;> simp

/-! ### The start and the quiesce (Machine/Start.lean) -/

@[simp] theorem State.setPst_pending (p : PState) (n : Nat) : (s.setPst p n).pending = s.pending := by
  unfold State.setPst; dsimp only; split <;> simp

@[simp] theorem State.setBoot_pending (b : Boot) : (s.setBoot b).pending = s.pending := by
  unfold State.setBoot; rfl

@[simp] theorem State.setPwr_pending (p : Pwr) : (s.setPwr p).pending = s.pending := by
  unfold State.setPwr; rfl

@[simp] theorem State.journal_pending (step mark status arg : Nat) : (s.journal step mark status arg).pending = s.pending := by
  unfold State.journal; rfl

@[simp] theorem State.quStep_pending : s.quStep.pending = s.pending := by
  unfold State.quStep
  dsimp only
  split
  · split
    · simp
    · split <;> simp
  · split
    · simp
    · split <;> simp
  · split <;> simp
  · split <;> simp
  · rfl

@[simp] theorem State.quRun_pending : s.quRun.pending = s.pending := by
  simp only [State.quRun, State.quStep_pending]

@[simp] theorem State.quStart_pending : s.quStart.pending = s.pending := by
  simp [State.quStart]

@[simp] theorem State.enterStep_pending (n : Nat) : (s.enterStep n).pending = s.pending := by
  unfold State.enterStep; dsimp only; split
  · simp
  · split
    · simp
    · split <;> simp

@[simp] theorem State.beginStep_pending (n : Nat) : (s.beginStep n).pending = s.pending := by
  unfold State.beginStep; dsimp only; split
  · rfl
  · split <;> simp

@[simp] theorem State.resumeStep_pending : s.resumeStep.pending = s.pending := by
  unfold State.resumeStep; dsimp only; split
  · split <;> simp
  · rfl

@[simp] theorem State.openStart_pending (warm : Bool) : (s.openStart warm).pending = s.pending :=
  State.beginStep_pending _ _

@[simp] theorem State.resetCore_pending : s.resetCore.pending = s.pending := by
  unfold State.resetCore; rfl

@[simp] theorem State.warmBoot_pending : s.warmBoot.pending = s.pending := s.resetCore.openStart_pending true

@[simp] theorem State.cutWrites_pending : s.cutWrites.pending = s.pending := by
  unfold State.cutWrites; rfl

@[simp] theorem State.coldBoot_pending (power : Bool) : (s.coldBoot power).pending = s.pending :=
  State.openStart_pending _ false

@[simp] theorem State.powerDown_pending (p : PState) : (s.powerDown p).pending = s.pending :=
  State.setPst_pending _ p 0

@[simp] theorem State.powerDownEnd_pending : s.powerDownEnd.pending = s.pending := by
  unfold State.powerDownEnd; split
  · rfl
  · split
    · rfl
    · dsimp only; rw [State.resumeStep_pending]; split
      · rfl
      · split <;> simp

@[simp] theorem State.powerFail_pending : s.powerFail.pending = s.pending := by
  unfold State.powerFail; split <;> simp

/-! ### Marigold's operations, the OTP banks and the flash (Machine/Mop.lean, Otp.lean, Nvm.lean) -/

@[simp] theorem State.mopEnd_pending (op : Nat) (forced : Bool) : (s.mopEnd op forced).pending = s.pending :=
  State.emitA_pending _ _ _ _

@[simp] theorem State.mopZeroize_pending (forced : Bool) : (s.mopZeroize forced).pending = s.pending := by
  simp only [State.mopZeroize, State.mopEnd_pending, State.onCore_pending]

@[simp] theorem State.mopLaser_pending (cause : Nat) (forced : Bool) : (s.mopLaser cause forced).pending = s.pending := by
  simp only [State.mopLaser, State.mopEnd_pending, State.onCore_pending]

@[simp] theorem State.mopHardReset_pending : s.mopHardReset.pending = s.pending := by
  simp only [State.mopHardReset, State.openStart_pending, State.mopEnd_pending, State.resetCore_pending]

@[simp] theorem State.putResult_pending (w : Nat) (l : List Nat) : (s.putResult w l).pending = s.pending := by
  unfold State.putResult; rfl

theorem State.mopPower_pending : s.mopPower.pending = s.pending := by
  unfold State.mopPower; dsimp only; rw [State.mopEnd_pending, State.putResult_pending]

theorem State.mopEvents_pending : s.mopEvents.pending = s.pending := by
  unfold State.mopEvents; dsimp only; rw [State.mopEnd_pending, State.putResult_pending]

theorem State.mopJournal_pending : s.mopJournal.pending = s.pending := by
  unfold State.mopJournal; rw [State.mopEnd_pending, State.putResult_pending]

@[simp] theorem State.mopRefuse_pending (st : Nat) : (s.mopRefuse st).pending = s.pending := by
  unfold State.mopRefuse; rfl

@[simp] theorem State.mopWrite_pending (op : Nat) : (s.mopWrite op).pending = s.pending := by
  unfold State.mopWrite
  split
  · split <;> simp
  · simp
  · split <;> simp
  · exact s.mopPower_pending
  · exact s.mopEvents_pending
  · exact s.mopJournal_pending
  · rfl

@[simp] theorem State.mopArm_pending (op : Nat) : (s.mopArm op).pending = s.pending := by
  unfold State.mopArm; rfl

@[simp] theorem State.debugEvent_pending (byLock : Bool) : (s.debugEvent byLock).pending = s.pending := s.onCore_pending _

@[simp] theorem State.dbgEnter_pending : s.dbgEnter.pending = s.pending := by
  unfold State.dbgEnter; split
  · rfl
  · dsimp only; split <;> simp

@[simp] theorem State.debugLock_pending : s.debugLock.pending = s.pending := State.debugEvent_pending _ true

@[simp] theorem State.otpCmd_pending (cmd : Nat) : (s.otpCmd cmd).1.pending = s.pending := by
  unfold State.otpCmd; rfl

@[simp] theorem State.newKek_pending (k : BitVec 256) : (s.newKek k).pending = s.pending := by
  unfold State.newKek; dsimp only; split <;> rfl

@[simp] theorem State.otpApply_pending (cmd : Nat) (d : List Nat) : (s.otpApply cmd d).pending = s.pending := by
  unfold State.otpApply
  dsimp only
  split
  case h_4 => split <;> simp
  all_goals simp

@[simp] theorem State.otpDone_pending : s.otpDone.pending = s.pending := by
  unfold State.otpDone; split <;> simp

@[simp] theorem State.nvmCmd_pending (cmd slot page : Nat) : (s.nvmCmd cmd slot page).1.pending = s.pending := by
  unfold State.nvmCmd; dsimp only; split <;> rfl

@[simp] theorem State.nvmDone_pending : s.nvmDone.pending = s.pending := by
  unfold State.nvmDone; split <;> simp

@[simp] theorem State.bootWrote_pending (r : State × Nat) : (State.bootWrote r).pending = r.1.pending := by
  unfold State.bootWrote; rfl

@[simp] theorem State.bootCtrl_pending (v : Nat) : (s.bootCtrl v).1.pending = s.pending := by
  unfold State.bootCtrl; dsimp only; split
  · rfl
  · split
    · rfl
    · dsimp only; split <;> simp

/-! ### Power and temperature (Machine/Power.lean) -/

@[simp] theorem State.inputAlarm_pending (rail mv pw : Nat) : (s.inputAlarm rail mv pw).pending = s.pending := by
  unfold State.inputAlarm; dsimp only; split
  · split <;> simp
  · split <;> simp

@[simp] theorem State.inputLost_pending : s.inputLost.pending = s.pending := s.powerFail_pending

@[simp] theorem State.enRise_pending : s.enRise.pending = s.pending := by
  unfold State.enRise; split
  · rfl
  · dsimp only; split <;> simp

@[simp] theorem State.enFall_pending : s.enFall.pending = s.pending := by
  unfold State.enFall; split
  · rfl
  · dsimp only; split <;> simp

@[simp] theorem State.quRequest_pending : s.quRequest.pending = s.pending := by
  unfold State.quRequest; split
  · simp
  · dsimp only; split <;> simp

@[simp] theorem State.quEnd_pending : s.quEnd.pending = s.pending := by
  unfold State.quEnd; dsimp only; split
  · rfl
  · split <;> simp

@[simp] theorem State.thermalEvent_pending (n t on : Nat) : (s.thermalEvent n t on).pending = s.pending := s.emitA_pending _ _ _

@[simp] theorem State.stepEvent_pending (n on : Nat) : (s.stepEvent n on).pending = s.pending := s.emitA_pending _ _ _

@[simp] theorem State.stepLeave_pending : s.stepLeave.pending = s.pending := by
  unfold State.stepLeave; split <;> simp

@[simp] theorem State.tripNow_pending : s.tripNow.pending = s.pending := by
  simp [State.tripNow]

@[simp] theorem State.thresholdStep_pending (g t : Nat) : (s.thresholdStep g t).pending = s.pending := by
  unfold State.thresholdStep
  split
  · rfl
  · dsimp only; split
    · split
      · rfl
      · split <;> simp
    · split
      · rfl
      · split
        · rfl
        · split
          · rfl
          · split <;> simp

@[simp] theorem State.tripAgain_pending : s.tripAgain.pending = s.pending := by
  unfold State.tripAgain; dsimp only; split <;> simp

@[simp] theorem State.tripRelease_pending : s.tripRelease.pending = s.pending := by
  unfold State.tripRelease; dsimp only; split <;> simp

@[simp] theorem State.stepStep_pending : s.stepStep.pending = s.pending := by
  unfold State.stepStep; dsimp only; split
  · rfl
  · split <;> simp

@[simp] theorem State.monitors_pending : s.monitors.pending = s.pending := by
  unfold State.monitors; rfl

/-- The five thresholds' groups of three, each a step of its own, between the monitors and the trip. -/
@[simp] theorem State.thermalSample_pending (temps : List (Option Int)) : (s.thermalSample temps).pending = s.pending := by
  unfold State.thermalSample
  rw [State.tripRelease_pending, State.tripAgain_pending,
    foldl_pending (fun s i => s.thresholdStep_pending (i / 3) (i % 3)), State.stepStep_pending, State.monitors_pending,
    State.setPwr_pending]

@[simp] theorem State.stepEnd_pending : s.stepEnd.pending = s.pending := by
  unfold State.stepEnd; split
  · rfl
  · split <;> simp

@[simp] theorem State.clockEvent_pending : s.clockEvent.pending = s.pending := s.emitA_pending _ _ _

@[simp] theorem State.pllLoss_pending (i : Nat) : (s.pllLoss i).pending = s.pending := by
  unfold State.pllLoss; split <;> simp

@[simp] theorem State.pwrWrite_pending (a v : Nat) : (s.pwrWrite a v).1.pending = s.pending := by
  unfold State.pwrWrite; split
  · exact s.elcCmd_pending _ _
  · split
    · split <;> rfl
    · rfl

@[simp] theorem State.pwrSt_pending (r : State × Nat) : (State.pwrSt r).pending = r.1.pending := by
  unfold State.pwrSt; rfl

/-! ### The event log and the telemetry (Machine/Telemetry.lean) -/

@[simp] theorem State.logNext_pending : s.logNext.pending = s.pending := by
  unfold State.logNext; split
  · rfl
  · split <;> simp

@[simp] theorem State.logStart_pending : s.logStart.pending = s.pending := by
  unfold State.logStart; exact s.onCore_pending _

@[simp] theorem State.asterLatch_pending : s.asterLatch.pending = s.pending := by
  unfold State.asterLatch; dsimp only; split
  · rfl
  · split <;> rfl

@[simp] theorem State.asterDone_pending : s.asterDone.pending = s.pending := by
  unfold State.asterDone; split <;> simp

@[simp] theorem State.stewardRestart_pending (sub : Nat) : (s.stewardRestart sub).pending = s.pending := by
  unfold State.stewardRestart; dsimp only; split
  · rfl
  · split <;> simp

@[simp] theorem State.rateEmit_pending (code src key : Nat) : (s.rateEmit code src key).pending = s.pending := by
  unfold State.rateEmit; split
  · simp
  · split <;> simp

/-! ### A unit's work (Machine/UnitCmd.lean) -/

@[simp] theorem State.unitWork_pending (u : Nat) (err : Option Err) (busy : Core → Bool) (redo work : Core → Core) :
    (s.unitWork u err busy redo work).pending = s.pending := by
  unfold State.unitWork; dsimp only; split
  · rfl
  · split <;> simp

/-! ### Register access and records (Machine/Access.lean, Records.lean) -/

@[simp] theorem State.aonFetch_pending (win words : Nat) (mg : Bool) : (s.aonFetch win words mg).1.pending = s.pending := by
  unfold State.aonFetch; dsimp only; split <;> rfl

theorem State.keep_pending (i h : Nat) : (s.keep i h).pending = s.pending := by
  unfold State.keep; split <;> rfl

@[simp] theorem State.latchHigh_pending (a i : Nat) : (s.latchHigh a i).pending = s.pending := by
  rw [State.latchHigh_eq]
  split <;> simp only [State.keep_pending]

@[simp] theorem State.readHigh_pending (a i : Nat) : (s.readHigh a i).1.pending = s.pending := by
  unfold State.readHigh; split
  · split <;> rfl
  · split <;> rfl

@[simp] theorem State.clearRead_pending (a : Nat) : (s.clearRead a).pending = s.pending := by
  unfold State.clearRead; split <;> rfl

@[simp] theorem State.readReg_pending (a : Nat) (mg : Bool) : (s.readReg a mg).1.pending = s.pending := by
  unfold State.readReg
  split
  · rfl
  · dsimp only; split
    case h_10 => split <;> simp
    all_goals simp

@[simp] theorem State.aonWrite_pending (a v : Nat) : (s.aonWrite a v).1.pending = s.pending := by
  unfold State.aonWrite
  simp only [apply_ite Prod.fst, apply_ite State.pending, State.mopArm_pending, State.mopWrite_pending,
    State.bootCtrl_pending, State.bootFcmd_pending, State.nvmCmd_pending, State.otpCmd_pending, State.pwrWrite_pending,
    ite_self]

@[simp] theorem State.writeReg_pending (a v : Nat) (mg : Bool) : (s.writeReg a v mg).1.pending = s.pending := by
  unfold State.writeReg
  split
  · rfl
  · dsimp only; split
    · split
      · rfl
      · rfl
      · split <;> simp
    · simp

@[simp] theorem State.putStat_pending (a st : Nat) : (s.putStat a st).pending = s.pending := by
  unfold State.putStat; split
  · rfl
  · split <;> rfl

@[simp] theorem State.recWrite_pending (a v : Nat) : (s.recWrite a v).1.pending = s.pending := by
  unfold State.recWrite; split <;> simp

@[simp] theorem State.recWin_pending (d : Nat) (l : List Nat) : (s.recWin d l).1.pending = s.pending := by
  induction l generalizing s with
  | nil => rfl
  | cons v l ih => unfold State.recWin; dsimp only; split <;> simp [ih]

@[simp] theorem State.applyRec_pending (r : Rcd) (due : Option Nat) : (s.applyRec r due).1.pending = s.pending := by
  cases r with
  | reg a v => exact s.recWrite_pending a v
  | win a w l => unfold State.applyRec; dsimp only; split <;> simp
  | wait a m v t =>
    cases due <;>
      simp only [State.applyRec, apply_ite Prod.fst, apply_ite State.pending, State.readReg_pending, ite_self]
  | bad => rfl

/-- Records run on fuel: each is applied to the state the one before it left. -/
@[simp] theorem State.runRecs_pending (chk : State → Rcd → Nat) (n : Nat) (r : RecRun) :
    (State.runRecs chk n s r).1.pending = s.pending := by
  induction n generalizing s r with
  | zero => rfl
  | succ n ih =>
    unfold State.runRecs
    split
    · rfl
    · exact ih _ _
    · dsimp only; split
      · rfl
      · split
        · simp
        · split
          · simp
          · split <;> simp [ih]

/-! ### The steps of a start (Machine/Boot.lean) -/

@[simp] theorem State.stepImage_pending : s.stepImage.1.pending = s.pending := by
  unfold State.stepImage; dsimp only; split <;> rfl

@[simp] theorem State.stepHbm_pending (r : StepResult) : (s.stepHbm r).1.pending = s.pending := by
  unfold State.stepHbm; dsimp only; split <;> rfl

@[simp] theorem State.stepSram_pending (r : StepResult) : (s.stepSram r).1.pending = s.pending := by
  unfold State.stepSram; dsimp only; split <;> simp

@[simp] theorem State.laneValues_pending (typ base per ports alt : Nat) :
    (s.laneValues typ base per ports alt).pending = s.pending := by
  unfold State.laneValues; rfl

@[simp] theorem State.stepFabric_pending (r : StepResult) : (s.stepFabric r).pending = s.pending := by
  unfold State.stepFabric; dsimp only; rw [State.laneValues_pending, State.onCore_pending]

@[simp] theorem State.stepLine_pending (r : StepResult) : (s.stepLine r).pending = s.pending := by
  unfold State.stepLine; dsimp only; rw [State.laneValues_pending, State.onCore_pending]

@[simp] theorem State.stepKeys_pending : s.stepKeys.pending = s.pending := by
  unfold State.stepKeys
  rw [State.alertChk_pending, State.drainEvents_pending, foldl_pending (fun s i => s.loadKey_pending _ _ _)]

@[simp] theorem State.stepPlace_pending : s.stepPlace.pending = s.pending := by
  unfold State.stepPlace; rfl

@[simp] theorem State.stepRecs_pending (n : Nat) : (s.stepRecs n).1.pending = s.pending := by
  unfold State.stepRecs; dsimp only; split
  · simp
  · split <;> simp

@[simp] theorem State.stepWork_pending (n : Nat) (r : StepResult) : (s.stepWork n r).1.pending = s.pending := by
  unfold State.stepWork
  dsimp only
  split
  · rfl
  · split
    case h_8 => split <;> simp
    case h_11 => split <;> split <;> simp
    case h_13 => split <;> simp
    all_goals simp

@[simp] theorem State.bootStepEvent_pending (n mark st arg : Nat) : (s.bootStepEvent n mark st arg).pending = s.pending :=
  s.emitA_pending _ _ _

@[simp] theorem State.bootUp_pending : s.bootUp.pending = s.pending := by
  unfold State.bootUp; dsimp only; split <;> simp

@[simp] theorem State.afterStep_pending (n : Nat) : (s.afterStep n).pending = s.pending := by
  simp only [State.afterStep, apply_ite State.pending, State.bootUp_pending, State.beginStep_pending, State.onCore_pending,
    ite_self]

@[simp] theorem State.stepFail_pending (n st arg : Nat) (hard : Bool) : (s.stepFail n st arg hard).pending = s.pending := by
  unfold State.stepFail; split
  · dsimp only; split <;> simp
  · split <;> simp

@[simp] theorem State.stepComplete_pending (r : StepResult) : (s.stepComplete r).pending = s.pending := by
  unfold State.stepComplete; split
  · rfl
  · dsimp only; split
    · simp
    · split <;> simp

@[simp] theorem State.stepExpires_pending (x : Nat) : (s.stepExpires x).pending = s.pending := by
  unfold State.stepExpires; dsimp only; split <;> simp

/-! ### Memory errors (Machine/HbcCmd.lean) -/

@[simp] theorem State.scrubStep_pending (sram : Bool) (found : ScrubFind) : (s.scrubStep sram found).pending = s.pending := by
  unfold State.scrubStep; dsimp only; split <;> simp

@[simp] theorem State.memErr_pending (e : MemErr) : (s.memErr e).pending = s.pending := by
  simp only [State.memErr, apply_ite State.pending, State.locusError_pending, State.onCore_pending, ite_self]

@[simp] theorem State.memErrs_pending (e : Option MemErr) : (s.memErrs e).pending = s.pending := by
  cases e with
  | none => rfl
  | some e => simp only [State.memErrs, apply_ite State.pending, State.memErr_pending, ite_self]

@[simp] theorem State.rowRead_pending (stack pc bg bank row : Nat) (found : List MemErr) :
    (s.rowRead stack pc bg bank row found).pending = s.pending :=
  foldl_pending (fun s e => by split <;> simp) found s

@[simp] theorem State.remap_pending (stack pc bg bank row : Nat) (found : List MemErr) (repaired : Bool) :
    (s.remap stack pc bg bank row found repaired).pending = s.pending := by
  unfold State.remap; split
  · dsimp only; split <;> simp
  · rfl

/-! ### Descriptors (Machine/Descriptor.lean) -/

@[simp] theorem State.descRefuse_pending (src c st : Nat) : (s.descRefuse src c st).pending = s.pending :=
  State.emitALim_pending _ _ _ _ _ _ _ _

@[simp] theorem State.descRun_pending (d : DescRun) : (s.descRun d).pending = s.pending := by
  unfold State.descRun; dsimp only; split
  · simp
  · rw [State.onCore_pending]; split <;> simp

@[simp] theorem State.descStep_pending : s.descStep.pending = s.pending := by
  unfold State.descStep; split
  · simp
  · split
    · rfl
    · dsimp only; split
      · rfl
      · split <;> simp

/-! ### Management frames (Machine/MgmtCmd.lean) -/

@[simp] theorem State.setMgt_pending (f : Mgt → Mgt) : (s.setMgt f).pending = s.pending := by
  unfold State.setMgt; rfl

@[simp] theorem State.answer_pending (p : Path) (st : Nat) (d : Option Word) (g : Option Nat) :
    (s.answer p st d g).pending = s.pending := by
  unfold State.answer; rfl

@[simp] theorem State.countMgt_pending (a : Nat) : (s.countMgt a).pending = s.pending := by
  unfold State.countMgt; rfl

@[simp] theorem State.badAccess_pending (p : Path) (a st : Nat) : (s.badAccess p a st).pending = s.pending :=
  State.emitALim_pending _ _ _ _ _ _ _ _

@[simp] theorem State.executed_pending (p : Path) : (s.executed p).pending = s.pending := by
  unfold State.executed; rfl

@[simp] theorem State.refuseFrame_pending (p : Path) (a st : Nat) (d : Option Word) (g : Option Nat) :
    (s.refuseFrame p a st d g).pending = s.pending := by
  unfold State.refuseFrame; dsimp only; rw [State.answer_pending]; split <;> simp

@[simp] theorem State.mgmtWrite_pending (p : Path) (a v : Nat) : (s.mgmtWrite p a v).pending = s.pending := by
  unfold State.mgmtWrite; split
  · rfl
  · dsimp only; split <;> simp

@[simp] theorem State.mgmtRead_pending (p : Path) (a : Nat) : (s.mgmtRead p a).pending = s.pending := by
  unfold State.mgmtRead; split
  · rfl
  · dsimp only; split <;> simp

@[simp] theorem State.shadowHigh_pending (a : Nat) : (s.shadowHigh a).1.pending = s.pending := by
  unfold State.shadowHigh; split <;> rfl

@[simp] theorem State.shadowLow_pending (a : Nat) : (s.shadowLow a).1.pending = s.pending := by
  unfold State.shadowLow; rfl

@[simp] theorem State.shadowHist_pending : s.shadowHist.1.pending = s.pending := by
  simp only [State.shadowHist, apply_ite Prod.fst, apply_ite State.pending, ite_self]

@[simp] theorem State.shadowReg_pending (a : Nat) : (s.shadowReg a).1.pending = s.pending := by
  unfold State.shadowReg; split
  · simp
  · split <;> simp

@[simp] theorem State.shadowRead_pending (p : Path) (a : Nat) : (s.shadowRead p a).pending = s.pending := by
  unfold State.shadowRead
  simp only [apply_ite State.pending, State.refuseFrame_pending, State.answer_pending, State.shadowReg_pending,
    State.executed_pending, ite_self]

@[simp] theorem State.frameAbort_pending : s.frameAbort.pending = s.pending := by
  unfold State.frameAbort; split <;> simp

@[simp] theorem State.frameOpcode_pending (p : Path) (a : Nat) : (s.frameOpcode p a).pending = s.pending := by
  unfold State.frameOpcode; split <;> simp

@[simp] theorem State.frameBusy_pending (p : Path) : (s.frameBusy p).pending = s.pending := by
  unfold State.frameBusy; split <;> simp

@[simp] theorem State.frameCrc_pending (p : Path) : (s.frameCrc p).pending = s.pending := by
  unfold State.frameCrc; split <;> simp

@[simp] theorem State.setDa_pending (da : Nat) : (s.setDa da).pending = s.pending := by
  unfold State.setDa; rfl

@[simp] theorem State.ccc_pending (c : Ccc) : (s.ccc c).pending = s.pending := by
  unfold State.ccc; split
  · rfl
  · cases c
    case entdaa => dsimp only; split <;> simp
    case setdasa => dsimp only; split <;> simp
    all_goals simp only [State.setDa_pending, State.setMgt_pending]

/-! ### The commands whose meaning chooses between two states -/

theorem State.windowDataAccess_keeps_pending (p : Path) (a : Word) (w : Option Word) :
    Completes (.windowDataAccess p a w) s (fun t => t.pending = s.pending) := by
  cases w with
  | none => exact .of_exec (exec_windowDataAccess_read s p a) (s.mgmtRead_pending p _)
  | some v => exact .of_exec (exec_windowDataAccess_write s p a v) (s.mgmtWrite_pending p _ _)

theorem exec_routerPacketRx (n : Fin 33) (par : Option (Fin 18)) (mem : Option MemErr) :
    exec (.routerPacketRx n par mem) s = execRouterPacketRx n s par mem := rfl

theorem State.routerPacketRx_keeps_pending (n : Fin 33) (par : Option (Fin 18)) (mem : Option MemErr) :
    Completes (.routerPacketRx n par mem) s (fun t => t.pending = s.pending) := by
  unfold Completes
  rw [exec_routerPacketRx, execRouterPacketRx]
  split
  · cases par <;> exact ⟨_, rfl, by simp⟩
  · exact ⟨s, rfl, rfl⟩

theorem State.packetAccept_keeps_pending (mem : Option MemErr) :
    Completes (.packetAccept mem) s (fun t => t.pending = s.pending) := by
  have hexec : exec (.packetAccept mem) s = execPacketAccept s mem := rfl
  unfold Completes
  rw [hexec, execPacketAccept]
  split
  · exact ⟨s, rfl, rfl⟩
  · exact ⟨_, rfl, by simp⟩

theorem State.patTake_keeps_pending (u : Fin 256) (mem : Option MemErr) :
    Completes (.patTake u mem) s (fun t => t.pending = s.pending) := by
  have hexec : exec (.patTake u mem) s = execPatTake u s mem := rfl
  unfold Completes
  rw [hexec, execPatTake]
  split
  · exact ⟨_, rfl, by simp⟩
  · exact ⟨s, rfl, rfl⟩

theorem State.cipherComplete_keeps_pending (u : Fin 160) (e : Option Err) :
    Completes (.cipherComplete u e) s (fun t => t.pending = s.pending) := by
  refine .of_exec rfl ?_
  rw [State.alertChk_pending, State.drainEvents_pending, State.recordSuspects_pending, State.keySettle_pending,
    State.unitWork_pending]

theorem State.hbmControllerFault_keeps_pending (n : Fin 8) :
    Completes (.hbmControllerFault n) s (fun t => t.pending = s.pending) := by
  refine .of_exec rfl ?_
  simp only [apply_ite State.pending, State.setBoot_pending, State.onCore_pending, ite_self]

theorem State.mopArmExpire_keeps_pending : Completes .mopArmExpire s (fun t => t.pending = s.pending) := by
  refine ⟨_, rfl, ?_⟩
  split
  · exact ite_pending rfl rfl
  · rfl

end

/-- Every command is one call of the operations above. -/
theorem exec_keeps_pending (c : Instr) (s : State) : ∃ t, exec c s = .next t ∧ t.pending = s.pending := by
  cases c with
  -- events of the core alone
  | linkTrained | linkStateTimeout | fpcDrainTimeout | linkBlockTx | linkBlockRx | ackTimeout | laneLoss | escTimeout
  | epochIdle | flowDrainTimeout | nackTimeout | resendTimeout | cmplAckRx | cmplNackRx | ctrlMsgBad
  | custodyRecordOpen | chunkGrant | chunkStaged | heldContribTimeout | rxstageRerequest | chunkTimeout
  | chunkReleaseTimeout | parkTimeout | ctxDrainTimeout | abortRx | rankOrthonormalize | bufferRequestServed
  | heldKeyRetire | rekeyReadyRx | rekeyRetiredRx | cipherDispatch | itemHandover | schSelect | schDrainTimeout
  | gateTakeover | queueSample | ttSample | sourceTimeout | holdoverLimit | segmentEnd | ttNop | ttSlotclass
  | ttStart | ttGate | ttEpoch | ttKeyswitch | ttDecode | ttHop | ttShard | ttAster | ttSiteEpoch | linePortOn
  | lineTrainTimeout | laneMarkerRx | frameTx | frameRx | rawDefectSet | rawDefectClear | sdsfWindowEnd
  | defectDeclared | defectCleared | pmSecond | groupOn | groupStartTimeout | positionReady | addAnnounce
  | addTimeout | rowRx | gccHeadTimeout | retryTimeout | retryFramesRx | retrySegmentRx | retryGoneRx
  | retryCopyExpire | marginRx | stepLedgerRx | moduleInterrupt | moduleBringupDone | modulePoll | fadeSample
  | marginSend | spareAddRetry | hopNotice | hopReadback | hopGuardEnd | hopStrobeFall | hopWindowEnd | healthScore
  | siteEpochIdle | siteAutoSwitch | sitePartition | siteReconnect | ledgerResend | ledgerTmo | datagramSend
  | tlmFrameRx | tlmLinkChange | ppsOutRise | genHoldExpire | moduleAccessDone =>
    exact ⟨_, rfl, s.onCore_pending _⟩
  -- commands to a block of the core, and words of its tables
  | fpcPortEnable | fpcPortDisable | epochWclose | epochSetCur | flowEnable | flowDisable | recordClose
  | cleCtxEnable | cleCtxDisable | cleStart | xfmSetEnc | xfmInvalidate | poolEnable | poolDisable | bpmAlloc
  | bpmFree | hbcRetire | keyLoad | keySwitch | keyRetire | keyZeroize | gclArm | gclDisarm | hclear | timeXferEnable
  | timeXferDisable | todArm | segmentEnable | segmentDisable | shardCmd | linePortEnable | linePortDisable
  | groupEnable | groupDisable | groupAdd | groupRemove | groupCancel | lsafeSet | lsafeRel | rebase | clearExpel
  | moduleAccess | siteEpochWclose | siteEpochSetCur | asterSchedule | asterCancel =>
    exact ⟨_, rfl, s.mgmt_pending _ _⟩
  | rtTblWrite | circTblWrite | flowCtxWrite | recordOpen | cleCtxWrite | tableLoad | rankDescWrite | srtTblWrite
  | jobEntryWrite =>
    exact ⟨_, rfl, s.mgmtWin_pending _ _ _ _ _⟩
  -- management frames
  | registerWrite => exact ⟨_, rfl, s.mgmtWrite_pending _ _ _⟩
  | windowDataAccess p a w => exact s.windowDataAccess_keeps_pending p a w
  | rcRead | lowWordRead =>
    exact ⟨_, rfl, s.mgmtRead_pending _ _⟩
  | mgmtFrameAbort => exact ⟨_, rfl, s.frameAbort_pending⟩
  | mgmtReservedOpcode => exact ⟨_, rfl, s.frameOpcode_pending _ _⟩
  | mgmtFrameBusy => exact ⟨_, rfl, s.frameBusy_pending _⟩
  | commandCrcWrong => exact ⟨_, rfl, s.frameCrc_pending _⟩
  | i3cCcc => exact ⟨_, rfl, s.ccc_pending _⟩
  | shadowRead => exact ⟨_, rfl, s.shadowRead_pending _ _⟩
  -- events, the log and the telemetry
  | stewardRestart => exact ⟨_, rfl, s.stewardRestart_pending _⟩
  | eventRateEmit => exact ⟨_, rfl, s.rateEmit_pending _ _ _⟩
  | eventLogWrite => exact ⟨_, rfl, s.logNext_pending⟩
  | asterLatch => exact ⟨_, rfl, s.asterLatch_pending⟩
  | asterDone => exact ⟨_, rfl, s.asterDone_pending⟩
  -- packets and the work of a unit, with the errors they meet
  | routerPacketRx n par mem => exact s.routerPacketRx_keeps_pending n par mem
  | packetAccept mem => exact s.packetAccept_keeps_pending mem
  | patTake u mem => exact s.patTake_keeps_pending u mem
  | patRound | skimBlock | expandBlock | pressBlock =>
    exact ⟨_, rfl, s.unitWork_pending _ _ _ _ _⟩
  | checksumCheck => exact ⟨_, rfl, by rw [State.recordSuspects_pending, State.onCore_pending]⟩
  | cipherComplete u e => exact s.cipherComplete_keeps_pending u e
  | keyLoadDone => exact ⟨_, rfl, by rw [State.alertChk_pending, State.drainEvents_pending, State.loadDone_pending]⟩
  | descriptorRx => exact ⟨_, rfl, s.descStep_pending⟩
  -- memory
  | scrubStep => exact ⟨_, rfl, s.scrubStep_pending _ _⟩
  | rowRemap => exact ⟨_, rfl, s.remap_pending _ _ _ _ _ _ _⟩
  | hbmControllerFault n => exact s.hbmControllerFault_keeps_pending n
  -- time
  | ptpMessageRx => exact ⟨_, rfl, ite_pending (s.onCore_pending _) rfl⟩
  | ppsInEdge => exact ⟨_, rfl, ite_pending (s.onCore_pending _) rfl⟩
  -- the router's switch, the start, the flash and the OTP banks
  | routerEnable | routerDisable =>
    exact ⟨_, rfl, s.bootFcmd_pending _⟩
  | powerOn | coldReset =>
    exact ⟨_, rfl, s.coldBoot_pending _⟩
  | bootWarm => exact ⟨_, rfl, s.bootCtrl_pending _⟩
  | bootStepComplete => exact ⟨_, rfl, s.stepComplete_pending _⟩
  | bootStepLimit => exact ⟨_, rfl, s.stepExpires_pending _⟩
  | nvmErase | nvmProgram | nvmVerify =>
    exact ⟨_, rfl, s.nvmCmd_pending _ _ _⟩
  | nvmCommandDone => exact ⟨_, rfl, s.nvmDone_pending⟩
  | otpSite | otpRollbackInc | otpKekFirst | otpKekNext | otpLinemask | otpDebugLock | otpRootHash =>
    exact ⟨_, rfl, s.otpCmd_pending _⟩
  | otpWriteDone => exact ⟨_, rfl, s.otpDone_pending⟩
  -- Marigold's operations
  | mopArm => exact ⟨_, rfl, s.mopArm_pending _⟩
  | mopArmExpire => exact s.mopArmExpire_keeps_pending
  | zeroize | laserSafe | hardReset | readPower | readEvents | readJournal =>
    exact ⟨_, rfl, s.mopWrite_pending _⟩
  | zeroizeNAssert => exact ⟨_, rfl, s.mopZeroize_pending true⟩
  | dbgEnter => exact ⟨_, rfl, s.dbgEnter_pending⟩
  -- power and temperature
  | pwrEnRise => exact ⟨_, rfl, s.enRise_pending⟩
  | pwrEnFall => exact ⟨_, rfl, s.enFall_pending⟩
  | prsntNRelease => exact ⟨_, rfl, ite_pending s.powerFail_pending rfl⟩
  | inputUndervoltage | inputOvervoltage | inputOvercurrent =>
    exact ⟨_, rfl, ite_pending s.inputLost_pending rfl⟩
  | inputAlarm => exact ⟨_, rfl, s.inputAlarm_pending _ _ _⟩
  | quiesceRequest => exact ⟨_, rfl, s.quRequest_pending⟩
  | quiesceEnd => exact ⟨_, rfl, s.quEnd_pending⟩
  | quiesceTimeout => exact ⟨_, rfl, s.quRun_pending⟩
  | thermalSample => exact ⟨_, rfl, s.thermalSample_pending _⟩
  | tempStepEnd => exact ⟨_, rfl, s.stepEnd_pending⟩
  | refclkLoss => exact ⟨_, rfl, by rw [State.mopHardReset_pending, State.clockEvent_pending, State.setPwr_pending]⟩
  | pllUnlock => exact ⟨_, rfl, s.pllLoss_pending _⟩
  | pllLock => exact ⟨_, rfl, s.setPwr_pending _⟩
  | locusCountClear => exact ⟨_, rfl, ite_pending rfl rfl⟩
  | soakPass => exact ⟨_, rfl, s.soak_pending _ _⟩
  | elcQuarantine | elcRelease =>
    exact ⟨_, rfl, s.elcCmd_pending _ _⟩

/-- Settles O3: `exec` answers no fault and no refusal, and no operation it calls touches the queue. -/
theorem everyCommandCompletesAndLeavesTheQueue : Obligations.EveryCommandCompletesAndLeavesTheQueue := by
  unfold Obligations.EveryCommandCompletesAndLeavesTheQueue
  exact exec_keeps_pending

end Sys2Proof.Machine
end

section
/-!
PROOFS. The default rule of arbitration (01_architecture R24): the requesters are asked in the order of their distance
at or after the pointer, so the first that claims is the nearest.
-/

namespace Sys2Proof.Machine

open Sys2Proof

/-- How far requester `w` stands at or after the pointer, counting on with wrap-around. -/
def rrDist (n ptr w : Nat) : Nat := (w + n - ptr % n) % n

theorem rrDist_lt {n : Nat} (hn : 0 < n) (ptr w : Nat) : rrDist n ptr w < n := Nat.mod_lt _ hn

/-- The requester asked at place `i` stands at distance `i`. -/
theorem rrDist_place {n i : Nat} (hi : i < n) (ptr : Nat) : rrDist n ptr ((ptr + i) % n) = i := by
  unfold rrDist
  have hp : ptr % n < n := Nat.mod_lt _ (by omega)
  rw [Nat.add_mod, Nat.mod_eq_of_lt hi]
  rcases Nat.lt_or_ge (ptr % n + i) n with h | h
  · rw [Nat.mod_eq_of_lt h, show ptr % n + i + n - ptr % n = i + n by omega, Nat.add_mod_right, Nat.mod_eq_of_lt hi]
  · rw [Nat.mod_eq_sub_mod h, Nat.mod_eq_of_lt (show ptr % n + i - n < n by omega), show ptr % n + i - n + n - ptr % n = i by omega,
      Nat.mod_eq_of_lt hi]

/-- Every requester is asked, at the place that is its distance. -/
theorem place_rrDist {n w : Nat} (hw : w < n) (ptr : Nat) : (ptr + rrDist n ptr w) % n = w := by
  have hp : ptr % n ≤ n := (Nat.mod_lt _ (by omega)).le
  unfold rrDist
  rw [Nat.add_mod_mod, ← Nat.mod_add_mod,
    show ptr % n + (w + n - ptr % n) = w + n by omega, Nat.add_mod_right, Nat.mod_eq_of_lt hw]

/-- One is picked exactly when some requester claims. -/
theorem rrPick_eq_none {n : Nat} (hn : 0 < n) (ptr : Nat) (claims : Nat → Bool) :
    rrPick n ptr claims = none ↔ ∀ j, j < n → claims j = false := by
  simp only [rrPick, List.find?_eq_none, List.forall_mem_map, List.mem_range, Bool.not_eq_true]
  refine ⟨fun h j hj => ?_, fun h i _ => h _ (Nat.mod_lt _ hn)⟩
  have hplace := h (rrDist n ptr j) (rrDist_lt hn ptr j)
  rwa [place_rrDist hj] at hplace

/-- The one picked stands at the first place whose requester claims. -/
theorem rrPick_eq_some_iff_place {n ptr w : Nat} {claims : Nat → Bool} : rrPick n ptr claims = some w ↔
    ∃ i, claims ((ptr + i) % n) = true ∧ i < n ∧ (∀ j, j < i → claims ((ptr + j) % n) = false) ∧ (ptr + i) % n = w := by
  simp only [rrPick, List.find?_map, Option.map_eq_some_iff, List.find?_range_eq_some, Function.comp_apply,
    List.mem_range, Bool.not_eq_true', and_assoc]

/-- The one picked claims, and no claimer is nearer. -/
theorem rrPick_eq_some {n : Nat} (hn : 0 < n) (ptr : Nat) (claims : Nat → Bool) (w : Nat) :
    rrPick n ptr claims = some w ↔ w < n ∧ claims w = true ∧
      ∀ j, j < n → claims j = true → rrDist n ptr w ≤ rrDist n ptr j := by
  rw [rrPick_eq_some_iff_place]
  constructor
  · rintro ⟨i, hc, hi, hfirst, rfl⟩
    refine ⟨Nat.mod_lt _ hn, hc, fun j hj hcj => ?_⟩
    rw [rrDist_place hi]
    by_contra! hlt
    have hno := hfirst _ hlt
    rw [place_rrDist hj, hcj] at hno
    contradiction
  · rintro ⟨hw, hc, hnear⟩
    refine ⟨rrDist n ptr w, by rwa [place_rrDist hw], rrDist_lt hn ptr w, fun j hj => ?_, place_rrDist hw ptr⟩
    have hjn : j < n := hj.trans (rrDist_lt hn ptr w)
    by_contra hcj
    have hle := hnear _ (Nat.mod_lt _ hn) (by simpa using hcj)
    rw [rrDist_place hjn] at hle
    omega

/-- Settles O52: the places asked are the distances from the pointer, in order. -/
theorem roundRobinGrantsTheNextClaimer : Obligations.RoundRobinGrantsTheNextClaimer := by
  unfold Obligations.RoundRobinGrantsTheNextClaimer
  intro n ptr claims hn
  exact ⟨rrPick_eq_some hn ptr claims, rrPick_eq_none hn ptr claims⟩

end Sys2Proof.Machine
end

section
/-!
PROOFS. The fabric router (03_fabric_side R66 to R83, 15_boot_config R438, R511): the packet it takes from a port is dropped
or delivered, the head past the escape timeout moves on, and ENABLE and DISABLE change the router's state alone.
-/

namespace Sys2Proof.Machine

open Sys2Proof

/-! ### Header fields (R66) -/

theorem testBit_setFld {hi lo : Nat} (hl : lo ≤ hi) (w v j : Nat) :
    (setFld w hi lo v).testBit j = if j < lo ∨ hi < j then w.testBit j else v.testBit (j - lo) := by
  split
  next hj =>
    rcases hj with hj | hj
    · have hb := congrArg (Nat.testBit · j) (setFld_mod w hi lo v)
      simpa only [Nat.testBit_mod_two_pow, hj, decide_true, Bool.true_and] using hb
    · have hb := congrArg (Nat.testBit · (j - (hi + 1))) (setFld_div hl w v)
      simpa only [Nat.testBit_div_two_pow, Nat.sub_add_cancel (show hi + 1 ≤ j from hj)] using hb
  next hj =>
    have hb := congrArg (Nat.testBit · (j - lo)) (fld_setFld_same w hi lo v)
    simpa only [testBit_fld, Nat.testBit_mod_two_pow, show j - lo < hi + 1 - lo by omega, decide_true, Bool.true_and,
      show lo + (j - lo) = j by omega] using hb

section
variable (h : BitVec 256)

/-- A field set in a header. -/
theorem hset_toNat {hi lo : Nat} (hh : hi < 256) (hl : lo ≤ hi) (v : Nat) : (hset h hi lo v).toNat = setFld h.toNat hi lo v := by
  unfold hset
  rw [BitVec.toNat_ofNat, Nat.mod_eq_of_lt (setFld_lt 256 v hh hl h.isLt)]

theorem hget_hset_same {hi lo : Nat} (hh : hi < 256) (hl : lo ≤ hi) (v : Nat) :
    hget (hset h hi lo v) hi lo = v % 2 ^ (hi + 1 - lo) := by
  rw [hget, hset_toNat h hh hl, fld_setFld_same]

/-- Another field of the header reads as before. -/
theorem hget_hset_of_disjoint {hi lo hi' lo' : Nat} (hh : hi < 256) (hl : lo ≤ hi) (hd : hi' < lo ∨ hi < lo') (v : Nat) :
    hget (hset h hi lo v) hi' lo' = hget h hi' lo' := by
  rw [hget, hset_toNat h hh hl]
  rcases hd with hd | hd
  · exact fld_setFld_below hd _ _ _ _
  · exact fld_setFld_above hl hd _ _ _

/-- Setting a field twice keeps the second value. -/
theorem hset_hset_same {hi lo : Nat} (hh : hi < 256) (hl : lo ≤ hi) (v v' : Nat) :
    hset (hset h hi lo v) hi lo v' = hset h hi lo v' := by
  refine BitVec.eq_of_toNat_eq (Nat.eq_of_testBit_eq fun j => ?_)
  simp only [hset_toNat _ hh hl, testBit_setFld hl]
  split <;> rfl

/-- Two fields may be set in either order. -/
theorem hset_comm {hi lo hi' lo' : Nat} (hh : hi < 256) (hl : lo ≤ hi) (hh' : hi' < 256) (hl' : lo' ≤ hi') (hd : hi < lo')
    (v v' : Nat) : hset (hset h hi lo v) hi' lo' v' = hset (hset h hi' lo' v') hi lo v := by
  refine BitVec.eq_of_toNat_eq (Nat.eq_of_testBit_eq fun j => ?_)
  simp only [hset_toNat _ hh hl, hset_toNat _ hh' hl', testBit_setFld hl, testBit_setFld hl']
  by_cases hj : j < lo ∨ hi < j
  · simp only [if_pos hj]
  · rw [if_neg hj, if_neg hj, if_pos (by omega)]

/-- The header check is over the header with POISON as 0 (R67): setting it does not fail the check. -/
theorem hdrCrc_hset_poison (v : Nat) : hdrCrc (hset h 247 247 v) = hdrCrc h := by
  unfold hdrCrc
  rw [hset_comm h (by omega) (by omega) (by omega) (by omega) (by omega), hset_hset_same _ (by omega) (by omega)]

end

/-! ### The router's own state (R434, R511) -/

section
variable (k : Core)

/-- The router's state is its own: no event and no other part goes with it. -/
theorem Core.setFst_router (n : FState) (st : Nat) :
    k.setFst .router n st = k.setFn .router { k.fn .router with fst := n, since := k.now } := rfl

/-- The second core is the first with other functions' states. -/
def Core.OnlyFns (k k' : Core) : Prop := ∃ m, k' = { k with fns := m }

theorem Core.OnlyFns.trans {k k' k'' : Core} (h : k.OnlyFns k') (h' : k'.OnlyFns k'') : k.OnlyFns k'' := by
  obtain ⟨m, rfl⟩ := h
  obtain ⟨m', rfl⟩ := h'
  exact ⟨m', rfl⟩

theorem Core.onlyFns_setFn (i : FnId) (f : Fn) : k.OnlyFns (k.setFn i f) := ⟨_, rfl⟩

theorem Core.onlyFns_fnLast (i : FnId) (st : Nat) : k.OnlyFns (k.fnLast i st) := k.onlyFns_setFn _ _

theorem Core.onlyFns_setFst_router (n : FState) (st : Nat) : k.OnlyFns (k.setFst .router n st) := k.onlyFns_setFn _ _

/-- The start of a router has no check to fail: through STARTING it turns ON. -/
theorem Core.onlyFns_fnStart_router :
    k.OnlyFns (k.fnStart .router (fun _ => stOk) (fun k => k.setFst .router .on stOk)).1 := by
  unfold Core.fnStart
  dsimp only
  rw [if_pos rfl]
  exact (k.onlyFns_setFst_router _ _).trans (Core.onlyFns_setFst_router _ .on stOk)

/-- The end of a drain changes the functions' states alone. -/
theorem Core.onlyFns_routerChk : k.OnlyFns k.routerChk := by
  unfold Core.routerChk
  split
  · unfold Core.fnDrained
    split
    · dsimp only
      split
      · exact (k.onlyFns_setFst_router _ _).trans ((Core.onlyFns_setFn _ _ _).trans
          ((Core.onlyFns_fnStart_router _).trans (Core.onlyFns_fnLast _ _ _)))
      · exact (k.onlyFns_setFst_router _ _).trans (Core.onlyFns_setFn _ _ _)
    · exact ⟨k.fns, rfl⟩
  · exact ⟨k.fns, rfl⟩

/-- A router that does not drain has no drain to end. -/
theorem Core.routerChk_of_on (h : k.isOn .router = true) : k.routerChk = k := by
  have hfst : k.fst .router ≠ .draining := by rw [show k.fst .router = .on by simpa [Core.isOn] using h]; decide
  unfold Core.routerChk Core.fnDrained
  rw [if_neg hfst, ite_self]

/-- A packet that leaves the gateway changes the epoch counts, and where they end a drain the router's state. -/
theorem Core.leaves_eq (p : Packet) : ∃ e m, k.leaves p = { k with frt := { k.frt with ep := e }, fns := m } ∧
    (k.isOn .router = true → m = k.fns) := by
  unfold Core.leaves
  split
  · set k' : Core := { k with frt := { k.frt with ep := k.frt.ep.leave (hEpoch p.hdr) k.now } } with hk'
    by_cases hon : k.isOn .router = true
    · exact ⟨_, _, k'.routerChk_of_on hon, fun _ => rfl⟩
    · obtain ⟨m, hm⟩ := k'.onlyFns_routerChk
      exact ⟨_, m, hm, fun h => absurd h hon⟩
  · exact ⟨_, _, rfl, fun _ => rfl⟩

theorem Core.leaves_fpc (p : Packet) : (k.leaves p).fpc = k.fpc := by
  obtain ⟨e, m, h, -⟩ := k.leaves_eq p
  rw [h]

theorem Core.leaves_tbl (p : Packet) : (k.leaves p).tbl = k.tbl := by
  obtain ⟨e, m, h, -⟩ := k.leaves_eq p
  rw [h]

theorem Core.leaves_regs (p : Packet) : (k.leaves p).regs = k.regs := by
  obtain ⟨e, m, h, -⟩ := k.leaves_eq p
  rw [h]

theorem Core.leaves_frt (p : Packet) : ∃ e, (k.leaves p).frt = { k.frt with ep := e } := by
  obtain ⟨e, m, h, -⟩ := k.leaves_eq p
  exact ⟨e, by rw [h]⟩

/-- While the router is ON, a packet that leaves changes the router's queues and counts alone. -/
theorem Core.onlyParts_leaves {l : List Part} (h : k.isOn .router = true) (hl : Part.frt ∈ l) (p : Packet) :
    k.onlyParts l (k.leaves p) := by
  obtain ⟨e, m, hk, hm⟩ := k.leaves_eq p
  rw [hk, hm h]
  intro q hq
  cases q
  case frt => exact absurd hl hq
  all_goals rfl

/-! ### A packet dropped, delivered or queued (R68, R75, R80, R93) -/

theorem Core.isOn_of_fns {k k' : Core} (h : k'.fns = k.fns) (i : FnId) : k'.isOn i = k.isOn i := by
  unfold Core.isOn Core.fst Core.fn; rw [h]

theorem Core.port_of_fpc {k k' : Core} (h : k'.fpc = k.fpc) (n : Nat) : k'.port n = k.port n := by
  unfold Core.port; rw [h]

theorem Core.tb_of_tbl {k k' : Core} (h : k'.tbl = k.tbl) (win w : Nat) : k'.tb win w = k.tb win w := by
  unfold Core.tb; rw [h]

section
variable (p : Packet) (reason c : Nat)

theorem Core.dropPkt_fpc : (k.dropPkt p reason c).fpc = k.fpc := by
  simp only [Core.dropPkt, Core.leaves_fpc, Core.emitLim_fpc, Core.cnt_fpc]

theorem Core.dropPkt_frt : ∃ e, (k.dropPkt p reason c).frt = { k.frt with ep := e } := by
  obtain ⟨e, he⟩ := Core.leaves_frt _ p
  exact ⟨e, he.trans (by simp only [Core.emitLim_frt, Core.cnt_frt])⟩

/-- The drop's register counts the packet (R93). -/
theorem Core.rd_dropPkt_same (h : ¬ evReg c) : (k.dropPkt p reason c).rd c = min (k.rd c + 1) (2 ^ 32 - 1) := by
  unfold Core.dropPkt
  rw [Core.rd_of_regs (Core.leaves_regs _ p), Core.rd_emitLim _ _ _ _ _ _ _ h, Core.rd_cnt_same]

theorem Core.rd_dropPkt_ne {a : Nat} (h : ¬ evReg a) (hc : a ≠ c) : (k.dropPkt p reason c).rd a = k.rd a := by
  unfold Core.dropPkt
  rw [Core.rd_of_regs (Core.leaves_regs _ p), Core.rd_emitLim _ _ _ _ _ _ _ h, Core.rd_cnt_ne _ hc]

theorem Core.onlyParts_dropPkt {l : List Part} (h : k.isOn .router = true) (hl : Part.frt ∈ l) :
    k.onlyParts l (k.dropPkt p reason c) := by
  unfold Core.dropPkt
  refine Core.onlyParts_trans (Core.onlyParts_trans (Core.onlyParts_cnt c) (Core.onlyParts_emitLim _ _ _ _ _ _))
    (Core.onlyParts_leaves _ ?_ hl p)
  rw [Core.isOn_of_fns (k := k) (by rw [Core.emitLim_fns, Core.cnt_fns]), h]

theorem Core.onlyRegs_dropPkt {r : List Nat} (hr : c ∈ r) : k.onlyRegs r (k.dropPkt p reason c) :=
  fun a ha h1 h2 => k.rd_dropPkt_ne p reason c (by simp [evReg, h1, h2]) (fun e => ha (e ▸ hr))

end

/-- A packet that is no descriptor and no control message goes to the flow context store (R75). -/
theorem Core.deliver_data {p : Packet} (h3 : hType p.hdr ≠ 3) (h4 : hType p.hdr ≠ 4) : k.deliver p none =
    ({ k with frt := { k.frt with data := k.frt.data ++ [{ pkt := p, site := none }] } } : Core).leaves p := by
  unfold Core.deliver
  dsimp only
  split
  case h_1 h => exact absurd h h4
  case h_2 h => exact absurd h h3
  case h_3 => rfl

theorem Core.deliver_fpc (p : Packet) (site : Option Nat) : (k.deliver p site).fpc = k.fpc := Core.leaves_fpc _ p

theorem Core.deliver_regs (p : Packet) (site : Option Nat) : (k.deliver p site).regs = k.regs := Core.leaves_regs _ p

theorem Core.enqueue_regs (o : Nat) (p : Packet) : (k.enqueue o p).regs = k.regs := by
  unfold Core.enqueue; rfl

theorem Core.port_setPort_same (n : Nat) (q : OflPort) : (k.setPort n q).port n = q := by
  unfold Core.port Core.setPort
  exact SMap.get_set_same _ _ _ _

theorem Core.port_setPort_ne {n m : Nat} (h : m ≠ n) (q : OflPort) : (k.setPort n q).port m = k.port m := by
  unfold Core.port Core.setPort
  exact SMap.get_set_ne _ _ _ h _

theorem Core.rd_setPort (n : Nat) (q : OflPort) (a : Nat) : (k.setPort n q).rd a = k.rd a :=
  Core.rd_of_regs (by unfold Core.setPort; rfl) a

/-- A packet waits on its own channel's queue: the other channels' stand. -/
theorem Core.txq_enqueue_ne {p : Packet} {v : Nat} (h : v ≠ hVc p.hdr) (o n : Nat) :
    ((k.enqueue o p).port n).txq.get [] v = (k.port n).txq.get [] v := by
  unfold Core.enqueue
  by_cases hn : n = o
  · subst hn
    rw [Core.port_setPort_same]
    exact SMap.get_set_ne _ _ _ h _
  · rw [Core.port_setPort_ne _ hn]

/-! ### A packet taken from a port (R59, R68, R74, R83) -/

section
variable (n : Nat) (p : Packet)

theorem Core.takeRx_regs : (k.takeRx n p).regs = k.regs := by unfold Core.takeRx; rfl

theorem Core.takeRx_tbl : (k.takeRx n p).tbl = k.tbl := by unfold Core.takeRx; rfl

theorem Core.takeRx_fns : (k.takeRx n p).fns = k.fns := by unfold Core.takeRx; rfl

theorem Core.takeRx_data : (k.takeRx n p).frt.data = k.frt.data := by unfold Core.takeRx; rfl

theorem Core.takeRx_desc : (k.takeRx n p).frt.desc = k.frt.desc := by unfold Core.takeRx; rfl

theorem Epoch.enter_wopen (e : Epoch) (v : Nat) : (e.enter v).wopen = e.wopen := by
  unfold Epoch.enter; dsimp only; split <;> rfl

theorem Core.takeRx_wopen : (k.takeRx n p).frt.ep.wopen = k.frt.ep.wopen := by
  unfold Core.takeRx; exact Epoch.enter_wopen _ _

theorem Core.takeRx_rxq : ((k.takeRx n p).port n).rxq = (k.port n).rxq.drop 1 := by
  have h : (k.takeRx n p).port n = (k.setPort n _).port n := Core.port_of_fpc rfl n
  rw [h, Core.port_setPort_same]

theorem Core.takeRx_eq : ∃ a b, k.takeRx n p = { k with fpc := a, frt := b } := ⟨_, _, rfl⟩

theorem Core.onlyParts_takeRx {l : List Part} (hp : Part.fpc ∈ l) (hf : Part.frt ∈ l) : k.onlyParts l (k.takeRx n p) := by
  obtain ⟨a, b, h⟩ := k.takeRx_eq n p
  rw [h]
  intro q hq
  cases q
  case fpc => exact absurd hp hq
  case frt => exact absurd hf hq
  all_goals rfl

end

/-- What makes the router deliver a packet to the flow context store: it passes the checks of R68, its version is not
open (R84), it follows no circuit, and its entry says local delivery (R74). -/
structure LocalPacket (p : Packet) : Prop where
  version : hget p.hdr 255 252 = 1
  crc : hdrCrc p.hdr = hget p.hdr 15 0
  vc : hVc p.hdr < 6
  typ : hType p.hdr ≤ 5
  allowed : vcAllows (hVc p.hdr) (hType p.hdr) = true
  noEsc : hget p.hdr 245 245 = 0
  slots : p.slots = hLen p.hdr + 1
  closed : bitAt k.frt.ep.wopen (hEpoch p.hdr) = false
  noCirc : hget p.hdr 246 246 = 0
  noDesc : hType p.hdr ≠ 3
  noCtl : hType p.hdr ≠ 4
  valid : bitAt (k.rtEntry (hEpoch p.hdr) (hDst p.hdr)) 63 = true
  here : fld (k.rtEntry (hEpoch p.hdr) (hDst p.hdr)) 62 60 = 1

section
variable {k} {p : Packet}

/-- The router looks at the slots and at the header without POISON. -/
theorem LocalPacket.of_header (h : LocalPacket k p) {q : Packet}
    (hget : ∀ hi lo, hi < 247 ∨ 247 < lo → hget q.hdr hi lo = hget p.hdr hi lo) (hcrc : hdrCrc q.hdr = hdrCrc p.hdr)
    (hslots : q.slots = p.slots) : LocalPacket k q := by
  have hvc : hVc q.hdr = hVc p.hdr := hget _ _ (by omega)
  have htyp : hType q.hdr = hType p.hdr := hget _ _ (by omega)
  have hep : hEpoch q.hdr = hEpoch p.hdr := hget _ _ (by omega)
  have hdst : hDst q.hdr = hDst p.hdr := hget _ _ (by omega)
  have hlen : hLen q.hdr = hLen p.hdr := hget _ _ (by omega)
  refine ⟨(hget _ _ (by omega)).trans h.version, ?_, ?_, ?_, ?_, (hget _ _ (by omega)).trans h.noEsc, ?_, ?_,
    (hget _ _ (by omega)).trans h.noCirc, ?_, ?_, ?_, ?_⟩
  · rw [hcrc, hget _ _ (by omega)]; exact h.crc
  · rw [hvc]; exact h.vc
  · rw [htyp]; exact h.typ
  · rw [hvc, htyp]; exact h.allowed
  · rw [hslots, hlen]; exact h.slots
  · rw [hep]; exact h.closed
  · rw [htyp]; exact h.noDesc
  · rw [htyp]; exact h.noCtl
  · rw [hep, hdst]; exact h.valid
  · rw [hep, hdst]; exact h.here

theorem Packet.parity_true : p.parity true = { p with hdr := hset p.hdr 247 247 1 } := if_pos rfl

theorem Packet.parity_false : p.parity false = p := if_neg (by decide)

/-- Neither the port noted nor POISON set sends a packet elsewhere. -/
theorem LocalPacket.marked (h : LocalPacket k p) (n : Nat) (bad : Bool) :
    LocalPacket k (({ p with inPort := n } : Packet).parity bad) := by
  cases bad
  · rw [Packet.parity_false]
    exact h.of_header (fun _ _ _ => rfl) rfl rfl
  · rw [Packet.parity_true]
    exact h.of_header (fun _ _ hd => hget_hset_of_disjoint _ (by omega) (by omega) hd _) (hdrCrc_hset_poison _ _) rfl

theorem Core.rtEntry_of_tb {k k' : Core} {v e : Nat}
    (h0 : k'.tb Reg.FRT_RT_TBL (2 * (262144 * v + e)) = k.tb Reg.FRT_RT_TBL (2 * (262144 * v + e)))
    (h1 : k'.tb Reg.FRT_RT_TBL (2 * (262144 * v + e) + 1) = k.tb Reg.FRT_RT_TBL (2 * (262144 * v + e) + 1)) :
    k'.rtEntry v e = k.rtEntry v e := by
  simp only [Core.rtEntry, Core.tbn, h0, h1]

theorem Core.rtEntry_of_tbl {k k' : Core} (h : k'.tbl = k.tbl) (v e : Nat) : k'.rtEntry v e = k.rtEntry v e :=
  Core.rtEntry_of_tb (Core.tb_of_tbl h _ _) (Core.tb_of_tbl h _ _)

/-- The router's view of a packet is the open versions and the packet's entry. -/
theorem LocalPacket.of_same {k' : Core} (h : LocalPacket k p) (hw : k'.frt.ep.wopen = k.frt.ep.wopen)
    (hr : k'.rtEntry (hEpoch p.hdr) (hDst p.hdr) = k.rtEntry (hEpoch p.hdr) (hDst p.hdr)) : LocalPacket k' p :=
  ⟨h.version, h.crc, h.vc, h.typ, h.allowed, h.noEsc, h.slots, by rw [hw]; exact h.closed, h.noCirc, h.noDesc, h.noCtl,
    by rw [hr]; exact h.valid, by rw [hr]; exact h.here⟩

theorem LocalPacket.takeRx (h : LocalPacket k p) (n : Nat) (q : Packet) : LocalPacket (k.takeRx n q) p :=
  h.of_same (k.takeRx_wopen n q) (Core.rtEntry_of_tbl (k.takeRx_tbl n q) _ _)

/-- The checks of R68 and the lookup of R74, passed one after the other. -/
theorem LocalPacket.routeRx (h : LocalPacket k p) : k.routeRx p = k.deliver p none := by
  obtain ⟨hver, hcrc, hvc, htyp, hallow, hesc, hslots, hclosed, hcirc, -, -, hvalid, hhere⟩ := h
  have hesc7 : ¬ ((hget p.hdr 245 245 = 1) ≠ (hVc p.hdr = 7)) :=
    not_not.2 (propext ⟨fun h => by omega, fun h => by omega⟩)
  have hchecks : k.routeRx p = k.route p := by
    unfold Core.routeRx
    dsimp only
    rw [if_neg (by simp [hver, hcrc]), if_neg (by omega), if_neg, if_neg (by simp [hclosed])]
    rintro (hbad | hbad | hbad | hbad)
    · omega
    · simp [hallow] at hbad
    · exact hesc7 hbad
    · exact hbad hslots
  have hroute : k.route p = k.lookup p := by
    unfold Core.route
    rw [if_neg (by omega), if_neg (by omega)]
  rw [hchecks, hroute]
  unfold Core.lookup
  dsimp only
  rw [if_neg (by simp [hvalid])]
  simp only [hhere]

end

/-- A header that fails its check (R68). -/
theorem Core.routeRx_bad {p : Packet} (h : hget p.hdr 255 252 ≠ 1 ∨ hdrCrc p.hdr ≠ hget p.hdr 15 0) :
    k.routeRx p = k.dropPkt p 1 Reg.FRT_BADHDR_CNT := if_pos h

/-- The running router has packet `p` to take from port `n`, which is ON, and room for a descriptor. -/
structure HeadAt (n : Nat) (p : Packet) (rest : List Packet) : Prop where
  port : n < 32
  router : k.isOn .router = true
  ofl : k.isOn (.ofl n) = true
  rxq : (k.port n).rxq = p :: rest
  room : k.descFull = false

section
variable {k} {n : Nat} {p : Packet} {rest : List Packet}

theorem HeadAt.busy (h : HeadAt k n p rest) : k.routerBusy n = true := by
  simp [Core.routerBusy, h.port, h.router, h.ofl, h.rxq]

theorem HeadAt.of_same {k' : Core} (h : HeadAt k n p rest) (hfns : k'.fns = k.fns) (hfpc : k'.fpc = k.fpc)
    (hfrt : k'.frt = k.frt) : HeadAt k' n p rest :=
  ⟨h.port, (Core.isOn_of_fns hfns _).trans h.router, (Core.isOn_of_fns hfns _).trans h.ofl,
    by rw [Core.port_of_fpc hfpc, h.rxq], by unfold Core.descFull; rw [hfrt]; exact h.room⟩

/-- The packet is taken and routed, where that adds no descriptor to those that wait. -/
theorem HeadAt.routerTake (h : HeadAt k n p rest) {bad : Bool} {k' : Core}
    (hk : (k.takeRx n p).routeRx (({ p with inPort := n } : Packet).parity bad) = k') (hd : k'.frt.desc = k.frt.desc) :
    k.routerTake n bad = k' := by
  have hfull : k'.descFull = false := by unfold Core.descFull; rw [hd]; exact h.room
  unfold Core.routerTake
  rw [if_neg (by simp [h.busy]), if_pos h.port, h.rxq]
  dsimp only
  rw [hk, if_neg (by simp [hfull])]

theorem HeadAt.takeRx_rxq (h : HeadAt k n p rest) : ((k.takeRx n p).port n).rxq = rest := by
  rw [Core.takeRx_rxq, h.rxq, List.drop_one, List.tail_cons]

theorem HeadAt.routerTake_bad (h : HeadAt k n p rest) (hbad : hget p.hdr 255 252 ≠ 1 ∨ hdrCrc p.hdr ≠ hget p.hdr 15 0) :
    k.routerTake n false = (k.takeRx n p).dropPkt { p with inPort := n } 1 Reg.FRT_BADHDR_CNT := by
  refine h.routerTake ?_ ?_
  · rw [Packet.parity_false]
    exact Core.routeRx_bad _ hbad
  · obtain ⟨e, he⟩ := (k.takeRx n p).dropPkt_frt { p with inPort := n } 1 Reg.FRT_BADHDR_CNT
    rw [he]
    exact k.takeRx_desc n p

/-- The packet as the flow context store gets it, at the end of those it has. -/
theorem HeadAt.routerTake_local (h : HeadAt k n p rest) (hl : LocalPacket k p) (bad : Bool) : ∃ k' : Core,
    k.routerTake n bad = k'.leaves (({ p with inPort := n } : Packet).parity bad) ∧
    k' = { k.takeRx n p with frt := { (k.takeRx n p).frt with
      data := k.frt.data ++ [{ pkt := ({ p with inPort := n } : Packet).parity bad, site := none }] } } := by
  have hq := (hl.marked n bad).takeRx n p
  have hroute := hq.routeRx.trans (Core.deliver_data _ hq.noDesc hq.noCtl)
  rw [Core.takeRx_data] at hroute
  refine ⟨_, h.routerTake hroute ?_, rfl⟩
  obtain ⟨e, he⟩ := Core.leaves_frt _ _
  rw [he]
  exact k.takeRx_desc n p

end

end

/-! ### ROUTER_PACKET_RX (R17, R68, R70, R75, R214) -/

section
variable {s : State} {n : Nat} {p : Packet} {rest : List Packet} {l : List Part} {r : List Nat}

/-- A header that fails its check: the packet is gone from its port, dropped and counted. -/
theorem HeadAt.onCore_bad (h : HeadAt s.core n p rest)
    (hbad : hget p.hdr 255 252 ≠ 1 ∨ hdrCrc p.hdr ≠ hget p.hdr 15 0) {t : State}
    (ht : t = s.onCore (fun k => k.routerTake n false)) :
    (t.core.port n).rxq = rest ∧ t.core.rd Reg.FRT_BADHDR_CNT = min (s.core.rd Reg.FRT_BADHDR_CNT + 1) (2 ^ 32 - 1) ∧
      t.core.frt.data = s.core.frt.data ∧ s.only [.fpc, .frt] [Reg.FRT_BADHDR_CNT] t := by
  subst ht
  have hev : ¬ evReg Reg.FRT_BADHDR_CNT := by unfold evReg; decide
  have hk := h.routerTake_bad hbad
  refine ⟨?_, ?_, ?_, ?_⟩
  · rw [Core.port_of_fpc (State.onCore_fpc _ _), hk, Core.port_of_fpc (Core.dropPkt_fpc _ _ _ _), h.takeRx_rxq]
  · rw [State.rd_onCore _ _ hev, hk, Core.rd_dropPkt_same _ _ _ _ hev, Core.rd_of_regs (Core.takeRx_regs _ _ _)]
  · obtain ⟨e, he⟩ := Core.dropPkt_frt (s.core.takeRx n p) { p with inPort := n } 1 Reg.FRT_BADHDR_CNT
    rw [State.onCore_frt, hk, he]
    exact Core.takeRx_data _ _ _
  · have hon := (Core.isOn_of_fns (Core.takeRx_fns s.core n p) .router).trans h.router
    refine State.only_onCore s _ ?_ ?_ <;> rw [hk]
    · exact Core.onlyParts_trans (Core.onlyParts_takeRx _ _ _ (by simp) (by simp))
        (Core.onlyParts_dropPkt _ _ _ _ hon (by simp))
    · exact Core.onlyRegs_trans (Core.onlyRegs_of_regs (Core.takeRx_regs _ _ _)) (Core.onlyRegs_dropPkt _ _ _ _ (by simp))

/-- Local delivery: the packet is gone from its port and waits at the flow context store. -/
theorem HeadAt.onCore_local (h : HeadAt s.core n p rest) (hl : LocalPacket s.core p) (bad : Bool)
    (hp : Part.fpc ∈ l) (hf : Part.frt ∈ l) {t : State} (ht : t = s.onCore (fun k => k.routerTake n bad)) :
    (t.core.port n).rxq = rest ∧ t.core.tbl = s.core.tbl ∧
      t.core.frt.data = s.core.frt.data ++ [{ pkt := ({ p with inPort := n } : Packet).parity bad, site := none }] ∧
      s.only l r t := by
  subst ht
  obtain ⟨k', hk, hk'⟩ := h.routerTake_local hl bad
  have hon : k'.isOn .router = true := (Core.isOn_of_fns (by rw [hk', Core.takeRx_fns]) .router).trans h.router
  have hfpc : k'.fpc = (s.core.takeRx n p).fpc := by rw [hk']
  refine ⟨?_, ?_, ?_, ?_⟩
  · rw [Core.port_of_fpc (State.onCore_fpc _ _), hk, Core.port_of_fpc (Core.leaves_fpc _ _), Core.port_of_fpc hfpc,
      h.takeRx_rxq]
  · rw [State.onCore_tbl, hk, Core.leaves_tbl, hk', Core.takeRx_tbl]
  · obtain ⟨e, he⟩ := k'.leaves_frt (({ p with inPort := n } : Packet).parity bad)
    rw [State.onCore_frt, hk, he, hk']
  · have hparts : s.core.onlyParts l k' := by
      refine Core.onlyParts_trans (Core.onlyParts_takeRx _ n p hp hf) ?_
      rw [hk']
      intro q hq
      cases q
      case frt => exact absurd hf hq
      all_goals rfl
    have hregs : (k'.leaves (({ p with inPort := n } : Packet).parity bad)).regs = s.core.regs := by
      rw [Core.leaves_regs, hk', Core.takeRx_regs]
    refine State.only_onCore s _ ?_ ?_ <;> rw [hk]
    · exact Core.onlyParts_trans hparts (Core.onlyParts_leaves _ hon hf _)
    · exact Core.onlyRegs_of_regs hregs

end

/-! ### A parity error of a FIFO (R17, R214) -/

section
variable {k : Core} {l : List Part} {r : List Nat}

theorem Core.onlyParts_tbw (h : Part.tbl ∈ l) (win w v : Nat) : k.onlyParts l (k.tbw win w v) := by
  intro q hq
  cases q
  case tbl => exact absurd h hq
  all_goals rfl

/-- The entry of a routing table is no word of the table of parity errors. -/
theorem Core.rtEntry_tbw_fpar (h : BitVec 256) {sub : Nat} (hs : sub < 18) (v : Nat) :
    (k.tbw Reg.HBC_FPAR_TBL sub v).rtEntry (hEpoch h) (hDst h) = k.rtEntry (hEpoch h) (hDst h) := by
  have he : hEpoch h < 2 ^ 1 := fld_lt _ _ _
  have hd : hDst h < 2 ^ 18 := fld_lt _ _ _
  refine Core.rtEntry_of_tb (Core.tb_tbw_ne _ ?_ _) (Core.tb_tbw_ne _ ?_ _) <;>
  · unfold tkey Reg.FRT_RT_TBL Reg.HBC_FPAR_TBL
    omega

theorem Core.fifoParity_tbl (sub : Nat) :
    (k.fifoParity sub).tbl = (k.tbw Reg.HBC_FPAR_TBL sub (satAdd 32 (k.tb Reg.HBC_FPAR_TBL sub) 1)).tbl := by
  unfold Core.fifoParity
  exact Core.emitLim_tbl _ _ _ _ _ _ _

theorem Core.fifoParity_fns (sub : Nat) : (k.fifoParity sub).fns = k.fns := by
  unfold Core.fifoParity
  simp only [Core.emitLim_fns, Core.tbw_fns]

theorem Core.fifoParity_fpc (sub : Nat) : (k.fifoParity sub).fpc = k.fpc := by
  unfold Core.fifoParity
  simp only [Core.emitLim_fpc, Core.tbw_fpc]

theorem Core.fifoParity_frt (sub : Nat) : (k.fifoParity sub).frt = k.frt := by
  unfold Core.fifoParity
  simp only [Core.emitLim_frt, Core.tbw_frt]

/-- The error counts for its subsystem (R214). -/
theorem Core.tb_fifoParity (sub : Nat) :
    (k.fifoParity sub).tb Reg.HBC_FPAR_TBL sub = min (k.tb Reg.HBC_FPAR_TBL sub + 1) (2 ^ 32 - 1) := by
  have hlt : min (k.tb Reg.HBC_FPAR_TBL sub + 1) (2 ^ 32 - 1) < 2 ^ 32 := by omega
  rw [Core.tb_of_tbl (Core.fifoParity_tbl sub), Core.tb_tbw_same]
  exact Nat.mod_eq_of_lt hlt

theorem Core.onlyParts_fifoParity (h : Part.tbl ∈ l) (sub : Nat) : k.onlyParts l (k.fifoParity sub) :=
  Core.onlyParts_trans (Core.onlyParts_tbw h _ _ _) (Core.onlyParts_emitLim _ _ _ _ _ _)

theorem Core.onlyRegs_fifoParity (sub : Nat) : k.onlyRegs r (k.fifoParity sub) :=
  Core.onlyRegs_trans (Core.onlyRegs_of_regs (Core.tbw_regs _ _ _ _)) (Core.onlyRegs_emitLim _ _ _ _ _ _)

end

/-- The error a FIFO gave, if it gave one, counted for its subsystem (R214). -/
def State.fifoErr (s : State) : Option (Fin 18) → State
  | some sub => s.onCore (fun k => k.fifoParity sub.val)
  | none => s

/-- ROUTER_PACKET_RX where a packet waits: the errors first, then the packet. -/
theorem exec_routerPacketRx_of_busy {n : Fin 33} (par : Option (Fin 18)) (mem : Option MemErr) {s : State}
    (h : s.core.routerBusy n = true) : exec (.routerPacketRx n par mem) s =
      .next (((s.memErrs mem).fifoErr par).onCore (fun k => k.routerTake n par.isSome)) := by
  rw [exec_routerPacketRx, execRouterPacketRx, if_pos h]
  cases par with
  | none => rfl
  | some sub => rfl

section
variable {s : State} {n : Nat} {p : Packet} {rest : List Packet}

section
variable (s) (sub : Fin 18)

theorem State.fifoErr_fns : (s.fifoErr (some sub)).core.fns = s.core.fns := by
  rw [State.fifoErr, State.onCore_fns, Core.fifoParity_fns]

theorem State.fifoErr_fpc : (s.fifoErr (some sub)).core.fpc = s.core.fpc := by
  rw [State.fifoErr, State.onCore_fpc, Core.fifoParity_fpc]

theorem State.fifoErr_frt : (s.fifoErr (some sub)).core.frt = s.core.frt := by
  rw [State.fifoErr, State.onCore_frt, Core.fifoParity_frt]

theorem State.fifoErr_tbl : (s.fifoErr (some sub)).core.tbl = (s.core.fifoParity sub).tbl := by
  rw [State.fifoErr, State.onCore_tbl]

theorem State.only_fifoErr {l : List Part} {r : List Nat} (h : Part.tbl ∈ l) : s.only l r (s.fifoErr (some sub)) := by
  rw [State.fifoErr]
  exact State.only_onCore s _ (Core.onlyParts_fifoParity h _) (Core.onlyRegs_fifoParity _)

end

/-- The count of an error leaves the router's work as it stands. -/
theorem HeadAt.fifoErr (h : HeadAt s.core n p rest) (sub : Fin 18) : HeadAt (s.fifoErr (some sub)).core n p rest :=
  h.of_same (s.fifoErr_fns sub) (s.fifoErr_fpc sub) (s.fifoErr_frt sub)

theorem LocalPacket.fifoErr (h : LocalPacket s.core p) (sub : Fin 18) : LocalPacket (s.fifoErr (some sub)).core p := by
  refine h.of_same (by rw [s.fifoErr_frt sub]) ?_
  rw [Core.rtEntry_of_tbl (s.fifoErr_tbl sub), Core.rtEntry_of_tbl (Core.fifoParity_tbl _), Core.rtEntry_tbw_fpar p.hdr sub.isLt]

end

section
variable {s : State} {n : Fin 33} {p : Packet} {rest : List Packet}

/-- The packet whose payload came with a parity error goes to the flow context store poisoned (R17, R214). -/
theorem HeadAt.fifoErr_local (h : HeadAt s.core n p rest) (hl : LocalPacket s.core p) (sub : Fin 18) {t : State}
    (ht : t = (s.fifoErr (some sub)).onCore (fun k => k.routerTake n true)) :
    (t.core.port n).rxq = rest ∧
      t.core.frt.data = s.core.frt.data ++ [{ pkt := { p with hdr := hset p.hdr 247 247 1, inPort := n }, site := none }] ∧
      t.core.tb Reg.HBC_FPAR_TBL sub = min (s.core.tb Reg.HBC_FPAR_TBL sub + 1) (2 ^ 32 - 1) ∧
      s.only [.fpc, .frt, .tbl] [] t := by
  obtain ⟨hrxq, htbl, hdata, honly⟩ := (h.fifoErr sub).onCore_local (l := [.fpc, .frt, .tbl]) (r := []) (hl.fifoErr sub) true
    (by simp)
    (by simp) ht
  refine ⟨hrxq, ?_, ?_, State.only_trans (s.only_fifoErr sub (by simp)) honly⟩
  · rw [hdata, s.fifoErr_frt, Packet.parity_true]
  · rw [Core.tb_of_tbl htbl, Core.tb_of_tbl (s.fifoErr_tbl sub), Core.tb_fifoParity]

end

/-! ### ESC_TIMEOUT (R80, R81) -/

/-- Of a queue's packets the first is a head. -/
theorem qHeads_cons (x : QPkt) (l : List QPkt) :
    qHeads (x :: l) = x :: (qHeads l).filter (fun y => y.pkt.inPort != x.pkt.inPort) := rfl

/-- Once the first packet has left, one packet fewer waits. -/
theorem length_qRest_head (now : Nat) (x : QPkt) (l : List QPkt) :
    (qRest now x.pkt.inPort (x :: l)).length = l.length := by
  unfold qRest
  rw [if_pos rfl]
  split
  · exact List.length_modify _ _ _
  · rfl

section
variable (k : Core)

/-- What the escape table can do with a packet that leaves a port's queue (R81). -/
theorem Core.escRoute_eq (p : Packet) (here : Bool) : (∃ c ∈ [Reg.FRT_NOROUTE_CNT, Reg.FRT_ESC_VIOL_CNT], ∃ r,
    k.escRoute p here true = k.dropPkt p r c) ∨ k.escRoute p here true = k.deliver p none ∨
    ∃ o, k.escRoute p here true = k.enqueue o p := by
  unfold Core.escRoute
  dsimp only
  split
  · exact .inl ⟨_, by simp, _, rfl⟩
  split
  · exact .inr (.inl rfl)
  split
  · exact .inl ⟨_, by simp, _, rfl⟩
  split
  · exact .inl ⟨_, by simp, _, rfl⟩
  · rw [if_pos rfl]
    exact .inr (.inr ⟨_, rfl⟩)

/-- A packet routed on the escape channel leaves the other channels' queues. -/
theorem Core.escRoute_txq {p : Packet} {v : Nat} (hv : v ≠ hVc p.hdr) (here : Bool) (n : Nat) :
    ((k.escRoute p here true).port n).txq.get [] v = (k.port n).txq.get [] v := by
  rcases k.escRoute_eq p here with ⟨c, -, r, h⟩ | h | ⟨o, h⟩ <;> rw [h]
  · rw [Core.port_of_fpc (Core.dropPkt_fpc _ _ _ _)]
  · rw [Core.port_of_fpc (Core.deliver_fpc _ _ _)]
  · exact k.txq_enqueue_ne hv _ _

/-- The count of moves to the escape channel is not the routing's. -/
theorem Core.escRoute_moves (p : Packet) (here : Bool) :
    (k.escRoute p here true).rd Reg.FRT_ESC_MOVE_CNT = k.rd Reg.FRT_ESC_MOVE_CNT := by
  rcases k.escRoute_eq p here with ⟨c, hc, r, h⟩ | h | ⟨o, h⟩ <;> rw [h]
  · refine Core.rd_dropPkt_ne _ _ _ _ (by unfold evReg; decide) (fun he => ?_)
    subst he
    revert hc
    decide
  · exact Core.rd_of_regs (Core.deliver_regs _ _ _) _
  · exact Core.rd_of_regs (Core.enqueue_regs _ _ _) _

/-- The packet as it moves to the escape channel. -/
def Packet.escaped (p : Packet) : Packet := { p with hdr := hset (hset p.hdr 251 249 7) 245 245 1 }

theorem Packet.hVc_escaped (p : Packet) : hVc p.escaped.hdr = 7 := by
  unfold hVc Packet.escaped
  dsimp only
  rw [hget_hset_of_disjoint _ (by omega) (by omega) (by omega), hget_hset_same _ (by omega) (by omega)]
  rfl

theorem Core.escMove_eq (p : Packet) (out : Bool) : k.escMove p out =
    ((k.cnt Reg.FRT_ESC_MOVE_CNT).emitLim 0x1002 0x0201 0 0 32 [(71, 67, p.inPort)]).escRoute p.escaped true out := rfl

/-- The move to the escape channel counts and leaves the other channels' queues (R80). -/
theorem Core.escMove_txq (p : Packet) {v : Nat} (hv : v < 7) (n : Nat) :
    ((k.escMove p true).port n).txq.get [] v = (k.port n).txq.get [] v := by
  rw [Core.escMove_eq, Core.escRoute_txq _ (by rw [Packet.hVc_escaped]; omega),
    Core.port_of_fpc (Core.emitLim_fpc _ _ _ _ _ _ _), Core.port_of_fpc (Core.cnt_fpc _ _)]

theorem Core.rd_escMove (p : Packet) :
    (k.escMove p true).rd Reg.FRT_ESC_MOVE_CNT = min (k.rd Reg.FRT_ESC_MOVE_CNT + 1) (2 ^ 32 - 1) := by
  rw [Core.escMove_eq, Core.escRoute_moves, Core.rd_emitLim _ _ _ _ _ _ _ (by unfold evReg; decide), Core.rd_cnt_same]

/-- The first packet of a queue has waited the escape timeout: it leaves the queue and moves to the escape channel. -/
theorem Core.escTimeoutEv_head {n vc : Nat} {x : QPkt} {rest : List QPkt} (hq : (k.port n).txq.get [] vc = x :: rest)
    (hvc : vc < 7) (hdue : x.headT + 10 * k.fd Reg.FRT_ESC_TIMEOUT 15 0 ≤ k.now) (hrun : k.isOff .router = false) :
    k.escTimeoutEv n vc = (k.setPort n { k.port n with
      txq := (k.port n).txq.set [] vc (qRest k.now x.pkt.inPort (x :: rest)) }).escMove x.pkt true := by
  have hdead : k.escDead = some (k.now - 10 * k.fd Reg.FRT_ESC_TIMEOUT 15 0) := by
    unfold Core.escDead
    dsimp only
    rw [if_neg]
    rw [hrun, Bool.false_or, decide_eq_true_eq]
    omega
  have hfirst : (qHeads (x :: rest)).find? (fun y => k.escDead.any (fun t => decide (y.headT ≤ t))) = some x := by
    rw [qHeads_cons, List.find?_cons_of_pos]
    rw [hdead, Option.any_some, decide_eq_true_eq]
    omega
  unfold Core.escTimeoutEv
  dsimp only
  rw [hq, hfirst]
  exact if_pos hvc

/-- One packet fewer waits there, and the move counts (R80). -/
theorem Core.escTimeoutEv_moves {n vc : Nat} {x : QPkt} {rest : List QPkt} (hq : (k.port n).txq.get [] vc = x :: rest)
    (hvc : vc < 7) (hdue : x.headT + 10 * k.fd Reg.FRT_ESC_TIMEOUT 15 0 ≤ k.now) (hrun : k.isOff .router = false) :
    (((k.escTimeoutEv n vc).port n).txq.get [] vc).length = rest.length ∧
      (k.escTimeoutEv n vc).rd Reg.FRT_ESC_MOVE_CNT = min (k.rd Reg.FRT_ESC_MOVE_CNT + 1) (2 ^ 32 - 1) := by
  rw [k.escTimeoutEv_head hq hvc hdue hrun]
  refine ⟨?_, ?_⟩
  · rw [Core.escMove_txq _ _ hvc, Core.port_setPort_same, SMap.get_set_same, length_qRest_head]
  · rw [Core.rd_escMove, Core.rd_setPort]

end

/-! ### ROUTER_ENABLE and ROUTER_DISABLE (R434, R438, R511) -/

section
variable {k k' : Core}

theorem Core.OnlyFns.onlyParts (h : k.OnlyFns k') : k.onlyParts [.fns] k' := by
  obtain ⟨m, rfl⟩ := h
  intro q hq
  cases q
  case fns => exact absurd (List.mem_singleton_self _) hq
  all_goals rfl

theorem Core.OnlyFns.onlyRegs (h : k.OnlyFns k') {r : List Nat} : k.onlyRegs r k' := by
  obtain ⟨m, rfl⟩ := h
  exact Core.onlyRegs_of_regs rfl

/-- ENABLE of a router that is OFF: through STARTING, which checks nothing, to ON. -/
theorem Core.routerCmd_enable (h : k.fst .router = .off) :
    k.routerCmd 1 = ((k.setFst .router .starting stOk).setFst .router .on stOk, stOk) := by
  unfold Core.routerCmd Core.fnEnable Core.fnStart
  simp only [h, if_true]

/-- DISABLE of a router that is ON: it drains. -/
theorem Core.routerCmd_disable (h : k.fst .router = .on) :
    k.routerCmd 2 = ((k.setFst .router .draining stOk).routerChk, stOk) := by
  unfold Core.routerCmd Core.fnDisable
  simp only [h]

/-- A draining router without an ENABLE pending is OFF once nothing is in flight. -/
theorem Core.fst_routerChk (h : k.fst .router = .draining) (hp : (k.fn .router).pend = false) :
    k.routerChk.fst .router = if k.frt.ep.infl0 = 0 ∧ k.frt.ep.infl1 = 0 then .off else .draining := by
  unfold Core.routerChk
  split
  · unfold Core.fnDrained
    rw [if_pos h]
    simp [hp, Core.fst]
  · exact h

end

section
variable {s : State}

theorem exec_routerEnable : exec .routerEnable s = .next (State.bootSt (s.bootFcmd 1)) := rfl

theorem exec_routerDisable : exec .routerDisable s = .next (State.bootSt (s.bootFcmd 2)) := rfl

/-- The router answers a command that succeeds: its state changes and BOOT_STAT shows ST_OK. -/
theorem State.bootFcmd_stOk (ha : s.answers = true) {cmd : Nat} {k : Core} (hk : s.core.routerCmd cmd = (k, stOk))
    (hfns : s.core.OnlyFns k) {t : State} (ht : t = State.bootSt (s.bootFcmd cmd)) :
    t.core.fst .router = k.fst .router ∧ t.aon.fd Reg.BOOT_STAT 7 0 = stOk ∧
      s.core.onlyParts [.fns] t.core ∧ s.core.onlyRegs [] t.core := by
  have hcore : t.core = (s.onCore fun k => (k.routerCmd cmd).1).core := by
    rw [ht, State.bootFcmd, if_pos ha, State.bootSt]
  have hcmd : (s.core.routerCmd cmd).1 = k := by rw [hk]
  have hstat : t.aon.fd Reg.BOOT_STAT 7 0 = stOk % 2 ^ 8 := by
    rw [ht, State.bootFcmd, if_pos ha, State.bootSt, hk]
    exact Aon.fd_wrf_same _ _ _ (by omega) (by omega)
  obtain ⟨-, hparts, hregs⟩ := State.only_onCore (l := [.fns]) (r := []) s (fun k => (k.routerCmd cmd).1)
    (by rw [hcmd]; exact hfns.onlyParts) (by rw [hcmd]; exact hfns.onlyRegs)
  rw [hcore]
  refine ⟨?_, hstat, hparts, hregs⟩
  unfold Core.fst Core.fn
  rw [State.onCore_fns, hcmd]

end

/-- Settles O9: the router's checks and lookup for one packet of a port, the head past the escape timeout, and the two
commands of the function state. -/
theorem routerHandlesPackets : Obligations.RouterHandlesPackets := by
  unfold Obligations.RouterHandlesPackets
  refine ⟨?_, ?_, ?_, ?_, ?_, ?_, ?_⟩
  · intro n p rest s hport hrouter hofl hrxq hroom hbad
    have h : HeadAt s.core n p rest := ⟨hport, hrouter, hofl, hrxq, hroom⟩
    exact .of_exec (exec_routerPacketRx_of_busy none none h.busy) (h.onCore_bad hbad rfl)
  · intro n p rest s hport hrouter hofl hrxq hroom hver hcrc hvc htyp hallow hesc hslots hclosed hcirc h3 h4 hvalid hhere
    have h : HeadAt s.core n p rest := ⟨hport, hrouter, hofl, hrxq, hroom⟩
    have hl : LocalPacket s.core p := ⟨hver, hcrc, hvc, htyp, hallow, hesc, hslots, hclosed, hcirc, h3, h4, hvalid, hhere⟩
    obtain ⟨hrest, -, hdata, honly⟩ := h.onCore_local (l := [.fpc, .frt]) (r := []) hl false (by simp) (by simp) rfl
    rw [Packet.parity_false] at hdata
    exact .of_exec (exec_routerPacketRx_of_busy none none h.busy) ⟨hrest, hdata, honly⟩
  · intro n sub p rest s hport hrouter hofl hrxq hroom hver hcrc hvc htyp hallow hesc hslots hclosed hcirc h3 h4 hvalid hhere
    have h : HeadAt s.core n p rest := ⟨hport, hrouter, hofl, hrxq, hroom⟩
    have hl : LocalPacket s.core p := ⟨hver, hcrc, hvc, htyp, hallow, hesc, hslots, hclosed, hcirc, h3, h4, hvalid, hhere⟩
    exact .of_exec (exec_routerPacketRx_of_busy (some sub) none h.busy) (h.fifoErr_local hl sub rfl)
  · intro n par mem s hbusy hbusy'
    exact .of_exec (exec_routerPacketRx_of_busy par mem hbusy) (exec_routerPacketRx_of_busy par none hbusy')
  · intro n vc x rest s hq hvc hdue hrun
    obtain ⟨hlen, hcnt⟩ := s.core.escTimeoutEv_moves hq hvc hdue hrun
    refine .of_exec (t := s.onCore fun k => k.escTimeoutEv n vc) rfl ⟨?_, ?_, State.outsideStands_onCore _ _⟩
    · rw [Core.port_of_fpc (State.onCore_fpc _ _)]
      exact hlen
    · rw [State.rd_onCore _ _ (by unfold evReg; decide)]
      exact hcnt
  · intro s ha hoff
    obtain ⟨hfst, hstat, hparts, hregs⟩ := State.bootFcmd_stOk ha (Core.routerCmd_enable hoff)
      ((s.core.onlyFns_setFst_router _ _).trans (Core.onlyFns_setFst_router _ _ _)) rfl
    exact .of_exec exec_routerEnable ⟨hfst.trans (Core.fst_setFst_same _ _ _ _), hstat, hparts, hregs⟩
  · intro s ha hon hpend
    obtain ⟨hfst, hstat, hparts, hregs⟩ := State.bootFcmd_stOk ha (Core.routerCmd_disable hon)
      ((s.core.onlyFns_setFst_router _ _).trans (Core.onlyFns_routerChk _)) rfl
    have hdrain : ((s.core.setFst .router .draining stOk).fn .router).pend = false := by rw [Core.fn_setFst_same]; exact hpend
    refine .of_exec exec_routerDisable ⟨hstat, ?_, hparts, hregs⟩
    rw [hfst, Core.fst_routerChk (Core.fst_setFst_same _ _ _ _) hdrain, Core.setFst_router]
    rfl

end Sys2Proof.Machine
end

section
/-!
PROOFS. The routing versions and the router's tables (03_fabric_side R82 to R86, R90, R91): what a write through a window
shows (00_scope R10, R11), the epoch register, the words of the routing, circuit and escape tables.
-/

namespace Sys2Proof.Machine

open Sys2Proof

/-! ### A write through a window (00_scope R10, R11) -/

section
variable (k : Core)

theorem Core.rd_wrf_same (a v : Nat) {hi lo : Nat} (h : hi < 32) (hl : lo ≤ hi) :
    (k.wrf a hi lo v).rd a = setFld (k.rd a) hi lo v := by
  unfold Core.wrf
  rw [Core.rd_wr_same, Nat.mod_eq_of_lt (setFld_lt 32 v h hl (k.rd_lt a))]

theorem Core.fd_wrf_ne {a b : Nat} (h : b ≠ a) (hi lo v hi' lo' : Nat) :
    (k.wrf a hi lo v).fd b hi' lo' = k.fd b hi' lo' := by
  unfold Core.fd
  rw [Core.rd_wrf_ne k h]

/-- A field below the one written reads as before. -/
theorem Core.fd_wrf_below (a v : Nat) {hi lo hi' : Nat} (h : hi < 32) (hl : lo ≤ hi) (hb : hi' < lo) (lo' : Nat) :
    (k.wrf a hi lo v).fd a hi' lo' = k.fd a hi' lo' := by
  unfold Core.fd
  rw [Core.rd_wrf_same k a v h hl, fld_setFld_below hb]

/-- A field above the one written reads as before. -/
theorem Core.fd_wrf_above (a v : Nat) {hi lo lo' : Nat} (h : hi < 32) (hl : lo ≤ hi) (hb : hi < lo') (hi' : Nat) :
    (k.wrf a hi lo v).fd a hi' lo' = k.fd a hi' lo' := by
  unfold Core.fd
  rw [Core.rd_wrf_same k a v h hl, fld_setFld_above hl hb]

/-- What a window shows after a management write of status `st`: the status, and WORD where it advances (R11). -/
def Core.winShown (win st : Nat) : Core :=
  if isBusySt st then k.winSt win true st else (k.winSt win true st).winAdv win

/-- A management write through a window: the table's own write, then the window shows it. -/
theorem Core.winWrite_of_word {win words w v st : Nat} {f : Core → Nat → Nat → Core × Nat} {k' : Core}
    (hw : k.fd win 23 0 = w) (hlt : w < words) (hf : f k w v = (k', st)) :
    k.winWrite win words true f v = (k'.winShown win st, st) := by
  unfold Core.winWrite Core.winShown
  simp only [hw, if_neg (Nat.not_le.2 hlt), hf]

@[simp] theorem Core.winShown_tbl (win st : Nat) : (k.winShown win st).tbl = k.tbl := by
  unfold Core.winShown; split <;> simp

@[simp] theorem Core.winShown_frt (win st : Nat) : (k.winShown win st).frt = k.frt := by
  unfold Core.winShown; split <;> simp

@[simp] theorem Core.winShown_cle (win st : Nat) : (k.winShown win st).cle = k.cle := by
  unfold Core.winShown; split <;> simp

theorem Core.fd_winShown_status (win st : Nat) : (k.winShown win st).fd win 31 24 = st % 2 ^ 8 := by
  have hst : (k.winSt win true st).fd win 31 24 = st % 2 ^ 8 := k.fd_wrf_same win _ _ _ (by omega) (by omega)
  unfold Core.winShown
  split
  · exact hst
  · exact (Core.fd_wrf_above _ _ _ (by omega) (by omega) (by omega) _).trans hst

theorem Core.fd_winShown_word {win w st : Nat} (hw : k.fd win 23 0 = w) (hlt : w + 1 < 2 ^ 24) :
    (k.winShown win st).fd win 23 0 = if isBusySt st then w else w + 1 := by
  have hst : (k.winSt win true st).fd win 23 0 = w :=
    (k.fd_wrf_below _ _ (by omega) (by omega) (by omega) _).trans hw
  unfold Core.winShown
  split
  · exact hst
  · refine (Core.fd_wrf_same _ _ _ _ _ (by omega) (by omega)).trans ?_
    rw [hst, Nat.mod_eq_of_lt hlt]

section
variable {k} {l : List Part} {r : List Nat}

theorem Core.onlyParts_winShown (win st : Nat) : k.onlyParts l (k.winShown win st) := by
  unfold Core.winShown
  split
  · exact Core.onlyParts_wrf _ _ _ _
  · exact Core.onlyParts_trans (Core.onlyParts_wrf _ _ _ _) (Core.onlyParts_wrf _ _ _ _)

theorem Core.onlyRegs_winShown {win : Nat} (h : win ∈ r) (st : Nat) : k.onlyRegs r (k.winShown win st) := by
  unfold Core.winShown
  split
  · exact Core.onlyRegs_wrf h _ _ _
  · exact Core.onlyRegs_trans (Core.onlyRegs_wrf h _ _ _) (Core.onlyRegs_wrf h _ _ _)

end

end

/-- A window's management command, where the table writes word `w` and leaves the registers: what it did to the table and
to the router, and what the window shows. -/
theorem State.mgmtWin_of_word {s : State} (ha : s.answers = true) {stat win words w v st : Nat} {l : List Part}
    {f : Core → Nat → Nat → Core × Nat} {k' : Core} (hw : s.core.fd win 23 0 = w) (hlt : w < words)
    (hf : f s.core w v = (k', st)) (hregs : k'.regs = s.core.regs) (hparts : s.core.onlyParts l k')
    (hwords : words < 2 ^ 24) (hstat : win ≠ stat) (hev : ¬ evReg win) {t : State}
    (ht : t = s.mgmtWin stat win words f v) :
    t.core.tbl = k'.tbl ∧ t.core.frt = k'.frt ∧ t.core.fd win 23 0 = (if isBusySt st then w else w + 1) ∧
      t.core.fd win 31 24 = st % 2 ^ 8 ∧ s.only l [win, stat] t := by
  subst ht
  have hwin := s.core.winWrite_of_word hw hlt hf
  have hw' : k'.fd win 23 0 = w := by unfold Core.fd; rw [Core.rd_of_regs hregs]; exact hw
  have hfd : ∀ hi lo, (s.mgmtWin stat win words f v).core.fd win hi lo = (k'.winShown win st).fd win hi lo := by
    intro hi lo
    unfold Core.fd State.mgmtWin
    rw [State.rd_mgmt s ha stat _ hev hstat, hwin]
  refine ⟨?_, ?_, ?_, ?_, ?_⟩
  · rw [State.mgmtWin, State.mgmt_tbl s ha, hwin, Core.winShown_tbl]
  · rw [State.mgmtWin, State.mgmt_frt s ha, hwin, Core.winShown_frt]
  · rw [hfd, Core.fd_winShown_word _ hw' (by omega)]
  · rw [hfd, Core.fd_winShown_status]
  · refine State.only_mgmt s ha stat _ (by simp) ?_ ?_ <;> rw [hwin]
    · exact Core.onlyParts_trans hparts (Core.onlyParts_winShown _ _)
    · exact Core.onlyRegs_trans (Core.onlyRegs_of_regs hregs) (Core.onlyRegs_winShown (by simp) _)

/-! ### FRT_EPOCH written (R84, R86) -/

section
variable (k : Core) (v : Nat)

/-- The versions that WCLOSE of a written value leaves open. -/
def Core.stillOpen : Nat := k.frt.ep.wopen &&& (3 - fld v 13 12)

/-- The epoch with the versions of WCLOSE closed. -/
def Core.closeVersions : Core := { k with frt := { k.frt with ep := { k.frt.ep with wopen := k.stillOpen v } } }

theorem Core.epochWrite_current (h : fld v 0 0 = k.frt.ep.cur) : k.epochWrite v = (k.closeVersions v, stOk) := if_pos h

theorem Core.epochWrite_open (h : fld v 0 0 ≠ k.frt.ep.cur) (ho : bitAt (k.stillOpen v) (fld v 0 0) = true) :
    k.epochWrite v = (k.closeVersions v, stBusy) := (if_neg h).trans (if_pos ho)

/-- The version CUR names becomes current, and EPOCH_SWAP is logged (R93). -/
theorem Core.epochWrite_switch (h : fld v 0 0 ≠ k.frt.ep.cur) (ho : bitAt (k.stillOpen v) (fld v 0 0) = false) :
    k.epochWrite v = (({ k with frt := { k.frt with ep := { k.frt.ep with
      wopen := k.stillOpen v, cur := fld v 0 0, idle := setBit k.frt.ep.idle (fld v 0 0) false } } } : Core).emit
        0x1000 0x0202 [(0, 0, fld v 0 0)], stOk) := by
  unfold Core.epochWrite
  exact (if_neg h).trans (if_neg (by simpa [Core.stillOpen] using ho))

end

section
variable {k : Core} {l : List Part} {r : List Nat}

/-- Whatever becomes of the router's own part, nothing else changes. -/
theorem Core.onlyParts_frt (h : Part.frt ∈ l) (f : Frt) : k.onlyParts l { k with frt := f } := by
  intro q hq
  cases q
  case frt => exact absurd h hq
  all_goals rfl

theorem exec_epochWrite {c : Instr} {v : Word} (hc : c ∈ [Instr.epochWclose v, Instr.epochSetCur v]) (s : State) :
    exec c s = .next (s.mgmt Reg.FRT_STAT (fun k => k.epochWrite v.toNat)) := by
  obtain rfl | rfl : c = Instr.epochWclose v ∨ c = Instr.epochSetCur v := by simpa using hc
  · rfl
  · rfl

/-- A write of FRT_EPOCH shows in the epoch and in FRT_STAT alone. -/
theorem State.mgmt_epochWrite {s : State} (ha : s.answers = true) {v st : Nat} {k' : Core}
    (hk : s.core.epochWrite v = (k', st)) (hst : st < 256) (hparts : s.core.onlyParts [.frt] k')
    (hregs : s.core.onlyRegs [Reg.FRT_STAT] k') {t : State}
    (ht : t = s.mgmt Reg.FRT_STAT (fun k => k.epochWrite v)) :
    t.core.frt = k'.frt ∧ t.core.fd Reg.FRT_STAT 7 0 = st ∧ s.only [.frt] [Reg.FRT_STAT] t := by
  subst ht
  refine ⟨?_, ?_, State.only_mgmt s ha _ _ (by simp) ?_ ?_⟩
  · rw [State.mgmt_frt s ha, hk]
  · rw [State.mgmt_status s ha _ _ (by unfold evReg; decide), hk]
    exact Nat.mod_eq_of_lt hst
  · rw [hk]; exact hparts
  · rw [hk]; exact hregs

end

/-- A version with nothing in flight for 10 us becomes idle (R83). -/
theorem Core.epochIdleEv_due {k : Core} {v : Nat} (hcur : v ≠ k.frt.ep.cur) (hinfl : k.frt.ep.infl v = 0)
    (hdue : k.frt.ep.zt v + 10000 ≤ k.now) : k.epochIdleEv v =
      { k with frt := { k.frt with ep := { k.frt.ep with idle := setBit k.frt.ep.idle v true } } } :=
  if_pos ⟨hcur, hinfl, hdue⟩

/-! ### Table entries of two words (R85) -/

theorem tkey_inj {win a b : Nat} : tkey win a = tkey win b ↔ a = b := by unfold tkey; omega

section
variable (k : Core) (win w : Nat)

theorem Core.lowHeld_holdLow (v : Option Word) : (k.holdLow win w v).lowHeld win w = v := by
  unfold Core.lowHeld Core.holdLow
  exact SMap.get_set_same _ _ _ _

/-- What the low word becomes: the one held, or as it stands. -/
def Core.lowDue : Nat := ((k.lowHeld win (w - 1)).map (fun (l : Word) => l.toNat)).getD (k.tb win (w - 1))

/-- The entry with its held low word put. -/
def Core.putLow : Core :=
  match k.lowHeld win (w - 1) with
  | some l => k.tbw win (w - 1) l.toNat
  | none => k

theorem Core.putEntry_eq (hi : Nat) : k.putEntry win w hi = ((k.putLow win w).tbw win w hi).holdLow win (w - 1) none := rfl

theorem Core.putLow_eq : ∃ m, k.putLow win w = { k with tbl := m } := by
  unfold Core.putLow
  split <;> exact ⟨_, rfl⟩

theorem Core.tb_putLow_same : (k.putLow win w).tb win (w - 1) = k.lowDue win w := by
  unfold Core.putLow Core.lowDue
  cases h : k.lowHeld win (w - 1) with
  | none => rfl
  | some l => exact (k.tb_tbw_same _ _ _).trans (Nat.mod_eq_of_lt l.isLt)

theorem Core.tb_putLow_ne {w' : Nat} (h : w' ≠ w - 1) : (k.putLow win w).tb win w' = k.tb win w' := by
  unfold Core.putLow
  split
  · exact Core.tb_tbw_ne _ (mt tkey_inj.1 h) _
  · rfl

/-- The high word is put. -/
theorem Core.tb_putEntry_high {hi : Nat} (h : hi < 2 ^ 32) : (k.putEntry win w hi).tb win w = hi := by
  rw [Core.putEntry_eq]
  exact (Core.tb_tbw_same _ _ _ _).trans (Nat.mod_eq_of_lt h)

/-- With the high word the low word held takes effect (R85). -/
theorem Core.tb_putEntry_low (h : 0 < w) (hi : Nat) : (k.putEntry win w hi).tb win (w - 1) = k.lowDue win w := by
  rw [Core.putEntry_eq]
  exact (Core.tb_tbw_ne _ (mt tkey_inj.1 (by omega)) _).trans (k.tb_putLow_same win w)

/-- Another entry stands. -/
theorem Core.tb_putEntry_ne {w' : Nat} (h : w' ≠ w) (hl : w' ≠ w - 1) (hi : Nat) :
    (k.putEntry win w hi).tb win w' = k.tb win w' := by
  rw [Core.putEntry_eq]
  exact (Core.tb_tbw_ne _ (mt tkey_inj.1 h) _).trans (k.tb_putLow_ne win w hl)

theorem Core.putEntry_parts (hi : Nat) : ∃ m x, k.putEntry win w hi =
    { k with tbl := m, frt := { k.frt with low := x } } := by
  obtain ⟨m, hm⟩ := k.putLow_eq win w
  rw [Core.putEntry_eq, hm]
  exact ⟨_, _, rfl⟩

theorem Core.putEntry_ep (hi : Nat) : (k.putEntry win w hi).frt.ep = k.frt.ep := by
  obtain ⟨m, x, h⟩ := k.putEntry_parts win w hi
  rw [h]

theorem Core.putEntry_regs (hi : Nat) : (k.putEntry win w hi).regs = k.regs := by
  obtain ⟨m, x, h⟩ := k.putEntry_parts win w hi
  rw [h]

section
variable {k} {l : List Part}

theorem Core.onlyParts_putEntry (hf : Part.frt ∈ l) (ht : Part.tbl ∈ l) (hi : Nat) : k.onlyParts l (k.putEntry win w hi) := by
  obtain ⟨m, x, h⟩ := k.putEntry_parts win w hi
  rw [h]
  intro q hq
  cases q
  case frt => exact absurd hf hq
  case tbl => exact absurd ht hq
  all_goals rfl

end

end

/-! ### RT_TBL_WRITE (R84, R85) -/

section
variable (k : Core)

/-- A write to a version opens it (R84). -/
def Core.openVersion (v : Nat) : Core :=
  { k with frt := { k.frt with ep := { k.frt.ep with wopen := setBit k.frt.ep.wopen v true } } }

/-- Version `v` takes writes: it is not current, and idle or open (R84). -/
def Core.takesWrites (v : Nat) : Prop := v ≠ k.frt.ep.cur ∧ (bitAt k.frt.ep.idle v = true ∨ bitAt k.frt.ep.wopen v = true)

variable {k} {w v : Nat}

theorem rtWrite_low (h : k.takesWrites (w / 524288)) (hw : w % 2 = 0) :
    rtWrite k w v = ((k.openVersion (w / 524288)).holdLow Reg.FRT_RT_TBL w (some (word v)), stOk) :=
  (if_pos h).trans (if_pos hw)

theorem rtWrite_high (h : k.takesWrites (w / 524288)) (hw : w % 2 ≠ 0) :
    rtWrite k w v = ((k.openVersion (w / 524288)).putEntry Reg.FRT_RT_TBL w (v &&& 0xFFF80000), stOk) :=
  (if_pos h).trans (if_neg hw)

theorem rtWrite_refused (h : ¬ k.takesWrites (w / 524288)) : rtWrite k w v = (k, stEpochBusy) := if_neg h

end

/-- A word of a routing table whose version takes writes (R84, R85). -/
theorem State.rtTblWrite_taken {s : State} (ha : s.answers = true) {w : Nat} (v : Word)
    (hw : s.core.fd Reg.FRT_RT_TBL 23 0 = w) (hlt : w < 1048576) (hopen : s.core.takesWrites (w / 524288)) {t : State}
    (ht : t = s.mgmtWin Reg.FRT_STAT Reg.FRT_RT_TBL 1048576 rtWrite v.toNat) :
    t.core.frt.ep = (s.core.openVersion (w / 524288)).frt.ep ∧
      t.core.fd Reg.FRT_RT_TBL 23 0 = w + 1 ∧ t.core.fd Reg.FRT_RT_TBL 31 24 = stOk ∧
      (w % 2 = 0 → t.core.tbl = s.core.tbl ∧ t.core.lowHeld Reg.FRT_RT_TBL w = some v) ∧
      (w % 2 = 1 → t.core.tb Reg.FRT_RT_TBL w = v.toNat &&& 0xFFF80000 ∧
        t.core.tb Reg.FRT_RT_TBL (w - 1) = s.core.lowDue Reg.FRT_RT_TBL w ∧
        (∀ w', w' < 1048576 → w' / 2 ≠ w / 2 → t.core.tb Reg.FRT_RT_TBL w' = s.core.tb Reg.FRT_RT_TBL w')) ∧
      s.only [.frt, .tbl] [Reg.FRT_RT_TBL, Reg.FRT_STAT] t := by
  set k := s.core.openVersion (w / 524288) with hk
  have hparts : s.core.onlyParts [.frt, .tbl] k := Core.onlyParts_frt (by simp) _
  have hev : ¬ evReg Reg.FRT_RT_TBL := by unfold evReg; decide
  rcases Nat.mod_two_eq_zero_or_one w with heven | hodd
  · obtain ⟨htbl, hfrt, hword, hst, honly⟩ := State.mgmtWin_of_word (l := [.frt, .tbl]) ha hw hlt
      (rtWrite_low (v := v.toNat) hopen heven) rfl (Core.onlyParts_trans hparts (Core.onlyParts_frt (by simp) _))
      (by omega) (by decide) hev ht
    refine ⟨by rw [hfrt]; rfl, hword, hst, fun _ => ⟨htbl, ?_⟩, fun h => absurd h (by omega), honly⟩
    unfold Core.lowHeld
    rw [hfrt, show some v = some (word v.toNat) by simp [word]]
    exact Core.lowHeld_holdLow _ _ _ _
  · obtain ⟨htbl, hfrt, hword, hst, honly⟩ := State.mgmtWin_of_word (l := [.frt, .tbl]) ha hw hlt
      (rtWrite_high (v := v.toNat) hopen (by omega)) (Core.putEntry_regs _ _ _ _)
      (Core.onlyParts_trans hparts (Core.onlyParts_putEntry _ _ (by simp) (by simp) _)) (by omega) (by decide) hev ht
    have hmask : v.toNat &&& 0xFFF80000 < 2 ^ 32 := lt_of_le_of_lt Nat.and_le_left v.isLt
    refine ⟨by rw [hfrt, Core.putEntry_ep], hword, hst, fun h => absurd h (by omega), fun _ => ⟨?_, ?_, ?_⟩, honly⟩
    · rw [Core.tb_of_tbl htbl, Core.tb_putEntry_high _ _ _ hmask]
    · rw [Core.tb_of_tbl htbl, Core.tb_putEntry_low _ _ _ (by omega)]
      rfl
    · intro w' _ hne
      rw [Core.tb_of_tbl htbl, Core.tb_putEntry_ne _ _ _ (by omega) (by omega)]
      rfl

/-! ### CIRC_TBL_WRITE (R85, R91) -/

section
variable {k : Core} {w v : Nat}

theorem circWrite_low (hw : w % 2 = 0) :
    circWrite k w v = (k.holdLow Reg.FRT_CIRC_TBL w (some (word (v &&& 0xFFF00000))), stOk) := if_pos hw

theorem circWrite_valid (hw : w % 2 ≠ 0) (hv : bitAt v 31 = true) (ho : bitAt (k.tb Reg.FRT_CIRC_TBL w) 31 = true) :
    circWrite k w v = (k, stBusy) := (if_neg hw).trans (if_pos (by simp [hv, ho]))

theorem circWrite_high (hw : w % 2 ≠ 0) (hv : bitAt v 31 = false ∨ bitAt (k.tb Reg.FRT_CIRC_TBL w) 31 = false) :
    circWrite k w v = (k.putEntry Reg.FRT_CIRC_TBL w v, stOk) :=
  (if_neg hw).trans (if_neg (by rcases hv with h | h <;> simp [h]))

end

section
variable {s : State} (ha : s.answers = true) {w : Nat} (v : Word) (hw : s.core.fd Reg.FRT_CIRC_TBL 23 0 = w)
  (hlt : w < 8192) {t : State} (ht : t = s.mgmtWin Reg.FRT_STAT Reg.FRT_CIRC_TBL 8192 circWrite v.toNat)

include ha hw hlt ht

theorem State.circTblWrite_low (heven : w % 2 = 0) :
    t.core.lowHeld Reg.FRT_CIRC_TBL w = some (word (v.toNat &&& 0xFFF00000)) ∧
      t.core.fd Reg.FRT_CIRC_TBL 23 0 = w + 1 ∧ t.core.fd Reg.FRT_CIRC_TBL 31 24 = stOk ∧
      s.only [.frt] [Reg.FRT_CIRC_TBL, Reg.FRT_STAT] t := by
  obtain ⟨-, hfrt, hword, hst, honly⟩ := State.mgmtWin_of_word (l := [.frt]) ha hw hlt
    (circWrite_low (v := v.toNat) heven) rfl (Core.onlyParts_frt (by simp) _)
    (by omega) (by decide) (by unfold evReg; decide) ht
  refine ⟨?_, hword, hst, honly⟩
  unfold Core.lowHeld
  rw [hfrt]
  exact Core.lowHeld_holdLow _ _ _ _

theorem State.circTblWrite_high (hodd : w % 2 = 1)
    (hv : bitAt v.toNat 31 = false ∨ bitAt (s.core.tb Reg.FRT_CIRC_TBL w) 31 = false) :
    t.core.tb Reg.FRT_CIRC_TBL w = v.toNat ∧ t.core.tb Reg.FRT_CIRC_TBL (w - 1) = s.core.lowDue Reg.FRT_CIRC_TBL w ∧
      t.core.fd Reg.FRT_CIRC_TBL 23 0 = w + 1 ∧ t.core.fd Reg.FRT_CIRC_TBL 31 24 = stOk ∧
      (∀ w', w' < 8192 → w' / 2 ≠ w / 2 → t.core.tb Reg.FRT_CIRC_TBL w' = s.core.tb Reg.FRT_CIRC_TBL w') ∧
      s.only [.frt, .tbl] [Reg.FRT_CIRC_TBL, Reg.FRT_STAT] t := by
  obtain ⟨htbl, -, hword, hst, honly⟩ := State.mgmtWin_of_word (l := [.frt, .tbl]) ha hw hlt
    (circWrite_high (v := v.toNat) (by omega) hv) (Core.putEntry_regs _ _ _ _)
    (Core.onlyParts_putEntry _ _ (by simp) (by simp) _) (by omega) (by decide) (by unfold evReg; decide) ht
  refine ⟨?_, ?_, hword, hst, fun w' _ hne => ?_, honly⟩
  · rw [Core.tb_of_tbl htbl, Core.tb_putEntry_high _ _ _ v.isLt]
  · rw [Core.tb_of_tbl htbl, Core.tb_putEntry_low _ _ _ (by omega)]
  · rw [Core.tb_of_tbl htbl, Core.tb_putEntry_ne _ _ _ (by omega) (by omega)]

/-- VALID over a valid entry is refused (R91). -/
theorem State.circTblWrite_valid (hodd : w % 2 = 1) (hv : bitAt v.toNat 31 = true)
    (ho : bitAt (s.core.tb Reg.FRT_CIRC_TBL w) 31 = true) :
    t.core.fd Reg.FRT_CIRC_TBL 31 24 = stBusy ∧ t.core.fd Reg.FRT_CIRC_TBL 23 0 = w ∧
      s.only [] [Reg.FRT_CIRC_TBL, Reg.FRT_STAT] t := by
  obtain ⟨-, -, hword, hst, honly⟩ := State.mgmtWin_of_word (l := []) ha hw hlt
    (circWrite_valid (v := v.toNat) (by omega) hv ho) rfl (Core.onlyParts_refl _ _)
    (by omega) (by decide) (by unfold evReg; decide) ht
  exact ⟨hst, hword, honly⟩

end

/-- Settles O10: the epoch register's three outcomes, the idle version, the two tables' words. -/
theorem routingVersions : Obligations.RoutingVersions := by
  unfold Obligations.RoutingVersions
  refine ⟨?current, ?stillOpen, ?switch, ?idle, ?taken, ?refused, ?low, ?high, ?valid⟩
  case current =>
    intro v s ha hcur c hc
    exact .of_exec (exec_epochWrite hc s) (State.mgmt_epochWrite ha (s.core.epochWrite_current _ hcur) (by decide)
      (Core.onlyParts_frt (by simp) _) (Core.onlyRegs_of_regs rfl) rfl)
  case stillOpen =>
    intro v s ha hcur hopen c hc
    exact .of_exec (exec_epochWrite hc s) (State.mgmt_epochWrite ha (s.core.epochWrite_open _ hcur hopen) (by decide)
      (Core.onlyParts_frt (by simp) _) (Core.onlyRegs_of_regs rfl) rfl)
  case switch =>
    intro v s ha hcur hopen c hc
    obtain ⟨hfrt, hst, honly⟩ := State.mgmt_epochWrite ha (s.core.epochWrite_switch _ hcur hopen) (by decide)
      (Core.onlyParts_trans (Core.onlyParts_frt (by simp) _) (Core.onlyParts_emit _ _ _))
      (Core.onlyRegs_trans (Core.onlyRegs_of_regs rfl) (Core.onlyRegs_emit _ _ _)) rfl
    exact .of_exec (exec_epochWrite hc s) ⟨hfrt.trans (Core.emit_frt _ _ _ _), hst, honly⟩
  case idle =>
    intro v s hcur hinfl hdue
    have hk := Core.epochIdleEv_due hcur hinfl hdue
    refine .of_exec (t := s.onCore fun k => k.epochIdleEv v) rfl ⟨?_, State.only_onCore s _ ?_ ?_⟩
    · rw [State.onCore_frt, hk]
    · rw [hk]; exact Core.onlyParts_frt (by simp) _
    · rw [hk]; exact Core.onlyRegs_of_regs rfl
  case taken =>
    intro v s ha hlt hcur hopen
    exact .of_exec (t := s.mgmtWin _ _ _ _ _) rfl (State.rtTblWrite_taken ha v rfl hlt ⟨hcur, hopen⟩ rfl)
  case refused =>
    intro v s ha hlt hno
    have hrefused : ¬ s.core.takesWrites (s.core.fd Reg.FRT_RT_TBL 23 0 / 524288) := by
      rintro ⟨hcur, hopen⟩
      rcases hno with h | ⟨h1, h2⟩
      · exact hcur h
      · simp [h1, h2] at hopen
    obtain ⟨-, -, hword, hst, honly⟩ := State.mgmtWin_of_word (l := []) (stat := Reg.FRT_STAT) ha rfl hlt
      (rtWrite_refused (v := v.toNat) hrefused) rfl (Core.onlyParts_refl _ _) (by omega) (by decide)
      (by unfold evReg; decide) rfl
    exact .of_exec (t := s.mgmtWin _ _ _ _ _) rfl ⟨hst, hword, honly⟩
  case low =>
    intro v s ha hlt heven
    exact .of_exec (t := s.mgmtWin _ _ _ _ _) rfl (State.circTblWrite_low ha v rfl hlt rfl heven)
  case high =>
    intro v s ha hlt hodd hv
    exact .of_exec (t := s.mgmtWin _ _ _ _ _) rfl (State.circTblWrite_high ha v rfl hlt rfl hodd hv)
  case valid =>
    intro v s ha hlt hodd hv ho
    exact .of_exec (t := s.mgmtWin _ _ _ _ _) rfl (State.circTblWrite_valid ha v rfl hlt rfl hodd hv ho)

/-! ### A management frame to a block outside Marigold (16_management R443, 19_register_index R508) -/

section
variable {s : State}

theorem State.frameSt_of_answers (ha : s.answers = true) {a : Nat} (h4 : a % 4 = 0) (hr : (regAt a).isSome = true) :
    s.frameSt a = stOk := by
  unfold State.frameSt
  rw [if_neg (not_not.2 h4), if_neg (by simp [Option.isNone_iff_eq_none, Option.ne_none_iff_isSome, hr]), ha]
  simp

theorem State.putStat_of_core {a r : Nat} (h : statReg a = some r) (hr : isAon r = false) (st : Nat) :
    s.putStat a st = { s with core := s.core.wrf r 7 0 st } := by
  unfold State.putStat
  rw [h]
  exact if_neg (by simp [hr])

theorem State.answer_tbl (p : Path) (st : Nat) (d : Option Word) (g : Option Nat) :
    (s.answer p st d g).core.tbl = s.core.tbl := rfl

/-- With no chunk's failure queued the collective engine has none to settle (05_collectives R126). -/
theorem Core.settle_of_no_failure {k : Core} (h : k.cle.failQ = []) : k.settle = k := by
  have hcle : { k.cle with failQ := [] } = k.cle := by rw [← h]
  unfold Core.settle
  simp only [h, List.foldl_nil, hcle]

theorem State.writeReg_of_core {a v i st : Nat} {r : RegRow} {k : Core} {mg : Bool} (hreg : regAt a = some (r, i))
    (hA : isAon a = false) (hk : s.core.regWrite r a v mg = (k, st)) (hq : k.cle.failQ = []) :
    s.writeReg a v mg = (s.onCore (fun _ => k), st) := by
  unfold State.writeReg
  rw [hreg]
  simp only [hA, hk, Core.settle_of_no_failure hq, Bool.false_eq_true, if_false]

/-- A WRITE frame to a block outside Marigold: the block's write `k` of status `st`, shown in the block's register. -/
theorem State.mgmtWrite_of_core (hv : s.aon.pwr.vinOk = true) (ha : s.answers = true) (p : Path) {a v i st stat : Nat}
    {r : RegRow} {k : Core} (hreg : regAt a = some (r, i)) (h4 : a % 4 = 0) (hA : isAon a = false)
    (hstat : statReg a = some stat) (hS : isAon stat = false)
    (hk : (s.executed p).core.regWrite r a v true = (k, st)) (hq : k.cle.failQ = []) {t : State}
    (ht : t = s.mgmtWrite p a v) :
    t.core.tbl = k.tbl ∧ (∀ b, b ≠ stat → ¬ evReg b → t.core.rd b = k.rd b) ∧ t.core.fd stat 7 0 = st % 2 ^ 8 ∧
      ∀ (l : List Part) (g : List Nat), Part.mgt ∈ l → stat ∈ g → Reg.MGT_STAT ∈ g →
        (s.executed p).core.onlyParts l k → (s.executed p).core.onlyRegs g k → s.only l g t := by
  subst ht
  rw [s.mgmtWrite_of_ok hv (State.frameSt_of_answers ha h4 (by simp [hreg])) p (State.writeReg_of_core hreg hA hk hq),
    State.putStat_of_core hstat hS]
  refine ⟨?_, fun b hb hev => ?_, ?_, fun l g hl hs hm hparts hregs => ?_⟩
  · rw [State.answer_tbl]
    exact (Core.wrf_tbl _ _ _ _ _).trans (State.onCore_tbl _ fun _ => k)
  · rw [State.answer_rd]
    exact (Core.rd_wrf_ne _ hb _ _ _).trans (State.rd_onCore _ (fun _ => k) hev)
  · exact Core.fd_wrf_same _ _ _ _ _ (by omega) (by omega)
  · exact State.only_trans (State.only_executed hm p) (State.only_trans (State.only_onCore _ _ hparts hregs)
      (State.only_trans (State.only_of_core (Core.onlyParts_wrf _ _ _ _) (Core.onlyRegs_wrf hs _ _ _))
        (State.only_answer hl _ _ _ _)))

end

/-! ### The escape table and FRT_ESC_PORTDIR (R82) -/

section
variable (k : Core)

/-- The row of FRT_ESC_PORTDIR (R89). -/
def rowEscPortDir : RegRow := ⟨0x140018, 1, 0x0, 0x0, .rw, [⟨31, 0, 0, 4294967295⟩], 0⟩

theorem regAt_escPortDir : regAt Reg.FRT_ESC_PORTDIR = some (rowEscPortDir, 0) := by decide +kernel

theorem regAt_escTblData :
    regAt (Reg.FRT_ESC_TBL + 4) = some (⟨0x140114, 1, 0x0, 0, .winData, [], 65536⟩, 0) := by decide +kernel

/-- Every value of FRT_ESC_PORTDIR is in range: it is held as written. -/
theorem Core.rw_escPortDir (v : Word) : k.rw Reg.FRT_ESC_PORTDIR v.toNat = (k.wr Reg.FRT_ESC_PORTDIR v.toNat, stOk) := by
  have hfld : fld v.toNat 31 0 = v.toNat := (fld_eq _ _ _).trans (by simpa using Nat.mod_eq_of_lt v.isLt)
  have hlt := v.isLt
  unfold Core.rw
  rw [regAt_escPortDir]
  dsimp only
  rw [if_pos]
  · simp [RegRow.take, rowEscPortDir, hfld]
  · simp [RegRow.inRange, rowEscPortDir, hfld]
    omega

/-- The router holds its port directions while it is not OFF (R82). -/
theorem Core.regWrite_escPortDir {r : RegRow} (hr : r.acc = .rw) (v : Nat) (mg : Bool) :
    k.regWrite r Reg.FRT_ESC_PORTDIR v mg = if k.isOff .router then k.rw Reg.FRT_ESC_PORTDIR v else (k, stBusy) := by
  have hblock : k.blockWrite Reg.FRT_ESC_PORTDIR v = k.frtWrite Reg.FRT_ESC_PORTDIR v := by
    unfold Core.blockWrite
    rw [if_neg (by decide), if_neg (by decide), if_neg (by decide), if_neg (by decide), if_pos (by decide)]
  have hframe : k.frtWrite Reg.FRT_ESC_PORTDIR v =
      if k.isOff .router then k.rw Reg.FRT_ESC_PORTDIR v else (k, stBusy) := by
    unfold Core.frtWrite
    rw [if_neg (by decide), if_pos rfl]
  unfold Core.regWrite
  rw [hr]
  simp only [Acc.writable, if_true, hblock, hframe]

/-- A word written to the escape table of a router that is OFF, and of one that is not. -/
theorem escWrite_off {k : Core} (h : k.isOff .router = true) (w v : Nat) :
    escWrite k w v = (k.tbw Reg.FRT_ESC_TBL w (v &&& 0xDFDFDFDF), stOk) := if_pos h

theorem escWrite_running {k : Core} (h : k.isOff .router = false) (w v : Nat) : escWrite k w v = (k, stBusy) :=
  if_neg (by simp [h])

theorem Core.isOff_of_fns {k k' : Core} (h : k'.fns = k.fns) (i : FnId) : k'.isOff i = k.isOff i := by
  unfold Core.isOff Core.fst Core.fn; rw [h]

theorem State.executed_isOff (s : State) (p : Path) (i : FnId) : (s.executed p).core.isOff i = s.core.isOff i :=
  Core.isOff_of_fns (by rw [State.executed_core, Core.wrf_fns]) i

theorem State.executed_cle (s : State) (p : Path) : (s.executed p).core.cle = s.core.cle := by
  rw [State.executed_core, Core.wrf_cle]

theorem State.executed_tbl (s : State) (p : Path) : (s.executed p).core.tbl = s.core.tbl := by
  rw [State.executed_core, Core.wrf_tbl]

theorem State.executed_fd_escTbl (s : State) (p : Path) (hi lo : Nat) :
    (s.executed p).core.fd Reg.FRT_ESC_TBL hi lo = s.core.fd Reg.FRT_ESC_TBL hi lo := by
  rw [State.executed_core, Core.fd_wrf_ne _ (by decide : Reg.FRT_ESC_TBL ≠ Reg.MGT_STAT)]

end

section
variable {s : State} (hv : s.aon.pwr.vinOk = true) (ha : s.answers = true) (hq : s.core.cle.failQ = []) (p : Path) (v : Word)
  {t : State}

include hv ha hq

section
variable (ht : t = s.mgmtWrite p Reg.FRT_ESC_PORTDIR v.toNat)

include ht

theorem State.mgmtWrite_escPortDir_off (hoff : s.core.isOff .router = true) :
    t.core.rd Reg.FRT_ESC_PORTDIR = v.toNat ∧ t.core.fd Reg.FRT_STAT 7 0 = stOk ∧
      s.only [.mgt] [Reg.FRT_ESC_PORTDIR, Reg.FRT_STAT, Reg.MGT_STAT] t := by
  have hk : (s.executed p).core.regWrite rowEscPortDir Reg.FRT_ESC_PORTDIR v.toNat true =
      ((s.executed p).core.wr Reg.FRT_ESC_PORTDIR v.toNat, stOk) := by
    rw [Core.regWrite_escPortDir _ rfl, State.executed_isOff, if_pos hoff, Core.rw_escPortDir]
  obtain ⟨-, hrd, hst, honly⟩ := State.mgmtWrite_of_core hv ha p regAt_escPortDir (by decide) (by decide)
    (by decide : statReg Reg.FRT_ESC_PORTDIR = some Reg.FRT_STAT) (by decide) hk
    (by rw [Core.wr_cle, State.executed_cle, hq]) ht
  refine ⟨?_, hst, honly _ _ (by simp) (by simp) (by simp) (Core.onlyParts_wr _ _) (Core.onlyRegs_wr (by simp) _)⟩
  rw [hrd _ (by decide) (by unfold evReg; decide), Core.rd_wr_same, Nat.mod_eq_of_lt v.isLt]

theorem State.mgmtWrite_escPortDir_running (hrun : s.core.isOff .router = false) :
    t.core.rd Reg.FRT_ESC_PORTDIR = s.core.rd Reg.FRT_ESC_PORTDIR ∧ t.core.fd Reg.FRT_STAT 7 0 = stBusy ∧
      s.only [.mgt] [Reg.FRT_ESC_PORTDIR, Reg.FRT_STAT, Reg.MGT_STAT] t := by
  have hk : (s.executed p).core.regWrite rowEscPortDir Reg.FRT_ESC_PORTDIR v.toNat true =
      ((s.executed p).core, stBusy) := by
    rw [Core.regWrite_escPortDir _ rfl, State.executed_isOff, if_neg (by simp [hrun])]
  obtain ⟨-, hrd, hst, honly⟩ := State.mgmtWrite_of_core hv ha p regAt_escPortDir (by decide) (by decide)
    (by decide : statReg Reg.FRT_ESC_PORTDIR = some Reg.FRT_STAT) (by decide) hk
    (by rw [State.executed_cle, hq]) ht
  refine ⟨?_, hst, honly _ _ (by simp) (by simp) (by simp) (Core.onlyParts_refl _ _) (Core.onlyRegs_refl _ _)⟩
  rw [hrd _ (by decide) (by unfold evReg; decide), State.executed_core]
  exact Core.rd_wrf_ne _ (by decide) _ _ _

end

section
variable {w : Nat} (hw : s.core.fd Reg.FRT_ESC_TBL 23 0 = w) (hlt : w < 65536)
  (ht : t = s.mgmtWrite p (Reg.FRT_ESC_TBL + 4) v.toNat)

include hw hlt ht

/-- The escape window written: the table's write `k` of status `st`, and what the window and FRT_STAT show. -/
theorem State.mgmtWrite_escTbl {k : Core} {st : Nat} (hk : escWrite (s.executed p).core w v.toNat = (k, st))
    (hcle : k.cle = s.core.cle) (hregs : k.regs = (s.executed p).core.regs) :
    t.core.tbl = k.tbl ∧ t.core.fd Reg.FRT_ESC_TBL 23 0 = (if isBusySt st then w else w + 1) ∧
      t.core.fd Reg.FRT_STAT 7 0 = st % 2 ^ 8 ∧
      ∀ l : List Part, Part.mgt ∈ l → (s.executed p).core.onlyParts l k →
        s.only l [Reg.FRT_ESC_TBL, Reg.FRT_STAT, Reg.MGT_STAT] t := by
  have hwin := Core.winWrite_of_word _ ((s.executed_fd_escTbl p 23 0).trans hw) hlt hk
  have hword : k.fd Reg.FRT_ESC_TBL 23 0 = w := by
    unfold Core.fd; rw [Core.rd_of_regs hregs]; exact (s.executed_fd_escTbl p 23 0).trans hw
  obtain ⟨htbl, hrd, hst, honly⟩ := State.mgmtWrite_of_core hv ha p regAt_escTblData (by decide) (by decide)
    (by decide : statReg (Reg.FRT_ESC_TBL + 4) = some Reg.FRT_STAT) (by decide) hwin
    (by rw [Core.winShown_cle, hcle, hq]) ht
  refine ⟨htbl.trans (Core.winShown_tbl _ _ _), ?_, hst, fun l hl hparts => ?_⟩
  · have hfd := Core.fd_winShown_word k (st := st) hword (by omega)
    unfold Core.fd at hfd ⊢
    rw [hrd _ (by decide) (by unfold evReg; decide), hfd]
  · exact honly _ _ hl (by simp) (by simp) (Core.onlyParts_trans hparts (Core.onlyParts_winShown _ _))
      (Core.onlyRegs_trans (Core.onlyRegs_of_regs hregs) (Core.onlyRegs_winShown (by simp) _))

theorem State.mgmtWrite_escTbl_off (hoff : s.core.isOff .router = true) :
    t.core.tb Reg.FRT_ESC_TBL w = v.toNat &&& 0xDFDFDFDF ∧ t.core.fd Reg.FRT_ESC_TBL 23 0 = w + 1 ∧
      t.core.fd Reg.FRT_STAT 7 0 = stOk ∧
      (∀ j, j < 65536 → j ≠ w → t.core.tb Reg.FRT_ESC_TBL j = s.core.tb Reg.FRT_ESC_TBL j) ∧
      s.only [.mgt, .tbl] [Reg.FRT_ESC_TBL, Reg.FRT_STAT, Reg.MGT_STAT] t := by
  have hmask : v.toNat &&& 0xDFDFDFDF < 2 ^ 32 := lt_of_le_of_lt Nat.and_le_left v.isLt
  obtain ⟨htbl, hword, hst, honly⟩ := State.mgmtWrite_escTbl hv ha hq p v hw hlt ht
    (escWrite_off ((s.executed_isOff p .router).trans hoff) w v.toNat) (by rw [Core.tbw_cle, State.executed_cle])
    (Core.tbw_regs _ _ _ _)
  refine ⟨?_, hword, hst, fun j _ hj => ?_, honly _ (by simp) (Core.onlyParts_tbw (by simp) _ _ _)⟩
  · rw [Core.tb_of_tbl htbl, Core.tb_tbw_same, Nat.mod_eq_of_lt hmask]
  · rw [Core.tb_of_tbl htbl, Core.tb_tbw_ne _ (mt tkey_inj.1 hj), Core.tb_of_tbl (s.executed_tbl p)]

theorem State.mgmtWrite_escTbl_running (hrun : s.core.isOff .router = false) :
    t.core.fd Reg.FRT_ESC_TBL 23 0 = w ∧ t.core.fd Reg.FRT_STAT 7 0 = stBusy ∧
      s.only [.mgt] [Reg.FRT_ESC_TBL, Reg.FRT_STAT, Reg.MGT_STAT] t := by
  obtain ⟨-, hword, hst, honly⟩ := State.mgmtWrite_escTbl hv ha hq p v hw hlt ht
    (escWrite_running ((s.executed_isOff p .router).trans hrun) w v.toNat) (s.executed_cle p) rfl
  exact ⟨hword, hst, honly _ (by simp) (Core.onlyParts_refl _ _)⟩

end

end

theorem Core.isOff_iff {k : Core} {i : FnId} : k.isOff i = true ↔ k.fst i = .off := by simp [Core.isOff]

theorem Core.isOff_eq_false_iff {k : Core} {i : FnId} : k.isOff i = false ↔ k.fst i ≠ .off := by simp [Core.isOff]

/-- Settles O49: the write of the register and of a table word, with the router OFF and with it in another state. -/
theorem escapeRoutesHeldWhileRouterRuns : Obligations.EscapeRoutesHeldWhileRouterRuns := by
  unfold Obligations.EscapeRoutesHeldWhileRouterRuns
  refine ⟨?portDir, ?table⟩
  case portDir =>
    intro p v s hv ha hq
    have ht : s.mgmtWrite p (word Reg.FRT_ESC_PORTDIR).toNat v.toNat = s.mgmtWrite p Reg.FRT_ESC_PORTDIR v.toNat := by
      rw [toNat_word (by decide)]
    refine .of_exec (exec_registerWrite s p _ v) ?_
    cases hfst : s.core.isOff .router
    · obtain ⟨hrd, hst, honly⟩ := State.mgmtWrite_escPortDir_running hv ha hq p v ht hfst
      exact ⟨fun h => absurd h (Core.isOff_eq_false_iff.1 hfst), fun _ => ⟨hrd, hst⟩, honly⟩
    · obtain ⟨hrd, hst, honly⟩ := State.mgmtWrite_escPortDir_off hv ha hq p v ht hfst
      exact ⟨fun _ => ⟨hrd, hst⟩, fun h => absurd (Core.isOff_iff.1 hfst) h, honly⟩
  case table =>
    intro p v w s hv ha hq hw hlt
    have ht : s.mgmtWrite p (word (Reg.FRT_ESC_TBL + 4)).toNat v.toNat = s.mgmtWrite p (Reg.FRT_ESC_TBL + 4) v.toNat := by
      rw [toNat_word (by decide)]
    refine .of_exec (exec_windowDataAccess_write s p _ v) ⟨fun h => ?_, fun h => ?_⟩
    · exact State.mgmtWrite_escTbl_off hv ha hq p v hw.symm hlt ht (Core.isOff_iff.2 h)
    · exact State.mgmtWrite_escTbl_running hv ha hq p v hw.symm hlt ht (Core.isOff_eq_false_iff.2 h)

end Sys2Proof.Machine
end

section
/-!
PROOFS. The fabric ports (03_fabric_side R54 to R65, R72, R77, R87): what the router's handling of other packets leaves of
a port, its drain and its loss, then bring-up, link blocks and retry.
-/

namespace Sys2Proof.Machine

open Sys2Proof

/-! ### The function of a port (R434) -/

theorem FnId.code_ofl_ne_router {n : Nat} (hn : n < 32) : (FnId.ofl n).code ≠ FnId.router.code := by
  simp only [FnId.code]; omega

section
variable (k : Core)

/-- A port's state is its own: no event and no other part goes with it. -/
theorem Core.setFst_ofl (n : Nat) (f : FState) (st : Nat) :
    k.setFst (.ofl n) f st = k.setFn (.ofl n) { k.fn (.ofl n) with fst := f, since := k.now } := rfl

theorem Core.onlyFns_setFst_ofl (n : Nat) (f : FState) (st : Nat) : k.OnlyFns (k.setFst (.ofl n) f st) :=
  k.onlyFns_setFn _ _

/-- A drain that ends with no ENABLE pending leaves the function OFF. -/
theorem Core.fnDrained_of_no_pend {i : FnId} (h : k.fst i = .draining) (hp : (k.fn i).pend = false) (st : Nat)
    (check : Core → Nat) (start : Core → Core) : k.fnDrained i st check start =
      (k.setFst i .off st).setFn i { (k.setFst i .off st).fn i with pend := false } := by
  unfold Core.fnDrained
  simp only [h, hp, if_true, Bool.false_eq_true, if_false]

/-- A function that is neither OFF nor FAULTED faults (R434). -/
theorem Core.fnFault_of_live {i : FnId} (h : k.fst i ≠ .off) (h' : k.fst i ≠ .faulted) (st : Nat) : k.fnFault i st =
    (k.setFst i .faulted st).setFn i { (k.setFst i .faulted st).fn i with pend := false } := by
  unfold Core.fnFault
  split
  · contradiction
  · contradiction
  · rfl

theorem Core.fst_setFn_pend (i : FnId) (f : FState) (st : Nat) (b : Bool) :
    ((k.setFst i f st).setFn i { (k.setFst i f st).fn i with pend := b }).fst i = f := by
  unfold Core.fst
  rw [Core.fn_setFn_same, Core.fn_setFst_same]

theorem Core.onlyFns_setFn_pend (n : Nat) (f : FState) (st : Nat) (b : Bool) :
    k.OnlyFns ((k.setFst (.ofl n) f st).setFn (.ofl n) { (k.setFst (.ofl n) f st).fn (.ofl n) with pend := b }) :=
  (k.onlyFns_setFst_ofl _ _ _).trans (Core.onlyFns_setFn _ _ _)

/-- Neither the start nor the end of one function's drain changes another function. -/
theorem Core.fn_fnStart_ne {i j : FnId} (h : j.code ≠ i.code) (check : Core → Nat) {start : Core → Core}
    (hs : ∀ k : Core, (start k).fn j = k.fn j) : (k.fnStart i check start).1.fn j = k.fn j := by
  unfold Core.fnStart
  dsimp only
  split
  · exact (hs _).trans (k.fn_setFst_ne h _ _)
  · exact (Core.fn_setFst_ne _ h _ _).trans (k.fn_setFst_ne h _ _)

theorem Core.fn_fnDrained_ne {i j : FnId} (h : j.code ≠ i.code) (st : Nat) (check : Core → Nat) {start : Core → Core}
    (hs : ∀ k : Core, (start k).fn j = k.fn j) : (k.fnDrained i st check start).fn j = k.fn j := by
  unfold Core.fnDrained
  split
  · dsimp only
    have hoff : ∀ f, ((k.setFst i .off st).setFn i f).fn j = k.fn j := fun f =>
      (Core.fn_setFn_ne _ h f).trans (k.fn_setFst_ne h _ _)
    split
    · exact ((Core.fn_setFn_ne _ h _).trans (Core.fn_fnStart_ne _ h _ hs)).trans (hoff _)
    · exact hoff _
  · rfl

end

/-! ### What the router's other work leaves of a port -/

/-- Port `n` reads the same in both: its function, its state, the registers below the router's. -/
structure Core.SamePort (n : Nat) (k k' : Core) : Prop where
  fn : k'.fn (.ofl n) = k.fn (.ofl n)
  port : k'.port n = k.port n
  regs : ∀ a, a < 0x140000 → k'.rd a = k.rd a

section
variable {n : Nat} {k k' k'' : Core}

theorem Core.SamePort.trans (h : k.SamePort n k') (h' : k'.SamePort n k'') : k.SamePort n k'' :=
  ⟨h'.fn.trans h.fn, h'.port.trans h.port, fun a ha => (h'.regs a ha).trans (h.regs a ha)⟩

theorem Core.SamePort.refl (n : Nat) (k : Core) : k.SamePort n k := ⟨rfl, rfl, fun _ _ => rfl⟩

theorem Core.SamePort.of_same (hfns : k'.fns = k.fns) (hfpc : k'.fpc = k.fpc)
    (hregs : ∀ a, a < 0x140000 → k'.rd a = k.rd a) : k.SamePort n k' :=
  ⟨by unfold Core.fn; rw [hfns], Core.port_of_fpc hfpc n, hregs⟩

theorem Core.SamePort.fst (h : k.SamePort n k') : k'.fst (.ofl n) = k.fst (.ofl n) := by
  unfold Core.fst; rw [h.fn]

theorem Core.SamePort.isOn (h : k.SamePort n k') : k'.isOn (.ofl n) = k.isOn (.ofl n) := by
  unfold Core.isOn; rw [h.fst]

/-- The registers of events lie above the ports'. -/
theorem not_evReg_of_lt {a : Nat} (h : a < 0x140000) : ¬ evReg a := by
  rintro (rfl | rfl) <;> exact absurd h (by decide)

end

section
variable (k : Core) {n : Nat}

theorem Core.samePort_frt (f : Frt) : k.SamePort n { k with frt := f } := ⟨rfl, rfl, fun _ _ => rfl⟩

theorem Core.samePort_cnt {c : Nat} (hc : 0x140000 ≤ c) : k.SamePort n (k.cnt c) :=
  .of_same (k.cnt_fns c) (k.cnt_fpc c) fun _ ha => k.rd_cnt_ne (by omega)

theorem Core.samePort_emitLim (src code key lo w : Nat) (l : List (Nat × Nat × Nat)) :
    k.SamePort n (k.emitLim src code key lo w l) :=
  .of_same (Core.emitLim_fns _ _ _ _ _ _ _) (Core.emitLim_fpc _ _ _ _ _ _ _)
    fun _ ha => Core.rd_emitLim _ _ _ _ _ _ _ (not_evReg_of_lt ha)

theorem Core.samePort_emit (src code : Nat) (l : List (Nat × Nat × Nat)) : k.SamePort n (k.emit src code l) :=
  .of_same (Core.emit_fns _ _ _ _) (Core.emit_fpc _ _ _ _) fun _ ha => Core.rd_emit _ _ _ _ (not_evReg_of_lt ha)

theorem Core.OnlyFns.samePort {k k' : Core} (h : k.OnlyFns k') (hfn : k'.fn (.ofl n) = k.fn (.ofl n)) : k.SamePort n k' := by
  obtain ⟨m, rfl⟩ := h
  exact ⟨hfn, rfl, fun _ _ => rfl⟩

theorem Core.OnlyFns.port {k k' : Core} (h : k.OnlyFns k') (n : Nat) : k'.port n = k.port n := by
  obtain ⟨m, rfl⟩ := h
  rfl

theorem Core.OnlyFns.rd {k k' : Core} (h : k.OnlyFns k') (a : Nat) : k'.rd a = k.rd a := by
  obtain ⟨m, rfl⟩ := h
  rfl

theorem Core.OnlyFns.now {k k' : Core} (h : k.OnlyFns k') : k'.now = k.now := by
  obtain ⟨m, rfl⟩ := h
  rfl

section
variable (hn : n < 32)

include hn

theorem Core.samePort_routerChk : k.SamePort n k.routerChk := by
  refine k.onlyFns_routerChk.samePort ?_
  have hne := FnId.code_ofl_ne_router hn
  unfold Core.routerChk
  split
  · exact k.fn_fnDrained_ne hne _ _ fun k => k.fn_setFst_ne hne _ _
  · rfl

theorem Core.samePort_leaves (p : Packet) : k.SamePort n (k.leaves p) := by
  unfold Core.leaves
  split
  · exact (k.samePort_frt _).trans (Core.samePort_routerChk _ hn)
  · exact .refl n k

theorem Core.samePort_dropPkt (p : Packet) (reason : Nat) {c : Nat} (hc : 0x140000 ≤ c) :
    k.SamePort n (k.dropPkt p reason c) :=
  ((k.samePort_cnt hc).trans (Core.samePort_emitLim _ _ _ _ _ _ _)).trans (Core.samePort_leaves _ hn p)

theorem Core.samePort_deliver (p : Packet) (site : Option Nat) : k.SamePort n (k.deliver p site) :=
  (k.samePort_frt _).trans (Core.samePort_leaves _ hn p)

/-- A packet routed on the escape channel passes a port that is not ON by (R77, R81). -/
theorem Core.samePort_escRoute (hoff : k.isOn (.ofl n) = false) (p : Packet) (here : Bool) :
    k.SamePort n (k.escRoute p here true) := by
  unfold Core.escRoute
  dsimp only
  split
  · exact k.samePort_dropPkt hn p _ (by decide)
  split
  · exact k.samePort_deliver hn p none
  split
  · exact k.samePort_dropPkt hn p _ (by decide)
  split
  · exact k.samePort_dropPkt hn p _ (by decide)
  next hon =>
    rw [if_pos rfl]
    refine ⟨rfl, ?_, fun a _ => Core.rd_of_regs (Core.enqueue_regs _ _ _) a⟩
    refine Core.port_setPort_ne _ (fun he => ?_) _
    rw [← he, hoff] at hon
    exact hon rfl

theorem Core.samePort_escMove (hoff : k.isOn (.ofl n) = false) (p : Packet) : k.SamePort n (k.escMove p true) := by
  have hcnt : k.SamePort n ((k.cnt Reg.FRT_ESC_MOVE_CNT).emitLim 0x1002 0x0201 0 0 32 [(71, 67, p.inPort)]) :=
    (k.samePort_cnt (by decide)).trans (Core.samePort_emitLim _ _ _ _ _ _ _)
  rw [Core.escMove_eq]
  exact hcnt.trans (Core.samePort_escRoute _ hn (hcnt.isOn.trans hoff) _ _)

end

/-- Work on a list, each part of which leaves the port while it is not ON, leaves it. -/
theorem Core.samePort_foldl {α : Type} {f : Core → α → Core}
    (hf : ∀ (k : Core) (a : α), k.isOn (.ofl n) = false → k.SamePort n (f k a)) (l : List α) :
    ∀ k : Core, k.isOn (.ofl n) = false → k.SamePort n (l.foldl f k) := by
  induction l with
  | nil => exact fun k _ => .refl n k
  | cons a l ih => exact fun k hoff => (hf k a hoff).trans (ih _ ((hf k a hoff).isOn.trans hoff))

/-- The packets that wait at a port that is not ON leave it, and none comes back (R77). -/
theorem Core.samePort_requeueEsc (hn : n < 32) (hoff : k.isOn (.ofl n) = false) :
    (k.setPort n { k.port n with txq := {} }).SamePort n (k.requeueEsc n) := by
  unfold Core.requeueEsc
  refine Core.samePort_foldl (fun k x hoff => ?_) _ _ hoff
  split
  · exact k.samePort_escRoute hn hoff x.pkt true
  · exact k.samePort_escMove hn hoff x.pkt

theorem Core.fst_setPort (q : OflPort) (i : FnId) : (k.setPort n q).fst i = k.fst i := rfl

theorem Core.onlyParts_setPort {l : List Part} (h : Part.fpc ∈ l) (q : OflPort) : k.onlyParts l (k.setPort n q) := by
  intro p hp
  cases p
  case fpc => exact absurd h hp
  all_goals rfl

theorem Core.OnlyFns.onlyParts_of_mem {k k' : Core} (h : k.OnlyFns k') {l : List Part} (hl : Part.fns ∈ l) : k.onlyParts l k' :=
  Core.onlyParts_mono (by simpa using hl) h.onlyParts

end

/-! ### A packet cut off in transmission (R64, R83) -/

/-- The port with the packet in transmission gone. -/
def OflPort.cut (q : OflPort) : OflPort := { q with cur := [], curEp := 2 }

section
variable (k : Core) {n : Nat}

theorem Core.cutTx_eq (n : Nat) : k.cutTx n = k.setPort n (k.port n).cut ∨
    ∃ f, k.cutTx n = ({ k.setPort n (k.port n).cut with frt := f } : Core).routerChk := by
  unfold Core.cutTx
  dsimp only
  split
  · exact .inr ⟨_, rfl⟩
  · exact .inl rfl

theorem Core.samePort_cutTx (hn : n < 32) : (k.setPort n (k.port n).cut).SamePort n (k.cutTx n) := by
  rcases k.cutTx_eq n with h | ⟨f, h⟩ <;> rw [h]
  · exact .refl n _
  · exact (Core.samePort_frt _ f).trans (Core.samePort_routerChk _ hn)

theorem Core.onlyParts_cutTx {l : List Part} (hp : Part.fpc ∈ l) (hs : Part.fns ∈ l) (hf : Part.frt ∈ l) :
    k.onlyParts l (k.cutTx n) := by
  refine Core.onlyParts_trans (k.onlyParts_setPort (n := n) hp (k.port n).cut) ?_
  rcases k.cutTx_eq n with h | ⟨f, h⟩ <;> rw [h]
  · exact Core.onlyParts_refl _ _
  · exact Core.onlyParts_trans (Core.onlyParts_frt hf f) ((Core.onlyFns_routerChk _).onlyParts_of_mem hs)

theorem Core.cutTx_regs (a : Nat) : (k.cutTx n).rd a = k.rd a := by
  rcases k.cutTx_eq n with h | ⟨f, h⟩ <;> rw [h]
  · exact k.rd_setPort _ _ a
  · exact ((Core.onlyFns_routerChk _).rd a).trans (k.rd_setPort n (k.port n).cut a)

end

/-! ### The end of a port's drain (R64) -/

/-- The port as the end of its drain leaves it, but for the packet in transmission. -/
def OflPort.discarded (q : OflPort) : OflPort := { q with link := 0, unacked := [], replay := [] }

section
variable {k : Core} {n : Nat}

/-- The core at the end of a port's drain, before the port's function changes. -/
def Core.oflEmptied (k : Core) (n : Nat) : Core := (k.setPort n (k.port n).discarded).cutTx n

theorem Core.oflOff_eq (k : Core) (n : Nat) :
    k.oflOff n = (k.oflEmptied n).fnDrained (.ofl n) stOk (Core.oflCheck n) (Core.oflStart n) := rfl

theorem Core.fn_oflEmptied (k : Core) (hn : n < 32) : (k.oflEmptied n).fn (.ofl n) = k.fn (.ofl n) :=
  (Core.samePort_cutTx (k.setPort n (k.port n).discarded) hn).fn

theorem Core.port_oflEmptied (k : Core) (hn : n < 32) : (k.oflEmptied n).port n = (k.port n).discarded.cut := by
  rw [Core.oflEmptied, (Core.samePort_cutTx _ hn).port, Core.port_setPort_same, Core.port_setPort_same]

theorem Core.oflOff_of_no_pend (hn : n < 32) (h : k.fst (.ofl n) = .draining) (hp : (k.fn (.ofl n)).pend = false) :
    k.oflOff n = ((k.oflEmptied n).setFst (.ofl n) .off stOk).setFn (.ofl n)
      { ((k.oflEmptied n).setFst (.ofl n) .off stOk).fn (.ofl n) with pend := false } := by
  have hfn := k.fn_oflEmptied hn
  rw [Core.oflOff_eq]
  exact Core.fnDrained_of_no_pend _ (by unfold Core.fst at h ⊢; rw [hfn]; exact h) (by rw [hfn]; exact hp) _ _ _

/-- With no ENABLE pending the drained port is OFF. -/
theorem Core.oflOff_off (hn : n < 32) (h : k.fst (.ofl n) = .draining) (hp : (k.fn (.ofl n)).pend = false) :
    (k.oflOff n).fst (.ofl n) = .off ∧ (k.oflOff n).port n = (k.port n).discarded.cut := by
  rw [Core.oflOff_of_no_pend hn h hp]
  exact ⟨Core.fst_setFn_pend _ _ _ _ _, ((Core.onlyFns_setFn_pend _ n .off stOk false).port n).trans (k.port_oflEmptied hn)⟩

theorem Core.only_oflOff {l : List Part} {r : List Nat} (hn : n < 32) (h : k.fst (.ofl n) = .draining)
    (hp : (k.fn (.ofl n)).pend = false) (hfpc : Part.fpc ∈ l) (hfns : Part.fns ∈ l) (hfrt : Part.frt ∈ l) :
    k.onlyParts l (k.oflOff n) ∧ k.onlyRegs r (k.oflOff n) := by
  have honly := (k.oflEmptied n).onlyFns_setFn_pend n .off stOk false
  rw [Core.oflOff_of_no_pend hn h hp]
  exact ⟨Core.onlyParts_trans (Core.onlyParts_trans (k.onlyParts_setPort hfpc _) (Core.onlyParts_cutTx _ hfpc hfns hfrt))
      (honly.onlyParts_of_mem hfns),
    fun a _ _ _ => (honly.rd a).trans ((Core.cutTx_regs _ a).trans (k.rd_setPort _ _ a))⟩

/-- A port that enters DRAINING has nothing waiting, and is OFF at once where nothing is unacknowledged. -/
theorem Core.oflDrain_spec (hn : n < 32) (h : k.fst (.ofl n) = .draining) (hp : (k.fn (.ofl n)).pend = false) :
    ((Core.oflDrain n k).fst (.ofl n) = .draining ∨ (Core.oflDrain n k).fst (.ofl n) = .off) ∧
      ((Core.oflDrain n k).port n).txq = {} := by
  have hq := k.samePort_requeueEsc hn (by unfold Core.isOn; rw [h]; rfl)
  have hport : (k.requeueEsc n).port n = { k.port n with txq := {} } := hq.port.trans (Core.port_setPort_same _ _ _)
  have hfst : (k.requeueEsc n).fst (.ofl n) = .draining := by rw [hq.fst, Core.fst_setPort, h]
  unfold Core.oflDrain Core.oflDrainChk
  dsimp only
  split
  · obtain ⟨hoff, hd⟩ := Core.oflOff_off hn hfst (by rw [hq.fn]; exact hp)
    exact ⟨.inr hoff, by rw [hd, hport]; rfl⟩
  · exact ⟨.inl hfst, by rw [hport]⟩

end

/-! ### The loss of a port (R65) -/

/-- The port as its loss leaves it, but for what waits for transmission. -/
def OflPort.lost (q : OflPort) (cause : Nat) : OflPort :=
  { q with link := 0, cause := cause, unacked := [], replay := [], rxPart := none }

section
variable {k : Core} {n : Nat}

/-- The core with the port faulted and what is unacknowledged discarded. -/
def Core.oflLost (k : Core) (n cause : Nat) : Core := (k.fnFault (.ofl n) stOk).setPort n ((k.port n).lost cause)

theorem Core.portDown_of_not_up (h : ¬ (k.fst (.ofl n) = .on ∨ k.fst (.ofl n) = .draining)) (cause : Nat) :
    k.portDown n cause = k := if_neg h

theorem Core.portDown_eq (h : k.fst (.ofl n) = .on ∨ k.fst (.ofl n) = .draining) (cause : Nat) : k.portDown n cause =
    (((k.oflLost n cause).cutTx n).requeueEsc n).emit (0x0800 + n) 0x0101
      [(3, 0, cause), (47, 16, (k.port n).unacked.length)] := if_pos h

/-- A port that is up faults, and what it held for transmission is gone. -/
theorem Core.portDown_of_up (hn : n < 32) (h : k.fst (.ofl n) = .on ∨ k.fst (.ofl n) = .draining) (cause : Nat) :
    (k.portDown n cause).fst (.ofl n) = .faulted ∧
      (k.portDown n cause).port n = { ((k.port n).lost cause).cut with txq := {} } ∧
      ∀ a, a < 0x140000 → (k.portDown n cause).rd a = k.rd a := by
  have hf := k.fnFault_of_live (i := .ofl n) (by rcases h with h | h <;> simp [h]) (by rcases h with h | h <;> simp [h]) stOk
  have hfns : k.OnlyFns (k.fnFault (.ofl n) stOk) := by rw [hf]; exact k.onlyFns_setFn_pend _ _ _ _
  have hfst : (k.oflLost n cause).fst (.ofl n) = .faulted := by
    rw [Core.oflLost, Core.fst_setPort, hf, Core.fst_setFn_pend]
  have hcut := (k.oflLost n cause).samePort_cutTx hn
  have hcfst : ((k.oflLost n cause).cutTx n).fst (.ofl n) = .faulted := by rw [hcut.fst, Core.fst_setPort, hfst]
  have hreq := ((k.oflLost n cause).cutTx n).samePort_requeueEsc hn (by unfold Core.isOn; rw [hcfst]; rfl)
  have hemit := (((k.oflLost n cause).cutTx n).requeueEsc n).samePort_emit (n := n) (0x0800 + n) 0x0101
    [(3, 0, cause), (47, 16, (k.port n).unacked.length)]
  rw [← Core.portDown_eq h] at hemit
  refine ⟨?_, ?_, fun a ha => ?_⟩
  · rw [hemit.fst, hreq.fst, Core.fst_setPort, hcfst]
  · rw [hemit.port, hreq.port, Core.port_setPort_same, hcut.port, Core.port_setPort_same, Core.oflLost,
      Core.port_setPort_same]
  · rw [hemit.regs a ha, hreq.regs a ha, Core.rd_setPort, Core.cutTx_regs, Core.oflLost, Core.rd_setPort, hfns.rd]

theorem Core.rd_portDown (hn : n < 32) (cause : Nat) {a : Nat} (ha : a < 0x140000) : (k.portDown n cause).rd a = k.rd a := by
  by_cases h : k.fst (.ofl n) = .on ∨ k.fst (.ofl n) = .draining
  · obtain ⟨-, -, hrd⟩ := Core.portDown_of_up hn h cause
    exact hrd a ha
  · rw [Core.portDown_of_not_up h]

end

/-! ### Bring-up (R64, R72, R87, R434) -/

section
variable (s : State) (f : Core → Core)

theorem State.onCore_port (n : Nat) : (s.onCore f).core.port n = (f s.core).port n :=
  Core.port_of_fpc (State.onCore_fpc _ _) n

theorem State.onCore_fst (i : FnId) : (s.onCore f).core.fst i = (f s.core).fst i := by
  unfold Core.fst Core.fn; rw [State.onCore_fns]

variable (ha : s.answers = true) (stat : Nat) (g : Core → Core × Nat)

include ha

theorem State.mgmt_port (n : Nat) : (s.mgmt stat g).core.port n = (g s.core).1.port n :=
  Core.port_of_fpc (State.mgmt_fpc s ha stat g) n

theorem State.mgmt_fst (i : FnId) : (s.mgmt stat g).core.fst i = (g s.core).1.fst i := by
  unfold Core.fst Core.fn; rw [State.mgmt_fns s ha]

end

section
variable {k : Core} {n : Nat}

theorem Core.rxBufOk_of_regs {k k' : Core} (h : k'.regs = k.regs) (n : Nat) : k'.rxBufOk n = k.rxBufOk n := by
  have hbuf : k'.rxBuf n = k.rxBuf n := by
    funext v
    unfold Core.rxBuf Core.fd
    rw [Core.rd_of_regs h]
  unfold Core.rxBufOk
  rw [hbuf]

/-- A port that starts trains its lanes anew; what its peer freed is no part of that. -/
theorem Core.oflStart_eq (n : Nat) (k : Core) : ∃ q, Core.oflStart n k = k.setPort n q ∧ q.link = 1 ∧ q.laneOk = 0 ∧
    q.crcRun = 0 ∧ q.freedIn = (k.port n).freedIn := ⟨_, rfl, rfl, rfl, rfl, rfl⟩

/-- ENABLE of an OFF port in service whose buffers obey R72. -/
theorem Core.oflCmd_enable (hsvc : bitAt k.svc.ofl n = true) (hoff : k.fst (.ofl n) = .off) (hbuf : k.rxBufOk n = true) :
    k.oflCmd n true = ((Core.oflStart n (k.setFst (.ofl n) .starting stOk)).wr (Reg.FPC_P_CTRL n) 1, stOk) := by
  have hcheck : Core.oflCheck n (k.setFst (.ofl n) .starting stOk) = stOk := by
    unfold Core.oflCheck
    rw [Core.rxBufOk_of_regs (k := k) (by rw [Core.setFst_ofl, Core.setFn_regs]), if_pos hbuf]
  have henable : k.fnEnable (.ofl n) (Core.oflCheck n) (Core.oflStart n) =
      (Core.oflStart n (k.setFst (.ofl n) .starting stOk), stOk) := by
    unfold Core.fnEnable
    rw [hoff]
    exact if_pos hcheck
  unfold Core.oflCmd
  simp only [hsvc, henable, if_true, Bool.not_true, Bool.false_eq_true, if_false]

/-- DISABLE of a port that is ON. -/
theorem Core.oflCmd_disable (hon : k.fst (.ofl n) = .on) :
    k.oflCmd n false = ((Core.oflDrain n (k.setFst (.ofl n) .draining stOk)).wr (Reg.FPC_P_CTRL n) 0, stOk) := by
  unfold Core.oflCmd Core.fnDisable
  simp only [hon, Bool.false_eq_true, if_false, if_true]

/-- The lanes of a training port trained. -/
theorem Core.linkTrainedEv_trained {skew : Nat} (h : k.fst (.ofl n) = .starting) (hl : (k.port n).link = 1)
    (hs : skew ≤ 64) : ∃ q, k.linkTrainedEv n skew = k.setPort n q ∧ q.link = 2 ∧ q.laneOk = 15 :=
  ⟨_, if_pos ⟨h, hl, hs⟩, rfl, rfl⟩

/-- The limit of the state a starting port is in has passed (R64). -/
def Core.linkDue (k : Core) (n : Nat) : Prop :=
  (k.port n).t0 + (if (k.port n).link = 1 then 100000000 else 1000000) ≤ k.now

theorem Core.linkTimeoutEv_again (h : k.fst (.ofl n) = .starting) (hdue : k.linkDue n) (ht : (k.port n).tries < 2) :
    k.linkTimeoutEv n =
      k.setPort n { k.port n with tries := (k.port n).tries + 1, link := 1, laneOk := 0, t0 := k.now } :=
  (if_pos ⟨h, hdue⟩).trans (if_neg (by omega))

theorem Core.linkTimeoutEv_fault (h : k.fst (.ofl n) = .starting) (hdue : k.linkDue n) (ht : 2 ≤ (k.port n).tries) :
    k.linkTimeoutEv n = (k.fnFault (.ofl n) stOk).setPort n
      { k.port n with tries := (k.port n).tries + 1, link := 0, cause := 3 } :=
  (if_pos ⟨h, hdue⟩).trans (if_pos ht)

end

section
variable {s : State} {n : Fin 32}

/-- The registers of a port lie below the router's. -/
theorem fpcStat_lt (n : Fin 32) : Reg.FPC_P_STAT n < 0x140000 := by unfold Reg.FPC_P_STAT; omega

theorem fpcCtrl_lt (n : Fin 32) : Reg.FPC_P_CTRL n < 0x140000 := by unfold Reg.FPC_P_CTRL; omega

theorem fpcCtrl_ne_stat (n : Fin 32) : Reg.FPC_P_CTRL n ≠ Reg.FPC_P_STAT n := by
  unfold Reg.FPC_P_CTRL Reg.FPC_P_STAT; omega

/-- A command of a port that succeeds, its EN bit written last: CTRL shows the bit, STAT shows ST_OK. -/
theorem State.mgmt_oflCmd (ha : s.answers = true) {en : Bool} {k : Core} {v : Nat} (hv : v < 2)
    (hk : s.core.oflCmd n en = (k.wr (Reg.FPC_P_CTRL n) v, stOk)) {t : State}
    (ht : t = s.mgmt (Reg.FPC_P_STAT n) (fun k => k.oflCmd n en)) :
    t.core.fst (.ofl n) = k.fst (.ofl n) ∧ (∀ m, t.core.port m = k.port m) ∧ t.core.rd (Reg.FPC_P_CTRL n) = v ∧
      t.core.fd (Reg.FPC_P_STAT n) 7 0 = stOk := by
  subst ht
  refine ⟨?_, fun m => ?_, ?_, ?_⟩
  · rw [State.mgmt_fst s ha, hk]; rfl
  · rw [State.mgmt_port s ha, hk]; rfl
  · rw [State.rd_mgmt s ha _ _ (not_evReg_of_lt (fpcCtrl_lt n)) (fpcCtrl_ne_stat n), hk, Core.rd_wr_same]
    omega
  · rw [State.mgmt_status s ha _ _ (not_evReg_of_lt (fpcStat_lt n)), hk]
    rfl

theorem State.fpcPortEnable_starts (ha : s.answers = true) (hsvc : bitAt s.core.svc.ofl n = true)
    (hoff : s.core.fst (.ofl n) = .off) (hbuf : s.core.rxBufOk n = true) {t : State}
    (ht : t = s.mgmt (Reg.FPC_P_STAT n) (fun k => k.oflCmd n true)) :
    t.core.fst (.ofl n) = .starting ∧ (t.core.port n).link = 1 ∧ (t.core.port n).laneOk = 0 ∧
      t.core.rd (Reg.FPC_P_CTRL n) = 1 ∧ t.core.fd (Reg.FPC_P_STAT n) 7 0 = stOk ∧
      (∀ m, m ≠ n.val → t.core.port m = s.core.port m) ∧ s.only [.fpc, .fns] [Reg.FPC_P_CTRL n, Reg.FPC_P_STAT n] t := by
  have hfns := s.core.onlyFns_setFst_ofl n .starting stOk
  obtain ⟨q, hq, hlink, hlane, -⟩ := Core.oflStart_eq n (s.core.setFst (.ofl n) .starting stOk)
  have hk := Core.oflCmd_enable hsvc hoff hbuf
  rw [hq] at hk
  obtain ⟨hfst, hport, hctrl, hst⟩ := State.mgmt_oflCmd ha (by omega) hk ht
  refine ⟨?_, ?_, ?_, hctrl, hst, fun m hm => ?_, ?_⟩
  · rw [hfst, Core.fst_setPort, Core.fst_setFst_same]
  · rw [hport, Core.port_setPort_same, hlink]
  · rw [hport, Core.port_setPort_same, hlane]
  · rw [hport, Core.port_setPort_ne _ hm, hfns.port]
  · rw [ht]
    refine State.only_mgmt s ha _ _ (by simp) ?_ ?_ <;> rw [hk]
    · exact Core.onlyParts_trans (hfns.onlyParts_of_mem (by simp))
        (Core.onlyParts_trans (Core.onlyParts_setPort _ (by simp) q) (Core.onlyParts_wr _ _))
    · exact Core.onlyRegs_trans hfns.onlyRegs
        (Core.onlyRegs_trans (fun a _ _ _ => Core.rd_setPort _ _ _ a) (Core.onlyRegs_wr (by simp) _))

theorem State.fpcPortDisable_drains (ha : s.answers = true) (hon : s.core.fst (.ofl n) = .on)
    (hp : (s.core.fn (.ofl n)).pend = false) {t : State}
    (ht : t = s.mgmt (Reg.FPC_P_STAT n) (fun k => k.oflCmd n false)) :
    (t.core.fst (.ofl n) = .draining ∨ t.core.fst (.ofl n) = .off) ∧ (t.core.port n).txq = {} ∧
      t.core.rd (Reg.FPC_P_CTRL n) = 0 ∧ t.core.fd (Reg.FPC_P_STAT n) 7 0 = stOk ∧ s.outsideStands t := by
  obtain ⟨hfst, hport, hctrl, hst⟩ := State.mgmt_oflCmd ha (by omega) (Core.oflCmd_disable hon) ht
  obtain ⟨hdrain, htxq⟩ := Core.oflDrain_spec n.isLt (s.core.fst_setFst_same (.ofl n) .draining stOk)
    (by rw [Core.fn_setFst_same]; exact hp)
  rw [hfst, hport]
  exact ⟨hdrain, htxq, hctrl, hst, ht ▸ State.outsideStands_mgmt _ _ _⟩

/-- The third failed attempt faults the port, an earlier one starts its training again (R64). -/
theorem State.linkStateTimeout_due (h : s.core.fst (.ofl n) = .starting) (hdue : s.core.linkDue n) {t : State}
    (ht : t = s.onCore (fun k => k.linkTimeoutEv n)) :
    (t.core.port n).tries = (s.core.port n).tries + 1 ∧
      ((s.core.port n).tries < 2 → t.core.fst (.ofl n) = .starting ∧ (t.core.port n).link = 1 ∧
        (t.core.port n).t0 = s.core.now) ∧
      (2 ≤ (s.core.port n).tries → t.core.fst (.ofl n) = .faulted ∧ (t.core.port n).link = 0 ∧ (t.core.port n).cause = 3) ∧
      (∀ m, m ≠ n.val → t.core.port m = s.core.port m) ∧ s.only [.fpc, .fns] [] t := by
  subst ht
  simp only [State.onCore_port, State.onCore_fst]
  rcases Nat.lt_or_ge (s.core.port n).tries 2 with hlt | hge
  · have hk := Core.linkTimeoutEv_again h hdue hlt
    refine ⟨?_, fun _ => ⟨?_, ?_, ?_⟩, fun hge => absurd hge (by omega), fun m hm => ?_, State.only_onCore s _ ?_ ?_⟩ <;> rw [hk]
    · rw [Core.port_setPort_same]
    · rw [Core.fst_setPort, h]
    · rw [Core.port_setPort_same]
    · rw [Core.port_setPort_same]
    · rw [Core.port_setPort_ne _ hm]
    · exact Core.onlyParts_setPort _ (by simp) _
    · exact fun a _ _ _ => Core.rd_setPort _ _ _ a
  · have hk := Core.linkTimeoutEv_fault h hdue hge
    have hfault := s.core.fnFault_of_live (i := .ofl n) (by simp [h]) (by simp [h]) stOk
    have hfns : s.core.OnlyFns (s.core.fnFault (.ofl n) stOk) := by rw [hfault]; exact s.core.onlyFns_setFn_pend _ _ _ _
    refine ⟨?_, fun hlt => absurd hlt (by omega), fun _ => ⟨?_, ?_, ?_⟩, fun m hm => ?_, State.only_onCore s _ ?_ ?_⟩ <;> rw [hk]
    · rw [Core.port_setPort_same]
    · rw [Core.fst_setPort, hfault, Core.fst_setFn_pend]
    · rw [Core.port_setPort_same]
    · rw [Core.port_setPort_same]
    · rw [Core.port_setPort_ne _ hm, hfns.port]
    · exact Core.onlyParts_trans (hfns.onlyParts_of_mem (by simp)) (Core.onlyParts_setPort _ (by simp) _)
    · exact Core.onlyRegs_trans hfns.onlyRegs (fun a _ _ _ => Core.rd_setPort _ _ _ a)

theorem exec_fpcDrainTimeout_due (h : s.core.fst (.ofl n) = .draining)
    (hdue : (s.core.fn (.ofl n)).since + 2000000 ≤ s.core.now) :
    ∃ f : Core → Core, exec (.fpcDrainTimeout n) s = .next (s.onCore f) ∧ f s.core = s.core.oflOff n :=
  ⟨_, rfl, if_pos ⟨h, hdue⟩⟩

end

/-- Settles O7: ENABLE, DISABLE, the lanes trained, a limit passed, the drain's end. -/
theorem fabricPortBringUp : Obligations.FabricPortBringUp := by
  unfold Obligations.FabricPortBringUp
  refine ⟨?enable, ?disable, ?trained, ?limit, ?drained⟩
  case enable =>
    intro n s ha hsvc hoff hbuf
    exact .of_exec (t := s.mgmt _ _) rfl (State.fpcPortEnable_starts ha hsvc hoff hbuf rfl)
  case disable =>
    intro n s ha hon hp
    exact .of_exec (t := s.mgmt _ _) rfl (State.fpcPortDisable_drains ha hon hp rfl)
  case trained =>
    intro n skew s hfst hlink hskew
    obtain ⟨q, hk, hq, hlane⟩ := Core.linkTrainedEv_trained hfst hlink hskew
    refine .of_exec (t := s.onCore fun k => k.linkTrainedEv n skew) rfl ?_
    simp only [State.onCore_port]
    refine ⟨?_, ?_, fun m hm => ?_, State.only_onCore s _ ?_ ?_⟩ <;> rw [hk]
    · rw [Core.port_setPort_same, hq]
    · rw [Core.port_setPort_same, hlane]
    · rw [Core.port_setPort_ne _ hm]
    · exact Core.onlyParts_setPort _ (by simp) _
    · exact fun a _ _ _ => Core.rd_setPort _ _ _ a
  case limit =>
    intro n s h hdue
    exact .of_exec (t := s.onCore fun k => k.linkTimeoutEv n) rfl (State.linkStateTimeout_due h hdue rfl)
  case drained =>
    intro n s h hp hdue
    obtain ⟨f, hexec, hf⟩ := exec_fpcDrainTimeout_due h hdue
    obtain ⟨hoff, hport⟩ := Core.oflOff_off n.isLt h hp
    obtain ⟨hparts, hregs⟩ := Core.only_oflOff (l := [.fpc, .fns, .frt]) (r := []) n.isLt h hp (by simp) (by simp) (by simp)
    refine .of_exec hexec ⟨?_, ?_, ?_, State.only_onCore s f (hf ▸ hparts) (hf ▸ hregs)⟩
    · rw [State.onCore_fst, hf, hoff]
    · rw [State.onCore_port, hf, hport]; rfl
    · rw [State.onCore_port, hf, hport]; rfl

/-! ### The block sent (R56, R57, R61) -/

theorem foldl_beBytes (n v a : Nat) :
    (beBytes n v).foldl (fun a (b : Byte) => a * 256 + b.toNat) a = a * 2 ^ (8 * n) + v % 2 ^ (8 * n) := by
  induction n generalizing a with
  | zero => simp [beBytes, Nat.mod_one]
  | succ n ih =>
    have hbyte : (byte (v >>> (8 * n))).toNat = v / 2 ^ (8 * n) % 256 := by
      simp [byte, Nat.shiftRight_eq_div_pow]
    have hmod : v % 2 ^ (8 * n + 8) = v % 2 ^ (8 * n) + 2 ^ (8 * n) * (v / 2 ^ (8 * n) % 256) := by
      rw [pow_add, Nat.mod_mul, show 2 ^ 8 = 256 from rfl]
    rw [beBytes, List.foldl_cons, ih, hbyte, show 8 * (n + 1) = 8 * n + 8 by omega, hmod]
    ring

/-- Bytes written most significant first read back as the number. -/
theorem beNat_beBytes (n v : Nat) : beNat (beBytes n v) = v % 2 ^ (8 * n) := by
  unfold beNat
  rw [foldl_beBytes, Nat.zero_mul, Nat.zero_add]

theorem length_beBytes (n v : Nat) : (beBytes n v).length = n := by
  induction n with
  | zero => rfl
  | succ n ih => rw [beBytes, List.length_cons, ih]

theorem length_padTo (n : Nat) (l : List Byte) : (padTo n l).length = n := by
  simp only [padTo, List.length_append, List.length_take, List.length_replicate]
  omega

/-- Pieces of one length, put together. -/
theorem length_flatten_of_forall {α : Type} {c : Nat} {l : List (List α)} (h : ∀ x ∈ l, x.length = c) :
    l.flatten.length = l.length * c := by
  rw [List.length_flatten, List.map_congr_left h, List.map_const', List.sum_replicate, smul_eq_mul]

/-- A block of eight slots is 524 B and their CRC-32 (R56). -/
theorem mkBlock_eq {slots : List (Option TxSlot)} (h : slots.length = 8) (first ack nak cra crca crb crcb : Nat) :
    ∃ b : List Byte, b.length = 524 ∧ mkBlock slots first ack nak cra crca crb crcb = b ++ beBytes 4 (crc32 b) := by
  refine ⟨_, ?_, rfl⟩
  rw [List.length_append, length_beBytes, length_flatten_of_forall (c := 64), List.length_map, h]
  intro x hx
  obtain ⟨slot, -, rfl⟩ := List.mem_map.1 hx
  cases slot with
  | none => exact List.length_replicate
  | some slot => exact length_padTo _ _

/-- The block carries its length and the check of its first 524 B. -/
theorem mkBlock_checked {slots : List (Option TxSlot)} (h : slots.length = 8) (first ack nak cra crca crb crcb : Nat)
    {blk : List Byte} (hb : blk = mkBlock slots first ack nak cra crca crb crcb) :
    blk.length = 528 ∧ beNat (slice blk 524 4) = crc32 (blk.take 524) % 2 ^ 32 := by
  obtain ⟨b, hlen, hblk⟩ := mkBlock_eq h first ack nak cra crca crb crcb
  rw [hb, hblk]
  refine ⟨by rw [List.length_append, length_beBytes, hlen], ?_⟩
  have htake : (b ++ beBytes 4 (crc32 b)).take 524 = b := by rw [← hlen, List.take_left]
  have hslice : slice (b ++ beBytes 4 (crc32 b)) 524 4 = beBytes 4 (crc32 b) := by
    rw [slice, ← hlen, List.drop_left]
    exact List.take_of_length_le (length_beBytes _ _).le
  rw [htake, hslice, beNat_beBytes]

section
variable (k : Core) (n : Nat)

theorem Core.length_blockSlots (i : Nat) : (Core.blockSlots n i k).2.length = i := by
  induction i generalizing k with
  | zero => rfl
  | succ i ih => rw [Core.blockSlots, List.length_cons, ih]

/-- A port brought up: its link is UP, and what is counted from then on is 0 (R59, R64). -/
theorem Core.linkUp_eq : ∃ q, k.linkUp n = ((k.setPort n q).setFst (.ofl n) .on stOk).emit (0x0800 + n) 0x0100
    [(31, 0, (((k.setPort n q).setFst (.ofl n) .on stOk).now - (k.port n).enT) / 1000)] ∧
    q.link = 3 ∧ q.lastBlk = (k.port n).lastBlk ∧ q.nakDue = (k.port n).nakDue := ⟨_, rfl, rfl, rfl, rfl⟩

theorem Core.linkUp_spec : ∃ q, (k.linkUp n).port n = q ∧ (k.linkUp n).fst (.ofl n) = .on ∧
    q.link = 3 ∧ q.lastBlk = (k.port n).lastBlk ∧ q.nakDue = (k.port n).nakDue := by
  obtain ⟨q, hk, hlink, hblk, hnak⟩ := k.linkUp_eq n
  have hemit := ((k.setPort n q).setFst (.ofl n) .on stOk).samePort_emit (n := n) (0x0800 + n) 0x0100
    [(31, 0, (((k.setPort n q).setFst (.ofl n) .on stOk).now - (k.port n).enT) / 1000)]
  rw [← hk] at hemit
  refine ⟨q, ?_, ?_, hlink, hblk, hnak⟩
  · rw [hemit.port, (Core.onlyFns_setFst_ofl _ _ _ _).port, Core.port_setPort_same]
  · rw [hemit.fst, Core.fst_setFst_same]

/-- Whether or not PARAM ends with it, the block sent and the NAK it settled stand. -/
theorem Core.paramChk_sent :
    ((k.paramChk n).port n).lastBlk = (k.port n).lastBlk ∧ ((k.paramChk n).port n).nakDue = (k.port n).nakDue := by
  unfold Core.paramChk
  dsimp only
  split
  · obtain ⟨q, hq, -, -, hblk, hnak⟩ := k.linkUp_spec n
    rw [hq]
    exact ⟨hblk, hnak⟩
  · exact ⟨rfl, rfl⟩

/-- The eight slots of a block: those of a port that is up, or idle ones (R511). -/
def Core.slotsSent : Core × List (Option TxSlot) :=
  if (k.fst (.ofl n) == .on || k.fst (.ofl n) == .draining) = true then Core.blockSlots n 8 k
  else ((List.range 8).foldl (fun (k : Core) _ => k.slotSent n false) k, List.replicate 8 none)

theorem Core.length_slotsSent : (k.slotsSent n).2.length = 8 := by
  unfold Core.slotsSent
  split
  · exact k.length_blockSlots n 8
  · exact List.length_replicate

/-- A port that has sent a block: it owes no NAK, and a port in PARAM has announced its buffers `parm`. -/
def OflPort.blockSent (q : OflPort) (parm : List Nat) : OflPort :=
  if q.link = 2 then { q with nakDue := false, crStep := (q.crStep + 1) % 4, parmTx := parm, parmAck := q.parms }
  else { q with nakDue := false, crStep := (q.crStep + 1) % 4 }

theorem OflPort.nakDue_blockSent (q : OflPort) (parm : List Nat) : (q.blockSent parm).nakDue = false := by
  unfold OflPort.blockSent
  split <;> rfl

/-- What the transmitter leaves: a block of its slots, and no NAK owed. -/
theorem Core.sendBlock_eq : ∃ (k' : Core) (parm : List Nat) (first ack nak cra crca crb crcb : Nat),
    k.sendBlock n = (k'.setPort n ((((k.slotsSent n).1.port n).blockSent parm).encode n
      (mkBlock (k.slotsSent n).2 first ack nak cra crca crb crcb))).paramChk n := by
  unfold Core.sendBlock Core.slotsSent OflPort.blockSent
  exact ⟨_, _, _, _, _, _, _, _, _, rfl⟩

theorem Core.sendBlock_port : ((k.sendBlock n).port n).lastBlk.length = 528 ∧
    beNat (slice ((k.sendBlock n).port n).lastBlk 524 4) = crc32 (((k.sendBlock n).port n).lastBlk.take 524) % 2 ^ 32 ∧
    ((k.sendBlock n).port n).nakDue = false := by
  obtain ⟨k', parm, first, ack, nak, cra, crca, crb, crcb, hk⟩ := k.sendBlock_eq n
  obtain ⟨hblk, hdue⟩ := (k'.setPort n
    ((((k.slotsSent n).1.port n).blockSent parm).encode n
      (mkBlock (k.slotsSent n).2 first ack nak cra crca crb crcb))).paramChk_sent n
  rw [← hk, Core.port_setPort_same] at hblk hdue
  obtain ⟨hlen, hcrc⟩ := mkBlock_checked (k.length_slotsSent n) first ack nak cra crca crb crcb hblk
  exact ⟨hlen, hcrc, hdue.trans (OflPort.nakDue_blockSent _ _)⟩

end

/-! ### The block received (R57, R59, R61, R64) -/

section
variable {k : Core} {n : Nat} {blk : List Byte} {parms : Option (List Nat)}

theorem Core.rxBlock_bad (hl : (k.port n).link = 2 ∨ (k.port n).link = 3)
    (hcrc : crc32 (blk.take 524) ≠ beNat (slice blk 524 4)) : k.rxBlock n blk parms = k.rxBad n := by
  unfold Core.rxBlock
  rcases hl with hl | hl <;> simp [hl, hcrc]

theorem Core.rxBlock_param (hl : (k.port n).link = 2) (hcrc : crc32 (blk.take 524) = beNat (slice blk 524 4)) :
    k.rxBlock n blk parms = k.rxParam n parms := by
  unfold Core.rxBlock
  simp [hl, hcrc]

theorem Core.rxBlock_up (hl : (k.port n).link = 3) (hcrc : crc32 (blk.take 524) = beNat (slice blk 524 4)) :
    k.rxBlock n blk parms = k.rxUp n blk := by
  unfold Core.rxBlock
  simp [hl, hcrc]

/-- A block that fails its CRC is counted, whether or not it takes the port down. -/
theorem Core.rd_rxBad (n : Fin 32) : (k.rxBad n).rd (Reg.FPC_P_CRC_CNT n) = min (k.rd (Reg.FPC_P_CRC_CNT n) + 1) (2 ^ 32 - 1) := by
  have hlt : Reg.FPC_P_CRC_CNT n < 0x140000 := by unfold Reg.FPC_P_CRC_CNT; omega
  unfold Core.rxBad
  dsimp only
  split
  · rw [Core.rd_portDown n.isLt 4 hlt, Core.rd_setPort, Core.rd_cnt_same]
  · rw [Core.rd_setPort, Core.rd_cnt_same]

/-- A good block of a port in PARAM ends PARAM when it was the last thing missing. -/
theorem Core.rxParam_up (hl : (k.port n).link = 2) (hrun : 15 ≤ (k.port n).goodRun)
    (hparms : parms.isSome = true ∨ (k.port n).parms = true) (hack : (k.port n).parmAck = true)
    (hlane : (k.port n).laneOk = 15) : ∃ q, k.rxParam n parms = (k.setPort n q).linkUp n := by
  cases parms with
  | some l =>
    refine ⟨_, if_pos ?_⟩
    rw [Core.port_setPort_same]
    exact ⟨hl, hlane, by show 16 ≤ (k.port n).goodRun + 1; omega, rfl, hack⟩
  | none =>
    have hp : (k.port n).parms = true := by simpa using hparms
    refine ⟨_, if_pos ?_⟩
    rw [Core.port_setPort_same]
    exact ⟨hl, hlane, by show 16 ≤ (k.port n).goodRun + 1; omega, hp, hack⟩

theorem Core.only_linkUp (k : Core) (n : Nat) : k.onlyParts [.fpc, .fns] (k.linkUp n) ∧ k.onlyRegs [] (k.linkUp n) := by
  obtain ⟨q, hk, -⟩ := k.linkUp_eq n
  have hfns := (k.setPort n q).onlyFns_setFst_ofl n .on stOk
  rw [hk]
  exact ⟨Core.onlyParts_trans (k.onlyParts_setPort (by simp) q)
      (Core.onlyParts_trans (hfns.onlyParts_of_mem (by simp)) (Core.onlyParts_emit _ _ _)),
    Core.onlyRegs_trans (Core.onlyRegs_trans (fun a _ _ _ => k.rd_setPort n q a) hfns.onlyRegs) (Core.onlyRegs_emit _ _ _)⟩

/-- The port has taken a good block with trailer `tr`: no run of bad blocks, and report B of the trailer is its credit
(R59, R65). -/
structure OflPort.TookBlock (tr : Nat) (q : OflPort) : Prop where
  run : q.crcRun = 0
  credit : q.freedIn.get 0 (fld tr 71 69) = fld tr 68 57

section
variable {tr : Nat}

theorem OflPort.TookBlock.of_same {q q' : OflPort} (h : q.TookBlock tr) (hrun : q'.crcRun = q.crcRun)
    (hfreed : q'.freedIn = q.freedIn) : q'.TookBlock tr := ⟨hrun.trans h.run, by rw [hfreed]; exact h.credit⟩

theorem OflPort.slotIn_counts (q : OflPort) (typ : Nat) (d : List Byte) :
    (q.slotIn typ d).crcRun = q.crcRun ∧ (q.slotIn typ d).freedIn = q.freedIn := by
  unfold OflPort.slotIn
  split
  · exact ⟨rfl, rfl⟩
  · split
    · exact ⟨rfl, rfl⟩
    · dsimp only
      split <;> exact ⟨rfl, rfl⟩

theorem OflPort.nak_counts (q : OflPort) : q.nak.crcRun = q.crcRun ∧ q.nak.freedIn = q.freedIn := by
  unfold OflPort.nak
  split <;> exact ⟨rfl, rfl⟩

theorem Core.port_cum (k : Core) (a v n : Nat) : (k.cum a v).port n = k.port n := rfl

/-- A slot received is no part of the count of bad blocks or of the credit. -/
theorem Core.tookBlock_rxSlot (h : (k.port n).TookBlock tr) (lsn typ : Nat) (d : List Byte) :
    ((k.rxSlot n lsn typ d).port n).TookBlock tr := by
  obtain ⟨hrun, hfreed⟩ := (k.port n).slotIn_counts typ d
  obtain ⟨hnrun, hnfreed⟩ := (k.port n).nak_counts
  have hslot : ((k.setPort n { (k.port n).slotIn typ d with expLsn := ((k.port n).expLsn + 1) % 4096 }).port n).TookBlock tr := by
    rw [Core.port_setPort_same]
    exact h.of_same hrun hfreed
  unfold Core.rxSlot
  dsimp only
  split
  · split
    · rw [Core.port_cum]; exact hslot
    · exact hslot
  split
  · exact h
  · rw [Core.port_setPort_same]
    exact h.of_same hnrun hnfreed

/-- So are the slots of a block together. -/
theorem Core.tookBlock_foldl {α : Type} {f : Core × Nat → α → Core × Nat}
    (hf : ∀ a i, (a.1.port n).TookBlock tr → ((f a i).1.port n).TookBlock tr) (l : List α) :
    ∀ a : Core × Nat, (a.1.port n).TookBlock tr → ((l.foldl f a).1.port n).TookBlock tr := by
  induction l with
  | nil => exact fun a h => h
  | cons i l ih => exact fun a h => ih _ (hf a i h)

theorem Core.tookBlock_rxSlots (h : (k.port n).TookBlock tr) : ((k.rxSlots n blk tr).port n).TookBlock tr := by
  unfold Core.rxSlots
  refine Core.tookBlock_foldl (fun a i ha => ?_) _ _ h
  dsimp only
  split
  · exact ha
  · exact Core.tookBlock_rxSlot ha _ _ _

/-- Nor does the port's loss, a replay or the end of its drain count a bad block or change the credit. -/
theorem Core.tookBlock_portDown (hn : n < 32) (h : (k.port n).TookBlock tr) (cause : Nat) :
    ((k.portDown n cause).port n).TookBlock tr := by
  by_cases hup : k.fst (.ofl n) = .on ∨ k.fst (.ofl n) = .draining
  · obtain ⟨-, hport, -⟩ := Core.portDown_of_up hn hup cause
    rw [hport]
    exact h.of_same rfl rfl
  · rw [Core.portDown_of_not_up hup]
    exact h

theorem Core.tookBlock_startReplay (hn : n < 32) (h : (k.port n).TookBlock tr) : ((k.startReplay n).port n).TookBlock tr := by
  unfold Core.startReplay
  dsimp only
  split
  · exact h
  · split
    · refine Core.tookBlock_portDown hn ?_ _
      rw [Core.port_setPort_same]
      exact h.of_same rfl rfl
    · rw [Core.port_setPort_same]
      exact h.of_same rfl rfl

/-- A pending ENABLE starts the port again, which counts no bad block either. -/
theorem Core.tookBlock_oflOff (hn : n < 32) (h : (k.port n).TookBlock tr) : ((k.oflOff n).port n).TookBlock tr := by
  have hempty : ((k.oflEmptied n).port n).TookBlock tr := by rw [k.port_oflEmptied hn]; exact h.of_same rfl rfl
  rw [Core.oflOff_eq]
  set k0 := k.oflEmptied n
  have hoff := k0.onlyFns_setFn_pend n .off stOk false
  unfold Core.fnDrained
  split
  · dsimp only
    split
    · unfold Core.fnStart
      dsimp only
      have hstart := hoff.trans (Core.onlyFns_setFst_ofl _ n .starting stOk)
      split
      · obtain ⟨q, hq, -, -, hrun, hfreed⟩ := Core.oflStart_eq n _
        rw [(Core.onlyFns_fnLast _ _ _).port, hq, Core.port_setPort_same]
        rw [hstart.port] at hfreed
        exact ⟨hrun, by rw [hfreed]; exact hempty.credit⟩
      · rw [((hstart.trans (Core.onlyFns_setFst_ofl _ n .off _)).trans (Core.onlyFns_fnLast _ _ _)).port]
        exact hempty
    · rw [hoff.port]
      exact hempty
  · exact hempty

theorem Core.tookBlock_oflDrainChk (hn : n < 32) (h : (k.port n).TookBlock tr) : ((k.oflDrainChk n).port n).TookBlock tr := by
  unfold Core.oflDrainChk
  dsimp only
  split
  · exact Core.tookBlock_oflOff hn h
  · exact h

end

/-- A good block of a port that is up ends the run of bad ones, and its reports are the port's credit. -/
theorem Core.tookBlock_rxUp (hn : n < 32) : ((k.rxUp n blk).port n).TookBlock (beNat (slice blk 512 16)) := by
  unfold Core.rxUp
  dsimp only
  refine Core.tookBlock_oflDrainChk hn ?_
  have hslots : ∀ q : OflPort, q.TookBlock (beNat (slice blk 512 16)) →
      (((k.setPort n q).rxSlots n blk (beNat (slice blk 512 16))).port n).TookBlock (beNat (slice blk 512 16)) :=
    fun q hq => Core.tookBlock_rxSlots (by rw [Core.port_setPort_same]; exact hq)
  have hq : ∀ q : OflPort, q.crcRun = 0 →
      q.freedIn.get 0 (fld (beNat (slice blk 512 16)) 71 69) = fld (beNat (slice blk 512 16)) 68 57 →
      q.TookBlock (beNat (slice blk 512 16)) := fun q h1 h2 => ⟨h1, h2⟩
  split
  · refine Core.tookBlock_startReplay hn (hslots _ ?_)
    split <;> exact hq _ rfl (SMap.get_set_same _ _ _ _)
  · refine hslots _ ?_
    split <;> exact hq _ rfl (SMap.get_set_same _ _ _ _)

end

/-! ### The acknowledge timeout (R62) -/

section
variable {k : Core} {n : Nat}

/-- A replay short of MAX_REPLAY resends everything unacknowledged. -/
theorem Core.startReplay_resends (hne : (k.port n).unacked ≠ [])
    (hmax : (k.port n).replays + 1 < k.fd (Reg.FPC_P_LLCFG n) 19 16) : k.startReplay n =
      (k.cnt (Reg.FPC_P_REPLAY_CNT n)).setPort n { k.port n with
        replays := (k.port n).replays + 1
        unacked := (k.port n).unacked.map (fun s => { s with t := k.now })
        replay := (k.port n).unacked.map (fun s => { s with t := k.now }) } := by
  have hcfg : (k.cnt (Reg.FPC_P_REPLAY_CNT n)).fd (Reg.FPC_P_LLCFG n) 19 16 = k.fd (Reg.FPC_P_LLCFG n) 19 16 := by
    unfold Core.fd
    rw [Core.rd_cnt_ne]
    unfold Reg.FPC_P_LLCFG Reg.FPC_P_REPLAY_CNT
    omega
  have hfd : ∀ q, ((k.cnt (Reg.FPC_P_REPLAY_CNT n)).setPort n q).fd (Reg.FPC_P_LLCFG n) 19 16 =
      k.fd (Reg.FPC_P_LLCFG n) 19 16 := fun q => hcfg
  unfold Core.startReplay
  dsimp only
  rw [if_neg (by simpa using hne), hfd, if_neg (by omega)]
  rfl

theorem Core.ackTimeoutEv_due {x : TxSlot} {l : List TxSlot} (hq : (k.port n).unacked = x :: l)
    (hdue : x.t + 10 * k.fd (Reg.FPC_P_LLCFG n) 15 0 ≤ k.now) : k.ackTimeoutEv n = k.startReplay n := by
  unfold Core.ackTimeoutEv
  rw [hq]
  exact if_pos hdue

end

/-- The oldest slot has waited the timeout: all that is unacknowledged is to be sent again, and the replay counts. -/
theorem State.ackTimeout_replays {s : State} {n : Fin 32} {x : TxSlot} {l : List TxSlot}
    (hq : (s.core.port n).unacked = x :: l) (hdue : x.t + 10 * s.core.fd (Reg.FPC_P_LLCFG n) 15 0 ≤ s.core.now)
    (hmax : (s.core.port n).replays + 1 < s.core.fd (Reg.FPC_P_LLCFG n) 19 16) {t : State}
    (ht : t = s.onCore (fun k => k.ackTimeoutEv n)) :
    (t.core.port n).replay.map TxSlot.lsn = (x :: l).map TxSlot.lsn ∧
      (t.core.port n).replays = (s.core.port n).replays + 1 ∧
      t.core.rd (Reg.FPC_P_REPLAY_CNT n) = min (s.core.rd (Reg.FPC_P_REPLAY_CNT n) + 1) (2 ^ 32 - 1) ∧
      s.only [.fpc] [Reg.FPC_P_REPLAY_CNT n] t := by
  have hlt : Reg.FPC_P_REPLAY_CNT n < 0x140000 := by unfold Reg.FPC_P_REPLAY_CNT; omega
  have hk := (Core.ackTimeoutEv_due hq hdue).trans (Core.startReplay_resends (by simp [hq]) hmax)
  subst ht
  rw [State.onCore_port, State.rd_onCore _ _ (not_evReg_of_lt hlt), hk, Core.port_setPort_same, Core.rd_setPort,
    Core.rd_cnt_same]
  refine ⟨?_, rfl, rfl, State.only_onCore s _ ?_ ?_⟩
  · rw [hq, List.map_map]
    rfl
  · rw [hk]
    exact Core.onlyParts_trans (Core.onlyParts_cnt _) (Core.onlyParts_setPort _ (by simp) _)
  · rw [hk]
    exact Core.onlyRegs_trans (Core.onlyRegs_cnt (by simp)) (fun a _ _ _ => Core.rd_setPort _ _ _ a)

/-! ### A lane lost (R54, R65) -/

theorem testBit_setBit_false (m i : Nat) : (setBit m i false).testBit i = false := by
  unfold setBit
  rw [if_neg (by decide)]
  split
  next h =>
    have hodd : m / 2 ^ i % 2 = 1 := by simpa [Nat.testBit_eq_decide_div_mod_eq] using h
    have hsub : (m - 2 ^ i) / 2 ^ i = m / 2 ^ i - 1 := by
      simpa using Nat.sub_mul_div m (2 ^ i) 1
    rw [Nat.testBit_eq_decide_div_mod_eq, hsub, decide_eq_false_iff_not]
    omega
  next h => simpa using h

/-- A port that is ON goes down with cause LANE when it loses a lane. -/
theorem Core.laneLoss_on {k : Core} {n : Nat} (hn : n < 32) (h : k.fst (.ofl n) = .on) (lane : Nat) {k' : Core}
    (hk : k' = (k.setPort n { k.port n with laneOk := setBit (k.port n).laneOk lane false }).portDown n 1) :
    k'.fst (.ofl n) = .faulted ∧ (k'.port n).cause = 1 ∧ (k'.port n).link = 0 ∧ (k'.port n).unacked = [] ∧
      (k'.port n).laneOk.testBit lane = false := by
  obtain ⟨hfst, hport, -⟩ := Core.portDown_of_up
    (k := k.setPort n { k.port n with laneOk := setBit (k.port n).laneOk lane false }) hn (.inl h) 1
  rw [← hk, Core.port_setPort_same] at hport
  rw [← hk] at hfst
  rw [hport]
  exact ⟨hfst, rfl, rfl, rfl, testBit_setBit_false _ _⟩

theorem exec_laneLoss (n : Fin 32) (lane : Fin 4) (s : State) : exec (.laneLoss n lane) s = .next (s.onCore (fun k =>
    (k.setPort n { k.port n with laneOk := setBit (k.port n).laneOk lane false }).portDown n 1)) := rfl

theorem exec_linkBlockTx (n : Fin 32) (s : State) :
    exec (.linkBlockTx n) s = .next (s.onCore (fun k => if 2 ≤ (k.port n).link then k.sendBlock n else k)) := rfl

theorem exec_linkBlockRx (n : Fin 32) (blk : List Byte) (parms : Option (List Nat)) (s : State) :
    exec (.linkBlockRx n blk parms) s = .next (s.onCore (fun k => k.rxBlock n blk parms)) := rfl

/-- Settles O8: the block sent; a bad block, the good one that ends PARAM and one of a port that is up; the replay; the
lane lost. -/
theorem linkBlocksAndRetry : Obligations.LinkBlocksAndRetry := by
  unfold Obligations.LinkBlocksAndRetry
  refine ⟨?sent, ?bad, ?last, ?good, ?timeout, ?lane⟩
  case sent =>
    intro n s hl
    obtain ⟨hlen, hcrc, hnak⟩ := s.core.sendBlock_port n
    refine .of_exec (exec_linkBlockTx n s) ?_
    rw [State.onCore_port, if_pos hl]
    exact ⟨hlen, hcrc, hnak, State.outsideStands_onCore _ _⟩
  case bad =>
    intro n blk parms s hl hcrc
    have hlt : Reg.FPC_P_CRC_CNT n < 0x140000 := by unfold Reg.FPC_P_CRC_CNT; omega
    refine .of_exec (exec_linkBlockRx n blk parms s) ⟨?_, State.outsideStands_onCore _ _⟩
    rw [State.rd_onCore _ _ (not_evReg_of_lt hlt), Core.rxBlock_bad hl hcrc, Core.rd_rxBad]
  case last =>
    intro n blk parms s hl hcrc hrun hparms hack hlane
    obtain ⟨q, hq⟩ := Core.rxParam_up hl hrun hparms hack hlane
    have hk := (Core.rxBlock_param (parms := parms) hl hcrc).trans hq
    obtain ⟨q', hport, hon, hlink, -⟩ := (s.core.setPort n q).linkUp_spec n
    obtain ⟨hparts, hregs⟩ := (s.core.setPort n q).only_linkUp n
    refine .of_exec (exec_linkBlockRx n blk parms s) ⟨?_, ?_, State.only_onCore s _ ?_ ?_⟩
    · rw [State.onCore_fst, hk, hon]
    · rw [State.onCore_port, hk, hport, hlink]
    · rw [hk]; exact Core.onlyParts_trans (Core.onlyParts_setPort _ (by simp) q) hparts
    · rw [hk]; exact Core.onlyRegs_trans (fun a _ _ _ => Core.rd_setPort _ _ _ a) hregs
  case good =>
    intro n blk parms s hl hcrc
    obtain ⟨hrun, hcredit⟩ := Core.tookBlock_rxUp (k := s.core) (blk := blk) n.isLt
    refine .of_exec (exec_linkBlockRx n blk parms s) ?_
    rw [State.onCore_port, Core.rxBlock_up hl hcrc]
    exact ⟨hrun, hcredit, State.outsideStands_onCore _ _⟩
  case timeout =>
    intro n x l s hq hdue hmax
    exact .of_exec (t := s.onCore fun k => k.ackTimeoutEv n) rfl (State.ackTimeout_replays hq hdue hmax rfl)
  case lane =>
    intro n lane s hon
    obtain ⟨hfst, hcause, hlink, hun, hbit⟩ := Core.laneLoss_on n.isLt hon lane rfl
    refine .of_exec (exec_laneLoss n lane s) ?_
    rw [State.onCore_fst, State.onCore_port]
    exact ⟨hfst, hcause, hlink, hun, hbit, State.outsideStands_onCore _ _⟩

end Sys2Proof.Machine
end

section
/-!
PROOFS. The flow context store (04_flows R94 to R115): the words of flow contexts and completion records, and what packets
sent, buffers returned and flows that change state leave of them.
-/

namespace Sys2Proof.Machine

open Sys2Proof

/-! ### Words of 64 bits (R95, R103) -/

section
variable (k : Core)

/-- A word of 64 bits written as two table words. -/
def Core.tbw2 (win w v : Nat) : Core := (k.tbw win w v).tbw win (w + 1) (v >>> 32)

theorem Core.setFctx_eq (f off v : Nat) : k.setFctx f off v = k.tbw2 Reg.FCS_CTX_TBL (64 * f + off / 4) v := rfl

theorem Core.setCr_eq (id w v : Nat) : k.setCr id w v = k.tbw2 Reg.FCS_CR_TBL (16 * id + 2 * w) v := rfl

theorem Core.tbn_two (win w : Nat) : k.tbn win w 2 = k.tb win w + 2 ^ 32 * k.tb win (w + 1) := by
  simp [Core.tbn]

theorem Core.tb_lt (win w : Nat) : k.tb win w < 2 ^ 32 := BitVec.isLt _

theorem Core.tbn_two_lt (win w : Nat) : k.tbn win w 2 < 2 ^ 64 := by
  have h1 := k.tb_lt win w
  have h2 := k.tb_lt win (w + 1)
  rw [Core.tbn_two]
  omega

/-- The word reads as written. -/
theorem Core.tbn_tbw2_same (win w v : Nat) : (k.tbw2 win w v).tbn win w 2 = v % 2 ^ 64 := by
  have hlow : (k.tbw2 win w v).tb win w = v % 2 ^ 32 :=
    (Core.tb_tbw_ne _ (mt tkey_inj.1 (by omega)) _).trans (k.tb_tbw_same win w v)
  have hhigh : (k.tbw2 win w v).tb win (w + 1) = v / 2 ^ 32 % 2 ^ 32 := by
    rw [← Nat.shiftRight_eq_div_pow]
    exact Core.tb_tbw_same _ _ _ _
  rw [Core.tbn_two, hlow, hhigh]
  omega

/-- Every other table word stands. -/
theorem Core.tb_tbw2_ne {win w win' w' : Nat} (h : tkey win' w' ≠ tkey win w) (h' : tkey win' w' ≠ tkey win (w + 1))
    (v : Nat) : (k.tbw2 win w v).tb win' w' = k.tb win' w' :=
  (Core.tb_tbw_ne _ h' _).trans (k.tb_tbw_ne h v)

/-! ### Context words (R95) -/

/-- Both words below a context word of flow `f` are those of the flow context. -/
theorem tkey_ctx_lt {f off : Nat} (hf : f < 16384) (ho : off < 256) :
    tkey Reg.FCS_CTX_TBL (64 * f + off / 4 + 1) < tkey Reg.FCS_CR_TBL 0 := by
  unfold tkey Reg.FCS_CTX_TBL Reg.FCS_CR_TBL
  omega

theorem Core.fctx_lt (f off : Nat) : k.fctx f off < 2 ^ 64 := k.tbn_two_lt _ _

theorem Core.fctx_setFctx_same (f off v : Nat) : (k.setFctx f off v).fctx f off = v % 2 ^ 64 := k.tbn_tbw2_same _ _ _

/-- Another word of 8 bytes of the context stands. -/
theorem Core.fctx_setFctx_ne {f off off' : Nat} (h : off' / 4 + 1 < off / 4 ∨ off / 4 + 1 < off' / 4) (v : Nat) :
    (k.setFctx f off v).fctx f off' = k.fctx f off' := by
  have hw : ∀ w, w = 64 * f + off' / 4 ∨ w = 64 * f + off' / 4 + 1 →
      (k.setFctx f off v).tb Reg.FCS_CTX_TBL w = k.tb Reg.FCS_CTX_TBL w := fun w hw =>
    k.tb_tbw2_ne (mt tkey_inj.1 (by omega)) (mt tkey_inj.1 (by omega)) v
  unfold Core.fctx
  rw [Core.tbn_two, Core.tbn_two, hw _ (.inl rfl), hw _ (.inr rfl)]

/-! ### Record words (R103) -/

theorem Core.cr_lt (id w : Nat) : k.cr id w < 2 ^ 64 := k.tbn_two_lt _ _

theorem Core.cr_setCr_same (id w v : Nat) : (k.setCr id w v).cr id w = v % 2 ^ 64 := k.tbn_tbw2_same _ _ _

theorem Core.tb_setCr_ne {id w w' : Nat} (h : w' ≠ 16 * id + 2 * w) (h' : w' ≠ 16 * id + 2 * w + 1) (v : Nat) :
    (k.setCr id w v).tb Reg.FCS_CR_TBL w' = k.tb Reg.FCS_CR_TBL w' :=
  k.tb_tbw2_ne (mt tkey_inj.1 h) (mt tkey_inj.1 h') v

theorem Core.cr_setCr_ne {id w w' : Nat} (h : w' ≠ w) (v : Nat) : (k.setCr id w v).cr id w' = k.cr id w' := by
  unfold Core.cr
  rw [Core.tbn_two, Core.tbn_two, k.tb_setCr_ne (by omega) (by omega), k.tb_setCr_ne (by omega) (by omega)]

theorem Core.cr_setCrf_same (id w hi lo v : Nat) : (k.setCrf id w hi lo v).cr id w = setFld (k.cr id w) hi lo v % 2 ^ 64 :=
  k.cr_setCr_same id w _

theorem Core.cr_setCrf_ne {id w w' : Nat} (h : w' ≠ w) (hi lo v : Nat) :
    (k.setCrf id w hi lo v).cr id w' = k.cr id w' := k.cr_setCr_ne h _

theorem Core.cr_setCrf_of_lt {hi lo : Nat} (hh : hi < 64) (hl : lo ≤ hi) (id w v : Nat) :
    (k.setCrf id w hi lo v).cr id w = setFld (k.cr id w) hi lo v := by
  rw [Core.cr_setCrf_same, Nat.mod_eq_of_lt (setFld_lt 64 v hh hl (k.cr_lt id w))]

/-- A field of a record reads as set. -/
theorem Core.fld_setCrf_same {hi lo : Nat} (hh : hi < 64) (hl : lo ≤ hi) (id w v : Nat) :
    fld ((k.setCrf id w hi lo v).cr id w) hi lo = v % 2 ^ (hi + 1 - lo) := by
  rw [k.cr_setCrf_of_lt hh hl, fld_setFld_same]

/-- Another field of the word reads as before. -/
theorem Core.fld_setCrf_of_disjoint {hi lo hi' lo' : Nat} (hh : hi < 64) (hl : lo ≤ hi) (hd : hi' < lo ∨ hi < lo')
    (id w v : Nat) : fld ((k.setCrf id w hi lo v).cr id w) hi' lo' = fld (k.cr id w) hi' lo' := by
  rw [k.cr_setCrf_of_lt hh hl]
  rcases hd with hd | hd
  · exact fld_setFld_below hd _ _ _ _
  · exact fld_setFld_above hl hd _ _ _

/-! ### The packets a record has (R103, R106) -/

/-- `n` words of a table as one number, the rest of the table aside. -/
theorem Core.tbn_of_tb {k k' : Core} {win : Nat} : ∀ {n w w' : Nat},
    (∀ i < n, k'.tb win (w' + i) = k.tb win (w + i)) → k'.tbn win w' n = k.tbn win w n
  | 0, _, _, _ => rfl
  | n + 1, w, w', h => by
    have h0 := h 0 (by omega)
    have ht := Core.tbn_of_tb (n := n) (w := w + 1) (w' := w' + 1) fun i hi => by
      have := h (i + 1) (by omega)
      rwa [Nat.add_comm i 1, ← Nat.add_assoc, ← Nat.add_assoc] at this
    rw [Nat.add_zero, Nat.add_zero] at h0
    rw [Core.tbn, Core.tbn, h0, ht]

/-- Words that hold the parts of a number read as the number. -/
theorem Core.tbn_of_words {k : Core} {win m : Nat} : ∀ {n w : Nat},
    (∀ i < n, k.tb win (w + i) = m / 2 ^ (32 * i) % 2 ^ 32) → k.tbn win w n = m % 2 ^ (32 * n)
  | 0, _, _ => by simp [Core.tbn, Nat.mod_one]
  | n + 1, w, h => by
    have h0 := h 0 (by omega)
    have ht := Core.tbn_of_words (m := m / 2 ^ 32) (n := n) (w := w + 1) fun i hi => by
      rw [Nat.div_div_eq_div_mul, ← pow_add, show 32 + 32 * i = 32 * (i + 1) by ring, ← h (i + 1) (by omega)]
      congr 1
      omega
    rw [Nat.add_zero, Nat.mul_zero, pow_zero, Nat.div_one] at h0
    rw [Core.tbn, h0, ht, show 32 * (n + 1) = 32 + 32 * n by ring, pow_add, Nat.mod_mul]

/-- Words of a table put one after the other: each reads as put, the others stand. -/
theorem Core.tb_put_words (win b : Nat) (g : Nat → Nat) (w : Nat) : ∀ n : Nat,
    ((List.range n).foldl (fun (k : Core) i => k.tbw win (b + i) (g i)) k).tb win w =
      if b ≤ w ∧ w < b + n then g (w - b) % 2 ^ 32 else k.tb win w
  | 0 => by rw [if_neg (by omega)]; rfl
  | n + 1 => by
    rw [List.range_succ, List.foldl_append, List.foldl_cons, List.foldl_nil]
    by_cases hw : w = b + n
    · subst hw
      rw [Core.tb_tbw_same, if_pos (by omega), Nat.add_sub_cancel_left]
    · rw [Core.tb_tbw_ne _ (mt tkey_inj.1 hw), Core.tb_put_words win b g w n]
      simp only [show (b ≤ w ∧ w < b + (n + 1)) ↔ (b ≤ w ∧ w < b + n) by omega]

theorem Core.put_words_eq (win b : Nat) (g : Nat → Nat) (l : List Nat) :
    ∃ m, l.foldl (fun (k : Core) i => k.tbw win (b + i) (g i)) k = { k with tbl := m } := by
  induction l generalizing k with
  | nil => exact ⟨k.tbl, rfl⟩
  | cons i l ih =>
    obtain ⟨m, hm⟩ := ih (k.tbw win (b + i) (g i))
    exact ⟨m, hm⟩

theorem Core.setMap_eq (id m : Nat) : ∃ t, k.setMap id m = { k with tbl := t } := k.put_words_eq _ _ _ _

theorem Core.tb_setMap (id m w : Nat) : (k.setMap id m).tb Reg.FCS_CR_TBL w =
    if 16 * id + 8 ≤ w ∧ w < 16 * id + 8 + 8 then m >>> (32 * (w - (16 * id + 8))) % 2 ^ 32 else k.tb Reg.FCS_CR_TBL w :=
  k.tb_put_words _ _ _ _ 8

/-- MAP reads as put. -/
theorem Core.rMap_setMap (id m : Nat) : (k.setMap id m).rMap id = m % 2 ^ 256 := by
  refine Core.tbn_of_words fun i hi => ?_
  rw [Core.tb_setMap, if_pos (by omega), Nat.add_sub_cancel_left, Nat.shiftRight_eq_div_pow]

/-- The record's other words stand. -/
theorem Core.cr_setMap {w : Nat} (hw : w < 4) (id m : Nat) : (k.setMap id m).cr id w = k.cr id w := by
  unfold Core.cr
  rw [Core.tbn_two, Core.tbn_two, Core.tb_setMap, Core.tb_setMap, if_neg (by omega), if_neg (by omega)]

theorem Core.rMap_setCr {w : Nat} (hw : w < 4) (id v : Nat) : (k.setCr id w v).rMap id = k.rMap id :=
  Core.tbn_of_tb fun i _ => k.tb_setCr_ne (by omega) (by omega) v

theorem Core.tbn_lt (win : Nat) : ∀ n w : Nat, k.tbn win w n < 2 ^ (32 * n)
  | 0, _ => by simp [Core.tbn]
  | n + 1, w => by
    have h0 := k.tb_lt win w
    have ht := Core.tbn_lt win n (w + 1)
    rw [Core.tbn, show 32 * (n + 1) = 32 + 32 * n by ring, pow_add]
    generalize 2 ^ (32 * n) = c at *
    omega

theorem Core.rMap_lt (id : Nat) : k.rMap id < 2 ^ 256 := k.tbn_lt _ 8 _

theorem Core.rFlow_lt (id : Nat) : k.rFlow id < 16384 := fld_lt _ 61 48

end

/-! ### What leaves the record store as it stands -/

/-- The record store reads the same in both. -/
def Core.SameRecs (k k' : Core) : Prop := ∀ w, k'.tb Reg.FCS_CR_TBL w = k.tb Reg.FCS_CR_TBL w

section
variable {k k' k'' : Core}

theorem Core.SameRecs.refl (k : Core) : k.SameRecs k := fun _ => rfl

theorem Core.SameRecs.trans (h : k.SameRecs k') (h' : k'.SameRecs k'') : k.SameRecs k'' := fun w => (h' w).trans (h w)

theorem Core.SameRecs.of_tbl (h : k'.tbl = k.tbl) : k.SameRecs k' := fun _ => Core.tb_of_tbl h _ _

theorem Core.SameRecs.cr (h : k.SameRecs k') (id w : Nat) : k'.cr id w = k.cr id w := by
  unfold Core.cr
  rw [Core.tbn_two, Core.tbn_two, h, h]

theorem Core.SameRecs.rMap (h : k.SameRecs k') (id : Nat) : k'.rMap id = k.rMap id :=
  Core.tbn_of_tb fun _ _ => h _

theorem Core.sameRecs_setFctx {f off : Nat} (hf : f < 16384) (ho : off < 256) (v : Nat) : k.SameRecs (k.setFctx f off v) := by
  have hlt := tkey_ctx_lt hf ho
  refine fun w => k.tb_tbw2_ne ?_ ?_ v <;> unfold tkey at * <;> omega

theorem Core.sameRecs_fInc {f off : Nat} (hf : f < 16384) (ho : off < 256) (hi lo n : Nat) :
    k.SameRecs (k.fInc f off hi lo n) := Core.sameRecs_setFctx hf ho _
end

/-! ### Parts of the core a flow's work names -/

section
variable {k : Core} {l : List Part} {r : List Nat}

theorem Core.onlyParts_tbl (h : Part.tbl ∈ l) (m : SMap Word) : k.onlyParts l { k with tbl := m } := by
  intro q hq
  cases q
  case tbl => exact absurd h hq
  all_goals rfl

theorem Core.onlyParts_fcs (h : Part.fcs ∈ l) (x : Fcs) : k.onlyParts l { k with fcs := x } := by
  intro q hq
  cases q
  case fcs => exact absurd h hq
  all_goals rfl

theorem Core.onlyParts_fns (h : Part.fns ∈ l) (m : SMap Fn) : k.onlyParts l { k with fns := m } := by
  intro q hq
  cases q
  case fns => exact absurd h hq
  all_goals rfl

/-- The second core is the first with other table words. -/
def Core.OnlyTbl (k k' : Core) : Prop := ∃ m, k' = { k with tbl := m }

section
variable {k' k'' : Core}

theorem Core.OnlyTbl.trans (h : k.OnlyTbl k') (h' : k'.OnlyTbl k'') : k.OnlyTbl k'' := by
  obtain ⟨m, rfl⟩ := h
  obtain ⟨m', rfl⟩ := h'
  exact ⟨m', rfl⟩

theorem Core.OnlyTbl.refl (k : Core) : k.OnlyTbl k := ⟨k.tbl, rfl⟩

theorem Core.OnlyTbl.regs (h : k.OnlyTbl k') : k'.regs = k.regs := by obtain ⟨_, rfl⟩ := h; rfl

theorem Core.OnlyTbl.fns (h : k.OnlyTbl k') : k'.fns = k.fns := by obtain ⟨_, rfl⟩ := h; rfl

theorem Core.OnlyTbl.frt (h : k.OnlyTbl k') : k'.frt = k.frt := by obtain ⟨_, rfl⟩ := h; rfl

theorem Core.OnlyTbl.fcs (h : k.OnlyTbl k') : k'.fcs = k.fcs := by obtain ⟨_, rfl⟩ := h; rfl

theorem Core.OnlyTbl.cle (h : k.OnlyTbl k') : k'.cle = k.cle := by obtain ⟨_, rfl⟩ := h; rfl

theorem Core.OnlyTbl.mem (h : k.OnlyTbl k') : k'.mem = k.mem := by obtain ⟨_, rfl⟩ := h; rfl

theorem Core.OnlyTbl.now (h : k.OnlyTbl k') : k'.now = k.now := by obtain ⟨_, rfl⟩ := h; rfl

theorem Core.OnlyTbl.onlyParts (h : k.OnlyTbl k') (hl : Part.tbl ∈ l) : k.onlyParts l k' := by
  obtain ⟨m, rfl⟩ := h
  exact Core.onlyParts_tbl hl m

theorem Core.OnlyTbl.onlyRegs (h : k.OnlyTbl k') : k.onlyRegs r k' := Core.onlyRegs_of_regs h.regs

end

theorem Core.onlyTbl_setFctx (f off v : Nat) : k.OnlyTbl (k.setFctx f off v) := ⟨_, rfl⟩

theorem Core.onlyTbl_fInc (f off hi lo n : Nat) : k.OnlyTbl (k.fInc f off hi lo n) := Core.onlyTbl_setFctx _ _ _

theorem Core.onlyTbl_setCr (id w v : Nat) : k.OnlyTbl (k.setCr id w v) := ⟨_, rfl⟩

theorem Core.onlyTbl_setCrf (id w hi lo v : Nat) : k.OnlyTbl (k.setCrf id w hi lo v) := Core.onlyTbl_setCr _ _ _

theorem Core.onlyTbl_setMap (id m : Nat) : k.OnlyTbl (k.setMap id m) := k.setMap_eq id m

theorem Core.onlyParts_recTimer (h : Part.fcs ∈ l) (id us : Nat) : k.onlyParts l (k.recTimer id us) :=
  Core.onlyParts_fcs h _

end

/-! ### Packets the gateway sends (R69, R109, R112) -/

/-- The second core is the first with `n` packets more at the unit that originates them. -/
def Core.Sent (n : Nat) (k k' : Core) : Prop :=
  ∃ l m, l.length = n ∧ k' = { k with frt := { k.frt with own := k.frt.own ++ l }, free := m }

section
variable {k k' k'' : Core} {n n' : Nat} {l : List Part} {r : List Nat}

theorem Core.Sent.refl (k : Core) : k.Sent 0 k := ⟨[], k.free, rfl, by rw [List.append_nil]⟩

theorem Core.Sent.trans (h : k.Sent n k') (h' : k'.Sent n' k'') : k.Sent (n + n') k'' := by
  obtain ⟨a, m, rfl, rfl⟩ := h
  obtain ⟨b, m', rfl, rfl⟩ := h'
  exact ⟨a ++ b, m', List.length_append, by rw [List.append_assoc]⟩

theorem Core.sent_originate (vc typ poison : Nat) (data : List Byte) (dst flow seq cmpl coll : Nat) :
    k.Sent 1 (k.originate vc typ poison data dst flow seq cmpl coll) := ⟨[_], k.free, rfl, rfl⟩

theorem Core.sent_sendCtl (dst flow : Nat) (m : List Byte) : k.Sent 1 (k.sendCtl dst flow m) := ⟨[_], _, rfl, rfl⟩

theorem Core.sent_sendCmpl (op status flow cmpl base missing dst : Nat) :
    k.Sent 1 (k.sendCmpl op status flow cmpl base missing dst) := Core.sent_sendCtl _ _ _

theorem Core.sent_sendPkt (id i : Nat) : k.Sent 1 (k.sendPkt id i) := Core.sent_originate _ _ _ _ _ _ _ _ _

/-- One packet for each index of a list. -/
theorem Core.sent_foldl_sendPkt (id : Nat) : ∀ (is : List Nat) (k : Core),
    k.Sent is.length (is.foldl (fun k i => k.sendPkt id i) k)
  | [], k => .refl k
  | i :: is, k => by
    rw [List.length_cons, Nat.add_comm]
    exact (Core.sent_sendPkt (k := k) id i).trans (Core.sent_foldl_sendPkt id is _)

theorem Core.Sent.tbl (h : k.Sent n k') : k'.tbl = k.tbl := by obtain ⟨_, _, _, rfl⟩ := h; rfl

theorem Core.Sent.regs (h : k.Sent n k') : k'.regs = k.regs := by obtain ⟨_, _, _, rfl⟩ := h; rfl

theorem Core.Sent.cle (h : k.Sent n k') : k'.cle = k.cle := by obtain ⟨_, _, _, rfl⟩ := h; rfl

theorem Core.Sent.fcs (h : k.Sent n k') : k'.fcs = k.fcs := by obtain ⟨_, _, _, rfl⟩ := h; rfl

theorem Core.Sent.fns (h : k.Sent n k') : k'.fns = k.fns := by obtain ⟨_, _, _, rfl⟩ := h; rfl

theorem Core.Sent.now (h : k.Sent n k') : k'.now = k.now := by obtain ⟨_, _, _, rfl⟩ := h; rfl

theorem Core.Sent.ctl (h : k.Sent n k') : k'.frt.ctl = k.frt.ctl := by obtain ⟨_, _, _, rfl⟩ := h; rfl

theorem Core.Sent.own (h : k.Sent n k') : k'.frt.own.length = k.frt.own.length + n := by
  obtain ⟨a, _, rfl, rfl⟩ := h
  exact List.length_append

theorem Core.Sent.onlyParts (h : k.Sent n k') (hf : Part.frt ∈ l) (hr : Part.free ∈ l) : k.onlyParts l k' := by
  obtain ⟨_, _, _, rfl⟩ := h
  intro q hq
  cases q
  case frt => exact absurd hf hq
  case free => exact absurd hr hq
  all_goals rfl

theorem Core.Sent.onlyRegs (h : k.Sent n k') : k.onlyRegs r k' := Core.onlyRegs_of_regs h.regs

theorem Core.Sent.sameRecs (h : k.Sent n k') : k.SameRecs k' := .of_tbl h.tbl

end

end Sys2Proof.Machine
end

section
/-!
PROOFS. The commands of a flow (04_flows R95 to R99, R114, 15_boot_config R434): ENABLE, DISABLE, the configuration words, and
the commands without effect.
-/

namespace Sys2Proof.Machine

open Sys2Proof

section
variable (k : Core)

/-! ### The function of a flow (R434) -/

theorem Core.setFst_flow (f : Nat) (n : FState) (st : Nat) : k.setFst (.flow f) n st =
    (k.setFn (.flow f) { k.fn (.flow f) with fst := n, since := k.now }).emit 0x1800 0x0300
      [(107, 94, f), (93, 91, n.code), (90, 88, (k.fst (.flow f)).code), (7, 0, st)] := rfl

/-- A flow's change of state touches no context of the collective engine. -/
theorem Core.setFst_flow_cle (f : Nat) (n : FState) (st : Nat) : (k.setFst (.flow f) n st).cle = k.cle := by
  rw [Core.setFst_flow, Core.emit_cle, Core.setFn_cle]

theorem Core.fst_of_fns {k k' : Core} (h : k'.fns = k.fns) (i : FnId) : k'.fst i = k.fst i := by
  unfold Core.fst Core.fn; rw [h]

theorem Core.fst_fnLast (i : FnId) (st : Nat) : (k.fnLast i st).fst i = k.fst i := by
  unfold Core.fst Core.fnLast
  rw [Core.fn_setFn_same]

section
variable {k} {l : List Part} {r : List Nat}

theorem Core.onlyParts_setFn (h : Part.fns ∈ l) (i : FnId) (x : Fn) : k.onlyParts l (k.setFn i x) := Core.onlyParts_fns h _

theorem Core.onlyParts_setFst_flow (h : Part.fns ∈ l) (f : Nat) (n : FState) (st : Nat) :
    k.onlyParts l (k.setFst (.flow f) n st) := by
  rw [Core.setFst_flow]
  exact Core.onlyParts_trans (Core.onlyParts_setFn h _ _) (Core.onlyParts_emit _ _ _)

theorem Core.onlyRegs_setFn (i : FnId) (x : Fn) : k.onlyRegs r (k.setFn i x) := Core.onlyRegs_of_regs rfl

end

/-! ### The end of a flow's drain (R98) -/

/-- The records a flow has open are those of the store. -/
theorem Core.flowRecs_of_tbl {k k' : Core} (h : k'.tbl = k.tbl) (f : Nat) : k'.flowRecs f = k.flowRecs f := by
  have hcr : ∀ id, k'.rFlow id = k.rFlow id := fun id => by
    unfold Core.rFlow
    rw [(Core.SameRecs.of_tbl h).cr]
  unfold Core.flowRecs Core.openRecs
  simp only [h, hcr]

variable {k} {f : Nat}

/-- With no ENABLE pending a drain ends OFF where no record is open. -/
theorem Core.flowChk_of_no_pend (h : k.fst (.flow f) = .draining) (hp : (k.fn (.flow f)).pend = false) :
    Core.flowChk f k = if k.flowRecs f = [] then (k.setFst (.flow f) .off stOk).setFn (.flow f)
      { (k.setFst (.flow f) .off stOk).fn (.flow f) with pend := false } else k := by
  unfold Core.flowChk
  rw [k.fnDrained_of_no_pend h hp]
  simp only [h, true_and]

theorem Core.fst_flowChk (h : k.fst (.flow f) = .draining) (hp : (k.fn (.flow f)).pend = false) :
    (Core.flowChk f k).fst (.flow f) = if k.flowRecs f = [] then .off else .draining := by
  rw [Core.flowChk_of_no_pend h hp]
  split
  · exact k.fst_setFn_pend _ _ _ _
  · exact h

theorem Core.only_flowChk {l : List Part} {r : List Nat} (hl : Part.fns ∈ l) (h : k.fst (.flow f) = .draining)
    (hp : (k.fn (.flow f)).pend = false) : k.onlyParts l (Core.flowChk f k) ∧ k.onlyRegs r (Core.flowChk f k) := by
  rw [Core.flowChk_of_no_pend h hp]
  split
  · exact ⟨Core.onlyParts_trans (Core.onlyParts_setFst_flow hl _ _ _) (Core.onlyParts_setFn hl _ _),
      Core.onlyRegs_trans (Core.onlyRegs_setFst _ _ _) (Core.onlyRegs_setFn _ _)⟩
  · exact ⟨Core.onlyParts_refl _ _, Core.onlyRegs_refl _ _⟩

end

/-! ### What a flow's command reports -/

section
variable {s : State} {k : Core} {f cmd st : Nat}

theorem exec_flowEnable (f : Fin 16384) (s : State) :
    exec (.flowEnable f) s = .next (s.mgmt Reg.FCS_STAT (fun k => k.flowCmd 1 f)) := rfl

theorem exec_flowDisable (f : Fin 16384) (s : State) :
    exec (.flowDisable f) s = .next (s.mgmt Reg.FCS_STAT (fun k => k.flowCmd 2 f)) := rfl

/-- The core after a flow's command shows its status as the flow's and the block's last. -/
theorem State.mgmt_flowCmd (ha : s.answers = true) (hk : s.core.flowCmd cmd f = (k.fnLast (.flow f) st, st)) (hst : st < 256)
    {t : State} (ht : t = s.mgmt Reg.FCS_STAT (fun k => k.flowCmd cmd f)) :
    t.core.tbl = k.tbl ∧ t.core.fns = (k.fnLast (.flow f) st).fns ∧ t.core.fd Reg.FCS_STAT 7 0 = st ∧
      ∀ l : List Part, Part.fns ∈ l → s.core.onlyParts l k → s.core.onlyRegs [Reg.FCS_STAT] k → s.only l [Reg.FCS_STAT] t := by
  subst ht
  refine ⟨?_, ?_, ?_, fun l hl hp hr => State.only_mgmt s ha _ _ (by simp) ?_ ?_⟩
  · rw [State.mgmt_tbl s ha, hk, Core.fnLast_tbl]
  · rw [State.mgmt_fns s ha, hk]
  · rw [State.mgmt_status s ha _ _ (by unfold evReg; decide), hk]
    exact Nat.mod_eq_of_lt hst
  · rw [hk]; exact Core.onlyParts_trans hp (Core.onlyParts_setFn hl _ _)
  · rw [hk]; exact Core.onlyRegs_trans hr (Core.onlyRegs_setFn _ _)

theorem Core.flowCmd_enable_of_not_off (h : k.fst (.flow f) ≠ .off) :
    k.flowCmd 1 f = let r := k.fnEnable (.flow f) (Core.flowCheck f) (Core.flowStart f); (r.1.fnLast (.flow f) r.2, r.2) := by
  have hoff : k.isOff (.flow f) = false := by simpa [Core.isOff] using h
  unfold Core.flowCmd
  simp only [hoff, Bool.false_eq_true, if_false]

/-- ENABLE in ON, DISABLE in OFF, ENABLE in FAULTED (R99). -/
theorem Core.flowCmd_enable_on (h : k.fst (.flow f) = .on) : k.flowCmd 1 f = (k.fnLast (.flow f) stOk, stOk) := by
  rw [Core.flowCmd_enable_of_not_off (by simp [h])]
  unfold Core.fnEnable
  simp only [h]

theorem Core.flowCmd_enable_faulted (h : k.fst (.flow f) = .faulted) :
    k.flowCmd 1 f = (k.fnLast (.flow f) stBusy, stBusy) := by
  rw [Core.flowCmd_enable_of_not_off (by simp [h])]
  unfold Core.fnEnable
  simp only [h]

theorem Core.flowCmd_disable_off (h : k.fst (.flow f) = .off) : k.flowCmd 2 f = (k.fnLast (.flow f) stOk, stOk) := by
  unfold Core.flowCmd Core.fnDisable
  simp only [h]

/-- A command without effect changes the status it reports alone. -/
theorem State.flowCmd_without_effect (ha : s.answers = true) (hk : s.core.flowCmd cmd f = (s.core.fnLast (.flow f) st, st))
    (hst : st < 256) {t : State} (ht : t = s.mgmt Reg.FCS_STAT (fun k => k.flowCmd cmd f)) :
    t.core.fd Reg.FCS_STAT 7 0 = st ∧
      t.core.fns = s.core.fns.set {} (FnId.code (.flow f)) { s.core.fn (.flow f) with last := st } ∧
      s.only [.fns] [Reg.FCS_STAT] t := by
  obtain ⟨-, hfns, hstat, honly⟩ := State.mgmt_flowCmd ha hk hst ht
  exact ⟨hstat, hfns, honly _ (by simp) (Core.onlyParts_refl _ _) (Core.onlyRegs_refl _ _)⟩

end

/-- Settles O48: the three commands without effect, each by the function's state it meets. -/
theorem flowCommandsWithoutEffect : Obligations.FlowCommandsWithoutEffect := by
  unfold Obligations.FlowCommandsWithoutEffect
  intro c f st s ha hc
  rcases hc with ⟨rfl, hon, rfl⟩ | ⟨rfl, hoff, rfl⟩ | ⟨rfl, hfault, rfl⟩
  · exact .of_exec (exec_flowEnable f s) (State.flowCmd_without_effect ha (Core.flowCmd_enable_on hon) (by decide) rfl)
  · exact .of_exec (exec_flowDisable f s) (State.flowCmd_without_effect ha (Core.flowCmd_disable_off hoff) (by decide) rfl)
  · exact .of_exec (exec_flowEnable f s) (State.flowCmd_without_effect ha (Core.flowCmd_enable_faulted hfault) (by decide) rfl)

end Sys2Proof.Machine
end

section
/-!
PROOFS. The start of a flow and its configuration words (04_flows R95 to R99, R114, 15_boot_config R434).
-/

namespace Sys2Proof.Machine

open Sys2Proof

/-! ### The start of a flow (R97) -/

section
variable (k : Core) (f : Nat)

/-- The context words a start sets: the sequence state from the configured values, the counters 0. -/
def Core.flowWords : Core :=
  [0x48, 0x50, 0x58, 0x60, 0x68, 0x70].foldl (fun k off => k.setFctx f off 0)
    ((k.setFctx f 0x10 (k.fctx f 8)).setFctx f 0x18 (k.fctx f 0x20))

theorem Core.flowStart_eq : ∃ a b c, Core.flowStart f k =
    ({ k.flowWords f with fcs := a, xfm := b, cip := c } : Core).setFst (.flow f) .on stOk := ⟨_, _, _, rfl⟩

theorem Core.onlyTbl_clear (offs : List Nat) : k.OnlyTbl (offs.foldl (fun (k : Core) o => k.setFctx f o 0) k) := by
  induction offs generalizing k with
  | nil => exact .refl k
  | cons o offs ih => exact (Core.onlyTbl_setFctx _ _ _).trans (ih _)

theorem Core.onlyTbl_flowWords : k.OnlyTbl (k.flowWords f) :=
  ((Core.onlyTbl_setFctx _ _ _).trans (Core.onlyTbl_setFctx _ _ _)).trans (Core.onlyTbl_clear _ _ _)

/-- Clearing words of the context leaves the words that lie apart from them. -/
theorem Core.fctx_clear_ne {off : Nat} (offs : List Nat) (h : ∀ o ∈ offs, off / 4 + 1 < o / 4 ∨ o / 4 + 1 < off / 4) :
    (offs.foldl (fun (k : Core) o => k.setFctx f o 0) k).fctx f off = k.fctx f off := by
  induction offs generalizing k with
  | nil => rfl
  | cons o offs ih =>
    obtain ⟨ho, hrest⟩ := List.forall_mem_cons.1 h
    exact (ih _ hrest).trans (k.fctx_setFctx_ne ho 0)

/-- A word cleared reads 0, however the others are cleared. -/
theorem Core.fctx_clear {off : Nat} (offs : List Nat) (hm : off ∈ offs)
    (h : ∀ o ∈ offs, o = off ∨ off / 4 + 1 < o / 4 ∨ o / 4 + 1 < off / 4) :
    (offs.foldl (fun (k : Core) o => k.setFctx f o 0) k).fctx f off = 0 := by
  induction offs generalizing k with
  | nil => exact absurd hm List.not_mem_nil
  | cons o offs ih =>
    obtain ⟨-, hrest⟩ := List.forall_mem_cons.1 h
    by_cases hin : off ∈ offs
    · exact ih _ hin hrest
    · obtain rfl : off = o := by simpa [hin] using hm
      refine (Core.fctx_clear_ne _ _ offs fun o ho => ?_).trans (k.fctx_setFctx_same _ _ 0)
      exact (hrest o ho).resolve_left fun e => hin (e ▸ ho)

theorem Core.fctx_flowWords_sent : (k.flowWords f).fctx f 0x10 = k.fctx f 8 := by
  unfold Core.flowWords
  rw [Core.fctx_clear_ne _ _ _ (by decide), Core.fctx_setFctx_ne _ (by omega), Core.fctx_setFctx_same,
    Nat.mod_eq_of_lt (k.fctx_lt f 8)]

theorem Core.fctx_flowWords_received : (k.flowWords f).fctx f 0x18 = k.fctx f 0x20 := by
  unfold Core.flowWords
  rw [Core.fctx_clear_ne _ _ _ (by decide), Core.fctx_setFctx_same, Nat.mod_eq_of_lt (k.fctx_lt f 0x20)]

theorem Core.fctx_flowWords_counters : ∀ off ∈ [0x48, 0x50, 0x58, 0x60, 0x68, 0x70], (k.flowWords f).fctx f off = 0 := by
  intro off hoff
  refine Core.fctx_clear _ f _ hoff ?_
  revert hoff
  revert off
  decide

theorem Core.fctx_of_tbl {k k' : Core} (h : k'.tbl = k.tbl) (f off : Nat) : k'.fctx f off = k.fctx f off :=
  Core.tbn_of_tb fun _ _ => Core.tb_of_tbl h _ _

theorem Core.flowStart_tbl : (Core.flowStart f k).tbl = (k.flowWords f).tbl := by
  obtain ⟨a, b, c, h⟩ := k.flowStart_eq f
  rw [h, Core.setFst_tbl]

theorem Core.fst_flowStart : (Core.flowStart f k).fst (.flow f) = .on := by
  obtain ⟨a, b, c, h⟩ := k.flowStart_eq f
  rw [h, Core.fst_setFst_same]

theorem Core.only_flowStart {l : List Part} {r : List Nat} (hn : Part.fns ∈ l) (ht : Part.tbl ∈ l) (hf : Part.fcs ∈ l)
    (hx : Part.xfm ∈ l) (hc : Part.cip ∈ l) : k.onlyParts l (Core.flowStart f k) ∧ k.onlyRegs r (Core.flowStart f k) := by
  obtain ⟨a, b, c, h⟩ := k.flowStart_eq f
  obtain ⟨m, hm⟩ := k.onlyTbl_flowWords f
  rw [h, hm]
  refine ⟨Core.onlyParts_trans (fun q hq => ?_) (Core.onlyParts_setFst_flow hn _ _ _),
    Core.onlyRegs_trans (Core.onlyRegs_of_regs rfl) (Core.onlyRegs_setFst _ _ _)⟩
  cases q
  case tbl => exact absurd ht hq
  case fcs => exact absurd hf hq
  case xfm => exact absurd hx hq
  case cip => exact absurd hc hq
  all_goals rfl

/-- The core an ENABLE that passes its checks starts from: the slot's acknowledgements settled, the flow STARTING. -/
def Core.flowStarting : Core := (k.ackSettle (k.fKeySlot f)).setFst (.flow f) .starting stOk

theorem Core.ackSettle_eq (i : Nat) : ∃ c, k.ackSettle i = { k with cip := c } := ⟨_, rfl⟩

theorem Core.flowStarting_tbl : (k.flowStarting f).tbl = k.tbl := by
  obtain ⟨c, h⟩ := k.ackSettle_eq (k.fKeySlot f)
  rw [Core.flowStarting, Core.setFst_tbl, h]

theorem Core.only_flowStarting {l : List Part} {r : List Nat} (hn : Part.fns ∈ l) (hc : Part.cip ∈ l) :
    k.onlyParts l (k.flowStarting f) ∧ k.onlyRegs r (k.flowStarting f) := by
  obtain ⟨c, h⟩ := k.ackSettle_eq (k.fKeySlot f)
  rw [Core.flowStarting, h]
  refine ⟨Core.onlyParts_trans (fun q hq => ?_) (Core.onlyParts_setFst_flow hn _ _ _),
    Core.onlyRegs_trans (Core.onlyRegs_of_regs rfl) (Core.onlyRegs_setFst _ _ _)⟩
  cases q
  case cip => exact absurd hc hq
  all_goals rfl

variable {k f}

/-- ENABLE of an OFF flow that passes its checks. -/
theorem Core.flowCmd_enable_off (h : k.fst (.flow f) = .off) (hck : Core.flowCheck f (k.flowStarting f) = stOk) :
    k.flowCmd 1 f = ((Core.flowStart f (k.flowStarting f)).fnLast (.flow f) stOk, stOk) := by
  have hoff : k.isOff (.flow f) = true := by simp [Core.isOff, h]
  have hsettled : (k.ackSettle (k.fKeySlot f)).fst (.flow f) = .off := h
  have hstart : (k.ackSettle (k.fKeySlot f)).fnEnable (.flow f) (Core.flowCheck f) (Core.flowStart f) =
      (Core.flowStart f (k.flowStarting f), stOk) := by
    unfold Core.fnEnable
    rw [hsettled]
    exact if_pos hck
  unfold Core.flowCmd
  simp only [hoff, if_true, hstart]

/-- DISABLE of a flow that is ON. -/
theorem Core.flowCmd_disable_on (h : k.fst (.flow f) = .on) : k.flowCmd 2 f =
    ((Core.flowChk f (k.setFst (.flow f) .draining stOk)).fnLast (.flow f) stOk, stOk) := by
  unfold Core.flowCmd Core.fnDisable
  simp only [h]

end

section
variable {s : State} {f : Nat} {t : State}

theorem State.flowEnable_starts (ha : s.answers = true) (h : s.core.fst (.flow f) = .off)
    (hck : Core.flowCheck f (s.core.flowStarting f) = stOk) (ht : t = s.mgmt Reg.FCS_STAT (fun k => k.flowCmd 1 f)) :
    t.core.fst (.flow f) = .on ∧ t.core.fctx f 0x10 = s.core.fctx f 8 ∧ t.core.fctx f 0x18 = s.core.fctx f 0x20 ∧
      (∀ off ∈ [0x48, 0x50, 0x58, 0x60, 0x68, 0x70], t.core.fctx f off = 0) ∧
      t.core.fd Reg.FCS_STAT 7 0 = stOk ∧ s.only [.fns, .tbl, .fcs, .xfm, .cip] [Reg.FCS_STAT] t := by
  obtain ⟨htbl, hfns, hstat, honly⟩ := State.mgmt_flowCmd ha (Core.flowCmd_enable_off h hck) (by decide) ht
  rw [Core.flowStart_tbl] at htbl
  have hbefore : ∀ off, (s.core.flowStarting f).fctx f off = s.core.fctx f off :=
    Core.fctx_of_tbl (s.core.flowStarting_tbl f) f
  obtain ⟨hp, hr⟩ := s.core.only_flowStarting f (l := [.fns, .tbl, .fcs, .xfm, .cip]) (r := [Reg.FCS_STAT]) (by simp) (by simp)
  obtain ⟨hp', hr'⟩ := (s.core.flowStarting f).only_flowStart f (l := [.fns, .tbl, .fcs, .xfm, .cip]) (r := [Reg.FCS_STAT])
    (by simp) (by simp) (by simp) (by simp) (by simp)
  refine ⟨?_, ?_, ?_, fun off hoff => ?_, hstat, honly _ (by simp) (Core.onlyParts_trans hp hp') (Core.onlyRegs_trans hr hr')⟩
  · rw [Core.fst_of_fns hfns, Core.fst_fnLast, Core.fst_flowStart]
  · rw [Core.fctx_of_tbl htbl, Core.fctx_flowWords_sent, hbefore]
  · rw [Core.fctx_of_tbl htbl, Core.fctx_flowWords_received, hbefore]
  · rw [Core.fctx_of_tbl htbl, Core.fctx_flowWords_counters _ _ _ hoff]

theorem State.flowDisable_drains (ha : s.answers = true) (h : s.core.fst (.flow f) = .on)
    (hp : (s.core.fn (.flow f)).pend = false) (ht : t = s.mgmt Reg.FCS_STAT (fun k => k.flowCmd 2 f)) :
    t.core.fst (.flow f) = (if s.core.flowRecs f = [] then .off else .draining) ∧ t.core.fd Reg.FCS_STAT 7 0 = stOk ∧
      s.only [.fns] [Reg.FCS_STAT] t := by
  obtain ⟨-, hfns, hstat, honly⟩ := State.mgmt_flowCmd ha (Core.flowCmd_disable_on h) (by decide) ht
  have hfst := s.core.fst_setFst_same (.flow f) .draining stOk
  have hpend : ((s.core.setFst (.flow f) .draining stOk).fn (.flow f)).pend = false := by rw [Core.fn_setFst_same, hp]
  obtain ⟨hparts, hregs⟩ := Core.only_flowChk (l := [.fns]) (r := [Reg.FCS_STAT]) (by simp) hfst hpend
  refine ⟨?_, hstat, honly _ (by simp) (Core.onlyParts_trans (Core.onlyParts_setFst_flow (by simp) _ _ _) hparts)
    (Core.onlyRegs_trans (Core.onlyRegs_setFst _ _ _) hregs)⟩
  rw [Core.fst_of_fns hfns, Core.fst_fnLast, Core.fst_flowChk hfst hpend,
    Core.flowRecs_of_tbl (k := s.core) (Core.setFst_tbl _ _ _ _)]

end

/-! ### FLOW_CTX_WRITE (R96) -/

section
variable {k : Core} {w v : Nat}

theorem fctxWrite_taken (hw : [0, 1, 4, 5, 6, 7, 8].contains (w % 64 / 2) = true) (h : k.isOff (.flow (w / 64)) = true) :
    fctxWrite k w v = (k.tbw Reg.FCS_CTX_TBL w v, stOk) := (if_pos hw).trans (if_pos h)

theorem fctxWrite_refused (hw : [0, 1, 4, 5, 6, 7, 8].contains (w % 64 / 2) = true) (h : k.isOff (.flow (w / 64)) = false) :
    fctxWrite k w v = (k, stBusy) := (if_pos hw).trans (if_neg (by simp [h]))

variable {s : State} (ha : s.answers = true) (v : Word) (hw : s.core.fd Reg.FCS_CTX_TBL 23 0 = w) (hlt : w < 1048576)
  (hcfg : [0, 1, 4, 5, 6, 7, 8].contains (w % 64 / 2) = true) {t : State}
  (ht : t = s.mgmtWin Reg.FCS_STAT Reg.FCS_CTX_TBL 1048576 fctxWrite v.toNat)

include ha hw hlt hcfg ht

theorem State.flowCtxWrite_taken (hoff : s.core.isOff (.flow (w / 64)) = true) :
    t.core.tb Reg.FCS_CTX_TBL w = v.toNat ∧ t.core.fd Reg.FCS_CTX_TBL 23 0 = w + 1 ∧
      t.core.fd Reg.FCS_CTX_TBL 31 24 = stOk ∧
      (∀ w', w' ≠ w → t.core.tb Reg.FCS_CTX_TBL w' = s.core.tb Reg.FCS_CTX_TBL w') ∧
      s.only [.tbl] [Reg.FCS_CTX_TBL, Reg.FCS_STAT] t := by
  obtain ⟨htbl, -, hword, hst, honly⟩ := State.mgmtWin_of_word (l := [.tbl]) ha hw hlt
    (fctxWrite_taken (v := v.toNat) hcfg hoff) rfl (Core.onlyParts_tbw (by simp) _ _ _) (by omega) (by decide)
    (by unfold evReg; decide) ht
  refine ⟨?_, hword, hst, fun w' hne => ?_, honly⟩
  · rw [Core.tb_of_tbl htbl, Core.tb_tbw_same, Nat.mod_eq_of_lt v.isLt]
  · rw [Core.tb_of_tbl htbl, Core.tb_tbw_ne _ (mt tkey_inj.1 hne)]

theorem State.flowCtxWrite_refused (hon : s.core.isOff (.flow (w / 64)) = false) :
    t.core.fd Reg.FCS_CTX_TBL 31 24 = stBusy ∧ t.core.fd Reg.FCS_CTX_TBL 23 0 = w ∧
      s.only [] [Reg.FCS_CTX_TBL, Reg.FCS_STAT] t := by
  obtain ⟨-, -, hword, hst, honly⟩ := State.mgmtWin_of_word (l := []) ha hw hlt
    (fctxWrite_refused (v := v.toNat) hcfg hon) rfl (Core.onlyParts_refl _ _) (by omega) (by decide)
    (by unfold evReg; decide) ht
  exact ⟨hst, hword, honly⟩

end

end Sys2Proof.Machine
end

section
/-!
PROOFS. Timers and control messages of completion records (04_flows R109 to R111): a resend round, the CMPL_NACK a receive
record sends, the message at the head of the control queue.
-/

namespace Sys2Proof.Machine

open Sys2Proof

/-! ### Counters and timers -/

section
variable (k : Core)

theorem Core.rd_cntN_same (a n : Nat) : (k.cntN a n).rd a = min (k.rd a + n) (2 ^ 32 - 1) := by
  have hlt : min (k.rd a + n) (2 ^ 32 - 1) < 2 ^ 32 := by omega
  exact (k.rd_wr_same a _).trans (Nat.mod_eq_of_lt hlt)

theorem Core.onlyRegs_cntN {r : List Nat} {a : Nat} (h : a ∈ r) (n : Nat) : k.onlyRegs r (k.cntN a n) :=
  Core.onlyRegs_wr h _

theorem Core.onlyParts_cntN {l : List Part} (a n : Nat) : k.onlyParts l (k.cntN a n) := Core.onlyParts_wr _ _

/-- A timer started runs out its time from now. -/
theorem Core.recT_recTimer (id us : Nat) : (k.recTimer id us).fcs.recT.get 0 id = k.now + 1000 * us + 1 :=
  SMap.get_set_same _ _ _ _

end

/-- A command that settles what records fail, where none failed. -/
theorem State.onCore_settle {s t : State} {f : Core → Core} {k : Core} (hk : f s.core = k) (hq : k.cle.failQ = [])
    (ht : t = s.onCore (fun k => (f k).settle)) :
    t.core.frt = k.frt ∧ t.core.tbl = k.tbl ∧ t.core.fcs = k.fcs ∧ t.core.mem = k.mem ∧
      (∀ a, ¬ evReg a → t.core.rd a = k.rd a) ∧
      ∀ (l : List Part) (r : List Nat), s.core.onlyParts l k → s.core.onlyRegs r k → s.only l r t := by
  subst ht
  have hs : (f s.core).settle = k := by rw [hk, Core.settle_of_no_failure hq]
  refine ⟨?_, ?_, ?_, ?_, fun a ha => ?_, fun l r hp hr => State.only_onCore s _ (hs ▸ hp) (hs ▸ hr)⟩
  · rw [State.onCore_frt, hs]
  · rw [State.onCore_tbl, hs]
  · rw [State.onCore_fcs, hs]
  · rw [State.onCore_mem, hs]
  · rw [State.rd_onCore _ _ ha, hs]

/-! ### A resend round (R111) -/

section
variable (k : Core) (id mask : Nat)

/-- How many packets a resend round over a mask sends. -/
def Core.resendCount : Nat := ((bitsOf (pktCount (k.rSize id)) mask).filter (k.wasSent id)).length

/-- The record counts one round more, the flow `n` packets in field [hi:lo] of its counters. -/
def Core.countRound (f hi lo n : Nat) : Core := (k.setCrf id 1 31 28 (k.rTries id + 1)).fInc f 0x68 hi lo n

theorem Core.onlyTbl_countRound (f hi lo n : Nat) : k.OnlyTbl (k.countRound id f hi lo n) :=
  (Core.onlyTbl_setCrf _ _ _ _ _).trans (Core.onlyTbl_fInc _ _ _ _ _)

theorem Core.rTries_of_sameRecs {k k' : Core} (h : k.SameRecs k') (id : Nat) : k'.rTries id = k.rTries id := by
  unfold Core.rTries
  rw [h.cr]

/-- TRIES counts the round. -/
theorem Core.rTries_countRound {f : Nat} (hf : f < 16384) (hi lo n : Nat) :
    (k.countRound id f hi lo n).rTries id = (k.rTries id + 1) % 16 :=
  (Core.rTries_of_sameRecs (Core.sameRecs_fInc hf (by omega) hi lo n) id).trans
    (k.fld_setCrf_same (by omega) (by omega) id 1 _)

/-- The packets leave, then the record, the flow and the register count the round. -/
theorem Core.resend_eq : ∃ k' us, k.Sent (k.resendCount id mask) k' ∧ k.resend id mask =
    ((k'.countRound id (k'.rFlow id) 15 0 (k.resendCount id mask)).cntN Reg.FCS_RESEND_CNT
      (k.resendCount id mask)).recTimer id us :=
  ⟨_, _, Core.sent_foldl_sendPkt id _ k, rfl⟩

theorem Core.recTimer_frt (us : Nat) : (k.recTimer id us).frt = k.frt := rfl

theorem Core.recTimer_cle (us : Nat) : (k.recTimer id us).cle = k.cle := rfl

theorem Core.recTimer_tbl (us : Nat) : (k.recTimer id us).tbl = k.tbl := rfl

theorem Core.recTimer_regs (us : Nat) : (k.recTimer id us).regs = k.regs := rfl

theorem Core.rTries_resend : (k.resend id mask).rTries id = (k.rTries id + 1) % 16 := by
  obtain ⟨k', us, hsent, h⟩ := k.resend_eq id mask
  rw [h, Core.rTries_of_sameRecs (.of_tbl (Core.recTimer_tbl _ _ _)), Core.rTries_of_sameRecs (.of_tbl (Core.cntN_tbl _ _ _)),
    Core.rTries_countRound _ _ (k'.rFlow_lt id), Core.rTries_of_sameRecs hsent.sameRecs]

/-- What waits in the router's queues: as before, but for the packets sent. -/
theorem Core.frt_resend : ∃ k', k.Sent (k.resendCount id mask) k' ∧ (k.resend id mask).frt = k'.frt := by
  obtain ⟨k', us, hsent, h⟩ := k.resend_eq id mask
  refine ⟨k', hsent, ?_⟩
  rw [h, Core.recTimer_frt, Core.cntN_frt, (k'.onlyTbl_countRound _ _ _ _ _).frt]

theorem Core.cle_resend : (k.resend id mask).cle = k.cle := by
  obtain ⟨k', us, hsent, h⟩ := k.resend_eq id mask
  rw [h, Core.recTimer_cle, Core.cntN_cle, (k'.onlyTbl_countRound _ _ _ _ _).cle, hsent.cle]

theorem Core.rd_resend : (k.resend id mask).rd Reg.FCS_RESEND_CNT =
    min (k.rd Reg.FCS_RESEND_CNT + k.resendCount id mask) (2 ^ 32 - 1) := by
  obtain ⟨k', us, hsent, h⟩ := k.resend_eq id mask
  rw [h, Core.rd_of_regs (Core.recTimer_regs _ _ _), Core.rd_cntN_same,
    Core.rd_of_regs (k'.onlyTbl_countRound _ _ _ _ _).regs, Core.rd_of_regs hsent.regs]

theorem Core.only_resend {l : List Part} {r : List Nat} (hf : Part.frt ∈ l) (ht : Part.tbl ∈ l) (hc : Part.fcs ∈ l)
    (hm : Part.free ∈ l) (hr : Reg.FCS_RESEND_CNT ∈ r) :
    k.onlyParts l (k.resend id mask) ∧ k.onlyRegs r (k.resend id mask) := by
  obtain ⟨k', us, hsent, h⟩ := k.resend_eq id mask
  have htbl := k'.onlyTbl_countRound id (k'.rFlow id) 15 0 (k.resendCount id mask)
  rw [h]
  exact ⟨Core.onlyParts_trans (hsent.onlyParts hf hm) (Core.onlyParts_trans (htbl.onlyParts ht)
      (Core.onlyParts_trans (Core.onlyParts_cntN _ _ _) (Core.onlyParts_recTimer hc _ _))),
    Core.onlyRegs_trans hsent.onlyRegs (Core.onlyRegs_trans htbl.onlyRegs
      (Core.onlyRegs_trans (Core.onlyRegs_cntN _ hr _) (Core.onlyRegs_of_regs (Core.recTimer_regs _ _ _))))⟩

theorem Core.resendOrEnd_resend (h : k.rTries id ≠ k.fd Reg.FCS_RETRY 7 4) : k.resendOrEnd id mask = k.resend id mask :=
  if_neg h

theorem Core.resendEv_due (ho : k.rOpen id = true) (hs : k.rSend id = true) (hup : k.recTimeUp id = true)
    (ht : k.rTries id ≠ k.fd Reg.FCS_RETRY 7 4) : k.resendEv id = k.resend id (k.missing id) := by
  unfold Core.resendEv
  rw [if_pos (by simp [ho, hs, hup]), Core.resendOrEnd_resend _ _ _ ht]

end

/-! ### The message at the head of the control queue (R109) -/

section
variable (k : Core) {p : Packet} {rest : List Packet}

/-- The core with the message at the head of the control queue taken. -/
def Core.ctlTaken (rest : List Packet) : Core := { k with frt := { k.frt with ctl := rest } }

theorem Core.ctlHead_cons (h : k.frt.ctl = p :: rest) : k.ctlHead = some (p, k.ctlKind p, k.ctlTaken rest) := by
  unfold Core.ctlHead
  rw [h]
  rfl

theorem Core.onlyParts_ctlTaken {l : List Part} (h : Part.frt ∈ l) (rest : List Packet) : k.onlyParts l (k.ctlTaken rest) :=
  Core.onlyParts_frt h _

theorem Core.cmplAckEv_ack (h : k.frt.ctl = p :: rest) {id : Nat} (hk : k.ctlKind p = .ack id) :
    k.cmplAckEv = (k.ctlTaken rest).ackIn id (byteAt p.payload 1) := by
  unfold Core.cmplAckEv
  rw [k.ctlHead_cons h, hk]

theorem Core.cmplNackEv_nack (h : k.frt.ctl = p :: rest) {id : Nat} (hk : k.ctlKind p = .nack id) :
    k.cmplNackEv = (k.ctlTaken rest).nackIn id p.payload := by
  unfold Core.cmplNackEv
  rw [k.ctlHead_cons h, hk]

theorem Core.ctlBadEv_bad (h : k.frt.ctl = p :: rest) (hk : k.ctlKind p = .bad) : k.ctlBadEv =
    (k.ctlTaken rest).refuse 6 Reg.FCS_CTLBAD_CNT (ctlFlow p.payload) (ctlCmpl p.payload) (ctlBase p.payload) := by
  unfold Core.ctlBadEv
  rw [k.ctlHead_cons h, hk]

/-! ### A refused message (R117) -/

section
variable (reason c flow cmpl seq : Nat)

theorem Core.refuse_frt : (k.refuse reason c flow cmpl seq).frt = k.frt := by
  unfold Core.refuse
  rw [Core.emitLim_frt, Core.cnt_frt]

theorem Core.rd_refuse (h : ¬ evReg c) :
    (k.refuse reason c flow cmpl seq).rd c = min (k.rd c + 1) (2 ^ 32 - 1) := by
  unfold Core.refuse
  rw [Core.rd_emitLim _ _ _ _ _ _ _ h, Core.rd_cnt_same]

theorem Core.only_refuse {l : List Part} {r : List Nat} (hc : c ∈ r) :
    k.onlyParts l (k.refuse reason c flow cmpl seq) ∧ k.onlyRegs r (k.refuse reason c flow cmpl seq) :=
  ⟨Core.onlyParts_trans (Core.onlyParts_cnt c) (Core.onlyParts_emitLim _ _ _ _ _ _),
    Core.onlyRegs_trans (Core.onlyRegs_cnt hc) (Core.onlyRegs_emitLim _ _ _ _ _ _)⟩

end

/-! ### A CMPL_NACK received (R111) -/

/-- The record takes over what the message says is missing, then its resend round follows. -/
theorem Core.nackIn_eq (id : Nat) (m : List Byte) : ∃ k',
    k.nackIn id m = k'.resendOrEnd id (ctlMissing m % 2 ^ pktCount (k.rSize id)) ∧ k.OnlyTbl k' ∧
      k'.rTries id = k.rTries id := by
  refine ⟨_, rfl, ((Core.onlyTbl_setMap _ _).trans (Core.onlyTbl_setCrf _ _ _ _ _)).trans (Core.onlyTbl_setCrf _ _ _ _ _), ?_⟩
  unfold Core.rTries
  rw [Core.cr_setCrf_ne _ (by omega), Core.cr_setCrf_ne _ (by omega), Core.cr_setMap _ (by omega)]

end

end Sys2Proof.Machine
end

section
/-!
PROOFS. The completion of a record (04_flows R98, R107, R110, R111): its buffer is returned (07_buffers_memory R208, R209), its
flow's drain may end; the record is closed with its status and stays so.
-/

namespace Sys2Proof.Machine

open Sys2Proof

/-! ### A buffer returned (07_buffers_memory R208, R209) -/

/-- The end of a function's drain keeps what changes of functions and its start keep. -/
theorem Core.fnDrained_keeps {P : Core → Prop} {i : FnId} {start : Core → Core}
    (hset : ∀ k n st, P k → P (k.setFst i n st)) (hfn : ∀ k x, P k → P (k.setFn i x)) (hstart : ∀ k, P k → P (start k))
    {k : Core} (h : P k) (st : Nat) (check : Core → Nat) : P (k.fnDrained i st check start) := by
  unfold Core.fnDrained
  split
  · have hoff : ∀ x, P ((k.setFst i .off st).setFn i x) := fun x => hfn _ x (hset _ _ _ h)
    dsimp only
    split
    · refine hfn _ _ ?_
      unfold Core.fnStart
      dsimp only
      split
      · exact hstart _ (hset _ _ _ (hoff _))
      · exact hset _ _ _ (hset _ _ _ (hoff _))
    · exact hoff _
  · exact h

/-- What the work of a pool leaves: tables, queues, records, the collective engine, every flow's function. -/
structure Core.PoolWork (k k' : Core) : Prop where
  tbl : k'.tbl = k.tbl
  frt : k'.frt = k.frt
  fcs : k'.fcs = k.fcs
  cle : k'.cle = k.cle
  flow : ∀ f, k'.fn (.flow f) = k.fn (.flow f)

section
variable {k k' k'' : Core}

theorem Core.PoolWork.refl (k : Core) : k.PoolWork k := ⟨rfl, rfl, rfl, rfl, fun _ => rfl⟩

theorem Core.PoolWork.trans (h : k.PoolWork k') (h' : k'.PoolWork k'') : k.PoolWork k'' :=
  ⟨h'.tbl.trans h.tbl, h'.frt.trans h.frt, h'.fcs.trans h.fcs, h'.cle.trans h.cle, fun f => (h'.flow f).trans (h.flow f)⟩

theorem FnId.code_flow_ne_pool {p : Nat} (hp : p < 64) (f : Nat) : (FnId.flow f).code ≠ (FnId.pool p).code := by
  simp only [FnId.code]; omega

theorem Core.fn_of_fns {k k' : Core} (h : k'.fns = k.fns) (i : FnId) : k'.fn i = k.fn i := by
  unfold Core.fn; rw [h]

section
variable (k) {p : Nat}

theorem Core.poolWork_setFn (hp : p < 64) (x : Fn) : k.PoolWork (k.setFn (.pool p) x) :=
  ⟨rfl, rfl, rfl, rfl, fun f => k.fn_setFn_ne (FnId.code_flow_ne_pool hp f) x⟩

theorem Core.setFst_pool_cle (n : FState) (st : Nat) : (k.setFst (.pool p) n st).cle = k.cle := by
  have h : k.setFst (.pool p) n st = (k.setFn (.pool p) { k.fn (.pool p) with fst := n, since := k.now }).emit (0x3000 + p)
    0x0600 [(93, 91, n.code), (90, 88, (k.fst (.pool p)).code), (7, 0, st)] := rfl
  rw [h, Core.emit_cle, Core.setFn_cle]

theorem Core.poolWork_setFst (hp : p < 64) (n : FState) (st : Nat) : k.PoolWork (k.setFst (.pool p) n st) :=
  ⟨Core.setFst_tbl _ _ _ _, Core.setFst_frt _ _ _ _, Core.setFst_fcs _ _ _ _, k.setFst_pool_cle n st,
    fun f => k.fn_setFst_ne (FnId.code_flow_ne_pool hp f) n st⟩

theorem Core.poolWork_bpm (b : Bpm) : k.PoolWork { k with bpm := b } := ⟨rfl, rfl, rfl, rfl, fun _ => rfl⟩

theorem Core.poolWork_poolStart (hp : p < 64) : k.PoolWork (Core.poolStart p k) :=
  (k.poolWork_bpm _).trans (Core.poolWork_setFst _ hp _ _)

theorem Core.poolWork_poolChk (hp : p < 64) : k.PoolWork (Core.poolChk p k) := by
  unfold Core.poolChk
  split
  · exact Core.fnDrained_keeps (P := k.PoolWork) (fun _ _ _ h => h.trans (Core.poolWork_setFst _ hp _ _))
      (fun _ _ h => h.trans (Core.poolWork_setFn _ hp _)) (fun _ h => h.trans (Core.poolWork_poolStart _ hp)) (.refl k) _ _
  · exact .refl k

theorem Core.poolOf_lt {a : Nat} (h : k.poolOf a = some p) : p < 64 := List.mem_range.1 (List.mem_of_find?_eq_some h)

theorem Core.poolWork_cnt (a : Nat) : k.PoolWork (k.cnt a) := ⟨rfl, rfl, rfl, rfl, fun _ => rfl⟩

theorem Core.poolWork_emitLim (src code key lo w : Nat) (e : List (Nat × Nat × Nat)) :
    k.PoolWork (k.emitLim src code key lo w e) :=
  ⟨Core.emitLim_tbl _ _ _ _ _ _ _, Core.emitLim_frt _ _ _ _ _ _ _, Core.emitLim_fcs _ _ _ _ _ _ _,
    Core.emitLim_cle _ _ _ _ _ _ _, fun _ => Core.fn_of_fns (Core.emitLim_fns _ _ _ _ _ _ _) _⟩

theorem Core.poolWork_returnBuf (ptr owner : Nat) : k.PoolWork (k.returnBuf ptr owner).1 := by
  unfold Core.returnBuf
  dsimp only
  split
  · refine (k.poolWork_bpm { k.bpm with alloc := k.bpm.alloc.set 0 (ptrAddr ptr) 0 }).trans ?_
    split
    next hp => exact Core.poolWork_poolChk _ (k.poolOf_lt hp)
    next => exact .refl _
  · exact (k.poolWork_cnt _).trans (Core.poolWork_emitLim _ _ _ _ _ _ _)

theorem Core.poolWork_giveBack (ptr : Option Nat) (owner : Nat) : k.PoolWork (k.giveBack ptr owner) := by
  cases ptr with
  | none => exact .refl k
  | some p => exact k.poolWork_returnBuf p owner

end

/-! ### What the end of a drain leaves (R98) -/

/-- What the end of a flow's drain leaves: the records, the router's queues, the collective engine. -/
structure Core.FlowWork (k k' : Core) : Prop where
  recs : k.SameRecs k'
  frt : k'.frt = k.frt
  cle : k'.cle = k.cle

theorem Core.FlowWork.refl (k : Core) : k.FlowWork k := ⟨.refl k, rfl, rfl⟩

theorem Core.FlowWork.trans (h : k.FlowWork k') (h' : k'.FlowWork k'') : k.FlowWork k'' :=
  ⟨h.recs.trans h'.recs, h'.frt.trans h.frt, h'.cle.trans h.cle⟩

theorem Core.PoolWork.flowWork (h : k.PoolWork k') : k.FlowWork k' := ⟨.of_tbl h.tbl, h.frt, h.cle⟩

section
variable (k) {f : Nat}

theorem Core.flowWork_setFctx (hf : f < 16384) {off : Nat} (ho : off < 256) (v : Nat) : k.FlowWork (k.setFctx f off v) :=
  ⟨Core.sameRecs_setFctx hf ho v, (Core.onlyTbl_setFctx f off v).frt, (Core.onlyTbl_setFctx f off v).cle⟩

theorem Core.flowWork_fInc (hf : f < 16384) {off : Nat} (ho : off < 256) (hi lo n : Nat) :
    k.FlowWork (k.fInc f off hi lo n) :=
  ⟨Core.sameRecs_fInc hf ho hi lo n, (Core.onlyTbl_fInc _ _ _ _ _).frt, (Core.onlyTbl_fInc _ _ _ _ _).cle⟩

theorem Core.flowWork_setFn (i : FnId) (x : Fn) : k.FlowWork (k.setFn i x) := ⟨.refl k, rfl, rfl⟩

theorem Core.flowWork_setFst (n : FState) (st : Nat) : k.FlowWork (k.setFst (.flow f) n st) :=
  ⟨.of_tbl (Core.setFst_tbl _ _ _ _), Core.setFst_frt _ _ _ _, k.setFst_flow_cle f n st⟩

theorem Core.flowWork_clear (hf : f < 16384) {offs : List Nat} (ho : ∀ o ∈ offs, o < 256) :
    k.FlowWork (offs.foldl (fun (k : Core) o => k.setFctx f o 0) k) := by
  induction offs generalizing k with
  | nil => exact .refl k
  | cons o offs ih =>
    obtain ⟨h, hrest⟩ := List.forall_mem_cons.1 ho
    exact (k.flowWork_setFctx hf h 0).trans (ih _ hrest)

theorem Core.flowWork_flowWords (hf : f < 16384) : k.FlowWork (k.flowWords f) :=
  ((k.flowWork_setFctx hf (by omega) _).trans (Core.flowWork_setFctx _ hf (by omega) _)).trans
    (Core.flowWork_clear _ hf (by decide))

theorem Core.flowWork_beside (a : Fcs) (b : Xfm) (c : Cip) : k.FlowWork { k with fcs := a, xfm := b, cip := c } :=
  ⟨.of_tbl rfl, rfl, rfl⟩

theorem Core.flowWork_flowStart (hf : f < 16384) : k.FlowWork (Core.flowStart f k) := by
  obtain ⟨a, b, c, h⟩ := k.flowStart_eq f
  rw [h]
  exact ((k.flowWork_flowWords hf).trans (Core.flowWork_beside _ a b c)).trans (Core.flowWork_setFst _ _ _)

theorem Core.flowWork_flowChk (hf : f < 16384) : k.FlowWork (Core.flowChk f k) := by
  unfold Core.flowChk
  split
  · exact Core.fnDrained_keeps (P := k.FlowWork) (fun _ _ _ h => h.trans (Core.flowWork_setFst _ _ _))
      (fun _ _ h => h.trans (Core.flowWork_setFn _ _ _)) (fun _ h => h.trans (Core.flowWork_flowStart _ hf)) (.refl k) _ _
  · exact .refl k

end

/-! ### A record closed (R107, R111) -/

section
variable (k) (id st : Nat)

/-- The report of a record that ends badly changes the log and a count alone. -/
theorem Core.recFail_frt : (k.recFail id st).frt = k.frt := by
  unfold Core.recFail
  dsimp only
  split <;> split <;> simp only [Core.emit_frt, Core.cnt_frt]

theorem Core.recFail_cle : (k.recFail id st).cle = k.cle := by
  unfold Core.recFail
  dsimp only
  split <;> split <;> simp only [Core.emit_cle, Core.cnt_cle]

theorem Core.recFail_fns : (k.recFail id st).fns = k.fns := by
  unfold Core.recFail
  dsimp only
  split <;> split <;> simp only [Core.emit_fns, Core.cnt_fns]

/-- The record's words with OPEN cleared and STATUS put. -/
def Core.closedWords : Core := (k.setCrf id 0 63 63 0).setCrf id 1 39 32 st

theorem Core.closeRec_eq : k.closeRec id st = ((k.recFail id st).closedWords id st).recTimerOff id := rfl

theorem Core.onlyTbl_closedWords : k.OnlyTbl (k.closedWords id st) :=
  (Core.onlyTbl_setCrf _ _ _ _ _).trans (Core.onlyTbl_setCrf _ _ _ _ _)

theorem bitAt_of_fld {w i b : Nat} (h : fld w i i = b) : bitAt w i = decide (b = 1) := by
  have hfld : fld w i i = w / 2 ^ i % 2 := by rw [fld_eq, Nat.add_sub_cancel_left, pow_one]
  rw [bitAt, Nat.testBit_eq_decide_div_mod_eq, ← h, hfld]

theorem Core.closeRec_recs : ((k.recFail id st).closedWords id st).SameRecs (k.closeRec id st) := .of_tbl rfl

theorem Core.rOpen_closeRec : (k.closeRec id st).rOpen id = false := by
  have h : fld (((k.recFail id st).setCrf id 0 63 63 0).cr id 0) 63 63 = 0 :=
    Core.fld_setCrf_same _ (by omega) (by omega) id 0 0
  unfold Core.rOpen
  rw [(k.closeRec_recs id st).cr, Core.closedWords, Core.cr_setCrf_ne _ (by omega), bitAt_of_fld h]
  rfl

theorem Core.status_closeRec : fld ((k.closeRec id st).cr id 1) 39 32 = st % 256 := by
  rw [(k.closeRec_recs id st).cr, Core.closedWords]
  exact Core.fld_setCrf_same _ (by omega) (by omega) id 1 st

theorem Core.recTimerOff_frt : (k.recTimerOff id).frt = k.frt := rfl

theorem Core.recTimerOff_cle : (k.recTimerOff id).cle = k.cle := rfl

theorem Core.recTimerOff_fns : (k.recTimerOff id).fns = k.fns := rfl

theorem Core.closeRec_frt : (k.closeRec id st).frt = k.frt := by
  rw [Core.closeRec_eq, Core.recTimerOff_frt, (Core.onlyTbl_closedWords _ id st).frt, Core.recFail_frt]

theorem Core.closeRec_cle : (k.closeRec id st).cle = k.cle := by
  rw [Core.closeRec_eq, Core.recTimerOff_cle, (Core.onlyTbl_closedWords _ id st).cle, Core.recFail_cle]

theorem Core.closeRec_fns : (k.closeRec id st).fns = k.fns := by
  rw [Core.closeRec_eq, Core.recTimerOff_fns, (Core.onlyTbl_closedWords _ id st).fns, Core.recFail_fns]

/-! ### A record completes (R107, R110, R111) -/

theorem Core.ackUpdate_eq (f fin : Nat) : ∃ x v, k.ackUpdate f fin = ({ k with fcs := x } : Core).setFctx f 0x10 v :=
  ⟨_, _, rfl⟩

theorem Core.flowWork_ackUpdate {f : Nat} (hf : f < 16384) (fin : Nat) : k.FlowWork (k.ackUpdate f fin) := by
  obtain ⟨x, v, h⟩ := k.ackUpdate_eq f fin
  rw [h]
  exact (k.flowWork_beside x k.xfm k.cip).trans (Core.flowWork_setFctx _ hf (by omega) v)

/-- After a send record is closed its completion changes no record. -/
theorem Core.flowWork_sendDone : (k.closeRec id st).FlowWork (k.sendDone id st) := by
  have hf := k.rFlow_lt id
  unfold Core.sendDone
  dsimp only
  refine Core.FlowWork.trans ?_ ((Core.flowWork_ackUpdate _ hf _).trans (Core.flowWork_flowChk _ hf))
  refine Core.FlowWork.trans ?_ (Core.poolWork_giveBack _ _ _).flowWork
  split <;> exact Core.flowWork_fInc _ hf (by omega) _ _ _

/-- What a timed-out receive record tells its consumer: its buffer is returned, or its chunk is to fail. -/
theorem Core.notify_timeout : ∃ k' q, k.PoolWork k' ∧ k.notify id stTimeout = { k' with cle := { k'.cle with failQ := q } } := by
  have hnone : ∃ k' q, k.PoolWork k' ∧ k = { k' with cle := { k'.cle with failQ := q } } := ⟨k, k.cle.failQ, .refl k, rfl⟩
  have hback : ∀ o, ∃ k' q, k.PoolWork k' ∧
      k.giveBack (some (k.rBuf id)) o = { k' with cle := { k'.cle with failQ := q } } :=
    fun o => ⟨k.giveBack (some (k.rBuf id)) o, (k.giveBack (some (k.rBuf id)) o).cle.failQ, k.poolWork_giveBack _ o, rfl⟩
  unfold Core.notify
  dsimp only
  split
  · split
    · exact hnone
    · split
      · exact hback _
      · rw [if_neg (by decide)]
        exact ⟨_, _, k.poolWork_giveBack _ _, rfl⟩
  · exact hnone
  · exact hnone
  · exact hnone

/-- A timed-out receive record: closed, counted and told, then its CMPL_ACK leaves and its flow's drain may end. -/
theorem Core.recvDone_timeout_eq : ∃ k',
    (((k.closeRec id stTimeout).fInc (k.rFlow id) 0x50 31 0 1).notify id stTimeout).Sent 1 k' ∧
      k.recvDone id stTimeout = Core.flowChk (k.rFlow id) k' := by
  unfold Core.recvDone
  dsimp only
  rw [if_neg (by decide)]
  exact ⟨_, Core.sent_sendCmpl _ _ _ _ _ _ _, rfl⟩

theorem Core.sameRecs_notify_timeout : k.SameRecs (k.notify id stTimeout) := by
  obtain ⟨k', q, hpool, hk⟩ := k.notify_timeout id
  rw [hk]
  exact .of_tbl hpool.tbl

theorem Core.sameRecs_recvDone_timeout : (k.closeRec id stTimeout).SameRecs (k.recvDone id stTimeout) := by
  obtain ⟨k', hsent, h⟩ := k.recvDone_timeout_eq id
  have hf := k.rFlow_lt id
  rw [h]
  exact ((Core.sameRecs_fInc hf (by omega) _ _ _).trans (Core.sameRecs_notify_timeout _ id)).trans
    (hsent.sameRecs.trans (Core.flowWork_flowChk _ hf).recs)

/-- A record that ends with ST_TIMEOUT is no longer open. -/
theorem Core.rOpen_recDone_timeout : (k.recDone id stTimeout).rOpen id = false := by
  have h : (k.closeRec id stTimeout).SameRecs (k.recDone id stTimeout) := by
    unfold Core.recDone
    split
    · exact (k.flowWork_sendDone id stTimeout).recs
    · exact k.sameRecs_recvDone_timeout id
  have hclosed := k.rOpen_closeRec id stTimeout
  unfold Core.rOpen at hclosed ⊢
  rw [h.cr, hclosed]

end
end

end Sys2Proof.Machine
end

section
/-!
PROOFS. The acknowledgement exchange (04_flows R109 to R111): a resend round, a record acknowledged, a record asked for again,
a bad message.
-/

namespace Sys2Proof.Machine

open Sys2Proof

section
variable (k : Core) (id st : Nat)

/-- A send record that completes is closed with its status, and nothing it does opens it again. -/
theorem Core.sendDone_closed : (k.sendDone id st).rOpen id = false ∧ fld ((k.sendDone id st).cr id 1) 39 32 = st % 256 ∧
    (k.sendDone id st).frt = k.frt ∧ (k.sendDone id st).cle = k.cle := by
  have h := k.flowWork_sendDone id st
  have hopen := k.rOpen_closeRec id st
  refine ⟨?_, ?_, ?_, ?_⟩
  · unfold Core.rOpen at hopen ⊢
    rw [h.recs.cr, hopen]
  · rw [h.recs.cr, Core.status_closeRec]
  · rw [h.frt, Core.closeRec_frt]
  · rw [h.cle, Core.closeRec_cle]

/-- A record acknowledged has all its packets, then completes. -/
theorem Core.ackIn_eq : ∃ k', k.OnlyTbl k' ∧ k.ackIn id st = k'.sendDone id st :=
  ⟨_, ((Core.onlyTbl_setMap _ _).trans (Core.onlyTbl_setCrf _ _ _ _ _)).trans (Core.onlyTbl_setCrf _ _ _ _ _), rfl⟩

theorem byteAt_lt (l : List Byte) (i : Nat) : byteAt l i < 256 := BitVec.isLt _

end

section
variable {s t : State} {p : Packet} {rest : List Packet} {id : Nat}

theorem State.resendTimeout_resends {r : Nat} (hq : s.core.cle.failQ = []) (ho : s.core.rOpen r = true)
    (hs : s.core.rSend r = true) (hup : s.core.recTimeUp r = true) (htries : s.core.rTries r ≠ s.core.fd Reg.FCS_RETRY 7 4)
    (ht : t = s.onCore (fun k => (k.resendEv r).settle)) :
    t.core.rTries r = (s.core.rTries r + 1) % 16 ∧
      t.core.frt.own.length = s.core.frt.own.length + s.core.resendCount r (s.core.missing r) ∧
      t.core.rd Reg.FCS_RESEND_CNT =
        min (s.core.rd Reg.FCS_RESEND_CNT + s.core.resendCount r (s.core.missing r)) (2 ^ 32 - 1) ∧
      s.only [.frt, .tbl, .fcs, .free] [Reg.FCS_RESEND_CNT] t := by
  obtain ⟨hfrt, htbl, -, -, hrd, honly⟩ := State.onCore_settle (f := fun k => k.resendEv r) (Core.resendEv_due _ _ ho hs hup htries)
    (by rw [Core.cle_resend, hq]) ht
  obtain ⟨k', hsent, hk'⟩ := s.core.frt_resend r (s.core.missing r)
  obtain ⟨hp, hr⟩ := s.core.only_resend r (s.core.missing r) (l := [.frt, .tbl, .fcs, .free]) (r := [Reg.FCS_RESEND_CNT])
    (by simp) (by simp) (by simp) (by simp) (by simp)
  refine ⟨?_, ?_, ?_, honly _ _ hp hr⟩
  · rw [Core.rTries_of_sameRecs (.of_tbl htbl), Core.rTries_resend]
  · rw [hfrt, hk', hsent.own]
  · rw [hrd _ (by unfold evReg; decide), Core.rd_resend]

theorem State.cmplAckRx_closes (h : s.core.frt.ctl = p :: rest) (hq : s.core.cle.failQ = []) (hk : s.core.ctlKind p = .ack id)
    (ht : t = s.onCore (fun k => k.cmplAckEv.settle)) :
    t.core.rOpen id = false ∧ t.core.frt.ctl = rest ∧ fld (t.core.cr id 1) 39 32 = byteAt p.payload 1 ∧ s.outsideStands t := by
  obtain ⟨k', hk', hack⟩ := (s.core.ctlTaken rest).ackIn_eq id (byteAt p.payload 1)
  obtain ⟨hopen, hst, hfrt', hcle'⟩ := k'.sendDone_closed id (byteAt p.payload 1)
  obtain ⟨hfrt, htbl, -⟩ := State.onCore_settle ((s.core.cmplAckEv_ack h hk).trans hack)
    (by rw [hcle', hk'.cle]; exact hq) ht
  have hrecs : (k'.sendDone id (byteAt p.payload 1)).SameRecs t.core := .of_tbl htbl
  refine ⟨?_, ?_, ?_, ht ▸ State.outsideStands_onCore _ _⟩
  · unfold Core.rOpen at hopen ⊢
    rw [hrecs.cr, hopen]
  · rw [hfrt, hfrt', hk'.frt]
    rfl
  · rw [hrecs.cr, hst, Nat.mod_eq_of_lt (byteAt_lt _ _)]

theorem State.cmplNackRx_resends (h : s.core.frt.ctl = p :: rest) (hq : s.core.cle.failQ = [])
    (hk : s.core.ctlKind p = .nack id) (htries : s.core.rTries id ≠ s.core.fd Reg.FCS_RETRY 7 4)
    (ht : t = s.onCore (fun k => k.cmplNackEv.settle)) :
    t.core.rTries id = (s.core.rTries id + 1) % 16 ∧ t.core.frt.ctl = rest ∧
      s.only [.frt, .tbl, .fcs, .free] [Reg.FCS_RESEND_CNT] t := by
  obtain ⟨k', hnack, htbl', htries'⟩ := (s.core.ctlTaken rest).nackIn_eq id p.payload
  have hretry : k'.fd Reg.FCS_RETRY 7 4 = s.core.fd Reg.FCS_RETRY 7 4 := by
    unfold Core.fd
    rw [Core.rd_of_regs htbl'.regs]
    rfl
  have hstood : (s.core.ctlTaken rest).rTries id = s.core.rTries id := rfl
  rw [Core.resendOrEnd_resend _ _ _ (by rw [htries', hretry, hstood]; exact htries)] at hnack
  obtain ⟨hfrt, htbl, -, -, -, honly⟩ := State.onCore_settle ((s.core.cmplNackEv_nack h hk).trans hnack)
    (by rw [Core.cle_resend, htbl'.cle]; exact hq) ht
  obtain ⟨k'', hsent, hk''⟩ := k'.frt_resend id (ctlMissing p.payload % 2 ^ pktCount ((s.core.ctlTaken rest).rSize id))
  obtain ⟨hp, hr⟩ := k'.only_resend id (ctlMissing p.payload % 2 ^ pktCount ((s.core.ctlTaken rest).rSize id))
    (l := [.frt, .tbl, .fcs, .free]) (r := [Reg.FCS_RESEND_CNT]) (by simp) (by simp) (by simp) (by simp) (by simp)
  refine ⟨?_, ?_, honly _ _ ?_ ?_⟩
  · rw [Core.rTries_of_sameRecs (.of_tbl htbl), Core.rTries_resend, htries', hstood]
  · rw [hfrt, hk'', hsent.ctl, htbl'.frt]
    rfl
  · exact Core.onlyParts_trans (Core.onlyParts_ctlTaken _ (by simp) rest)
      (Core.onlyParts_trans (htbl'.onlyParts (by simp)) hp)
  · exact Core.onlyRegs_trans (Core.onlyRegs_of_regs rfl) (Core.onlyRegs_trans htbl'.onlyRegs hr)

theorem State.ctrlMsgBad_counts (h : s.core.frt.ctl = p :: rest) (hk : s.core.ctlKind p = .bad)
    (ht : t = s.onCore (fun k => k.ctlBadEv)) :
    t.core.frt.ctl = rest ∧ t.core.rd Reg.FCS_CTLBAD_CNT = min (s.core.rd Reg.FCS_CTLBAD_CNT + 1) (2 ^ 32 - 1) ∧
      s.only [.frt] [Reg.FCS_CTLBAD_CNT] t := by
  subst ht
  have hk' := s.core.ctlBadEv_bad h hk
  have hev : ¬ evReg Reg.FCS_CTLBAD_CNT := by unfold evReg; decide
  obtain ⟨hp, hr⟩ := (s.core.ctlTaken rest).only_refuse 6 Reg.FCS_CTLBAD_CNT (ctlFlow p.payload) (ctlCmpl p.payload)
    (ctlBase p.payload) (l := [.frt]) (r := [Reg.FCS_CTLBAD_CNT]) (by simp)
  refine ⟨?_, ?_, State.only_onCore s _ ?_ ?_⟩
  · rw [State.onCore_frt, hk', Core.refuse_frt]
    rfl
  · rw [State.rd_onCore _ _ hev, hk', Core.rd_refuse _ _ _ _ _ _ hev]
    rfl
  · rw [hk']; exact Core.onlyParts_trans (Core.onlyParts_ctlTaken _ (by simp) rest) hp
  · rw [hk']; exact Core.onlyRegs_trans (Core.onlyRegs_of_regs rfl) hr

end

/-- Settles O13: the resend round, the acknowledgement, the request for packets, the bad message. -/
theorem acknowledgementExchange : Obligations.AcknowledgementExchange := by
  unfold Obligations.AcknowledgementExchange
  refine ⟨?timeout, ?ack, ?nack, ?bad⟩
  case timeout =>
    intro r s hq ho hs hup htries
    exact .of_exec (t := s.onCore fun k => (k.resendEv r).settle) rfl (State.resendTimeout_resends hq ho hs hup htries rfl)
  case ack =>
    intro p rest id s h hq hk
    exact .of_exec (t := s.onCore fun k => k.cmplAckEv.settle) rfl (State.cmplAckRx_closes h hq hk rfl)
  case nack =>
    intro p rest id s h hq hk htries
    exact .of_exec (t := s.onCore fun k => k.cmplNackEv.settle) rfl (State.cmplNackRx_resends h hq hk htries rfl)
  case bad =>
    intro p rest s h hk
    exact .of_exec (t := s.onCore fun k => k.ctlBadEv) rfl (State.ctrlMsgBad_counts h hk rfl)

end Sys2Proof.Machine
end

section
/-!
PROOFS. The life of a receive record (04_flows R103 to R106, R110, R113): it opens by its high word, takes packets, asks for the
missing ones, is closed.
-/

namespace Sys2Proof.Machine

open Sys2Proof

/-! ### A record opens (R103, R104) -/

section
variable (k : Core) (id : Nat)

/-- The words of a record that opens. -/
def Core.openWords (send : Bool) (flow base size peer buf : Nat) : Core :=
  ((((k.setCr id 0 (2 ^ 63 + (if send then 2 ^ 62 else 0) + flow * 2 ^ 48 + base % 2 ^ 48)).setCr id 1
    (size * 2 ^ 40 + peer)).setCr id 2 buf).setCr id 3 0).setMap id 0

section
variable (send : Bool) {flow : Nat} (base size peer buf : Nat)

theorem Core.onlyTbl_openWords : k.OnlyTbl (k.openWords id send flow base size peer buf) :=
  ((((Core.onlyTbl_setCr _ _ _).trans (Core.onlyTbl_setCr _ _ _)).trans (Core.onlyTbl_setCr _ _ _)).trans
    (Core.onlyTbl_setCr _ _ _)).trans (Core.onlyTbl_setMap _ _)

/-- The first word of an open record, from its fields. -/
def recWord0 (send : Bool) (flow base : Nat) : Nat := 2 ^ 63 + (if send then 2 ^ 62 else 0) + flow * 2 ^ 48 + base % 2 ^ 48

theorem recWord0_open (hf : flow < 16384) : bitAt (recWord0 send flow base) 63 = true := by
  refine (bitAt_of_fld (b := 1) ?_).trans rfl
  rw [fld_eq]
  unfold recWord0
  split <;> omega

theorem recWord0_send (hf : flow < 16384) : bitAt (recWord0 send flow base) 62 = send := by
  refine (bitAt_of_fld (b := send.toNat) ?_).trans ?_
  · rw [fld_eq]
    unfold recWord0
    cases send
    · rw [if_neg (by decide)]; simp only [Bool.toNat_false]; omega
    · rw [if_pos rfl]; simp only [Bool.toNat_true]; omega
  · cases send <;> rfl

theorem recWord0_flow (hf : flow < 16384) : fld (recWord0 send flow base) 61 48 = flow := by
  rw [fld_eq]
  unfold recWord0
  split <;> omega

theorem recWord0_base : fld (recWord0 send flow base) 47 0 = base % 2 ^ 48 := by
  rw [fld_eq]
  unfold recWord0
  split <;> omega

theorem recWord0_lt (hf : flow < 16384) : recWord0 send flow base < 2 ^ 64 := by
  unfold recWord0
  split <;> omega

theorem Core.cr_openWords_zero (hf : flow < 16384) :
    (k.openWords id send flow base size peer buf).cr id 0 = recWord0 send flow base := by
  unfold Core.openWords
  rw [Core.cr_setMap _ (by omega), Core.cr_setCr_ne _ (by omega), Core.cr_setCr_ne _ (by omega), Core.cr_setCr_ne _ (by omega),
    Core.cr_setCr_same]
  exact Nat.mod_eq_of_lt (recWord0_lt send base hf)

theorem Core.cr_openWords_three : (k.openWords id send flow base size peer buf).cr id 3 = 0 := by
  unfold Core.openWords
  rw [Core.cr_setMap _ (by omega), Core.cr_setCr_same, Nat.zero_mod]

theorem Core.rMap_openWords : (k.openWords id send flow base size peer buf).rMap id = 0 := by
  unfold Core.openWords
  rw [Core.rMap_setMap, Nat.zero_mod]

theorem Core.openRec_receive : k.openRec id false flow base size peer buf =
    (k.openWords id false flow base size peer buf).recTimer id (k.fd Reg.FCS_TIMER 15 0) := by
  have hregs := (k.onlyTbl_openWords id false (flow := flow) base size peer buf).regs
  have h : k.openRec id false flow base size peer buf = (k.openWords id false flow base size peer buf).recTimer id
    ((k.openWords id false flow base size peer buf).fd Reg.FCS_TIMER 15 0) := rfl
  rw [h]
  unfold Core.fd
  rw [Core.rd_of_regs hregs]

end

/-- The check of a buffer that passes changes nothing. -/
theorem Core.bufOpenCheck_ok {ptr owner size : Nat} (h : (k.bufOpenCheck ptr owner size).2 = stOk) :
    (k.bufOpenCheck ptr owner size).1 = k := by
  unfold Core.bufOpenCheck at h ⊢
  exact if_pos h

/-- Nor do the checks of an open that pass. -/
theorem Core.openCheck_ok (h : (k.openCheck id).2 = stOk) : (k.openCheck id).1 = k := by
  revert h
  unfold Core.openCheck
  dsimp only
  split
  · exact fun _ => rfl
  · split
    · exact fun _ => rfl
    · split
      · exact fun _ => rfl
      · split
        · exact fun _ => rfl
        · exact k.bufOpenCheck_ok
    · exact fun _ => rfl

variable {k} {w v : Nat}

/-- The high word of a free record, written with OPEN, whose checks pass (R104). -/
theorem crWrite_open (hlt : w < 0x80000) (hw : w % 16 = 1) (hv : bitAt v 31 = true) (hfree : k.rOpen (w / 16) = false)
    {k' : Core} (hk' : k' = k.tbw Reg.FCS_CR_TBL w (v &&& 0x7FFFFFFF)) (hck : (k'.openCheck (w / 16)).2 = stOk) :
    crWrite k w v = (k'.openRec (w / 16) false (k'.rFlow (w / 16)) (k'.rBase (w / 16)) (k'.rSize (w / 16))
      (k'.rPeer (w / 16)) (k'.rBuf (w / 16)), stOk) := by
  subst hk'
  unfold crWrite
  dsimp only
  rw [if_neg (by omega), if_neg (by omega), if_neg (by simp [hfree]), if_pos ⟨hw, hv⟩, hw, List.getD_cons_succ, List.getD_cons_zero]
  refine (if_pos hck).trans ?_
  rw [Core.openCheck_ok _ _ hck]

@[simp] theorem Core.winShown_fcs (k : Core) (win st : Nat) : (k.winShown win st).fcs = k.fcs := by
  unfold Core.winShown; split <;> simp

end

section
variable {s t : State} {w : Nat}

theorem State.recordOpen_opens (ha : s.answers = true) (v : Word) (hw : s.core.fd Reg.FCS_CR_TBL 23 0 = w) (hlt : w < 0x80000)
    (hone : w % 16 = 1) (hv : bitAt v.toNat 31 = true) (hfree : s.core.rOpen (w / 16) = false)
    (hck : ((s.core.tbw Reg.FCS_CR_TBL w (v.toNat &&& 0x7FFFFFFF)).openCheck (w / 16)).2 = stOk)
    (ht : t = s.mgmtWin Reg.FCS_STAT Reg.FCS_CR_TBL 1048576 crWrite v.toNat) :
    t.core.rOpen (w / 16) = true ∧ t.core.rSend (w / 16) = false ∧ t.core.rBytes (w / 16) = 0 ∧ t.core.rMap (w / 16) = 0 ∧
      t.core.fcs.recT.get 0 (w / 16) = s.core.now + 1000 * s.core.fd Reg.FCS_TIMER 15 0 + 1 ∧
      s.only [.tbl, .fcs] [Reg.FCS_CR_TBL, Reg.FCS_STAT] t := by
  set k := s.core.tbw Reg.FCS_CR_TBL w (v.toNat &&& 0x7FFFFFFF) with hk
  set id := w / 16 with hid
  have hopen := crWrite_open hlt hone hv hfree hk hck
  rw [← hid, Core.openRec_receive] at hopen
  set k' := k.openWords id false (k.rFlow id) (k.rBase id) (k.rSize id) (k.rPeer id) (k.rBuf id) with hk'
  have hflow := k.rFlow_lt id
  have htbl' : s.core.OnlyTbl k' := Core.OnlyTbl.trans ⟨_, hk⟩ (k.onlyTbl_openWords id false _ _ _ _)
  obtain ⟨htbl, -, -, -, honly⟩ := State.mgmtWin_of_word (l := [.tbl, .fcs]) ha hw (by omega) hopen
    (by rw [Core.recTimer_regs, htbl'.regs]) (Core.onlyParts_trans (htbl'.onlyParts (by simp)) (Core.onlyParts_recTimer (by simp) _ _))
    (by omega) (by decide) (by unfold evReg; decide) ht
  have hfcs : t.core.fcs = (k'.recTimer id (k.fd Reg.FCS_TIMER 15 0)).fcs := by
    rw [ht, State.mgmtWin, State.mgmt_fcs s ha, s.core.winWrite_of_word hw (by omega) hopen, Core.winShown_fcs]
  have hrecs : k'.SameRecs t.core := .of_tbl (htbl.trans (Core.recTimer_tbl _ _ _))
  have hfirst : t.core.cr id 0 = recWord0 false (k.rFlow id) (k.rBase id) := by
    rw [hrecs.cr, Core.cr_openWords_zero _ _ _ _ _ _ _ hflow]
  refine ⟨?_, ?_, ?_, ?_, ?_, honly⟩
  · rw [Core.rOpen, hfirst, recWord0_open _ _ hflow]
  · rw [Core.rSend, hfirst, recWord0_send _ _ hflow]
  · rw [Core.rBytes, hrecs.cr, Core.cr_openWords_three]
    rfl
  · rw [hrecs.rMap, Core.rMap_openWords]
  · rw [hfcs, Core.recT_recTimer, htbl'.now]
    rfl

/-! ### CMPL_NACK sent (R110) -/

/-- A receive record whose timer runs out with tries left: the message leaves, the round is counted, the timer restarts. -/
theorem Core.nackEv_due {k : Core} {id : Nat} (ho : k.rOpen id = true) (hs : k.rSend id = false) (hup : k.recTimeUp id = true)
    (ht : k.rTries id < k.fd Reg.FCS_RETRY 3 0) : ∃ k', k.Sent 1 k' ∧ k.nackEv id =
      ((k'.countRound id (k.rFlow id) 31 16 1).cnt Reg.FCS_NACK_CNT).recTimer id
        (((k'.countRound id (k.rFlow id) 31 16 1).cnt Reg.FCS_NACK_CNT).fd Reg.FCS_TIMER 15 0) := by
  refine ⟨_, Core.sent_sendCmpl 2 0 (k.rFlow id) id (k.rBase id) (k.missing id) (k.fLocalEid (k.rFlow id)), ?_⟩
  unfold Core.nackEv
  rw [if_pos (by simp [ho, hs, hup])]
  exact if_pos ht

theorem State.nackTimeout_nacks {r : Nat} (hq : s.core.cle.failQ = []) (ho : s.core.rOpen r = true)
    (hs : s.core.rSend r = false) (hup : s.core.recTimeUp r = true) (htries : s.core.rTries r < s.core.fd Reg.FCS_RETRY 3 0)
    (ht : t = s.onCore (fun k => (k.nackEv r).settle)) :
    t.core.rTries r = s.core.rTries r + 1 ∧
      t.core.rd Reg.FCS_NACK_CNT = min (s.core.rd Reg.FCS_NACK_CNT + 1) (2 ^ 32 - 1) ∧
      t.core.frt.own.length = s.core.frt.own.length + 1 ∧
      t.core.fcs.recT.get 0 r = s.core.now + 1000 * s.core.fd Reg.FCS_TIMER 15 0 + 1 ∧
      s.only [.frt, .tbl, .fcs, .free] [Reg.FCS_NACK_CNT] t := by
  obtain ⟨k', hsent, hk⟩ := Core.nackEv_due ho hs hup htries
  have hflow := s.core.rFlow_lt r
  have htbl' := k'.onlyTbl_countRound r (s.core.rFlow r) 31 16 1
  set c := k'.countRound r (s.core.rFlow r) 31 16 1 with hc
  have htimer : (c.cnt Reg.FCS_NACK_CNT).fd Reg.FCS_TIMER 15 0 = s.core.fd Reg.FCS_TIMER 15 0 := by
    unfold Core.fd
    rw [Core.rd_cnt_ne _ (by decide), Core.rd_of_regs htbl'.regs, Core.rd_of_regs hsent.regs]
  rw [htimer] at hk
  obtain ⟨hfrt, htbl, hfcs, -, hrd, honly⟩ := State.onCore_settle (f := fun k => k.nackEv r) hk
    (by rw [Core.recTimer_cle, Core.cnt_cle, htbl'.cle, hsent.cle, hq]) ht
  have hretry : s.core.fd Reg.FCS_RETRY 3 0 < 16 := fld_lt _ 3 0
  have hnow : (c.cnt Reg.FCS_NACK_CNT).now = s.core.now := by
    rw [Core.now, Core.cnt_tim]
    exact htbl'.now.trans hsent.now
  refine ⟨?_, ?_, ?_, ?_, honly _ _ ?_ ?_⟩
  · rw [Core.rTries_of_sameRecs (.of_tbl htbl), Core.rTries_of_sameRecs (.of_tbl (Core.recTimer_tbl _ _ _)),
      Core.rTries_of_sameRecs (.of_tbl (Core.cnt_tbl _ _)), hc, Core.rTries_countRound _ _ hflow,
      Core.rTries_of_sameRecs hsent.sameRecs]
    omega
  · rw [hrd _ (by unfold evReg; decide), Core.rd_of_regs (Core.recTimer_regs _ _ _), Core.rd_cnt_same,
      Core.rd_of_regs htbl'.regs, Core.rd_of_regs hsent.regs]
  · rw [hfrt, Core.recTimer_frt, Core.cnt_frt, htbl'.frt, hsent.own]
  · rw [hfcs, Core.recT_recTimer, hnow]
  · exact Core.onlyParts_trans (hsent.onlyParts (by simp) (by simp)) (Core.onlyParts_trans (htbl'.onlyParts (by simp))
      (Core.onlyParts_trans (Core.onlyParts_cnt _) (Core.onlyParts_recTimer (by simp) _ _)))
  · exact Core.onlyRegs_trans hsent.onlyRegs (Core.onlyRegs_trans htbl'.onlyRegs
      (Core.onlyRegs_trans (Core.onlyRegs_cnt (by simp)) (Core.onlyRegs_of_regs (Core.recTimer_regs _ _ _))))

/-! ### RECORD_CLOSE (R113) -/

theorem Core.closeCmd_open {k : Core} {id : Nat} (hid : id < 0x8000) (ho : k.rOpen id = true) :
    k.closeCmd 1 id = (k.recDone id stTimeout, stOk) := by
  unfold Core.closeCmd
  rw [if_neg (by omega), if_neg (by omega), if_pos ho]

theorem State.recordClose_closes {r : Nat} (ha : s.answers = true) (hr : r < 0x8000) (ho : s.core.rOpen r = true)
    (ht : t = s.mgmt Reg.FCS_STAT (fun k => k.closeCmd 1 r)) :
    t.core.rOpen r = false ∧ t.core.fd Reg.FCS_STAT 7 0 = stOk ∧ s.outsideStands t := by
  subst ht
  have hk := Core.closeCmd_open hr ho
  have hclosed := s.core.rOpen_recDone_timeout r
  have hrecs : (s.core.recDone r stTimeout).SameRecs (s.mgmt Reg.FCS_STAT (fun k => k.closeCmd 1 r)).core := by
    refine .of_tbl ?_
    rw [State.mgmt_tbl s ha, hk]
  refine ⟨?_, ?_, State.outsideStands_mgmt _ _ _⟩
  · unfold Core.rOpen at hclosed ⊢
    rw [hrecs.cr, hclosed]
  · rw [State.mgmt_status s ha _ _ (by unfold evReg; decide), hk]
    rfl

end

end Sys2Proof.Machine
end

section
/-!
PROOFS. A packet accepted by its record (04_flows R105, R106) and a message taken from custody to its endpoint (R112).
-/

namespace Sys2Proof.Machine

open Sys2Proof

/-! ### The payload and the record's counts (R105, R106) -/

section
variable (k : Core) (id : Nat)

/-- The payload written at its offset, its words poisoned or not. -/
def Core.putPayload (p : Packet) (id off : Nat) : Core :=
  (k.mwr (ptrAddr (k.rBuf id) + off) p.payload).setPsn (ptrAddr (k.rBuf id) + off) (payLen p.hdr) (hPoison p.hdr == 1)

/-- The MAP bit of a packet set, its bytes and the packet counted. -/
def Core.countPacket (n i : Nat) : Core :=
  let c := (k.setMap id (k.rMap id ||| 2 ^ i)).setCrf id 3 60 40 (k.rBytes id + n)
  c.setCrf id 3 8 0 (c.rPkts id + 1)

/-- What a poisoned packet marks. -/
def Core.markPoison (f : Nat) (psn : Bool) : Core :=
  if psn then ((k.setCrf id 3 39 39 1).fInc f 0x68 47 32 1).cnt Reg.FCS_POISON_CNT else k

/-- The flow's receive state: the highest end, the time, the bytes. -/
def Core.flowReceived (f n fin : Nat) : Core :=
  let c := if seqBefore (k.ff f 0x18 47 0) fin then k.setFctx f 0x18 fin else k
  (c.setFctx f 0x70 c.gns).fInc f 0x60 63 0 n

/-- All a packet that does not complete its record does. -/
def Core.packetTaken (p : Packet) (f id off : Nat) : Core :=
  let c := ((((k.putPayload p id off).countPacket id (payLen p.hdr) (off / 4096)).markPoison id f (hPoison p.hdr == 1)).flowReceived
    f (payLen p.hdr) (seqAdd (hSeq p.hdr) (payLen p.hdr)))
  c.recTimer id (c.fd Reg.FCS_TIMER 15 0)

theorem Core.takePacket_eq (p : Packet) (f id off : Nat) : k.takePacket p f id off =
    if (k.packetTaken p f id off).rPkts id = pktCount ((k.packetTaken p f id off).rSize id) ∧
        (k.packetTaken p f id off).rBytes id = (k.packetTaken p f id off).rSize id then
      (k.packetTaken p f id off).recvDone id (if (k.packetTaken p f id off).rPoison id then stPoison else stOk)
    else k.packetTaken p f id off := rfl

section
variable (p : Packet) (off : Nat)

theorem Core.putPayload_mem : (k.putPayload p id off).mem = memPut k.mem (ptrAddr (k.rBuf id) + off) p.payload := by
  unfold Core.putPayload
  rw [Core.setPsn_mem, Core.mem_mwr]

theorem Core.onlyParts_putPayload {l : List Part} (hm : Part.mem ∈ l) (hp : Part.psn ∈ l) :
    k.onlyParts l (k.putPayload p id off) := by
  intro q hq
  cases q
  case mem => exact absurd hm hq
  case psn => exact absurd hp hq
  all_goals rfl

theorem Core.putPayload_regs : (k.putPayload p id off).regs = k.regs := rfl

theorem Core.sameRecs_putPayload : k.SameRecs (k.putPayload p id off) := .of_tbl rfl

end

section
variable (n i : Nat)

theorem Core.onlyTbl_countPacket : k.OnlyTbl (k.countPacket id n i) :=
  ((Core.onlyTbl_setMap _ _).trans (Core.onlyTbl_setCrf _ _ _ _ _)).trans (Core.onlyTbl_setCrf _ _ _ _ _)

theorem Core.rMap_countPacket (hi : i < 256) : (k.countPacket id n i).rMap id = k.rMap id ||| 2 ^ i := by
  have hlt : k.rMap id ||| 2 ^ i < 2 ^ 256 := Nat.or_lt_two_pow (k.rMap_lt id) (Nat.pow_lt_pow_right (by omega) hi)
  unfold Core.countPacket Core.setCrf
  dsimp only
  rw [Core.rMap_setCr _ (by omega), Core.rMap_setCr _ (by omega), Core.rMap_setMap, Nat.mod_eq_of_lt hlt]

theorem Core.rPkts_countPacket : (k.countPacket id n i).rPkts id = (k.rPkts id + 1) % 2 ^ 9 := by
  unfold Core.countPacket Core.rPkts
  dsimp only
  rw [Core.fld_setCrf_same _ (by omega) (by omega), Core.fld_setCrf_of_disjoint _ (by omega) (by omega) (by omega),
    Core.cr_setMap _ (by omega)]

theorem Core.rBytes_countPacket : (k.countPacket id n i).rBytes id = (k.rBytes id + n) % 2 ^ 21 := by
  unfold Core.countPacket Core.rBytes
  dsimp only
  rw [Core.fld_setCrf_of_disjoint _ (by omega) (by omega) (by omega), Core.fld_setCrf_same _ (by omega) (by omega)]

theorem Core.cr_countPacket_one : (k.countPacket id n i).cr id 1 = k.cr id 1 := by
  unfold Core.countPacket
  dsimp only
  rw [Core.cr_setCrf_ne _ (by omega), Core.cr_setCrf_ne _ (by omega), Core.cr_setMap _ (by omega)]

end

/-- What a mark of poison leaves of a record: its map, its counts, its size. -/
structure Core.SameProgress (k k' : Core) : Prop where
  map : k'.rMap id = k.rMap id
  pkts : k'.rPkts id = k.rPkts id
  bytes : k'.rBytes id = k.rBytes id
  size : k'.cr id 1 = k.cr id 1

section
variable {k k' k'' : Core} {id : Nat}

theorem Core.SameRecs.progress (h : k.SameRecs k') : Core.SameProgress id k k' :=
  ⟨h.rMap id, by unfold Core.rPkts; rw [h.cr], by unfold Core.rBytes; rw [h.cr], h.cr id 1⟩

theorem Core.SameProgress.trans (h : Core.SameProgress id k k') (h' : Core.SameProgress id k' k'') : Core.SameProgress id k k'' :=
  ⟨h'.map.trans h.map, h'.pkts.trans h.pkts, h'.bytes.trans h.bytes, h'.size.trans h.size⟩

end

section
variable {f : Nat} (hf : f < 16384) (psn : Bool)

theorem Core.sameProgress_poisonBit : Core.SameProgress id k (k.setCrf id 3 39 39 1) :=
  ⟨k.rMap_setCr (by omega) id _, k.fld_setCrf_of_disjoint (by omega) (by omega) (by omega) id 3 1,
    k.fld_setCrf_of_disjoint (by omega) (by omega) (by omega) id 3 1, k.cr_setCrf_ne (by omega) 39 39 1⟩

include hf in
theorem Core.sameProgress_markPoison : Core.SameProgress id k (k.markPoison id f psn) := by
  unfold Core.markPoison
  split
  · exact ((k.sameProgress_poisonBit id).trans (Core.sameRecs_fInc hf (by omega) 47 32 1).progress).trans
      (Core.SameRecs.of_tbl (Core.cnt_tbl _ _)).progress
  · exact (Core.SameRecs.refl k).progress

theorem Core.onlyTbl_poisonMarks (f : Nat) : k.OnlyTbl ((k.setCrf id 3 39 39 1).fInc f 0x68 47 32 1) :=
  (Core.onlyTbl_setCrf _ _ _ _ _).trans (Core.onlyTbl_fInc _ _ _ _ _)

/-- A packet marked poisoned counts in the register of poisoned packets; nothing but tables changes beside. -/
theorem Core.only_markPoison {l : List Part} {r : List Nat} (hl : Part.tbl ∈ l) (hr : Reg.FCS_POISON_CNT ∈ r) (f : Nat) :
    k.onlyParts l (k.markPoison id f psn) ∧ k.onlyRegs r (k.markPoison id f psn) := by
  have h := k.onlyTbl_poisonMarks id f
  unfold Core.markPoison
  split
  · exact ⟨Core.onlyParts_trans (h.onlyParts hl) (Core.onlyParts_cnt _), Core.onlyRegs_trans h.onlyRegs (Core.onlyRegs_cnt hr)⟩
  · exact ⟨Core.onlyParts_refl _ _, Core.onlyRegs_refl _ _⟩

include hf in
theorem Core.sameRecs_flowReceived (n fin : Nat) : k.SameRecs (k.flowReceived f n fin) := by
  unfold Core.flowReceived
  dsimp only
  refine Core.SameRecs.trans ?_ ((Core.sameRecs_setFctx hf (by omega) _).trans (Core.sameRecs_fInc hf (by omega) _ _ _))
  split
  · exact Core.sameRecs_setFctx hf (by omega) _
  · exact .refl k

theorem Core.onlyTbl_flowReceived (f n fin : Nat) : k.OnlyTbl (k.flowReceived f n fin) := by
  unfold Core.flowReceived
  dsimp only
  refine Core.OnlyTbl.trans ?_ ((Core.onlyTbl_setFctx _ _ _).trans (Core.onlyTbl_fInc _ _ _ _ _))
  split
  · exact Core.onlyTbl_setFctx _ _ _
  · exact .refl k

end

/-! ### A packet that does not complete its record -/

theorem Core.recTimer_mem (us : Nat) : (k.recTimer id us).mem = k.mem := rfl

section
variable {f : Nat} (hf : f < 16384) (p : Packet) (off : Nat)

include hf

/-- The record after the packet: what the count of the packet made of it. -/
theorem Core.sameProgress_packetTaken : Core.SameProgress id
    ((k.putPayload p id off).countPacket id (payLen p.hdr) (off / 4096)) (k.packetTaken p f id off) :=
  ((Core.sameProgress_markPoison _ id hf _).trans (Core.sameRecs_flowReceived _ hf _ _).progress).trans
    (Core.SameRecs.of_tbl (Core.recTimer_tbl _ _ _)).progress

theorem Core.rMap_packetTaken (ho : off / 4096 < 256) : (k.packetTaken p f id off).rMap id = k.rMap id ||| 2 ^ (off / 4096) := by
  rw [(k.sameProgress_packetTaken id hf p off).map, Core.rMap_countPacket _ _ _ _ ho, (k.sameRecs_putPayload id p off).rMap]

theorem Core.rPkts_packetTaken (hn : k.rPkts id + 1 < 2 ^ 9) : (k.packetTaken p f id off).rPkts id = k.rPkts id + 1 := by
  rw [(k.sameProgress_packetTaken id hf p off).pkts, Core.rPkts_countPacket, (k.sameRecs_putPayload id p off).progress.pkts,
    Nat.mod_eq_of_lt hn]

theorem Core.rBytes_packetTaken (hn : k.rBytes id + payLen p.hdr < 2 ^ 21) :
    (k.packetTaken p f id off).rBytes id = k.rBytes id + payLen p.hdr := by
  rw [(k.sameProgress_packetTaken id hf p off).bytes, Core.rBytes_countPacket, (k.sameRecs_putPayload id p off).progress.bytes,
    Nat.mod_eq_of_lt hn]

theorem Core.rSize_packetTaken : (k.packetTaken p f id off).rSize id = k.rSize id := by
  unfold Core.rSize
  rw [(k.sameProgress_packetTaken id hf p off).size, Core.cr_countPacket_one, (k.sameRecs_putPayload id p off).cr]

omit hf in
theorem Core.only_packetTaken {l : List Part} {r : List Nat} (hm : Part.mem ∈ l) (hp : Part.psn ∈ l) (ht : Part.tbl ∈ l)
    (hc : Part.fcs ∈ l) (hr : Reg.FCS_POISON_CNT ∈ r) (f : Nat) :
    k.onlyParts l (k.packetTaken p f id off) ∧ k.onlyRegs r (k.packetTaken p f id off) := by
  obtain ⟨hpart, hreg⟩ := ((k.putPayload p id off).countPacket id (payLen p.hdr) (off / 4096)).only_markPoison id
    (hPoison p.hdr == 1) ht hr f
  have hcount := (k.putPayload p id off).onlyTbl_countPacket id (payLen p.hdr) (off / 4096)
  have hflow := (((k.putPayload p id off).countPacket id (payLen p.hdr) (off / 4096)).markPoison id f
    (hPoison p.hdr == 1)).onlyTbl_flowReceived f (payLen p.hdr) (seqAdd (hSeq p.hdr) (payLen p.hdr))
  exact ⟨Core.onlyParts_trans (k.onlyParts_putPayload id p off hm hp) (Core.onlyParts_trans (hcount.onlyParts ht)
      (Core.onlyParts_trans hpart (Core.onlyParts_trans (hflow.onlyParts ht) (Core.onlyParts_recTimer hc _ _)))),
    Core.onlyRegs_trans (Core.onlyRegs_of_regs (k.putPayload_regs id p off)) (Core.onlyRegs_trans hcount.onlyRegs
      (Core.onlyRegs_trans hreg (Core.onlyRegs_trans hflow.onlyRegs
        (Core.onlyRegs_of_regs (Core.recTimer_regs _ _ _)))))⟩

omit hf in
theorem Core.packetTaken_mem (f : Nat) :
    (k.packetTaken p f id off).mem = memPut k.mem (ptrAddr (k.rBuf id) + off) p.payload := by
  have hcount := (k.putPayload p id off).onlyTbl_countPacket id (payLen p.hdr) (off / 4096)
  obtain ⟨hmark, -⟩ := ((k.putPayload p id off).countPacket id (payLen p.hdr) (off / 4096)).only_markPoison id
    (hPoison p.hdr == 1) (l := [.tbl]) (r := [Reg.FCS_POISON_CNT]) (by simp) (by simp) f
  have hflow := (((k.putPayload p id off).countPacket id (payLen p.hdr) (off / 4096)).markPoison id f
    (hPoison p.hdr == 1)).onlyTbl_flowReceived f (payLen p.hdr) (seqAdd (hSeq p.hdr) (payLen p.hdr))
  unfold Core.packetTaken
  dsimp only
  rw [Core.recTimer_mem, hflow.mem, show _ = _ from hmark .mem (by decide), hcount.mem, Core.putPayload_mem]

end

/-! ### The checks of R105 -/

/-- The place of a packet in its record's message. -/
def Core.pktOff (p : Packet) : Nat := seqSub (hSeq p.hdr) (k.rBase (hCmpl p.hdr))

/-- A packet that passes the checks of R105 at an open receive record, which it does not complete. -/
structure Core.Takes (p : Packet) : Prop where
  on : k.isOn (.flow (hFlow p.hdr)) = true
  kind : kindType (k.fKind (hFlow p.hdr)) = some (hType p.hdr)
  src : hSrc p.hdr = k.fLocalEid (hFlow p.hdr)
  mgmt : hCmpl p.hdr < 0x8000
  opened : k.rOpen (hCmpl p.hdr) = true
  recv : k.rSend (hCmpl p.hdr) = false
  flow : k.rFlow (hCmpl p.hdr) = hFlow p.hdr
  size : k.rSize (hCmpl p.hdr) ≤ 1048576
  inside : k.pktOff p < k.rSize (hCmpl p.hdr)
  aligned : k.pktOff p % 4096 = 0
  len : payLen p.hdr = pktLen (k.rSize (hCmpl p.hdr)) (k.pktOff p / 4096)
  fresh : bitAt (k.rMap (hCmpl p.hdr)) (k.pktOff p / 4096) = false
  more : k.rPkts (hCmpl p.hdr) + 1 < pktCount (k.rSize (hCmpl p.hdr))
  bytes : k.rBytes (hCmpl p.hdr) + payLen p.hdr < 2 ^ 21

section
variable {k} {p : Packet}

theorem hFlow_lt (h : BitVec 256) : hFlow h < 16384 := fld_lt _ 192 179

theorem Core.Takes.place_lt (h : k.Takes p) : k.pktOff p / 4096 < 256 := by
  have h1 := h.inside
  have h2 := h.size
  omega

theorem Core.Takes.count_lt (h : k.Takes p) : k.rPkts (hCmpl p.hdr) + 1 < 2 ^ 9 := by
  have h1 := h.more
  have h2 := h.size
  unfold pktCount at h1
  omega

/-- The queues of the router do not enter the checks. -/
theorem Core.Takes.frt (h : k.Takes p) (x : Frt) : ({ k with frt := x } : Core).Takes p :=
  ⟨h.on, h.kind, h.src, h.mgmt, h.opened, h.recv, h.flow, h.size, h.inside, h.aligned, h.len, h.fresh, h.more, h.bytes⟩

/-- The steps of R105, passed one after the other. -/
theorem Core.Takes.acceptPkt (h : k.Takes p) :
    k.acceptPkt p = k.packetTaken p (hFlow p.hdr) (hCmpl p.hdr) (k.pktOff p) := by
  have hsteps : k.acceptPkt p = k.takePacket p (hFlow p.hdr) (hCmpl p.hdr) (k.pktOff p) := by
    have hinside := h.inside
    have haligned := h.aligned
    have hlen := h.len
    have hfresh := h.fresh
    have hmgmt := h.mgmt
    unfold Core.pktOff at hinside haligned hlen hfresh
    unfold Core.acceptPkt
    dsimp only
    rw [if_neg (by simp [h.on, h.kind]), if_neg (not_not.2 h.src), if_neg (by simp [h.opened, h.recv, h.flow]),
      if_neg (by omega), if_neg (by omega), if_neg (by rintro (hbad | hbad) <;> contradiction), if_neg (by simp [hfresh])]
    rfl
  rw [hsteps, Core.takePacket_eq, Core.rPkts_packetTaken _ _ (hFlow_lt _) _ _ h.count_lt, Core.rSize_packetTaken _ _ (hFlow_lt _)]
  refine if_neg fun hdone => ?_
  have hmore := h.more
  omega

end

/-! ### PACKET_ACCEPT -/

/-- The core with the packet at the head of the delivered ones taken. -/
def Core.dataTaken (rest : List Deliv) : Core := { k with frt := { k.frt with data := rest } }

theorem Core.packetEv_cons {d : Deliv} {rest : List Deliv} (h : k.frt.data = d :: rest) (hs : d.site = none) :
    k.packetEv = (k.dataTaken rest).acceptPkt d.pkt := by
  unfold Core.packetEv
  rw [h]
  dsimp only
  rw [hs]
  rfl

theorem exec_packetAccept_of_waiting (mem : Option MemErr) {s : State} (h : s.core.frt.data ≠ []) :
    exec (.packetAccept mem) s = .next ((s.memErrs mem).onCore (fun k => k.packetEv.settle)) := by
  have he : s.core.frt.data.isEmpty = false := by simpa using h
  have hexec : exec (.packetAccept mem) s = execPacketAccept s mem := rfl
  rw [hexec, execPacketAccept, he]
  rfl

/-- Memory written reads back as written. -/
theorem Core.mrd_of_memPut {k k' : Core} {a : Nat} {l : List Byte} (h : k'.mem = memPut k.mem a l) :
    k'.mrd a l.length = l := by
  refine List.ext_getElem (k'.mrd_length _ _) fun i h1 h2 => ?_
  have hread := k'.mrd_getD l.length a i h2
  rw [h, get_memPut_in l k.mem a i h2] at hread
  rwa [List.getD_eq_getElem _ _ h1, List.getD_eq_getElem _ _ h2] at hread

end

section
variable {s t : State}

theorem State.packetAccept_takes {d : Deliv} {rest : List Deliv} (hd : s.core.frt.data = d :: rest) (hs : d.site = none)
    (hq : s.core.cle.failQ = []) (h : s.core.Takes d.pkt) (ht : t = s.onCore (fun k => k.packetEv.settle)) :
    t.core.frt.data = rest ∧
      t.core.rMap (hCmpl d.pkt.hdr) = s.core.rMap (hCmpl d.pkt.hdr) ||| 2 ^ (s.core.pktOff d.pkt / 4096) ∧
      t.core.rPkts (hCmpl d.pkt.hdr) = s.core.rPkts (hCmpl d.pkt.hdr) + 1 ∧
      t.core.rBytes (hCmpl d.pkt.hdr) = s.core.rBytes (hCmpl d.pkt.hdr) + payLen d.pkt.hdr ∧
      t.core.mrd (ptrAddr (s.core.rBuf (hCmpl d.pkt.hdr)) + s.core.pktOff d.pkt) d.pkt.payload.length = d.pkt.payload ∧
      (∀ a, (a < ptrAddr (s.core.rBuf (hCmpl d.pkt.hdr)) + s.core.pktOff d.pkt ∨
          ptrAddr (s.core.rBuf (hCmpl d.pkt.hdr)) + s.core.pktOff d.pkt + d.pkt.payload.length ≤ a) →
        t.core.mem.get 0 a = s.core.mem.get 0 a) ∧
      s.only [.frt, .tbl, .fcs, .mem, .psn] [Reg.FCS_POISON_CNT] t := by
  set k := s.core.dataTaken rest with hk
  set id := hCmpl d.pkt.hdr with hid
  have hf := hFlow_lt d.pkt.hdr
  have htake : k.Takes d.pkt := h.frt _
  have hev : s.core.packetEv = k.packetTaken d.pkt (hFlow d.pkt.hdr) id (k.pktOff d.pkt) :=
    (s.core.packetEv_cons hd hs).trans htake.acceptPkt
  obtain ⟨hp, hr⟩ := k.only_packetTaken id d.pkt (k.pktOff d.pkt) (l := [.mem, .psn, .tbl, .fcs])
    (r := [Reg.FCS_POISON_CNT]) (by simp) (by simp) (by simp) (by simp) (by simp) (hFlow d.pkt.hdr)
  have hcle : (k.packetTaken d.pkt (hFlow d.pkt.hdr) id (k.pktOff d.pkt)).cle = k.cle := hp .cle (by decide)
  have hfrt' : (k.packetTaken d.pkt (hFlow d.pkt.hdr) id (k.pktOff d.pkt)).frt = k.frt := hp .frt (by decide)
  obtain ⟨hfrt, htbl, -, hmem, -, honly⟩ := State.onCore_settle hev (by rw [hcle]; exact hq) ht
  have hrec : Core.SameProgress id (k.packetTaken d.pkt (hFlow d.pkt.hdr) id (k.pktOff d.pkt)) t.core :=
    (Core.SameRecs.of_tbl htbl).progress
  have hput : t.core.mem = memPut s.core.mem (ptrAddr (s.core.rBuf id) + s.core.pktOff d.pkt) d.pkt.payload := by
    rw [hmem, Core.packetTaken_mem]
    rfl
  refine ⟨?_, ?_, ?_, ?_, Core.mrd_of_memPut hput, fun a ha => ?_, honly _ _ ?_ ?_⟩
  · rw [hfrt, hfrt']
    rfl
  · rw [hrec.map, Core.rMap_packetTaken _ _ hf _ _ htake.place_lt]
    rfl
  · rw [hrec.pkts, Core.rPkts_packetTaken _ _ hf _ _ htake.count_lt]
    rfl
  · rw [hrec.bytes, Core.rBytes_packetTaken _ _ hf _ _ htake.bytes]
    rfl
  · rw [hput, get_memPut_out _ _ _ _ ha]
  · exact Core.onlyParts_trans (Core.onlyParts_frt (by simp) _) (Core.onlyParts_mono (by decide) hp)
  · exact Core.onlyRegs_trans (Core.onlyRegs_of_regs rfl) hr

end

/-! ### CUSTODY_RECORD_OPEN (R112) -/

/-- The second core is the first with `n` packets of a flow sent for the first time. -/
structure Core.SentFirst (n : Nat) (k k' : Core) : Prop where
  own : k'.frt.own.length = k.frt.own.length + n
  recs : k.SameRecs k'
  regs : k'.regs = k.regs
  parts : k.onlyParts [.frt, .tbl, .free] k'

section
variable {k k' k'' : Core} {n n' : Nat}

theorem Core.SentFirst.refl (k : Core) : k.SentFirst 0 k := ⟨rfl, .refl k, rfl, Core.onlyParts_refl _ _⟩

theorem Core.SentFirst.trans (h : k.SentFirst n k') (h' : k'.SentFirst n' k'') : k.SentFirst (n + n') k'' :=
  ⟨by rw [h'.own, h.own, Nat.add_assoc], h.recs.trans h'.recs, h'.regs.trans h.regs, Core.onlyParts_trans h.parts h'.parts⟩

theorem Core.sentFirst_sendFirst (k : Core) (id i : Nat) : k.SentFirst 1 (k.sendFirst id i) := by
  have hsent : k.Sent 1 (k.sendPkt id i) := Core.sent_sendPkt id i
  have htbl := Core.onlyTbl_fInc (k := k.sendPkt id i) (k.rFlow id) 0x58 63 0 (pktLen (k.rSize id) i)
  unfold Core.sendFirst
  exact ⟨by rw [htbl.frt, hsent.own], hsent.sameRecs.trans (Core.sameRecs_fInc (k.rFlow_lt id) (by omega) _ _ _),
    htbl.regs.trans hsent.regs, Core.onlyParts_trans (hsent.onlyParts (by simp) (by simp)) (htbl.onlyParts (by simp))⟩

theorem Core.sentFirst_foldl (id : Nat) : ∀ (is : List Nat) (k : Core),
    k.SentFirst is.length (is.foldl (fun k i => k.sendFirst id i) k)
  | [], k => .refl k
  | i :: is, k => by
    rw [List.length_cons, Nat.add_comm]
    exact (k.sentFirst_sendFirst id i).trans (Core.sentFirst_foldl id is _)

end

section
variable (k : Core)

/-- The core with the message at the head of the custody queue taken. -/
def Core.custodyTaken (rest : List CustMsg) : Core := { k with fcs := { k.fcs with custody := rest } }

/-- The flow's send sequence moved to the end of a message, where that is later. -/
def Core.sendSeqTo (f fin : Nat) : Core := if seqBefore (k.ff f 8 47 0) fin then k.setFctx f 8 fin else k

theorem Core.onlyTbl_sendSeqTo (f fin : Nat) : k.OnlyTbl (k.sendSeqTo f fin) := by
  unfold Core.sendSeqTo
  split
  · exact Core.onlyTbl_setFctx _ _ _
  · exact .refl k

theorem Core.sameRecs_sendSeqTo {f : Nat} (hf : f < 16384) (fin : Nat) : k.SameRecs (k.sendSeqTo f fin) := by
  unfold Core.sendSeqTo
  split
  · exact Core.sameRecs_setFctx hf (by omega) _
  · exact .refl k

/-- The core with the message taken and its record opened. -/
def Core.custodyOpened (m : CustMsg) (rest : List CustMsg) (id : Nat) : Core :=
  (k.custodyTaken rest).fresh.openWords id true m.flow m.base m.size m.cmpl m.ptr

/-- The core once the message's packets have left too. -/
def Core.custodySent (m : CustMsg) (rest : List CustMsg) (id : Nat) : Core :=
  (List.range (pktCount m.size)).foldl (fun k i => k.sendFirst id i) (k.custodyOpened m rest id)

/-- The records of custody that are not open (R112). -/
def Core.custodyFree : List Nat := ((List.range 16384).map (· + 0xC000)).filter (fun id => !k.rOpen id)

theorem Core.mem_custodyFree {id : Nat} : id ∈ k.custodyFree ↔ 0xC000 ≤ id ∧ id < 0x10000 ∧ k.rOpen id = false := by
  unfold Core.custodyFree
  rw [List.mem_filter, List.mem_map, Bool.not_eq_true']
  constructor
  · rintro ⟨⟨i, hi, rfl⟩, hopen⟩
    have := List.mem_range.1 hi
    exact ⟨by omega, by omega, hopen⟩
  · rintro ⟨hge, hlt, hopen⟩
    exact ⟨⟨id - 0xC000, List.mem_range.2 (by omega), by omega⟩, hopen⟩

variable {k} {m : CustMsg} {rest : List CustMsg}

/-- A verified message of a flow that is ON opens a free record of custody and sends its packets. -/
theorem Core.custodyEv_opens (h : k.fcs.custody = m :: rest) (hon : k.isOn (.flow m.flow) = true)
    (hfree : ∃ id, 0xC000 ≤ id ∧ id < 0x10000 ∧ k.rOpen id = false) : ∃ id k' us,
      (0xC000 ≤ id ∧ id < 0x10000 ∧ k.rOpen id = false) ∧ (k.custodyOpened m rest id).SentFirst (pktCount m.size) k' ∧
      k.custodyEv = (k'.sendSeqTo m.flow (seqAdd m.base m.size)).recTimer id us := by
  obtain ⟨i, hi⟩ := hfree
  have hpos : 0 < k.custodyFree.length := List.length_pos_of_mem (k.mem_custodyFree.2 hi)
  have hne : k.custodyFree.isEmpty = false := by
    rw [List.isEmpty_eq_false_iff]
    exact List.ne_nil_of_length_pos hpos
  have hpick : k.custodyFree.getD (Config.freeField k.free % k.custodyFree.length) 0xC000 ∈ k.custodyFree := by
    rw [List.getD_eq_getElem _ _ (Nat.mod_lt _ hpos)]
    exact List.getElem_mem _
  set id := k.custodyFree.getD (Config.freeField k.free % k.custodyFree.length) 0xC000 with hid
  have hsent : (k.custodyOpened m rest id).SentFirst (pktCount m.size) (k.custodySent m rest id) := by
    have h := Core.sentFirst_foldl id (List.range (pktCount m.size)) (k.custodyOpened m rest id)
    rwa [List.length_range] at h
  refine ⟨id, _, ((k.custodySent m rest id).sendSeqTo m.flow (seqAdd m.base m.size)).fd Reg.FCS_TIMER 31 16,
    k.mem_custodyFree.1 hpick, hsent, ?_⟩
  unfold Core.custodyEv
  rw [h]
  dsimp only
  rw [if_neg (by simp [hon])]
  refine (if_neg ?_).trans ?_
  · exact (Bool.eq_false_iff.1 hne :)
  · rfl

end

section
variable {s t : State} {m : CustMsg} {rest : List CustMsg}

theorem State.custodyRecordOpen_sends (h : s.core.fcs.custody = m :: rest) (hf : m.flow < 16384)
    (hon : s.core.isOn (.flow m.flow) = true) (hfree : ∃ id, 0xC000 ≤ id ∧ id < 0x10000 ∧ s.core.rOpen id = false)
    (ht : t = s.onCore (fun k => k.custodyEv)) :
    t.core.fcs.custody = rest ∧
      (∃ id, 0xC000 ≤ id ∧ id < 0x10000 ∧ s.core.rOpen id = false ∧ t.core.rOpen id = true ∧ t.core.rSend id = true ∧
        t.core.rFlow id = m.flow ∧ t.core.rBase id = m.base % 2 ^ 48) ∧
      t.core.frt.own.length = s.core.frt.own.length + pktCount m.size ∧ s.only [.frt, .tbl, .fcs, .free] [] t := by
  subst ht
  obtain ⟨id, k', us, ⟨hge, hlt, hclosed⟩, hsent, hk⟩ := Core.custodyEv_opens h hon hfree
  have hwords := ((s.core.custodyTaken rest).fresh).onlyTbl_openWords id true (flow := m.flow) m.base m.size m.cmpl m.ptr
  have hseq := k'.onlyTbl_sendSeqTo m.flow (seqAdd m.base m.size)
  have hrecs : (s.core.custodyOpened m rest id).SameRecs (s.onCore fun k => k.custodyEv).core := by
    refine (hsent.recs.trans (k'.sameRecs_sendSeqTo hf (seqAdd m.base m.size))).trans (.of_tbl ?_)
    rw [State.onCore_tbl, hk, Core.recTimer_tbl]
  have hfirst : (s.onCore fun k => k.custodyEv).core.cr id 0 = recWord0 true m.flow m.base := by
    rw [hrecs.cr, Core.custodyOpened, Core.cr_openWords_zero _ _ _ _ _ _ _ hf]
  refine ⟨?_, ⟨id, hge, hlt, hclosed, ?_, ?_, ?_, ?_⟩, ?_, State.only_onCore s _ ?_ ?_⟩
  · have hfcs : k'.fcs = (s.core.custodyOpened m rest id).fcs := hsent.parts .fcs (by decide)
    have hcust : ∀ k : Core, (k.recTimer id us).fcs.custody = k.fcs.custody := fun _ => rfl
    rw [State.onCore_fcs, hk, hcust, hseq.fcs, hfcs, Core.custodyOpened, hwords.fcs]
    rfl
  · rw [Core.rOpen, hfirst, recWord0_open _ _ hf]
  · rw [Core.rSend, hfirst, recWord0_send _ _ hf]
  · rw [Core.rFlow, hfirst, recWord0_flow _ _ hf]
  · rw [Core.rBase, hfirst, recWord0_base]
  · rw [State.onCore_frt, hk, Core.recTimer_frt, hseq.frt, hsent.own, Core.custodyOpened, hwords.frt]
    rfl
  · rw [hk]
    refine Core.onlyParts_trans ?_ (Core.onlyParts_trans (Core.onlyParts_mono (by decide) hsent.parts)
      (Core.onlyParts_trans (hseq.onlyParts (by simp)) (Core.onlyParts_recTimer (by simp) _ _)))
    refine Core.onlyParts_trans (fun q hq => ?_) (hwords.onlyParts (by simp))
    cases q
    case fcs => exact absurd hq (by simp)
    case free => exact absurd hq (by simp)
    all_goals rfl
  · rw [hk]
    refine Core.onlyRegs_of_regs ?_
    rw [Core.recTimer_regs, hseq.regs, hsent.regs, Core.custodyOpened, hwords.regs]
    rfl

end

/-- Settles O12: the record opened by its high word, the packet taken, the error of memory first, the CMPL_NACK, the close, the
message from custody. -/
theorem receiveRecords : Obligations.ReceiveRecords := by
  unfold Obligations.ReceiveRecords
  refine ⟨?opens, ?packet, ?error, ?nack, ?close, ?custody⟩
  case opens =>
    intro v s ha hlt hone hv hfree hck
    exact .of_exec (t := s.mgmtWin _ _ _ _ _) rfl (State.recordOpen_opens ha v rfl hlt hone hv hfree hck rfl)
  case packet =>
    intro d rest s hd hs hq hon hkind hsrc hmgmt hopen hrecv hflow hsize hin halign hlen hfresh hmore hbytes
    exact .of_exec (exec_packetAccept_of_waiting none (by simp [hd])) (State.packetAccept_takes hd hs hq
      ⟨hon, hkind, hsrc, hmgmt, hopen, hrecv, hflow, hsize, hin, halign, hlen, hfresh, hmore, hbytes⟩ rfl)
  case error =>
    intro mem s hwait hwait'
    exact .of_exec (exec_packetAccept_of_waiting mem hwait) (exec_packetAccept_of_waiting none hwait')
  case nack =>
    intro r s hq ho hs hup htries
    exact .of_exec (t := s.onCore fun k => (k.nackEv r).settle) rfl (State.nackTimeout_nacks hq ho hs hup htries rfl)
  case close =>
    intro r s ha hr ho
    exact .of_exec (t := s.mgmt Reg.FCS_STAT fun k => k.closeCmd 1 r) rfl (State.recordClose_closes ha hr ho rfl)
  case custody =>
    intro m rest s h hf hon hfree
    exact .of_exec (t := s.onCore fun k => k.custodyEv) rfl (State.custodyRecordOpen_sends h hf hon hfree rfl)

end Sys2Proof.Machine
end

section
/-!
PROOFS. The end of a flow's drain by its limit (04_flows R98): every record still open completes, the flow is OFF. One lemma
per operation of the collective engine that settles the chunks those records fail (05_collectives R126, R144 to R149): it leaves
the functions' states, or at least leaves an OFF flow OFF.
-/

namespace Sys2Proof.Machine

open Sys2Proof

/-! ### A flow on its way to OFF -/

/-- The flow is OFF, or drains with no ENABLE pending. -/
def Core.flowEnding (k : Core) (f : Nat) : Prop :=
  k.fst (.flow f) = .off ∨ k.fst (.flow f) = .draining ∧ (k.fn (.flow f)).pend = false

/-- An OFF flow stays OFF, and one on its way to OFF stays so. -/
structure Core.FlowEnds (f : Nat) (k k' : Core) : Prop where
  off : k.fst (.flow f) = .off → k'.fst (.flow f) = .off
  ending : k.flowEnding f → k'.flowEnding f

section
variable {f : Nat} {k k' k'' : Core}

theorem Core.FlowEnds.of_fn (h : k'.fn (.flow f) = k.fn (.flow f)) : Core.FlowEnds f k k' := by
  have hst : k'.fst (.flow f) = k.fst (.flow f) := by rw [Core.fst, h, Core.fst]
  exact ⟨fun ho => hst.trans ho, fun he => by unfold Core.flowEnding; rw [hst, h]; exact he⟩

theorem Core.FlowEnds.of_fns (h : k'.fns = k.fns) : Core.FlowEnds f k k' := .of_fn (Core.fn_of_fns h _)

theorem Core.FlowEnds.refl (k : Core) : Core.FlowEnds f k k := .of_fns rfl

theorem Core.FlowEnds.trans (h : Core.FlowEnds f k k') (h' : Core.FlowEnds f k' k'') : Core.FlowEnds f k k'' :=
  ⟨fun ho => h'.off (h.off ho), fun he => h'.ending (h.ending he)⟩

theorem Core.FlowEnds.foldl {α : Type} {g : Core → α → Core} (hg : ∀ k a, Core.FlowEnds f k (g k a)) (l : List α) (k : Core) :
    Core.FlowEnds f k (l.foldl g k) := by
  induction l generalizing k with
  | nil => exact .refl k
  | cons a l ih => exact (hg k a).trans (ih _)

theorem Core.flowStart_fn_ne {f' : Nat} (hne : f' ≠ f) (k : Core) : (Core.flowStart f' k).fn (.flow f) = k.fn (.flow f) := by
  have hcode : (FnId.flow f).code ≠ (FnId.flow f').code := by simp only [FnId.code]; omega
  obtain ⟨a, b, c, h⟩ := k.flowStart_eq f'
  rw [h, Core.fn_setFst_ne _ hcode]
  have hw := (k.onlyTbl_flowWords f').fns
  generalize k.flowWords f' = w at hw ⊢
  exact Core.fn_of_fns hw _

/-- The end of a drain, of this flow or of another. -/
theorem Core.flowEnds_flowChk (f' : Nat) (k : Core) : Core.FlowEnds f k (Core.flowChk f' k) := by
  by_cases hff : f' = f
  · subst hff
    have hoff : k.fst (.flow f') = .off → (Core.flowChk f' k).fst (.flow f') = .off := fun ho => by
      unfold Core.flowChk
      rw [if_neg (by simp [ho]), ho]
    refine ⟨hoff, ?_⟩
    rintro (ho | ⟨hd, hp⟩)
    · exact .inl (hoff ho)
    · unfold Core.flowEnding
      rw [Core.fst_flowChk hd hp, Core.flowChk_of_no_pend hd hp]
      split
      · exact .inl rfl
      · exact .inr ⟨rfl, hp⟩
  · have hcode : (FnId.flow f).code ≠ (FnId.flow f').code := by simp only [FnId.code]; omega
    unfold Core.flowChk
    split
    · exact .of_fn (k.fn_fnDrained_ne hcode _ _ (Core.flowStart_fn_ne hff))
    · exact .refl k

/-! ### The records still open -/

theorem Core.flowEnds_closeRec (k : Core) (id st : Nat) : Core.FlowEnds f k (k.closeRec id st) := .of_fns (k.closeRec_fns id st)

theorem Core.flowEnds_fInc (k : Core) (f' off hi lo n : Nat) : Core.FlowEnds f k (k.fInc f' off hi lo n) :=
  .of_fns (Core.onlyTbl_fInc _ _ _ _ _).fns

theorem Core.flowEnds_sendDone (k : Core) (id st : Nat) : Core.FlowEnds f k (k.sendDone id st) := by
  have hack : ∀ (k : Core) (f' fin : Nat), Core.FlowEnds f k (k.ackUpdate f' fin) := fun k f' fin => by
    obtain ⟨x, v, h⟩ := k.ackUpdate_eq f' fin
    rw [h]
    exact .of_fns (Core.onlyTbl_setFctx _ _ _).fns
  unfold Core.sendDone
  dsimp only
  refine Core.FlowEnds.trans ?_ ((hack _ _ _).trans (Core.flowEnds_flowChk _ _))
  refine Core.FlowEnds.trans ?_ (.of_fn ((Core.poolWork_giveBack _ _ _).flow f))
  refine (k.flowEnds_closeRec id st).trans ?_
  split <;> exact Core.flowEnds_fInc _ _ _ _ _ _

theorem Core.flowEnds_recvDone_timeout (k : Core) (id : Nat) : Core.FlowEnds f k (k.recvDone id stTimeout) := by
  obtain ⟨k', hsent, h⟩ := k.recvDone_timeout_eq id
  have hnotify : ∀ k : Core, Core.FlowEnds f k (k.notify id stTimeout) := fun k => by
    obtain ⟨k', q, hpool, hk⟩ := k.notify_timeout id
    rw [hk]
    exact .of_fn (hpool.flow f)
  rw [h]
  exact ((((k.flowEnds_closeRec id stTimeout).trans (Core.flowEnds_fInc _ _ _ _ _ _)).trans (hnotify _)).trans
    (.of_fns hsent.fns)).trans (Core.flowEnds_flowChk _ _)

theorem Core.flowEnds_recDone_timeout (k : Core) (id : Nat) : Core.FlowEnds f k (k.recDone id stTimeout) := by
  unfold Core.recDone
  split
  · exact k.flowEnds_sendDone id stTimeout
  · exact k.flowEnds_recvDone_timeout id

/-- When the limit has passed the flow is OFF. -/
theorem Core.fst_flowDrainEv (h : k.fst (.flow f) = .draining) (hp : (k.fn (.flow f)).pend = false)
    (hdue : (k.fn (.flow f)).since + 100000 * k.fd Reg.FCS_DRAIN 15 0 ≤ k.now) : (k.flowDrainEv f).fst (.flow f) = .off := by
  have hdone := (Core.FlowEnds.foldl (fun k id => Core.flowEnds_recDone_timeout (f := f) k id) (k.flowRecs f) k).ending
    (.inr ⟨h, hp⟩)
  unfold Core.flowDrainEv
  rw [if_pos ⟨h, hdue⟩]
  dsimp only
  rcases hdone with ho | ⟨hd, hp'⟩
  · unfold Core.fnDrained
    rw [if_neg (by simp [ho])]
    exact ho
  · rw [Core.fnDrained_of_no_pend _ hd hp']
    exact Core.fst_setFn_pend _ _ _ _ _

end

/-! ### Operations that leave every function's state -/

section
variable (k : Core)

@[simp] theorem Core.setCc_fns (x off v : Nat) : (k.setCc x off v).fns = k.fns := rfl

@[simp] theorem Core.setCf_fns (x off hi lo v : Nat) : (k.setCf x off hi lo v).fns = k.fns := rfl

@[simp] theorem Core.setRun_fns (x : Nat) (g : CtxRun → CtxRun) : (k.setRun x g).fns = k.fns := rfl

@[simp] theorem Core.addChunk_fns (h : Chunk) : (k.addChunk h).fns = k.fns := rfl

@[simp] theorem Core.updChunk_fns (x c : Nat) (g : Chunk → Chunk) : (k.updChunk x c g).fns = k.fns := rfl

@[simp] theorem Core.dropChunk_fns (x c : Nat) : (k.dropChunk x c).fns = k.fns := rfl

@[simp] theorem Core.dropSeg_fns (g : XSeg → Bool) : (k.dropSeg g).fns = k.fns := rfl

@[simp] theorem Core.skimStart_fns (flow : Nat) (use : XUse) (d : List Byte) : (k.skimStart flow use d).fns = k.fns := rfl

@[simp] theorem Core.pressStart_fns (flow : Nat) (use : XUse) (jobs : List (List Byte)) :
    (k.pressStart flow use jobs).fns = k.fns := rfl

@[simp] theorem Core.lateRef_fns (x s slot : Nat) : (k.lateRef x s slot).fns = k.fns := rfl

@[simp] theorem Core.admitChunk_fns (x c : Nat) (raw : List Byte) (psn : List Bool) (buf : Option Nat) :
    (k.admitChunk x c raw psn buf).fns = k.fns := by
  unfold Core.admitChunk
  dsimp only
  split <;> simp only [apply_ite Core.fns, pressStart_fns, skimStart_fns, lateRef_fns, updChunk_fns, ite_self]

@[simp] theorem Core.setRank_fns (d : Nat) (r : Rank) : (k.setRank d r).fns = k.fns := rfl

@[simp] theorem Core.rkSet_fns (d hi lo v : Nat) : (k.rkSet d hi lo v).fns = k.fns := rfl

@[simp] theorem Core.setJw_fns (e w v : Nat) : (k.setJw e w v).fns = k.fns := rfl

@[simp] theorem Core.jwf_fns (e w hi lo v : Nat) : (k.jwf e w hi lo v).fns = k.fns := rfl

/-- Work on a list, each part of which leaves the functions' states, leaves them. -/
theorem Core.foldl_fns {α : Type} {g : Core → α → Core} (hg : ∀ k a, (g k a).fns = k.fns) (l : List α) (k : Core) :
    (l.foldl g k).fns = k.fns := by
  induction l generalizing k with
  | nil => rfl
  | cons a l ih => exact (ih _).trans (hg k a)

@[simp] theorem Core.setJobState_fns (e n : Nat) : (k.setJobState e n).fns = k.fns := by
  unfold Core.setJobState
  dsimp only
  split
  · rfl
  · rw [Core.emit_fns, Core.jwf_fns]

@[simp] theorem Core.clearJob_fns (e : Nat) : (k.clearJob e).fns = k.fns :=
  Core.foldl_fns (fun k w => k.setJw_fns e w 0) [3, 4, 5, 6] (k.jwf e 2 31 16 0)

@[simp] theorem Core.ensureJob_fns (x : Nat) : (k.ensureJob x).fns = k.fns := by
  unfold Core.ensureJob
  dsimp only
  split
  · rfl
  · simp only [apply_ite Core.fns, Core.jwf_fns, Core.clearJob_fns, Core.setJw_fns, ite_self]

@[simp] theorem Core.lateSite_fns (row s : Nat) (v : Int) : (k.lateSite row s v).fns = k.fns := rfl

@[simp] theorem Core.lateRecord_fns (x : Nat) (missing : List Nat) : (k.lateRecord x missing).fns = k.fns := by
  unfold Core.lateRecord
  split
  · rfl
  · next due _ =>
    extract_lets row a k₁ w k₂
    have hfresh : k₁.fns = k.fns := by
      unfold k₁
      split
      · rfl
      · exact (Core.tbw_fns _ _ _ _).trans (Core.foldl_fns (fun k i => Core.tbw_fns _ _ _ _) _ k)
    have hsite : ∀ (k : Core) (s : Nat), (if missing.contains s then k.lateSite row s 0x7FFFFFFF
        else
          let r := (k.run x).ref.get 0 s
          if r = 0 then k else k.lateSite row s (((r - 1 : Nat) : Int) - (due : Int))).fns = k.fns := by
      intro k s
      simp only [apply_ite Core.fns, Core.lateSite_fns, ite_self]
    exact (Core.foldl_fns hsite _ k₂).trans ((Core.tbw_fns _ _ _ _).trans hfresh)

@[simp] theorem Core.refItem_fns (x : Nat) (i : RxItem) : (k.refItem x i).fns = k.fns := by
  unfold Core.refItem
  split
  · rfl
  · rfl

@[simp] theorem Core.rankStop_fns (d st : Nat) : (k.rankStop d st).fns = k.fns := by
  unfold Core.rankStop
  dsimp only
  split
  · rfl
  · rw [Core.emit_fns, Core.rkSet_fns, Core.setRank_fns, Core.dropSeg_fns]

@[simp] theorem Core.rankBegin_fns (x : Nat) : (k.rankBegin x).fns = k.fns := by
  unfold Core.rankBegin
  split
  · rfl
  · exact Core.setRank_fns _ _ _

@[simp] theorem Core.matchHeld_fns (x seq : Nat) : (k.matchHeld x seq).fns = k.fns := rfl

@[simp] theorem Core.firstStep_fns (x step : Nat) : (k.firstStep x step).fns = k.fns := by
  unfold Core.firstStep
  dsimp only
  split
  · exact k.setJw_fns (k.jobEntry (k.cJob x)) 3 step
  · rfl

@[simp] theorem Core.setPhase_fns (x ph st : Nat) : (k.setPhase x ph st).fns = k.fns := by
  unfold Core.setPhase
  rw [Core.ctxEvent_fns, Core.putPhase_fns]

@[simp] theorem Core.enterRun_fns (x seq step predCtx predSeq elems : Nat) (due : Option Nat) :
    (k.enterRun x seq step predCtx predSeq elems due).fns = k.fns := by
  unfold Core.enterRun
  extract_lets n k₁ k₂ k₃ k₄ k₅
  have hwords : k₃.fns = k.fns := by
    calc k₃.fns = k₂.fns := by unfold k₃; rw [Core.setCc_fns, Core.setCc_fns, Core.setCc_fns]
      _ = k₁.fns := by unfold k₂; rw [Core.setCf_fns, Core.setCc_fns]
      _ = k.fns := by unfold k₁; rw [Core.setRun_fns]
  calc ((k₅.cle.rx.foldl (fun k i => k.refItem x i) k₅).rankBegin x).fns
      = k₅.fns := (Core.rankBegin_fns _ x).trans (Core.foldl_fns (fun k i => k.refItem_fns x i) _ k₅)
    _ = k₄.fns := (Core.matchHeld_fns _ x seq).trans (Core.firstStep_fns k₄ x step)
    _ = k₃.fns := (Core.setPhase_fns _ x 3 stOk).trans (Core.setCc_fns k₃ x 0x68 _)
    _ = k.fns := hwords

@[simp] theorem Core.unpark_fns (x : Nat) : (k.unpark x).fns = k.fns := rfl

@[simp] theorem Core.releaseParked_fns : ∀ (n : Nat) (k : Core), (Core.releaseParked n k).fns = k.fns
  | 0, _ => rfl
  | n + 1, k => by
    unfold Core.releaseParked
    split
    · rfl
    · rw [Core.releaseParked_fns n, Core.enterRun_fns, Core.unpark_fns]

@[simp] theorem Core.sendCtl_fns (dst flow : Nat) (m : List Byte) : (k.sendCtl dst flow m).fns = k.fns := rfl

@[simp] theorem Core.gccTo_fns (s : Nat) (m : List Byte) : (k.gccTo s m).fns = k.fns := by
  unfold Core.gccTo
  split
  · rfl
  · rfl

@[simp] theorem Core.rankReleased_fns (x : Nat) : (k.rankReleased x).fns = k.fns := by
  unfold Core.rankReleased
  split
  · rfl
  · dsimp only
    split
    · rw [Core.rkSet_fns, Core.setRank_fns]
    · rfl

@[simp] theorem Core.partDone_fns (x : Nat) : (k.partDone x).fns = k.fns := rfl

end

end Sys2Proof.Machine
end

section
/-!
PROOFS. What the collective engine does with the chunks of failed records (05_collectives R126, R144 to R149, 06_compression
R171 to R177) leaves an OFF flow OFF, one lemma per operation; with it, the end of a flow's drain by its limit (04_flows R98).
-/

namespace Sys2Proof.Machine

open Sys2Proof

/-- An OFF flow stays OFF. -/
def Core.OffStays (f : Nat) (k k' : Core) : Prop := k.fst (.flow f) = .off → k'.fst (.flow f) = .off

theorem FnId.code_flow_ne_ctx {f : Nat} (hf : f < 16384) (x : Nat) : (FnId.flow f).code ≠ (FnId.ctx x).code := by
  simp only [FnId.code]; omega

section
variable {f : Nat} {k k' k'' : Core}

theorem Core.OffStays.of_fn (h : k'.fn (.flow f) = k.fn (.flow f)) : Core.OffStays f k k' := (Core.FlowEnds.of_fn h).off

theorem Core.OffStays.of_fns (h : k'.fns = k.fns) : Core.OffStays f k k' := .of_fn (Core.fn_of_fns h _)

theorem Core.OffStays.refl (k : Core) : Core.OffStays f k k := id

theorem Core.OffStays.trans (h : Core.OffStays f k k') (h' : Core.OffStays f k' k'') : Core.OffStays f k k'' := h' ∘ h

theorem Core.OffStays.foldl {α : Type} {g : Core → α → Core} (hg : ∀ k a, Core.OffStays f k (g k a)) (l : List α) (k : Core) :
    Core.OffStays f k (l.foldl g k) := by
  induction l generalizing k with
  | nil => exact .refl k
  | cons a l ih => exact (hg k a).trans (ih _)

end

section
variable {f : Nat} (k : Core)

/-! ### Functions and flows -/

theorem Core.offStays_cle (c : Cle) : Core.OffStays f k { k with cle := c } := .of_fns rfl

theorem Core.offStays_cip (c : Cip) : Core.OffStays f k { k with cip := c } := .of_fns rfl

theorem Core.offStays_bpm (b : Bpm) : Core.OffStays f k { k with bpm := b } := .of_fns rfl

/-- The status of a last command leaves every function's state. -/
theorem Core.offStays_fnLast (i : FnId) (st : Nat) : Core.OffStays f k (k.fnLast i st) := by
  intro ho
  unfold Core.fnLast
  by_cases hi : (FnId.flow f).code = i.code
  · simp only [Core.fst, Core.fn, Core.setFn, hi, SMap.get_set_same] at ho ⊢
    exact ho
  · exact (congrArg Fn.fst (k.fn_setFn_ne hi _)).trans ho

/-- A fault leaves a function that is OFF. -/
theorem Core.offStays_fnFault (i : FnId) (st : Nat) : Core.OffStays f k (k.fnFault i st) := by
  by_cases hlive : k.fst i ≠ .off ∧ k.fst i ≠ .faulted
  · obtain ⟨hoff, hfaulted⟩ := hlive
    by_cases hi : (FnId.flow f).code = i.code
    · intro ho
      simp only [Core.fst, Core.fn, hi] at ho hoff
      exact absurd ho hoff
    · rw [k.fnFault_of_live hoff hfaulted]
      exact .of_fn ((Core.fn_setFn_ne _ hi _).trans (k.fn_setFst_ne hi _ _))
  · unfold Core.fnFault
    split
    · exact .refl k
    · exact .refl k
    · next hoff hfaulted => exact absurd ⟨hoff, hfaulted⟩ hlive

theorem Core.offStays_recDone_timeout (id : Nat) : Core.OffStays f k (k.recDone id stTimeout) :=
  (k.flowEnds_recDone_timeout id).off

theorem Core.offStays_flowFault (f' st : Nat) : Core.OffStays f k (k.flowFault f' st stTimeout) := by
  unfold Core.flowFault
  split
  · exact .refl k
  · exact .refl k
  · exact (k.offStays_fnFault _ st).trans (.foldl (fun k id => k.offStays_recDone_timeout id) _ _)

/-! ### Buffers, staging and chunks -/

theorem Core.offStays_giveBack (ptr : Option Nat) (owner : Nat) : Core.OffStays f k (k.giveBack ptr owner) :=
  .of_fn ((k.poolWork_giveBack ptr owner).flow f)

theorem Core.offStays_dropReq (g : BufUser → Bool) : Core.OffStays f k (k.dropReq g) :=
 by
  unfold Core.dropReq
  extract_lets mine _ k₁
  exact (k.offStays_bpm _).trans (.foldl (fun k (p : BufUser × Nat) => k.offStays_giveBack (some p.2) _) mine k₁)

theorem Core.offStays_dropItem (i : RxItem) : Core.OffStays f k (k.dropItem i) := by
  unfold Core.dropItem
  exact ((k.offStays_cle _).trans (Core.offStays_dropReq _ _)).trans (Core.offStays_giveBack _ _ _)

theorem Core.offStays_freeChunk (x c : Nat) : Core.OffStays f k (k.freeChunk x c) := by
  unfold Core.freeChunk
  split
  · exact .refl k
  · next h _ =>
    extract_lets k₁ rec_ k₂ k₃ k₄ _ k₅ k₆
    have hbufs : Core.OffStays f k k₁ := (k.offStays_giveBack _ _).trans (Core.offStays_giveBack _ _ _)
    have hres : Core.OffStays f k₁ k₂ := by
      unfold k₂
      split
      · exact .refl k₁
      · exact k₁.offStays_giveBack _ _
    have hitems : Core.OffStays f k₂ k₃ := .foldl (fun k i => k.offStays_dropItem i) _ k₂
    have hreqs : Core.OffStays f k₃ k₄ := Core.OffStays.trans (.of_fns (k₃.dropSeg_fns _)) (Core.offStays_dropReq _ _)
    have hqueues : Core.OffStays f k₅ k₆ := .foldl (fun k _ => k.offStays_cle _) _ k₅
    exact (((((hbufs.trans hres).trans hitems).trans hreqs).trans (k₄.offStays_cip _)).trans hqueues).trans
      (.of_fns (Core.dropChunk_fns _ x c))

theorem Core.offStays_freeCtx (x : Nat) : Core.OffStays f k (k.freeCtx x) := by
  unfold Core.freeCtx
  exact ((Core.OffStays.foldl (fun k c => k.offStays_freeChunk x c) _ k).trans
    (.foldl (fun k i => k.offStays_dropItem i) _ _)).trans (Core.offStays_dropReq _ _)

theorem Core.offStays_closeCtxRecs (x : Nat) : Core.OffStays f k (k.closeCtxRecs x) := by
  have hclose : ∀ (k : Core) (i : Nat), Core.OffStays f k
      (let id := k.cCrBase x + i
       if k.rOpen id then k.recDone id stTimeout else k) := fun k i => by
    dsimp only
    split
    · exact k.offStays_recDone_timeout _
    · exact .refl k
  unfold Core.closeCtxRecs
  extract_lets k₁
  have hrecs : Core.OffStays f k k₁ := .foldl hclose _ k
  exact hrecs.trans (k₁.offStays_cle _)

/-! ### Contexts -/

theorem Core.fn_ctxStart (hf : f < 16384) (x : Nat) : (Core.ctxStart x k).fn (.flow f) = k.fn (.flow f) := by
  unfold Core.ctxStart
  extract_lets k₁ k₂
  have hwords : k₁.fns = k.fns := Core.foldl_fns (fun k off => k.setCc_fns x off 0) _ k
  have hrun : k₂.fns = k₁.fns := (Core.setRun_fns _ x _).trans (k₁.setCc_fns x 0x60 _)
  exact (Core.fn_setFst_ne _ (FnId.code_flow_ne_ctx hf x) _ _).trans
    (Core.fn_of_fns ((k₂.ensureJob_fns x).trans (hrun.trans hwords)) _)

theorem Core.offStays_ctxDrainChk (hf : f < 16384) (x : Nat) : Core.OffStays f k (Core.ctxDrainChk x k) := by
  unfold Core.ctxDrainChk
  split
  · exact ((k.offStays_freeCtx x).trans (Core.offStays_closeCtxRecs _ x)).trans
      (.of_fn (Core.fn_fnDrained_ne _ (FnId.code_flow_ne_ctx hf x) _ _ (fun k => k.fn_ctxStart hf x)))
  · exact .refl k

/-! ### Aborts (R148) -/

theorem Core.offStays_abortCtx (st x : Nat) : Core.OffStays f k (k.abortCtx st x) := by
  unfold Core.abortCtx
  extract_lets k₁ k₂ k₃
  have hrank : Core.OffStays f k k₁ := by
    unfold k₁
    split
    · exact .of_fns (k.rankStop_fns _ st)
    · exact .refl k
  have hfault : Core.OffStays f k₁ k₂ := k₁.offStays_flowFault _ st
  have hfree : Core.OffStays f k₂ k₃ :=
    ((k₂.offStays_fnFault (.ctx x) st).trans (Core.offStays_freeCtx _ x)).trans (.of_fns (Core.unpark_fns _ x))
  exact ((hrank.trans hfault).trans hfree).trans (k₃.offStays_cle _)

theorem Core.offStays_abortJob (job incarn st step seq chunk origin how : Nat) (sites : List Nat) :
    Core.OffStays f k (k.abortJob job incarn st step seq chunk origin how sites) := by
  have hsite : ∀ (m : List Byte) (k : Core) (s : Nat), Core.OffStays f k (if s = k.mySite then k else k.gccTo s m) :=
    fun m k s => by
      split
      · exact .refl k
      · exact .of_fns (k.gccTo_fns s m)
  unfold Core.abortJob
  extract_lets xs eids body f' k₁ k₂ k₃ _ k₄
  have hends : Core.OffStays f k k₁ := .foldl (fun k e => .of_fns (k.sendCtl_fns e f' _)) _ k
  have hsites : Core.OffStays f k₁ k₂ := .foldl (hsite _) _ k₁
  have hctxs : Core.OffStays f k₂ k₃ := .foldl (fun k x => k.offStays_abortCtx st x) _ k₂
  exact (((hends.trans hsites).trans hctxs).trans (k₃.offStays_cle _)).trans (.of_fns (k₄.emit_fns _ _ _))

theorem Core.offStays_abortHere (x st step seq chunk : Nat) : Core.OffStays f k (k.abortHere x st step seq chunk) :=
  k.offStays_abortJob _ _ _ _ _ _ _ _ _

theorem Core.offStays_orderFail (x step seq : Nat) : Core.OffStays f k (k.orderFail x step seq) :=
  Core.OffStays.trans (.of_fns (k.cnt_fns _)) (Core.offStays_abortHere _ _ _ _ _ _)

/-! ### Starts (R141 to R143) and rank steps (R171 to R177) -/

theorem Core.offStays_startGo (x seq step predCtx predSeq : Nat) (due : Option Nat) :
    Core.OffStays f k (k.startGo x seq step predCtx predSeq due).1 := by
  unfold Core.startGo
  extract_lets elems
  split
  · exact .of_fns ((Core.releaseParked_fns 256 _).trans (k.enterRun_fns x seq step predCtx predSeq elems due))
  · split
    · next e _ =>
      extract_lets p k₁ used k₂ k₃
      have hcount : k₂.fns = k₁.fns := (Core.wr_fns _ _ _).trans (k₁.cnt_fns _)
      have hphase : k₃.fns = k₂.fns := (Core.matchHeld_fns _ x seq).trans (k₂.setPhase_fns x 2 stOk)
      exact (k.offStays_cle _).trans (.of_fns ((Core.emit_fns k₃ _ _ _).trans (hphase.trans hcount)))
    · dsimp only
      exact k.offStays_orderFail x step seq

theorem Core.offStays_startFactor (d y : Nat) (m : List Nat) (seq predCtx predSeq : Nat) :
    Core.OffStays f k (k.startFactor d y m seq predCtx predSeq) := by
  unfold Core.startFactor
  extract_lets st k₁
  split
  · have hstart : Core.OffStays f k k₁ :=
      (k.offStays_startGo y seq _ predCtx predSeq none).trans (Core.offStays_fnLast _ (.ctx y) stOk)
    exact hstart.trans (.foldl (fun k c => .of_fns ((Core.admitChunk_fns _ y c _ _ _).trans (k.addChunk_fns _))) _ k₁)
  · exact (k.offStays_fnLast (.ctx y) st).trans (.of_fns (Core.rankStop_fns _ d st))

theorem Core.offStays_startP (d : Nat) : Core.OffStays f k (k.startP d) :=
  Core.OffStays.trans (.of_fns (k.setRank_fns d _)) (Core.offStays_startFactor _ _ _ _ _ _ _)

theorem Core.offStays_rankDone (x st : Nat) : Core.OffStays f k (k.rankDone x st) := by
  unfold Core.rankDone
  split
  · exact .refl k
  · next d _ =>
    split
    · exact .of_fns (k.rankStop_fns d st)
    · split
      · split
        · exact Core.OffStays.trans (.of_fns (k.rkSet_fns d 15 8 stOk)) (Core.offStays_startP _ d)
        · exact .refl k
      · split
        · exact .of_fns ((Core.rkSet_fns _ d 15 8 stOk).trans ((Core.setRank_fns _ d _).trans (k.mwr_fns _ _)))
        · exact .refl k

/-! ### Chunks that end (R144 to R146) -/

theorem Core.offStays_collDone (x : Nat) : Core.OffStays f k (k.collDone x) := by
  unfold Core.collDone
  extract_lets st failed k₁ k₂ k₃ k₄ k₅ e k₆
  have hwords : k₁.fns = k.fns := (Core.setCc_fns _ x 0x70 _).trans (k.setCf_fns x 0x48 15 8 st)
  have hphase : k₂.fns = k₁.fns := k₁.setPhase_fns x 1 st
  have hstatus : k₃.fns = k₂.fns := k₂.sendCtl_fns _ _ _
  have hevent : k₄.fns = k₃.fns := k₃.emit_fns _ _ _
  have hpart : k₅.fns = k₄.fns := by
    unfold k₅
    split
    · exact k₄.partDone_fns x
    · rfl
  have hjob : k₆.fns = k₅.fns := by
    unfold k₆
    split
    · exact (Core.setJobState_fns _ e jRunning).trans (k₅.clearJob_fns e)
    · rfl
  have hall : (k₆.lateRecord x []).fns = k.fns := (k₆.lateRecord_fns x []).trans
    (hjob.trans (hpart.trans (hevent.trans (hstatus.trans (hphase.trans hwords)))))
  exact (Core.OffStays.of_fns hall).trans (Core.offStays_rankDone _ x st)

theorem Core.offStays_chunkEnd (x c st : Nat) (rel : Bool) : Core.OffStays f k (k.chunkEnd x c st rel) := by
  unfold Core.chunkEnd
  extract_lets k₁ k₂ k₃ k₄
  have hcount : k₁.fns = k.fns := by
    unfold k₁
    simp only [apply_ite Core.fns, Core.cnt_fns, ite_self]
  have hfailed : k₂.fns = k₁.fns := by
    unfold k₂
    split
    · rfl
    · exact (Core.setCf_fns _ x _ _ _ _).trans (k₁.setCf_fns x _ _ _ _)
  have hreleased : k₃.fns = k₂.fns := by
    unfold k₃
    split
    · rfl
    · exact k₂.setCf_fns x _ _ _ _
  have hchecked : k₄.fns = k₃.fns := (Core.setRun_fns _ x _).trans (k₃.setCf_fns x _ _ _ _)
  exact (Core.OffStays.of_fns (hchecked.trans (hreleased.trans (hfailed.trans hcount)))).trans
    (k₄.offStays_freeChunk x c)

theorem Core.offStays_progress (hf : f < 16384) (x : Nat) : Core.OffStays f k (k.progress x) := by
  unfold Core.progress
  split
  · exact k.offStays_ctxDrainChk hf x
  · extract_lets all k₁
    have hending : k₁.fns = k.fns := by
      unfold k₁
      split
      · exact (Core.rankReleased_fns _ x).trans (k.setPhase_fns x 4 stOk)
      · rfl
    refine (Core.OffStays.of_fns hending).trans ?_
    split
    · exact k₁.offStays_collDone x
    · exact .refl k₁
  · exact .refl k

theorem Core.offStays_chunkFail (hf : f < 16384) (x c st : Nat) : Core.OffStays f k (k.chunkFail x c st) := by
  unfold Core.chunkFail
  split
  · exact .refl k
  · next h _ =>
    extract_lets missing rel k₁ k₂
    refine (k.offStays_chunkEnd x c st rel).trans ?_
    split
    · have hlate : k₂.fns = k₁.fns := by
        unfold k₂
        split
        · exact k₁.lateRecord_fns x missing
        · rfl
      exact (Core.OffStays.of_fns hlate).trans (k₂.offStays_abortHere x st _ _ c)
    · exact k₁.offStays_progress hf x

theorem Core.offStays_settle (hf : f < 16384) : Core.OffStays f k k.settle := by
  unfold Core.settle
  extract_lets q _ k₁ k₂
  have hchunks : Core.OffStays f k₁ k₂ := .foldl (fun k p => k.offStays_chunkFail hf p.1 p.2.1 p.2.2) q k₁
  exact ((k.offStays_cle _).trans hchunks).trans (k₂.offStays_cle _)

end

/-! ### The obligation -/

/-- After the drain's limit the flow is OFF, whatever the chunks of its records do then. -/
theorem State.flowDrainTimeout_off {f : Nat} (hf : f < 16384) {s : State} (h : s.core.fst (.flow f) = .draining)
    (hp : (s.core.fn (.flow f)).pend = false)
    (hdue : (s.core.fn (.flow f)).since + 100000 * s.core.fd Reg.FCS_DRAIN 15 0 ≤ s.core.now) :
    (s.onCore (fun k => (k.flowDrainEv f).settle)).core.fst (.flow f) = .off ∧
      s.outsideStands (s.onCore (fun k => (k.flowDrainEv f).settle)) := by
  rw [State.onCore_fst]
  exact ⟨Core.offStays_settle _ hf (Core.fst_flowDrainEv h hp hdue), s.outsideStands_onCore _⟩

/-- Settles O11: one lemma per command; the drain's limit by what its records' failure leaves of an OFF flow. -/
theorem flowsEnableDisableAndContextWords : Obligations.FlowsEnableDisableAndContextWords := by
  unfold Obligations.FlowsEnableDisableAndContextWords
  refine ⟨?_, ?_, ?_, ?_, ?_⟩
  case _ =>
    intro f s ha hoff hck
    exact .of_exec (exec_flowEnable f s) (State.flowEnable_starts ha hoff hck rfl)
  case _ =>
    intro f s ha hon hp
    exact .of_exec (exec_flowDisable f s) (State.flowDisable_drains ha hon hp rfl)
  case _ =>
    intro f s h hp hdue _
    exact .of_exec (t := s.onCore (fun k => (k.flowDrainEv f).settle)) rfl (State.flowDrainTimeout_off f.isLt h hp hdue)
  case _ =>
    intro v s ha hlt hcfg hoff
    exact .of_exec (t := s.mgmtWin Reg.FCS_STAT Reg.FCS_CTX_TBL 1048576 fctxWrite v.toNat) rfl
      (State.flowCtxWrite_taken ha v rfl hlt hcfg rfl hoff)
  case _ =>
    intro v s ha hlt hcfg hon
    exact .of_exec (t := s.mgmtWin Reg.FCS_STAT Reg.FCS_CTX_TBL 1048576 fctxWrite v.toNat) rfl
      (State.flowCtxWrite_refused ha v rfl hlt hcfg rfl hon)

end Sys2Proof.Machine
end

section
/-!
PROOFS. The words of a collective context, of its job's entry and its phase (05_collectives R121, R144, 14_sites R396): what each
write changes, and what a management command of the collective engine reports.
-/

namespace Sys2Proof.Machine

open Sys2Proof

/-! ### Context words (R121) -/

section
variable (k : Core)

theorem Core.onlyTbl_setCc (x off v : Nat) : k.OnlyTbl (k.setCc x off v) := ⟨_, rfl⟩

theorem Core.onlyTbl_setCf (x off hi lo v : Nat) : k.OnlyTbl (k.setCf x off hi lo v) := k.onlyTbl_setCc x off _

theorem Core.cc_of_words {k k' : Core} {x off : Nat}
    (h : ∀ w, w = 32 * x + off / 4 ∨ w = 32 * x + off / 4 + 1 → k'.tb Reg.CLE_CTX_TBL w = k.tb Reg.CLE_CTX_TBL w) :
    k'.cc x off = k.cc x off := by
  unfold Core.cc
  rw [Core.tbn_two, Core.tbn_two, h _ (.inl rfl), h _ (.inr rfl)]

theorem Core.cc_of_tbl {k k' : Core} (h : k'.tbl = k.tbl) (x off : Nat) : k'.cc x off = k.cc x off :=
  Core.cc_of_words fun _ _ => Core.tb_of_tbl h _ _

theorem Core.cf_of_tbl {k k' : Core} (h : k'.tbl = k.tbl) (x off hi lo : Nat) : k'.cf x off hi lo = k.cf x off hi lo := by
  unfold Core.cf; rw [Core.cc_of_tbl h]

theorem Core.cc_lt (x off : Nat) : k.cc x off < 2 ^ 64 := k.tbn_two_lt _ _

theorem Core.cc_setCc_same (x off v : Nat) : (k.setCc x off v).cc x off = v % 2 ^ 64 := k.tbn_tbw2_same _ _ _

/-- Another word of 8 bytes of the context stands. -/
theorem Core.cc_setCc_ne {off off' : Nat} (h : off' / 4 + 1 < off / 4 ∨ off / 4 + 1 < off' / 4) (x v : Nat) :
    (k.setCc x off v).cc x off' = k.cc x off' :=
  Core.cc_of_words fun _ hw => k.tb_tbw2_ne (mt tkey_inj.1 (by omega)) (mt tkey_inj.1 (by omega)) v

theorem Core.cc_setCf_ne {off off' : Nat} (h : off' / 4 + 1 < off / 4 ∨ off / 4 + 1 < off' / 4) (x hi lo v : Nat) :
    (k.setCf x off hi lo v).cc x off' = k.cc x off' := k.cc_setCc_ne h x _

theorem Core.cf_setCf_same {hi lo : Nat} (hh : hi < 64) (hl : lo ≤ hi) (x off v : Nat) :
    (k.setCf x off hi lo v).cf x off hi lo = v % 2 ^ (hi + 1 - lo) := by
  unfold Core.cf Core.setCf
  rw [Core.cc_setCc_same, Nat.mod_eq_of_lt (setFld_lt 64 v hh hl (k.cc_lt x off)), fld_setFld_same]

/-- The words a start of the context clears, whatever the others are. -/
theorem Core.cc_clear {x off : Nat} (offs : List Nat) (hm : off ∈ offs)
    (h : ∀ o ∈ offs, o = off ∨ off / 4 + 1 < o / 4 ∨ o / 4 + 1 < off / 4) :
    (offs.foldl (fun (k : Core) o => k.setCc x o 0) k).cc x off = 0 := by
  have hstays : ∀ (offs : List Nat) (k : Core), (∀ o ∈ offs, o = off ∨ off / 4 + 1 < o / 4 ∨ o / 4 + 1 < off / 4) →
      k.cc x off = 0 → (offs.foldl (fun (k : Core) o => k.setCc x o 0) k).cc x off = 0 := by
    intro offs
    induction offs with
    | nil => exact fun _ _ hk => hk
    | cons o offs ih =>
      intro k h hk
      obtain ⟨ho, hrest⟩ := List.forall_mem_cons.1 h
      refine ih _ hrest ?_
      rcases ho with rfl | ho
      · exact k.cc_setCc_same _ _ 0
      · exact (k.cc_setCc_ne ho _ 0).trans hk
  induction offs generalizing k with
  | nil => exact absurd hm List.not_mem_nil
  | cons o offs ih =>
    obtain ⟨-, hrest⟩ := List.forall_mem_cons.1 h
    rcases List.mem_cons.1 hm with rfl | hin
    · exact hstays offs _ hrest (k.cc_setCc_same _ _ 0)
    · exact ih _ hin hrest

theorem Core.onlyTbl_clearCc (x : Nat) (offs : List Nat) : k.OnlyTbl (offs.foldl (fun (k : Core) o => k.setCc x o 0) k) := by
  induction offs generalizing k with
  | nil => exact .refl k
  | cons o offs ih => exact (k.onlyTbl_setCc x o 0).trans (ih _)

end

/-! ### The job's entry (14_sites R396) -/

/-- What a write to a job's entry leaves: everything but the entry and what the sites hold of it. -/
structure Core.JobWork (k k' : Core) : Prop where
  eq : ∃ m st, k' = { k with tbl := m, site := st }
  words : ∀ win w, win ≠ Reg.CLE_JOB_TBL → w < 2 ^ 24 → k'.tb win w = k.tb win w

section
variable {k k' k'' : Core}

theorem Core.JobWork.refl (k : Core) : k.JobWork k := ⟨⟨_, _, rfl⟩, fun _ _ _ _ => rfl⟩

theorem Core.JobWork.trans (h : k.JobWork k') (h' : k'.JobWork k'') : k.JobWork k'' := by
  obtain ⟨⟨m, st, rfl⟩, hw⟩ := h
  obtain ⟨⟨m', st', rfl⟩, hw'⟩ := h'
  exact ⟨⟨m', st', rfl⟩, fun win w hne hlt => (hw' win w hne hlt).trans (hw win w hne hlt)⟩

theorem Core.JobWork.cc (h : k.JobWork k') {x off : Nat} (hx : x < 4096) (ho : off < 0x7C) : k'.cc x off = k.cc x off :=
  Core.cc_of_words fun w hw => h.words _ w (by decide) (by omega)

theorem Core.JobWork.cle (h : k.JobWork k') : k'.cle = k.cle := by obtain ⟨⟨_, _, rfl⟩, -⟩ := h; rfl

theorem Core.JobWork.fns (h : k.JobWork k') : k'.fns = k.fns := by obtain ⟨⟨_, _, rfl⟩, -⟩ := h; rfl

theorem Core.JobWork.onlyRegs (h : k.JobWork k') (r : List Nat) : k.onlyRegs r k' := by
  obtain ⟨⟨_, _, rfl⟩, -⟩ := h
  exact Core.onlyRegs_of_regs rfl

theorem Core.onlyParts_site {l : List Part} (h : Part.site ∈ l) (st : Site) : k.onlyParts l { k with site := st } := by
  intro q hq
  cases q
  case site => exact absurd h hq
  all_goals rfl

theorem Core.onlyParts_cle {l : List Part} (h : Part.cle ∈ l) (c : Cle) : k.onlyParts l { k with cle := c } := by
  intro q hq
  cases q
  case cle => exact absurd h hq
  all_goals rfl

theorem Core.onlyParts_xfm {l : List Part} (h : Part.xfm ∈ l) (x : Xfm) : k.onlyParts l { k with xfm := x } := by
  intro q hq
  cases q
  case xfm => exact absurd h hq
  all_goals rfl

theorem Core.JobWork.onlyParts (h : k.JobWork k') {l : List Part} (ht : Part.tbl ∈ l) (hs : Part.site ∈ l) :
    k.onlyParts l k' := by
  obtain ⟨⟨m, st, rfl⟩, -⟩ := h
  exact Core.onlyParts_trans (Core.onlyParts_tbl ht m) (Core.onlyParts_site hs st)

end

section
variable (k : Core)

theorem Core.cJob_lt (x : Nat) : k.cJob x < 65536 := fld_lt _ 63 48

theorem Core.jobEntry_lt {job : Nat} (h : job < 65536) : k.jobEntry job < 65600 := by
  unfold Core.jobEntry
  cases hf : (List.range 64).find? (fun e => k.jValid e && k.jJob e == job) with
  | none => simp only [Option.getD_none]; omega
  | some e =>
    have he : e < 64 := List.mem_range.1 (List.mem_of_find?_eq_some hf)
    simp only [Option.getD_some]
    omega

theorem Core.jobWork_setJw {e w : Nat} (he : e < 65600) (hw : w < 8) (v : Nat) : k.JobWork (k.setJw e w v) :=
  ⟨⟨_, _, rfl⟩, fun win w' hne hlt => k.tb_tbw_ne (by unfold tkey; omega) v⟩

theorem Core.jobWork_jwf {e w : Nat} (he : e < 65600) (hw : w < 8) (hi lo v : Nat) : k.JobWork (k.jwf e w hi lo v) :=
  k.jobWork_setJw he hw _

theorem Core.jobWork_site (st : Site) : k.JobWork { k with site := st } := ⟨⟨_, _, rfl⟩, fun _ _ _ _ => rfl⟩

theorem Core.jobWork_clearJob {e : Nat} (he : e < 65600) : k.JobWork (k.clearJob e) := by
  unfold Core.clearJob
  simp only [List.foldl_cons, List.foldl_nil]
  exact (((((k.jobWork_jwf he (by omega) _ _ _).trans (Core.jobWork_setJw _ he (by omega) 0)).trans
    (Core.jobWork_setJw _ he (by omega) 0)).trans (Core.jobWork_setJw _ he (by omega) 0)).trans
    (Core.jobWork_setJw _ he (by omega) 0)).trans (Core.jobWork_site _ _)

theorem Core.jobWork_ensureJob (x : Nat) : k.JobWork (k.ensureJob x) := by
  have he := k.jobEntry_lt (k.cJob_lt x)
  unfold Core.ensureJob
  dsimp only
  split
  · exact .refl k
  · refine Core.JobWork.trans ?_ (Core.jobWork_jwf _ he (by omega) _ _ _)
    split
    · exact .refl k
    · exact (((k.jobWork_setJw he (by omega) _).trans (Core.jobWork_setJw _ he (by omega) _)).trans
        (Core.jobWork_setJw _ he (by omega) _)).trans (Core.jobWork_clearJob _ he)

theorem Core.jobWork_firstStep (x step : Nat) : k.JobWork (k.firstStep x step) := by
  unfold Core.firstStep
  dsimp only
  split
  · exact (k.jobWork_setJw (k.jobEntry_lt (k.cJob_lt x)) (by omega) _).trans (Core.jobWork_site _ _)
  · exact .refl k

/-! ### The phase of a context (R144) -/

theorem Core.phase_of_runs {k k' : Core} (h : k'.cle.runs = k.cle.runs) (x : Nat) : k'.phase x = k.phase x := by
  unfold Core.phase; rw [h]

@[simp] theorem Core.phase_putPhase (x p : Nat) : (k.putPhase x p).phase x = p := by
  unfold Core.phase Core.putPhase SMap.upd
  rw [SMap.get_set_same]

/-- A context's change of state sets its phase and logs it. -/
theorem Core.setFst_ctx (x : Nat) (n : FState) (st : Nat) : k.setFst (.ctx x) n st =
    ((k.setFn (.ctx x) { k.fn (.ctx x) with fst := n, since := k.now }).putPhase x (ctxPhase n (k.phase x))).ctxEvent x n.code
      (ctxPhase n (k.phase x)) (k.fst (.ctx x)).code (k.phase x) st := rfl

theorem Core.setFst_ctx_cle (x : Nat) (n : FState) (st : Nat) :
    (k.setFst (.ctx x) n st).cle = (k.putPhase x (ctxPhase n (k.phase x))).cle := by
  rw [Core.setFst_ctx, Core.ctxEvent_cle]
  rfl

theorem Core.phase_setFst_ctx (x : Nat) (n : FState) (st : Nat) : (k.setFst (.ctx x) n st).phase x = ctxPhase n (k.phase x) :=
  (Core.phase_of_runs (congrArg Cle.runs (k.setFst_ctx_cle x n st)) x).trans (k.phase_putPhase x _)

theorem Core.setPhase_cle (x ph st : Nat) : (k.setPhase x ph st).cle = (k.putPhase x ph).cle := by
  unfold Core.setPhase
  rw [Core.ctxEvent_cle]

theorem Core.setPhase_tbl (x ph st : Nat) : (k.setPhase x ph st).tbl = k.tbl := by
  unfold Core.setPhase
  rw [Core.ctxEvent_tbl, Core.putPhase_tbl]

theorem Core.setPhase_regs (x ph st : Nat) {a : Nat} (h : ¬ evReg a) : (k.setPhase x ph st).rd a = k.rd a := by
  unfold Core.setPhase Core.ctxEvent
  rw [Core.rd_emit _ _ _ _ h]
  rfl

theorem Core.only_setPhase {l : List Part} {r : List Nat} (h : Part.cle ∈ l) (x ph st : Nat) :
    k.onlyParts l (k.setPhase x ph st) ∧ k.onlyRegs r (k.setPhase x ph st) :=
  ⟨Core.onlyParts_trans (Core.onlyParts_cle h _) (Core.onlyParts_emit _ _ _),
    fun _ _ h1 h2 => k.setPhase_regs x ph st (by simp [evReg, h1, h2])⟩

end

/-! ### What a command of the collective engine reports -/

/-- The core after a management command of the collective engine, which shows its status in CLE_STAT. -/
theorem State.mgmt_cleCmd {s t : State} (ha : s.answers = true) {g : Core → Core × Nat} {k : Core} {st : Nat}
    (hk : g s.core = (k, st)) (hst : st < 256) (ht : t = s.mgmt Reg.CLE_STAT g) :
    t.core.tbl = k.tbl ∧ t.core.fns = k.fns ∧ t.core.cle = k.cle ∧ t.core.fd Reg.CLE_STAT 7 0 = st ∧
      (∀ a, ¬ evReg a → a ≠ Reg.CLE_STAT → t.core.rd a = k.rd a) ∧
      ∀ (l : List Part) (r : List Nat), Reg.CLE_STAT ∈ r → s.core.onlyParts l k → s.core.onlyRegs r k → s.only l r t := by
  subst ht
  refine ⟨?_, ?_, ?_, ?_, fun a hev hne => ?_, fun l r hr hp hq => State.only_mgmt s ha _ _ hr (hk ▸ hp) (hk ▸ hq)⟩
  · rw [State.mgmt_tbl s ha, hk]
  · rw [State.mgmt_fns s ha, hk]
  · rw [State.mgmt_cle s ha, hk]
  · rw [State.mgmt_status s ha _ _ (by unfold evReg; decide), hk]
    exact Nat.mod_eq_of_lt hst
  · rw [State.rd_mgmt s ha _ _ hev hne, hk]

end Sys2Proof.Machine
end

section
/-!
PROOFS. Contexts enabled, disabled and written (05_collectives R121 to R123, R144, R434).
-/

namespace Sys2Proof.Machine

open Sys2Proof

/-! ### ENABLE (R123) -/

section
variable (k : Core) (x : Nat)

/-- The state words of a context as its start clears them. -/
def Core.ctxWords : Core :=
  ([0x40, 0x48, 0x50, 0x58, 0x60, 0x68, 0x70, 0x78].foldl (fun (k : Core) off => k.setCc x off 0) k).setCc x 0x60 0xFFFFFFFF

theorem Core.ctxStart_eq : Core.ctxStart x k = (((k.ctxWords x).setRun x
    (fun r => { r with worst := 0, elems := 0, due := none, ref := {} })).ensureJob x).setFst (.ctx x) .on stOk := rfl

theorem Core.onlyTbl_ctxWords : k.OnlyTbl (k.ctxWords x) := (k.onlyTbl_clearCc x _).trans (Core.onlyTbl_setCc _ _ _ _)

theorem Core.cc_ctxWords_cleared : ∀ off ∈ [0x40, 0x48, 0x50, 0x58, 0x68, 0x70, 0x78], (k.ctxWords x).cc x off = 0 := by
  intro off hoff
  rw [Core.ctxWords, Core.cc_setCc_ne _ (by revert off; decide)]
  exact k.cc_clear _ (by revert off; decide) (by revert off; decide)

theorem Core.cc_ctxWords_last : (k.ctxWords x).cc x 0x60 = 0xFFFFFFFF := Core.cc_setCc_same _ _ _ _

theorem Core.setRun_tbl {k : Core} (x : Nat) (f : CtxRun → CtxRun) : (k.setRun x f).tbl = k.tbl := rfl

theorem Core.only_setRun {k : Core} {l : List Part} {r : List Nat} (h : Part.cle ∈ l) (x : Nat) (f : CtxRun → CtxRun) :
    k.onlyParts l (k.setRun x f) ∧ k.onlyRegs r (k.setRun x f) := ⟨Core.onlyParts_cle h _, Core.onlyRegs_of_regs rfl⟩

theorem Core.cc_ctxStart {off : Nat} (hx : x < 4096) (ho : off < 0x7C) : (Core.ctxStart x k).cc x off = (k.ctxWords x).cc x off := by
  rw [Core.ctxStart_eq, Core.cc_of_tbl (Core.setFst_tbl _ _ _ _), (Core.jobWork_ensureJob _ _).cc hx ho,
    Core.cc_of_tbl (Core.setRun_tbl _ _)]

theorem Core.fst_ctxStart : (Core.ctxStart x k).fst (.ctx x) = .on := Core.fst_setFst_same _ _ _ _

theorem Core.phase_ctxStart : (Core.ctxStart x k).phase x = 1 := Core.phase_setFst_ctx _ _ _ _

theorem Core.only_ctxStart {l : List Part} {r : List Nat} (hf : Part.fns ∈ l) (hc : Part.cle ∈ l) (ht : Part.tbl ∈ l)
    (hs : Part.site ∈ l) : k.onlyParts l (Core.ctxStart x k) ∧ k.onlyRegs r (Core.ctxStart x k) := by
  have hw := k.onlyTbl_ctxWords x
  have hrun := (k.ctxWords x).only_setRun (l := l) (r := r) hc x (fun r => { r with worst := 0, elems := 0, due := none, ref := {} })
  rw [Core.ctxStart_eq]
  generalize k.ctxWords x = k₁ at hw hrun ⊢
  generalize k₁.setRun x _ = k₂ at hrun ⊢
  have hjob := k₂.jobWork_ensureJob x
  exact ⟨Core.onlyParts_trans (hw.onlyParts ht) (Core.onlyParts_trans hrun.1
      (Core.onlyParts_trans (hjob.onlyParts ht hs) (Core.onlyParts_setFst _ _ _ hf hc))),
    Core.onlyRegs_trans hw.onlyRegs (Core.onlyRegs_trans hrun.2
      (Core.onlyRegs_trans (hjob.onlyRegs _) (Core.onlyRegs_setFst _ _ _)))⟩

theorem Core.only_fnLast {k : Core} {l : List Part} {r : List Nat} (h : Part.fns ∈ l) (i : FnId) (st : Nat) :
    k.onlyParts l (k.fnLast i st) ∧ k.onlyRegs r (k.fnLast i st) := ⟨Core.onlyParts_setFn h _ _, Core.onlyRegs_setFn _ _⟩

theorem Core.ctxCmd_enable (h : k.fst (.ctx x) = .off) (hck : Core.ctxCheck x (k.setFst (.ctx x) .starting stOk) = stOk) :
    k.ctxCmd 1 x = ((Core.ctxStart x (k.setFst (.ctx x) .starting stOk)).fnLast (.ctx x) stOk, stOk) := by
  have hen : k.fnEnable (.ctx x) (Core.ctxCheck x) (Core.ctxStart x) =
      (Core.ctxStart x (k.setFst (.ctx x) .starting stOk), stOk) := by
    unfold Core.fnEnable Core.fnStart
    rw [h]
    exact if_pos hck
  simp only [Core.ctxCmd, hen]

end

/-- ENABLE of an OFF context that passes its checks. -/
theorem State.cleCtxEnable_starts {x : Fin 4096} {s t : State} (ha : s.answers = true) (h : s.core.fst (.ctx x) = .off)
    (hck : Core.ctxCheck x (s.core.setFst (.ctx x) .starting stOk) = stOk)
    (ht : t = s.mgmt Reg.CLE_STAT (fun k => k.ctxCmd 1 x)) :
    t.core.fst (.ctx x) = .on ∧ t.core.phase x = 1 ∧
      (∀ off ∈ [0x40, 0x48, 0x50, 0x58, 0x68, 0x70, 0x78], t.core.cc x off = 0) ∧ t.core.cc x 0x60 = 0xFFFFFFFF ∧
      t.core.fd Reg.CLE_STAT 7 0 = stOk ∧ s.only [.fns, .cle, .tbl, .site] [Reg.CLE_STAT] t := by
  obtain ⟨htbl, hfns, hcle, hst, -, honly⟩ := State.mgmt_cleCmd ha (s.core.ctxCmd_enable x h hck) (by decide) ht
  have hcc : ∀ off, off < 0x7C → t.core.cc x off = ((s.core.setFst (.ctx x) .starting stOk).ctxWords x).cc x off := fun off ho => by
    rw [Core.cc_of_tbl (htbl.trans (Core.fnLast_tbl _ _ _)), Core.cc_ctxStart _ _ x.isLt ho]
  have hstart := (s.core.setFst (.ctx x) .starting stOk).only_ctxStart x (l := [.fns, .cle, .tbl, .site])
    (r := [Reg.CLE_STAT]) (by simp) (by simp) (by simp) (by simp)
  have hlast := Core.only_fnLast (k := Core.ctxStart x (s.core.setFst (.ctx x) .starting stOk))
    (l := [.fns, .cle, .tbl, .site]) (r := [Reg.CLE_STAT]) (by simp) (.ctx x) stOk
  refine ⟨?_, ?_, fun off hoff => ?_, ?_, hst, honly _ _ (by simp) ?_ ?_⟩
  · rw [Core.fst_of_fns hfns, Core.fst_fnLast, Core.fst_ctxStart]
  · rw [Core.phase_of_runs (congrArg Cle.runs hcle), Core.phase_of_runs (congrArg Cle.runs (Core.fnLast_cle _ _ _)),
      Core.phase_ctxStart]
  · rw [hcc off (by revert off; decide), Core.cc_ctxWords_cleared _ _ _ hoff]
  · rw [hcc _ (by decide), Core.cc_ctxWords_last]
  · exact Core.onlyParts_trans (Core.onlyParts_setFst _ _ _ (by simp) (by simp)) (Core.onlyParts_trans hstart.1 hlast.1)
  · exact Core.onlyRegs_trans (Core.onlyRegs_setFst _ _ _) (Core.onlyRegs_trans hstart.2 hlast.2)

/-! ### DISABLE of a context in no collective (R144) -/

section
variable (k : Core) (x : Nat)

/-- What DISABLE of an ARMED or PARKED context leaves. -/
def Core.ctxIdleOff : Core := ((k.unmatch x).unpark x).setFst (.ctx x) .off stOk

theorem Core.ctxIdleOff_cle : (k.ctxIdleOff x).cle.park = k.cle.park.filter (fun p => p.x != x) ∧
    (k.ctxIdleOff x).cle.failQ = k.cle.failQ := by
  unfold Core.ctxIdleOff
  rw [Core.setFst_ctx_cle]
  exact ⟨rfl, rfl⟩

theorem Core.only_ctxIdleOff {l : List Part} {r : List Nat} (hf : Part.fns ∈ l) (hc : Part.cle ∈ l) :
    k.onlyParts l (k.ctxIdleOff x) ∧ k.onlyRegs r (k.ctxIdleOff x) :=
  ⟨Core.onlyParts_trans (Core.onlyParts_trans (Core.onlyParts_cle hc _) (Core.onlyParts_cle hc _))
    (Core.onlyParts_setFst _ _ _ hf hc), Core.onlyRegs_trans (Core.onlyRegs_of_regs rfl) (Core.onlyRegs_setFst _ _ _)⟩

theorem Core.ctxCmd_disable_idle (h : k.fst (.ctx x) = .on) (hp : k.phase x = 1 ∨ k.phase x = 2) :
    k.ctxCmd 2 x = ((k.ctxIdleOff x).fnLast (.ctx x) stOk, stOk) := by
  have hd : k.ctxDisable x = (k.ctxIdleOff x, stOk) := by
    unfold Core.ctxDisable Core.isOn
    exact if_pos (by rcases hp with hp | hp <;> simp [h, hp])
  simp only [Core.ctxCmd, hd]

end

/-- DISABLE of an ARMED or PARKED context. -/
theorem State.cleCtxDisable_idle {x : Fin 4096} {s t : State} (ha : s.answers = true) (h : s.core.fst (.ctx x) = .on)
    (hq : s.core.cle.failQ = []) (hp : s.core.phase x = 1 ∨ s.core.phase x = 2)
    (ht : t = s.mgmt Reg.CLE_STAT (fun k => let r := k.ctxCmd 2 x; (r.1.settle, r.2))) :
    t.core.fst (.ctx x) = .off ∧ t.core.phase x = 0 ∧
      t.core.cle.park = s.core.cle.park.filter (fun p => p.x != x.val) ∧
      t.core.fd Reg.CLE_STAT 7 0 = stOk ∧ s.only [.fns, .cle] [Reg.CLE_STAT] t := by
  obtain ⟨hpark, hfq⟩ := s.core.ctxIdleOff_cle x
  have hk : (fun (k : Core) => let r := k.ctxCmd 2 x; (r.1.settle, r.2)) s.core =
      ((s.core.ctxIdleOff x).fnLast (.ctx x) stOk, stOk) := by
    dsimp only
    rw [s.core.ctxCmd_disable_idle x h hp, Core.settle_of_no_failure (by rw [Core.fnLast_cle, hfq, hq])]
  obtain ⟨-, hfns, hcle, hst, -, honly⟩ := State.mgmt_cleCmd ha hk (by decide) ht
  have hidle := s.core.only_ctxIdleOff x (l := [.fns, .cle]) (r := [Reg.CLE_STAT]) (by simp) (by simp)
  have hlast := Core.only_fnLast (k := s.core.ctxIdleOff x) (l := [.fns, .cle]) (r := [Reg.CLE_STAT]) (by simp) (.ctx x) stOk
  refine ⟨?_, ?_, ?_, hst, honly _ _ (by simp) (Core.onlyParts_trans hidle.1 hlast.1) (Core.onlyRegs_trans hidle.2 hlast.2)⟩
  · rw [Core.fst_of_fns hfns, Core.fst_fnLast]
    exact Core.fst_setFst_same _ _ _ _
  · rw [Core.phase_of_runs (congrArg Cle.runs hcle), Core.phase_of_runs (congrArg Cle.runs (Core.fnLast_cle _ _ _))]
    exact Core.phase_setFst_ctx _ _ _ _
  · rw [hcle, Core.fnLast_cle, hpark]

/-! ### CLE_CTX_WRITE (R122) -/

theorem cctxWrite_taken {k : Core} {w : Nat} (hw : w % 32 < 16) (h : k.isOff (.ctx (w / 32)) = true) (v : Nat) :
    cctxWrite k w v = (k.tbw Reg.CLE_CTX_TBL w v, stOk) := by
  unfold cctxWrite
  rw [if_neg (by omega), if_pos h]

/-- A configuration word of an OFF context. -/
theorem State.cleCtxWrite_taken {v : Word} {w : Nat} {s t : State} (ha : s.answers = true)
    (hw : s.core.fd Reg.CLE_CTX_TBL 23 0 = w) (hlt : w < 131072) (hcfg : w % 32 < 16)
    (hoff : s.core.isOff (.ctx (w / 32)) = true) (ht : t = s.mgmtWin Reg.CLE_STAT Reg.CLE_CTX_TBL 131072 cctxWrite v.toNat) :
    t.core.tb Reg.CLE_CTX_TBL w = v.toNat ∧ t.core.fd Reg.CLE_CTX_TBL 23 0 = w + 1 ∧
      t.core.fd Reg.CLE_CTX_TBL 31 24 = stOk ∧ s.only [.tbl] [Reg.CLE_CTX_TBL, Reg.CLE_STAT] t := by
  obtain ⟨htbl, -, hword, hst, honly⟩ := State.mgmtWin_of_word (l := [.tbl]) ha hw hlt (cctxWrite_taken hcfg hoff v.toNat)
    rfl (Core.onlyParts_tbw (by simp) _ _ _) (by omega) (by decide) (by unfold evReg; decide) ht
  refine ⟨?_, hword, hst, honly⟩
  rw [Core.tb_of_tbl htbl, Core.tb_tbw_same, Nat.mod_eq_of_lt v.isLt]

end Sys2Proof.Machine
end

section
/-!
PROOFS. A START that enters RUN and one that is parked (05_collectives R141 to R145).
-/

namespace Sys2Proof.Machine

open Sys2Proof

theorem Core.cf_of_cc {k : Core} {x off v : Nat} (h : k.cc x off = v) (hi lo : Nat) : k.cf x off hi lo = fld v hi lo := by
  unfold Core.cf; rw [h]

/-! ### Entering RUN (R145) -/

/-- What follows the words of a collective that enters RUN: the context's words, its phase and what is parked stand. -/
structure Core.RunFollows (x : Nat) (k k' : Core) : Prop where
  ctx : ∀ w, w < 131072 → k'.tb Reg.CLE_CTX_TBL w = k.tb Reg.CLE_CTX_TBL w
  phase : k'.phase x = k.phase x
  park : k'.cle.park = k.cle.park
  failQ : k'.cle.failQ = k.cle.failQ
  parts : k.onlyParts [.fns, .cle, .tbl, .site, .xfm] k'
  regs : k'.regs = k.regs

section
variable {k k' k'' : Core} {x : Nat}

theorem Core.RunFollows.refl (x : Nat) (k : Core) : Core.RunFollows x k k :=
  ⟨fun _ _ => rfl, rfl, rfl, rfl, Core.onlyParts_refl _ _, rfl⟩

theorem Core.RunFollows.trans (h : Core.RunFollows x k k') (h' : Core.RunFollows x k' k'') : Core.RunFollows x k k'' :=
  ⟨fun w hw => (h'.ctx w hw).trans (h.ctx w hw), h'.phase.trans h.phase, h'.park.trans h.park, h'.failQ.trans h.failQ,
    Core.onlyParts_trans h.parts h'.parts, h'.regs.trans h.regs⟩

theorem Core.RunFollows.cc (h : Core.RunFollows x k k') {off : Nat} (hx : x < 4096) (ho : off < 0x7C) : k'.cc x off = k.cc x off :=
  Core.cc_of_words fun w hw => h.ctx w (by omega)

theorem Core.phase_setRun_same (f : CtxRun → CtxRun) (hf : ∀ r, (f r).phase = r.phase) : (k.setRun x f).phase x = k.phase x := by
  unfold Core.phase Core.setRun SMap.upd
  rw [SMap.get_set_same, hf]

theorem Core.runFollows_firstStep (k : Core) (x step : Nat) : Core.RunFollows x k (k.firstStep x step) := by
  have hjob := k.jobWork_firstStep x step
  refine ⟨fun w hw => hjob.words _ w (by decide) (by omega), Core.phase_of_runs (by rw [hjob.cle]) x, by rw [hjob.cle], by rw [hjob.cle],
    hjob.onlyParts (by simp) (by simp), ?_⟩
  obtain ⟨⟨_, _, heq⟩, -⟩ := hjob
  rw [heq]

theorem Core.runFollows_matchHeld (k : Core) (x seq : Nat) : Core.RunFollows x k (k.matchHeld x seq) :=
  ⟨fun _ _ => rfl, rfl, rfl, rfl, Core.onlyParts_cle (by simp) _, rfl⟩

theorem Core.runFollows_refItem (k : Core) (x : Nat) (i : RxItem) : Core.RunFollows x k (k.refItem x i) := by
  unfold Core.refItem
  split
  · exact ⟨fun _ _ => rfl, Core.phase_setRun_same _ fun _ => rfl, rfl, rfl, Core.onlyParts_cle (by simp) _, rfl⟩
  · exact .refl x k

theorem Core.runFollows_foldl {α : Type} {g : Core → α → Core} (hg : ∀ k a, Core.RunFollows x k (g k a)) (l : List α)
    (k : Core) : Core.RunFollows x k (l.foldl g k) := by
  induction l generalizing k with
  | nil => exact .refl x k
  | cons a l ih => exact (hg k a).trans (ih _)

theorem Core.runFollows_rankBegin (k : Core) (x : Nat) : Core.RunFollows x k (k.rankBegin x) := by
  unfold Core.rankBegin
  split
  · exact .refl x k
  · exact ⟨fun _ _ => rfl, rfl, rfl, rfl, Core.onlyParts_xfm (by simp) _, rfl⟩

end

section
variable (k : Core) (x seq step predCtx predSeq elems : Nat) (due : Option Nat)

/-- The words of a collective that enters RUN, `n` its elements. -/
def Core.runWords (n : Nat) : Core :=
  let k := (k.setCc x 0x40 (seq * 2 ^ 32 + step)).setCf x 0x48 63 20 (predSeq * 2 ^ 12 + predCtx)
  let k := ((k.setCc x 0x50 (((n + 16383) / 16384) * 2 ^ 32)).setCc x 0x58 0).setCc x 0x60 0xFFFFFFFF
  k.setCc x 0x68 k.gns

theorem Core.onlyTbl_runWords (n : Nat) : k.OnlyTbl (k.runWords x seq step predCtx predSeq n) :=
  (((((k.onlyTbl_setCc _ _ _).trans (Core.onlyTbl_setCf _ _ _ _ _ _)).trans (Core.onlyTbl_setCc _ _ _ _)).trans
    (Core.onlyTbl_setCc _ _ _ _)).trans (Core.onlyTbl_setCc _ _ _ _)).trans (Core.onlyTbl_setCc _ _ _ _)

theorem Core.cc_runWords_start (n : Nat) (h : seq < 2 ^ 32) (h' : step < 2 ^ 32) :
    (k.runWords x seq step predCtx predSeq n).cc x 0x40 = seq * 2 ^ 32 + step := by
  unfold Core.runWords
  rw [Core.cc_setCc_ne _ (by decide), Core.cc_setCc_ne _ (by decide), Core.cc_setCc_ne _ (by decide),
    Core.cc_setCc_ne _ (by decide), Core.cc_setCf_ne _ (by decide), Core.cc_setCc_same]
  omega

theorem Core.cc_runWords_progress (n : Nat) : (k.runWords x seq step predCtx predSeq n).cc x 0x58 = 0 := by
  unfold Core.runWords
  rw [Core.cc_setCc_ne _ (by decide), Core.cc_setCc_ne _ (by decide), Core.cc_setCc_same]
  rfl

/-- The context's run as its START sets it. -/
def Core.runBegun : Core := k.setRun x (fun r => { r with worst := stOk, elems := elems, due := due, ref := {} })

/-- The words and the phase of RUN, before what is staged is matched. -/
def Core.runOpened (n : Nat) : Core := (k.runWords x seq step predCtx predSeq n).setPhase x 3 stOk

theorem Core.enterRun_eq : k.enterRun x seq step predCtx predSeq elems due =
    (let k := (((k.runBegun x elems due).runOpened x seq step predCtx predSeq
        (if elems = 0 then k.cElems x else elems)).firstStep x step).matchHeld x seq
     (k.cle.rx.foldl (fun k i => k.refItem x i) k).rankBegin x) := rfl

theorem Core.runFollows_enterRun : Core.RunFollows x
    ((k.runBegun x elems due).runOpened x seq step predCtx predSeq (if elems = 0 then k.cElems x else elems))
    (k.enterRun x seq step predCtx predSeq elems due) := by
  rw [Core.enterRun_eq]
  exact (((Core.runFollows_firstStep _ x step).trans (Core.runFollows_matchHeld _ x seq)).trans
    (Core.runFollows_foldl (fun k i => k.runFollows_refItem x i) _ _)).trans (Core.runFollows_rankBegin _ x)

theorem Core.cc_runOpened (n off : Nat) : (k.runOpened x seq step predCtx predSeq n).cc x off =
    (k.runWords x seq step predCtx predSeq n).cc x off := Core.cc_of_tbl (Core.setPhase_tbl _ _ _ _) _ _

theorem Core.runOpened_cle (n : Nat) : (k.runOpened x seq step predCtx predSeq n).cle.park = k.cle.park ∧
    (k.runOpened x seq step predCtx predSeq n).cle.failQ = k.cle.failQ := by
  have hw := (k.onlyTbl_runWords x seq step predCtx predSeq n).cle
  unfold Core.runOpened
  rw [Core.setPhase_cle]
  generalize k.runWords x seq step predCtx predSeq n = k' at hw ⊢
  have hph : (k'.putPhase x 3).cle.park = k'.cle.park ∧ (k'.putPhase x 3).cle.failQ = k'.cle.failQ := ⟨rfl, rfl⟩
  exact ⟨hph.1.trans (congrArg Cle.park hw), hph.2.trans (congrArg Cle.failQ hw)⟩

theorem Core.phase_runOpened (n : Nat) : (k.runOpened x seq step predCtx predSeq n).phase x = 3 :=
  (Core.phase_of_runs (congrArg Cle.runs (Core.setPhase_cle _ _ _ _)) x).trans (Core.phase_putPhase _ _ _)

theorem Core.only_runOpened {l : List Part} {r : List Nat} (ht : Part.tbl ∈ l) (hc : Part.cle ∈ l) (n : Nat) :
    k.onlyParts l (k.runOpened x seq step predCtx predSeq n) ∧ k.onlyRegs r (k.runOpened x seq step predCtx predSeq n) := by
  have hw := k.onlyTbl_runWords x seq step predCtx predSeq n
  have hph := (k.runWords x seq step predCtx predSeq n).only_setPhase (l := l) (r := r) hc x 3 stOk
  exact ⟨Core.onlyParts_trans (hw.onlyParts ht) hph.1, Core.onlyRegs_trans hw.onlyRegs hph.2⟩

/-- What a context that enters RUN shows, and what that leaves. -/
theorem Core.enterRun_spec {r : List Nat} {k' : Core} (hx : x < 4096) (hs : seq < 2 ^ 32) (ht : step < 2 ^ 32)
    (hk : k' = k.enterRun x seq step predCtx predSeq elems due) :
    k'.phase x = 3 ∧ k'.cc x 0x40 = seq * 2 ^ 32 + step ∧ k'.cc x 0x58 = 0 ∧ k'.cle.park = k.cle.park ∧
      k'.cle.failQ = k.cle.failQ ∧ k.onlyParts [.fns, .cle, .tbl, .site, .xfm] k' ∧ k.onlyRegs r k' := by
  have hfol := k.runFollows_enterRun x seq step predCtx predSeq elems due
  have hbegun := k.only_setRun (l := [.fns, .cle, .tbl, .site, .xfm]) (r := r) (by simp) x
    (fun r => { r with worst := stOk, elems := elems, due := due, ref := {} })
  have hopen := (k.runBegun x elems due).only_runOpened x seq step predCtx predSeq (l := [.fns, .cle, .tbl, .site, .xfm])
    (r := r) (by simp) (by simp) (if elems = 0 then k.cElems x else elems)
  obtain ⟨hpark, hfq⟩ := (k.runBegun x elems due).runOpened_cle x seq step predCtx predSeq
    (if elems = 0 then k.cElems x else elems)
  rw [← hk] at hfol
  refine ⟨?_, ?_, ?_, hfol.park.trans hpark, hfol.failQ.trans hfq,
    Core.onlyParts_trans hbegun.1 (Core.onlyParts_trans hopen.1 hfol.parts),
    Core.onlyRegs_trans hbegun.2 (Core.onlyRegs_trans hopen.2 (Core.onlyRegs_of_regs hfol.regs))⟩
  · rw [hfol.phase, Core.phase_runOpened]
  · rw [hfol.cc hx (by decide), Core.cc_runOpened, Core.cc_runWords_start _ _ _ _ _ _ _ hs ht]
  · rw [hfol.cc hx (by decide), Core.cc_runOpened, Core.cc_runWords_progress]

theorem Core.releaseParked_nil {k : Core} (h : k.cle.park = []) : ∀ n, Core.releaseParked n k = k
  | 0 => rfl
  | n + 1 => by
    unfold Core.releaseParked
    rw [h]
    rfl

/-- A START whose predecessor is satisfied, nothing being parked. -/
theorem Core.startGo_enters (hp : k.predOk predCtx predSeq = true)
    (hpark : (k.enterRun x seq step predCtx predSeq ((k.shardElems x).getD 0) due).cle.park = []) :
    k.startGo x seq step predCtx predSeq due = (k.enterRun x seq step predCtx predSeq ((k.shardElems x).getD 0) due, stOk) := by
  unfold Core.startGo
  rw [if_pos hp, Core.releaseParked_nil hpark]

/-- The parking entry a START takes. -/
def Core.parkEntry (e : Nat) : Park :=
  { e := e, x := x, seq := seq, step := step, predCtx := predCtx, predSeq := predSeq
    elems := (k.shardElems x).getD 0, due := due, t := k.now }

/-- The entry parked and counted. -/
def Core.parked (p : Park) : Core :=
  let k : Core := { k with cle := { k.cle with park := k.cle.park ++ [p] } }
  (k.cnt Reg.CLE_PARK_CNT).wr Reg.CLE_PARK_HWM (max (k.rd Reg.CLE_PARK_HWM) k.cle.park.length)

theorem Core.rd_parked (p : Park) : (k.parked p).rd Reg.CLE_PARK_CNT = min (k.rd Reg.CLE_PARK_CNT + 1) (2 ^ 32 - 1) := by
  unfold Core.parked
  dsimp only
  rw [Core.rd_wr_ne _ (by decide), Core.rd_cnt_same]
  rfl

theorem Core.only_parked {l : List Part} {r : List Nat} (hc : Part.cle ∈ l) (hn : Reg.CLE_PARK_CNT ∈ r)
    (hm : Reg.CLE_PARK_HWM ∈ r) (p : Park) : k.onlyParts l (k.parked p) ∧ k.onlyRegs r (k.parked p) :=
  ⟨Core.onlyParts_trans (Core.onlyParts_cle hc _) (Core.onlyParts_trans (Core.onlyParts_cnt _) (Core.onlyParts_wr _ _)),
    Core.onlyRegs_trans (Core.onlyRegs_of_regs rfl) (Core.onlyRegs_trans (Core.onlyRegs_cnt hn) (Core.onlyRegs_wr hm _))⟩

/-- A START whose predecessor is not satisfied, a parking entry being free. -/
theorem Core.startGo_parks {e : Nat} (hp : k.predOk predCtx predSeq = false) (he : k.parkSlot = some e) :
    ∃ k' : Core, k.startGo x seq step predCtx predSeq due = (k', stOk) ∧ k'.phase x = 2 ∧
      k'.cle.park = k.cle.park ++ [k.parkEntry x seq step predCtx predSeq due e] ∧ k'.cle.failQ = k.cle.failQ ∧
      k'.rd Reg.CLE_PARK_CNT = min (k.rd Reg.CLE_PARK_CNT + 1) (2 ^ 32 - 1) ∧ k.onlyParts [.fns, .cle] k' ∧
      k.onlyRegs [Reg.CLE_PARK_CNT, Reg.CLE_PARK_HWM] k' := by
  have hgo : k.startGo x seq step predCtx predSeq due =
      ((((k.parked (k.parkEntry x seq step predCtx predSeq due e)).setPhase x 2 stOk).matchHeld x seq).emit 0x2111 0x0405
        [(107, 96, x), (95, 64, seq), (63, 32, predSeq), (8, 0, (k.cle.park ++ [k.parkEntry x seq step predCtx predSeq due e]).length)],
        stOk) := by
    unfold Core.startGo
    rw [if_neg (by rw [hp]; decide), he]
    rfl
  generalize k.parkEntry x seq step predCtx predSeq due e = p at hgo ⊢
  have hpark := k.only_parked (l := [.fns, .cle]) (r := [Reg.CLE_PARK_CNT, Reg.CLE_PARK_HWM]) (by simp) (by simp) (by simp) p
  have hset := (k.parked p).only_setPhase (l := [.fns, .cle]) (r := [Reg.CLE_PARK_CNT, Reg.CLE_PARK_HWM]) (by simp) x 2 stOk
  have hcle : ((k.parked p).putPhase x 2).cle.park = k.cle.park ++ [p] ∧ ((k.parked p).putPhase x 2).cle.failQ = k.cle.failQ :=
    ⟨rfl, rfl⟩
  have hmatch := ((k.parked p).setPhase x 2 stOk).runFollows_matchHeld x seq
  refine ⟨_, hgo, ?_, ?_, ?_, ?_, ?_, ?_⟩
  · rw [Core.phase_of_runs (congrArg Cle.runs (Core.emit_cle _ _ _ _)), hmatch.phase,
      Core.phase_of_runs (congrArg Cle.runs (Core.setPhase_cle _ _ _ _)), Core.phase_putPhase]
  · rw [Core.emit_cle, hmatch.park, Core.setPhase_cle]
    exact hcle.1
  · rw [Core.emit_cle, hmatch.failQ, Core.setPhase_cle]
    exact hcle.2
  · rw [Core.rd_emit _ _ _ _ (by unfold evReg; decide), Core.rd_of_regs hmatch.regs,
      Core.setPhase_regs _ _ _ _ (by unfold evReg; decide), Core.rd_parked]
  · exact Core.onlyParts_trans hpark.1 (Core.onlyParts_trans hset.1 (Core.onlyParts_trans (Core.onlyParts_cle (by simp) _)
      (Core.onlyParts_emit _ _ _)))
  · exact Core.onlyRegs_trans hpark.2 (Core.onlyRegs_trans hset.2 (Core.onlyRegs_trans (Core.onlyRegs_of_regs hmatch.regs)
      (Core.onlyRegs_emit _ _ _)))

/-- A START that passes its checks, of a context no rank descriptor starts. -/
theorem Core.ctxCmd_start {r : Core × Nat} (hP : (k.rkBy Core.rkP x).isSome = false) (hQ : (k.rkBy Core.rkQ x).isSome = false)
    (hck : k.startCheck x (k.rd Reg.CLE_START_SEQ) (k.fd Reg.CLE_START_PRED 11 0) = stOk)
    (hgo : k.startGo x (k.rd Reg.CLE_START_SEQ) (k.rd Reg.CLE_START_STEP) (k.fd Reg.CLE_START_PRED 11 0)
      (k.rd Reg.CLE_START_PSEQ) none = r) : k.ctxCmd 3 x = (r.1.fnLast (.ctx x) r.2, r.2) := by
  simp only [Core.ctxCmd, Core.startCtx, hP, hQ, hck, hgo, Bool.or_self, Bool.false_eq_true, if_false, if_true]

end

section
variable {x : Fin 4096} {s t : State} (ha : s.answers = true) (hq : s.core.cle.failQ = [])
  (hP : (s.core.rkBy Core.rkP x).isSome = false) (hQ : (s.core.rkBy Core.rkQ x).isSome = false)
  (hck : s.core.startCheck x (s.core.rd Reg.CLE_START_SEQ) (s.core.fd Reg.CLE_START_PRED 11 0) = stOk)
  (ht : t = s.mgmt Reg.CLE_STAT (fun k => let r := k.ctxCmd 3 x; (r.1.settle, r.2)))

include ha hP hQ hck ht

/-- What CLE_START reports where the START goes through. -/
theorem State.mgmt_cleStart {k : Core} (hgo : s.core.startGo x (s.core.rd Reg.CLE_START_SEQ) (s.core.rd Reg.CLE_START_STEP)
      (s.core.fd Reg.CLE_START_PRED 11 0) (s.core.rd Reg.CLE_START_PSEQ) none = (k, stOk)) (hq : k.cle.failQ = []) :
    t.core.tbl = k.tbl ∧ t.core.cle = k.cle ∧ t.core.fd Reg.CLE_STAT 7 0 = stOk ∧
      (∀ a, ¬ evReg a → a ≠ Reg.CLE_STAT → t.core.rd a = k.rd a) ∧
      ∀ (l : List Part) (r : List Nat), Part.fns ∈ l → Reg.CLE_STAT ∈ r → s.core.onlyParts l k → s.core.onlyRegs r k →
        s.only l r t := by
  have hk : (fun (k : Core) => let r := k.ctxCmd 3 x; (r.1.settle, r.2)) s.core = (k.fnLast (.ctx x) stOk, stOk) := by
    simp only [s.core.ctxCmd_start x hP hQ hck hgo]
    rw [Core.settle_of_no_failure (by rw [Core.fnLast_cle, hq])]
  obtain ⟨htbl, -, hcl, hst, hrd, honly⟩ := State.mgmt_cleCmd ha hk (by decide) ht
  refine ⟨htbl.trans (Core.fnLast_tbl _ _ _), hcl.trans (Core.fnLast_cle _ _ _), hst, hrd, fun l r hl hr hp hr' => ?_⟩
  have hlast := Core.only_fnLast (k := k) (r := r) hl (.ctx x) stOk
  exact honly l r hr (Core.onlyParts_trans hp hlast.1) (Core.onlyRegs_trans hr' hlast.2)

include hq

/-- CLE_START of a collective whose predecessor is satisfied (R145). -/
theorem State.cleStart_enters (hpark : s.core.cle.park = [])
    (hp : s.core.predOk (s.core.fd Reg.CLE_START_PRED 11 0) (s.core.rd Reg.CLE_START_PSEQ) = true) :
    t.core.phase x = 3 ∧ t.core.cSeq x = s.core.rd Reg.CLE_START_SEQ ∧ t.core.cStep x = s.core.rd Reg.CLE_START_STEP ∧
      t.core.cReleased x = 0 ∧ t.core.cChecked x = 0 ∧ t.core.fd Reg.CLE_STAT 7 0 = stOk ∧
      s.only [.fns, .cle, .tbl, .site, .xfm] [Reg.CLE_STAT] t := by
  have hseq := s.core.rd_lt Reg.CLE_START_SEQ
  have hstep := s.core.rd_lt Reg.CLE_START_STEP
  obtain ⟨hph, hword, hprog, hpk, hfq, hparts, hregs⟩ := s.core.enterRun_spec x _ _ (s.core.fd Reg.CLE_START_PRED 11 0)
    (s.core.rd Reg.CLE_START_PSEQ) ((s.core.shardElems x).getD 0) none (r := [Reg.CLE_STAT]) x.isLt hseq hstep rfl
  have hgo := s.core.startGo_enters x _ _ _ _ none hp (hpk.trans hpark)
  obtain ⟨htbl, hcl, hst, -, honly⟩ := State.mgmt_cleStart ha hP hQ hck ht hgo (hfq.trans hq)
  rw [← Core.cc_of_tbl htbl] at hword hprog
  exact ⟨(Core.phase_of_runs (congrArg Cle.runs hcl) x).trans hph, (Core.cf_of_cc hword 63 32).trans (by rw [fld_eq]; omega),
    (Core.cf_of_cc hword 31 0).trans (by rw [fld_eq]; omega), (Core.cf_of_cc hprog 63 32).trans (by decide),
    (Core.cf_of_cc hprog 31 0).trans (by decide), hst, honly _ _ (by simp) (by simp) hparts hregs⟩

/-- CLE_START of a collective that waits for its predecessor, a parking entry being free (R141 to R143). -/
theorem State.cleStart_parks {e : Nat}
    (hp : s.core.predOk (s.core.fd Reg.CLE_START_PRED 11 0) (s.core.rd Reg.CLE_START_PSEQ) = false)
    (he : s.core.parkSlot = some e) :
    t.core.phase x = 2 ∧ t.core.cle.park.length = s.core.cle.park.length + 1 ∧
      (∃ p ∈ t.core.cle.park, p.e = e ∧ p.x = x.val ∧ p.seq = s.core.rd Reg.CLE_START_SEQ ∧
        p.predSeq = s.core.rd Reg.CLE_START_PSEQ) ∧
      t.core.rd Reg.CLE_PARK_CNT = min (s.core.rd Reg.CLE_PARK_CNT + 1) (2 ^ 32 - 1) ∧ t.core.fd Reg.CLE_STAT 7 0 = stOk ∧
      s.only [.fns, .cle] [Reg.CLE_PARK_CNT, Reg.CLE_PARK_HWM, Reg.CLE_STAT] t := by
  obtain ⟨k, hgo, hph, hpark, hfq, hcnt, hparts, hregs⟩ := s.core.startGo_parks x (s.core.rd Reg.CLE_START_SEQ)
    (s.core.rd Reg.CLE_START_STEP) _ _ none hp he
  obtain ⟨-, hcl, hst, hrd, honly⟩ := State.mgmt_cleStart ha hP hQ hck ht hgo (hfq.trans hq)
  rw [← hcl] at hpark
  refine ⟨(Core.phase_of_runs (congrArg Cle.runs hcl) x).trans hph, by rw [hpark]; simp,
    ⟨_, by rw [hpark]; exact List.mem_append_right _ (List.mem_singleton_self _), rfl, rfl, rfl, rfl⟩, ?_, hst,
    honly _ _ (by simp) (by simp) hparts ?_⟩
  · rw [hrd _ (by unfold evReg; decide) (by decide), hcnt]
  · exact Core.onlyRegs_mono (by simp) hregs

end

/-- Settles O14: the context a command names ends in the state and phase of R144, its words as its start or its START sets
them. -/
theorem collectiveContexts : Obligations.CollectiveContexts := by
  unfold Obligations.CollectiveContexts
  refine ⟨?enable, ?disable, ?enters, ?parks, ?write⟩
  case enable => exact fun x s ha h hck => Completes.of_exec rfl (State.cleCtxEnable_starts ha h hck rfl)
  case disable => exact fun x s ha h hq hp => Completes.of_exec rfl (State.cleCtxDisable_idle ha h hq hp rfl)
  case enters =>
    exact fun x s ha hq hpark hP hQ hck hp => Completes.of_exec rfl (State.cleStart_enters ha hq hP hQ hck rfl hpark hp)
  case parks =>
    exact fun x e s ha hq hP hQ hck hp he => Completes.of_exec rfl (State.cleStart_parks ha hq hP hQ hck rfl hp he)
  case write => exact fun v s ha hlt hcfg hoff => Completes.of_exec rfl (State.cleCtxWrite_taken ha rfl hlt hcfg hoff rfl)

end Sys2Proof.Machine
end

section
/-!
PROOFS. Buffers taken by a unit of the gateway and the header of a packet it originates (07_buffers_memory R206, 03_fabric R69):
what each leaves and shows.
-/

namespace Sys2Proof.Machine

open Sys2Proof

/-! ### A buffer taken (R206) -/

theorem Core.onlyParts_bpm {k : Core} {l : List Part} (h : Part.bpm ∈ l) (b : Bpm) : k.onlyParts l { k with bpm := b } := by
  intro q hq
  cases q
  case bpm => exact absurd h hq
  all_goals rfl

theorem Core.onlyParts_free {k : Core} {l : List Part} (h : Part.free ∈ l) (n : Nat) : k.onlyParts l { k with free := n } := by
  intro q hq
  cases q
  case free => exact absurd h hq
  all_goals rfl

/-- What a request for a buffer leaves: everything but the pools, the next free choice and the waiting requests' count. -/
structure Core.BufWork (k k' : Core) : Prop where
  eq : ∃ b n m, k' = { k with bpm := b, free := n, regs := m }
  regs : k.onlyRegs [Reg.BPM_WAIT_CNT] k'

section
variable {k k' : Core}

theorem Core.bufWork_takeBuffer (k : Core) (r : BufReq) : k.BufWork (k.takeBuffer r).1 := by
  unfold Core.takeBuffer
  split
  · exact ⟨⟨_, _, _, rfl⟩, Core.onlyRegs_of_regs rfl⟩
  split
  · exact ⟨⟨_, _, _, rfl⟩, Core.onlyRegs_refl _ _⟩
  dsimp only
  split
  · exact ⟨⟨_, _, _, rfl⟩, Core.onlyRegs_of_regs rfl⟩
  · exact ⟨⟨_, _, _, rfl⟩, Core.onlyRegs_trans (Core.onlyRegs_of_regs rfl) (Core.onlyRegs_cnt (by simp))⟩

theorem Core.BufWork.tbl (h : k.BufWork k') : k'.tbl = k.tbl := by obtain ⟨⟨_, _, _, rfl⟩, -⟩ := h; rfl

theorem Core.BufWork.cle (h : k.BufWork k') : k'.cle = k.cle := by obtain ⟨⟨_, _, _, rfl⟩, -⟩ := h; rfl

theorem Core.BufWork.frt (h : k.BufWork k') : k'.frt = k.frt := by obtain ⟨⟨_, _, _, rfl⟩, -⟩ := h; rfl

theorem Core.BufWork.parts (h : k.BufWork k') {l : List Part} (hb : Part.bpm ∈ l) (hf : Part.free ∈ l) : k.onlyParts l k' := by
  obtain ⟨⟨b, n, m, rfl⟩, -⟩ := h
  intro q hq
  cases q
  case bpm => exact absurd hb hq
  case free => exact absurd hf hq
  all_goals rfl

end

/-! ### Fields packed into a word -/

theorem args_eq_add (l : List (Nat × Nat × Nat)) : ∀ a : Nat,
    l.foldl (fun a f => a + (f.2.2 % 2 ^ (f.1 + 1 - f.2.1)) * 2 ^ f.2.1) a = a + args l := by
  induction l with
  | nil => exact fun a => (Nat.add_zero a).symm
  | cons f l ih =>
    intro a
    unfold args
    rw [List.foldl_cons, List.foldl_cons, ih, ih (0 + _)]
    omega

theorem args_cons (f : Nat × Nat × Nat) (l : List (Nat × Nat × Nat)) :
    args (f :: l) = f.2.2 % 2 ^ (f.1 + 1 - f.2.1) * 2 ^ f.2.1 + args l := by
  rw [args, List.foldl_cons, args_eq_add, Nat.zero_add]

/-- Fields in descending places below bit `b`. -/
def FieldsBelow : Nat → List (Nat × Nat × Nat) → Prop
  | _, [] => True
  | b, f :: l => f.1 < b ∧ f.2.1 ≤ f.1 ∧ FieldsBelow f.2.1 l

theorem args_lt : ∀ {l : List (Nat × Nat × Nat)} {b : Nat}, FieldsBelow b l → args l < 2 ^ b
  | [], b, _ => Nat.pow_pos (by decide)
  | f :: l, b, ⟨hb, hle, hl⟩ => by
    have hfield : f.2.2 % 2 ^ (f.1 + 1 - f.2.1) + 1 ≤ 2 ^ (f.1 + 1 - f.2.1) := Nat.mod_lt _ (Nat.pow_pos (by decide))
    calc args (f :: l) = f.2.2 % 2 ^ (f.1 + 1 - f.2.1) * 2 ^ f.2.1 + args l := args_cons f l
      _ < f.2.2 % 2 ^ (f.1 + 1 - f.2.1) * 2 ^ f.2.1 + 2 ^ f.2.1 := Nat.add_lt_add_left (args_lt hl) _
      _ = (f.2.2 % 2 ^ (f.1 + 1 - f.2.1) + 1) * 2 ^ f.2.1 := by rw [Nat.add_mul, Nat.one_mul]
      _ ≤ 2 ^ (f.1 + 1 - f.2.1) * 2 ^ f.2.1 := Nat.mul_le_mul_right _ hfield
      _ = 2 ^ (f.1 + 1) := by rw [← pow_add]; congr 1; omega
      _ ≤ 2 ^ b := Nat.pow_le_pow_right (by decide) hb

/-- A field packed among others in descending places reads as put. -/
theorem fld_args {hi lo v : Nat} (hle : lo ≤ hi) {l₂ : List (Nat × Nat × Nat)} (h₂ : FieldsBelow lo l₂) :
    ∀ l₁ : List (Nat × Nat × Nat), (∀ f ∈ l₁, hi < f.2.1) →
      fld (args (l₁ ++ (hi, lo, v) :: l₂)) hi lo = v % 2 ^ (hi + 1 - lo)
  | [], _ => by
    rw [List.nil_append, args_cons, fld_eq, Nat.mul_comm, Nat.mul_add_div (Nat.pow_pos (by decide)),
      Nat.div_eq_of_lt (args_lt h₂), Nat.add_zero, Nat.mod_mod]
  | f :: l₁, h => by
    obtain ⟨hf, hrest⟩ := List.forall_mem_cons.1 h
    have ih := fld_args (v := v) hle h₂ l₁ hrest
    have hsplit : 2 ^ f.2.1 = 2 ^ lo * (2 ^ (hi + 1 - lo) * 2 ^ (f.2.1 - (hi + 1))) := by
      rw [← pow_add, ← pow_add]; congr 1; omega
    rw [fld_eq] at ih ⊢
    rw [List.cons_append, args_cons, hsplit, ← Nat.mul_assoc, Nat.mul_comm _ (2 ^ lo), Nat.mul_assoc,
      Nat.mul_add_div (Nat.pow_pos (by decide)), ← Nat.mul_assoc, Nat.mul_comm _ (2 ^ (hi + 1 - lo)), Nat.mul_assoc,
      Nat.mul_add_mod, ih]

/-! ### The header of an originated packet (R69) -/

section
variable (k : Core) (vc typ poison n dst flow seq cmpl coll : Nat)

/-- The header before its check field is filled. -/
def Core.hdrWord : Nat :=
  args [(255, 252, 1), (251, 249, vc), (248, 248, k.frt.ep.cur), (247, 247, poison), (244, 241, typ),
    (240, 235, (n - 1) / 64), (234, 229, n - 1 - 64 * ((n - 1) / 64)), (228, 211, dst), (210, 193, k.selfEid), (192, 179, flow),
    (178, 131, seq), (130, 115, cmpl), (114, 83, coll), (70, 65, 32)]

theorem Core.mkHdr_eq : k.mkHdr vc typ poison n dst flow seq cmpl coll =
    hset (BitVec.ofNat 256 (k.hdrWord vc typ poison n dst flow seq cmpl coll)) 15 0
      (hdrCrc (BitVec.ofNat 256 (k.hdrWord vc typ poison n dst flow seq cmpl coll))) := rfl

/-- A field above the check field shows what the header's word holds. -/
theorem Core.hget_mkHdr {hi lo : Nat} (hlo : 15 < lo) (hhi : hi < 256) :
    hget (k.mkHdr vc typ poison n dst flow seq cmpl coll) hi lo = fld (k.hdrWord vc typ poison n dst flow seq cmpl coll) hi lo := by
  rw [Core.mkHdr_eq, hget_hset_of_disjoint _ (by decide) (by decide) (Or.inr hlo)]
  refine Nat.eq_of_testBit_eq fun j => ?_
  rw [hget, testBit_fld, testBit_fld, BitVec.toNat_ofNat, Nat.testBit_mod_two_pow]
  by_cases hj : j < hi + 1 - lo
  · rw [decide_eq_true (show lo + j < 256 by omega), Bool.true_and]
  · simp [hj]

theorem Core.hDst_mkHdr : hDst (k.mkHdr vc typ poison n dst flow seq cmpl coll) = dst % 2 ^ 18 :=
  (k.hget_mkHdr vc typ poison n dst flow seq cmpl coll (by decide) (by decide)).trans
    (fld_args (by decide) (by simp [FieldsBelow]) [(255, 252, 1), (251, 249, vc), (248, 248, k.frt.ep.cur), (247, 247, poison),
      (244, 241, typ), (240, 235, (n - 1) / 64), (234, 229, n - 1 - 64 * ((n - 1) / 64))] (by simp))

/-- The header of 64 bytes of payload. -/
theorem Core.payLen_mkHdr : payLen (k.mkHdr vc typ poison 64 dst flow seq cmpl coll) = 64 := by
  have hlen : hLen (k.mkHdr vc typ poison 64 dst flow seq cmpl coll) = 0 :=
    (k.hget_mkHdr vc typ poison 64 dst flow seq cmpl coll (by decide) (by decide)).trans
      (fld_args (by decide) (by simp [FieldsBelow]) [(255, 252, 1), (251, 249, vc), (248, 248, k.frt.ep.cur), (247, 247, poison),
        (244, 241, typ)] (by simp))
  have htail : hTail (k.mkHdr vc typ poison 64 dst flow seq cmpl coll) = 63 :=
    (k.hget_mkHdr vc typ poison 64 dst flow seq cmpl coll (by decide) (by decide)).trans
      (fld_args (by decide) (by simp [FieldsBelow]) [(255, 252, 1), (251, 249, vc), (248, 248, k.frt.ep.cur), (247, 247, poison),
        (244, 241, typ), (240, 235, (64 - 1) / 64)] (by simp))
  rw [payLen, hlen, htail]

end

/-- A control message: one packet, to its endpoint, that holds the message. -/
theorem Core.sendCtl_own (k : Core) (dst flow : Nat) {m : List Byte} (hm : m.length ≤ 64) : ∃ p,
    (k.sendCtl dst flow m).frt.own = k.frt.own ++ [p] ∧ hDst p.hdr = dst % 2 ^ 18 ∧
      ∀ i, i < m.length → byteAt p.payload i = byteAt m i := by
  have hpad : padTo 64 (padTo 64 m) = m ++ List.replicate (64 - m.length) 0 := by
    have hlen := length_padTo 64 m
    rw [padTo, hlen, List.take_of_length_le (by omega), Nat.sub_self, List.replicate_zero, List.append_nil, padTo,
      List.take_of_length_le hm]
  refine ⟨{ hdr := k.mkHdr 0 4 0 64 dst flow (Config.freeField k.free % 2 ^ 48) (Config.freeField (k.free + 1) % 65536) 0
            data := padTo 64 (padTo 64 m), slots := 1, inPort := 32 }, ?_, Core.hDst_mkHdr _ _ _ _ _ _ _ _ _ _, fun i hi => ?_⟩
  · unfold Core.sendCtl Core.originate Core.fresh
    simp only [length_padTo]
  · unfold Packet.payload byteAt
    rw [Core.payLen_mkHdr, hpad, List.take_of_length_le (by simp; omega), List.getD_append _ _ _ _ hi]

end Sys2Proof.Machine
end

section
/-!
PROOFS. Chunks granted (05_collectives R125): the receive records opened and the one GRANT that covers them.
-/

namespace Sys2Proof.Machine

open Sys2Proof

/-- A context's words other than its chunk counts stand, and so do the flows' words. -/
structure Core.CtxStands (x : Nat) (k k' : Core) : Prop where
  cc : ∀ off, off < 0x4C → k'.cc x off = k.cc x off
  flow : ∀ f off, f < 16384 → off < 256 → k'.fctx f off = k.fctx f off

/-- What grants leave, and the records they open: `n` chunks granted beyond those before. -/
structure Core.Grants (x n : Nat) (k k' : Core) : Prop where
  stands : Core.CtxStands x k k'
  granted : k'.cGranted x = k.cGranted x + n
  openStays : ∀ id, id < 131072 → k.rOpen id = true → k'.rOpen id = true
  opened : ∀ i, i < n → k'.rOpen (k.cCrBase x + (k.cGranted x + i) % k.cDepth x) = true
  frt : k'.frt = k.frt
  parts : k.onlyParts [.bpm, .cle, .fcs, .free, .frt, .tbl] k'
  regs : k.onlyRegs [Reg.BPM_WAIT_CNT] k'

section
variable {k k' k'' : Core} {x n n' : Nat}

theorem Core.CtxStands.trans (h : Core.CtxStands x k k') (h' : Core.CtxStands x k' k'') : Core.CtxStands x k k'' :=
  ⟨fun off ho => (h'.cc off ho).trans (h.cc off ho), fun f off hf ho => (h'.flow f off hf ho).trans (h.flow f off hf ho)⟩

theorem Core.CtxStands.of_tbl (h : k'.tbl = k.tbl) : Core.CtxStands x k k' :=
  ⟨fun _ _ => Core.cc_of_tbl h _ _, fun _ _ _ _ => Core.fctx_of_tbl h _ _⟩

theorem Core.CtxStands.cf (h : Core.CtxStands x k k') {off : Nat} (ho : off < 0x4C) (hi lo : Nat) :
    k'.cf x off hi lo = k.cf x off hi lo := by
  unfold Core.cf; rw [h.cc off ho]

theorem Core.rOpen_of_sameRecs (h : k.SameRecs k') (id : Nat) : k'.rOpen id = k.rOpen id := by
  unfold Core.rOpen; rw [h.cr]

/-- The receive record of a chunk of the context lies in the store. -/
theorem Core.record_lt {x : Nat} (hd : 0 < k.cDepth x) (c : Nat) : k.cCrBase x + c % k.cDepth x < 131072 := by
  have hbase : k.cCrBase x < 2 ^ 16 := fld_lt _ 49 34
  have hdepth : k.cDepth x < 2 ^ 6 := fld_lt _ 21 16
  have := Nat.mod_lt c hd
  omega

theorem Core.Grants.refl (x : Nat) (k : Core) : Core.Grants x 0 k k :=
  ⟨.of_tbl rfl, rfl, fun _ _ h => h, fun _ h => absurd h (by omega), rfl, Core.onlyParts_refl _ _, Core.onlyRegs_refl _ _⟩

theorem Core.Grants.trans (hd : 0 < k.cDepth x) (h : Core.Grants x n k k') (h' : Core.Grants x n' k' k'') :
    Core.Grants x (n + n') k k'' := by
  refine ⟨h.stands.trans h'.stands, by rw [h'.granted, h.granted, Nat.add_assoc], fun id hid ho =>
    h'.openStays id hid (h.openStays id hid ho),
    fun i hi => ?_, h'.frt.trans h.frt, Core.onlyParts_trans h.parts h'.parts, Core.onlyRegs_trans h.regs h'.regs⟩
  by_cases hn : i < n
  · exact h'.openStays _ (Core.record_lt hd _) (h.opened i hn)
  · have ho := h'.opened (i - n) (by omega)
    have hbase : k'.cCrBase x = k.cCrBase x := h.stands.cf (by decide) _ _
    have hdepth : k'.cDepth x = k.cDepth x := h.stands.cf (by decide) _ _
    rw [h.granted, hbase, hdepth] at ho
    rwa [show k.cGranted x + n + (i - n) = k.cGranted x + i by omega] at ho

theorem Core.BufWork.grants (h : k.BufWork k') (x : Nat) : Core.Grants x 0 k k' :=
  ⟨.of_tbl h.tbl, Core.cf_of_tbl h.tbl _ _ _ _, fun id _ ho => by rwa [Core.rOpen_of_sameRecs (.of_tbl h.tbl)],
    fun _ hi => absurd hi (by omega), h.frt, h.parts (by simp) (by simp), h.regs⟩

end

/-! ### A record among the others -/

section
variable (k : Core)

theorem Core.tb_put_ne {win b win' w : Nat} (g : Nat → Nat) (l : List Nat) (h : ∀ i ∈ l, tkey win' w ≠ tkey win (b + i)) :
    (l.foldl (fun (k : Core) i => k.tbw win (b + i) (g i)) k).tb win' w = k.tb win' w := by
  induction l generalizing k with
  | nil => rfl
  | cons i l ih =>
    obtain ⟨hi, hl⟩ := List.forall_mem_cons.1 h
    exact (ih _ hl).trans (k.tb_tbw_ne hi _)

/-- A word outside the record that opens. -/
theorem Core.tb_openWords_ne {id win w : Nat} (h : ∀ i, i < 16 → tkey win w ≠ tkey Reg.FCS_CR_TBL (16 * id + i)) (send : Bool)
    (f base size peer buf : Nat) : (k.openWords id send f base size peer buf).tb win w = k.tb win w := by
  have hset : ∀ (k : Core) (i v : Nat), i < 4 → (k.setCr id i v).tb win w = k.tb win w := fun k i v hi =>
    k.tb_tbw2_ne (h (2 * i) (by omega)) (h (2 * i + 1) (by omega)) v
  unfold Core.openWords Core.setMap
  rw [Core.tb_put_ne _ _ _ fun i hi => by have := List.mem_range.1 hi; rw [Nat.add_assoc]; exact h (8 + i) (by omega),
    hset _ _ _ (by omega), hset _ _ _ (by omega), hset _ _ _ (by omega), hset _ _ _ (by omega)]

theorem Core.rOpen_openWords_same {f : Nat} (hf : f < 16384) (id : Nat) (send : Bool) (base size peer buf : Nat) :
    (k.openWords id send f base size peer buf).rOpen id = true := by
  unfold Core.rOpen
  rw [Core.cr_openWords_zero _ _ _ _ _ _ _ hf]
  exact recWord0_open _ _ hf

theorem Core.rOpen_openWords_ne {id id' : Nat} (h : id' ≠ id) (send : Bool) (f base size peer buf : Nat) :
    (k.openWords id send f base size peer buf).rOpen id' = k.rOpen id' := by
  unfold Core.rOpen Core.cr
  rw [Core.tbn_two, Core.tbn_two, Core.tb_openWords_ne _ fun i hi => mt tkey_inj.1 (by omega),
    Core.tb_openWords_ne _ fun i hi => mt tkey_inj.1 (by omega)]

theorem Core.CtxStands.of_words {k' : Core} {x : Nat}
    (hc : ∀ w, w < 32 * x + 20 → k'.tb Reg.CLE_CTX_TBL w = k.tb Reg.CLE_CTX_TBL w)
    (hf : ∀ w, w < 2 ^ 24 → k'.tb Reg.FCS_CTX_TBL w = k.tb Reg.FCS_CTX_TBL w) : Core.CtxStands x k k' := by
  refine ⟨fun off ho => Core.cc_of_words fun w hw => hc w (by omega), fun f off hlt ho => ?_⟩
  unfold Core.fctx
  rw [Core.tbn_two, Core.tbn_two, hf _ (by omega), hf _ (by omega)]

theorem Core.ctxStands_openWords {id x : Nat} (hx : x < 4096) (hid : id < 131072) (send : Bool) (f base size peer buf : Nat) :
    Core.CtxStands x k (k.openWords id send f base size peer buf) := by
  refine .of_words k (fun w hw => k.tb_openWords_ne (fun i hi => ?ctx) _ _ _ _ _ _)
    (fun w hw => k.tb_openWords_ne (fun i hi => ?flow) _ _ _ _ _ _)
  case ctx => unfold tkey Reg.CLE_CTX_TBL Reg.FCS_CR_TBL; omega
  case flow => unfold tkey Reg.FCS_CTX_TBL Reg.FCS_CR_TBL; omega

/-- The count of granted chunks, written. -/
theorem Core.ctxStands_granted {x : Nat} (hx : x < 4096) (v : Nat) : Core.CtxStands x k (k.setCf x 0x50 31 0 v) := by
  refine .of_words k (fun w hw => k.tb_tbw2_ne (mt tkey_inj.1 (by omega)) (mt tkey_inj.1 (by omega)) _)
    (fun w hw => k.tb_tbw2_ne ?_ ?_ _) <;>
  · unfold tkey Reg.CLE_CTX_TBL Reg.FCS_CTX_TBL
    omega

theorem Core.rOpen_granted {x id : Nat} (hx : x < 4096) (hid : id < 131072) (v : Nat) :
    (k.setCf x 0x50 31 0 v).rOpen id = k.rOpen id := by
  unfold Core.rOpen Core.cr Core.setCf
  have hw : ∀ w, w < 2 ^ 24 → (k.setCc x 0x50 (setFld (k.cc x 0x50) 31 0 v)).tb Reg.FCS_CR_TBL w = k.tb Reg.FCS_CR_TBL w :=
    fun w hw => k.tb_tbw2_ne (by unfold tkey Reg.CLE_CTX_TBL Reg.FCS_CR_TBL; omega)
      (by unfold tkey Reg.CLE_CTX_TBL Reg.FCS_CR_TBL; omega) _
  rw [Core.tbn_two, Core.tbn_two, hw _ (by omega), hw _ (by omega)]

end

/-! ### One chunk granted -/

section
variable (k : Core) (x : Nat)

/-- A context grants chunks that are left, and only as many ahead as it has records for. -/
theorem Core.grantable_room (h : k.grantable x = true) : k.cGranted x < k.cChunks x ∧ k.cGranted x - k.cChecked x < k.cDepth x := by
  simp only [Core.grantable, Bool.and_eq_true, decide_eq_true_eq] at h
  obtain ⟨⟨⟨⟨⟨-, hlt⟩, -⟩, hdepth⟩, -⟩, -⟩ := h
  exact ⟨hlt, hdepth⟩

/-- The request a grant makes. -/
def Core.chunkReq : BufReq := { user := .chunkRec x (k.cGranted x), owner := k.cOwner x, size := 2, mem := 0 }

def Core.withFcs (q : Fcs) : Core := { k with fcs := q }

theorem Core.withFcs_tbl (q : Fcs) : (k.withFcs q).tbl = k.tbl := rfl

theorem Core.withFcs_frt (q : Fcs) : (k.withFcs q).frt = k.frt := rfl

theorem Core.withFcs_regs (q : Fcs) : (k.withFcs q).regs = k.regs := rfl

theorem Core.addChunk_tbl (h : Chunk) : (k.addChunk h).tbl = k.tbl := rfl

theorem Core.addChunk_frt (h : Chunk) : (k.addChunk h).frt = k.frt := rfl

theorem Core.addChunk_regs (h : Chunk) : (k.addChunk h).regs = k.regs := rfl

theorem Core.withFcs_recTimer (id us : Nat) (q : Fcs) : (k.recTimer id us).withFcs q = k.withFcs q := rfl

/-- A chunk's receive record opens, the next one's base behind it. -/
def Core.recordGranted (id f base n ptr : Nat) : Core :=
  (k.openRec id false f base n 0 ptr).withFcs { (k.openRec id false f base n 0 ptr).fcs with
    grantSeq := (k.openRec id false f base n 0 ptr).fcs.grantSeq.set 0 f (seqAdd base n + 1) }

/-- A chunk's receive record opens and the chunk counts as granted. -/
def Core.chunkOpened (c f ptr : Nat) : Core :=
  ((k.recordGranted (k.cCrBase x + c % k.cDepth x) f (k.nextGrantSeq f) (fmtBytes (k.cArith x).inFmt (k.chunkElems x c))
    ptr).setCf x 0x50 31 0 (c + 1)).addChunk { x := x, c := c }

theorem Core.recordGranted_eq (id f base n ptr : Nat) : ∃ q, k.recordGranted id f base n ptr =
    (k.openWords id false f base n 0 ptr).withFcs q := by
  unfold Core.recordGranted
  rw [Core.openRec_receive, Core.withFcs_recTimer]
  exact ⟨_, rfl⟩

theorem Core.grantOne_none (h : (k.takeBuffer (k.chunkReq x)).2 = none) :
    k.grantOne x = ((k.takeBuffer (k.chunkReq x)).1, false) := by
  unfold Core.grantOne
  dsimp only
  rw [← Core.chunkReq, h]

theorem Core.grantOne_some {ptr : Nat} (h : (k.takeBuffer (k.chunkReq x)).2 = some ptr) :
    k.grantOne x = ((k.takeBuffer (k.chunkReq x)).1.chunkOpened x (k.cGranted x) (k.cFlow x) ptr, true) := by
  unfold Core.grantOne
  dsimp only
  rw [← Core.chunkReq, h]
  rfl

/-- A chunk granted: its record stands open, the context counts it. -/
theorem Core.grants_chunkOpened {c f ptr : Nat} (hx : x < 4096) (hf : f < 16384) (hd : 0 < k.cDepth x) (hc : k.cGranted x = c)
    (hlt : c + 1 < 2 ^ 32) : Core.Grants x 1 k (k.chunkOpened x c f ptr) := by
  unfold Core.chunkOpened
  generalize fmtBytes (k.cArith x).inFmt (k.chunkElems x c) = n
  generalize k.nextGrantSeq f = base
  obtain ⟨q, heq⟩ := k.recordGranted_eq (k.cCrBase x + c % k.cDepth x) f base n ptr
  have hid : k.cCrBase x + c % k.cDepth x < 131072 := Core.record_lt hd c
  have hwords := k.onlyTbl_openWords (k.cCrBase x + c % k.cDepth x) false (flow := f) base n 0 ptr
  have hstands := k.ctxStands_openWords hx hid false f base n 0 ptr
  have hopen : ∀ id, (k.openWords (k.cCrBase x + c % k.cDepth x) false f base n 0 ptr).rOpen id =
      (id == k.cCrBase x + c % k.cDepth x || k.rOpen id) := fun id => by
    by_cases h : id = k.cCrBase x + c % k.cDepth x
    · rw [h, k.rOpen_openWords_same hf]; simp
    · rw [k.rOpen_openWords_ne h]; simp [h]
  rw [heq]
  generalize k.openWords (k.cCrBase x + c % k.cDepth x) false f base n 0 ptr = k₁ at hwords hstands hopen ⊢
  have hset := (k₁.withFcs q).onlyTbl_setCf x 0x50 31 0 (c + 1)
  have hcount := Core.ctxStands_granted (k₁.withFcs q) hx (c + 1)
  have hstart : ∀ id, id < 131072 → ((k₁.withFcs q).setCf x 0x50 31 0 (c + 1)).rOpen id = k₁.rOpen id :=
    fun id hlt => (Core.rOpen_granted _ hx hlt (c + 1)).trans (Core.rOpen_of_sameRecs (.of_tbl (k₁.withFcs_tbl q)) id)
  have hgranted : ((k₁.withFcs q).setCf x 0x50 31 0 (c + 1)).cGranted x = c + 1 :=
    (Core.cf_setCf_same _ (by decide) (by decide) x 0x50 (c + 1)).trans (Nat.mod_eq_of_lt hlt)
  generalize (k₁.withFcs q).setCf x 0x50 31 0 (c + 1) = k₂ at hset hcount hstart hgranted ⊢
  have hadd := k₂.addChunk_tbl { x := x, c := c }
  refine ⟨?_, ?_, fun id hlt ho => ?_, fun i hi => ?_, ?_, ?_, ?_⟩
  · exact hstands.trans ((Core.CtxStands.of_tbl (k₁.withFcs_tbl q)).trans (hcount.trans (.of_tbl hadd)))
  · rw [hc]; exact (Core.cf_of_tbl hadd _ _ _ _).trans hgranted
  · rw [Core.rOpen_of_sameRecs (.of_tbl hadd), hstart id hlt, hopen, ho, Bool.or_true]
  · obtain rfl : i = 0 := by omega
    rw [Nat.add_zero, hc, Core.rOpen_of_sameRecs (.of_tbl hadd), hstart _ hid, hopen, beq_self_eq_true, Bool.true_or]
  · rw [Core.addChunk_frt, hset.frt, Core.withFcs_frt, hwords.frt]
  · exact Core.onlyParts_trans (hwords.onlyParts (by simp)) (Core.onlyParts_trans (Core.onlyParts_fcs (by simp) q)
      (Core.onlyParts_trans (hset.onlyParts (by simp)) (Core.onlyParts_cle (by simp) _)))
  · exact Core.onlyRegs_of_regs (by rw [Core.addChunk_regs, hset.regs, Core.withFcs_regs, hwords.regs])

theorem Core.cFlow_lt : k.cFlow x < 16384 := fld_lt _ 63 50

/-- What one grant does, where the chunk may be granted: it opens the record where its buffer is there. -/
theorem Core.grants_grantOne (hx : x < 4096) (hg : k.grantable x = true) : ∃ m, m ≤ 1 ∧
    ((k.takeBuffer (k.chunkReq x)).2.isSome = true → m = 1) ∧ Core.Grants x m k (k.grantOne x).1 := by
  obtain ⟨hlt, hdepth⟩ := k.grantable_room x hg
  have hbuf := (k.bufWork_takeBuffer (k.chunkReq x)).grants x
  have hchunks : k.cChunks x < 2 ^ 32 := fld_lt _ 63 32
  cases hb : (k.takeBuffer (k.chunkReq x)).2 with
  | none =>
    rw [k.grantOne_none x hb]
    exact ⟨0, by omega, fun h => absurd h (by simp), hbuf⟩
  | some ptr =>
    rw [k.grantOne_some x hb]
    have hd : (k.takeBuffer (k.chunkReq x)).1.cDepth x = k.cDepth x := hbuf.stands.cf (by decide) _ _
    have hopen := (k.takeBuffer (k.chunkReq x)).1.grants_chunkOpened x (ptr := ptr) hx (k.cFlow_lt x) (by omega) hbuf.granted
      (by omega)
    exact ⟨1, le_refl _, fun _ => rfl, by simpa using hbuf.trans (by omega) hopen⟩

theorem Core.grants_grantRun (hx : x < 4096) (c0 : Nat) : ∀ (n : Nat) (k : Core), ∃ m, m ≤ n ∧
    (1 ≤ n → k.grantable x = true → k.cGranted x = c0 → (k.takeBuffer (k.chunkReq x)).2.isSome = true → 1 ≤ m) ∧
    Core.Grants x m k (Core.grantRun n c0 k x)
  | 0, k => ⟨0, le_refl _, fun h => absurd h (by omega), .refl x k⟩
  | n + 1, k => by
    unfold Core.grantRun
    split
    next hg =>
      rw [Bool.and_eq_true] at hg
      obtain ⟨m, hm, hsome, hone⟩ := k.grants_grantOne x hx hg.1
      obtain ⟨-, hdepth⟩ := k.grantable_room x hg.1
      dsimp only
      split
      · obtain ⟨m', hm', -, hrun⟩ := Core.grants_grantRun hx c0 n (k.grantOne x).1
        exact ⟨m + m', by omega, fun _ _ _ h => by have := hsome h; omega, hone.trans (by omega) hrun⟩
      · exact ⟨m, by omega, fun _ _ _ h => by have := hsome h; omega, hone⟩
    next hg =>
      exact ⟨0, by omega, fun _ h hc _ => absurd (by simp [h, hc]) hg, .refl x k⟩

/-! ### The GRANT (R125, R151) -/

/-- The bytes of the GRANT that covers `n` chunks from `c0`, records from `base` on. -/
def Core.grantMsg (c0 f base n : Nat) : List Byte :=
  [byte 0x10, byte 0] ++ beBytes 2 f ++ beBytes 2 (k.cCrBase x + c0 % k.cDepth x) ++ beBytes 6 base ++ beBytes 4 (k.cSeq x) ++
    beBytes 4 c0 ++ [byte n] ++ beBytes 3 (fmtBytes (k.cArith x).inFmt 16384) ++
    beBytes 3 (fmtBytes (k.cArith x).inFmt (k.chunkElems x (c0 + n - 1)))

theorem Core.grantMsg_bytes (c0 f base : Nat) {n : Nat} (hn : n < 256) : (k.grantMsg x c0 f base n).length = 27 ∧
    byteAt (k.grantMsg x c0 f base n) 0 = 0x10 ∧ byteAt (k.grantMsg x c0 f base n) 20 = n := by
  refine ⟨by simp [Core.grantMsg, length_beBytes], rfl, ?_⟩
  have h : byteAt (k.grantMsg x c0 f base n) 20 = (byte n).toNat := rfl
  rw [h, byte, BitVec.toNat_ofNat, Nat.mod_eq_of_lt hn]

theorem Core.grantEv_grants {m : Nat} (hm : 1 ≤ m)
    (hg : (Core.grantRun 8 (k.cGranted x) k x).cGranted x = k.cGranted x + m) : k.grantEv x =
    (Core.grantRun 8 (k.cGranted x) k x).sendCtl ((Core.grantRun 8 (k.cGranted x) k x).fLocalEid (k.cFlow x)) (k.cFlow x)
      ((Core.grantRun 8 (k.cGranted x) k x).grantMsg x (k.cGranted x) (k.cFlow x) (k.nextGrantSeq (k.cFlow x)) m) := by
  unfold Core.grantEv
  dsimp only
  rw [hg, Nat.add_sub_cancel_left, if_neg (by omega)]
  rfl

end

/-- CHUNK_GRANT of a context that may grant and whose buffer is there. -/
theorem State.chunkGrant_grants {x : Fin 4096} {s t : State} (hg : s.core.grantable x = true)
    (hb : (s.core.takeBuffer (s.core.chunkReq x)).2.isSome = true) (ht : t = s.onCore (fun k => k.grantEv x)) :
    (∃ n, 1 ≤ n ∧ n ≤ 8 ∧ t.core.cGranted x = s.core.cGranted x + n ∧
      (∀ i, i < n → t.core.rOpen (s.core.cCrBase x + (s.core.cGranted x + i) % s.core.cDepth x) = true) ∧
      (∃ p, t.core.frt.own = s.core.frt.own ++ [p] ∧ byteAt p.payload 0 = 0x10 ∧ byteAt p.payload 20 = n ∧
        hDst p.hdr = s.core.fLocalEid (s.core.cFlow x))) ∧
      s.only [.bpm, .cle, .fcs, .free, .frt, .tbl] [Reg.BPM_WAIT_CNT] t := by
  obtain ⟨m, hm, hpos, hgr⟩ := Core.grants_grantRun x x.isLt (s.core.cGranted x) 8 s.core
  have hpos := hpos (by omega) hg rfl hb
  have hev := s.core.grantEv_grants x hpos hgr.granted
  have heid : (Core.grantRun 8 (s.core.cGranted x) s.core x).fLocalEid (s.core.cFlow x) = s.core.fLocalEid (s.core.cFlow x) := by
    unfold Core.fLocalEid Core.ff
    rw [hgr.stands.flow _ _ (s.core.cFlow_lt x) (by decide)]
  have heidlt : s.core.fLocalEid (s.core.cFlow x) < 2 ^ 18 := fld_lt _ 28 11
  rw [heid] at hev
  generalize Core.grantRun 8 (s.core.cGranted x) s.core x = k₁ at hgr hev
  obtain ⟨hlen, hop, hnum⟩ := k₁.grantMsg_bytes x (s.core.cGranted x) (s.core.cFlow x) (s.core.nextGrantSeq (s.core.cFlow x))
    (n := m) (by omega)
  generalize k₁.grantMsg x _ _ _ m = msg at hev hlen hop hnum
  obtain ⟨p, hown, hdst, hbytes⟩ := k₁.sendCtl_own (s.core.fLocalEid (s.core.cFlow x)) (s.core.cFlow x) (m := msg) (by omega)
  have hsent := k₁.sent_sendCtl (s.core.fLocalEid (s.core.cFlow x)) (s.core.cFlow x) msg
  rw [← hev] at hown hsent
  have htbl : t.core.tbl = k₁.tbl := by rw [ht, State.onCore_tbl, hsent.tbl]
  have hfrt : t.core.frt = (s.core.grantEv x).frt := by rw [ht, State.onCore_frt]
  refine ⟨⟨m, hpos, hm, ?_, fun i hi => ?_, p, ?_, ?_, ?_, ?_⟩, ht ▸ State.only_onCore s _ ?_ ?_⟩
  · exact (Core.cf_of_tbl htbl _ _ _ _).trans hgr.granted
  · rw [Core.rOpen_of_sameRecs (.of_tbl htbl)]; exact hgr.opened i hi
  · rw [hfrt, hown, hgr.frt]
  · rw [hbytes 0 (by omega), hop]
  · rw [hbytes 20 (by omega), hnum]
  · rw [hdst, Nat.mod_eq_of_lt heidlt]
  · exact Core.onlyParts_trans hgr.parts (hsent.onlyParts (by simp) (by simp))
  · exact Core.onlyRegs_trans hgr.regs hsent.onlyRegs

end Sys2Proof.Machine
end

section
/-!
PROOFS. What the units around a chunk leave (07_buffers_memory R208, 08_cipher R226, 05_collectives R127): a buffer returned, a
segment handed to the cipher, a chunk's entry changed.
-/

namespace Sys2Proof.Machine

open Sys2Proof

/-! ### A buffer returned (R208, R209) -/

/-- What the return of a buffer leaves: everything but the buffer plane and its pools' functions. -/
structure Core.Returned (k k' : Core) : Prop where
  parts : k.onlyParts [.bpm, .fns] k'
  fn : ∀ i : FnId, (∀ p, p < 64 → i.code ≠ (FnId.pool p).code) → k'.fn i = k.fn i
  regs : k.onlyRegs [Reg.BPM_BADRET_CNT] k'

section
variable {k k' k'' : Core}

theorem Core.Returned.refl (k : Core) : k.Returned k := ⟨Core.onlyParts_refl _ _, fun _ _ => rfl, Core.onlyRegs_refl _ _⟩

theorem Core.Returned.trans (h : k.Returned k') (h' : k'.Returned k'') : k.Returned k'' :=
  ⟨Core.onlyParts_trans h.parts h'.parts, fun i hi => (h'.fn i hi).trans (h.fn i hi), Core.onlyRegs_trans h.regs h'.regs⟩

theorem Core.Returned.tbl (h : k.Returned k') : k'.tbl = k.tbl := h.parts .tbl (by decide)

theorem Core.Returned.cle (h : k.Returned k') : k'.cle = k.cle := h.parts .cle (by decide)

theorem Core.Returned.frt (h : k.Returned k') : k'.frt = k.frt := h.parts .frt (by decide)

theorem FnId.code_ctx_ne_pool (x : Nat) : ∀ p, p < 64 → (FnId.ctx x).code ≠ (FnId.pool p).code := by
  simp only [FnId.code]; omega

theorem Core.Returned.ctx (h : k.Returned k') (x : Nat) : k'.fn (.ctx x) = k.fn (.ctx x) := h.fn _ (FnId.code_ctx_ne_pool x)

end

section
variable (k : Core) {p : Nat}

theorem Core.returned_bpm (b : Bpm) : k.Returned { k with bpm := b } :=
  ⟨Core.onlyParts_bpm (by decide) b, fun _ _ => rfl, Core.onlyRegs_of_regs rfl⟩

theorem Core.returned_setFn (hp : p < 64) (x : Fn) : k.Returned (k.setFn (.pool p) x) :=
  ⟨Core.onlyParts_fns (by decide) _, fun _ hi => k.fn_setFn_ne (hi p hp) x, Core.onlyRegs_of_regs rfl⟩

theorem Core.returned_setFst (hp : p < 64) (n : FState) (st : Nat) : k.Returned (k.setFst (.pool p) n st) := by
  refine ⟨?_, fun _ hi => k.fn_setFst_ne (hi p hp) n st, Core.onlyRegs_setFst _ _ _⟩
  have h : k.setFst (.pool p) n st = (k.setFn (.pool p) { k.fn (.pool p) with fst := n, since := k.now }).emit (0x3000 + p)
    0x0600 [(93, 91, n.code), (90, 88, (k.fst (.pool p)).code), (7, 0, st)] := rfl
  rw [h]
  exact Core.onlyParts_trans (Core.onlyParts_fns (by decide) _) (Core.onlyParts_emit _ _ _)

theorem Core.returned_poolChk (hp : p < 64) : k.Returned (Core.poolChk p k) := by
  unfold Core.poolChk
  split
  · exact Core.fnDrained_keeps (P := k.Returned) (fun _ _ _ h => h.trans (Core.returned_setFst _ hp _ _))
      (fun _ _ h => h.trans (Core.returned_setFn _ hp _))
      (fun k' h => h.trans ((k'.returned_bpm _).trans (Core.returned_setFst _ hp _ _))) (.refl k) _ _
  · exact .refl k

theorem Core.returned_returnBuf (ptr owner : Nat) : k.Returned (k.returnBuf ptr owner).1 := by
  unfold Core.returnBuf
  dsimp only
  split
  · refine (k.returned_bpm { k.bpm with alloc := k.bpm.alloc.set 0 (ptrAddr ptr) 0 }).trans ?_
    split
    next hp => exact Core.returned_poolChk _ (k.poolOf_lt hp)
    next => exact .refl _
  · exact ⟨Core.onlyParts_trans (Core.onlyParts_cnt _) (Core.onlyParts_emitLim _ _ _ _ _ _),
      fun _ _ => Core.fn_of_fns ((Core.emitLim_fns _ _ _ _ _ _ _).trans (Core.cnt_fns _ _)) _,
      Core.onlyRegs_trans (Core.onlyRegs_cnt (by simp)) (Core.onlyRegs_emitLim _ _ _ _ _ _)⟩

theorem Core.returned_giveBack (ptr : Option Nat) (owner : Nat) : k.Returned (k.giveBack ptr owner) := by
  cases ptr with
  | none => exact .refl k
  | some p => exact k.returned_returnBuf p owner

theorem Core.returned_foldl {α : Type} {g : Core → α → Core} (hg : ∀ (k : Core) a, k.Returned (g k a)) (l : List α) :
    k.Returned (l.foldl g k) := by
  induction l generalizing k with
  | nil => exact .refl k
  | cons a l ih => exact (hg k a).trans (ih _)

theorem Core.returned_dropReq (f : BufUser → Bool) : k.Returned (k.dropReq f) :=
  (k.returned_bpm _).trans (Core.returned_foldl _ (fun k _ => k.returned_giveBack _ _) _)

end

/-! ### A segment handed to the cipher (R226) -/

theorem Core.onlyParts_foldl {α : Type} {l : List Part} {g : Core → α → Core} (hg : ∀ (k : Core) a, k.onlyParts l (g k a))
    (as : List α) (k : Core) : k.onlyParts l (as.foldl g k) := by
  induction as generalizing k with
  | nil => exact Core.onlyParts_refl _ _
  | cons a as ih => exact Core.onlyParts_trans (hg k a) (ih _)

section
variable (k : Core) {l : List Part}

theorem Core.onlyParts_cip (h : Part.cip ∈ l) (c : Cip) : k.onlyParts l { k with cip := c } := by
  intro q hq
  cases q
  case cip => exact absurd h hq
  all_goals rfl

theorem Core.onlyParts_pushReq (h : Part.cip ∈ l) (q : Nat) (r : Req) : k.onlyParts l (k.pushReq q r) := by
  unfold Core.pushReq
  dsimp only
  split <;> exact k.onlyParts_cip h _

theorem Core.onlyParts_stampSite (h : Part.frt ∈ l) (s f : Nat) : k.onlyParts l (k.stampSite s f).1 := by
  unfold Core.stampSite
  dsimp only
  split
  · exact Core.onlyParts_frt h _
  · exact Core.onlyParts_cnt _

theorem Core.onlyParts_encrypt (hf : Part.frt ∈ l) (hc : Part.cip ∈ l) (hr : Part.free ∈ l) (s f : Nat) (slot : Option Nat)
    (typ inv : Nat) (place : List Byte) (use : ReqUse) (src : Nat) (data : List Byte) :
    k.onlyParts l (k.encrypt s f slot typ inv place use src data) := by
  have hst := k.onlyParts_stampSite hf s f
  unfold Core.encrypt
  split
  next heq => rw [heq] at hst; exact hst
  next heq =>
    rw [heq] at hst
    exact Core.onlyParts_trans hst (Core.onlyParts_trans (Core.onlyParts_pushReq _ hc _ _)
      (Core.onlyParts_trans (Core.onlyParts_free hr _) (Core.onlyParts_free hr _)))

theorem Core.onlyParts_sendContrib (hf : Part.frt ∈ l) (hc : Part.cip ∈ l) (hr : Part.free ∈ l) (x c : Nat) (line : List Byte)
    (csum src : Nat) : k.onlyParts l (k.sendContrib x c line csum src) :=
  Core.onlyParts_foldl (fun k _ => Core.onlyParts_foldl (fun k _ => k.onlyParts_encrypt hf hc hr _ _ _ _ _ _ _ _ _) _ k) _ k

end

/-! ### A chunk's entry -/

section
variable {k : Core} {x c : Nat} {h : Chunk}

theorem Core.chunk_of_cle {k k' : Core} (h : k'.cle = k.cle) (x c : Nat) : k'.chunk x c = k.chunk x c := by
  unfold Core.chunk; rw [h]

theorem Core.chunk_is (hc : k.chunk x c = some h) : h.x = x ∧ h.c = c := by
  have := List.find?_some hc
  simpa [Chunk.is] using this

/-- The entry after a change that keeps its name. -/
theorem Core.chunk_updChunk_same (f : Chunk → Chunk) (hf : (f h).x = h.x ∧ (f h).c = h.c) (hc : k.chunk x c = some h) :
    (k.updChunk x c f).chunk x c = some (f h) := by
  have hfind : ∀ l : List Chunk, l.find? (Chunk.is · x c) = some h →
      (l.map (fun g => if g.is x c then f g else g)).find? (Chunk.is · x c) = some (f h) := by
    intro l
    induction l with
    | nil => exact fun hl => absurd hl (by simp)
    | cons g l ih =>
      intro hl
      by_cases hg : g.is x c = true
      · rw [List.find?_cons_of_pos (p := (Chunk.is · x c)) hg, Option.some.injEq] at hl
        subst hl
        have hfg : (f g).is x c = true := by
          unfold Chunk.is at hg ⊢
          rw [hf.1, hf.2, hg]
        rw [List.map_cons, if_pos hg, List.find?_cons_of_pos (p := (Chunk.is · x c)) hfg]
      · rw [List.find?_cons_of_neg (p := (Chunk.is · x c)) hg] at hl
        rw [List.map_cons, if_neg hg, List.find?_cons_of_neg (p := (Chunk.is · x c)) hg, ih hl]
  exact hfind _ hc

end

end Sys2Proof.Machine
end

section
/-!
PROOFS. A chunk staged (05_collectives R127, R128): its line form and its own checksum, while it waits for another contribution.
-/

namespace Sys2Proof.Machine

open Sys2Proof

/-! ### What a contribution is read from -/

section
variable {k k' : Core}

theorem Core.ff_of_tbl (h : k'.tbl = k.tbl) (f off hi lo : Nat) : k'.ff f off hi lo = k.ff f off hi lo := by
  unfold Core.ff; rw [Core.fctx_of_tbl h]

theorem Core.others_of_tbl (h : k'.tbl = k.tbl) (x : Nat) : k'.others x = k.others x := by
  simp only [Core.others, Core.cNslot, Core.cSelf, Core.cf_of_tbl h]

theorem Core.slotSite_of_tbl (h : k'.tbl = k.tbl) (x s : Nat) : k'.slotSite x s = k.slotSite x s := Core.cf_of_tbl h _ _ _ _

theorem Core.reduces_of_tbl (h : k'.tbl = k.tbl) (x c : Nat) : k'.reduces x c = k.reduces x c := by
  simp only [Core.reduces, Core.ownerSlot, Core.cAlgo, Core.cNslot, Core.cSelf, Core.cf_of_tbl h]

theorem Core.chunkElems_of_same (h : k'.tbl = k.tbl) (hr : k'.cle.runs = k.cle.runs) (x c : Nat) :
    k'.chunkElems x c = k.chunkElems x c := by
  simp only [Core.chunkElems, Core.xElems, Core.cElems, hr, Core.cf_of_tbl h]

theorem Core.summing_of_tbl (h : k'.tbl = k.tbl) (x : Nat) : k'.summing x = k.summing x := by
  simp only [Core.summing, Core.cArith, Core.cf_of_tbl h]

theorem Core.wbase_of_tbl (h : k'.tbl = k.tbl) (x : Nat) : k'.wbase x = k.wbase x := by
  simp only [Core.wbase, Core.cArith, Core.cf_of_tbl h]

theorem Core.localElems_of_tbl (h : k'.tbl = k.tbl) (x n : Nat) (g : Chunk) (line : List Byte) :
    k'.localElems x n g line = k.localElems x n g line := by
  simp only [Core.localElems, Core.localMarks, Core.cFlow, Core.cArith, Core.fCmode, Core.fLineFmt, Core.fRot, Core.cf_of_tbl h,
    Core.ff_of_tbl h]

theorem Core.chunkItems_of_same (h : k'.tbl = k.tbl) (hr : k'.cle.rx = k.cle.rx) (x c : Nat) :
    k'.chunkItems x c = k.chunkItems x c := by
  simp only [Core.chunkItems, Core.cJob, Core.cIncarn, Core.cSeq, hr, Core.cf_of_tbl h]

/-- Without LOSSLESS segments a contribution is whole with its invocation 0. -/
theorem Core.slotGot_of_mode {x : Nat} (h : k.fCmode (k.cFlow x) ≠ 2) (c s : Nat) :
    k.slotGot x c s = ((k.contribItems x c s).find? (fun i => shInv i.hdr == 0)).isSome := by
  unfold Core.slotGot
  dsimp only
  cases (k.contribItems x c s).find? (fun i => shInv i.hdr == 0) with
  | none => rfl
  | some i => simp [h]

theorem Core.slotGot_of_same (h : k'.tbl = k.tbl) (hr : k'.cle.rx = k.cle.rx) {x : Nat} (hm : k.fCmode (k.cFlow x) ≠ 2)
    (c s : Nat) : k'.slotGot x c s = k.slotGot x c s := by
  have hm' : k'.fCmode (k'.cFlow x) ≠ 2 := by rwa [Core.cFlow, Core.cf_of_tbl h, Core.fCmode, Core.ff_of_tbl h]
  rw [Core.slotGot_of_mode hm', Core.slotGot_of_mode hm, Core.contribItems, Core.chunkItems_of_same h hr, Core.contribItems]

end

/-! ### A chunk that waits for a contribution (R128) -/

section
variable {k : Core} {x c m : Nat} {h : Chunk}

theorem Core.tryReady_lacking (hc : k.chunk x c = some h) (hm : m ∈ k.others x) (hg : k.slotGot x c m = false)
    (hp : k.partOn (k.slotSite x m) = false) : k.tryReady x c = k := by
  have hall : ((k.others x).filter (fun s => !k.slotGot x c s)).all (fun s => k.partOn (k.slotSite x s)) = false :=
    List.all_eq_false.2 ⟨m, List.mem_filter.2 ⟨hm, by rw [hg]; rfl⟩, by rw [hp]; decide⟩
  unfold Core.tryReady
  rw [hc]
  dsimp only
  rw [hall]
  split <;> rfl

theorem Core.tryNonOwner_reduces (hr : k.reduces x c = true) : k.tryNonOwner x c = k := by
  unfold Core.tryNonOwner
  split
  · rfl
  · exact if_pos (.inr hr)

/-- The entry of a chunk in staging. -/
def Chunk.staged (h h0 : Chunk) (line : List Byte) (csum ptr : Nat) : Chunk :=
  { h with phase := .staged, rawPsn := h0.rawPsn, line := line, csum := csum, stagePtr := some ptr, buf := none, rot := [] }

/-- C_SELF of a chunk whose line form is `line` (02_arithmetic R43). -/
def Core.ownSum (k : Core) (x : Nat) (h0 : Chunk) (line : List Byte) : Nat :=
  if k.summing x then contribSum (k.wbase x) (k.localElems x (k.chunkElems x h0.c) h0 line) else 0

/-- The chunk staged and its fabric buffer returned, its contribution on its way. -/
def Core.stageSent (k : Core) (x : Nat) (h0 : Chunk) (line : List Byte) (ptr : Nat) : Core :=
  let k' := k.updChunk x h0.c (fun h => h.staged h0 line (k.ownSum x h0 line) ptr)
  ((k'.setPsn (ptrAddr ptr) line.length false).giveBack h0.buf (k'.cOwner x)).sendContrib x h0.c line (k.ownSum x h0 line) ptr

theorem Core.stageDone_eq (k : Core) (x : Nat) (h0 : Chunk) (line : List Byte) (ptr : Nat) :
    k.stageDone x h0 line ptr = ((k.stageSent x h0 line ptr).tryReady x h0.c).tryNonOwner x h0.c := rfl

theorem Core.onlyParts_psn (k : Core) {l : List Part} (h : Part.psn ∈ l) (m : SMap Bool) : k.onlyParts l { k with psn := m } := by
  intro q hq
  cases q
  case psn => exact absurd h hq
  all_goals rfl

theorem Core.onlyParts_stageSent (k : Core) (x : Nat) (h0 : Chunk) (line : List Byte) (ptr : Nat) :
    (k.updChunk x h0.c (fun h => h.staged h0 line (k.ownSum x h0 line) ptr)).onlyParts [.psn, .bpm, .fns, .frt, .cip, .free]
      (k.stageSent x h0 line ptr) := by
  unfold Core.stageSent
  exact Core.onlyParts_trans (Core.onlyParts_psn _ (by decide) _)
    (Core.onlyParts_trans (Core.onlyParts_mono (by decide) (Core.returned_giveBack _ _ _).parts)
      (Core.onlyParts_sendContrib _ (by decide) (by decide) (by decide) _ _ _ _ _))

/-- A chunk staged without a contribution it needs: it stays as staged. -/
theorem Core.stageDone_lacking (hc : k.chunk x c = some h) (hm : m ∈ k.others x) (hg : k.slotGot x c m = false)
    (hmode : k.fCmode (k.cFlow x) ≠ 2) (hp : k.partOn (k.slotSite x m) = false) (hr : k.reduces x c = true) (line : List Byte)
    (ptr : Nat) : (k.stageDone x h line ptr).chunk x c = some (h.staged h line (k.ownSum x h line) ptr) ∧
      (k.stageDone x h line ptr).cle.failQ = k.cle.failQ := by
  obtain ⟨-, hcc⟩ := Core.chunk_is hc
  have hsent := k.onlyParts_stageSent x h line ptr
  have heq := k.stageDone_eq x h line ptr
  generalize k.stageSent x h line ptr = k₂ at hsent heq
  rw [hcc] at hsent heq
  have htbl : k₂.tbl = k.tbl := hsent .tbl (by decide)
  have hcle : k₂.cle = (k.updChunk x c (fun g => g.staged h line (k.ownSum x h line) ptr)).cle := hsent .cle (by decide)
  have hsite : k₂.site = k.site := hsent .site (by decide)
  have hchunk : k₂.chunk x c = some (h.staged h line (k.ownSum x h line) ptr) :=
    (Core.chunk_of_cle hcle x c).trans (Core.chunk_updChunk_same _ ⟨rfl, rfl⟩ hc)
  have hrx : k₂.cle.rx = k.cle.rx := by rw [hcle]; rfl
  have hready : k₂.tryReady x c = k₂ := by
    refine Core.tryReady_lacking hchunk (m := m) (by rwa [Core.others_of_tbl htbl]) (by rwa [Core.slotGot_of_same htbl hrx hmode]) ?_
    rw [Core.slotSite_of_tbl htbl]
    unfold Core.partOn at hp ⊢
    rw [hsite, hp]
  rw [heq, hready, Core.tryNonOwner_reduces (by rwa [Core.reduces_of_tbl htbl])]
  exact ⟨hchunk, by rw [hcle]; rfl⟩

/-- The request for a staging buffer of a flow without LOSSLESS segments. -/
def Core.stageReq (k : Core) (x c : Nat) : BufReq := { user := .stage x c, owner := k.cOwner x, size := 2, mem := 1 }

theorem Core.stageEv_plain {ptr : Nat} (hc : k.chunk x c = some h) (hph : h.phase = .admitted) (hr : h.ready2 = true)
    (hmode : k.fCmode (k.cFlow x) = 0) (hb : (k.takeBuffer (k.stageReq x c)).2 = some ptr) :
    k.stageEv x c = (k.takeBuffer (k.stageReq x c)).1.stageDone x h h.raw ptr := by
  unfold Core.stageEv
  rw [hc]
  dsimp only
  rw [if_neg (by simp [hph, hr, hmode]), hmode, if_neg (by decide), ← Core.stageReq, hb]
  rfl

end

/-- CHUNK_STAGED of a chunk this gateway reduces that still lacks a contribution. -/
theorem State.chunkStaged_stages {x : Fin 4096} {c m ptr : Nat} {h : Chunk} {s t : State} (hc : s.core.chunk x c = some h)
    (hph : h.phase = .admitted) (hrdy : h.ready2 = true) (hmode : s.core.fCmode (s.core.cFlow x) = 0)
    (hq : s.core.cle.failQ = []) (hr : s.core.reduces x c = true) (hm : m ∈ s.core.others x)
    (hg : s.core.slotGot x c m = false) (hp : s.core.partOn (s.core.slotSite x m) = false)
    (hb : (s.core.takeBuffer (s.core.stageReq x c)).2 = some ptr) (ht : t = s.onCore (fun k => (k.stageEv x c).settle)) :
    (∃ h', t.core.chunk x c = some h' ∧ h'.phase = .staged ∧ h'.stagePtr = some ptr ∧ h'.line = h.raw ∧ h'.buf = none ∧
      h'.csum = (if s.core.summing x then
        contribSum (s.core.wbase x) (s.core.localElems x (s.core.chunkElems x c) h h.raw) else 0)) ∧ s.outsideStands t := by
  have hev := Core.stageEv_plain hc hph hrdy hmode hb
  have hbuf := s.core.bufWork_takeBuffer (s.core.stageReq x c)
  have hsite : (s.core.takeBuffer (s.core.stageReq x c)).1.site = s.core.site :=
    hbuf.parts (l := [.bpm, .free]) (by decide) (by decide) .site (by decide)
  generalize (s.core.takeBuffer (s.core.stageReq x c)).1 = k at hev hbuf hsite
  have hsum : k.ownSum x h h.raw = if s.core.summing x then
      contribSum (s.core.wbase x) (s.core.localElems x (s.core.chunkElems x c) h h.raw) else 0 := by
    rw [Core.ownSum, Core.summing_of_tbl hbuf.tbl, Core.wbase_of_tbl hbuf.tbl, Core.localElems_of_tbl hbuf.tbl,
      Core.chunkElems_of_same hbuf.tbl (congrArg Cle.runs hbuf.cle), (Core.chunk_is hc).2]
  have hmode' : s.core.fCmode (s.core.cFlow x) ≠ 2 := by rw [hmode]; decide
  obtain ⟨hchunk, hfq⟩ := Core.stageDone_lacking (k := k) (m := m) (by rwa [Core.chunk_of_cle hbuf.cle])
    (by rwa [Core.others_of_tbl hbuf.tbl]) (by rwa [Core.slotGot_of_same hbuf.tbl (congrArg Cle.rx hbuf.cle) hmode'])
    (by rwa [Core.cFlow, Core.cf_of_tbl hbuf.tbl, Core.fCmode, Core.ff_of_tbl hbuf.tbl])
    (by rw [Core.slotSite_of_tbl hbuf.tbl]; unfold Core.partOn at hp ⊢; rwa [hsite])
    (by rwa [Core.reduces_of_tbl hbuf.tbl]) h.raw ptr
  refine ⟨⟨h.staged h h.raw (k.ownSum x h h.raw) ptr, ?_, rfl, rfl, rfl, rfl, hsum⟩, ht ▸ State.outsideStands_onCore _ _⟩
  rw [ht, Core.chunk_of_cle (State.onCore_cle _ _), Core.settle_of_no_failure, hev]
  · exact hchunk
  · rw [hev, hfq, hbuf.cle, hq]

end Sys2Proof.Machine
end

section
/-!
PROOFS. Held contributions that are dropped, pats taken and rounded (05_collectives R129, R132, R135).
-/

namespace Sys2Proof.Machine

open Sys2Proof

/-! ### Held contributions that are dropped (R129) -/

section
variable (k : Core)

/-- The core with the staged items that stay. -/
def Core.withRx (l : List RxItem) : Core := { k with cle := { k.cle with rx := l } }

theorem Core.returned_dropItem (i : RxItem) :
    (k.withRx (k.cle.rx.filter (fun j => j.id != i.id))).Returned (k.dropItem i) :=
  (Core.returned_dropReq _ _).trans (Core.returned_giveBack _ _ _)

theorem Core.dropItem_rx (i : RxItem) : (k.dropItem i).cle.rx = k.cle.rx.filter (fun j => j.id != i.id) :=
  congrArg Cle.rx (k.returned_dropItem i).cle

theorem Core.rd_dropItem (i : RxItem) {a : Nat} (h : a ∉ [Reg.BPM_BADRET_CNT, Reg.EVL_DROP_CNT, Reg.MGT_ALERT_STAT]) :
    (k.dropItem i).rd a = k.rd a := by
  simp only [List.mem_cons, List.not_mem_nil, or_false, not_or] at h
  obtain ⟨hbad, hdrop, hal⟩ := h
  exact ((k.returned_dropItem i).regs a (by simpa using hbad) hdrop hal).trans rfl

/-- Items dropped and counted one after the other. -/
def Core.dropCounted (l : List RxItem) : Core := l.foldl (fun (k : Core) i => (k.dropItem i).cnt Reg.CLE_STRAY_CNT) k

theorem Core.mem_dropCounted {j : RxItem} (l : List RxItem) :
    j ∈ (k.dropCounted l).cle.rx ↔ j ∈ k.cle.rx ∧ ∀ i ∈ l, j.id ≠ i.id := by
  induction l generalizing k with
  | nil => simp [Core.dropCounted]
  | cons i l ih =>
    refine (ih _).trans ?_
    rw [Core.cnt_cle, Core.dropItem_rx, List.mem_filter, List.forall_mem_cons, bne_iff_ne, and_assoc]

theorem Core.rd_dropCounted (l : List RxItem) : (k.dropCounted l).rd Reg.CLE_STRAY_CNT =
    min (k.rd Reg.CLE_STRAY_CNT + l.length) (2 ^ 32 - 1) := by
  induction l generalizing k with
  | nil =>
    have := k.rd_lt Reg.CLE_STRAY_CNT
    exact (Nat.min_eq_left (show k.rd Reg.CLE_STRAY_CNT ≤ 2 ^ 32 - 1 by omega)).symm
  | cons i l ih =>
    refine (ih _).trans ?_
    rw [Core.rd_cnt_same, Core.rd_dropItem _ _ (by decide), List.length_cons]
    omega

end

/-- HELD_CONTRIB_TIMEOUT. -/
theorem State.heldContribTimeout_drops {s t : State} (ht : t = s.onCore (fun k => k.heldEv)) :
    (∀ i ∈ t.core.cle.rx, i.held = false ∨ s.core.now < i.t + 1000000 * s.core.fd Reg.CLE_PARK 31 16) ∧
      t.core.rd Reg.CLE_STRAY_CNT = min (s.core.rd Reg.CLE_STRAY_CNT + (s.core.cle.rx.filter (fun i => i.held &&
        decide (i.t + 1000000 * s.core.fd Reg.CLE_PARK 31 16 ≤ s.core.now))).length) (2 ^ 32 - 1) ∧ s.outsideStands t := by
  have hev : s.core.heldEv = s.core.dropCounted (s.core.cle.rx.filter (fun i => i.held &&
    decide (i.t + 1000000 * s.core.fd Reg.CLE_PARK 31 16 ≤ s.core.now))) := rfl
  refine ⟨fun i hi => ?_, ?_, ht ▸ State.outsideStands_onCore _ _⟩
  · rw [ht, State.onCore_cle, hev, Core.mem_dropCounted] at hi
    obtain ⟨hin, hkept⟩ := hi
    by_contra hexp
    rw [not_or, Bool.not_eq_false, Nat.not_lt] at hexp
    obtain ⟨hheld, hup⟩ := hexp
    exact hkept i (List.mem_filter.2 ⟨hin, by rw [hheld, Bool.true_and]; exact decide_eq_true hup⟩) rfl
  · rw [ht, State.rd_onCore _ _ (by unfold evReg; decide), hev, Core.rd_dropCounted]

/-! ### A pat taken (R132) -/

/-- A chunk's entry with one more pat held by a churn. -/
def Chunk.held (h : Chunk) (p churn : Nat) : Chunk :=
  { h with pats := h.pats.set p (.held churn), churns := if h.churns.contains churn then h.churns else churn :: h.churns }

theorem Chunk.held_churns (h : Chunk) (p churn : Nat) : (h.held p churn).churns.contains churn = true := by
  unfold Chunk.held
  by_cases hc : h.churns.contains churn = true
  · rw [if_pos hc]; exact hc
  · rw [if_neg hc]; exact List.elem_cons_self

section
variable {k : Core} {x c : Nat} {h : Chunk}

theorem Core.lackers_nil (hc : k.chunk x c = some h) (hl : ∀ z ∈ h.slots.cells, z.2.lack = []) (p : Nat → Bool) :
    k.lackers x c p = [] := by
  unfold Core.lackers
  rw [hc]
  have hnil : h.slots.cells.filter (fun z => z.2.lack.any p) = [] :=
    List.filter_eq_nil_iff.2 fun z hz => by simp [hl z hz]
  simp [hnil]

theorem Core.takeChunk_taken (hc : k.chunk x c = some h) (ht : h.taken = true) : k.takeChunk x c = k := by
  unfold Core.takeChunk
  rw [hc]
  exact if_pos ht

theorem Core.tryDecide_waiting (hc : k.chunk x c = some h) (hf : ∃ z ∈ h.slots.cells, z.2.final = false) (churn : Nat) :
    k.tryDecide x c churn = k := by
  obtain ⟨z, hz, hzf⟩ := hf
  have hall : h.slots.cells.all (fun z => z.2.present && z.2.final && z.2.lack.isEmpty) = false :=
    List.all_eq_false.2 ⟨z, hz, by simp [hzf]⟩
  unfold Core.tryDecide
  rw [hc]
  exact if_pos (.inr (.inr (by simp [Chunk.allFinal, hall])))

/-- A pat of a chunk that is being reduced and waits: it goes to the churn, nothing else. -/
theorem Core.givePat_waiting {churn p : Nat} (hc : k.chunk x c = some h) (ht : h.taken = true)
    (hl : ∀ z ∈ h.slots.cells, z.2.lack = []) (hf : ∃ z ∈ h.slots.cells, z.2.final = false) :
    k.givePat churn (x, c, p) = k.updChunk x c (fun h => h.held p churn) := by
  have hc' := Core.chunk_updChunk_same (k := k) (fun h => h.held p churn) ⟨rfl, rfl⟩ hc
  have heq : k.givePat churn (x, c, p) = ((((k.updChunk x c (fun h => h.held p churn)).lackers x c (fun q => q == p)).foldl
      (fun (k : Core) s => k.feedAgain x c s) ((k.updChunk x c (fun h => h.held p churn)).takeChunk x c)).tryDecide x c churn) := rfl
  rw [heq, Core.lackers_nil hc' hl, Core.takeChunk_taken hc' ht]
  exact Core.tryDecide_waiting hc' hf churn

end

theorem Core.patTakeEv_own {k : Core} {n : Nat} {p : Nat × Nat × Nat} {rest : List (Nat × Nat × Nat)} (hon : k.churnOn n = true)
    (hroom : (k.heldBy n).length < 2) (hq : k.queueOf (n / 16) = p :: rest) :
    k.patTakeEv n = (k.setQueue (n / 16) rest).givePat n p := by
  unfold Core.patTakeEv
  dsimp only
  rw [hon, hq, if_neg (by simp; omega)]

theorem Core.patTakeEv_steal {k : Core} {n q : Nat} {p : Nat × Nat × Nat} {l : List (Nat × Nat × Nat)}
    (hon : k.churnOn n = true) (hroom : (k.heldBy n).length < 2) (hq : k.queueOf (n / 16) = [])
    (hs : k.stealFrom (n / 16) = some q) (hl : k.queueOf q = l ++ [p]) :
    k.patTakeEv n = ((k.setQueue q l).cnt Reg.CLE_XSTEAL_CNT).givePat n p := by
  unfold Core.patTakeEv
  dsimp only
  rw [hon, hq, hs, if_neg (by simp; omega)]
  dsimp only
  rw [hl, List.getLast?_concat, List.dropLast_concat]

theorem exec_patTake (n : Fin 256) (mem : Option MemErr) (s : State) : exec (.patTake n mem) s =
    if s.core.patDue n then .next ((s.memErrs mem).onCore (fun k => (k.patTakeEv n).settle)) else .next s := rfl

/-- PAT_TAKE where there is a pat to take. -/
theorem exec_patTake_due {n : Fin 256} {s : State} (h : s.core.patDue n = true) :
    exec (.patTake n none) s = .next (s.onCore (fun k => (k.patTakeEv n).settle)) := by
  rw [exec_patTake, if_pos h]
  rfl

section
variable {n : Fin 256} {p : Nat × Nat × Nat} {h : Chunk} {s t : State} (hq : s.core.cle.failQ = [])
  (hc : s.core.chunk p.1 p.2.1 = some h) (htk : h.taken = true) (hl : ∀ z ∈ h.slots.cells, z.2.lack = [])
  (hf : ∃ z ∈ h.slots.cells, z.2.final = false) (ht : t = s.onCore (fun k => (k.patTakeEv n).settle))

include hq hc htk hl hf ht

/-- PAT_TAKE from the core `k` in which the pat has left its queue. -/
theorem State.patTake_gives {k : Core} {r : List Nat} (hev : s.core.patTakeEv n = k.givePat n p)
    (hchunks : k.cle.chunks = s.core.cle.chunks) (hfail : k.cle.failQ = s.core.cle.failQ) (hp : s.core.onlyParts [.cle] k)
    (hr : s.core.onlyRegs r k) : t.core.cle.queues = k.cle.queues ∧ (∀ a, ¬ evReg a → t.core.rd a = k.rd a) ∧
      (∃ h', t.core.chunk p.1 p.2.1 = some h' ∧ h'.pats = h.pats.set p.2.2 (.held n) ∧ h'.churns.contains n.val = true) ∧
      s.only [.cle] r t := by
  have hc' : k.chunk p.1 p.2.1 = some h := by rw [← hc]; unfold Core.chunk; rw [hchunks]
  have hfq : (k.updChunk p.1 p.2.1 (fun h => h.held p.2.2 n)).cle.failQ = [] := hfail.trans hq
  have hgive : k.givePat n p = k.updChunk p.1 p.2.1 (fun h => h.held p.2.2 n) := Core.givePat_waiting hc' htk hl hf
  have hk : s.core.patTakeEv n = k.updChunk p.1 p.2.1 (fun h => h.held p.2.2 n) := hev.trans hgive
  have hset : (s.core.patTakeEv n).settle = k.updChunk p.1 p.2.1 (fun h => h.held p.2.2 n) := by
    rw [hk, Core.settle_of_no_failure hfq]
  have hchunk := Core.chunk_updChunk_same (k := k) (fun h => h.held p.2.2 n) ⟨rfl, rfl⟩ hc'
  obtain ⟨-, -, -, -, hrd, honly⟩ := State.onCore_settle hk hfq ht
  refine ⟨by rw [ht, State.onCore_cle, hset]; rfl, fun a ha => (hrd a ha).trans rfl,
    ⟨_, by rw [ht, Core.chunk_of_cle (State.onCore_cle _ _), hset]; exact hchunk, rfl, h.held_churns _ _⟩,
    honly _ _ (Core.onlyParts_trans hp (Core.onlyParts_cle (by simp) _)) (Core.onlyRegs_trans hr (Core.onlyRegs_of_regs rfl))⟩

/-- PAT_TAKE of the front pat of the churn's own creamery. -/
theorem State.patTake_own {rest : List (Nat × Nat × Nat)} (hon : s.core.churnOn n = true)
    (hroom : (s.core.heldBy n).length < 2) (hqueue : s.core.queueOf (n.val / 16) = p :: rest) :
    t.core.queueOf (n.val / 16) = rest ∧
      (∃ h', t.core.chunk p.1 p.2.1 = some h' ∧ h'.pats = h.pats.set p.2.2 (.held n) ∧ h'.churns.contains n.val = true) ∧
      s.only [.cle] [] t := by
  obtain ⟨hqs, -, hchunk, honly⟩ := State.patTake_gives hq hc htk hl hf ht (Core.patTakeEv_own hon hroom hqueue) rfl rfl
    (Core.onlyParts_cle (by simp) _) (Core.onlyRegs_of_regs (r := []) rfl)
  refine ⟨?_, hchunk, honly⟩
  unfold Core.queueOf
  rw [hqs]
  exact SMap.get_set_same _ _ _ _

/-- PAT_TAKE of the last pat of another creamery. -/
theorem State.patTake_steals {q : Nat} {l : List (Nat × Nat × Nat)} (hon : s.core.churnOn n = true)
    (hroom : (s.core.heldBy n).length < 2) (hqueue : s.core.queueOf (n.val / 16) = [])
    (hsteal : s.core.stealFrom (n.val / 16) = some q) (hlast : s.core.queueOf q = l ++ [p]) :
    t.core.queueOf q = l ∧
      (∃ h', t.core.chunk p.1 p.2.1 = some h' ∧ h'.pats = h.pats.set p.2.2 (.held n) ∧ h'.churns.contains n.val = true) ∧
      t.core.rd Reg.CLE_XSTEAL_CNT = min (s.core.rd Reg.CLE_XSTEAL_CNT + 1) (2 ^ 32 - 1) ∧
      s.only [.cle] [Reg.CLE_XSTEAL_CNT] t := by
  obtain ⟨hqs, hrd, hchunk, honly⟩ := State.patTake_gives hq hc htk hl hf ht
    (Core.patTakeEv_steal hon hroom hqueue hsteal hlast) rfl rfl
    (Core.onlyParts_trans (Core.onlyParts_cle (by simp) _) (Core.onlyParts_cnt _))
    (Core.onlyRegs_trans (Core.onlyRegs_of_regs rfl) (Core.onlyRegs_cnt (r := [Reg.CLE_XSTEAL_CNT]) (by simp)))
  refine ⟨?_, hchunk, ?_, honly⟩
  · unfold Core.queueOf
    rw [hqs]
    exact SMap.get_set_same _ _ _ _
  · rw [hrd _ (by unfold evReg; decide), Core.rd_cnt_same]
    rfl

end

theorem Core.patDue_own {k : Core} {n : Nat} {p : Nat × Nat × Nat} {rest : List (Nat × Nat × Nat)} (hon : k.churnOn n = true)
    (hroom : (k.heldBy n).length < 2) (hq : k.queueOf (n / 16) = p :: rest) : k.patDue n = true := by
  simp [Core.patDue, hon, hroom, hq]

theorem Core.patDue_steal {k : Core} {n q : Nat} (hon : k.churnOn n = true) (hroom : (k.heldBy n).length < 2)
    (hs : k.stealFrom (n / 16) = some q) : k.patDue n = true := by
  simp [Core.patDue, hon, hroom, hs]

/-! ### A pat rounded (R135) -/

/-- A chunk's entry with a pat rounded. -/
def Chunk.rounded (h : Chunk) (p : Nat) (e : List Byte × List Rounded) : Chunk :=
  { h with pats := h.pats.set p .rounded, res := h.res ++ [(p, e.1)], sat := h.sat + (e.2.filter (·.beyond)).length }

section
variable {k : Core} {x c : Nat} {h : Chunk}

/-- Result packets sent: the chunk's entry names them, and what sending takes changes. -/
theorem Core.onlyParts_sendPackets (hc : k.chunk x c = some h) :
    (k.updChunk x c (fun g => { g with sent := g.sent ++ k.sendable x h })).onlyParts [.frt, .tbl, .free, .fcs]
      (k.sendPackets x c) := by
  have hfold := Core.onlyParts_foldl (l := [.frt, .tbl, .free, .fcs]) (g := fun (k : Core) i => k.sendFirst (k.resRec x c) i)
    (fun k i => Core.onlyParts_mono (by decide) (k.sentFirst_sendFirst (k.resRec x c) i).parts) (k.sendable x h)
    (k.updChunk x c (fun g => { g with sent := g.sent ++ k.sendable x h }))
  unfold Core.sendPackets
  rw [hc]
  dsimp only
  split
  · exact Core.onlyParts_trans hfold (Core.onlyParts_fcs (by decide) _)
  · exact hfold

/-- What sending a chunk's result packets leaves: the memory, the failures that wait, the chunk but for what was sent. -/
theorem Core.sendPackets_leaves (hc : k.chunk x c = some h) : (k.sendPackets x c).mem = k.mem ∧
    (k.sendPackets x c).cle.failQ = k.cle.failQ ∧
    (k.sendPackets x c).chunk x c = some { h with sent := h.sent ++ k.sendable x h } := by
  have hparts := Core.onlyParts_sendPackets hc
  have hcle := hparts .cle (by decide)
  exact ⟨(hparts .mem (by decide)).trans rfl, (congrArg Cle.failQ hcle).trans rfl,
    (Core.chunk_of_cle hcle x c).trans (Core.chunk_updChunk_same _ ⟨rfl, rfl⟩ hc)⟩

/-- A pat rounded: the chunk's entry and the count of saturated elements. -/
def Core.patRounded (k : Core) (x c p : Nat) (e : List Byte × List Rounded) : Core :=
  (k.updChunk x c (fun g => g.rounded p e)).cntN Reg.CLE_AR_SAT_CNT (e.2.filter (·.beyond)).length

theorem Core.chunk_patRounded (hc : k.chunk x c = some h) (p : Nat) (e : List Byte × List Rounded) :
    (k.patRounded x c p e).chunk x c = some (h.rounded p e) :=
  (Core.chunk_of_cle (Core.cntN_cle _ _ _) x c).trans (Core.chunk_updChunk_same _ ⟨rfl, rfl⟩ hc)

theorem Core.outFmt_of_tbl {k k' : Core} (h : k'.tbl = k.tbl) (x : Nat) : k'.outFmt x = k.outFmt x := by
  simp only [Core.outFmt, Core.cArith, Core.cf_of_tbl h]

/-- The bytes of a rounded pat reach the result buffer and the packets that are whole are sent. -/
theorem Core.roundPat_eq {p ptr churn : Nat} {e : List Byte × List Rounded} (hc : k.chunk x c = some h)
    (hp : h.resPtr = some ptr)
    (he : encodeElems (k.outFmt x) (k.resultVals x h (1024 * p) (min 1024 (k.chunkElems x c - 1024 * p))) = e) {k' : Core}
    (hk' : k' = ((k.patRounded x c p e).mwr (ptrAddr ptr + p * fmtBytes (k.outFmt x) 1024) e.1).sendPackets x c) :
    k.roundPat x c p churn =
      if (k'.chunk x c).any (fun g => g.pats.all (fun q => q == .rounded)) then k'.release x c churn else k' := by
  have hplace : k.resultPlace x h = (k, true) := if_pos (.inr (by rw [hp]; rfl))
  have hbuf : ((k.patRounded x c p e).chunk x c).bind (·.resPtr) = some ptr := by
    rw [Core.chunk_patRounded hc, Option.bind_some]
    exact hp
  have hfmt : (k.patRounded x c p e).outFmt x = k.outFmt x := Core.outFmt_of_tbl (Core.cntN_tbl _ _ _) x
  rw [← hfmt] at hk'
  subst hk' he
  unfold Core.roundPat
  rw [hc]
  dsimp only
  rw [hplace]
  dsimp only
  unfold Core.patRounded Chunk.rounded at hbuf ⊢
  rw [hbuf]
  rfl

/-- A pat rounded of a chunk that has its result buffer and other pats to round. -/
theorem Core.roundPat_stores {p ptr churn : Nat} {e : List Byte × List Rounded} (hc : k.chunk x c = some h)
    (hp : h.resPtr = some ptr) (hmore : (h.pats.set p .rounded).all (fun q => q == .rounded) = false)
    (he : encodeElems (k.outFmt x) (k.resultVals x h (1024 * p) (min 1024 (k.chunkElems x c - 1024 * p))) = e) :
    (k.roundPat x c p churn).mem = memPut k.mem (ptrAddr ptr + p * fmtBytes (k.outFmt x) 1024) e.1 ∧
      (k.roundPat x c p churn).cle.failQ = k.cle.failQ ∧
      ∃ l, (k.roundPat x c p churn).chunk x c = some { h.rounded p e with sent := l } := by
  have hwritten : ((k.patRounded x c p e).mwr (ptrAddr ptr + p * fmtBytes (k.outFmt x) 1024) e.1).chunk x c =
      some (h.rounded p e) := Core.chunk_patRounded hc p e
  obtain ⟨hmem, hfq, hchunk⟩ := Core.sendPackets_leaves hwritten
  rw [Core.roundPat_eq hc hp he rfl, hchunk, Option.any_some, if_neg (by simpa [Chunk.rounded] using hmore)]
  exact ⟨hmem, hfq, _, hchunk⟩

end

/-- A unit in service that works without an error of its own. -/
theorem State.unitWork_without_error {s : State} {u : Nat} {busy : Core → Bool} (redo work : Core → Core)
    (hb : busy s.core = true) (hu : s.core.unitOn u = true) : s.unitWork u none busy redo work = s.onCore work := by
  have hne : ¬ (!busy s.core) = true := by rw [hb]; decide
  exact (if_neg hne).trans (if_pos hu)

/-- PAT_ROUND of a chunk that has its result buffer. -/
theorem State.patRound_stores {n : Fin 256} {x c p ptr : Nat} {h : Chunk} {bytes : List Byte} {rs : List Rounded} {s t : State}
    (hr : s.core.roundable n = some (x, c, p)) (hc : s.core.chunk x c = some h) (hp : h.resPtr = some ptr)
    (hmore : (h.pats.set p .rounded).all (fun q => q == .rounded) = false) (hu : s.core.unitOn n = true)
    (hq : s.core.cle.failQ = [])
    (he : encodeElems (s.core.outFmt x) (s.core.resultVals x h (1024 * p) (min 1024 (s.core.chunkElems x c - 1024 * p))) =
      (bytes, rs))
    (ht : t = s.unitWork n none (fun k => (k.roundable n).isSome) (fun k => k) (fun k => (k.patRoundEv n).settle)) :
    (∃ h', t.core.chunk x c = some h' ∧ h'.pats = h.pats.set p .rounded ∧ h'.res = h.res ++ [(p, bytes)] ∧
      h'.sat = h.sat + (rs.filter (·.beyond)).length) ∧
      t.core.mrd (ptrAddr ptr + p * fmtBytes (s.core.outFmt x) 1024) bytes.length = bytes ∧ s.outsideStands t := by
  have hev : s.core.patRoundEv n = s.core.roundPat x c p n := by unfold Core.patRoundEv; rw [hr]
  have hwork : t = s.onCore (fun k => (k.patRoundEv n).settle) :=
    ht.trans (State.unitWork_without_error _ _ (show (s.core.roundable n).isSome = true by rw [hr]; rfl) hu)
  obtain ⟨hmem, hfq, l, hchunk⟩ := Core.roundPat_stores (churn := n) hc hp hmore he
  have hset : (s.core.patRoundEv n).settle = s.core.roundPat x c p n := by
    rw [hev, Core.settle_of_no_failure (hfq.trans hq)]
  refine ⟨⟨{ h.rounded p (bytes, rs) with sent := l }, ?_, rfl, rfl, rfl⟩, ?_, hwork ▸ State.outsideStands_onCore _ _⟩
  · rw [hwork, Core.chunk_of_cle (State.onCore_cle _ _), hset]; exact hchunk
  · exact Core.mrd_of_memPut (k := s.core) (by rw [hwork, State.onCore_mem, hset]; exact hmem)

end Sys2Proof.Machine
end

section
/-!
PROOFS. What the end of a chunk's work gives up (05_collectives R144 to R148, 04_flows R107 to R113): chunks, parking entries and
buffers go, no context's function changes, only records that time out make further chunks fail.
-/

namespace Sys2Proof.Machine

open Sys2Proof

/-- The collective engine only gives up work: no chunk and no parking entry is new, a chunk that is to fail is to fail with
ST_TIMEOUT, no unit is suspected, the control queue stands. -/
structure Core.Sheds (r : List Nat) (k k' : Core) : Prop where
  chunks : k'.cle.chunks ⊆ k.cle.chunks
  park : k'.cle.park ⊆ k.cle.park
  failQ : ∀ p ∈ k'.cle.failQ, p ∈ k.cle.failQ ∨ p.2.2 = stTimeout
  suspects : k'.cle.suspects = k.cle.suspects
  ctl : k'.frt.ctl = k.frt.ctl
  regs : k.onlyRegs r k'

section
variable {r : List Nat} {k k' k'' : Core}

theorem Core.Sheds.refl (r : List Nat) (k : Core) : Core.Sheds r k k :=
  ⟨fun _ h => h, fun _ h => h, fun _ h => .inl h, rfl, rfl, Core.onlyRegs_refl _ _⟩

theorem Core.Sheds.trans (h : Core.Sheds r k k') (h' : Core.Sheds r k' k'') : Core.Sheds r k k'' :=
  ⟨fun _ hm => h.chunks (h'.chunks hm), fun _ hm => h.park (h'.park hm), fun p hp => (h'.failQ p hp).elim (h.failQ p) .inr,
    h'.suspects.trans h.suspects, h'.ctl.trans h.ctl, Core.onlyRegs_trans h.regs h'.regs⟩

theorem Core.Sheds.mono {r' : List Nat} (hr : ∀ a ∈ r, a ∈ r') (h : Core.Sheds r k k') : Core.Sheds r' k k' :=
  { h with regs := Core.onlyRegs_mono hr h.regs }

theorem Core.Sheds.of_cle (hc : k'.cle = k.cle) (hf : k'.frt.ctl = k.frt.ctl) (hr : k.onlyRegs r k') : Core.Sheds r k k' :=
  ⟨by rw [hc]; exact fun _ h => h, by rw [hc]; exact fun _ h => h, fun p hp => .inl (by rwa [hc] at hp), by rw [hc], hf, hr⟩

/-- A chunk that is gone stays gone. -/
theorem Core.Sheds.chunk_none (h : Core.Sheds r k k') {x c : Nat} (hc : k.chunk x c = none) : k'.chunk x c = none :=
  List.find?_eq_none.2 fun g hg => List.find?_eq_none.1 hc g (h.chunks hg)

end

/-- The counts that giving up work may raise: bad returns of buffers and records that timed out. -/
def freeCnts : List Nat := [Reg.BPM_BADRET_CNT, Reg.FCS_TIMEOUT_CNT]

/-- Work given up with every context's function standing. -/
structure Core.Frees (k k' : Core) : Prop extends Core.Sheds freeCnts k k' where
  ctx : ∀ x, k'.fn (.ctx x) = k.fn (.ctx x)

section
variable {k k' k'' : Core}

theorem Core.Frees.refl (k : Core) : k.Frees k := ⟨.refl _ k, fun _ => rfl⟩

theorem Core.Frees.trans (h : k.Frees k') (h' : k'.Frees k'') : k.Frees k'' :=
  ⟨h.toSheds.trans h'.toSheds, fun x => (h'.ctx x).trans (h.ctx x)⟩

theorem Core.Frees.foldl {α : Type} {g : Core → α → Core} (hg : ∀ (k : Core) a, k.Frees (g k a)) (l : List α) (k : Core) :
    k.Frees (l.foldl g k) := by
  induction l generalizing k with
  | nil => exact .refl k
  | cons a l ih => exact (hg k a).trans (ih _)

theorem Core.Frees.of_same (hfn : k'.fns = k.fns) (hc : k'.cle = k.cle) (hf : k'.frt.ctl = k.frt.ctl)
    (hr : k.onlyRegs freeCnts k') : k.Frees k' := ⟨.of_cle hc hf hr, fun _ => Core.fn_of_fns hfn _⟩

theorem Core.OnlyTbl.frees (h : k.OnlyTbl k') : k.Frees k' :=
  .of_same h.fns h.cle (by rw [h.frt]) (Core.onlyRegs_of_regs h.regs)

theorem Core.Sent.frees {n : Nat} (h : k.Sent n k') : k.Frees k' :=
  .of_same h.fns h.cle h.ctl (Core.onlyRegs_of_regs h.regs)

theorem Core.Returned.frees (h : k.Returned k') : k.Frees k' :=
  ⟨.of_cle h.cle (by rw [h.frt]) (Core.onlyRegs_mono (by simp [freeCnts]) h.regs), h.ctx⟩

end

section
variable (k : Core)

/-! ### Records that time out (04_flows R107, R111) -/

theorem Core.frees_emit (src code : Nat) (e : List (Nat × Nat × Nat)) : k.Frees (k.emit src code e) :=
  .of_same (Core.emit_fns _ _ _ _) (Core.emit_cle _ _ _ _) (by rw [Core.emit_frt]) (Core.onlyRegs_emit _ _ _)

theorem Core.frees_setFn_flow {f : Nat} (hf : f < 16384) (y : Fn) : k.Frees (k.setFn (.flow f) y) :=
  ⟨.of_cle rfl rfl (Core.onlyRegs_of_regs rfl), fun x => k.fn_setFn_ne (FnId.code_flow_ne_ctx hf x).symm y⟩

theorem Core.frees_setFst_flow {f : Nat} (hf : f < 16384) (n : FState) (st : Nat) : k.Frees (k.setFst (.flow f) n st) :=
  ⟨.of_cle (k.setFst_flow_cle f n st) (by rw [Core.setFst_frt]) (Core.onlyRegs_setFst _ _ _),
    fun x => k.fn_setFst_ne (FnId.code_flow_ne_ctx hf x).symm n st⟩

theorem Core.frees_flowStart {f : Nat} (hf : f < 16384) : k.Frees (Core.flowStart f k) := by
  obtain ⟨a, b, c, h⟩ := k.flowStart_eq f
  have hw := (k.onlyTbl_flowWords f).frees
  rw [h]
  generalize k.flowWords f = k₁ at hw
  have hbeside : k₁.Frees { k₁ with fcs := a, xfm := b, cip := c } := .of_same rfl rfl rfl (Core.onlyRegs_of_regs rfl)
  exact (hw.trans hbeside).trans (Core.frees_setFst_flow _ hf _ _)

theorem Core.frees_flowChk {f : Nat} (hf : f < 16384) : k.Frees (Core.flowChk f k) := by
  unfold Core.flowChk
  split
  · exact Core.fnDrained_keeps (P := k.Frees) (fun _ _ _ h => h.trans (Core.frees_setFst_flow _ hf _ _))
      (fun _ _ h => h.trans (Core.frees_setFn_flow _ hf _)) (fun _ h => h.trans (Core.frees_flowStart _ hf)) (.refl k) _ _
  · exact .refl k

theorem Core.recTimerOff_regs (id : Nat) : (k.recTimerOff id).regs = k.regs := rfl

theorem Core.frees_closeRec (id st : Nat) : k.Frees (k.closeRec id st) := by
  refine .of_same (k.closeRec_fns id st) (k.closeRec_cle id st) (by rw [Core.closeRec_frt]) ?_
  have hfail : k.onlyRegs freeCnts (k.recFail id st) := by
    unfold Core.recFail
    dsimp only
    have hcnt : k.onlyRegs freeCnts (if st = stTimeout then k.cnt Reg.FCS_TIMEOUT_CNT else k) := by
      split
      · exact Core.onlyRegs_cnt (by simp [freeCnts])
      · exact Core.onlyRegs_refl _ _
    split
    · exact hcnt
    · exact Core.onlyRegs_trans hcnt (Core.onlyRegs_emit _ _ _)
  have hwords := (k.recFail id st).onlyTbl_closedWords id st
  rw [Core.closeRec_eq]
  generalize (k.recFail id st).closedWords id st = k₁ at hwords ⊢
  exact Core.onlyRegs_trans hfail (Core.onlyRegs_of_regs ((k₁.recTimerOff_regs id).trans hwords.regs))

theorem Core.frees_ackUpdate (f fin : Nat) : k.Frees (k.ackUpdate f fin) := by
  obtain ⟨x, v, h⟩ := k.ackUpdate_eq f fin
  have hfcs : k.Frees { k with fcs := x } := .of_same rfl rfl rfl (Core.onlyRegs_of_regs rfl)
  rw [h]
  exact hfcs.trans (Core.onlyTbl_setFctx _ _ _).frees

theorem Core.frees_sendDone_timeout (id : Nat) : k.Frees (k.sendDone id stTimeout) := by
  unfold Core.sendDone
  dsimp only
  rw [if_neg (by decide)]
  exact ((((k.frees_closeRec id _).trans (Core.onlyTbl_fInc _ _ _ _ _).frees).trans (Core.returned_giveBack _ _ _).frees).trans
    (Core.frees_ackUpdate _ _ _)).trans (Core.frees_flowChk _ (k.rFlow_lt id))

theorem Core.frees_notify_timeout (id : Nat) : k.Frees (k.notify id stTimeout) := by
  unfold Core.notify
  dsimp only
  split
  · split
    · exact .refl k
    · split
      · exact (k.returned_giveBack _ _).frees
      · rw [if_neg (by decide)]
        next h _ =>
        have hback := (k.returned_giveBack (some (k.rBuf id)) (k.cOwner (k.fCollCtx (k.rFlow id)))).frees
        generalize k.giveBack (some (k.rBuf id)) (k.cOwner (k.fCollCtx (k.rFlow id))) = k₁ at hback
        refine hback.trans ⟨⟨fun _ h => h, fun _ h => h, fun p hp => ?_, rfl, rfl, Core.onlyRegs_of_regs rfl⟩, fun _ => rfl⟩
        rcases List.mem_append.1 hp with hp | hp
        · exact .inl hp
        · rw [List.mem_singleton.1 hp]; exact .inr rfl
  · exact .refl k
  · exact .refl k
  · exact .refl k

theorem Core.frees_recDone_timeout (id : Nat) : k.Frees (k.recDone id stTimeout) := by
  unfold Core.recDone
  split
  · exact k.frees_sendDone_timeout id
  · obtain ⟨k', hsent, h⟩ := k.recvDone_timeout_eq id
    rw [h]
    exact (((k.frees_closeRec id _).trans (Core.onlyTbl_fInc _ _ _ _ _).frees).trans (Core.frees_notify_timeout _ id)).trans
      (hsent.frees.trans (Core.frees_flowChk _ (k.rFlow_lt id)))

/-- A flow that faults ends its open records. -/
theorem Core.frees_flowFault {f : Nat} (hf : f < 16384) (st : Nat) : k.Frees (k.flowFault f st stTimeout) := by
  unfold Core.flowFault
  split
  · exact .refl k
  · exact .refl k
  next hoff hfaulted =>
    rw [k.fnFault_of_live hoff hfaulted]
    exact ((k.frees_setFst_flow hf _ _).trans (Core.frees_setFn_flow _ hf _)).trans
      (Core.Frees.foldl (fun k id => k.frees_recDone_timeout id) _ _)

/-! ### What a chunk and a context hold (R144) -/

theorem Core.frees_withRx (l : List RxItem) : k.Frees (k.withRx l) :=
  ⟨⟨fun _ h => h, fun _ h => h, fun _ h => .inl h, rfl, rfl, Core.onlyRegs_of_regs rfl⟩, fun _ => rfl⟩

theorem Core.frees_dropItem (i : RxItem) : k.Frees (k.dropItem i) := (k.frees_withRx _).trans (k.returned_dropItem i).frees

theorem Core.frees_xfm (x : Xfm) : k.Frees { k with xfm := x } := .of_same rfl rfl rfl (Core.onlyRegs_of_regs rfl)

theorem Core.frees_cip (c : Cip) : k.Frees { k with cip := c } := .of_same rfl rfl rfl (Core.onlyRegs_of_regs rfl)

theorem Core.frees_queues (q : SMap (List (Nat × Nat × Nat))) : k.Frees { k with cle := { k.cle with queues := q } } :=
  ⟨⟨fun _ h => h, fun _ h => h, fun _ h => .inl h, rfl, rfl, Core.onlyRegs_of_regs rfl⟩, fun _ => rfl⟩

theorem Core.frees_dropChunk (x c : Nat) : k.Frees (k.dropChunk x c) :=
  ⟨⟨fun _ h => List.mem_of_mem_filter h, fun _ h => h, fun _ h => .inl h, rfl, rfl, Core.onlyRegs_of_regs rfl⟩, fun _ => rfl⟩

theorem Core.frees_unpark (x : Nat) : k.Frees (k.unpark x) :=
  ⟨⟨fun _ h => h, fun _ h => List.mem_of_mem_filter h, fun _ h => .inl h, rfl, rfl, Core.onlyRegs_of_regs rfl⟩, fun _ => rfl⟩

theorem Core.frees_failed (f : Nat × Nat × Nat → Bool) :
    k.Frees { k with cle := { k.cle with failQ := k.cle.failQ.filter f } } :=
  ⟨⟨fun _ h => h, fun _ h => h, fun _ h => .inl (List.mem_of_mem_filter h), rfl, rfl, Core.onlyRegs_of_regs rfl⟩, fun _ => rfl⟩

theorem Core.frees_setRun (x : Nat) (g : CtxRun → CtxRun) : k.Frees (k.setRun x g) :=
  ⟨⟨fun _ h => h, fun _ h => h, fun _ h => .inl h, rfl, rfl, Core.onlyRegs_of_regs rfl⟩, fun _ => rfl⟩

/-- A chunk's end up to its entry: everything it held is freed. -/
def Core.chunkEmptied (x c : Nat) (h : Chunk) : Core :=
  let k := (k.giveBack h.buf (k.cOwner x)).giveBack h.stagePtr (k.cOwner x)
  let rec_ := k.cCrBase x + k.cDepth x + c % k.cDepth x
  let k := if k.rOpen rec_ then k else k.giveBack h.resPtr (k.cOwner x)
  let k := (k.chunkItems x c).foldl (fun k i => k.dropItem i) k
  let k := (k.dropSeg (fun s => s.use.ofChunk x c)).dropReq (fun u => u.ofChunk x c)
  let k : Core := { k with cip := { k.cip with dels := k.cip.dels.filter (fun d =>
    !(decide (2 ≤ d.key.1) && d.key.2.1 == x && d.key.2.2.1 == c)) } }
  (List.range 16).foldl (fun (k : Core) q =>
    { k with cle := { k.cle with queues := k.cle.queues.upd [] q (fun l => l.filter (fun p => !(p.1 == x && p.2.1 == c))) } }) k

theorem Core.freeChunk_eq {x c : Nat} {h : Chunk} (hc : k.chunk x c = some h) :
    k.freeChunk x c = (k.chunkEmptied x c h).dropChunk x c := by
  unfold Core.freeChunk
  rw [hc]
  rfl

theorem Core.frees_chunkEmptied (x c : Nat) (h : Chunk) : k.Frees (k.chunkEmptied x c h) := by
  unfold Core.chunkEmptied
  extract_lets k₁ rec_ k₂ k₃ k₄ _ k₅
  have hbufs : k.Frees k₁ := (k.returned_giveBack _ _).frees.trans (Core.returned_giveBack _ _ _).frees
  have hres : k₁.Frees k₂ := by
    unfold k₂
    split
    · exact .refl k₁
    · exact (k₁.returned_giveBack _ _).frees
  have hitems : k₂.Frees k₃ := .foldl (fun k i => k.frees_dropItem i) _ k₂
  have hreqs : k₃.Frees k₄ := (k₃.frees_xfm _).trans (Core.returned_dropReq _ _).frees
  exact ((((hbufs.trans hres).trans hitems).trans hreqs).trans (k₄.frees_cip _)).trans (.foldl (fun k _ => k.frees_queues _) _ k₅)

theorem Core.freeChunk_absent {x c : Nat} (hc : k.chunk x c = none) : k.freeChunk x c = k := by
  unfold Core.freeChunk
  rw [hc]

theorem Core.frees_freeChunk (x c : Nat) : k.Frees (k.freeChunk x c) := by
  cases hc : k.chunk x c with
  | none => rw [k.freeChunk_absent hc]; exact .refl k
  | some h =>
    rw [k.freeChunk_eq hc]
    exact (k.frees_chunkEmptied x c h).trans (Core.frees_dropChunk _ x c)

/-- A chunk freed is gone. -/
theorem Core.chunk_freeChunk (x c : Nat) : (k.freeChunk x c).chunk x c = none := by
  cases hc : k.chunk x c with
  | none => rw [k.freeChunk_absent hc, hc]
  | some h =>
    rw [k.freeChunk_eq hc]
    exact List.find?_eq_none.2 fun g hg => by simpa using (List.mem_filter.1 hg).2

theorem Core.frees_freeCtx (x : Nat) : k.Frees (k.freeCtx x) := by
  unfold Core.freeCtx
  exact ((Core.Frees.foldl (fun k c => k.frees_freeChunk x c) _ k).trans
    (.foldl (fun k i => k.frees_dropItem i) _ _)).trans (Core.returned_dropReq _ _).frees

theorem Core.frees_closeCtxRecs (x : Nat) : k.Frees (k.closeCtxRecs x) := by
  have hclose : ∀ (k : Core) (i : Nat), k.Frees
      (let id := k.cCrBase x + i
       if k.rOpen id then k.recDone id stTimeout else k) := fun k i => by
    dsimp only
    split
    · exact k.frees_recDone_timeout _
    · exact .refl k
  unfold Core.closeCtxRecs
  extract_lets k₁
  have hrecs : k.Frees k₁ := .foldl hclose _ k
  exact hrecs.trans (k₁.frees_failed _)

/-! ### Messages and records of an abort (R148, R151) -/

theorem Core.frees_gccTo (s : Nat) (m : List Byte) : k.Frees (k.gccTo s m) := by
  unfold Core.gccTo
  split
  · exact .of_same rfl rfl rfl (Core.onlyRegs_of_regs rfl)
  · exact .refl k

theorem Core.frees_rankStop (d st : Nat) : k.Frees (k.rankStop d st) := by
  unfold Core.rankStop
  extract_lets r k₁ k₂
  split
  · exact .refl k
  · have hset : k₁.Frees k₂ := .of_same rfl rfl rfl (Core.onlyRegs_of_regs rfl)
    exact ((k.frees_xfm _).trans hset).trans (k₂.frees_emit _ _ _)

theorem Core.OnlyTbl.foldl {α : Type} {g : Core → α → Core} (hg : ∀ (k : Core) a, k.OnlyTbl (g k a)) (l : List α) (k : Core) :
    k.OnlyTbl (l.foldl g k) := by
  induction l generalizing k with
  | nil => exact .refl k
  | cons a l ih => exact (hg k a).trans (ih _)

/-- What the record of a collective's lateness leaves: everything but its table (10_timetable_time R292). -/
theorem Core.onlyTbl_lateRecord (x : Nat) (missing : List Nat) : k.OnlyTbl (k.lateRecord x missing) := by
  unfold Core.lateRecord
  split
  · exact .refl k
  next due _ =>
    extract_lets row a k₁ w k₂
    have hfresh : k.OnlyTbl k₁ := by
      unfold k₁
      split
      · exact .refl k
      · exact (Core.OnlyTbl.foldl (fun k i => ⟨_, rfl⟩) _ k).trans ⟨_, rfl⟩
    have hcount : k₁.OnlyTbl k₂ := ⟨_, rfl⟩
    refine (hfresh.trans hcount).trans (Core.OnlyTbl.foldl (fun k s => ?_) _ k₂)
    dsimp only
    split
    · exact ⟨_, rfl⟩
    split
    · exact .refl k
    · exact ⟨_, rfl⟩

end

end Sys2Proof.Machine
end

section
/-!
PROOFS. Chunks that fail and jobs that abort (05_collectives R144, R146, R148): an OFF context stays OFF, a FAULTED one FAULTED, and
the engine only gives up work, whatever chunks the records' failures end.
-/

namespace Sys2Proof.Machine

open Sys2Proof

/-- Work given up, where a context's function may change, but OFF stays OFF and FAULTED stays FAULTED. -/
structure Core.Fails (r : List Nat) (k k' : Core) : Prop extends Core.Sheds r k k' where
  off : ∀ x, k.fst (.ctx x) = .off → k'.fst (.ctx x) = .off
  faulted : ∀ x, k.fst (.ctx x) = .faulted → k'.fst (.ctx x) = .faulted

section
variable {r : List Nat} {k k' k'' : Core}

theorem Core.Fails.refl (r : List Nat) (k : Core) : Core.Fails r k k := ⟨.refl r k, fun _ => id, fun _ => id⟩

theorem Core.Fails.trans (h : Core.Fails r k k') (h' : Core.Fails r k' k'') : Core.Fails r k k'' :=
  ⟨h.toSheds.trans h'.toSheds, fun x => h'.off x ∘ h.off x, fun x => h'.faulted x ∘ h.faulted x⟩

theorem Core.Fails.foldl {α : Type} {g : Core → α → Core} (l : List α) (hg : ∀ (k : Core), ∀ a ∈ l, Core.Fails r k (g k a))
    (k : Core) : Core.Fails r k (l.foldl g k) := by
  induction l generalizing k with
  | nil => exact .refl r k
  | cons a l ih =>
    obtain ⟨ha, hl⟩ : (∀ k, Core.Fails r k (g k a)) ∧ ∀ (k : Core), ∀ b ∈ l, Core.Fails r k (g k b) :=
      ⟨fun k => hg k a List.mem_cons_self, fun k b hb => hg k b (List.mem_cons_of_mem _ hb)⟩
    exact (ha k).trans (ih hl _)

theorem Core.Frees.fst (h : k.Frees k') (x : Nat) : k'.fst (.ctx x) = k.fst (.ctx x) := congrArg Fn.fst (h.ctx x)

theorem Core.Frees.fails (hr : ∀ a ∈ freeCnts, a ∈ r) (h : k.Frees k') : Core.Fails r k k' :=
  ⟨h.toSheds.mono hr, fun x hx => (h.fst x).trans hx, fun x hx => (h.fst x).trans hx⟩

theorem Core.Fails.of_fns (hs : Core.Sheds r k k') (h : k'.fns = k.fns) : Core.Fails r k k' :=
  ⟨hs, fun _ hx => (Core.fst_of_fns h _).trans hx, fun _ hx => (Core.fst_of_fns h _).trans hx⟩

end

theorem FnId.code_ctx_inj {x y : Nat} (h : y ≠ x) : (FnId.ctx y).code ≠ (FnId.ctx x).code := by
  simp only [FnId.code]; omega

section
variable {r : List Nat} (k : Core) (x : Nat)

/-! ### A context's function -/

theorem Core.sheds_putPhase (ph : Nat) : Core.Sheds r k (k.putPhase x ph) :=
  ⟨fun _ h => h, fun _ h => h, fun _ h => .inl h, rfl, rfl, Core.onlyRegs_of_regs rfl⟩

theorem Core.sheds_emit (src code : Nat) (e : List (Nat × Nat × Nat)) : Core.Sheds r k (k.emit src code e) :=
  .of_cle (Core.emit_cle _ _ _ _) (by rw [Core.emit_frt]) (Core.onlyRegs_emit _ _ _)

theorem Core.sheds_setFn (i : FnId) (y : Fn) : Core.Sheds r k (k.setFn i y) := .of_cle rfl rfl (Core.onlyRegs_of_regs rfl)

theorem Core.sheds_setFst_ctx (n : FState) (st : Nat) : Core.Sheds r k (k.setFst (.ctx x) n st) := by
  rw [Core.setFst_ctx]
  exact ((k.sheds_setFn _ _).trans (Core.sheds_putPhase _ _ _)).trans (Core.sheds_emit _ _ _ _)

theorem Core.sheds_setPhase (ph st : Nat) : Core.Sheds r k (k.setPhase x ph st) :=
  (k.sheds_putPhase x ph).trans (Core.sheds_emit _ _ _ _)

theorem Core.sheds_fnFault (st : Nat) : Core.Sheds r k (k.fnFault (.ctx x) st) := by
  unfold Core.fnFault
  split
  · exact .refl r k
  · exact .refl r k
  · exact (k.sheds_setFst_ctx x _ _).trans (Core.sheds_setFn _ _ _)

/-- A fault makes a context FAULTED unless it is OFF. -/
theorem Core.fst_fnFault_ctx (st : Nat) : (k.fnFault (.ctx x) st).fst (.ctx x) = if k.fst (.ctx x) = .off then .off else .faulted := by
  by_cases hoff : k.fst (.ctx x) = .off
  · rw [if_pos hoff]
    unfold Core.fnFault
    rw [hoff]
    exact hoff
  · rw [if_neg hoff]
    by_cases hf : k.fst (.ctx x) = .faulted
    · unfold Core.fnFault
      rw [hf]
      exact hf
    · rw [k.fnFault_of_live hoff hf, Core.fst_setFn_pend]

theorem Core.fst_fnFault_ne {y : Nat} (h : y ≠ x) (st : Nat) : (k.fnFault (.ctx x) st).fst (.ctx y) = k.fst (.ctx y) := by
  by_cases hlive : k.fst (.ctx x) ≠ .off ∧ k.fst (.ctx x) ≠ .faulted
  · rw [k.fnFault_of_live hlive.1 hlive.2]
    exact congrArg Fn.fst ((Core.fn_setFn_ne _ (FnId.code_ctx_inj h) _).trans (k.fn_setFst_ne (FnId.code_ctx_inj h) _ _))
  · unfold Core.fnFault
    split
    · rfl
    · rfl
    next hoff hfaulted => exact absurd ⟨hoff, hfaulted⟩ hlive

theorem Core.JobWork.sheds {k k' : Core} (h : k.JobWork k') : Core.Sheds r k k' := by
  refine .of_cle h.cle ?_ (h.onlyRegs r)
  obtain ⟨⟨_, _, rfl⟩, -⟩ := h
  rfl

theorem Core.sheds_setRun (g : CtxRun → CtxRun) : Core.Sheds r k (k.setRun x g) :=
  ⟨fun _ h => h, fun _ h => h, fun _ h => .inl h, rfl, rfl, Core.onlyRegs_of_regs rfl⟩

theorem Core.OnlyTbl.sheds {k k' : Core} (h : k.OnlyTbl k') : Core.Sheds r k k' :=
  .of_cle h.cle (by rw [h.frt]) (Core.onlyRegs_of_regs h.regs)

theorem Core.sheds_ctxStart : Core.Sheds r k (Core.ctxStart x k) := by
  have hwords := (k.onlyTbl_ctxWords x).sheds (r := r)
  rw [Core.ctxStart_eq]
  generalize k.ctxWords x = k₁ at hwords ⊢
  exact ((hwords.trans (k₁.sheds_setRun x _)).trans (Core.jobWork_ensureJob _ x).sheds).trans (Core.sheds_setFst_ctx _ x _ _)

theorem Core.fn_ctxStart_ctx {y : Nat} (h : y ≠ x) : (Core.ctxStart x k).fn (.ctx y) = k.fn (.ctx y) := by
  have hfns := (k.onlyTbl_ctxWords x).fns
  rw [Core.ctxStart_eq, Core.fn_setFst_ne _ (FnId.code_ctx_inj h)]
  refine Core.fn_of_fns ?_ _
  rw [Core.ensureJob_fns, Core.setRun_fns, hfns]

/-- The end of a context's drain. -/
theorem Core.fails_drained (h : k.fst (.ctx x) = .draining) (st : Nat) :
    Core.Fails r k (k.fnDrained (.ctx x) st (Core.ctxCheck x) (Core.ctxStart x)) := by
  have hne : ∀ y, y ≠ x → (k.fnDrained (.ctx x) st (Core.ctxCheck x) (Core.ctxStart x)).fst (.ctx y) = k.fst (.ctx y) :=
    fun y hy => congrArg Fn.fst (Core.fn_fnDrained_ne k (FnId.code_ctx_inj hy) _ _ (fun k => k.fn_ctxStart_ctx x hy))
  refine ⟨Core.fnDrained_keeps (P := Core.Sheds r k) (fun _ _ _ h => h.trans (Core.sheds_setFst_ctx _ x _ _))
    (fun _ _ h => h.trans (Core.sheds_setFn _ _ _)) (fun _ h => h.trans (Core.sheds_ctxStart _ x)) (.refl r k) _ _,
    fun y hy => ?_, fun y hy => ?_⟩ <;>
  · rw [hne y (by rintro rfl; rw [h] at hy; cases hy), hy]

theorem Core.fails_ctxDrainChk (hr : ∀ a ∈ freeCnts, a ∈ r) : Core.Fails r k (Core.ctxDrainChk x k) := by
  unfold Core.ctxDrainChk
  split
  next h =>
    have hfree := (k.frees_freeCtx x).trans (Core.frees_closeCtxRecs _ x)
    exact (hfree.fails hr).trans (Core.fails_drained _ x ((hfree.fst x).trans h.1) _)
  next => exact .refl r k

/-! ### Aborts (R148) -/

/-- The rank step of a context stops (06_compression R177). -/
def Core.rankStopped (st : Nat) : Core :=
  match k.rkAny x with
  | some d => k.rankStop d st
  | none => k

theorem Core.frees_rankStopped (st : Nat) : k.Frees (k.rankStopped x st) := by
  unfold Core.rankStopped
  split
  · exact k.frees_rankStop _ st
  · exact .refl k

/-- An abort of one context up to its own fault. -/
def Core.abortBegun (st : Nat) : Core := (k.rankStopped x st).flowFault ((k.rankStopped x st).cFlow x) st stTimeout

theorem Core.frees_abortBegun (st : Nat) : k.Frees (k.abortBegun x st) :=
  (k.frees_rankStopped x st).trans (Core.frees_flowFault _ (Core.cFlow_lt _ x) st)

/-- The failures that wait, without the context's. -/
def Core.failuresDropped : Core := { k with cle := { k.cle with failQ := k.cle.failQ.filter (fun p => p.1 != x) } }

theorem Core.abortCtx_eq (st : Nat) :
    k.abortCtx st x = ((((k.abortBegun x st).fnFault (.ctx x) st).freeCtx x).unpark x).failuresDropped x := by
  unfold Core.abortCtx
  extract_lets k₁ k₂ k₃
  have hlast : k₃.failuresDropped x = ((((k.abortBegun x st).fnFault (.ctx x) st).freeCtx x).unpark x).failuresDropped x := rfl
  exact hlast

theorem Core.frees_abortCtx (st : Nat) : ((k.abortBegun x st).fnFault (.ctx x) st).Frees (k.abortCtx st x) := by
  rw [Core.abortCtx_eq]
  exact ((Core.frees_freeCtx _ x).trans (Core.frees_unpark _ x)).trans (Core.frees_failed _ _)

theorem Core.fst_abortCtx_same (st : Nat) (h : k.fst (.ctx x) ≠ .off) : (k.abortCtx st x).fst (.ctx x) = .faulted := by
  rw [(k.frees_abortCtx x st).fst, Core.fst_fnFault_ctx, (k.frees_abortBegun x st).fst, if_neg h]

theorem Core.fst_abortCtx_ne {y : Nat} (h : y ≠ x) (st : Nat) : (k.abortCtx st x).fst (.ctx y) = k.fst (.ctx y) := by
  rw [(k.frees_abortCtx x st).fst, Core.fst_fnFault_ne _ x h, (k.frees_abortBegun x st).fst]

theorem Core.park_abortCtx (st : Nat) : ∀ p ∈ (k.abortCtx st x).cle.park, p.x ≠ x := by
  rw [Core.abortCtx_eq]
  generalize ((k.abortBegun x st).fnFault (.ctx x) st).freeCtx x = k₁
  intro p hp
  have hunparked : p ∈ k₁.cle.park.filter (fun p => p.x != x) := hp
  simpa using (List.mem_filter.1 hunparked).2

theorem Core.fails_abortCtx (hr : ∀ a ∈ freeCnts, a ∈ r) (st : Nat) : Core.Fails r k (k.abortCtx st x) := by
  have hbegun := k.frees_abortBegun x st
  have hfree := k.frees_abortCtx x st
  refine ⟨((hbegun.toSheds.mono hr).trans (Core.sheds_fnFault _ x st)).trans (hfree.toSheds.mono hr), fun y hy => ?_,
    fun y hy => ?_⟩
  · by_cases h : y = x
    · subst h
      rw [hfree.fst, Core.fst_fnFault_ctx, hbegun.fst, if_pos hy]
    · rw [k.fst_abortCtx_ne x h, hy]
  · by_cases h : y = x
    · subst h
      exact k.fst_abortCtx_same y st (by rw [hy]; decide)
    · rw [k.fst_abortCtx_ne x h, hy]

end

section
variable (k : Core) {r : List Nat} (hr : ∀ a ∈ freeCnts, a ∈ r)

include hr

theorem Core.fails_abortCtxs (st : Nat) (xs : List Nat) : Core.Fails r k (xs.foldl (fun k x => k.abortCtx st x) k) :=
  .foldl xs (fun k x _ => k.fails_abortCtx x hr st) k

end

/-- Every live context of an aborted job is FAULTED and out of the parking table. -/
theorem Core.abortCtxs_faulted (st : Nat) {x : Nat} (xs : List Nat) (hx : x ∈ xs) (k : Core) (hoff : k.fst (.ctx x) ≠ .off) :
    (xs.foldl (fun k x => k.abortCtx st x) k).fst (.ctx x) = .faulted ∧
      ∀ p ∈ (xs.foldl (fun (k : Core) x => k.abortCtx st x) k).cle.park, p.x ≠ x := by
  induction xs generalizing k with
  | nil => exact absurd hx List.not_mem_nil
  | cons y xs ih =>
    rw [List.foldl_cons]
    by_cases h : x = y
    · subst h
      have hrest := (k.abortCtx st x).fails_abortCtxs (r := freeCnts) (fun _ h => h) st xs
      exact ⟨hrest.faulted x (k.fst_abortCtx_same x st hoff), fun p hp => k.park_abortCtx x st p (hrest.park hp)⟩
    · exact ih ((List.mem_cons.1 hx).resolve_left h) (k.abortCtx st y) (by rwa [k.fst_abortCtx_ne y h])

section
variable (k : Core)

/-- The messages of an abort, sent before its contexts fault. -/
def Core.abortTold (job incarn st step seq chunk origin : Nat) (sites : List Nat) : Core :=
  let xs := k.jobCtxs job incarn
  let eids := ((xs.map (fun x => [k.cAbortEid x, k.cNotify x])).flatten).eraseDups
  let body := collBody st job incarn step seq chunk origin 0 0
  let f := k.cFlow (xs.headD 0)
  let k := eids.foldl (fun k e => k.sendCtl e f (byte 0x11 :: body)) k
  sites.foldl (fun k s => if s = k.mySite then k else k.gccTo s (byte 0x21 :: body.take 18)) k

theorem Core.frees_abortTold (job incarn st step seq chunk origin : Nat) (sites : List Nat) :
    k.Frees (k.abortTold job incarn st step seq chunk origin sites) := by
  unfold Core.abortTold
  extract_lets xs eids body f k₁
  have hsent : k.Frees k₁ := .foldl (fun k e => (k.sent_sendCtl e f _).frees) _ k
  refine hsent.trans (.foldl (fun k s => ?_) _ k₁)
  split
  · exact .refl k
  · exact k.frees_gccTo s _

/-- The aborted jobs, with one more. -/
def Core.abortNoted (job incarn st chunk origin how : Nat) : Core :=
  let k := { k with cle := { k.cle with aborts := (k.cle.aborts.filter (fun a => a ≠ (job, incarn))) ++ [(job, incarn)] } }
  k.emit 0x2110 0x0402 [(107, 92, job), (91, 76, incarn), (75, 68, st), (67, 64, origin), (63, 62, how), (31, 0, chunk)]

theorem Core.frees_abortNoted (job incarn st chunk origin how : Nat) : k.Frees (k.abortNoted job incarn st chunk origin how) := by
  have hnoted : ∀ a, k.Frees { k with cle := { k.cle with aborts := a } } := fun a =>
    ⟨⟨fun _ h => h, fun _ h => h, fun _ h => .inl h, rfl, rfl, Core.onlyRegs_of_regs rfl⟩, fun _ => rfl⟩
  exact (hnoted _).trans (Core.frees_emit _ _ _ _)

theorem Core.abortJob_eq (job incarn st step seq chunk origin how : Nat) (sites : List Nat) :
    k.abortJob job incarn st step seq chunk origin how sites = ((k.jobCtxs job incarn).foldl (fun k x => k.abortCtx st x)
      (k.abortTold job incarn st step seq chunk origin sites)).abortNoted job incarn st chunk origin how := by
  unfold Core.abortJob
  extract_lets xs eids body f k₁ k₂ k₃
  have hlast : k₃.abortNoted job incarn st chunk origin how = ((k.jobCtxs job incarn).foldl (fun k x => k.abortCtx st x)
    (k.abortTold job incarn st step seq chunk origin sites)).abortNoted job incarn st chunk origin how := rfl
  exact hlast

theorem Core.fails_abortJob {r : List Nat} (hr : ∀ a ∈ freeCnts, a ∈ r) (job incarn st step seq chunk origin how : Nat)
    (sites : List Nat) : Core.Fails r k (k.abortJob job incarn st step seq chunk origin how sites) := by
  rw [Core.abortJob_eq]
  exact (((k.frees_abortTold _ _ _ _ _ _ _ _).fails hr).trans (Core.fails_abortCtxs _ hr st _)).trans
    ((Core.frees_abortNoted _ _ _ _ _ _ _).fails hr)

theorem Core.mem_jobCtxs {job incarn x : Nat} : x ∈ k.jobCtxs job incarn ↔
    (x < 4096 ∧ k.fst (.ctx x) ≠ .off) ∧ k.cJob x = job ∧ k.cIncarn x = incarn := by
  simp only [Core.jobCtxs, Core.liveCtxs, Core.isOff, List.mem_filter, List.mem_range, Bool.and_eq_true, beq_iff_eq,
    Bool.not_eq_true', beq_eq_false_iff_ne]

/-- Every context of the job is FAULTED and out of the parking table. -/
theorem Core.abortJob_faulted {job incarn x : Nat} (hx : x ∈ k.jobCtxs job incarn) (st step seq chunk origin how : Nat)
    (sites : List Nat) : (k.abortJob job incarn st step seq chunk origin how sites).fst (.ctx x) = .faulted ∧
      ∀ p ∈ (k.abortJob job incarn st step seq chunk origin how sites).cle.park, p.x ≠ x := by
  obtain ⟨⟨-, hoff⟩, -⟩ := k.mem_jobCtxs.1 hx
  have htold := k.frees_abortTold job incarn st step seq chunk origin sites
  obtain ⟨hfault, hpark⟩ := Core.abortCtxs_faulted st _ hx (k.abortTold job incarn st step seq chunk origin sites)
    (by rwa [htold.fst])
  have hnoted := Core.frees_abortNoted ((k.jobCtxs job incarn).foldl (fun k x => k.abortCtx st x)
    (k.abortTold job incarn st step seq chunk origin sites)) job incarn st chunk origin how
  rw [Core.abortJob_eq]
  exact ⟨(hnoted.fst x).trans hfault, fun p hp => hpark p (hnoted.park hp)⟩

theorem Core.fails_abortHere {r : List Nat} (hr : ∀ a ∈ freeCnts, a ∈ r) (x st step seq chunk : Nat) :
    Core.Fails r k (k.abortHere x st step seq chunk) := k.fails_abortJob hr _ _ _ _ _ _ _ _ _

theorem Core.abortHere_faulted {x : Nat} (hx : x < 4096) (hoff : k.fst (.ctx x) ≠ .off) (st step seq chunk : Nat) :
    (k.abortHere x st step seq chunk).fst (.ctx x) = .faulted ∧ ∀ p ∈ (k.abortHere x st step seq chunk).cle.park, p.x ≠ x := by
  have hmem : x ∈ k.jobCtxs (k.cJob x) (k.cIncarn x) := k.mem_jobCtxs.2 ⟨⟨hx, hoff⟩, rfl, rfl⟩
  unfold Core.abortHere
  exact k.abortJob_faulted hmem st step seq chunk k.mySite 0 (k.memberSites x)

end

end Sys2Proof.Machine
end

section
/-!
PROOFS. A chunk that ends, a chunk that fails, what the failures of records do then (05_collectives R126, R144 to R147).
-/

namespace Sys2Proof.Machine

open Sys2Proof

/-- The count a chunk's status raises as it ends (05_collectives R146). -/
def outcomeCnts (st : Nat) : List Nat :=
  if st = stOk then [Reg.CLE_CHUNK_CNT] else if st = stCorrupt then [Reg.CLE_CORRUPT_CNT]
  else if st = stTimeout then [Reg.CLE_TIMEOUT_CNT] else if st = stPartitioned then [Reg.CLE_PART_CNT]
  else if st = stOverflow then [Reg.CLE_AR_OVF_CNT] else []

/-- The counts that chunks timed out may raise. -/
def timeCnts : List Nat := freeCnts ++ [Reg.CLE_TIMEOUT_CNT]

/-- The counts that chunks failing with any status may raise. -/
def failCnts : List Nat := timeCnts ++ [Reg.CLE_CHUNK_CNT, Reg.CLE_CORRUPT_CNT, Reg.CLE_PART_CNT, Reg.CLE_AR_OVF_CNT]

theorem outcomeCnts_failCnts (st : Nat) : ∀ a ∈ freeCnts ++ outcomeCnts st, a ∈ failCnts := by
  have hout : ∀ a ∈ outcomeCnts st, a ∈ failCnts := by
    unfold outcomeCnts
    split_ifs <;> decide
  intro a ha
  rcases List.mem_append.1 ha with h | h
  · exact List.mem_append_left _ (List.mem_append_left _ h)
  · exact hout a h

section
variable (k : Core) (x c st : Nat) (rel : Bool)

/-- A chunk's end counted by its status. -/
def Core.chunkCounted : Core :=
  if st = stOk then k.cnt Reg.CLE_CHUNK_CNT else if st = stCorrupt then k.cnt Reg.CLE_CORRUPT_CNT
  else if st = stTimeout then k.cnt Reg.CLE_TIMEOUT_CNT else if st = stPartitioned then k.cnt Reg.CLE_PART_CNT
  else if st = stOverflow then k.cnt Reg.CLE_AR_OVF_CNT else k

/-- The words of a context once one of its chunks has ended. -/
def Core.chunkScored : Core :=
  let k := if st = stOk then k
    else (k.setCf x 0x60 63 32 (k.cf x 0x60 63 32 + 1)).setCf x 0x60 31 0 (min (k.cf x 0x60 31 0) c)
  let k := if rel then k else k.setCf x 0x58 63 32 (k.cReleased x + 1)
  k.setCf x 0x58 31 0 (k.cChecked x + 1)

theorem Core.chunkEnd_eq : k.chunkEnd x c st rel = ((((k.chunkCounted st).chunkScored x c st rel).setRun x
    (fun r => { r with worst := stWorse r.worst st })).freeChunk x c) := rfl

theorem Core.onlyTbl_chunkScored : k.OnlyTbl (k.chunkScored x c st rel) := by
  unfold Core.chunkScored
  extract_lets k₁ k₂
  have hfailed : k.OnlyTbl k₁ := by
    unfold k₁
    split
    · exact .refl k
    · exact (k.onlyTbl_setCf _ _ _ _ _).trans (Core.onlyTbl_setCf _ _ _ _ _ _)
  have hreleased : k₁.OnlyTbl k₂ := by
    unfold k₂
    split
    · exact .refl k₁
    · exact k₁.onlyTbl_setCf _ _ _ _ _
  exact (hfailed.trans hreleased).trans (k₂.onlyTbl_setCf _ _ _ _ _)

/-- Past its count the end of a chunk frees what it held. -/
theorem Core.frees_chunkEnd : (k.chunkCounted st).Frees (k.chunkEnd x c st rel) := by
  have hscored := ((k.chunkCounted st).onlyTbl_chunkScored x c st rel).frees
  rw [Core.chunkEnd_eq]
  generalize (k.chunkCounted st).chunkScored x c st rel = k₁ at hscored ⊢
  exact (hscored.trans (k₁.frees_setRun x _)).trans (Core.frees_freeChunk _ x c)

theorem Core.chunk_chunkEnd : (k.chunkEnd x c st rel).chunk x c = none := by
  rw [Core.chunkEnd_eq]
  exact Core.chunk_freeChunk _ x c

theorem Core.chunkCounted_same : (k.chunkCounted st).fns = k.fns ∧ (k.chunkCounted st).cle = k.cle ∧
    (k.chunkCounted st).frt = k.frt ∧ (k.chunkCounted st).tbl = k.tbl := by
  unfold Core.chunkCounted
  split_ifs <;> exact ⟨rfl, rfl, rfl, rfl⟩

theorem Core.fst_chunkEnd (y : Nat) : (k.chunkEnd x c st rel).fst (.ctx y) = k.fst (.ctx y) :=
  ((k.frees_chunkEnd x c st rel).fst y).trans (Core.fst_of_fns (k.chunkCounted_same st).1 _)

theorem Core.onlyRegs_chunkCounted : k.onlyRegs (outcomeCnts st) (k.chunkCounted st) := by
  unfold Core.chunkCounted outcomeCnts
  split_ifs
  case neg => exact Core.onlyRegs_refl _ _
  all_goals exact Core.onlyRegs_cnt (by simp)

theorem Core.fails_chunkEnd {r : List Nat} (hr : ∀ a ∈ freeCnts ++ outcomeCnts st, a ∈ r) :
    Core.Fails r k (k.chunkEnd x c st rel) := by
  obtain ⟨hfns, hcle, hfrt, -⟩ := k.chunkCounted_same st
  have hcounted : Core.Fails r k (k.chunkCounted st) := .of_fns (.of_cle hcle (by rw [hfrt])
    (Core.onlyRegs_mono (fun a ha => hr a (List.mem_append_right _ ha)) (k.onlyRegs_chunkCounted st))) hfns
  exact hcounted.trans ((k.frees_chunkEnd x c st rel).fails fun a ha => hr a (List.mem_append_left _ ha))

/-- A count of the chunk's own status stands as raised once. -/
theorem Core.rd_chunkEnd {a : Nat} (ha : a ∉ freeCnts) (hev : ¬ evReg a) (hcnt : k.chunkCounted st = k.cnt a) :
    (k.chunkEnd x c st rel).rd a = min (k.rd a + 1) (2 ^ 32 - 1) := by
  unfold evReg at hev
  rw [(k.frees_chunkEnd x c st rel).regs a ha (fun h => hev (.inl h)) (fun h => hev (.inr h)), hcnt, Core.rd_cnt_same]

/-! ### A chunk that fails (R146) -/

theorem Core.progress_left (h : k.fst (.ctx x) ≠ .on) : k.progress x = if k.fst (.ctx x) = .draining then k.ctxDrainChk x else k := by
  unfold Core.progress
  cases hf : k.fst (.ctx x) with
  | on => exact absurd hf h
  | _ => rfl

theorem Core.fails_progress_left {r : List Nat} (hr : ∀ a ∈ freeCnts, a ∈ r) (h : k.fst (.ctx x) ≠ .on) :
    Core.Fails r k (k.progress x) := by
  rw [k.progress_left x h]
  split
  · exact k.fails_ctxDrainChk x hr
  · exact .refl r k

/-- A failed chunk whose collective goes on with it: its lateness is recorded and its job aborts. -/
def Core.chunkAborts (missing : List Nat) : Core :=
  let k := if st = stTimeout then k.lateRecord x missing else k
  k.abortHere x st (k.cStep x) (k.cSeq x) c

/-- The sites a timed-out chunk lacks. -/
def Core.chunkMissing (h : Chunk) : List Nat :=
  if st = stTimeout ∧ k.reduces x c then
    (k.others x).filterMap (fun s => if (h.slots.get {} s).final then none else some (k.slotSite x s))
  else []

theorem Core.chunkFail_eq {h : Chunk} (hc : k.chunk x c = some h) : k.chunkFail x c st =
    if st = stCorrupt ∨ (k.chunkEnd x c st (h.phase == .released)).fst (.ctx x) = .on then
      (k.chunkEnd x c st (h.phase == .released)).chunkAborts x c st (k.chunkMissing x c st h)
    else (k.chunkEnd x c st (h.phase == .released)).progress x := by
  unfold Core.chunkFail
  rw [hc]
  rfl

theorem Core.frees_chunkLate (missing : List Nat) : k.Frees (if st = stTimeout then k.lateRecord x missing else k) := by
  split
  · exact (k.onlyTbl_lateRecord x missing).frees
  · exact .refl k

theorem Core.fails_chunkAborts {r : List Nat} (hr : ∀ a ∈ freeCnts, a ∈ r) (missing : List Nat) :
    Core.Fails r k (k.chunkAborts x c st missing) :=
  ((k.frees_chunkLate x st missing).fails hr).trans (Core.fails_abortHere _ hr _ _ _ _ _)

theorem Core.fails_chunkFail {r : List Nat} (hr : ∀ a ∈ freeCnts ++ outcomeCnts st, a ∈ r) :
    Core.Fails r k (k.chunkFail x c st) := by
  have hfree : ∀ a ∈ freeCnts, a ∈ r := fun a ha => hr a (List.mem_append_left _ ha)
  cases hc : k.chunk x c with
  | none =>
    unfold Core.chunkFail
    rw [hc]
    exact .refl r k
  | some h =>
    rw [k.chunkFail_eq x c st hc]
    refine (k.fails_chunkEnd x c st (h.phase == .released) hr).trans ?_
    split
    next => exact Core.fails_chunkAborts _ x c st hfree _
    next hgo => exact Core.fails_progress_left _ x hfree fun h => hgo (.inr h)

/-- A chunk of an ON context that fails aborts its job. -/
theorem Core.chunkFail_faults {h : Chunk} (hx : x < 4096) (hc : k.chunk x c = some h) (hon : k.fst (.ctx x) = .on) :
    (k.chunkFail x c st).fst (.ctx x) = .faulted := by
  have hend := (k.fst_chunkEnd x c st (h.phase == .released) x).trans hon
  rw [k.chunkFail_eq x c st hc, if_pos (.inr hend)]
  generalize k.chunkEnd x c st (h.phase == .released) = k₁ at hend
  have hlate := k₁.frees_chunkLate x st (k.chunkMissing x c st h)
  unfold Core.chunkAborts
  generalize (if st = stTimeout then k₁.lateRecord x (k.chunkMissing x c st h) else k₁) = k₂ at hlate
  exact (k₂.abortHere_faulted hx (by rw [hlate.fst, hend]; decide) st (k₂.cStep x) (k₂.cSeq x) c).1

end

/-! ### The chunks of failed records (R126) -/

section
variable (k : Core) {r : List Nat}

def Core.withFailQ (q : List (Nat × Nat × Nat)) : Core := { k with cle := { k.cle with failQ := q } }

theorem Core.settle_eq : k.settle =
    (k.cle.failQ.foldl (fun (k : Core) p => k.chunkFail p.1 p.2.1 p.2.2) (k.withFailQ [])).withFailQ [] := rfl

theorem Core.fails_noFailure : Core.Fails r k (k.withFailQ []) :=
  .of_fns ⟨fun _ h => h, fun _ h => h, fun _ h => absurd h List.not_mem_nil, rfl, rfl, Core.onlyRegs_of_regs rfl⟩ rfl

/-- Whatever chunks the records' failures end, the engine only gives up work. -/
theorem Core.fails_settle (hr : ∀ p ∈ k.cle.failQ, ∀ a ∈ freeCnts ++ outcomeCnts p.2.2, a ∈ r) : Core.Fails r k k.settle := by
  rw [Core.settle_eq]
  exact ((k.fails_noFailure).trans (Core.Fails.foldl k.cle.failQ (fun k p hp => k.fails_chunkFail _ _ _ (hr p hp)) _)).trans
    (Core.fails_noFailure _)

theorem Core.fails_settle_any : Core.Fails failCnts k k.settle := k.fails_settle fun p _ => outcomeCnts_failCnts p.2.2

/-- Where only records that timed out fail chunks. -/
theorem Core.fails_settle_timeouts (h : ∀ p ∈ k.cle.failQ, p.2.2 = stTimeout) : Core.Fails timeCnts k k.settle :=
  k.fails_settle fun p hp a ha => by rw [h p hp] at ha; exact ha

end

end Sys2Proof.Machine
end

section
/-!
PROOFS. The progress of a context whose collective is no part of a rank descriptor (05_collectives R144, 06_compression R171): the
engine only gives up work.
-/

namespace Sys2Proof.Machine

open Sys2Proof

/-! ### The rank descriptors (R171) -/

/-- Every rank descriptor stands. -/
def Core.SameRanks (k k' : Core) : Prop := ∀ w, w < 1024 → k'.tb Reg.XFM_RANK_TBL w = k.tb Reg.XFM_RANK_TBL w

section
variable {k k' k'' : Core}

theorem Core.SameRanks.refl (k : Core) : k.SameRanks k := fun _ _ => rfl

theorem Core.SameRanks.trans (h : k.SameRanks k') (h' : k'.SameRanks k'') : k.SameRanks k'' :=
  fun w hw => (h' w hw).trans (h w hw)

theorem Core.SameRanks.of_tbl (h : k'.tbl = k.tbl) : k.SameRanks k' := fun _ _ => Core.tb_of_tbl h _ _

theorem Core.SameRanks.foldl {α : Type} {g : Core → α → Core} (l : List α) (hg : ∀ (k : Core), ∀ a ∈ l, k.SameRanks (g k a))
    (k : Core) : k.SameRanks (l.foldl g k) := by
  induction l generalizing k with
  | nil => exact .refl k
  | cons a l ih =>
    exact (hg k a List.mem_cons_self).trans (ih (fun k b hb => hg k b (List.mem_cons_of_mem _ hb)) _)

theorem Core.SameRanks.rkWord (h : k.SameRanks k') {d w : Nat} (hd : d < 64) (hw : w < 16) : k'.rkWord d w = k.rkWord d w :=
  h _ (by omega)

/-- No descriptor names the context, as before. -/
theorem Core.SameRanks.rkAny_none (h : k.SameRanks k') {x : Nat} (hx : k.rkAny x = none) : k'.rkAny x = none := by
  unfold Core.rkAny at hx ⊢
  rw [List.find?_eq_none] at hx ⊢
  intro d hd
  have hlt := List.mem_range.1 hd
  simpa only [Core.rkValid, Core.rkG, Core.rkP, Core.rkQ, h.rkWord hlt (show 0 < 16 by decide),
    h.rkWord hlt (show 1 < 16 by decide)] using hx d hd

end

section
variable (k : Core) {x : Nat}

theorem Core.rkBy_rkP_none (h : k.rkAny x = none) : k.rkBy Core.rkP x = none := by
  unfold Core.rkAny at h
  unfold Core.rkBy
  rw [List.find?_eq_none] at h ⊢
  intro d hd hp
  obtain ⟨hvalid, hrole⟩ := Bool.and_eq_true_iff.1 hp
  exact h d hd (by simp [hvalid, hrole])

/-! ### What leaves the descriptors -/

theorem Core.sameRanks_tbw {win w : Nat} (hwin : win < Reg.XFM_RANK_TBL) (hw : w < 2 ^ 24) (v : Nat) : k.SameRanks (k.tbw win w v) :=
  fun _ _ => k.tb_tbw_ne (by unfold tkey; omega) v

theorem Core.sameRanks_setCc {off : Nat} (hx : x < 4096) (ho : off < 0x7C) (v : Nat) : k.SameRanks (k.setCc x off v) :=
  (k.sameRanks_tbw (by decide) (by omega) _).trans (Core.sameRanks_tbw _ (by decide) (by omega) _)

theorem Core.JobWork.sameRanks {k k' : Core} (h : k.JobWork k') : k.SameRanks k' :=
  fun _ hw => h.words _ _ (by decide) (by omega)

theorem Core.Returned.sameRanks {k k' : Core} (h : k.Returned k') : k.SameRanks k' := .of_tbl h.tbl

theorem Core.slotSite_lt (s : Nat) : k.slotSite x s < 16 := by
  have hfld := fld_lt (k.cc x 8) (4 * s + 3) (4 * s)
  rwa [show 4 * s + 3 + 1 - 4 * s = 4 by omega] at hfld

theorem Core.sameRanks_lateSite {row s : Nat} (hr : row < 64) (hs : s < 16) (v : Int) : k.SameRanks (k.lateSite row s v) :=
  (k.sameRanks_tbw (by decide) (by omega) _).trans (Core.sameRanks_tbw _ (by decide) (by omega) _)

theorem Core.sameRanks_lateRecord (missing : List Nat) : k.SameRanks (k.lateRecord x missing) := by
  unfold Core.lateRecord
  split
  · exact .refl k
  next due _ =>
    extract_lets row a k₁ w k₂
    have hrow : row < 64 := Nat.mod_lt _ (by decide)
    have hfresh : k.SameRanks k₁ := by
      unfold k₁
      split
      · exact .refl k
      · refine .trans (.foldl _ (fun k i hi => ?_) k) (Core.sameRanks_tbw _ (by decide) (by omega) _)
        have hlt := List.mem_range.1 hi
        exact k.sameRanks_tbw (by decide) (by omega) _
    have hcount : k₁.SameRanks k₂ := k₁.sameRanks_tbw (by decide) (by omega) _
    refine (hfresh.trans hcount).trans (.foldl _ (fun k s hs => ?_) k₂)
    obtain ⟨i, -, rfl⟩ := List.mem_map.1 hs
    have hsite := k₂.slotSite_lt (x := x) i
    dsimp only
    split
    · exact k.sameRanks_lateSite hrow hsite _
    split
    · exact .refl k
    · exact k.sameRanks_lateSite hrow hsite _

theorem Core.sameRanks_xfm (m : Xfm) : k.SameRanks { k with xfm := m } := .of_tbl rfl

theorem Core.sameRanks_cip (m : Cip) : k.SameRanks { k with cip := m } := .of_tbl rfl

theorem Core.sameRanks_cle (m : Cle) : k.SameRanks { k with cle := m } := .of_tbl rfl

theorem Core.sameRanks_dropItem (i : RxItem) : k.SameRanks (k.dropItem i) := .of_tbl (k.returned_dropItem i).tbl

theorem Core.sameRanks_chunkEmptied (c : Nat) (h : Chunk) : k.SameRanks (k.chunkEmptied x c h) := by
  unfold Core.chunkEmptied
  extract_lets k₁ rec_ k₂ k₃ k₄ _ k₅
  have hbufs : k.SameRanks k₁ := ((k.returned_giveBack _ _).trans (Core.returned_giveBack _ _ _)).sameRanks
  have hres : k₁.SameRanks k₂ := by
    unfold k₂
    split
    · exact .refl k₁
    · exact (k₁.returned_giveBack _ _).sameRanks
  have hitems : k₂.SameRanks k₃ := .foldl _ (fun k i _ => k.sameRanks_dropItem i) k₂
  have hreqs : k₃.SameRanks k₄ := (k₃.sameRanks_xfm _).trans (Core.returned_dropReq _ _).sameRanks
  exact ((((hbufs.trans hres).trans hitems).trans hreqs).trans (k₄.sameRanks_cip _)).trans
    (.foldl _ (fun k _ _ => k.sameRanks_cle _) k₅)

theorem Core.sameRanks_freeChunk (c : Nat) : k.SameRanks (k.freeChunk x c) := by
  cases hc : k.chunk x c with
  | none => rw [k.freeChunk_absent hc]; exact .refl k
  | some h =>
    rw [k.freeChunk_eq hc]
    exact (k.sameRanks_chunkEmptied c h).trans (Core.sameRanks_cle _ _)

theorem Core.sameRanks_chunkScored (hx : x < 4096) (c st : Nat) (rel : Bool) : k.SameRanks (k.chunkScored x c st rel) := by
  unfold Core.chunkScored
  extract_lets k₁ k₂
  have hfailed : k.SameRanks k₁ := by
    unfold k₁
    split
    · exact .refl k
    · exact (k.sameRanks_setCc hx (by decide) _).trans (Core.sameRanks_setCc _ hx (by decide) _)
  have hreleased : k₁.SameRanks k₂ := by
    unfold k₂
    split
    · exact .refl k₁
    · exact k₁.sameRanks_setCc hx (by decide) _
  exact (hfailed.trans hreleased).trans (k₂.sameRanks_setCc hx (by decide) _)

theorem Core.sameRanks_chunkEnd (hx : x < 4096) (c st : Nat) (rel : Bool) : k.SameRanks (k.chunkEnd x c st rel) := by
  have hcounted : k.SameRanks (k.chunkCounted st) := .of_tbl (k.chunkCounted_same st).2.2.2
  have hscored := (k.chunkCounted st).sameRanks_chunkScored hx c st rel
  rw [Core.chunkEnd_eq]
  generalize (k.chunkCounted st).chunkScored x c st rel = k₁ at hscored
  exact ((hcounted.trans hscored).trans (.of_tbl (Core.setRun_tbl x _))).trans (Core.sameRanks_freeChunk _ c)

/-! ### A collective that completes (R144) -/

theorem Core.rankReleased_none (h : k.rkAny x = none) : k.rankReleased x = k := by
  unfold Core.rankReleased
  rw [k.rkBy_rkP_none h]

theorem Core.rankDone_none (h : k.rkAny x = none) (st : Nat) : k.rankDone x st = k := by
  unfold Core.rankDone
  rw [h]

theorem Core.jobWork_partDone : k.JobWork (k.partDone x) := by
  have he := k.jobEntry_lt (k.cJob_lt x)
  unfold Core.partDone
  exact ((k.jobWork_jwf he (by decide) _ _ _).trans (Core.jobWork_setJw _ he (by decide) _)).trans
    (Core.jobWork_setJw _ he (by decide) _)

/-- Work given up with the rank descriptors standing. -/
structure Core.Passes (k k' : Core) : Prop extends Core.Sheds timeCnts k k' where
  ranks : k.SameRanks k'

theorem Core.Passes.refl : k.Passes k := ⟨.refl _ k, .refl k⟩

theorem Core.Passes.trans {k k' k'' : Core} (h : k.Passes k') (h' : k'.Passes k'') : k.Passes k'' :=
  ⟨h.toSheds.trans h'.toSheds, h.ranks.trans h'.ranks⟩

theorem Core.JobWork.passes {k k' : Core} (h : k.JobWork k') : k.Passes k' := ⟨h.sheds, h.sameRanks⟩

theorem Core.Sent.passes {n : Nat} {k k' : Core} (h : k.Sent n k') : k.Passes k' :=
  ⟨h.frees.toSheds.mono fun _ ha => List.mem_append_left _ ha, .of_tbl h.tbl⟩

theorem Core.passes_emit (src code : Nat) (e : List (Nat × Nat × Nat)) : k.Passes (k.emit src code e) :=
  ⟨k.sheds_emit _ _ _, .of_tbl (k.emit_tbl _ _ _)⟩

theorem Core.passes_setPhase (ph st : Nat) : k.Passes (k.setPhase x ph st) :=
  ⟨k.sheds_setPhase x ph st, .of_tbl (k.setPhase_tbl x ph st)⟩

theorem Core.passes_setCc {off : Nat} (hx : x < 4096) (ho : off < 0x7C) (v : Nat) : k.Passes (k.setCc x off v) :=
  ⟨(k.onlyTbl_setCc x off v).sheds, k.sameRanks_setCc hx ho v⟩

theorem Core.passes_lateRecord (missing : List Nat) : k.Passes (k.lateRecord x missing) :=
  ⟨(k.onlyTbl_lateRecord x missing).sheds, k.sameRanks_lateRecord missing⟩

theorem Core.passes_setJobState {e : Nat} (he : e < 65600) (n : Nat) : k.Passes (k.setJobState e n) := by
  unfold Core.setJobState
  dsimp only
  split
  · exact .refl k
  · exact (k.jobWork_jwf he (by decide) _ _ _).passes.trans (Core.passes_emit _ _ _ _)

/-- A completed collective: its words, its phase, its message and event. -/
def Core.collReported (k : Core) (x : Nat) : Core :=
  let st := (k.run x).worst
  let failed := k.cf x 0x60 63 32
  let k := (k.setCf x 0x48 15 8 st).setCc x 0x70 k.gns
  let k := k.setPhase x 1 st
  let k := k.sendCtl (k.cNotify x) (k.cFlow x)
    (byte 0x12 :: collBody st (k.cJob x) (k.cIncarn x) (k.cStep x) (k.cSeq x) 0xFFFFFFFF 0 failed 0)
  k.emit 0x2110 0x0401 [(107, 96, x), (95, 64, k.cSeq x), (63, 32, k.cStep x), (31, 24, st), (23, 0, min failed 0xFFFFFF)]

/-- What it leaves in its job's entry. -/
def Core.collNoted (k : Core) (x st : Nat) : Core :=
  let k := if st = stPartitioned then k.partDone x else k
  let e := k.jobEntry (k.cJob x)
  if st = stOk ∧ k.isAvg x ∧ k.jState e = jAveraging then (k.clearJob e).setJobState e jRunning else k

theorem Core.collDone_eq : k.collDone x =
    (((k.collReported x).collNoted x (k.run x).worst).lateRecord x []).rankDone x (k.run x).worst := rfl

theorem Core.passes_collReported (hx : x < 4096) : k.Passes (k.collReported x) := by
  unfold Core.collReported
  extract_lets st failed k₁ k₂ k₃
  have hwords : k.Passes k₁ := (k.passes_setCc hx (by decide) _).trans (Core.passes_setCc _ hx (by decide) _)
  have hsent : k₁.Passes k₃ := (k₁.passes_setPhase 1 st).trans (Core.sent_sendCtl _ _ _).passes
  exact (hwords.trans hsent).trans (k₃.passes_emit _ _ _)

theorem Core.passes_collNoted (st : Nat) : k.Passes (k.collNoted x st) := by
  unfold Core.collNoted
  extract_lets k₁ e
  have hpart : k.Passes k₁ := by
    unfold k₁
    split
    · exact k.jobWork_partDone.passes
    · exact .refl k
  have he : e < 65600 := k₁.jobEntry_lt (k₁.cJob_lt x)
  refine hpart.trans ?_
  split
  · exact (k₁.jobWork_clearJob he).passes.trans (Core.passes_setJobState _ he _)
  · exact .refl k₁

theorem Core.passes_collDone (hx : x < 4096) (hrk : k.rkAny x = none) : k.Passes (k.collDone x) := by
  have hrep := k.passes_collReported hx
  have hdone := (hrep.trans (Core.passes_collNoted _ (x := x) (k.run x).worst)).trans (Core.passes_lateRecord _ (x := x) [])
  rw [Core.collDone_eq, Core.rankDone_none _ (hdone.ranks.rkAny_none hrk)]
  exact hdone

/-- The progress of a context whose collective belongs to no rank descriptor. -/
theorem Core.sheds_progress (hx : x < 4096) (hrk : k.rkAny x = none) : Core.Sheds timeCnts k (k.progress x) := by
  by_cases hon : k.fst (.ctx x) = .on
  · unfold Core.progress
    rw [hon]
    dsimp only
    generalize hk : (if (k.phase x = 3 && k.cReleased x == k.cChunks x) = true then (k.setPhase x 4 stOk).rankReleased x else k) = k₁
    have hending : k.Passes k₁ := by
      subst hk
      have hph := k.passes_setPhase (x := x) 4 stOk
      split
      · rw [Core.rankReleased_none _ (hph.ranks.rkAny_none hrk)]
        exact hph
      · exact .refl k
    split
    · exact hending.toSheds.trans (k₁.passes_collDone hx (hending.ranks.rkAny_none hrk)).toSheds
    · exact hending.toSheds
  · exact (k.fails_progress_left x (fun _ ha => List.mem_append_left _ ha) hon).toSheds

end

end Sys2Proof.Machine
end

section
/-!
PROOFS. The check of a released chunk (05_collectives R139, R144), and the chunk engine's obligation put together.
-/

namespace Sys2Proof.Machine

open Sys2Proof

/-- A chunk's check that comes out clean ends the chunk. -/
theorem Core.checkEv_agrees {k : Core} {x c : Nat} {h : Chunk} (hc : k.chunk x c = some h) (hph : h.phase = .released)
    (hd : checkDiff h = 0) (hst : h.status = stOk) : k.checkEv x c = (k.chunkEnd x c stOk true).progress x := by
  unfold Core.checkEv
  rw [hc]
  dsimp only
  rw [if_neg (by simp [hph]), if_pos hd, hst]

/-- No failure of a chunk but a timeout waits once work has only been given up. -/
theorem Core.Sheds.failures_timeouts {r : List Nat} {k k' : Core} (h : Core.Sheds r k k') (hq : k.cle.failQ = []) :
    ∀ p ∈ k'.cle.failQ, p.2.2 = stTimeout := by
  intro p hp
  have hcase := h.failQ p hp
  rw [hq] at hcase
  exact hcase.resolve_left List.not_mem_nil

theorem State.recordSuspects_none {s : State} (h : s.core.cle.suspects = []) :
    s.recordSuspects = { s with core := { s.core with cle := { s.core.cle with suspects := [] } } } := by
  have hnone : (List.range 256).filter (fun u => s.core.cle.suspects.contains u) = [] := by
    rw [h]
    exact List.filter_eq_nil_iff.2 fun u _ hu => absurd hu (by simp)
  unfold State.recordSuspects
  dsimp only
  rw [hnone]
  rfl

/-- A chunk that completes without an abort, whatever else its end times out: it is gone and counted once. -/
theorem Core.chunk_ended {k k' : Core} {x c st a : Nat} {rel : Bool} (ha : a ∉ timeCnts) (hev : ¬ evReg a)
    (hcnt : k.chunkCounted st = k.cnt a) (hq : k.cle.failQ = [])
    (h : Core.Sheds timeCnts (k.chunkEnd x c st rel) k') : k'.settle.chunk x c = none ∧
      k'.settle.rd a = min (k.rd a + 1) (2 ^ 32 - 1) ∧ k'.settle.cle.suspects = k.cle.suspects := by
  have hend := k.fails_chunkEnd x c st rel (r := failCnts) (outcomeCnts_failCnts st)
  have hqueue : ∀ p ∈ k'.cle.failQ, p.2.2 = stTimeout := fun p hp => by
    rcases h.failQ p hp with hp | hp
    · exact hend.toSheds.failures_timeouts hq p hp
    · exact hp
  have hall := h.trans (k'.fails_settle_timeouts hqueue).toSheds
  refine ⟨hall.chunk_none (k.chunk_chunkEnd x c st rel), ?_, hall.suspects.trans hend.suspects⟩
  unfold evReg at hev
  rw [hall.regs a ha (fun h => hev (.inl h)) (fun h => hev (.inr h))]
  exact k.rd_chunkEnd x c st rel (fun hm => ha (List.mem_append_left _ hm)) (by unfold evReg; exact hev) hcnt

/-- CHECKSUM_CHECK of a released chunk whose checksums agree. -/
theorem State.checksumCheck_ends {x : Fin 4096} {c : Nat} {h : Chunk} {s t : State} (hc : s.core.chunk x c = some h)
    (hph : h.phase = .released) (hd : checkDiff h = 0) (hst : h.status = stOk) (hq : s.core.cle.failQ = [])
    (hsus : s.core.cle.suspects = []) (hrk : s.core.rkAny x = none)
    (ht : t = (s.onCore (fun k => (k.checkEv x c).settle)).recordSuspects) :
    t.core.chunk x c = none ∧ t.core.rd Reg.CLE_CHUNK_CNT = min (s.core.rd Reg.CLE_CHUNK_CNT + 1) (2 ^ 32 - 1) ∧
      s.outsideStands t := by
  have hranks := (s.core.sameRanks_chunkEnd x.isLt c stOk true).rkAny_none hrk
  have hprog := Core.sheds_progress (s.core.chunkEnd x c stOk true) x.isLt hranks
  obtain ⟨hgone, hcnt, hstill⟩ := Core.chunk_ended (a := Reg.CLE_CHUNK_CNT) (by decide) (by unfold evReg; decide) rfl hq hprog
  rw [← Core.checkEv_agrees hc hph hd hst] at hgone hcnt hstill
  rw [State.recordSuspects_none (by rw [State.onCore_cle, hstill, hsus])] at ht
  have hout := State.outsideStands_onCore s (fun k => (k.checkEv x c).settle)
  have hrd := State.rd_onCore s (fun k => (k.checkEv x c).settle) (a := Reg.CLE_CHUNK_CNT) (by unfold evReg; decide)
  have hchunk := Core.chunk_of_cle (State.onCore_cle s (fun k => (k.checkEv x c).settle)) x c
  generalize s.onCore (fun k => (k.checkEv x c).settle) = t' at ht hout hrd hchunk
  subst ht
  exact ⟨hchunk.trans hgone, hrd.trans hcnt, hout⟩

/-- Settles O15: what each step of the chunk engine changes, from the grant of a chunk to its check. -/
theorem chunksGrantedStagedAndReduced : Obligations.ChunksGrantedStagedAndReduced := by
  unfold Obligations.ChunksGrantedStagedAndReduced
  refine ⟨?grants, ?stages, ?drops, ?takes, ?steals, ?errors, ?rounds, ?checks⟩
  case grants => exact fun x s hg hb => Completes.of_exec rfl (State.chunkGrant_grants hg hb rfl)
  case stages =>
    exact fun x c m h ptr s hc hph hrdy hmode hq hr hm hg hp hb =>
      Completes.of_exec rfl (State.chunkStaged_stages hc hph hrdy hmode hq hr hm hg hp hb rfl)
  case drops => exact fun s => Completes.of_exec rfl (State.heldContribTimeout_drops rfl)
  case takes =>
    exact fun n p rest h s hon hroom hqueue hq hc htk hl hf =>
      Completes.of_exec (exec_patTake_due (Core.patDue_own hon hroom hqueue)) (State.patTake_own hq hc htk hl hf rfl hon hroom hqueue)
  case steals =>
    exact fun n q p l h s hon hroom hqueue hsteal hlast hq hc htk hl hf =>
      Completes.of_exec (exec_patTake_due (Core.patDue_steal hon hroom hsteal))
        (State.patTake_steals hq hc htk hl hf rfl hon hroom hqueue hsteal hlast)
  case errors =>
    intro n mem s hdue hdue'
    exact .of_exec (by rw [exec_patTake, if_pos hdue]) (exec_patTake_due hdue')
  case rounds =>
    exact fun n x c p ptr h bytes rs s hr hc hp hmore hu hq he =>
      Completes.of_exec rfl (State.patRound_stores hr hc hp hmore hu hq he rfl)
  case checks =>
    exact fun x c h s hc hph hd hst hq hsus hrk =>
      Completes.of_exec rfl (State.checksumCheck_ends hc hph hd hst hq hsus hrk rfl)

end Sys2Proof.Machine
end

section
/-!
PROOFS. The limits of chunks, collectives and contexts, and aborts received (05_collectives R128, R143, R144, R146, R148, R149).
-/

namespace Sys2Proof.Machine

open Sys2Proof

section
variable {k : Core} {x c : Nat} {h : Chunk}

/-! ### CHUNK_TIMEOUT (R128) -/

/-- READY changes the chunk's entry and queues its pats. -/
theorem Core.makeReady_eq (k : Core) (x c : Nat) (part : Bool) : ∃ g : Chunk → Chunk,
    k.makeReady x c part = (k.updChunk x c g).pushPats (k.homeOf x c) ((List.range (k.chunkPats x c)).map (fun p => (x, c, p))) ∧
      ∀ h, ((g h).x = h.x ∧ (g h).c = h.c) ∧ (g h).phase = .ready ∧ (g h).part = part ∧
        (g h).pats = List.replicate (k.chunkPats x c) (.queued (k.homeOf x c)) :=
  ⟨_, rfl, fun _ => ⟨⟨rfl, rfl⟩, rfl, rfl, rfl⟩⟩

/-- What a staged chunk past its timeout does, by the sites it lacks. -/
theorem Core.chunkTimeEv_due (hc : k.chunk x c = some h) (hph : h.phase = .staged) (hr : k.reduces x c = true)
    (ht : h.admT + 100000 * k.cTmo x ≤ k.now) : k.chunkTimeEv x c =
    if ((k.others x).filter (fun s => !k.slotGot x c s)).all (fun s => k.partOn (k.slotSite x s)) = true then
      k.makeReady x c (!((k.others x).filter (fun s => !k.slotGot x c s)).isEmpty)
    else k.chunkFail x c stTimeout := by
  unfold Core.chunkTimeEv
  rw [hc]
  dsimp only
  rw [if_neg (by simp [hph, hr, ht])]
  simp only [hph, true_and]

end

section
variable {x : Fin 4096} {c : Nat} {h : Chunk} {s t : State}

/-- CHUNK_TIMEOUT of a chunk that lacks contributions of partitioned sites only. -/
theorem State.chunkTimeout_readies (hc : s.core.chunk x c = some h) (hph : h.phase = .staged) (hr : s.core.reduces x c = true)
    (hlate : h.admT + 100000 * s.core.cTmo x ≤ s.core.now)
    (hpart : ∀ m ∈ s.core.others x, s.core.slotGot x c m = true ∨ s.core.partOn (s.core.slotSite x m) = true)
    (hq : s.core.cle.failQ = []) (ht : t = s.onCore (fun k => (k.chunkTimeEv x c).settle)) :
    (∃ h', t.core.chunk x c = some h' ∧ h'.phase = .ready ∧ h'.part = (s.core.others x).any (fun m => !s.core.slotGot x c m) ∧
      h'.pats = List.replicate (s.core.chunkPats x c) (.queued (s.core.homeOf x c))) ∧ s.only [.cle] [] t := by
  have hall : ((s.core.others x).filter (fun m => !s.core.slotGot x c m)).all (fun m => s.core.partOn (s.core.slotSite x m)) = true := by
    refine List.all_eq_true.2 fun m hm => ?_
    obtain ⟨hmem, hlacks⟩ := List.mem_filter.1 hm
    exact (hpart m hmem).resolve_left (by simpa using hlacks)
  have hany : (!((s.core.others x).filter (fun m => !s.core.slotGot x c m)).isEmpty) =
      (s.core.others x).any (fun m => !s.core.slotGot x c m) := by
    rw [Bool.eq_iff_iff]
    simp
  obtain ⟨g, hready, hg⟩ := s.core.makeReady_eq x c ((s.core.others x).any (fun m => !s.core.slotGot x c m))
  have hev : s.core.chunkTimeEv x c = (s.core.updChunk x c g).pushPats (s.core.homeOf x c)
      ((List.range (s.core.chunkPats x c)).map (fun p => (x.val, c, p))) := by
    rw [Core.chunkTimeEv_due hc hph hr hlate, if_pos hall, hany, hready]
  obtain ⟨hsame, hphase, hparts, hpats⟩ := hg h
  have hchunk := Core.chunk_updChunk_same (k := s.core) g hsame hc
  have hcle : t.core.cle = (s.core.chunkTimeEv x c).cle := by
    rw [ht, State.onCore_cle, Core.settle_of_no_failure (by rw [hev]; exact hq)]
  obtain ⟨-, -, -, -, -, honly⟩ := State.onCore_settle hev (by exact hq) ht
  refine ⟨⟨g h, ?_, hphase, hparts, hpats⟩, honly _ _ (Core.onlyParts_trans (Core.onlyParts_cle (by simp) _)
    (Core.onlyParts_cle (by simp) _)) (Core.onlyRegs_of_regs rfl)⟩
  rw [Core.chunk_of_cle hcle, hev]
  exact hchunk

/-- CHUNK_TIMEOUT of a chunk of an ON context that lacks another site's contribution. -/
theorem State.chunkTimeout_faults {m : Nat} (hc : s.core.chunk x c = some h) (hph : h.phase = .staged)
    (hr : s.core.reduces x c = true) (hlate : h.admT + 100000 * s.core.cTmo x ≤ s.core.now) (hm : m ∈ s.core.others x)
    (hg : s.core.slotGot x c m = false) (hp : s.core.partOn (s.core.slotSite x m) = false) (hon : s.core.fst (.ctx x) = .on)
    (ht : t = s.onCore (fun k => (k.chunkTimeEv x c).settle)) : t.core.fst (.ctx x) = .faulted ∧ s.outsideStands t := by
  have hall : ((s.core.others x).filter (fun m => !s.core.slotGot x c m)).all (fun m => s.core.partOn (s.core.slotSite x m)) = false :=
    List.all_eq_false.2 ⟨m, List.mem_filter.2 ⟨hm, by rw [hg]; rfl⟩, by rw [hp]; decide⟩
  have hev : s.core.chunkTimeEv x c = s.core.chunkFail x c stTimeout := by
    rw [Core.chunkTimeEv_due hc hph hr hlate, if_neg (by rw [hall]; decide)]
  have hfault := s.core.chunkFail_faults x c stTimeout x.isLt hc hon
  refine ⟨?_, ht ▸ State.outsideStands_onCore _ _⟩
  rw [ht, Core.fst_of_fns (State.onCore_fns _ _), hev]
  exact (Core.fails_settle_any _).faulted x hfault

/-! ### CHUNK_RELEASE_TIMEOUT (R138, R146) -/

theorem Core.chunkRelEv_partitioned {k : Core} {x : Nat} (hc : k.chunk x c = some h) (hph : h.phase = .staged)
    (hr : k.reduces x c = false) (hlate : h.admT + 200000 * k.cTmo x ≤ k.now)
    (hp : k.partOn (k.slotSite x (k.ownerSlot x c)) = true) : k.chunkRelEv x c = k.chunkNoResult x c stPartitioned := by
  unfold Core.chunkRelEv
  rw [hc]
  dsimp only
  rw [if_neg (by simp only [hph]; simp; omega), if_pos ⟨hr, hp⟩]

/-- CHUNK_RELEASE_TIMEOUT of a chunk whose reducer is partitioned. -/
theorem State.chunkReleaseTimeout_ends (hc : s.core.chunk x c = some h) (hph : h.phase = .staged)
    (hr : s.core.reduces x c = false) (hlate : h.admT + 200000 * s.core.cTmo x ≤ s.core.now)
    (hp : s.core.partOn (s.core.slotSite x (s.core.ownerSlot x c)) = true) (hq : s.core.cle.failQ = [])
    (hrk : s.core.rkAny x = none) (ht : t = s.onCore (fun k => (k.chunkRelEv x c).settle)) :
    t.core.chunk x c = none ∧ t.core.rd Reg.CLE_PART_CNT = min (s.core.rd Reg.CLE_PART_CNT + 1) (2 ^ 32 - 1) ∧
      s.outsideStands t := by
  have hev : s.core.chunkRelEv x c = ((s.core.chunkEnd x c stPartitioned false).chunkStatus x c stPartitioned).progress x :=
    Core.chunkRelEv_partitioned hc hph hr hlate hp
  have hranks := (s.core.sameRanks_chunkEnd x.isLt c stPartitioned false).rkAny_none hrk
  have htold : (s.core.chunkEnd x c stPartitioned false).Passes ((s.core.chunkEnd x c stPartitioned false).chunkStatus x c stPartitioned) :=
    (Core.sent_sendCtl _ _ _).passes
  have hprog := Core.sheds_progress _ x.isLt (htold.ranks.rkAny_none hranks)
  obtain ⟨hgone, hcnt, -⟩ := Core.chunk_ended (a := Reg.CLE_PART_CNT) (by decide) (by unfold evReg; decide) rfl hq
    (htold.toSheds.trans hprog)
  rw [← hev] at hgone hcnt
  refine ⟨?_, ?_, ht ▸ State.outsideStands_onCore _ _⟩
  · rw [ht, Core.chunk_of_cle (State.onCore_cle _ _)]
    exact hgone
  · rw [ht, State.rd_onCore _ _ (by unfold evReg; decide)]
    exact hcnt

/-! ### PARK_TIMEOUT (R143) -/

theorem Core.parkEv_late {k : Core} {x : Nat} {p : Park} (hp : k.cle.park.find? (fun q => q.x == x) = some p)
    (hlate : p.t + 1000000 * k.fd Reg.CLE_PARK 31 16 ≤ k.now) :
    k.parkEv x = (k.cnt Reg.CLE_ORDER_CNT).abortHere x stOrder p.step p.seq 0xFFFFFFFF := by
  unfold Core.parkEv
  rw [hp]
  exact if_pos hlate

/-- PARK_TIMEOUT of a collective of an ON context. -/
theorem State.parkTimeout_faults {p : Park} (hp : s.core.cle.park.find? (fun q => q.x == x.val) = some p)
    (hlate : p.t + 1000000 * s.core.fd Reg.CLE_PARK 31 16 ≤ s.core.now) (hon : s.core.fst (.ctx x) = .on)
    (ht : t = s.onCore (fun k => (k.parkEv x).settle)) :
    t.core.fst (.ctx x) = .faulted ∧ t.core.cle.park.find? (fun q => q.x == x.val) = none ∧
      t.core.rd Reg.CLE_ORDER_CNT = min (s.core.rd Reg.CLE_ORDER_CNT + 1) (2 ^ 32 - 1) ∧ s.outsideStands t := by
  have hev := Core.parkEv_late hp hlate
  have hlive : (s.core.cnt Reg.CLE_ORDER_CNT).fst (.ctx x) ≠ .off := by
    rw [Core.fst_of_fns (Core.cnt_fns _ _), hon]
    decide
  obtain ⟨hfault, hpark⟩ := (s.core.cnt Reg.CLE_ORDER_CNT).abortHere_faulted x.isLt hlive stOrder p.step p.seq 0xFFFFFFFF
  have habort := (s.core.cnt Reg.CLE_ORDER_CNT).fails_abortHere (r := failCnts) (by decide) x stOrder p.step p.seq 0xFFFFFFFF
  rw [← hev] at hfault hpark habort
  have hsettle := (s.core.parkEv x).fails_settle_any
  refine ⟨?_, ?_, ?_, ht ▸ State.outsideStands_onCore _ _⟩
  · rw [ht, Core.fst_of_fns (State.onCore_fns _ _)]
    exact hsettle.faulted x hfault
  · rw [ht, State.onCore_cle]
    exact List.find?_eq_none.2 fun q hq => by simpa using hpark q (hsettle.park hq)
  · rw [ht, State.rd_onCore _ _ (by unfold evReg; decide), (habort.trans hsettle).regs _ (by decide) (by decide) (by decide),
      Core.rd_cnt_same]

/-! ### CTX_DRAIN_TIMEOUT (R144) -/

/-- Chunks freed in turn are gone. -/
theorem Core.chunk_freed (x : Nat) {c : Nat} (l : List Nat) (hc : c ∈ l) (k : Core) :
    (l.foldl (fun k c => k.freeChunk x c) k).chunk x c = none := by
  induction l generalizing k with
  | nil => exact absurd hc List.not_mem_nil
  | cons d l ih =>
    by_cases hd : c = d
    · subst hd
      exact (Core.Frees.foldl (fun k c => k.frees_freeChunk x c) l _).toSheds.chunk_none (k.chunk_freeChunk x c)
    · exact ih ((List.mem_cons.1 hc).resolve_left hd) _

theorem Core.ctxChunks_of_sheds {r : List Nat} {k k' : Core} {x : Nat} (h : Core.Sheds r k k') (hk : k.ctxChunks x = []) :
    k'.ctxChunks x = [] := by
  unfold Core.ctxChunks at hk ⊢
  rw [List.map_eq_nil_iff, List.filter_eq_nil_iff] at hk ⊢
  exact fun g hg => hk g (h.chunks hg)

/-- A context freed holds no chunk. -/
theorem Core.ctxChunks_freeCtx (k : Core) (x : Nat) : (k.freeCtx x).ctxChunks x = [] := by
  have hfreed : ((k.ctxChunks x).foldl (fun k c => k.freeChunk x c) k).ctxChunks x = [] := by
    have hfree := (Core.Frees.foldl (fun k c => k.frees_freeChunk x c) (k.ctxChunks x) k).chunks
    refine List.map_eq_nil_iff.2 (List.filter_eq_nil_iff.2 fun g hg hx => ?_)
    have hc : g.c ∈ k.ctxChunks x := List.mem_map_of_mem (List.mem_filter.2 ⟨hfree hg, hx⟩)
    exact List.find?_eq_none.1 (Core.chunk_freed x _ hc k) g hg (by simpa [Chunk.is] using hx)
  unfold Core.freeCtx
  generalize (k.ctxChunks x).foldl (fun k c => k.freeChunk x c) k = k₁ at hfreed ⊢
  exact Core.ctxChunks_of_sheds ((Core.Frees.foldl (fun k i => k.frees_dropItem i) _ k₁).trans
    (Core.returned_dropReq _ _).frees).toSheds hfreed

/-- CTX_DRAIN_TIMEOUT of a context that no ENABLE waits for. -/
theorem State.ctxDrainTimeout_offs (hd : s.core.fst (.ctx x) = .draining) (hpend : (s.core.fn (.ctx x)).pend = false)
    (hlate : (s.core.fn (.ctx x)).since + 200000 * s.core.cTmo x ≤ s.core.now) (hq : s.core.cle.failQ = [])
    (ht : t = s.onCore (fun k => (k.ctxDrainEv x).settle)) :
    t.core.fst (.ctx x) = .off ∧ t.core.ctxChunks x = [] ∧ s.outsideStands t := by
  have hclosed := Core.frees_closeCtxRecs (s.core.freeCtx x) x
  have hfree := (s.core.frees_freeCtx x).trans hclosed
  have hnone := Core.ctxChunks_of_sheds hclosed.toSheds (s.core.ctxChunks_freeCtx x)
  have hev : s.core.ctxDrainEv x = ((s.core.freeCtx x).closeCtxRecs x).fnDrained (.ctx x) stTimeout (Core.ctxCheck x) (Core.ctxStart x) :=
    if_pos ⟨hd, hlate⟩
  generalize (s.core.freeCtx x).closeCtxRecs x = k₁ at hfree hnone hev
  rw [k₁.fnDrained_of_no_pend ((hfree.fst x).trans hd) (by rw [hfree.ctx, hpend])] at hev
  have hoff : (s.core.ctxDrainEv x).fst (.ctx x) = .off := by
    rw [hev, Core.fst_setFn_pend]
  have hdrained : Core.Sheds freeCnts k₁ (s.core.ctxDrainEv x) := by
    rw [hev]
    exact (k₁.sheds_setFst_ctx x _ _).trans (Core.sheds_setFn _ _ _)
  have hsettle := (s.core.ctxDrainEv x).fails_settle_timeouts ((hfree.toSheds.trans hdrained).failures_timeouts hq)
  refine ⟨?_, ?_, ht ▸ State.outsideStands_onCore _ _⟩
  · rw [ht, Core.fst_of_fns (State.onCore_fns _ _)]
    exact hsettle.off x hoff
  · have hall := Core.ctxChunks_of_sheds hsettle.toSheds (Core.ctxChunks_of_sheds hdrained hnone)
    rw [ht]
    unfold Core.ctxChunks at hall ⊢
    rw [State.onCore_cle]
    exact hall

end

/-! ### ABORT_RX (R149) -/

section
variable {p : Packet} {rest : List Packet} {k : Core} {s t : State}

theorem Core.abortEv_fabric (h : k.frt.ctl = p :: rest) (hk : k.ctlKind p = .abort) :
    k.abortEv = (k.ctlTaken rest).abortIn p.payload 2 (hSrc p.hdr) none := by
  unfold Core.abortEv
  rw [k.ctlHead_cons h, hk]

theorem Core.jobCtxs_ctlTaken (k : Core) (rest : List Packet) (job incarn : Nat) :
    (k.ctlTaken rest).jobCtxs job incarn = k.jobCtxs job incarn := rfl

/-- ABORT_RX of a message whose sender may abort nothing here. -/
theorem State.abortRx_discards (h : s.core.frt.ctl = p :: rest) (hk : s.core.ctlKind p = .abort)
    (hnone : (s.core.jobCtxs (beNat (slice p.payload 2 2)) (beNat (slice p.payload 4 2))).any
      (fun x => s.core.cNotify x == hSrc p.hdr) = false) (hq : s.core.cle.failQ = [])
    (ht : t = s.onCore (fun k => k.abortEv.settle)) : t.core.frt.ctl = rest ∧
      t.core.rd Reg.CLE_ABORT_RX_CNT = min (s.core.rd Reg.CLE_ABORT_RX_CNT + 1) (2 ^ 32 - 1) ∧
      s.only [.frt] [Reg.CLE_ABORT_RX_CNT] t := by
  have hev : s.core.abortEv = (s.core.ctlTaken rest).cnt Reg.CLE_ABORT_RX_CNT := by
    rw [Core.abortEv_fabric h hk]
    unfold Core.abortIn
    dsimp only
    rw [if_pos rfl, Core.jobCtxs_ctlTaken]
    refine if_pos ?_
    have hnone' : (s.core.jobCtxs (beNat (slice p.payload 2 2)) (beNat (slice p.payload 4 2))).any
      (fun x => (s.core.ctlTaken rest).cNotify x == hSrc p.hdr) = false := hnone
    rw [hnone']
    simp
  obtain ⟨hfrt, -, -, -, hrd, honly⟩ := State.onCore_settle hev (by rw [Core.cnt_cle]; exact hq) ht
  refine ⟨by rw [hfrt]; rfl, ?_, honly _ _ (Core.onlyParts_trans (Core.onlyParts_ctlTaken _ (by simp) rest)
    (Core.onlyParts_cnt _)) (Core.onlyRegs_trans (Core.onlyRegs_of_regs rfl) (Core.onlyRegs_cnt (by simp)))⟩
  rw [hrd _ (by unfold evReg; decide), Core.rd_cnt_same]
  rfl

/-- ABORT_RX of a message that aborts a job. -/
theorem State.abortRx_aborts (h : s.core.frt.ctl = p :: rest) (hk : s.core.ctlKind p = .abort)
    (hsome : (s.core.jobCtxs (beNat (slice p.payload 2 2)) (beNat (slice p.payload 4 2))).any
      (fun x => s.core.cNotify x == hSrc p.hdr) = true)
    (hnew : s.core.cle.aborts.contains (beNat (slice p.payload 2 2), beNat (slice p.payload 4 2)) = false)
    (hst : byteAt p.payload 1 ≤ stDenied) (ht : t = s.onCore (fun k => k.abortEv.settle)) : t.core.frt.ctl = rest ∧
      t.core.rd Reg.CLE_ABORT_RX_CNT = s.core.rd Reg.CLE_ABORT_RX_CNT ∧
      (∀ x ∈ s.core.jobCtxs (beNat (slice p.payload 2 2)) (beNat (slice p.payload 4 2)), t.core.fst (.ctx x) = .faulted) ∧
      s.outsideStands t := by
  have hev : ∃ sites, s.core.abortEv = (s.core.ctlTaken rest).abortJob (beNat (slice p.payload 2 2)) (beNat (slice p.payload 4 2))
      (byteAt p.payload 1) (beNat (slice p.payload 6 4)) (beNat (slice p.payload 10 4)) (beNat (slice p.payload 14 4))
      (byteAt p.payload 18 % 16) 2 sites := by
    have hsome' : (s.core.jobCtxs (beNat (slice p.payload 2 2)) (beNat (slice p.payload 4 2))).any
      (fun x => (s.core.ctlTaken rest).cNotify x == hSrc p.hdr) = true := hsome
    have hnew' : (s.core.ctlTaken rest).cle.aborts.contains (beNat (slice p.payload 2 2), beNat (slice p.payload 4 2)) = false := hnew
    rw [Core.abortEv_fabric h hk]
    unfold Core.abortIn
    dsimp only
    rw [if_pos rfl, Core.jobCtxs_ctlTaken, hsome', hnew', if_neg (by simpa using hst)]
    exact ⟨_, rfl⟩
  obtain ⟨sites, hev⟩ := hev
  have habort := (s.core.ctlTaken rest).fails_abortJob (r := failCnts) (by decide) (beNat (slice p.payload 2 2))
    (beNat (slice p.payload 4 2)) (byteAt p.payload 1) (beNat (slice p.payload 6 4)) (beNat (slice p.payload 10 4))
    (beNat (slice p.payload 14 4)) (byteAt p.payload 18 % 16) 2 sites
  rw [← hev] at habort
  have hall := habort.trans (Core.fails_settle_any _)
  refine ⟨?_, ?_, fun x hx => ?_, ht ▸ State.outsideStands_onCore _ _⟩
  · rw [ht, State.onCore_frt]
    exact hall.ctl
  · rw [ht, State.rd_onCore _ _ (by unfold evReg; decide)]
    exact hall.regs _ (by decide) (by decide) (by decide)
  · have hfault := (Core.abortJob_faulted (s.core.ctlTaken rest) hx (byteAt p.payload 1) (beNat (slice p.payload 6 4))
      (beNat (slice p.payload 10 4)) (beNat (slice p.payload 14 4)) (byteAt p.payload 18 % 16) 2 sites).1
    rw [← hev] at hfault
    rw [ht, Core.fst_of_fns (State.onCore_fns _ _)]
    exact (Core.fails_settle_any _).faulted x hfault

end

/-- Settles O16: what each limit of the collective engine ends, and what an abort received does. -/
theorem collectivesThatFail : Obligations.CollectivesThatFail := by
  unfold Obligations.CollectivesThatFail
  refine ⟨?readies, ?faults, ?unreleased, ?parked, ?drains, ?discards, ?aborts⟩
  case readies =>
    exact fun x c h s hc hph hr _ hlate hpart hq => Completes.of_exec rfl (State.chunkTimeout_readies hc hph hr hlate hpart hq rfl)
  case faults =>
    exact fun x c m h s hc hph hr _ hlate hm hg hp hon =>
      Completes.of_exec rfl (State.chunkTimeout_faults hc hph hr hlate hm hg hp hon rfl)
  case unreleased =>
    exact fun x c h s hc hph hr _ hlate hp hq hrk =>
      Completes.of_exec rfl (State.chunkReleaseTimeout_ends hc hph hr hlate hp hq hrk rfl)
  case parked => exact fun x p s hp hlate hon => Completes.of_exec rfl (State.parkTimeout_faults hp hlate hon rfl)
  case drains => exact fun x s hd hpend hlate hq => Completes.of_exec rfl (State.ctxDrainTimeout_offs hd hpend hlate hq rfl)
  case discards => exact fun p rest s h hk hnone hq => Completes.of_exec rfl (State.abortRx_discards h hk hnone hq rfl)
  case aborts => exact fun p rest s h hk hsome hnew hst => Completes.of_exec rfl (State.abortRx_aborts h hk hsome hnew hst rfl)

end Sys2Proof.Machine
end

section
/-!
PROOFS. The table banks of the transform engine (06_compression R184 to R187, R193): a bank written, made the encode bank,
cleared, its hold ended, and what a write of the engine's registers and windows shows.
-/

namespace Sys2Proof.Machine

open Sys2Proof

/-! ### Masked words -/

/-- A field that lies wholly under a mask reads through it. -/
theorem fld_and {m hi lo : Nat} (h : fld m hi lo = 2 ^ (hi + 1 - lo) - 1) (w : Nat) : fld (w &&& m) hi lo = fld w hi lo := by
  refine Nat.eq_of_testBit_eq fun j => ?_
  have hm := congrArg (Nat.testBit · j) h
  simp only [testBit_fld, Nat.testBit_two_pow_sub_one] at hm
  rw [testBit_fld, testBit_fld, Nat.testBit_and]
  by_cases hj : j < hi + 1 - lo
  · have hbit : m.testBit (lo + j) = true := by simpa [hj] using hm
    rw [hbit, Bool.and_true]
  · simp [hj]

theorem bitAt_and {m i : Nat} (h : bitAt m i = true) (w : Nat) : bitAt (w &&& m) i = bitAt w i := by
  unfold bitAt at h ⊢
  rw [Nat.testBit_and, h, Bool.and_true]

/-- A bit set to 0 reads 0. -/
theorem bitAt_setFld_zero (w i : Nat) : bitAt (setFld w i i 0) i = false :=
  (bitAt_of_fld ((fld_setFld_same w i i 0).trans (Nat.zero_mod _))).trans rfl

theorem word_and_lt (v : Word) (m : Nat) : v.toNat &&& m < 2 ^ 32 := Nat.and_le_left.trans_lt v.isLt

/-! ### Banks -/

section
variable (k : Core)

theorem Core.bank_of_xfm {k k' : Core} (h : k'.xfm = k.xfm) (c b : Nat) : k'.bank c b = k.bank c b := by
  unfold Core.bank; rw [h]

theorem Core.bank_setBank_same (c b : Nat) (x : Bank) : (k.setBank c b x).bank c b = x := SMap.get_set_same _ _ _ _

theorem Core.bank_setBank_ne {c b c' b' : Nat} (h : 2 * c' + b' ≠ 2 * c + b) (x : Bank) :
    (k.setBank c b x).bank c' b' = k.bank c' b' := SMap.get_set_ne _ _ _ h _

theorem Core.onlyParts_setBank {l : List Part} (h : Part.xfm ∈ l) (c b : Nat) (x : Bank) : k.onlyParts l (k.setBank c b x) :=
  Core.onlyParts_xfm h _

theorem Core.onlyRegs_setBank {r : List Nat} (c b : Nat) (x : Bank) : k.onlyRegs r (k.setBank c b x) :=
  Core.onlyRegs_of_regs rfl

theorem Core.bankWord0_of_tbl {k k' : Core} (h : k'.tbl = k.tbl) (c b : Nat) : k'.bankWord0 c b = k.bankWord0 c b :=
  Core.tb_of_tbl h _ _

/-- A bank's word 0 and its state replaced. -/
def Core.putBank (c b w0 : Nat) (x : Bank) : Core := (k.tbw Reg.XFM_CLS_TBL (256 * (2 * c + b)) w0).setBank c b x

theorem Core.bank_putBank (c b w0 : Nat) (x : Bank) : (k.putBank c b w0 x).bank c b = x := Core.bank_setBank_same _ _ _ _

theorem Core.bankWord0_putBank (c b : Nat) {w0 : Nat} (h : w0 < 2 ^ 32) (x : Bank) : (k.putBank c b w0 x).bankWord0 c b = w0 :=
  (k.tb_tbw_same _ _ _).trans (Nat.mod_eq_of_lt h)

theorem Core.only_putBank {l : List Part} {r : List Nat} (hx : Part.xfm ∈ l) (ht : Part.tbl ∈ l) (c b w0 : Nat) (x : Bank) :
    k.onlyParts l (k.putBank c b w0 x) ∧ k.onlyRegs r (k.putBank c b w0 x) :=
  ⟨Core.onlyParts_trans (Core.onlyParts_tbw ht _ _ _) (Core.onlyParts_setBank _ hx _ _ _), Core.onlyRegs_of_regs rfl⟩

end

/-! ### What a write of the transform engine shows -/

section
variable {s t : State}

/-- The core after a management command of the transform engine, which shows its status in XFM_STAT. -/
theorem State.mgmt_xfmCmd (ha : s.answers = true) {g : Core → Core × Nat} {k : Core} {st : Nat} (hk : g s.core = (k, st))
    (hst : st < 256) (ht : t = s.mgmt Reg.XFM_STAT g) :
    t.core.xfm = k.xfm ∧ t.core.tbl = k.tbl ∧ t.core.fd Reg.XFM_STAT 7 0 = st ∧
      ∀ l : List Part, s.core.onlyParts l k → s.core.onlyRegs [Reg.XFM_STAT] k → s.only l [Reg.XFM_STAT] t := by
  subst ht
  refine ⟨?_, ?_, ?_, fun l hp hr => State.only_mgmt s ha _ _ (by simp) (hk ▸ hp) (hk ▸ hr)⟩
  · rw [State.mgmt_xfm s ha, hk]
  · rw [State.mgmt_tbl s ha, hk]
  · rw [State.mgmt_status s ha _ _ (by unfold evReg; decide), hk]
    exact Nat.mod_eq_of_lt hst

/-- The core after an accepted management word of a window of the transform engine: the write may emit an event. -/
theorem State.mgmtWin_xfm (ha : s.answers = true) {win words w v : Nat} {f : Core → Nat → Nat → Core × Nat} {k : Core}
    (hwin : win ≠ Reg.XFM_STAT ∧ ¬ evReg win) (hw : s.core.fd win 23 0 = w) (hlt : w < words) (hwords : words < 2 ^ 24)
    (hf : f s.core w v = (k, stOk)) (hp : s.core.onlyParts [.xfm, .tbl] k) (hr : s.core.onlyRegs [] k)
    (ht : t = s.mgmtWin Reg.XFM_STAT win words f v) :
    t.core.xfm = k.xfm ∧ t.core.tbl = k.tbl ∧ t.core.fd win 23 0 = w + 1 ∧ s.only [.xfm, .tbl] [win, Reg.XFM_STAT] t := by
  obtain ⟨hstat, hev⟩ := hwin
  have hwrite := s.core.winWrite_of_word hw hlt hf
  have hword : k.fd win 23 0 = w := by
    unfold Core.fd
    rw [hr win (by simp) (fun h => hev (.inl h)) (fun h => hev (.inr h))]
    exact hw
  have hshown : (k.winShown win stOk).xfm = k.xfm := Core.onlyParts_winShown (l := []) win stOk .xfm (by simp)
  subst ht
  refine ⟨?_, ?_, ?_, State.only_mgmt s ha _ _ (by simp) ?_ ?_⟩
  · rw [State.mgmtWin, State.mgmt_xfm s ha, hwrite, hshown]
  · rw [State.mgmtWin, State.mgmt_tbl s ha, hwrite, Core.winShown_tbl]
  · unfold State.mgmtWin Core.fd
    rw [State.rd_mgmt s ha _ _ hev hstat, hwrite]
    exact k.fd_winShown_word hword (by omega)
  · rw [hwrite]
    exact Core.onlyParts_trans hp (Core.onlyParts_winShown _ _)
  · rw [hwrite]
    exact Core.onlyRegs_trans (Core.onlyRegs_mono (by simp) hr) (Core.onlyRegs_winShown (by simp) _)

end

/-! ### SET_ENC (R187) -/

section
variable (k : Core) (c b : Nat)

/-- The class with bank `b` its encode bank. -/
def Core.encSet : Core :=
  (k.setBank c (1 - b) { k.bank c (1 - b) with enc := false }).setBank c b { k.bank c b with enc := true }

theorem Core.clsCmd_setEnc (h : (k.bank c b).valid = true) : k.clsCmd 1 c b =
    ((k.encSet c b).emit 0x2FFF 0x0501 [(11, 8, c), (4, 4, b), (3, 0, (k.encSet c b).bankGen c b)], stOk) := if_pos h

theorem Core.encSet_banks (hb : b < 2) : (k.encSet c b).bank c b = { k.bank c b with enc := true } ∧
    (k.encSet c b).bank c (1 - b) = { k.bank c (1 - b) with enc := false } ∧
    ∀ c' b', c' ≠ c → b' < 2 → (k.encSet c b).bank c' b' = k.bank c' b' := by
  refine ⟨Core.bank_setBank_same _ _ _ _, ?_, fun c' b' hc hb' => ?_⟩
  · exact (Core.bank_setBank_ne _ (by omega) _).trans (Core.bank_setBank_same _ _ _ _)
  · exact (Core.bank_setBank_ne _ (by omega) _).trans (Core.bank_setBank_ne _ (by omega) _)

theorem Core.only_encSet {l : List Part} {r : List Nat} (h : Part.xfm ∈ l) :
    k.onlyParts l (k.encSet c b) ∧ k.onlyRegs r (k.encSet c b) :=
  ⟨Core.onlyParts_trans (Core.onlyParts_setBank _ h _ _ _) (Core.onlyParts_setBank _ h _ _ _),
   Core.onlyRegs_trans (Core.onlyRegs_setBank _ _ _ _) (Core.onlyRegs_setBank _ _ _ _)⟩

end

/-- XFM_SET_ENC of a valid bank. -/
theorem State.xfmSetEnc_sets {c : Fin 16} {b : Fin 2} {s t : State} (ha : s.answers = true)
    (hv : (s.core.bank c b).valid = true) (ht : t = s.mgmt Reg.XFM_STAT (fun k => k.clsCmd 1 c b)) :
    (t.core.bank c b).enc = true ∧ (t.core.bank c (1 - b.val)).enc = false ∧ (t.core.bank c b).valid = true ∧
      (∀ (c' : Fin 16) (b' : Nat), c'.val ≠ c.val → b' < 2 → t.core.bank c' b' = s.core.bank c' b') ∧
      t.core.fd Reg.XFM_STAT 7 0 = stOk ∧ s.only [.xfm] [Reg.XFM_STAT] t := by
  obtain ⟨hxfm, -, hst, honly⟩ := State.mgmt_xfmCmd ha (s.core.clsCmd_setEnc c b hv) (by decide) ht
  obtain ⟨hset, hother, hrest⟩ := s.core.encSet_banks c b b.isLt
  obtain ⟨hp, hr⟩ := s.core.only_encSet c b (l := [.xfm]) (r := [Reg.XFM_STAT]) (by simp)
  have hbank : ∀ c' b', t.core.bank c' b' = (s.core.encSet c b).bank c' b' :=
    Core.bank_of_xfm (hxfm.trans (Core.emit_xfm _ _ _ _))
  refine ⟨?_, ?_, ?_, fun c' b' hc hb => (hbank c' b').trans (hrest c' b' hc hb), hst,
    honly _ (Core.onlyParts_trans hp (Core.onlyParts_emit _ _ _)) (Core.onlyRegs_trans hr (Core.onlyRegs_emit _ _ _))⟩
  · rw [hbank, hset]
  · rw [hbank, hother]
  · rw [hbank, hset]
    exact hv

/-! ### INVALIDATE (R186) -/

theorem Core.clsCmd_invalidate (k : Core) (c b : Nat) (h : k.bankFree c b = true) :
    k.clsCmd 2 c b = (k.putBank c b (setFld (k.bankWord0 c b) 31 31 0) {}, stOk) := if_pos h

/-- XFM_INVALIDATE of a bank that is free. -/
theorem State.xfmInvalidate_clears {c : Fin 16} {b : Fin 2} {s t : State} (ha : s.answers = true)
    (hfree : s.core.bankFree c b = true) (ht : t = s.mgmt Reg.XFM_STAT (fun k => k.clsCmd 2 c b)) :
    (t.core.bank c b).valid = false ∧ bitAt (t.core.bankWord0 c b) 31 = false ∧ t.core.fd Reg.XFM_STAT 7 0 = stOk ∧
      s.only [.xfm, .tbl] [Reg.XFM_STAT] t := by
  obtain ⟨hxfm, htbl, hst, honly⟩ := State.mgmt_xfmCmd ha (s.core.clsCmd_invalidate c b hfree) (by decide) ht
  obtain ⟨hp, hr⟩ := s.core.only_putBank (l := [.xfm, .tbl]) (r := [Reg.XFM_STAT]) (by simp) (by simp) c b
    (setFld (s.core.bankWord0 c b) 31 31 0) {}
  have hlt : setFld (s.core.bankWord0 c b) 31 31 0 < 2 ^ 32 := setFld_lt 32 0 (by omega) (by omega) (s.core.tb_lt _ _)
  refine ⟨?_, ?_, hst, honly _ hp hr⟩
  · rw [Core.bank_of_xfm hxfm, Core.bank_putBank]
  · rw [Core.bankWord0_of_tbl htbl, Core.bankWord0_putBank _ _ _ hlt, bitAt_setFld_zero]

/-! ### A bank loaded by its word 0 (R186, R187) -/

section
variable (k : Core) (c b : Nat)

/-- A bank once loaded: no block of its generation within the hold, the encode bank where none of its class was valid. -/
def Core.loadedBank : Bank :=
  { k.bank c b with
    valid := true, enc := (k.bank c b).enc || (!(k.bank c (1 - b)).valid && !(k.bank c b).valid), held := false
    lastT := k.now }

theorem clsWrite_load {b v : Nat} (hb : b < 2) (hv : bitAt v 31 = true) (hsum : (k.bankCounts c b).sum = 2048)
    (hecl : fld v 5 4 ≠ 3) (hgen : (k.bank c (1 - b)).valid = false ∨ k.bankGen c (1 - b) ≠ fld v 3 0) :
    clsWrite k (256 * (2 * c + b)) v =
      ((k.putBank c b (v &&& 0x8000003F) (k.loadedBank c b)).emit 0x2FFF 0x0500 [(11, 8, c), (4, 4, b), (3, 0, fld v 3 0)],
        stOk) := by
  have hcls : 256 * (2 * c + b) / 512 = c := by omega
  have hbank : 256 * (2 * c + b) / 256 % 2 = b := by omega
  have hword : 256 * (2 * c + b) % 256 = 0 := by omega
  have hchecks : ¬ ((k.bankCounts c b).sum ≠ 2048 ∨ fld v 5 4 = 3 ∨
      ((k.bank c (1 - b)).valid = true ∧ k.bankGen c (1 - b) = fld v 3 0)) := by
    rintro (h | h | ⟨hval, hg⟩)
    · exact h hsum
    · exact hecl h
    · exact hgen.elim (fun hn => by simp [hn] at hval) (fun hn => hn hg)
  unfold clsWrite
  rw [hcls, hbank, hword]
  dsimp only
  rw [if_neg (by omega), if_neg (by omega), if_pos hv, if_neg hchecks]
  rfl

end

/-- TABLE_LOAD of a bank's word 0 that passes the checks. -/
theorem State.tableLoad_loads {v : Word} {c : Fin 16} {b : Fin 2} {s t : State} (ha : s.answers = true)
    (hw : s.core.fd Reg.XFM_CLS_TBL 23 0 = 256 * (2 * c.val + b.val)) (hv : bitAt v.toNat 31 = true)
    (hsum : (s.core.bankCounts c b).sum = 2048) (hecl : fld v.toNat 5 4 ≠ 3)
    (hgen : (s.core.bank c (1 - b.val)).valid = false ∨ s.core.bankGen c (1 - b.val) ≠ fld v.toNat 3 0)
    (ht : t = s.mgmtWin Reg.XFM_STAT Reg.XFM_CLS_TBL 8192 clsWrite v.toNat) :
    (t.core.bank c b).valid = true ∧ t.core.bankGen c b = fld v.toNat 3 0 ∧ t.core.bankEcl c b = fld v.toNat 5 4 ∧
      ((s.core.bank c b).valid = false → (s.core.bank c (1 - b.val)).valid = false → (t.core.bank c b).enc = true) ∧
      t.core.fd Reg.XFM_CLS_TBL 23 0 = s.core.fd Reg.XFM_CLS_TBL 23 0 + 1 ∧
      s.only [.xfm, .tbl] [Reg.XFM_CLS_TBL, Reg.XFM_STAT] t := by
  obtain ⟨hp, hr⟩ := s.core.only_putBank (l := [.xfm, .tbl]) (r := []) (by simp) (by simp) c b (v.toNat &&& 0x8000003F)
    (s.core.loadedBank c b)
  obtain ⟨hxfm, htbl, hword, honly⟩ := State.mgmtWin_xfm ha ⟨by decide, by unfold evReg; decide⟩ hw (by omega) (by decide)
    (clsWrite_load s.core c b.isLt hv hsum hecl hgen) (Core.onlyParts_trans hp (Core.onlyParts_emit _ _ _))
    (Core.onlyRegs_trans hr (Core.onlyRegs_emit _ _ _)) ht
  have hbank : t.core.bank c b = s.core.loadedBank c b :=
    (Core.bank_of_xfm (hxfm.trans (Core.emit_xfm _ _ _ _)) _ _).trans (Core.bank_putBank _ _ _ _ _)
  have hword0 : t.core.bankWord0 c b = v.toNat &&& 0x8000003F :=
    (Core.bankWord0_of_tbl (htbl.trans (Core.emit_tbl _ _ _ _)) _ _).trans (Core.bankWord0_putBank _ _ _ (word_and_lt v _) _)
  refine ⟨?_, ?_, ?_, fun hself hother => ?_, hword.trans (by rw [hw]), honly⟩
  · rw [hbank, Core.loadedBank]
  · rw [Core.bankGen, hword0, fld_and (by decide)]
  · rw [Core.bankEcl, hword0, fld_and (by decide)]
  · rw [hbank]
    simp [Core.loadedBank, hself, hother]

/-! ### A hold that ends (R186) -/

/-- GEN_HOLD_EXPIRE of a held bank whose hold time has passed. -/
theorem State.genHoldExpire_ends {c b : Nat} {s t : State} (hheld : (s.core.bank c b).held = true)
    (hdue : (s.core.bank c b).lastT + 100000 * s.core.fd Reg.XFM_GEN_HOLD 15 0 ≤ s.core.now)
    (ht : t = s.onCore (fun k => k.genHoldEv c b)) :
    (t.core.bank c b).held = false ∧ (t.core.bank c b).valid = (s.core.bank c b).valid ∧
      (t.core.bank c b).enc = (s.core.bank c b).enc ∧ s.only [.xfm] [] t := by
  have hev : s.core.genHoldEv c b = s.core.setBank c b { s.core.bank c b with held := false } := if_pos ⟨hheld, hdue⟩
  have hbank : t.core.bank c b = { s.core.bank c b with held := false } := by
    rw [ht, Core.bank_of_xfm (State.onCore_xfm _ _), hev, Core.bank_setBank_same]
  have honly : s.only [.xfm] [] t := by
    rw [ht]
    refine State.only_onCore s _ ?_ ?_ <;> rw [hev]
    · exact Core.onlyParts_setBank _ (by simp) _ _ _
    · exact Core.onlyRegs_setBank _ _ _ _
  rw [hbank]
  exact ⟨rfl, rfl, rfl, honly⟩

/-! ### Rank descriptors (R171, R172) -/

section
variable (k : Core)

theorem Core.rank_setRank_same (d : Nat) (r : Rank) : (k.setRank d r).rank d = r := SMap.get_set_same _ _ _ _

theorem Core.rank_of_xfm {k k' : Core} (h : k'.xfm = k.xfm) (d : Nat) : k'.rank d = k.rank d := by
  unfold Core.rank; rw [h]

/-- The descriptor made valid by its word 0, its step not begun. -/
def Core.rankOpened (d w0 : Nat) : Core := (k.tbw Reg.XFM_RANK_TBL (16 * d) w0).setRank d {}

theorem rankWrite_valid {d v : Nat} (hv : bitAt v 31 = true) (hck : k.rankCheck d v = stOk) :
    rankWrite k (16 * d) v = (k.rankOpened d (v &&& 0x80FF0FFF), stOk) := by
  have hdesc : 16 * d / 16 = d := by omega
  have hword : 16 * d % 16 = 0 := by omega
  unfold rankWrite
  rw [hdesc, hword]
  dsimp only
  rw [if_pos hv, if_pos hck]
  rfl

theorem Core.rkWord_rankOpened (d : Nat) {w0 : Nat} (h : w0 < 2 ^ 32) : (k.rankOpened d w0).rkWord d 0 = w0 :=
  (k.tb_tbw_same _ _ _).trans (Nat.mod_eq_of_lt h)

theorem Core.only_rankOpened {l : List Part} {r : List Nat} (hx : Part.xfm ∈ l) (ht : Part.tbl ∈ l) (d w0 : Nat) :
    k.onlyParts l (k.rankOpened d w0) ∧ k.onlyRegs r (k.rankOpened d w0) :=
  ⟨Core.onlyParts_trans (Core.onlyParts_tbw ht _ _ _) (Core.onlyParts_xfm hx _), Core.onlyRegs_of_regs rfl⟩

end

/-- RANK_DESC_WRITE of a descriptor's word 0 with VALID set that passes the checks. -/
theorem State.rankDescWrite_opens {v : Word} {d : Fin 64} {s t : State} (ha : s.answers = true)
    (hw : s.core.fd Reg.XFM_RANK_TBL 23 0 = 16 * d.val) (hv : bitAt v.toNat 31 = true)
    (hck : s.core.rankCheck d v.toNat = stOk)
    (ht : t = s.mgmtWin Reg.XFM_STAT Reg.XFM_RANK_TBL 1024 rankWrite v.toNat) :
    t.core.rkValid d = true ∧ t.core.rkR d = fld v.toNat 23 16 ∧ t.core.rkG d = fld v.toNat 11 0 ∧ t.core.rank d = {} ∧
      s.only [.xfm, .tbl] [Reg.XFM_RANK_TBL, Reg.XFM_STAT] t := by
  obtain ⟨hp, hr⟩ := s.core.only_rankOpened (l := [.xfm, .tbl]) (r := []) (by simp) (by simp) d (v.toNat &&& 0x80FF0FFF)
  obtain ⟨hxfm, htbl, -, honly⟩ := State.mgmtWin_xfm ha ⟨by decide, by unfold evReg; decide⟩ hw (by omega) (by decide)
    (rankWrite_valid s.core hv hck) hp hr ht
  have hword0 : t.core.rkWord d 0 = v.toNat &&& 0x80FF0FFF :=
    (Core.tb_of_tbl htbl _ _).trans (Core.rkWord_rankOpened _ _ (word_and_lt v _))
  refine ⟨?_, ?_, ?_, (Core.rank_of_xfm hxfm _).trans (Core.rank_setRank_same _ _ _), honly⟩
  · rw [Core.rkValid, hword0, bitAt_and (by decide), hv]
  · rw [Core.rkR, hword0, fld_and (by decide)]
  · rw [Core.rkG, hword0, fld_and (by decide)]

/-- Settles O17: each command's write of its bank or descriptor, read back. -/
theorem classTablesAndRankDescriptors : Obligations.ClassTablesAndRankDescriptors := by
  unfold Obligations.ClassTablesAndRankDescriptors
  refine ⟨?sets, ?clears, ?loads, ?opens, ?ends⟩
  case sets => exact fun c b s ha hv => Completes.of_exec rfl (State.xfmSetEnc_sets ha hv rfl)
  case clears => exact fun c b s ha hfree => Completes.of_exec rfl (State.xfmInvalidate_clears ha hfree rfl)
  case loads =>
    exact fun v c b s ha hw hv hsum hecl hgen => Completes.of_exec rfl (State.tableLoad_loads ha hw hv hsum hecl hgen rfl)
  case opens => exact fun v d s ha hw hv hck => Completes.of_exec rfl (State.rankDescWrite_opens ha hw hv hck rfl)
  case ends => exact fun c b s hheld hdue => Completes.of_exec rfl (State.genHoldExpire_ends hheld hdue rfl)

end Sys2Proof.Machine
end

section
/-!
PROOFS. The transform units at work (06_compression R163, R170, R175, R185, R189 to R191): a skimmer, an expander or a press
tile does a block that is not its segment's last; the rank step orthonormalizes P.
-/

namespace Sys2Proof.Machine

open Sys2Proof

/-! ### A block done (R185, R189, R190) -/

section
variable (k : Core)

theorem Core.xseg_of_segs {k k' : Core} (h : k'.xfm.segs = k.xfm.segs) (id : Nat) : k'.xseg id = k.xseg id := by
  unfold Core.xseg; rw [h]

/-- The segment's entry after one of its blocks is done. -/
theorem Core.xseg_segDone_same {id : Nat} {g : XSeg} (h : k.xseg id = some g) (idx : Nat) (d : List Byte) (psn : Bool) :
    (k.segDone id idx d psn).xseg id = some { g with done := g.done ++ [(idx, d, psn)] } := by
  have hid : g.id = id := by simpa using List.find?_some h
  have hkeeps : ((fun s : XSeg => s.id == id) ∘ fun s =>
      if s.id = id then { s with done := s.done ++ [(idx, d, psn)] } else s) = fun s => s.id == id := by
    funext s
    simp only [Function.comp]
    split <;> rfl
  unfold Core.xseg at h
  unfold Core.segDone Core.xseg
  rw [List.find?_map, hkeeps, h, Option.map_some, if_pos hid]

/-- A block that is not its segment's last leaves the segment open. -/
theorem Core.xseg_segDone_more {id : Nat} {g : XSeg} (h : k.xseg id = some g) (hmore : g.done.length + 1 < g.n) (idx : Nat)
    (d : List Byte) (psn : Bool) : ∃ g', (k.segDone id idx d psn).xseg id = some g' ∧ g'.done = g.done ++ [(idx, d, psn)] ∧
      g'.use = g.use ∧ g'.done.length ≠ g'.n := by
  refine ⟨_, k.xseg_segDone_same h idx d psn, rfl, rfl, ?_⟩
  rw [List.length_append, List.length_singleton]
  exact hmore.ne

theorem Core.onlyParts_segDone {l : List Part} (h : Part.xfm ∈ l) (id idx : Nat) (d : List Byte) (psn : Bool) :
    k.onlyParts l (k.segDone id idx d psn) := Core.onlyParts_xfm h _

theorem Core.onlyRegs_segDone {r : List Nat} (id idx : Nat) (d : List Byte) (psn : Bool) :
    k.onlyRegs r (k.segDone id idx d psn) := Core.onlyRegs_of_regs rfl

end

/-- A unit in service that works without an error of its own, where no chunk fails: the core after its work. -/
theorem State.unitWork_settles {s t : State} {u : Nat} {busy : Core → Bool} {redo work : Core → Core} {k : Core}
    (ht : t = s.unitWork u none busy redo (fun k => (work k).settle)) (hb : busy s.core = true)
    (hu : s.core.unitOn u = true) (hk : work s.core = k) (hq : k.cle.failQ = []) :
    t.core.xfm = k.xfm ∧ t.core.cle = k.cle ∧ (∀ a, ¬ evReg a → t.core.rd a = k.rd a) ∧ s.outsideStands t ∧
      ∀ (l : List Part) (r : List Nat), s.core.onlyParts l k → s.core.onlyRegs r k → s.only l r t := by
  have hwork := ht.trans (State.unitWork_without_error _ _ hb hu)
  have hset : (work s.core).settle = k := by rw [hk, Core.settle_of_no_failure hq]
  obtain ⟨-, -, -, -, hrd, honly⟩ := State.onCore_settle hk hq hwork
  refine ⟨?_, ?_, hrd, hwork ▸ State.outsideStands_onCore _ _, honly⟩
  · rw [hwork, State.onCore_xfm, hset]
  · rw [hwork, State.onCore_cle, hset]

/-! ### The coders' view of the core (R182, R183) -/

section
variable {k k' : Core}

theorem Core.fTclass_of_tbl (h : k'.tbl = k.tbl) (f : Nat) : k'.fTclass f = k.fTclass f := Core.ff_of_tbl h _ _ _ _

theorem Core.bankCounts_of_tbl (h : k'.tbl = k.tbl) (c b : Nat) : k'.bankCounts c b = k.bankCounts c b := by
  unfold Core.bankCounts
  simp only [Core.tb_of_tbl h]

theorem Core.bank_of_banks (h : k'.xfm.banks = k.xfm.banks) (c b : Nat) : k'.bank c b = k.bank c b := by
  unfold Core.bank; rw [h]

theorem Core.encBank_of_banks (h : k'.xfm.banks = k.xfm.banks) (c : Nat) : k'.encBank c = k.encBank c := by
  unfold Core.encBank
  simp only [Core.bank_of_banks h]

theorem Core.genBank_of_same (ht : k'.tbl = k.tbl) (h : k'.xfm.banks = k.xfm.banks) (c gen : Nat) :
    k'.genBank c gen = k.genBank c gen := by
  unfold Core.genBank Core.bankGen
  simp only [Core.bank_of_banks h, Core.bankWord0_of_tbl ht]

/-- What a skimmer makes of a block depends on the tables, the banks and the free choices alone. -/
theorem Core.skimOne_of_same (ht : k'.tbl = k.tbl) (hb : k'.xfm.banks = k.xfm.banks) (hf : k'.free = k.free) (f : Nat)
    (d : List Byte) : (k'.skimOne f d).2 = (k.skimOne f d).2 := by
  unfold Core.skimOne
  dsimp only
  rw [Core.fTclass_of_tbl ht, Core.encBank_of_banks hb]
  cases k.encBank (k.fTclass f) with
  | none => rfl
  | some b =>
    dsimp only
    rw [Core.bankCounts_of_tbl ht, Core.bankEcl, Core.bankGen, Core.bankWord0_of_tbl ht, hf]
    rfl

theorem Core.poisonBytes_of_free (hf : k'.free = k.free) (n : Nat) : (k'.poisonBytes n).2 = (k.poisonBytes n).2 := by
  unfold Core.poisonBytes
  rw [hf]

/-- What an expander makes of a block depends on the tables, the banks and the free choices alone. -/
theorem Core.expandOne_of_same (ht : k'.tbl = k.tbl) (hb : k'.xfm.banks = k.xfm.banks) (hf : k'.free = k.free) (e f : Nat)
    (d : List Byte) : (k'.expandOne e f d).2 = (k.expandOne e f d).2 := by
  unfold Core.expandOne
  dsimp only
  rw [Core.fTclass_of_tbl ht, Core.genBank_of_same ht hb]
  split
  · rfl
  · rfl
  · split
    · exact Core.poisonBytes_of_free (by simpa using hf) _
    · rw [Core.bankCounts_of_tbl ht]
      split
      · rfl
      · exact Core.poisonBytes_of_free (by simpa using hf) _
  · exact Core.poisonBytes_of_free (by simpa using hf) _

end

section
variable (k : Core)

/-- What coding a block leaves: all but the flow's GEN, the free choices and the two counters. -/
theorem Core.only_skimOne (f : Nat) (d : List Byte) : k.onlyParts [.tbl, .free] (k.skimOne f d).1 ∧
    k.onlyRegs [Reg.XFM_RAW_BLK_CNT, Reg.XFM_NOSYM_CNT] (k.skimOne f d).1 := by
  unfold Core.skimOne
  dsimp only
  split
  · exact ⟨Core.onlyParts_refl _ _, Core.onlyRegs_refl _ _⟩
  · next b _ =>
    have hgen := Core.onlyTbl_setFctx (k := k.fresh) f 0x28
      (setFld (k.fresh.fctx f 0x28) 47 44 (k.fresh.bankGen (k.fTclass f) b))
    have hp := Core.onlyParts_trans (Core.onlyParts_free (k := k) (l := [.tbl, .free]) (by simp) _) (hgen.onlyParts (by simp))
    have hr := Core.onlyRegs_trans (r := [Reg.XFM_RAW_BLK_CNT, Reg.XFM_NOSYM_CNT])
      (Core.onlyRegs_of_regs (k := k) (k' := k.fresh) rfl) hgen.onlyRegs
    split
    · exact ⟨Core.onlyParts_trans hp (Core.onlyParts_cnt _), Core.onlyRegs_trans hr (Core.onlyRegs_cnt (by simp))⟩
    · exact ⟨Core.onlyParts_trans hp (Core.onlyParts_cnt _), Core.onlyRegs_trans hr (Core.onlyRegs_cnt (by simp))⟩
    · exact ⟨hp, hr⟩

theorem Core.onlyParts_poisonBytes (n : Nat) : k.onlyParts [.free] (k.poisonBytes n).1 := Core.onlyParts_free (by simp) _

theorem Core.onlyRegs_poisonBytes (n : Nat) {r : List Nat} : k.onlyRegs r (k.poisonBytes n).1 := Core.onlyRegs_of_regs rfl

/-- What decoding a block leaves: all but the free choices and the two counters. -/
theorem Core.only_expandOne (e f : Nat) (d : List Byte) : k.onlyParts [.free] (k.expandOne e f d).1 ∧
    k.onlyRegs [Reg.XFM_NOGEN_CNT, Reg.XFM_DECERR_CNT] (k.expandOne e f d).1 := by
  have hdecerr : ∀ n, k.onlyParts [.free] ((k.cnt Reg.XFM_DECERR_CNT).poisonBytes n).1 ∧
      k.onlyRegs [Reg.XFM_NOGEN_CNT, Reg.XFM_DECERR_CNT] ((k.cnt Reg.XFM_DECERR_CNT).poisonBytes n).1 := fun n =>
    ⟨Core.onlyParts_trans (Core.onlyParts_cnt _) (Core.onlyParts_poisonBytes _ n),
     Core.onlyRegs_trans (Core.onlyRegs_cnt (by simp)) (Core.onlyRegs_poisonBytes _ n)⟩
  have hsame : k.onlyParts [.free] k ∧ k.onlyRegs [Reg.XFM_NOGEN_CNT, Reg.XFM_DECERR_CNT] k :=
    ⟨Core.onlyParts_refl _ _, Core.onlyRegs_refl _ _⟩
  unfold Core.expandOne
  dsimp only
  split
  · exact hsame
  · exact hsame
  · split
    · exact ⟨Core.onlyParts_trans (Core.onlyParts_trans (Core.onlyParts_cnt _) (Core.onlyParts_emitLim _ _ _ _ _ _))
          (Core.onlyParts_poisonBytes _ _),
        Core.onlyRegs_trans (Core.onlyRegs_trans (Core.onlyRegs_cnt (by simp)) (Core.onlyRegs_emitLim _ _ _ _ _ _))
          (Core.onlyRegs_poisonBytes _ _)⟩
    · split
      · exact hsame
      · exact hdecerr _
  · exact hdecerr _

end

/-! ### SKIM_BLOCK (R185, R191) -/

section
variable (k : Core)

/-- The core with the block at the head of the skimmers' queue taken. -/
def Core.skimTaken (rest : List XBlk) : Core := { k with xfm := { k.xfm with skimQ := rest } }

/-- The block coded. -/
def Core.skimCoded (b : XBlk) (rest : List XBlk) : Core := ((k.skimTaken rest).skimOne b.flow b.data).1

theorem Core.only_skimCoded (b : XBlk) (rest : List XBlk) : (k.skimTaken rest).onlyParts [.tbl, .free] (k.skimCoded b rest) ∧
    (k.skimTaken rest).onlyRegs [Reg.XFM_RAW_BLK_CNT, Reg.XFM_NOSYM_CNT] (k.skimCoded b rest) := Core.only_skimOne _ _ _

theorem Core.skimCoded_xfm (b : XBlk) (rest : List XBlk) : (k.skimCoded b rest).xfm = (k.skimTaken rest).xfm :=
  (k.only_skimCoded b rest).1 .xfm (by decide)

theorem Core.skimCoded_cle (b : XBlk) (rest : List XBlk) : (k.skimCoded b rest).cle = k.cle :=
  (k.only_skimCoded b rest).1 .cle (by decide)

theorem Core.xseg_skimCoded (b : XBlk) (rest : List XBlk) (id : Nat) : (k.skimCoded b rest).xseg id = k.xseg id :=
  Core.xseg_of_segs (congrArg Xfm.segs (k.skimCoded_xfm b rest)) id

theorem Core.skimEv_more {u : Nat} {b : XBlk} {rest : List XBlk} {g : XSeg} (hon : bitAt k.svc.skim u = true)
    (hq : k.xfm.skimQ = b :: rest) (hg : k.xseg b.seg = some g) (hmore : g.done.length + 1 < g.n) :
    k.skimEv u = (k.skimCoded b rest).segDone b.seg b.idx ((k.skimTaken rest).skimOne b.flow b.data).2 false := by
  obtain ⟨g', hg', -, -, hopen⟩ := (k.skimCoded b rest).xseg_segDone_more ((k.xseg_skimCoded b rest b.seg).trans hg) hmore b.idx
    ((k.skimTaken rest).skimOne b.flow b.data).2 false
  unfold Core.skimCoded Core.skimTaken at *
  unfold Core.skimEv
  rw [hon, hq]
  dsimp only
  rw [if_neg (by decide), hg']
  exact if_neg hopen

end

/-- SKIM_BLOCK of a block that is not its segment's last. -/
theorem State.skimBlock_codes {u : Fin 32} {b : XBlk} {rest : List XBlk} {g : XSeg} {s t : State}
    (hon : bitAt s.core.svc.skim u = true) (hu : s.core.unitOn (272 + u) = true) (hhead : s.core.xfm.skimQ = b :: rest)
    (hg : s.core.xseg b.seg = some g) (hmore : g.done.length + 1 < g.n) (hq : s.core.cle.failQ = [])
    (ht : t = s.unitWork (272 + u) none (fun k => k.skimBusy u) (fun k => k.cnt Reg.XFM_REDO_CNT)
      (fun k => (k.skimEv u).settle)) :
    t.core.xfm.skimQ = rest ∧
      (∃ g', t.core.xseg b.seg = some g' ∧ g'.done = g.done ++ [(b.idx, (s.core.skimOne b.flow b.data).2, false)]) ∧
      s.only [.xfm, .tbl, .free] [Reg.XFM_RAW_BLK_CNT, Reg.XFM_NOSYM_CNT] t := by
  have hbusy : s.core.skimBusy u = true := by simp [Core.skimBusy, hon, hhead]
  have hcode : ((s.core.skimTaken rest).skimOne b.flow b.data).2 = (s.core.skimOne b.flow b.data).2 :=
    Core.skimOne_of_same (k := s.core) (k' := s.core.skimTaken rest) rfl rfl rfl _ _
  have hq' : (s.core.skimCoded b rest).cle.failQ = [] := by rw [Core.skimCoded_cle, hq]
  obtain ⟨hxfm, -, -, -, honly⟩ := State.unitWork_settles ht hbusy hu (s.core.skimEv_more hon hhead hg hmore) hq'
  obtain ⟨g', hg', hdone, -, -⟩ := (s.core.skimCoded b rest).xseg_segDone_more ((s.core.xseg_skimCoded b rest b.seg).trans hg)
    hmore b.idx ((s.core.skimTaken rest).skimOne b.flow b.data).2 false
  obtain ⟨hp, hr⟩ := s.core.only_skimCoded b rest
  refine ⟨?_, ⟨g', (Core.xseg_of_segs (congrArg Xfm.segs hxfm) _).trans hg', hcode ▸ hdone⟩, honly _ _ ?_ ?_⟩
  · rw [hxfm]
    exact congrArg Xfm.skimQ (s.core.skimCoded_xfm b rest)
  · exact Core.onlyParts_trans (Core.onlyParts_xfm (by simp) _)
      (Core.onlyParts_trans (Core.onlyParts_mono (by simp) hp) (Core.onlyParts_segDone _ (by simp) _ _ _ _))
  · exact Core.onlyRegs_trans (Core.onlyRegs_of_regs rfl) (Core.onlyRegs_trans hr (Core.onlyRegs_segDone _ _ _ _ _))

/-! ### EXPAND_BLOCK (R185, R189, R191) -/

section
variable (k : Core) (u : Nat) (b : XBlk) (steal : Bool)

/-- The core with a block taken from the expanders' queue, its flow's turn over, a steal counted. -/
def Core.expTaken : Core :=
  let k : Core := { k with xfm := { k.xfm with
    rr := k.xfm.rr.set 0 u ((b.flow + 1) % 16384)
    expQ := k.xfm.expQ.filter (fun q => !(q.seg == b.seg && q.idx == b.idx)) } }
  if steal then k.cnt Reg.XFM_XSTEAL_CNT else k

/-- The block decoded. -/
def Core.expDecoded : Core := ((k.expTaken u b steal).expandOne u b.flow b.data).1

@[simp] theorem Core.expTaken_tbl : (k.expTaken u b steal).tbl = k.tbl := by cases steal <;> rfl

@[simp] theorem Core.expTaken_free : (k.expTaken u b steal).free = k.free := by cases steal <;> rfl

@[simp] theorem Core.expTaken_cle : (k.expTaken u b steal).cle = k.cle := by cases steal <;> rfl

@[simp] theorem Core.expTaken_banks : (k.expTaken u b steal).xfm.banks = k.xfm.banks := by cases steal <;> rfl

@[simp] theorem Core.expTaken_segs : (k.expTaken u b steal).xfm.segs = k.xfm.segs := by cases steal <;> rfl

theorem Core.expTaken_expQ : (k.expTaken u b steal).xfm.expQ =
    k.xfm.expQ.filter (fun q => !(q.seg == b.seg && q.idx == b.idx)) := by cases steal <;> rfl

theorem Core.expTaken_rr : (k.expTaken u b steal).xfm.rr.get 0 u = (b.flow + 1) % 16384 := by
  cases steal <;> exact SMap.get_set_same _ _ _ _

theorem Core.only_expTaken {r : List Nat} (h : steal = true → Reg.XFM_XSTEAL_CNT ∈ r) :
    k.onlyParts [.xfm, .free] (k.expTaken u b steal) ∧ k.onlyRegs r (k.expTaken u b steal) := by
  cases steal
  · exact ⟨Core.onlyParts_xfm (by simp) _, Core.onlyRegs_of_regs rfl⟩
  · exact ⟨Core.onlyParts_trans (Core.onlyParts_xfm (by simp) _) (Core.onlyParts_cnt _),
      Core.onlyRegs_trans (Core.onlyRegs_of_regs rfl) (Core.onlyRegs_cnt (h rfl))⟩

theorem Core.rd_expTaken_steal : (k.expTaken u b true).rd Reg.XFM_XSTEAL_CNT = min (k.rd Reg.XFM_XSTEAL_CNT + 1) (2 ^ 32 - 1) :=
  Core.rd_cnt_same _ _

theorem Core.only_expDecoded : (k.expTaken u b steal).onlyParts [.free] (k.expDecoded u b steal) ∧
    (k.expTaken u b steal).onlyRegs [Reg.XFM_NOGEN_CNT, Reg.XFM_DECERR_CNT] (k.expDecoded u b steal) :=
  Core.only_expandOne _ _ _ _

theorem Core.expDecoded_xfm : (k.expDecoded u b steal).xfm = (k.expTaken u b steal).xfm :=
  (k.only_expDecoded u b steal).1 .xfm (by decide)

theorem Core.expDecoded_cle : (k.expDecoded u b steal).cle = k.cle :=
  ((k.only_expDecoded u b steal).1 .cle (by decide)).trans (k.expTaken_cle u b steal)

theorem Core.xseg_expDecoded (id : Nat) : (k.expDecoded u b steal).xseg id = k.xseg id :=
  Core.xseg_of_segs (by rw [Core.expDecoded_xfm, Core.expTaken_segs]) id

variable {k u b steal}

theorem Core.expandEv_more {g : XSeg} {d : List Byte × Bool} (hon : bitAt k.svc.expd u = true)
    (hpick : k.expPick u = some (b, steal)) (hpsn : b.psn = false) (hg : k.xseg b.seg = some g)
    (huse : ∀ x c, g.use ≠ .gBack x c) (hmore : g.done.length + 1 < g.n)
    (hd : ((k.expTaken u b steal).expandOne u b.flow b.data).2 = d) :
    k.expandEv u = (k.expDecoded u b steal).segDone b.seg b.idx d.1 d.2 := by
  subst hd
  obtain ⟨g', hg', -, huse', hopen⟩ := (k.expDecoded u b steal).xseg_segDone_more ((k.xseg_expDecoded u b steal b.seg).trans hg)
    hmore b.idx ((k.expTaken u b steal).expandOne u b.flow b.data).2.1 ((k.expTaken u b steal).expandOne u b.flow b.data).2.2
  unfold Core.expDecoded Core.expTaken at *
  unfold Core.expandEv
  rw [hon, hpick]
  dsimp only at *
  rw [if_neg (by decide), hpsn, if_neg (by decide), hg']
  dsimp only
  split
  · next h => exact absurd (huse'.symm.trans h) (huse _ _)
  · exact if_neg hopen

end

/-- EXPAND_BLOCK of a block that is neither poisoned nor its segment's last nor on its way back to the press. -/
theorem State.expandBlock_decodes {u : Fin 32} {b : XBlk} {steal : Bool} {g : XSeg} {r : List Nat} {s t : State}
    (hon : bitAt s.core.svc.expd u = true) (hu : s.core.unitOn (304 + u) = true) (hpick : s.core.expPick u = some (b, steal))
    (hpsn : b.psn = false) (hg : s.core.xseg b.seg = some g) (huse : ∀ x c, g.use ≠ .gBack x c)
    (hmore : g.done.length + 1 < g.n) (hq : s.core.cle.failQ = []) (hsteal : steal = true → Reg.XFM_XSTEAL_CNT ∈ r)
    (hcnt : ∀ a ∈ [Reg.XFM_NOGEN_CNT, Reg.XFM_DECERR_CNT], a ∈ r)
    (ht : t = s.unitWork (304 + u) none (fun k => k.expandBusy u) (fun k => k.cnt Reg.XFM_REDO_CNT)
      (fun k => (k.expandEv u).settle)) :
    t.core.xfm.expQ = s.core.xfm.expQ.filter (fun q => !(q.seg == b.seg && q.idx == b.idx)) ∧
      t.core.xfm.rr.get 0 u = (b.flow + 1) % 16384 ∧
      (∃ g', t.core.xseg b.seg = some g' ∧ g'.done = g.done ++ [(b.idx, (s.core.expandOne u b.flow b.data).2)]) ∧
      (∀ a, ¬ evReg a → a ∉ [Reg.XFM_NOGEN_CNT, Reg.XFM_DECERR_CNT] → t.core.rd a = (s.core.expTaken u b steal).rd a) ∧
      s.only [.xfm, .free] r t := by
  have hbusy : s.core.expandBusy u = true := by simp [Core.expandBusy, hon, hpick]
  have hcode := Core.expandOne_of_same (s.core.expTaken_tbl u b steal) (s.core.expTaken_banks u b steal)
    (s.core.expTaken_free u b steal) u b.flow b.data
  have hq' : ((s.core.expDecoded u b steal).segDone b.seg b.idx (s.core.expandOne u b.flow b.data).2.1
      (s.core.expandOne u b.flow b.data).2.2).cle.failQ = [] :=
    (congrArg Cle.failQ (s.core.expDecoded_cle u b steal)).trans hq
  obtain ⟨hxfm, -, hrd, -, honly⟩ := State.unitWork_settles ht hbusy hu
    (Core.expandEv_more hon hpick hpsn hg huse hmore hcode) hq'
  obtain ⟨g', hg', hdone, -, -⟩ := (s.core.expDecoded u b steal).xseg_segDone_more
    ((s.core.xseg_expDecoded u b steal b.seg).trans hg) hmore b.idx (s.core.expandOne u b.flow b.data).2.1
    (s.core.expandOne u b.flow b.data).2.2
  obtain ⟨hp, hr⟩ := s.core.only_expDecoded u b steal
  obtain ⟨hp', hr'⟩ := s.core.only_expTaken u b steal hsteal
  refine ⟨?_, ?_, ⟨g', (Core.xseg_of_segs (congrArg Xfm.segs hxfm) _).trans hg', hdone⟩, fun a hev ha => ?_, honly _ _ ?_ ?_⟩
  · rw [hxfm]
    exact (congrArg Xfm.expQ (s.core.expDecoded_xfm u b steal)).trans (s.core.expTaken_expQ u b steal)
  · rw [hxfm]
    exact (congrArg (fun x : Xfm => x.rr.get 0 u) (s.core.expDecoded_xfm u b steal)).trans (s.core.expTaken_rr u b steal)
  · rw [hrd a hev]
    exact hr a ha (fun h => hev (.inl h)) (fun h => hev (.inr h))
  · exact Core.onlyParts_trans hp' (Core.onlyParts_trans (Core.onlyParts_mono (by simp) hp)
      (Core.onlyParts_segDone _ (by simp) _ _ _ _))
  · exact Core.onlyRegs_trans hr' (Core.onlyRegs_trans (Core.onlyRegs_mono hcnt hr)
      (Core.onlyRegs_segDone _ _ _ _ _))

/-! ### PRESS_BLOCK (R163, R190) -/

section
variable (k : Core)

/-- What a read of a chunk's whey leaves: all but the marks of the first reads and the traffic measured. -/
theorem Core.wheyRead_eq (f c n : Nat) : ∃ m q,
    (k.wheyRead f c n).1 = { k with xfm := { k.xfm with wheyRead := m }, hbc := q } := by
  unfold Core.wheyRead
  dsimp only
  split
  · exact ⟨_, _, rfl⟩
  split
  · exact ⟨_, _, rfl⟩
  · exact ⟨_, _, rfl⟩

/-- A pat rotated: added to its chunk, the whey read beside. -/
theorem Core.pressRotate_eq {x c : Nat} {h : Chunk} (hc : k.chunk x c = some h) (p : Nat) :
    ∃ m q z, ∃ g : Chunk → Chunk, k.pressRotate x c p =
      ({ k with xfm := { k.xfm with wheyRead := m }, hbc := q } : Core).updChunk x c g ∧
      ∀ h, ((g h).x = h.x ∧ (g h).c = h.c) ∧ (g h).rot = h.rot ++ [(p, z)] := by
  unfold Core.pressRotate
  rw [hc]
  dsimp only
  split
  · exact ⟨k.xfm.wheyRead, k.hbc, _, _, rfl, fun _ => ⟨⟨rfl, rfl⟩, rfl⟩⟩
  · obtain ⟨m, q, hw⟩ := k.wheyRead_eq (k.cFlow x) c (k.chunkElems x c)
    rw [hw]
    exact ⟨m, q, _, _, rfl, fun _ => ⟨⟨rfl, rfl⟩, rfl⟩⟩

/-- The core with a block taken from the press's queue and its flow's turn over. -/
def Core.pressTaken (f : Nat) (b : XBlk) : Core :=
  { k with xfm := { k.xfm with
      rrPress := (f + 1) % 16384
      pressQ := k.xfm.pressQ.filter (fun q => !(q.seg == b.seg && q.idx == b.idx)) } }

theorem Core.pressEv_contrib {u f x c : Nat} {b : XBlk} {g : XSeg} (hon : bitAt k.svc.press u = true)
    (hturn : rrPick 16384 k.xfm.rrPress (fun g => k.xfm.pressQ.any (fun b => b.flow == g && k.pressNext b)) = some f)
    (hb : k.xfm.pressQ.find? (fun b => b.flow == f && k.pressNext b) = some b) (hg : k.xseg b.seg = some g)
    (huse : g.use = .contrib x c) (hmore : g.done.length + 1 < g.n) :
    k.pressEv u = ((k.pressTaken f b).pressRotate x c b.idx).segDone b.seg b.idx [] false := by
  have hg' : (k.pressTaken f b).xseg b.seg = some g := hg
  have hdone : (k.pressTaken f b).pressDone b = ((k.pressTaken f b).pressRotate x c b.idx).segDone b.seg b.idx [] false := by
    unfold Core.pressDone
    rw [hg']
    dsimp only
    rw [huse]
    exact if_neg hmore.ne
  unfold Core.pressEv
  rw [hon, hturn]
  dsimp only
  rw [if_neg (by decide), hb]
  exact hdone

end

/-- PRESS_BLOCK of a contribution's block that is not its segment's last. -/
theorem State.pressBlock_rotates {u : Fin 16} {f x c : Nat} {b : XBlk} {g : XSeg} {h : Chunk} {s t : State}
    (hon : bitAt s.core.svc.press u = true) (hu : s.core.unitOn (256 + u) = true)
    (hturn : rrPick 16384 s.core.xfm.rrPress (fun g => s.core.xfm.pressQ.any (fun b => b.flow == g && s.core.pressNext b)) =
      some f)
    (hb : s.core.xfm.pressQ.find? (fun b => b.flow == f && s.core.pressNext b) = some b) (hg : s.core.xseg b.seg = some g)
    (huse : g.use = .contrib x c) (hmore : g.done.length + 1 < g.n) (hc : s.core.chunk x c = some h)
    (hq : s.core.cle.failQ = [])
    (ht : t = s.unitWork (256 + u) none (fun k => k.pressBusy u) (fun k => k.cnt Reg.XFM_REDO_CNT)
      (fun k => (k.pressEv u).settle)) :
    t.core.xfm.rrPress = (f + 1) % 16384 ∧
      t.core.xfm.pressQ = s.core.xfm.pressQ.filter (fun q => !(q.seg == b.seg && q.idx == b.idx)) ∧
      (∃ g', t.core.xseg b.seg = some g' ∧ g'.done = g.done ++ [(b.idx, [], false)]) ∧
      (∃ h' z, t.core.chunk x c = some h' ∧ h'.rot = h.rot ++ [(b.idx, z)]) ∧ s.outsideStands t := by
  have hbusy : s.core.pressBusy u = true := by
    have hnext := List.find?_some hb
    simp only [Bool.and_eq_true] at hnext
    simp only [Core.pressBusy, hon, Bool.true_and]
    exact List.any_eq_true.2 ⟨b, List.mem_of_find?_eq_some hb, hnext.2⟩
  obtain ⟨m, q, z, up, hrot, hup⟩ := (s.core.pressTaken f b).pressRotate_eq (x := x) (c := c) hc b.idx
  have hev := s.core.pressEv_contrib hon hturn hb hg huse hmore
  rw [hrot] at hev
  obtain ⟨hxfm, hcle, -, hout, -⟩ := State.unitWork_settles ht hbusy hu hev hq
  obtain ⟨hname, hpat⟩ := hup h
  refine ⟨?_, ?_, ⟨_, (Core.xseg_of_segs (congrArg Xfm.segs hxfm) _).trans (Core.xseg_segDone_same _ hg _ _ _), rfl⟩,
    ⟨up h, z, (Core.chunk_of_cle hcle _ _).trans (Core.chunk_updChunk_same up hname hc), hpat⟩, hout⟩
  · rw [hxfm]; rfl
  · rw [hxfm]; rfl

/-! ### RANK_ORTHONORMALIZE (R174, R175) -/

/-- The second core has the rank step's round and P-hat, and the count of deficient columns, as the first. -/
structure Core.PhatStands (d : Nat) (k k' : Core) : Prop where
  round : (k'.rank d).round = (k.rank d).round
  phat : (k'.rank d).phat = (k.rank d).phat
  count : k'.rd Reg.XFM_DEFICIENT_CNT = k.rd Reg.XFM_DEFICIENT_CNT

section
variable {d : Nat} {k k' k'' : Core}

theorem Core.PhatStands.refl (d : Nat) (k : Core) : Core.PhatStands d k k := ⟨rfl, rfl, rfl⟩

theorem Core.PhatStands.trans (h : Core.PhatStands d k k') (h' : Core.PhatStands d k' k'') : Core.PhatStands d k k'' :=
  ⟨h'.round.trans h.round, h'.phat.trans h.phat, h'.count.trans h.count⟩

theorem Core.PhatStands.of_xfm (hx : k'.xfm = k.xfm) (hr : k'.rd Reg.XFM_DEFICIENT_CNT = k.rd Reg.XFM_DEFICIENT_CNT) :
    Core.PhatStands d k k' := ⟨by rw [Core.rank_of_xfm hx], by rw [Core.rank_of_xfm hx], hr⟩

theorem Core.OnlyTbl.phatStands (h : k.OnlyTbl k') : Core.PhatStands d k k' := by
  obtain ⟨m, rfl⟩ := h
  exact ⟨rfl, rfl, rfl⟩

theorem Core.BufWork.phatStands (h : k.BufWork k') : Core.PhatStands d k k' :=
  .of_xfm (by obtain ⟨⟨_, _, _, rfl⟩, -⟩ := h; rfl) (h.regs _ (by decide) (by decide) (by decide))

theorem Core.SentFirst.phatStands {n : Nat} (h : k.SentFirst n k') : Core.PhatStands d k k' :=
  .of_xfm (h.parts .xfm (by decide)) (Core.rd_of_regs h.regs _)

theorem Core.phatStands_mwr (k : Core) (a : Nat) (l : List Byte) : Core.PhatStands d k (k.mwr a l) := ⟨rfl, rfl, rfl⟩

theorem Core.phatStands_recTimer (k : Core) (id us : Nat) : Core.PhatStands d k (k.recTimer id us) := ⟨rfl, rfl, rfl⟩

theorem Core.onlyTbl_openResult (k : Core) (x c size ptr : Nat) : k.OnlyTbl (k.openResult x c size ptr) :=
  (Core.onlyTbl_openWords _ _ _ _ _ _ _).trans (Core.onlyTbl_setFctx _ _ _)

theorem Core.phatStands_sent (k : Core) (n : Nat) : Core.PhatStands d k (k.setRank d { k.rank d with sent := n }) :=
  ⟨by rw [Core.rank_setRank_same], by rw [Core.rank_setRank_same], rfl⟩

theorem Core.phatStands_expStart (k : Core) (f : Nat) (use : XUse) (l : List (List Byte × Bool)) :
    Core.PhatStands d k (k.expStart f use l) := ⟨rfl, rfl, rfl⟩

/-- Sending P-hat takes buffers, opens records and sends packets, and counts the chunks sent. -/
theorem Core.phatStands_sendPhat (d : Nat) : ∀ (n : Nat) (k : Core), Core.PhatStands d k (Core.sendPhat n d k)
  | 0, k => .refl d k
  | n + 1, k => by
    unfold Core.sendPhat
    dsimp only
    split
    · exact .refl d k
    split
    · exact (k.bufWork_takeBuffer _).phatStands
    · refine .trans ?_ (Core.phatStands_sendPhat d n _)
      refine .trans ?_ (Core.phatStands_sent _ _)
      refine .trans ?_ (Core.phatStands_recTimer _ _ _)
      refine .trans ?_ (List.foldlRecOn _ _ (.refl d _) fun k' hk' i _ => hk'.trans (k'.sentFirst_sendFirst _ i).phatStands)
      refine .trans ?_ (Core.onlyTbl_openResult _ _ _ _ _).phatStands
      exact (k.bufWork_takeBuffer _).phatStands.trans (Core.phatStands_mwr _ _ _)

end

section
variable (k : Core) (d : Nat)

/-- The deficient columns counted, in the descriptor and the engine's counter, and told where there are some. -/
def Core.deficientCounted (n : Nat) : Core :=
  let k' := ((k.rkSet d 7 0 n).rkSet d 15 8 stOk).cntN Reg.XFM_DEFICIENT_CNT n
  if n = 0 then k' else k'.emit 0x2FFF 0x0504 [(107, 102, d), (95, 64, (k.rank d).step), (7, 0, n)]

theorem Core.rd_deficientCounted (n : Nat) : (k.deficientCounted d n).rd Reg.XFM_DEFICIENT_CNT =
    min (k.rd Reg.XFM_DEFICIENT_CNT + n) (2 ^ 32 - 1) := by
  have hcnt : (((k.rkSet d 7 0 n).rkSet d 15 8 stOk).cntN Reg.XFM_DEFICIENT_CNT n).rd Reg.XFM_DEFICIENT_CNT =
      min (k.rd Reg.XFM_DEFICIENT_CNT + n) (2 ^ 32 - 1) := Core.rd_cntN_same _ _ _
  unfold Core.deficientCounted
  dsimp only
  split
  · exact hcnt
  · exact (Core.rd_emit _ _ _ _ (by unfold evReg; decide)).trans hcnt

/-- The rank step with P-hat made, in the round that multiplies by it. -/
def Core.orthonormalized : Core :=
  let k' := k.deficientCounted d (cholQr (k.rkR d) (k.rank d).p).2
  k'.setRank d { k.rank d with
    round := 4, phat := (cholQr (k.rkR d) (k.rank d).p).1
    qNew := List.replicate (k'.rkN d * k'.rkR d) 0, next := 0, sent := 0 }

theorem Core.orthonormalize_eq : ∃ f x, k.orthonormalize d = (k.rank d).held.foldl (fun (k : Core) c =>
    k.expStart f (.gBack x c) (k.blocksAt (hbmBase + k.rkGPtr d + 33792 * c) (k.mrd (hbmBase + k.rkGPtr d + 33792 * c) 33792)))
    (k.orthonormalized d) := ⟨_, _, rfl⟩

/-- After orthonormalization G goes back through the expanders, which leaves P-hat. -/
theorem Core.phatStands_orthonormalize : Core.PhatStands d (k.orthonormalized d) (k.orthonormalize d) := by
  obtain ⟨f, x, h⟩ := k.orthonormalize_eq d
  rw [h]
  exact List.foldlRecOn _ _ (.refl d _) fun k' hk' c _ => hk'.trans (Core.phatStands_expStart k' _ _ _)

theorem Core.orthoEv_round3 (h : (k.rank d).round = 3) : ((k.orthoEv d).rank d).round = 4 ∧
    ((k.orthoEv d).rank d).phat = (cholQr (k.rkR d) (k.rank d).p).1 ∧
    (k.orthoEv d).rd Reg.XFM_DEFICIENT_CNT =
      min (k.rd Reg.XFM_DEFICIENT_CNT + (cholQr (k.rkR d) (k.rank d).p).2) (2 ^ 32 - 1) := by
  have hrank := Core.rank_setRank_same (k.deficientCounted d (cholQr (k.rkR d) (k.rank d).p).2) d
  have hev : Core.PhatStands d (k.orthonormalized d) (k.orthoEv d) := by
    unfold Core.orthoEv
    dsimp only
    rw [if_pos h]
    split
    · exact (k.phatStands_orthonormalize d).trans (Core.phatStands_sendPhat d _ _)
    · exact k.phatStands_orthonormalize d
  refine ⟨hev.round.trans ?_, hev.phat.trans ?_, hev.count.trans (k.rd_deficientCounted d _)⟩ <;>
    rw [Core.orthonormalized, hrank]

end

/-- RANK_ORTHONORMALIZE of a step in round 3. -/
theorem State.rankOrthonormalize_goesOn {d : Nat} {s t : State} (h : (s.core.rank d).round = 3)
    (ht : t = s.onCore (fun k => k.orthoEv d)) : (t.core.rank d).round = 4 ∧
      (t.core.rank d).phat = (cholQr (s.core.rkR d) (s.core.rank d).p).1 ∧
      t.core.rd Reg.XFM_DEFICIENT_CNT =
        min (s.core.rd Reg.XFM_DEFICIENT_CNT + (cholQr (s.core.rkR d) (s.core.rank d).p).2) (2 ^ 32 - 1) ∧
      s.outsideStands t := by
  subst ht
  rw [Core.rank_of_xfm (State.onCore_xfm s _), State.rd_onCore _ _ (by unfold evReg; decide)]
  obtain ⟨hround, hphat, hcount⟩ := s.core.orthoEv_round3 d h
  exact ⟨hround, hphat, hcount, State.outsideStands_onCore _ _⟩

/-- Settles O18: a skimmer, an expander by its own and by a stolen block, a press tile, the rank step. -/
theorem transformUnitsWork : Obligations.TransformUnitsWork := by
  unfold Obligations.TransformUnitsWork
  refine ⟨?skims, ?expands, ?steals, ?presses, ?orthonormalizes⟩
  case skims =>
    exact fun u b rest g s hon hu hhead hg hmore hq =>
      Completes.of_exec rfl (State.skimBlock_codes hon hu hhead hg hmore hq rfl)
  case expands =>
    intro u b g s hon hu hpick hpsn hg huse hmore hq
    obtain ⟨hexp, hturn, hseg, -, honly⟩ := State.expandBlock_decodes hon hu hpick hpsn hg huse hmore hq (by simp)
      (r := [Reg.XFM_NOGEN_CNT, Reg.XFM_DECERR_CNT]) (by simp) rfl
    exact .of_exec rfl ⟨hexp, hturn, hseg, honly⟩
  case steals =>
    intro u b g s hon hu hpick hpsn hg huse hmore hq
    obtain ⟨hexp, hturn, hseg, hrd, honly⟩ := State.expandBlock_decodes hon hu hpick hpsn hg huse hmore hq
      (r := [Reg.XFM_XSTEAL_CNT, Reg.XFM_NOGEN_CNT, Reg.XFM_DECERR_CNT]) (by simp) (by simp) rfl
    have hcount := (hrd Reg.XFM_XSTEAL_CNT (by unfold evReg; decide) (by decide)).trans (s.core.rd_expTaken_steal u b)
    exact .of_exec rfl ⟨hexp, hturn, hseg, hcount, honly⟩
  case presses =>
    exact fun u f x c b g h s hon hu hturn hb hg huse hmore hc hq =>
      Completes.of_exec rfl (State.pressBlock_rotates hon hu hturn hb hg huse hmore hc hq rfl)
  case orthonormalizes => exact fun d s h => Completes.of_exec rfl (State.rankOrthonormalize_goesOn h rfl)

end Sys2Proof.Machine
end

section
/-!
PROOFS. Memory (07_buffers_memory R196, R199) is written only where an operation stores data: a packet's payload, a chunk's
whey, a rounded pat, a result, a staged segment, a message, the factors of a rank step. Every other operation leaves it. One
frame lemma per operation, in the order of the model's files.
-/

namespace Sys2Proof.Machine

open Sys2Proof

/-- Work on a list, each part of which leaves the memory, leaves it. -/
@[simp] theorem foldl_mem {α : Type} {f : Core → α → Core} (hf : ∀ k a, (f k a).mem = k.mem) (l : List α) (k : Core) :
    (l.foldl f k).mem = k.mem := by
  induction l generalizing k with
  | nil => rfl
  | cons a l ih => exact (ih (f k a)).trans (hf k a)

/-- The same of work that carries a value beside the core. -/
@[simp] theorem foldl_fst_mem {α β : Type} {f : Core × β → α → Core × β} (hf : ∀ p a, (f p a).1.mem = p.1.mem) (l : List α)
    (p : Core × β) :
    (l.foldl f p).1.mem = p.1.mem := by
  induction l generalizing p with
  | nil => rfl
  | cons a l ih => exact (ih (f p a)).trans (hf p a)

/-- The same of work on the whole state. -/
@[simp] theorem foldl_core_mem {α : Type} {f : State → α → State} (hf : ∀ s a, (f s a).core.mem = s.core.mem) (l : List α)
    (s : State) :
    (l.foldl f s).core.mem = s.core.mem := by
  induction l generalizing s with
  | nil => rfl
  | cons a l ih => exact (ih (f s a)).trans (hf s a)

@[simp] theorem Core.fnStart_mem (k : Core) (i : FnId) (check : Core → Nat) (start : Core → Core)
    (hs : ∀ k, (start k).mem = k.mem) :
    (k.fnStart i check start).1.mem = k.mem := by
  unfold Core.fnStart; dsimp only; split <;> simp [hs]

@[simp] theorem Core.fnEnable_mem (k : Core) (i : FnId) (check : Core → Nat) (start : Core → Core)
    (hs : ∀ k, (start k).mem = k.mem) :
    (k.fnEnable i check start).1.mem = k.mem := by
  unfold Core.fnEnable; split
  case h_4 => split <;> rfl
  all_goals simp [hs]

@[simp] theorem Core.fnDisable_mem (k : Core) (i : FnId) (drain clear : Core → Core) (hd : ∀ k, (drain k).mem = k.mem)
    (hc : ∀ k, (clear k).mem = k.mem) :
    (k.fnDisable i drain clear).1.mem = k.mem := by
  unfold Core.fnDisable; split
  case h_4 => split <;> rfl
  all_goals simp [hd, hc]

@[simp] theorem Core.fnDrained_mem (k : Core) (i : FnId) (st : Nat) (check : Core → Nat) (start : Core → Core)
    (hs : ∀ k, (start k).mem = k.mem) :
    (k.fnDrained i st check start).mem = k.mem := by
  unfold Core.fnDrained; dsimp only; split
  · split <;> simp [hs]
  · rfl

@[simp] theorem Core.winWrite_mem (k : Core) (win words : Nat) (mg : Bool) (f : Core → Nat → Nat → Core × Nat)
    (hf : ∀ k w v, (f k w v).1.mem = k.mem) (v : Nat) :
    (k.winWrite win words mg f v).1.mem = k.mem := by
  unfold Core.winWrite; dsimp only; split
  · simp
  · dsimp only; split <;> simp [hf]

/-- As a rewrite of the simp set, which `recTimer_mem` is not. -/
@[simp] theorem Core.mem_recTimer (k : Core) (id us : Nat) : (k.recTimer id us).mem = k.mem := (rfl)

/-! ### Machine/Ops.lean -/

@[simp] theorem Core.rw_mem (k : Core) (a v : Nat) : (k.rw a v).1.mem = k.mem := by
  unfold Core.rw
  split
  · rfl
  · split <;> simp

@[simp] theorem tblPlain_mem (win mask : Nat) (k : Core) (w v : Nat) : (tblPlain win mask k w v).1.mem = k.mem := by
  simp [tblPlain]

@[simp] theorem tblRo_mem (k : Core) (_w _v : Nat) : (tblRo k _w _v).1.mem = k.mem := by simp [tblRo]

@[simp] theorem State.tick_mem (s : State) (ns : Nat) : (s.tick ns).core.mem = s.core.mem := by simp [State.tick]

@[simp] theorem State.mgmtWin_mem (s : State) (stat win words : Nat) (f : Core → Nat → Nat → Core × Nat)
    (hf : ∀ k w v, (f k w v).1.mem = k.mem) (v : Nat) : (s.mgmtWin stat win words f v).core.mem = s.core.mem := by
  unfold State.mgmtWin State.mgmt
  split
  · simp [hf]
  · rfl

/-! ### Machine/Buffers.lean -/

@[simp] theorem Core.lend_mem (k : Core) (p o : Nat) : (k.lend p o).1.mem = k.mem := by simp [Core.lend]

@[simp] theorem Core.takeBuffer_mem (k : Core) (r : BufReq) : (k.takeBuffer r).1.mem = k.mem := by
  unfold Core.takeBuffer
  split
  · simp
  · split
    · simp
    · dsimp only
      split <;> simp

@[simp] theorem Core.wheyTraffic_mem (k : Core) (n : Nat) : (k.wheyTraffic n).mem = k.mem := by simp [Core.wheyTraffic]

@[simp] theorem Core.poolStart_mem (p : Nat) (k : Core) : (Core.poolStart p k).mem = k.mem := by simp [Core.poolStart]

@[simp] theorem Core.poolChk_mem (p : Nat) (k : Core) : (Core.poolChk p k).mem = k.mem := by
  unfold Core.poolChk; split <;> simp

@[simp] theorem Core.poolCmd_mem (k : Core) (cmd p : Nat) : (k.poolCmd cmd p).1.mem = k.mem := by
  unfold Core.poolCmd; split <;> simp

@[simp] theorem Core.allocCmd_mem (k : Core) (p o : Nat) : (k.allocCmd p o).1.mem = k.mem := by
  unfold Core.allocCmd
  split
  · simp
  · split <;> simp
  · simp

@[simp] theorem Core.returnBuf_mem (k : Core) (ptr owner : Nat) : (k.returnBuf ptr owner).1.mem = k.mem := by
  unfold Core.returnBuf
  split
  · dsimp only
    split
    · split <;> simp
    · simp
  · dsimp only
    split
    · split <;> simp
    · simp

@[simp] theorem Core.giveBack_mem (k : Core) (ptr : Option Nat) (owner : Nat) : (k.giveBack ptr owner).mem = k.mem := by
  unfold Core.giveBack; split <;> simp

@[simp] theorem Core.dropReq_mem (k : Core) (f : BufUser → Bool) : (k.dropReq f).mem = k.mem := by simp [Core.dropReq]

@[simp] theorem Core.bufOpenCheck_mem (k : Core) (ptr owner size : Nat) :
    (k.bufOpenCheck ptr owner size).1.mem = k.mem := by simp [Core.bufOpenCheck, apply_ite Core.mem]

@[simp] theorem Core.serveWait_mem (k : Core) : k.serveWait.mem = k.mem := by
  unfold Core.serveWait; split <;> simp

@[simp] theorem poolTblWrite_mem (k : Core) (w v : Nat) : (poolTblWrite k w v).1.mem = k.mem := by
  unfold poolTblWrite; split <;> simp

@[simp] theorem ownTblWrite_mem (k : Core) (w v : Nat) : (ownTblWrite k w v).1.mem = k.mem := by
  unfold ownTblWrite; split <;> simp

@[simp] theorem Core.freeCmd_mem (k : Core) (hi : Nat) : (k.freeCmd hi).1.mem = k.mem := by simp [Core.freeCmd]

@[simp] theorem Core.bpmWrite_mem (k : Core) (a v : Nat) : (k.bpmWrite a v).1.mem = k.mem := by
  simp [Core.bpmWrite, apply_ite Core.mem, apply_ite Prod.fst]

/-! ### Machine/Fabric.lean -/

@[simp] theorem Core.originate_mem (k : Core) (vc typ poison : Nat) (data : List Byte) (dst flow seq cmpl coll : Nat) :
    (k.originate vc typ poison data dst flow seq cmpl coll).mem = k.mem := by simp [Core.originate]

@[simp] theorem Core.setPort_mem (k : Core) (n : Nat) (p : OflPort) : (k.setPort n p).mem = k.mem := (rfl)

@[simp] theorem Core.oflStart_mem (n : Nat) (k : Core) : (Core.oflStart n k).mem = k.mem := by simp [Core.oflStart]

@[simp] theorem Core.routerChk_mem (k : Core) : k.routerChk.mem = k.mem := by
  unfold Core.routerChk; split <;> simp

@[simp] theorem Core.leaves_mem (k : Core) (p : Packet) : (k.leaves p).mem = k.mem := by
  unfold Core.leaves; split <;> simp

@[simp] theorem Core.dropPkt_mem (k : Core) (p : Packet) (reason cntReg : Nat) :
    (k.dropPkt p reason cntReg).mem = k.mem := by simp [Core.dropPkt]

@[simp] theorem Core.enqueue_mem (k : Core) (o : Nat) (p : Packet) : (k.enqueue o p).mem = k.mem := by simp [Core.enqueue]

@[simp] theorem Core.deliver_mem (k : Core) (p : Packet) (site : Option Nat) : (k.deliver p site).mem = k.mem := by
  simp [Core.deliver]

@[simp] theorem Core.escRoute_mem (k : Core) (p : Packet) (here out : Bool) : (k.escRoute p here out).mem = k.mem := by
  simp [Core.escRoute, apply_ite Core.mem]

@[simp] theorem Core.escMove_mem (k : Core) (p : Packet) (out : Bool) : (k.escMove p out).mem = k.mem := by
  simp [Core.escMove]

@[simp] theorem Core.forward_mem (k : Core) (p : Packet) (o : Nat) : (k.forward p o).mem = k.mem := by
  unfold Core.forward
  split
  · simp
  · split <;> simp

@[simp] theorem Core.lookup_mem (k : Core) (p : Packet) : (k.lookup p).mem = k.mem := by
  unfold Core.lookup; dsimp only
  (repeat' split) <;> simp

@[simp] theorem Core.circuit_mem (k : Core) (p : Packet) : (k.circuit p).mem = k.mem := by
  unfold Core.circuit
  dsimp only
  split
  · split <;> simp
  · simp

@[simp] theorem Core.route_mem (k : Core) (p : Packet) : (k.route p).mem = k.mem := by
  unfold Core.route
  split
  · simp
  · split <;> simp

@[simp] theorem Core.routeRx_mem (k : Core) (p : Packet) : (k.routeRx p).mem = k.mem := by
  simp [Core.routeRx, apply_ite Core.mem]

@[simp] theorem Core.takeRx_mem (k : Core) (n : Nat) (p : Packet) : (k.takeRx n p).mem = k.mem := by simp [Core.takeRx]

@[simp] theorem Core.routerTake_mem (k : Core) (src : Nat) (bad : Bool) : (k.routerTake src bad).mem = k.mem := by
  unfold Core.routerTake
  split
  · simp
  · split
    · split
      · simp
      · dsimp only
        split <;> simp
    · split
      · simp
      · dsimp only
        split <;> simp

@[simp] theorem Core.requeueEsc_mem (k : Core) (n : Nat) : (k.requeueEsc n).mem = k.mem := by
  simp [Core.requeueEsc, apply_ite Core.mem]

@[simp] theorem Core.cutTx_mem (k : Core) (n : Nat) : (k.cutTx n).mem = k.mem := by
  unfold Core.cutTx; dsimp only; split <;> simp

@[simp] theorem Core.oflOff_mem (k : Core) (n : Nat) : (k.oflOff n).mem = k.mem := by simp [Core.oflOff]

@[simp] theorem Core.oflDrainChk_mem (k : Core) (n : Nat) : (k.oflDrainChk n).mem = k.mem := by
  unfold Core.oflDrainChk; dsimp only; split <;> simp

@[simp] theorem Core.oflDrain_mem (n : Nat) (k : Core) : (Core.oflDrain n k).mem = k.mem := by simp [Core.oflDrain]

@[simp] theorem Core.portDown_mem (k : Core) (n cause : Nat) : (k.portDown n cause).mem = k.mem := by
  unfold Core.portDown; split <;> simp

@[simp] theorem Core.startPkt_mem (k : Core) (n : Nat) : (k.startPkt n).mem = k.mem := by
  unfold Core.startPkt; dsimp only; split <;> simp

@[simp] theorem Core.slotSent_mem (k : Core) (n : Nat) (vc0 : Bool) : (k.slotSent n vc0).mem = k.mem := by
  simp [Core.slotSent]

@[simp] theorem Core.nextSlot_mem (k : Core) (n : Nat) : (k.nextSlot n).1.mem = k.mem := by
  unfold Core.nextSlot
  dsimp only
  split
  · simp
  · split
    · simp
    · split
      · split <;> simp
      · split <;> split <;> simp

@[simp] theorem Core.blockSlots_mem (n i : Nat) (k : Core) : (Core.blockSlots n i k).1.mem = k.mem := by
  induction i generalizing k with
  | zero => rfl
  | succ i ih => exact (ih _).trans (Core.nextSlot_mem k n)

@[simp] theorem Core.linkUp_mem (k : Core) (n : Nat) : (k.linkUp n).mem = k.mem := by simp [Core.linkUp]

@[simp] theorem Core.paramChk_mem (k : Core) (n : Nat) : (k.paramChk n).mem = k.mem := by
  unfold Core.paramChk; dsimp only; split <;> simp

@[simp] theorem Core.sendBlock_mem (k : Core) (n : Nat) : (k.sendBlock n).mem = k.mem := by
  unfold Core.sendBlock
  extract_lets up r k₁ q used first blk k₂ k₃ q₁ q₂
  have hr : r.1.mem = k.mem := by unfold r; split <;> simp
  have h₂ : k₂.mem = k₁.mem := by unfold k₂; split <;> simp
  simp [k₃, h₂, k₁, hr]

@[simp] theorem Core.startReplay_mem (k : Core) (n : Nat) : (k.startReplay n).mem = k.mem := by
  unfold Core.startReplay
  dsimp only
  split
  · simp
  · split <;> simp

@[simp] theorem Core.rxSlot_mem (k : Core) (n lsn typ : Nat) (d : List Byte) : (k.rxSlot n lsn typ d).mem = k.mem := by
  simp [Core.rxSlot, apply_ite Core.mem]

@[simp] theorem Core.rxSlots_mem (k : Core) (n : Nat) (blk : List Byte) (tr : Nat) : (k.rxSlots n blk tr).mem = k.mem := by
  simp [Core.rxSlots, apply_ite Core.mem, apply_ite Prod.fst]

@[simp] theorem Core.rxParam_mem (k : Core) (n : Nat) (parms : Option (List Nat)) : (k.rxParam n parms).mem = k.mem := by
  simp [Core.rxParam]

@[simp] theorem Core.rxUp_mem (k : Core) (n : Nat) (blk : List Byte) : (k.rxUp n blk).mem = k.mem := by
  unfold Core.rxUp; dsimp only; split <;> simp

@[simp] theorem Core.rxBad_mem (k : Core) (n : Nat) : (k.rxBad n).mem = k.mem := by
  unfold Core.rxBad; dsimp only; split <;> simp

@[simp] theorem Core.rxBlock_mem (k : Core) (n : Nat) (blk : List Byte) (parms : Option (List Nat)) :
    (k.rxBlock n blk parms).mem = k.mem := by
  unfold Core.rxBlock
  split
  · dsimp only
    split <;> simp
  · dsimp only
    split <;> simp
  · simp

@[simp] theorem Core.oflCmd_mem (k : Core) (n : Nat) (en : Bool) : (k.oflCmd n en).1.mem = k.mem := by
  unfold Core.oflCmd
  split
  · split
    · rfl
    · simp [apply_ite Core.mem]
  · have hoff : (k.fnDisable (.ofl n) (Core.oflDrain n) (fun k => k.setPort n { k.port n with link := 0 })).1.mem = k.mem :=
      k.fnDisable_mem _ _ _ (Core.oflDrain_mem n) (fun k => k.setPort_mem n _)
    simp [apply_ite Core.mem]

@[simp] theorem Core.fpcWrite_mem (k : Core) (n a v : Nat) : (k.fpcWrite n a v).1.mem = k.mem := by
  unfold Core.fpcWrite
  split
  · simp
  · split <;> simp

@[simp] theorem Core.epochWrite_mem (k : Core) (v : Nat) : (k.epochWrite v).1.mem = k.mem := by
  unfold Core.epochWrite
  dsimp only
  split
  · simp
  · split <;> simp

@[simp] theorem Core.epochIdleEv_mem (k : Core) (v : Nat) : (k.epochIdleEv v).mem = k.mem := by
  unfold Core.epochIdleEv; dsimp only; split <;> simp

@[simp] theorem Core.holdLow_mem (k : Core) (win w : Nat) (v : Option Word) : (k.holdLow win w v).mem = k.mem := (rfl)

@[simp] theorem Core.putEntry_mem (k : Core) (win w hi : Nat) : (k.putEntry win w hi).mem = k.mem := by
  unfold Core.putEntry; split <;> simp

@[simp] theorem rtWrite_mem (k : Core) (w v : Nat) : (rtWrite k w v).1.mem = k.mem := by
  simp [rtWrite, apply_ite Core.mem, apply_ite Prod.fst]

@[simp] theorem circWrite_mem (k : Core) (w v : Nat) : (circWrite k w v).1.mem = k.mem := by
  unfold circWrite
  split
  · simp
  · split <;> simp

@[simp] theorem escWrite_mem (k : Core) (w v : Nat) : (escWrite k w v).1.mem = k.mem := by
  unfold escWrite; split <;> simp

@[simp] theorem Core.routerCmd_mem (k : Core) (cmd : Nat) : (k.routerCmd cmd).1.mem = k.mem := by
  unfold Core.routerCmd; split <;> simp

@[simp] theorem Core.frtWrite_mem (k : Core) (a v : Nat) : (k.frtWrite a v).1.mem = k.mem := by
  simp [Core.frtWrite, apply_ite Core.mem, apply_ite Prod.fst]

@[simp] theorem Core.linkTrainedEv_mem (k : Core) (n skew : Nat) : (k.linkTrainedEv n skew).mem = k.mem := by
  unfold Core.linkTrainedEv; dsimp only; split <;> simp

@[simp] theorem Core.linkTimeoutEv_mem (k : Core) (n : Nat) : (k.linkTimeoutEv n).mem = k.mem := by
  simp [Core.linkTimeoutEv, apply_ite Core.mem]

@[simp] theorem Core.ackTimeoutEv_mem (k : Core) (n : Nat) : (k.ackTimeoutEv n).mem = k.mem := by
  unfold Core.ackTimeoutEv
  split
  · rfl
  · split <;> simp

@[simp] theorem Core.escTimeoutEv_mem (k : Core) (n vc : Nat) : (k.escTimeoutEv n vc).mem = k.mem := by
  unfold Core.escTimeoutEv
  split
  · dsimp only
    split <;> simp
  · dsimp only
    split <;> simp

@[simp] theorem State.bootFcmd_mem (s : State) (cmd : Nat) : (s.bootFcmd cmd).1.core.mem = s.core.mem := by
  unfold State.bootFcmd; split <;> simp

@[simp] theorem State.bootSt_mem (r : State × Nat) : (State.bootSt r).core.mem = r.1.core.mem := rfl

/-! ### Machine/Net.lean -/

@[simp] theorem Core.setFctx_mem (k : Core) (f off v : Nat) : (k.setFctx f off v).mem = k.mem := by simp [Core.setFctx]

@[simp] theorem Core.setGrp_mem (k : Core) (g : Nat) (x : LGroup) : (k.setGrp g x).mem = k.mem := (rfl)

@[simp] theorem Core.setKslot_mem (k : Core) (i : Nat) (x : KeySlot) : (k.setKslot i x).mem = k.mem := (rfl)

@[simp] theorem Core.gccSend_mem (k : Core) (g : Nat) (m : List Byte) : (k.gccSend g m).mem = k.mem := by
  simp [Core.gccSend]

@[simp] theorem Core.gccTo_mem (k : Core) (s : Nat) (m : List Byte) : (k.gccTo s m).mem = k.mem := by
  unfold Core.gccTo; split <;> simp

@[simp] theorem Core.sendCtl_mem (k : Core) (dst flow : Nat) (payload : List Byte) :
    (k.sendCtl dst flow payload).mem = k.mem := by simp [Core.sendCtl]

@[simp] theorem Core.sendCmpl_mem (k : Core) (op status flow cmpl base missing dst : Nat) :
    (k.sendCmpl op status flow cmpl base missing dst).mem = k.mem := by simp [Core.sendCmpl]

@[simp] theorem Core.stampSite_mem (k : Core) (s f : Nat) : (k.stampSite s f).1.mem = k.mem := by
  unfold Core.stampSite; dsimp only; split <;> simp

@[simp] theorem Core.itemGone_mem (k : Core) (v : Nat) : (k.itemGone v).mem = k.mem := (rfl)

@[simp] theorem Core.setReqQ_mem (k : Core) (q : Nat) (l : List Req) : (k.setReqQ q l).mem = k.mem := (rfl)

@[simp] theorem Core.fillReqQ_mem (k : Core) (q : Nat) (l : List Req) : (k.fillReqQ q l).mem = k.mem := by
  simp [Core.fillReqQ]

@[simp] theorem Core.pushReq_mem (k : Core) (q : Nat) (r : Req) : (k.pushReq q r).mem = k.mem := by
  unfold Core.pushReq; dsimp only; split <;> simp

@[simp] theorem Core.encrypt_mem (k : Core) (s f : Nat) (slot : Option Nat) (typ inv : Nat) (place : List Byte)
    (use : ReqUse) (src : Nat)
    (data : List Byte) : (k.encrypt s f slot typ inv place use src data).mem = k.mem := by
  have hstamp := k.stampSite_mem s f
  unfold Core.encrypt
  split
  all_goals rename_i heq; rw [heq] at hstamp
  · exact hstamp
  · simpa using hstamp

@[simp] theorem Core.ackSettle_mem (k : Core) (i : Nat) : (k.ackSettle i).mem = k.mem := by simp [Core.ackSettle]

/-! ### Machine/Ctx.lean -/

@[simp] theorem Core.setCc_mem (k : Core) (x off v : Nat) : (k.setCc x off v).mem = k.mem := by simp [Core.setCc]

@[simp] theorem Core.setCf_mem (k : Core) (x off hi lo v : Nat) : (k.setCf x off hi lo v).mem = k.mem := by
  simp [Core.setCf]

@[simp] theorem Core.setRun_mem (k : Core) (x : Nat) (f : CtxRun → CtxRun) : (k.setRun x f).mem = k.mem := (rfl)

@[simp] theorem Core.lateRef_mem (k : Core) (x s slot : Nat) : (k.lateRef x s slot).mem = k.mem := by simp [Core.lateRef]

@[simp] theorem Core.updChunk_mem (k : Core) (x c : Nat) (f : Chunk → Chunk) : (k.updChunk x c f).mem = k.mem := (rfl)

@[simp] theorem Core.addChunk_mem (k : Core) (h : Chunk) : (k.addChunk h).mem = k.mem := (rfl)

@[simp] theorem Core.dropChunk_mem (k : Core) (x c : Nat) : (k.dropChunk x c).mem = k.mem := (rfl)

@[simp] theorem Core.setRank_mem (k : Core) (d : Nat) (r : Rank) : (k.setRank d r).mem = k.mem := (rfl)

@[simp] theorem Core.rkSet_mem (k : Core) (d hi lo v : Nat) : (k.rkSet d hi lo v).mem = k.mem := by simp [Core.rkSet]

@[simp] theorem rankWrite_mem (k : Core) (w v : Nat) : (rankWrite k w v).1.mem = k.mem := by
  unfold rankWrite
  split
  · split
    · dsimp only
      split
      · simp
      · split <;> simp
    · dsimp only
      split <;> simp
  · split
    · simp
    · dsimp only
      split <;> simp

@[simp] theorem Core.setBank_mem (k : Core) (cls b : Nat) (x : Bank) : (k.setBank cls b x).mem = k.mem := (rfl)

@[simp] theorem Core.dropSeg_mem (k : Core) (f : XSeg → Bool) : (k.dropSeg f).mem = k.mem := by simp [Core.dropSeg]

@[simp] theorem Core.segDone_mem (k : Core) (id idx : Nat) (d : List Byte) (psn : Bool) :
    (k.segDone id idx d psn).mem = k.mem := (rfl)

@[simp] theorem Core.newSeg_mem (k : Core) (flow : Nat) (use : XUse) (n : Nat) : (k.newSeg flow use n).1.mem = k.mem := by
  simp [Core.newSeg]

@[simp] theorem Core.skimStart_mem (k : Core) (flow : Nat) (use : XUse) (d : List Byte) :
    (k.skimStart flow use d).mem = k.mem := by simp [Core.skimStart]

@[simp] theorem Core.expStart_mem (k : Core) (flow : Nat) (use : XUse) (blocks : List (List Byte × Bool)) :
    (k.expStart flow use blocks).mem = k.mem := by simp [Core.expStart]

@[simp] theorem Core.pressStart_mem (k : Core) (flow : Nat) (use : XUse) (jobs : List (List Byte)) :
    (k.pressStart flow use jobs).mem = k.mem := by simp [Core.pressStart]

@[simp] theorem Core.skimOne_mem (k : Core) (flow : Nat) (d : List Byte) : (k.skimOne flow d).1.mem = k.mem := by
  unfold Core.skimOne
  dsimp only
  split
  · simp
  · split <;> simp

@[simp] theorem Core.poisonBytes_mem (k : Core) (n : Nat) : (k.poisonBytes n).1.mem = k.mem := by simp [Core.poisonBytes]

@[simp] theorem Core.expandOne_mem (k : Core) (e flow : Nat) (b : List Byte) : (k.expandOne e flow b).1.mem = k.mem := by
  unfold Core.expandOne
  split
  · simp
  · simp
  · dsimp only
    split
    · simp
    · split <;> simp
  · simp

@[simp] theorem Core.nonfinite_mem (k : Core) (flow chunk cause : Nat) : (k.nonfinite flow chunk cause).mem = k.mem := by
  simp [Core.nonfinite]

@[simp] theorem Core.quantAll_mem (k : Core) (flow chunk fmt : Nat) (v : List Elem) :
    (k.quantAll flow chunk fmt v).1.mem = k.mem := by simp [Core.quantAll, apply_ite Core.mem]

@[simp] theorem Core.msgEncrypt_mem (k : Core) (flow base size cmpl src : Nat) (line : List Byte) :
    (k.msgEncrypt flow base size cmpl src line).mem = k.mem := by simp [Core.msgEncrypt]

@[simp] theorem Core.msgSend_mem (k : Core) (flow base size cmpl src : Nat) :
    (k.msgSend flow base size cmpl src).mem = k.mem := by
  unfold Core.msgSend
  split
  · simp
  · split <;> simp

@[simp] theorem Core.wheyRead_mem (k : Core) (flow c n : Nat) : (k.wheyRead flow c n).1.mem = k.mem := by
  unfold Core.wheyRead
  split
  · simp
  · dsimp only
    split <;> simp

@[simp] theorem Core.wheyBlock_mem (k : Core) (flow c : Nat) (v wn : List Elem) :
    (k.wheyBlock flow c v wn).1.mem = k.mem := by
  unfold Core.wheyBlock
  split
  · simp
  · split <;> simp

/-! ### Machine/Flows.lean -/

@[simp] theorem Core.setCr_mem (k : Core) (id w v : Nat) : (k.setCr id w v).mem = k.mem := by simp [Core.setCr]

@[simp] theorem Core.setCrf_mem (k : Core) (id w hi lo v : Nat) : (k.setCrf id w hi lo v).mem = k.mem := by
  simp [Core.setCrf]

@[simp] theorem Core.setMap_mem (k : Core) (id m : Nat) : (k.setMap id m).mem = k.mem := by simp [Core.setMap]

@[simp] theorem Core.fInc_mem (k : Core) (f off hi lo n : Nat) : (k.fInc f off hi lo n).mem = k.mem := by simp [Core.fInc]

@[simp] theorem Core.recTimerOff_mem (k : Core) (id : Nat) : (k.recTimerOff id).mem = k.mem := (rfl)

@[simp] theorem Core.openRec_mem (k : Core) (id : Nat) (send : Bool) (flow base size peer buf : Nat) :
    (k.openRec id send flow base size peer buf).mem = k.mem := by
  cases send <;> simp [Core.openRec, Core.mem_recTimer]

@[simp] theorem Core.flowStart_mem (f : Nat) (k : Core) : (Core.flowStart f k).mem = k.mem := by simp [Core.flowStart]

@[simp] theorem Core.flowChk_mem (f : Nat) (k : Core) : (Core.flowChk f k).mem = k.mem := by
  unfold Core.flowChk; split <;> simp

@[simp] theorem Core.recFail_mem (k : Core) (id st : Nat) : (k.recFail id st).mem = k.mem := by
  unfold Core.recFail; split <;> split <;> simp

@[simp] theorem Core.closeRec_mem (k : Core) (id st : Nat) : (k.closeRec id st).mem = k.mem := by simp [Core.closeRec]

@[simp] theorem Core.admitChunk_mem (k : Core) (x c : Nat) (raw : List Byte) (psn : List Bool) (buf : Option Nat) :
    (k.admitChunk x c raw psn buf).mem = k.mem := by
  unfold Core.admitChunk
  dsimp only
  split
  · split <;> split <;> simp
  · split <;> simp
  · split <;> simp
  · split <;> simp

@[simp] theorem Core.notify_mem (k : Core) (id st : Nat) : (k.notify id st).mem = k.mem := by
  unfold Core.notify; dsimp only
  (repeat' split) <;> simp

@[simp] theorem Core.recvDone_mem (k : Core) (id st : Nat) : (k.recvDone id st).mem = k.mem := by
  simp [Core.recvDone, apply_ite Core.mem]

@[simp] theorem Core.ackUpdate_mem (k : Core) (f fin : Nat) : (k.ackUpdate f fin).mem = k.mem := by simp [Core.ackUpdate]

@[simp] theorem Core.sendDone_mem (k : Core) (id st : Nat) : (k.sendDone id st).mem = k.mem := by
  simp [Core.sendDone, apply_ite Core.mem]

@[simp] theorem Core.recDone_mem (k : Core) (id st : Nat) : (k.recDone id st).mem = k.mem := by
  unfold Core.recDone; split <;> simp

@[simp] theorem Core.flowFault_mem (k : Core) (f st recSt : Nat) : (k.flowFault f st recSt).mem = k.mem := by
  unfold Core.flowFault; split <;> simp

@[simp] theorem Core.flowCmd_mem (k : Core) (cmd f : Nat) : (k.flowCmd cmd f).1.mem = k.mem := by
  unfold Core.flowCmd
  split
  · split <;> simp
  · simp
  · simp

@[simp] theorem Core.flowDrainEv_mem (k : Core) (f : Nat) : (k.flowDrainEv f).mem = k.mem := by
  unfold Core.flowDrainEv; split <;> simp

@[simp] theorem fctxWrite_mem (k : Core) (w v : Nat) : (fctxWrite k w v).1.mem = k.mem := by
  unfold fctxWrite
  split
  · split <;> simp
  · simp

@[simp] theorem Core.openCheck_mem (k : Core) (id : Nat) : (k.openCheck id).1.mem = k.mem := by
  unfold Core.openCheck
  split
  · simp
  · dsimp only
    split
    · simp
    · split
      · simp
      · split <;> simp
    · simp

@[simp] theorem crWrite_mem (k : Core) (w v : Nat) : (crWrite k w v).1.mem = k.mem := by
  simp [crWrite, apply_ite Core.mem, apply_ite Prod.fst]

@[simp] theorem Core.refuse_mem (k : Core) (reason cntReg flow cmpl seq : Nat) :
    (k.refuse reason cntReg flow cmpl seq).mem = k.mem := by simp [Core.refuse]

@[simp] theorem Core.refusePkt_mem (k : Core) (h : BitVec 256) (reason cntReg : Nat) :
    (k.refusePkt h reason cntReg).mem = k.mem := by simp [Core.refusePkt]

@[simp] theorem Core.nackEv_mem (k : Core) (id : Nat) : (k.nackEv id).mem = k.mem := by
  unfold Core.nackEv
  split
  · dsimp only; split <;> simp [Core.mem_recTimer]
  · rfl

@[simp] theorem Core.sendPkt_mem (k : Core) (id i : Nat) : (k.sendPkt id i).mem = k.mem := by simp [Core.sendPkt]

@[simp] theorem Core.sendFirst_mem (k : Core) (id i : Nat) : (k.sendFirst id i).mem = k.mem := by simp [Core.sendFirst]

@[simp] theorem Core.resend_mem (k : Core) (id mask : Nat) : (k.resend id mask).mem = k.mem := by
  simp [Core.resend, Core.mem_recTimer]

@[simp] theorem Core.resendOrEnd_mem (k : Core) (id mask : Nat) : (k.resendOrEnd id mask).mem = k.mem := by
  unfold Core.resendOrEnd; split <;> simp

@[simp] theorem Core.resendEv_mem (k : Core) (id : Nat) : (k.resendEv id).mem = k.mem := by
  unfold Core.resendEv; split <;> simp

theorem Core.ctlHead_mem {k k' : Core} {p : Packet} {c : CtlKind} (h : k.ctlHead = some (p, c, k')) : k'.mem = k.mem := by
  unfold Core.ctlHead at h
  split at h
  · cases h
  · cases h; rfl

@[simp] theorem Core.ackIn_mem (k : Core) (id st : Nat) : (k.ackIn id st).mem = k.mem := by simp [Core.ackIn]

@[simp] theorem Core.nackIn_mem (k : Core) (id : Nat) (m : List Byte) : (k.nackIn id m).mem = k.mem := by simp [Core.nackIn]

@[simp] theorem Core.cmplAckEv_mem (k : Core) : k.cmplAckEv.mem = k.mem := by
  unfold Core.cmplAckEv
  split
  case h_1 h => simp [Core.ctlHead_mem h]
  case h_2 => rfl

@[simp] theorem Core.cmplNackEv_mem (k : Core) : k.cmplNackEv.mem = k.mem := by
  unfold Core.cmplNackEv
  split
  case h_1 h => simp [Core.ctlHead_mem h]
  case h_2 => rfl

@[simp] theorem Core.ctlBadEv_mem (k : Core) : k.ctlBadEv.mem = k.mem := by
  unfold Core.ctlBadEv
  split
  case h_1 h => simp [Core.ctlHead_mem h]
  case h_2 => rfl

@[simp] theorem Core.closeCmd_mem (k : Core) (cmd id : Nat) : (k.closeCmd cmd id).1.mem = k.mem := by
  simp [Core.closeCmd, apply_ite Core.mem, apply_ite Prod.fst]

@[simp] theorem Core.custodyEv_mem (k : Core) : k.custodyEv.mem = k.mem := by
  unfold Core.custodyEv
  split
  · rfl
  · dsimp only
    split
    · simp
    · split
      · rfl
      · simp [apply_ite Core.mem, Core.mem_recTimer]

@[simp] theorem Core.fcsWrite_mem (k : Core) (a v : Nat) : (k.fcsWrite a v).1.mem = k.mem := by
  simp [Core.fcsWrite, apply_ite Core.mem, apply_ite Prod.fst]

/-! ### Machine/Collective.lean -/

@[simp] theorem Core.setJw_mem (k : Core) (e w v : Nat) : (k.setJw e w v).mem = k.mem := by simp [Core.setJw]

@[simp] theorem Core.jwf_mem (k : Core) (e w hi lo v : Nat) : (k.jwf e w hi lo v).mem = k.mem := by simp [Core.jwf]

@[simp] theorem Core.setJobState_mem (k : Core) (e n : Nat) : (k.setJobState e n).mem = k.mem := by
  unfold Core.setJobState; dsimp only; split <;> simp

@[simp] theorem Core.clearJob_mem (k : Core) (e : Nat) : (k.clearJob e).mem = k.mem := by simp [Core.clearJob]

@[simp] theorem Core.ensureJob_mem (k : Core) (x : Nat) : (k.ensureJob x).mem = k.mem := by
  unfold Core.ensureJob
  dsimp only
  split
  · simp
  · split <;> simp

@[simp] theorem Core.ctxStart_mem (x : Nat) (k : Core) : (Core.ctxStart x k).mem = k.mem := by simp [Core.ctxStart]

@[simp] theorem Core.dropItem_mem (k : Core) (i : RxItem) : (k.dropItem i).mem = k.mem := by simp [Core.dropItem]

@[simp] theorem Core.freeChunk_mem (k : Core) (x c : Nat) : (k.freeChunk x c).mem = k.mem := by
  unfold Core.freeChunk
  split
  · simp
  · dsimp only
    split <;> simp

@[simp] theorem Core.closeCtxRecs_mem (k : Core) (x : Nat) : (k.closeCtxRecs x).mem = k.mem := by
  simp [Core.closeCtxRecs, apply_ite Core.mem]

@[simp] theorem Core.freeCtx_mem (k : Core) (x : Nat) : (k.freeCtx x).mem = k.mem := by simp [Core.freeCtx]

@[simp] theorem Core.ctxDrainChk_mem (x : Nat) (k : Core) : (Core.ctxDrainChk x k).mem = k.mem := by
  unfold Core.ctxDrainChk; split <;> simp

@[simp] theorem Core.chunkStatus_mem (k : Core) (x c st : Nat) : (k.chunkStatus x c st).mem = k.mem := by
  simp [Core.chunkStatus]

@[simp] theorem Core.lateSite_mem (k : Core) (row s : Nat) (v : Int) : (k.lateSite row s v).mem = k.mem := by
  simp [Core.lateSite]

@[simp] theorem Core.lateRecord_mem (k : Core) (x : Nat) (missing : List Nat) : (k.lateRecord x missing).mem = k.mem := by
  unfold Core.lateRecord; dsimp only
  (repeat' split) <;> simp [apply_ite Core.mem]

@[simp] theorem Core.refItem_mem (k : Core) (x : Nat) (i : RxItem) : (k.refItem x i).mem = k.mem := by
  unfold Core.refItem; split <;> simp

@[simp] theorem Core.rankStop_mem (k : Core) (d st : Nat) : (k.rankStop d st).mem = k.mem := by
  unfold Core.rankStop; dsimp only; split <;> simp

@[simp] theorem Core.rankBegin_mem (k : Core) (x : Nat) : (k.rankBegin x).mem = k.mem := by
  unfold Core.rankBegin; split <;> simp

@[simp] theorem Core.matchHeld_mem (k : Core) (x seq : Nat) : (k.matchHeld x seq).mem = k.mem := (rfl)

@[simp] theorem Core.firstStep_mem (k : Core) (x step : Nat) : (k.firstStep x step).mem = k.mem := by
  unfold Core.firstStep; dsimp only; split <;> simp

@[simp] theorem Core.setPhase_mem (k : Core) (x ph st : Nat) : (k.setPhase x ph st).mem = k.mem := by simp [Core.setPhase]

@[simp] theorem Core.enterRun_mem (k : Core) (x seq step predCtx predSeq elems : Nat) (due : Option Nat) :
    (k.enterRun x seq step predCtx predSeq elems due).mem = k.mem := by simp [Core.enterRun]

@[simp] theorem Core.unpark_mem (k : Core) (x : Nat) : (k.unpark x).mem = k.mem := (rfl)

@[simp] theorem Core.releaseParked_mem (n : Nat) (k : Core) : (Core.releaseParked n k).mem = k.mem := by
  induction n generalizing k with
  | zero => rfl
  | succ n ih =>
    unfold Core.releaseParked
    split
    · rfl
    · simp [ih]

@[simp] theorem Core.abortCtx_mem (k : Core) (st x : Nat) : (k.abortCtx st x).mem = k.mem := by
  unfold Core.abortCtx; split <;> simp

@[simp] theorem Core.abortJob_mem (k : Core) (job incarn st step seq chunk origin how : Nat) (sites : List Nat) :
    (k.abortJob job incarn st step seq chunk origin how sites).mem = k.mem := by simp [Core.abortJob, apply_ite Core.mem]

@[simp] theorem Core.abortHere_mem (k : Core) (x st step seq chunk : Nat) :
    (k.abortHere x st step seq chunk).mem = k.mem := by simp [Core.abortHere]

@[simp] theorem Core.abortIn_mem (k : Core) (m : List Byte) (how : Nat) (src : Nat) (from_ : Option Nat) :
    (k.abortIn m how src from_).mem = k.mem := by simp [Core.abortIn, apply_ite Core.mem]

@[simp] theorem Core.orderFail_mem (k : Core) (x step seq : Nat) : (k.orderFail x step seq).mem = k.mem := by
  simp [Core.orderFail]

@[simp] theorem Core.startGo_mem (k : Core) (x seq step predCtx predSeq : Nat) (due : Option Nat) :
    (k.startGo x seq step predCtx predSeq due).1.mem = k.mem := by
  unfold Core.startGo
  dsimp only
  split
  · simp
  · split <;> simp

@[simp] theorem Core.startCtx_mem (k : Core) (x seq step predCtx predSeq : Nat) (due : Option Nat) :
    (k.startCtx x seq step predCtx predSeq due).1.mem = k.mem := by
  unfold Core.startCtx
  split
  · simp
  · dsimp only
    split <;> simp

@[simp] theorem Core.startFactor_mem (k : Core) (d y : Nat) (m : List Nat) (seq predCtx predSeq : Nat) :
    (k.startFactor d y m seq predCtx predSeq).mem = k.mem := by
  unfold Core.startFactor; dsimp only; split <;> simp

@[simp] theorem Core.startP_mem (k : Core) (d : Nat) : (k.startP d).mem = k.mem := by simp [Core.startP]

@[simp] theorem Core.startQ_mem (k : Core) (d : Nat) : (k.startQ d).mem = k.mem := by simp [Core.startQ]

@[simp] theorem Core.rankTake_mem (k : Core) (x c : Nat) (d : List Byte) : (k.rankTake x c d).mem = k.mem := by
  unfold Core.rankTake
  split
  · simp
  · dsimp only
    split
    · simp
    · split <;> simp

@[simp] theorem Core.rankReleased_mem (k : Core) (x : Nat) : (k.rankReleased x).mem = k.mem := by
  unfold Core.rankReleased
  split
  · simp
  · dsimp only
    split <;> simp

@[simp] theorem Core.partDone_mem (k : Core) (x : Nat) : (k.partDone x).mem = k.mem := by simp [Core.partDone]

@[simp] theorem Core.chunkEnd_mem (k : Core) (x c st : Nat) (rel : Bool) : (k.chunkEnd x c st rel).mem = k.mem := by
  simp [Core.chunkEnd, apply_ite Core.mem]

@[simp] theorem Core.ctxDrain_mem (x : Nat) (k : Core) : (Core.ctxDrain x k).mem = k.mem := by simp [Core.ctxDrain]

@[simp] theorem Core.ctxClear_mem (x : Nat) (k : Core) : (Core.ctxClear x k).mem = k.mem := by simp [Core.ctxClear]

@[simp] theorem Core.unmatch_mem (k : Core) (x : Nat) : (k.unmatch x).mem = k.mem := (rfl)

@[simp] theorem Core.ctxDisable_mem (k : Core) (x : Nat) : (k.ctxDisable x).1.mem = k.mem := by
  unfold Core.ctxDisable; split <;> simp

@[simp] theorem Core.ctxCmd_mem (k : Core) (cmd x : Nat) : (k.ctxCmd cmd x).1.mem = k.mem := by
  unfold Core.ctxCmd; split <;> simp

@[simp] theorem Core.ctxDrainEv_mem (k : Core) (x : Nat) : (k.ctxDrainEv x).mem = k.mem := by
  unfold Core.ctxDrainEv; split <;> simp

@[simp] theorem Core.parkEv_mem (k : Core) (x : Nat) : (k.parkEv x).mem = k.mem := by
  unfold Core.parkEv
  split
  · rfl
  · split <;> simp

@[simp] theorem Core.abortEv_mem (k : Core) : k.abortEv.mem = k.mem := by
  unfold Core.abortEv
  split
  case h_1 h => simp [Core.ctlHead_mem h]
  case h_2 => dsimp only; split <;> simp

@[simp] theorem cctxWrite_mem (k : Core) (w v : Nat) : (cctxWrite k w v).1.mem = k.mem := by
  unfold cctxWrite
  split
  · simp
  · split <;> simp

@[simp] theorem Core.cleWrite_mem (k : Core) (a v : Nat) : (k.cleWrite a v).1.mem = k.mem := by
  simp [Core.cleWrite, apply_ite Core.mem, apply_ite Prod.fst]

/-! ### Machine/Reduce.lean -/

@[simp] theorem Core.grantOne_mem (k : Core) (x : Nat) : (k.grantOne x).1.mem = k.mem := by
  unfold Core.grantOne; dsimp only; split <;> simp

@[simp] theorem Core.grantRun_mem (n c0 : Nat) (k : Core) (x : Nat) : (Core.grantRun n c0 k x).mem = k.mem := by
  induction n generalizing k with
  | zero => rfl
  | succ n ih =>
    unfold Core.grantRun
    dsimp only
    split
    · split <;> simp [ih]
    · rfl

@[simp] theorem Core.grantEv_mem (k : Core) (x : Nat) : (k.grantEv x).mem = k.mem := by
  simp [Core.grantEv, apply_ite Core.mem]

@[simp] theorem Core.feedLine_mem (k : Core) (x c s : Nat) (line : List Byte) (psn : Nat → Nat → Bool) (sub : Bool) :
    (k.feedLine x c s line psn sub).1.mem = k.mem := by
  unfold Core.feedLine
  split
  · dsimp only
    split <;> simp
  · dsimp only
    split <;> simp

@[simp] theorem Core.sendContrib_mem (k : Core) (x c : Nat) (line : List Byte) (csum src : Nat) :
    (k.sendContrib x c line csum src).mem = k.mem := by simp [Core.sendContrib]

@[simp] theorem Core.sendResult_mem (k : Core) (x c : Nat) (d : List Byte) (src : Nat) :
    (k.sendResult x c d src).mem = k.mem := by simp [Core.sendResult]

@[simp] theorem Core.sendStatus_mem (k : Core) (x c st : Nat) : (k.sendStatus x c st).mem = k.mem := by
  unfold Core.sendStatus; split <;> simp

@[simp] theorem Core.pushPats_mem (k : Core) (q : Nat) (l : List (Nat × Nat × Nat)) : (k.pushPats q l).mem = k.mem := (rfl)

@[simp] theorem Core.makeReady_mem (k : Core) (x c : Nat) (part : Bool) : (k.makeReady x c part).mem = k.mem := by
  simp [Core.makeReady]

@[simp] theorem Core.tryReady_mem (k : Core) (x c : Nat) : (k.tryReady x c).mem = k.mem := by
  unfold Core.tryReady
  split
  · simp
  · split
    · dsimp only
      split <;> simp
    · simp

@[simp] theorem Core.itemReq_mem (k : Core) (op : Nat) (i : RxItem) (use : ReqUse) (dst : Nat) :
    (k.itemReq op i use dst).mem = k.mem := by simp [Core.itemReq]

@[simp] theorem Core.askItem_mem (k : Core) (id : Nat) : (k.askItem id).mem = k.mem := (rfl)

@[simp] theorem Core.countPoison_mem (k : Core) (e : List Elem) : (k.countPoison e).mem = k.mem := by
  simp [Core.countPoison]

@[simp] theorem Core.addSlot_mem (k : Core) (x c s : Nat) (e : List Elem) : (k.addSlot x c s e).mem = k.mem := by
  simp [Core.addSlot]

@[simp] theorem Core.addAgain_mem (k : Core) (x c s : Nat) (e : List Elem) : (k.addAgain x c s e).mem = k.mem := by
  simp [Core.addAgain]

@[simp] theorem Core.subSlot_mem (k : Core) (x c s : Nat) (e : List Elem) : (k.subSlot x c s e).mem = k.mem := by
  simp [Core.subSlot]

@[simp] theorem Core.setSlot_mem (k : Core) (x c s : Nat) (z : CSlot) : (k.setSlot x c s z).mem = k.mem := by
  simp [Core.setSlot]

@[simp] theorem Core.askSlot_mem (k : Core) (op x c s : Nat) (which : RxItem → Bool) :
    (k.askSlot op x c s which).mem = k.mem := by simp [Core.askSlot]

@[simp] theorem Core.patAgain_mem (k : Core) (x c p : Nat) : (k.patAgain x c p).mem = k.mem := by simp [Core.patAgain]

@[simp] theorem Core.slotFailed_mem (k : Core) (x c s : Nat) : (k.slotFailed x c s).mem = k.mem := by simp [Core.slotFailed]

@[simp] theorem Core.mismatch_mem (k : Core) (x c diff : Nat) : (k.mismatch x c diff).mem = k.mem := by simp [Core.mismatch]

@[simp] theorem Core.slotSubtract_mem (k : Core) (x c s inv item : Nat) (d : List Byte) :
    (k.slotSubtract x c s inv item d).1.mem = k.mem := by simp [Core.slotSubtract, apply_ite Core.mem, apply_ite Prod.fst]

@[simp] theorem Core.slotDropped_mem (k : Core) (x c s : Nat) : (k.slotDropped x c s).mem = k.mem := by
  unfold Core.slotDropped; dsimp only; split <;> simp

@[simp] theorem Core.slotAgain_mem (k : Core) (x c s : Nat) : (k.slotAgain x c s).mem = k.mem := by
  unfold Core.slotAgain
  split
  · simp
  · split
    · dsimp only
      split <;> simp
    · dsimp only
      split <;> simp

@[simp] theorem Core.setQueue_mem (k : Core) (q : Nat) (l : List (Nat × Nat × Nat)) : (k.setQueue q l).mem = k.mem := (rfl)

@[simp] theorem Core.openResult_mem (k : Core) (x c size ptr : Nat) : (k.openResult x c size ptr).mem = k.mem := by
  simp [Core.openResult]

@[simp] theorem Core.sendPackets_mem (k : Core) (x c : Nat) : (k.sendPackets x c).mem = k.mem := by
  unfold Core.sendPackets
  split
  · rfl
  · simp [apply_ite Core.mem, Core.mem_recTimer]

@[simp] theorem Core.resultPlace_mem (k : Core) (x : Nat) (h : Chunk) : (k.resultPlace x h).1.mem = k.mem := by
  unfold Core.resultPlace
  split
  · simp
  · split
    · simp
    · dsimp only
      split <;> simp

@[simp] theorem Core.heldEv_mem (k : Core) : k.heldEv.mem = k.mem := by simp [Core.heldEv]

/-! ### Machine/Bank.lean -/

@[simp] theorem Core.genArrived_mem (k : Core) (cls t : Nat) (blocks : List (List Byte)) :
    (k.genArrived cls t blocks).mem = k.mem := by
  refine foldl_mem (fun k b => ?_) blocks k
  split
  · split <;> simp
  · rfl

@[simp] theorem Core.noteItem_mem (k : Core) (id t : Nat) : (k.noteItem id t).mem = k.mem := by
  unfold Core.noteItem
  split
  · simp
  · split
    · simp
    · split
      · dsimp only
        split <;> simp
      · dsimp only
        split
        · simp
        · split <;> simp

@[simp] theorem clsWrite_mem (k : Core) (w v : Nat) : (clsWrite k w v).1.mem = k.mem := by
  simp [clsWrite, apply_ite Core.mem, apply_ite Prod.fst]

@[simp] theorem Core.setEnc_mem (k : Core) (cls b : Nat) : (k.setEnc cls b).1.mem = k.mem := by
  unfold Core.setEnc; split <;> simp

@[simp] theorem Core.invalidate_mem (k : Core) (cls b : Nat) : (k.invalidate cls b).1.mem = k.mem := by
  unfold Core.invalidate; split <;> simp

@[simp] theorem Core.clsCmd_mem (k : Core) (cmd cls b : Nat) : (k.clsCmd cmd cls b).1.mem = k.mem := by
  unfold Core.clsCmd; split <;> simp

@[simp] theorem Core.genHoldEv_mem (k : Core) (cls b : Nat) : (k.genHoldEv cls b).mem = k.mem := by
  unfold Core.genHoldEv; dsimp only; split <;> simp

/-! ### Machine/Clock.lean -/

@[simp] theorem Core.estClear_mem (k : Core) (n : Nat) : (k.estClear n).mem = k.mem := by simp [Core.estClear]

@[simp] theorem Core.setTState_mem (k : Core) (n up : Nat) : (k.setTState n up).mem = k.mem := by
  simp [Core.setTState, apply_ite Core.mem]

@[simp] theorem Core.timeHold_mem (k : Core) : k.timeHold.mem = k.mem := by
  unfold Core.timeHold
  split
  · simp
  · split <;> simp

@[simp] theorem Core.timeGroupChk_mem (k : Core) : k.timeGroupChk.mem = k.mem := by
  unfold Core.timeGroupChk; split <;> simp

/-! ### Machine/Transform.lean -/

@[simp] theorem Core.pressRotate_mem (k : Core) (x c p : Nat) : (k.pressRotate x c p).mem = k.mem := by
  unfold Core.pressRotate
  split
  · simp
  · split <;> simp

@[simp] theorem Core.pressG_mem (k : Core) (d : Nat) (tr : Bool) (pos : Nat) (data : List Byte) :
    (k.pressG d tr pos data).mem = k.mem := by
  unfold Core.pressG; split <;> simp

@[simp] theorem Core.orthonormalize_mem (k : Core) (d : Nat) : (k.orthonormalize d).mem = k.mem := by
  unfold Core.orthonormalize; dsimp only; split <;> simp

@[simp] theorem Core.xfmWrite_mem (k : Core) (a v : Nat) : (k.xfmWrite a v).1.mem = k.mem := by
  unfold Core.xfmWrite; split <;> simp

/-! ### Machine/Group.lean -/

@[simp] theorem Core.setLp_mem (k : Core) (n : Nat) (x : LPort) : (k.setLp n x).mem = k.mem := (rfl)

@[simp] theorem Core.retrySend_mem (k : Core) (g : Nat) (r : RReq) : (k.retrySend g r).mem = k.mem := by
  simp [Core.retrySend]

@[simp] theorem Core.retryGone_mem (k : Core) (g id gseq reason : Nat) : (k.retryGone g id gseq reason).mem = k.mem := by
  simp [Core.retryGone]

@[simp] theorem Core.retrySegment_mem (k : Core) (g gseq pos cell : Nat) (key : List Byte) :
    (k.retrySegment g gseq pos cell key).mem = k.mem := by
  unfold Core.retrySegment; split <;> simp

@[simp] theorem Core.retryRows_mem (k : Core) (g gseq n mask : Nat) : (k.retryRows g gseq n mask).mem = k.mem := by
  unfold Core.retryRows; dsimp only; split <;> simp

@[simp] theorem Core.retryGiveUp_mem (k : Core) (g : Nat) (r : RReq) (why reason : Nat) :
    (k.retryGiveUp g r why reason).mem = k.mem := by simp [Core.retryGiveUp]

@[simp] theorem Core.setSchg_mem (k : Core) (g : Nat) (x : SchG) : (k.setSchg g x).mem = k.mem := (rfl)

@[simp] theorem Core.discardItem_mem (k : Core) (i : Item) : (k.discardItem i).mem = k.mem := by simp [Core.discardItem]

@[simp] theorem Core.schDiscard_mem (k : Core) (g : Nat) : (k.schDiscard g).mem = k.mem := by
  unfold Core.schDiscard
  extract_lets x n k₁ k₂ k₃ y vs k₄
  have h₁ : k₁.mem = k.mem := foldl_mem (fun k i => k.discardItem_mem i) _ k
  have h₂ : k₂.mem = k₁.mem := by unfold k₂; split <;> simp
  have h₄ : k₄.mem = k₃.mem := foldl_mem (fun k v => k.itemGone_mem v) _ k₃
  rw [Core.setGrp_mem, h₄, Core.setSchg_mem, h₂, h₁]

@[simp] theorem Core.groupFault_mem (k : Core) (g st : Nat) : (k.groupFault g st).mem = k.mem := by
  unfold Core.groupFault; split <;> simp

/-! ### Machine/Cipher.lean -/

@[simp] theorem Core.audit_mem (k : Core) (slot owner op st keyId flow : Nat) :
    (k.audit slot owner op st keyId flow).mem = k.mem := by simp [Core.audit]

@[simp] theorem Core.keyMsg_mem (k : Core) (typ i keyId pos : Nat) : (k.keyMsg typ i keyId pos).mem = k.mem := by
  simp [Core.keyMsg]

@[simp] theorem Core.slotWait_mem (k : Core) (slot pos : Nat) (op : SlotOp) : (k.slotWait slot pos op).mem = k.mem := (rfl)

@[simp] theorem Core.switchNow_mem (k : Core) (i pos : Nat) (tt : Bool) : (k.switchNow i pos tt).1.mem = k.mem := by
  simp [Core.switchNow, apply_ite Core.mem, apply_ite Prod.fst]

@[simp] theorem Core.keySwitch_mem (k : Core) (i pos : Nat) (tt : Bool) : (k.keySwitch i pos tt).1.mem = k.mem := by
  unfold Core.keySwitch
  split
  · simp
  · dsimp only
    split <;> simp

@[simp] theorem Core.retirePos_mem (k : Core) (i pos : Nat) (cmd : Bool) : (k.retirePos i pos cmd).mem = k.mem := by
  simp [Core.retirePos]

@[simp] theorem Core.retireNow_mem (k : Core) (i pos : Nat) : (k.retireNow i pos).1.mem = k.mem := by
  unfold Core.retireNow
  dsimp only
  split
  · simp
  · split <;> simp

@[simp] theorem Core.keyRetire_mem (k : Core) (i pos : Nat) : (k.keyRetire i pos).1.mem = k.mem := by
  unfold Core.keyRetire
  split
  · simp
  · dsimp only
    split <;> simp

@[simp] theorem Core.heldNow_mem (k : Core) (i pos : Nat) : (k.heldNow i pos).mem = k.mem := by
  unfold Core.heldNow; dsimp only; split <;> simp

@[simp] theorem Core.heldRetireEv_mem (k : Core) (i pos : Nat) : (k.heldRetireEv i pos).mem = k.mem := by
  unfold Core.heldRetireEv
  split
  · simp
  · split <;> simp

@[simp] theorem Core.epochArrived_mem (k : Core) (i ep : Nat) : (k.epochArrived i ep).mem = k.mem := by
  unfold Core.epochArrived; dsimp only; split <;> simp

@[simp] theorem Core.lastErr_mem (k : Core) (r : Req) (st : Nat) : (k.lastErr r st).mem = k.mem := by simp [Core.lastErr]

@[simp] theorem Core.setDels_mem (k : Core) (key : Nat × Nat × Nat × Nat) (n : Nat) : (k.setDels key n).mem = k.mem := (rfl)

@[simp] theorem Core.againItem_mem (k : Core) (up : Bool) (id : Nat) : (k.againItem up id).mem = k.mem := by
  unfold Core.againItem
  split
  · simp
  · split <;> simp

@[simp] theorem Core.tagSeen_mem (k : Core) (r : Req) : (k.tagSeen r).mem = k.mem := by
  unfold Core.tagSeen; dsimp only; split <;> simp

@[simp] theorem Core.tagCount_mem (k : Core) (r : Req) : (k.tagCount r).1.mem = k.mem := by
  unfold Core.tagCount; dsimp only; split <;> simp

@[simp] theorem Core.contribAgain_mem (k : Core) (x c s : Nat) : (k.contribAgain x c s).mem = k.mem := by
  simp [Core.contribAgain]

@[simp] theorem Core.contribFailed_mem (k : Core) (x c s : Nat) : (k.contribFailed x c s).mem = k.mem := by
  unfold Core.contribFailed
  split
  · simp
  · split <;> simp

@[simp] theorem Core.contribGiven_mem (k : Core) (x c s : Nat) : (k.contribGiven x c s).mem = k.mem := by
  simp [Core.contribGiven]

@[simp] theorem Core.tagFailed_mem (k : Core) (r : Req) : (k.tagFailed r).mem = k.mem := by
  unfold Core.tagFailed
  split
  · dsimp only
    split
    · simp
    · split <;> simp
  · split
    · dsimp only
      split <;> simp
    · simp

@[simp] theorem Core.provCut_mem (k : Core) (r : Req) : (k.provCut r).mem = k.mem := by
  unfold Core.provCut
  split
  · dsimp only
    split
    · simp
    · split <;> simp
  · simp

@[simp] theorem Core.useKey_mem (k : Core) (i : Nat) : (k.useKey i).mem = k.mem := by
  unfold Core.useKey; dsimp only; split <;> simp

@[simp] theorem Core.handItem_mem (k : Core) (x : Run) : (k.handItem x).mem = k.mem := by simp [Core.handItem]

@[simp] theorem Core.endRuns_mem (k : Core) (which : Req → Bool) : (k.endRuns which).1.mem = k.mem := by
  unfold Core.endRuns
  rw [foldl_fst_mem]
  rintro a cn
  split
  · split
    · dsimp only
      split
      · simp
      · split <;> simp
    · rfl
  · rfl

@[simp] theorem Core.cancelLoad_mem (k : Core) : k.cancelLoad.mem = k.mem := by
  unfold Core.cancelLoad; split <;> simp

@[simp] theorem Core.faultUsers_mem (k : Core) (i : Nat) : (k.faultUsers i).mem = k.mem := by simp [Core.faultUsers]

@[simp] theorem Core.zeroizeSlot_mem (k : Core) (i : Nat) : (k.zeroizeSlot i).mem = k.mem := by simp [Core.zeroizeSlot]

@[simp] theorem Core.zeroizeAll_mem (k : Core) : k.zeroizeAll.mem = k.mem := by simp [Core.zeroizeAll]

theorem State.takeSeq_mem {s t : State} {n : Nat} (h : s.takeSeq = some (t, n)) : t.core.mem = s.core.mem := by
  unfold State.takeSeq at h
  dsimp only at h
  split at h
  · cases h; rfl
  · split at h
    · cases h
    · cases h; rfl

@[simp] theorem State.loadKey_mem (s : State) (i pos : Nat) (blob : List Byte) :
    (s.loadKey i pos blob).1.core.mem = s.core.mem := by
  unfold State.loadKey
  dsimp only
  split
  case h_1 ht => simp [State.takeSeq_mem ht, apply_ite Core.mem]
  case h_2 => simp [apply_ite Core.mem]

@[simp] theorem State.loadEnd_mem (s : State) : s.loadEnd.core.mem = s.core.mem := by
  unfold State.loadEnd; split <;> simp

@[simp] theorem State.loadDone_mem (s : State) : s.loadDone.core.mem = s.core.mem := by
  unfold State.loadDone
  split
  · rfl
  · split
    · rfl
    · split <;> simp

@[simp] theorem State.slotWrite_mem (s : State) (w : SlotWrite) : (s.slotWrite w).core.mem = s.core.mem := by
  unfold State.slotWrite
  split
  · simp
  · split <;> simp
  · simp
  · simp

@[simp] theorem State.keySettle_mem (s : State) : s.keySettle.core.mem = s.core.mem := by
  simp [State.keySettle, apply_ite Core.mem, apply_ite State.core]

theorem Core.gccHead_mem {k k' : Core} {g : Nat} {l : List Nat} {m : List Byte} (h : k.gccHead g l = some (m, k')) :
    k'.mem = k.mem := by
  unfold Core.gccHead at h
  split at h
  · cases h
  · split at h
    · cases h; simp
    · cases h

@[simp] theorem Core.rekeyReady_mem (k : Core) (m : List Byte) : (k.rekeyReady m).mem = k.mem := by
  unfold Core.rekeyReady
  dsimp only
  split
  · exact k.cnt_mem _
  · exact foldl_mem (fun k i => k.setKslot_mem i _) _ k

@[simp] theorem Core.rekeyRetired_mem (k : Core) (m : List Byte) : (k.rekeyRetired m).mem = k.mem := by
  unfold Core.rekeyRetired
  dsimp only
  split
  · exact k.cnt_mem _
  · exact foldl_mem (fun k i => k.setKslot_mem i _) _ k

@[simp] theorem Core.rekeyEv_mem (k : Core) (g typ : Nat) : (k.rekeyEv g typ).mem = k.mem := by
  unfold Core.rekeyEv
  split
  case h_1 => rfl
  case h_2 h => split <;> simp [Core.gccHead_mem h]

@[simp] theorem Core.keyCmd_mem (k : Core) (cmd slot pos : Nat) : (k.keyCmd cmd slot pos).1.mem = k.mem := by
  unfold Core.keyCmd
  split
  · split <;> simp
  · simp
  · simp
  · simp
  · simp

@[simp] theorem blobWrite_mem (k : Core) (w v : Nat) : (blobWrite k w v).1.mem = k.mem := by simp [blobWrite]

@[simp] theorem Core.cipWrite_mem (k : Core) (a v : Nat) : (k.cipWrite a v).1.mem = k.mem := by
  unfold Core.cipWrite
  split
  · simp
  · split
    · split <;> simp
    · simp

/-! ### Machine/Sched.lean -/

@[simp] theorem Core.setCredit_mem (k : Core) (n : Nat) (c : Int) : (k.setCredit n c).mem = k.mem := (rfl)

@[simp] theorem Core.schStart_mem (k : Core) (g : Nat) : (k.schStart g).mem = k.mem := by
  unfold Core.schStart
  dsimp only
  rw [Core.setSchg_mem]
  exact foldl_mem (fun k q => by split <;> simp) _ k

@[simp] theorem Core.gateEvent_mem (k : Core) (g b bad tt base : Nat) : (k.gateEvent g b bad tt base).mem = k.mem := by
  simp [Core.gateEvent]

@[simp] theorem Core.gclArm_mem (k : Core) (g b : Nat) : (k.gclArm g b).1.mem = k.mem := by
  simp [Core.gclArm, apply_ite Core.mem]

@[simp] theorem Core.gclDisarm_mem (k : Core) (g b : Nat) : (k.gclDisarm g b).1.mem = k.mem := by
  unfold Core.gclDisarm; dsimp only; split <;> simp

@[simp] theorem Core.gateEv_mem (k : Core) (g : Nat) : (k.gateEv g).mem = k.mem := by
  unfold Core.gateEv
  dsimp only
  split
  · simp
  · split <;> simp

@[simp] theorem Core.gateTt_mem (k : Core) (g b t : Nat) : (k.gateTt g b t).1.mem = k.mem := by
  simp [Core.gateTt, apply_ite Core.mem, apply_ite Prod.fst]

@[simp] theorem Core.stampHead_mem (k : Core) (g q slot : Nat) : (k.stampHead g q slot).mem = k.mem := by
  unfold Core.stampHead
  split
  · simp
  · split
    · simp
    · split <;> simp

@[simp] theorem Core.handEv_mem (k : Core) (g : Nat) : (k.handEv g).mem = k.mem := by
  unfold Core.handEv
  split
  · simp
  · split
    · simp
    · split
      · dsimp only
        split <;> simp
      · dsimp only
        split <;> simp

@[simp] theorem Core.countNoFit_mem (k : Core) (g t kk : Nat) : (k.countNoFit g t kk).mem = k.mem := by
  refine foldl_mem (fun k q => ?_) _ k
  split
  · rfl
  · split <;> simp

@[simp] theorem Core.toFramer_mem (k : Core) (g : Nat) (p : Nat × Nat) (s : Seg) (bytes : Nat) (q : Option Nat) :
    (k.toFramer g p s bytes q).mem = k.mem := by simp [Core.toFramer]

@[simp] theorem Core.takeItem_mem (k : Core) (g q : Nat) (p : Nat × Nat) : (k.takeItem g q p).mem = k.mem := by
  unfold Core.takeItem
  split
  · simp
  · split
    · dsimp only
      split <;> simp
    · dsimp only
      split <;> simp

@[simp] theorem Core.resendOld_mem (k : Core) (g : Nat) : (k.resendOld g).mem = k.mem := by simp [Core.resendOld]

@[simp] theorem Core.selectEv_mem (k : Core) (g : Nat) : (k.selectEv g).mem = k.mem := by
  unfold Core.selectEv
  dsimp only
  split
  · simp
  · split <;> split <;> simp

@[simp] theorem Core.shapeQueue_mem (k : Core) (g q n t : Nat) : (k.shapeQueue g q n t).mem = k.mem := by
  unfold Core.shapeQueue
  split
  · simp
  · split <;> simp

@[simp] theorem Core.shapersTick_mem (k : Core) : k.shapersTick.mem = k.mem :=
  foldl_mem (fun k g => foldl_mem (fun k q => by split <;> simp) _ k) _ k

@[simp] theorem Core.binInc_mem (k : Core) (w : Nat) : (k.binInc w).mem = k.mem := by simp [Core.binInc]

@[simp] theorem Core.sampleQueue_mem (k : Core) (g q : Nat) : (k.sampleQueue g q).mem = k.mem := by
  unfold Core.sampleQueue; dsimp only; split <;> simp

@[simp] theorem Core.sampleEv_mem (k : Core) : k.sampleEv.mem = k.mem := by simp [Core.sampleEv, apply_ite Core.mem]

@[simp] theorem Core.hclear_mem (k : Core) (g : Nat) : (k.hclear g).mem = k.mem := by
  unfold Core.hclear; dsimp only; split <;> simp

@[simp] theorem Core.schCmd_mem (k : Core) (cmd g b : Nat) : (k.schCmd cmd g b).1.mem = k.mem := by
  unfold Core.schCmd; split <;> simp

@[simp] theorem Core.schWrite_mem (k : Core) (a v : Nat) : (k.schWrite a v).1.mem = k.mem := by
  unfold Core.schWrite; split <;> simp

@[simp] theorem qcfgWrite_mem (k : Core) (w v : Nat) : (qcfgWrite k w v).1.mem = k.mem := by
  unfold qcfgWrite; split <;> simp

@[simp] theorem shpWrite_mem (k : Core) (w v : Nat) : (shpWrite k w v).1.mem = k.mem := by
  simp [shpWrite, apply_ite Core.mem, apply_ite Prod.fst]

@[simp] theorem gclWrite_mem (k : Core) (w v : Nat) : (gclWrite k w v).1.mem = k.mem := by
  unfold gclWrite; dsimp only; split <;> simp

@[simp] theorem Core.qstClear_mem (k : Core) (w : Nat) : (k.qstClear w).mem = k.mem := by
  unfold Core.qstClear; split <;> simp

/-! ### Machine/Line.lean -/

@[simp] theorem Core.setOptic_mem (k : Core) (n : Nat) (x : Optic) : (k.setOptic n x).mem = k.mem := (rfl)

@[simp] theorem Core.portRefresh_mem (k : Core) (n : Nat) : (k.portRefresh n).mem = k.mem := by simp [Core.portRefresh]

@[simp] theorem Core.groupRefresh_mem (k : Core) (g : Nat) : (k.groupRefresh g).mem = k.mem := by simp [Core.groupRefresh]

@[simp] theorem Core.failRefresh_mem (k : Core) (g : Nat) : (k.failRefresh g).mem = k.mem := by simp [Core.failRefresh]

@[simp] theorem Core.trnEvent_mem (k : Core) (n act : Nat) : (k.trnEvent n act).mem = k.mem := by simp [Core.trnEvent]

@[simp] theorem Core.trnRefresh_mem (k : Core) (n : Nat) : (k.trnRefresh n).mem = k.mem := by
  unfold Core.trnRefresh
  dsimp only
  split
  · simp
  · split <;> simp

@[simp] theorem Core.trnSlip_mem (k : Core) (n drop : Nat) : (k.trnSlip n drop).mem = k.mem := by simp [Core.trnSlip]

@[simp] theorem Core.trnPush_mem (k : Core) (n : Nat) (f : List Byte) (er : Bool) : (k.trnPush n f er).mem = k.mem := by
  unfold Core.trnPush
  dsimp only
  split
  · simp
  · split <;> simp

@[simp] theorem Core.sourceRefresh_mem (k : Core) : k.sourceRefresh.mem = k.mem := by simp [Core.sourceRefresh]

@[simp] theorem Core.lineRefresh_mem (k : Core) : k.lineRefresh.mem = k.mem := by simp [Core.lineRefresh]

@[simp] theorem Core.lpStart_mem (n : Nat) (k : Core) : (Core.lpStart n k).mem = k.mem := by simp [Core.lpStart]

@[simp] theorem Core.lpStop_mem (n : Nat) (k : Core) : (Core.lpStop n k).mem = k.mem := by simp [Core.lpStop]

@[simp] theorem Core.lpDrain_mem (n : Nat) (k : Core) : (Core.lpDrain n k).mem = k.mem := by simp [Core.lpDrain]

@[simp] theorem Core.lpCmd_mem (k : Core) (n : Nat) (en : Bool) : (k.lpCmd n en).1.mem = k.mem := by
  simp [Core.lpCmd, apply_ite Core.mem, apply_ite Prod.fst]

@[simp] theorem Core.lpWrite_mem (k : Core) (n a v : Nat) : (k.lpWrite n a v).1.mem = k.mem := by
  simp [Core.lpWrite, apply_ite Core.mem, apply_ite Prod.fst]

@[simp] theorem Core.losRefresh_mem (k : Core) (n : Nat) : (k.losRefresh n).mem = k.mem := by
  unfold Core.losRefresh; dsimp only; split <;> simp

@[simp] theorem Core.laneEv_mem (k : Core) (n lane : Nat) (m : Option (List Byte)) : (k.laneEv n lane m).mem = k.mem := by
  unfold Core.laneEv; split <;> simp

@[simp] theorem Core.lpOnEv_mem (k : Core) (n : Nat) : (k.lpOnEv n).mem = k.mem := by
  unfold Core.lpOnEv; split <;> simp

@[simp] theorem Core.trainEv_mem (k : Core) (n : Nat) : (k.trainEv n).mem = k.mem := by
  unfold Core.trainEv
  dsimp only
  split
  · split <;> simp
  · simp

@[simp] theorem Core.rawEv_mem (k : Core) (n d : Nat) (set : Bool) : (k.rawEv n d set).mem = k.mem := by
  unfold Core.rawEv
  split
  · simp
  · split <;> split <;> simp

@[simp] theorem Core.windowEv_mem (k : Core) (n : Nat) : (k.windowEv n).mem = k.mem := by
  unfold Core.windowEv; dsimp only; split <;> simp

@[simp] theorem Core.defectEvent_mem (k : Core) (n d on dur : Nat) : (k.defectEvent n d on dur).mem = k.mem := by
  simp [Core.defectEvent]

@[simp] theorem Core.declareEv_mem (k : Core) (n d : Nat) (set : Bool) : (k.declareEv n d set).mem = k.mem := by
  simp [Core.declareEv, apply_ite Core.mem]

@[simp] theorem Core.declareGroup_mem (k : Core) (g i : Nat) (set : Bool) : (k.declareGroup g i set).mem = k.mem := by
  unfold Core.declareGroup; dsimp only; split <;> simp

@[simp] theorem Core.defectEv_mem (k : Core) (u d : Nat) (set : Bool) : (k.defectEv u d set).mem = k.mem := by
  unfold Core.defectEv; split <;> split <;> simp

@[simp] theorem Core.pmCount_mem (k : Core) (r : PmRegs) (e : Bool × Bool × Nat × Bool) : (k.pmCount r e).mem = k.mem := by
  unfold Core.pmCount
  split
  · simp
  · split <;> split <;> simp

@[simp] theorem Core.pmEv_mem (k : Core) (n : Nat) : (k.pmEv n).mem = k.mem := by
  unfold Core.pmEv
  dsimp only
  split
  · simp
  · split <;> split <;> simp

@[simp] theorem Core.streamIn_mem (k : Core) (n : Nat) (data : List Byte) (er : Nat → Nat → Bool) :
    (k.streamIn n data er).1.mem = k.mem := by simp [Core.streamIn, apply_ite Core.mem, apply_ite Prod.fst]

/-! ### Machine/LineGroup.lean -/

@[simp] theorem Core.budgetRefused_mem (k : Core) (g p d : Nat) : (k.budgetRefused g p d).mem = k.mem := by
  simp [Core.budgetRefused]

@[simp] theorem Core.place_mem (k : Core) (g p d : Nat) : (k.place g p d).1.mem = k.mem := by
  unfold Core.place
  split
  · simp
  · split <;> simp

@[simp] theorem Core.placeAll_mem (k : Core) (g : Nat) (ps : List Nat) : (k.placeAll g ps).1.mem = k.mem := by
  simp [Core.placeAll]

@[simp] theorem Core.setSkew_mem (k : Core) (g p : Nat) (bad : Bool) : (k.setSkew g p bad).mem = k.mem := by
  unfold Core.setSkew
  split
  · simp
  · split
    · dsimp only
      split <;> simp
    · dsimp only
      split <;> simp

@[simp] theorem Core.skewCheck_mem (k : Core) (g : Nat) : (k.skewCheck g).mem = k.mem := by
  simp [Core.skewCheck, apply_ite Core.mem, apply_ite Prod.fst]

@[simp] theorem Core.readyEv_mem (k : Core) (g p : Nat) : (k.readyEv g p).mem = k.mem := by
  simp [Core.readyEv, apply_ite Core.mem]

@[simp] theorem Core.unready_mem (k : Core) (g p : Nat) : (k.unready g p).mem = k.mem := by
  unfold Core.unready; dsimp only; split <;> simp

@[simp] theorem Core.groupStart_mem (g : Nat) (k : Core) : (Core.groupStart g k).mem = k.mem := by simp [Core.groupStart]

@[simp] theorem Core.groupClean_mem (k : Core) (g : Nat) : (k.groupClean g).mem = k.mem := by
  unfold Core.groupClean
  dsimp only
  split
  · split <;> simp
  · simp

@[simp] theorem Core.chosenEvent_mem (k : Core) (g c w init par : Nat) : (k.chosenEvent g c w init par).mem = k.mem := by
  simp [Core.chosenEvent]

@[simp] theorem Core.groupOnEv_mem (k : Core) (g : Nat) : (k.groupOnEv g).mem = k.mem := by
  unfold Core.groupOnEv
  dsimp only
  split
  · split
    · simp
    · split <;> split <;> simp
  · simp

@[simp] theorem Core.groupTimeEv_mem (k : Core) (g : Nat) : (k.groupTimeEv g).mem = k.mem := by
  unfold Core.groupTimeEv; dsimp only; split <;> simp

@[simp] theorem Core.groupDrainChk_mem (k : Core) (g : Nat) : (k.groupDrainChk g).mem = k.mem := by
  unfold Core.groupDrainChk; dsimp only; split <;> simp

@[simp] theorem Core.groupDrainEv_mem (k : Core) (g : Nat) : (k.groupDrainEv g).mem = k.mem := by
  unfold Core.groupDrainEv; dsimp only; split <;> simp

@[simp] theorem Core.groupCmd_mem (k : Core) (g : Nat) (en : Bool) : (k.groupCmd g en).1.mem = k.mem := by
  simp [Core.groupCmd, apply_ite Core.mem, apply_ite Prod.fst]

@[simp] theorem Core.memberEvent_mem (k : Core) (g tx old new seq : Nat) :
    (k.memberEvent g tx old new seq).mem = k.mem := by simp [Core.memberEvent]

@[simp] theorem Core.announce_mem (k : Core) (g next addT : Nat) : (k.announce g next addT).mem = k.mem := by
  simp [Core.announce]

@[simp] theorem Core.groupAdd_mem (k : Core) (g p : Nat) : (k.groupAdd g p).1.mem = k.mem := by
  simp [Core.groupAdd, apply_ite Core.mem, apply_ite Prod.fst]

@[simp] theorem Core.groupRemove_mem (k : Core) (g p : Nat) : (k.groupRemove g p).1.mem = k.mem := by
  simp [Core.groupRemove, apply_ite Core.mem, apply_ite Prod.fst]

@[simp] theorem Core.groupCancel_mem (k : Core) (g : Nat) : (k.groupCancel g).1.mem = k.mem := by
  unfold Core.groupCancel; split <;> simp

@[simp] theorem Core.memberCmd_mem (k : Core) (g cmd p : Nat) : (k.memberCmd g cmd p).1.mem = k.mem := by
  unfold Core.memberCmd; split <;> simp

@[simp] theorem Core.addEv_mem (k : Core) (g : Nat) : (k.addEv g).mem = k.mem := by
  unfold Core.addEv
  dsimp only
  split
  · split <;> simp
  · simp

@[simp] theorem Core.addTimeEv_mem (k : Core) (g : Nat) : (k.addTimeEv g).mem = k.mem := by
  unfold Core.addTimeEv
  dsimp only
  split
  · split <;> simp
  · simp

@[simp] theorem Core.spareEvent_mem (k : Core) (g fading spare st : Nat) :
    (k.spareEvent g fading spare st).mem = k.mem := by simp [Core.spareEvent]

@[simp] theorem Core.spareDone_mem (k : Core) (g : Nat) : (k.spareDone g).mem = k.mem := by
  unfold Core.spareDone
  dsimp only
  split
  · split <;> simp
  · simp

@[simp] theorem Core.applyChange_mem (k : Core) (g f : Nat) : (k.applyChange g f).mem = k.mem := by
  unfold Core.applyChange
  dsimp only
  split
  · split <;> simp
  · split
    · simp
    · split
      · simp
      · split <;> simp

@[simp] theorem Core.lateSent_mem (k : Core) (f : Nat) (s : Seg) : (k.lateSent f s).mem = k.mem := by
  unfold Core.lateSent
  split
  · split <;> simp
  · rfl

@[simp] theorem Core.keepCopy_mem (k : Core) (g f p cell : Nat) (s : Seg) : (k.keepCopy g f p cell s).mem = k.mem := by
  unfold Core.keepCopy; dsimp only; split <;> simp

@[simp] theorem Core.startSeg_mem (k : Core) (g f p cell : Nat) (s : Seg) (rest : List Seg) :
    (k.startSeg g f p cell s rest).mem = k.mem := by simp [Core.startSeg]

@[simp] theorem Core.moreSeg_mem (k : Core) (g f p n : Nat) : (k.moreSeg g f p n).mem = k.mem := by
  unfold Core.moreSeg
  dsimp only
  split
  · split <;> simp
  · simp

@[simp] theorem Core.packFrame_mem (g f p b n : Nat) (k : Core) (st : PackSt) :
    (Core.packFrame g f p b n k st).1.mem = k.mem := by
  induction n generalizing k st with
  | zero => rfl
  | succ n ih =>
    unfold Core.packFrame
    dsimp only
    split
    · rfl
    · split
      · simp [ih]
      · split
        · rfl
        · split
          · exact ih _ _
          · split <;> simp [ih]

@[simp] theorem Core.packRow_mem (k : Core) (g f : Nat) (ps : List Nat) : (k.packRow g f ps).1.mem = k.mem :=
  foldl_fst_mem (fun a z => by dsimp only; split <;> simp) _ (k, [])

@[simp] theorem Core.gccRow_mem (k : Core) (g : Nat) : (k.gccRow g).mem = k.mem := by
  unfold Core.gccRow
  dsimp only
  split
  · simp
  · split <;> simp

@[simp] theorem Core.buildRow_mem (k : Core) (g f : Nat) : (k.buildRow g f).mem = k.mem := by
  unfold Core.buildRow
  split
  · simp
  · dsimp only
    split <;> simp

@[simp] theorem Core.transitOut_mem (k : Core) (n m f bip : Nat) : (k.transitOut n m f bip).1.mem = k.mem := by
  unfold Core.transitOut
  dsimp only
  split
  · simp
  · split
    · split <;> split <;> simp
    · split <;> simp

@[simp] theorem Core.codeLanes_mem (k : Core) (n f : Nat) (s : List Byte) : (k.codeLanes n f s).mem = k.mem := by
  simp [Core.codeLanes]

@[simp] theorem Core.frameTxEv_mem (k : Core) (n : Nat) : (k.frameTxEv n).mem = k.mem := by
  unfold Core.frameTxEv
  dsimp only
  split
  · simp
  · split
    · split <;> split <;> simp
    · split
      · split <;> simp
      · split <;> split <;> split <;> simp

@[simp] theorem Core.timeAlarm_mem (k : Core) (cause : Nat) (on : Bool) (port : Option Nat) (ps : Int) :
    (k.timeAlarm cause on port ps).mem = k.mem := by
  unfold Core.timeAlarm
  split
  · simp
  · split <;> simp

@[simp] theorem Core.levelIn'_mem (k : Core) (n lvl : Nat) : (k.levelIn' n lvl).mem = k.mem := by
  simp [Core.levelIn', apply_ite Core.mem]

@[simp] theorem Core.roundDone_mem (k : Core) (n mf : Nat) : (k.roundDone n mf).mem = k.mem := by
  unfold Core.roundDone
  dsimp only
  split
  · split <;> simp
  · simp

@[simp] theorem Core.mfohIn_mem (k : Core) (n : Nat) (f : List Byte) : (k.mfohIn n f).mem = k.mem := by
  unfold Core.mfohIn
  split
  · simp
  · simp
  · simp
  · dsimp only
    split <;> simp
  · simp
  · simp

@[simp] theorem Core.gccIn_mem (k : Core) (g : Nat) (m : List Byte) : (k.gccIn g m).mem = k.mem := by
  unfold Core.gccIn
  split
  · simp
  · split <;> simp

@[simp] theorem Core.rowIn_mem (k : Core) (g p n : Nat) (f : List Byte) (er : Bool) : (k.rowIn g p n f er).mem = k.mem := by
  simp [Core.rowIn]

@[simp] theorem Core.frameIn_mem (k : Core) (n : Nat) (raw : List Byte) (er : Bool) : (k.frameIn n raw er).mem = k.mem := by
  simp [Core.frameIn, apply_ite Core.mem]

@[simp] theorem Core.codeword_mem (k : Core) (n : Nat) (c : CwErr) : (k.codeword n c).mem = k.mem := by
  unfold Core.codeword
  split
  · simp
  · split <;> simp

@[simp] theorem Core.readyRefresh_mem (k : Core) (n : Nat) : (k.readyRefresh n).mem = k.mem := by
  unfold Core.readyRefresh; dsimp only; split <;> simp

@[simp] theorem Core.frameRxEv_mem (k : Core) (n : Nat) (data : List Byte) (fec : List CwErr) :
    (k.frameRxEv n data fec).mem = k.mem := by
  unfold Core.frameRxEv
  split
  · simp
  · dsimp only
    split
    · simp
    · split
      · split <;> simp
      · simp

@[simp] theorem Core.segLost_mem (k : Core) (g gseq : Nat) : (k.segLost g gseq).mem = k.mem := by simp [Core.segLost]

@[simp] theorem Core.stageFull_mem (k : Core) (g hold : Nat) : (k.stageFull g hold).mem = k.mem := by simp [Core.stageFull]

@[simp] theorem Core.stageSeg_mem (k : Core) (g gseq pos cell ke : Nat) (h : List Byte) :
    (k.stageSeg g gseq pos cell ke h).1.mem = k.mem := by
  unfold Core.stageSeg
  dsimp only
  split
  · split <;> split <;> simp
  · split
    · simp
    · split <;> simp

@[simp] theorem Core.resendIn_mem (k : Core) (g : Nat) (h : List Byte) : (k.resendIn g h).mem = k.mem := by
  unfold Core.resendIn
  split
  · simp
  · dsimp only
    split <;> simp

@[simp] theorem Core.msgSeg_mem (k : Core) (g gseq pos cell : Nat) (h ct : List Byte) :
    (k.msgSeg g gseq pos cell h ct).mem = k.mem := by simp [Core.msgSeg, apply_ite Core.mem]

@[simp] theorem Core.dropPart_mem (k : Core) (g : Nat) : (k.dropPart g).mem = k.mem := by
  unfold Core.dropPart
  split
  · simp
  · dsimp only
    split <;> simp

@[simp] theorem Core.startPart_mem (k : Core) (g gseq pos cell ke : Nat) (bytes : List Byte) :
    (k.startPart g gseq pos cell ke bytes).1.mem = k.mem := by
  unfold Core.startPart
  dsimp only
  split
  · simp
  · split <;> simp

@[simp] theorem Core.rowLost_mem (k : Core) (g gseq er n : Nat) : (k.rowLost g gseq er n).mem = k.mem := by
  simp [Core.rowLost]

@[simp] theorem Core.gccHeadEv_mem (k : Core) (g : Nat) : (k.gccHeadEv g).mem = k.mem := by
  unfold Core.gccHeadEv; dsimp only; split <;> simp

@[simp] theorem Core.giveUp_mem (k : Core) (g : Nat) (r : RReq) (why reason : Nat) :
    (k.giveUp g r why reason).mem = k.mem := by simp [Core.giveUp]

@[simp] theorem Core.retryTimeEv_mem (k : Core) (g id : Nat) : (k.retryTimeEv g id).mem = k.mem := by
  unfold Core.retryTimeEv
  dsimp only
  split
  · simp
  · split
    · simp
    · split <;> simp

@[simp] theorem Core.serveReq_mem (k : Core) (g : Nat) (m : List Byte) (pick : RCopy → Bool) (cellReq : Bool) :
    (k.serveReq g m pick cellReq).mem = k.mem := by simp [Core.serveReq, apply_ite Core.mem]

@[simp] theorem Core.framesReqEv_mem (k : Core) (g : Nat) : (k.framesReqEv g).mem = k.mem := by
  unfold Core.framesReqEv
  split
  case h_1 => rfl
  case h_2 h => simp [Core.gccHead_mem h]

@[simp] theorem Core.segReqEv_mem (k : Core) (g : Nat) : (k.segReqEv g).mem = k.mem := by
  unfold Core.segReqEv
  split
  case h_1 => rfl
  case h_2 h => simp [Core.gccHead_mem h]

@[simp] theorem Core.goneEv_mem (k : Core) (g : Nat) : (k.goneEv g).mem = k.mem := by
  unfold Core.goneEv
  split
  case h_1 => rfl
  case h_2 h => dsimp only; split <;> simp [Core.gccHead_mem h]

@[simp] theorem Core.copyEv_mem (k : Core) (g : Nat) : (k.copyEv g).mem = k.mem := by simp [Core.copyEv]

@[simp] theorem Core.rerequestEv_mem (k : Core) : k.rerequestEv.mem = k.mem := by
  unfold Core.rerequestEv
  split
  · simp
  · split
    · simp
    · dsimp only
      split <;> simp

@[simp] theorem Core.groupWrite_mem (k : Core) (g a v : Nat) : (k.groupWrite g a v).1.mem = k.mem := by
  simp [Core.groupWrite, apply_ite Core.mem, apply_ite Prod.fst]

@[simp] theorem Core.trnWrite_mem (k : Core) (n v : Nat) : (k.trnWrite n v).1.mem = k.mem := by
  unfold Core.trnWrite
  dsimp only
  split
  · simp
  · split <;> simp

@[simp] theorem Core.lcdGroupWrite_mem (k : Core) (g a v : Nat) : (k.lcdGroupWrite g a v).1.mem = k.mem := by
  unfold Core.lcdGroupWrite
  split
  · simp
  · dsimp only
    split <;> simp

@[simp] theorem Core.retryWrite_mem (k : Core) (v : Nat) : (k.retryWrite v).1.mem = k.mem := by
  unfold Core.retryWrite; split <;> simp

/-! ### Machine/Optics.lean -/

@[simp] theorem Core.moduleEvent_mem (k : Core) (n old st : Nat) : (k.moduleEvent n old st).mem = k.mem := by
  simp [Core.moduleEvent]

@[simp] theorem Core.setModLos_mem (k : Core) (n : Nat) (b : Bool) : (k.setModLos n b).mem = k.mem := by
  simp [Core.setModLos]

@[simp] theorem Core.noAck_mem (k : Core) (n : Nat) : (k.noAck n).mem = k.mem := by
  unfold Core.noAck
  dsimp only
  split
  · simp
  · split <;> simp

@[simp] theorem Core.moduleIntEv_mem (k : Core) (n : Nat) (acked rxLos : Bool) :
    (k.moduleIntEv n acked rxLos).mem = k.mem := by simp [Core.moduleIntEv, apply_ite Core.mem]

@[simp] theorem Core.modulePollEv_mem (k : Core) (n : Nat) (answers : Bool) : (k.modulePollEv n answers).mem = k.mem := by
  simp [Core.modulePollEv, apply_ite Core.mem]

@[simp] theorem Core.bringupEv_mem (k : Core) (n : Nat) (r : BringUp) : (k.bringupEv n r).mem = k.mem := by
  unfold Core.bringupEv; dsimp only; split <;> simp

@[simp] theorem Core.spareAct_mem (k : Core) (g : Nat) : (k.spareAct g).mem = k.mem := by
  unfold Core.spareAct; dsimp only
  (repeat' split) <;> simp

@[simp] theorem Core.spareRetryEv_mem (k : Core) (g : Nat) : (k.spareRetryEv g).mem = k.mem := by
  unfold Core.spareRetryEv; dsimp only; split <;> simp

@[simp] theorem Core.baseSample_mem (k : Core) (n b p : Nat) : (k.baseSample n b p).mem = k.mem := by
  unfold Core.baseSample
  dsimp only
  split
  · simp
  · split <;> simp

@[simp] theorem Core.fadeEv_mem (k : Core) (n : Nat) (r : OptRead) : (k.fadeEv n r).mem = k.mem := by
  simp [Core.fadeEv, apply_ite Core.mem]

@[simp] theorem Core.marginSendEv_mem (k : Core) (g : Nat) : (k.marginSendEv g).mem = k.mem := by
  unfold Core.marginSendEv
  split
  · dsimp only
    split <;> simp
  · dsimp only
    split <;> simp
  · simp

@[simp] theorem Core.marginRxEv_mem (k : Core) (g : Nat) : (k.marginRxEv g).mem = k.mem := by
  unfold Core.marginRxEv
  split
  case h_1 => rfl
  case h_2 h => split <;> simp [Core.gccHead_mem h]

@[simp] theorem Core.scorePort_mem (k : Core) (n : Nat) : (k.scorePort n).mem = k.mem := by simp [Core.scorePort]

@[simp] theorem Core.learnPeers_mem (k : Core) : k.learnPeers.mem = k.mem := by simp [Core.learnPeers, apply_ite Core.mem]

@[simp] theorem Core.causeEvent_mem (k : Core) (g on : Nat) : (k.causeEvent g on).mem = k.mem := by simp [Core.causeEvent]

@[simp] theorem Core.commonCause_mem (k : Core) (g : Nat) : (k.commonCause g).mem = k.mem := by
  simp [Core.commonCause, apply_ite Core.mem]

@[simp] theorem Core.chargeExp_mem (k : Core) (g : Nat) : (k.chargeExp g).mem = k.mem := (rfl)

@[simp] theorem Core.duePort_mem (k : Core) (g n : Nat) : (k.duePort g n).mem = k.mem := by
  unfold Core.duePort
  dsimp only
  split
  · simp
  · split <;> simp

@[simp] theorem Core.dueGroup_mem (k : Core) (g : Nat) : (k.dueGroup g).mem = k.mem := by
  refine foldl_mem (fun k p => ?_) _ k
  split
  · split <;> simp
  · rfl

@[simp] theorem Core.duePeer_mem (k : Core) (p : Peer) : (k.duePeer p).mem = k.mem := by
  unfold Core.duePeer
  dsimp only
  split
  · rw [Core.emit_mem, Core.cnt_mem]
    exact foldl_mem (fun k g => k.chargeExp_mem g) _ k
  · rfl

@[simp] theorem Core.healthEv_mem (k : Core) : k.healthEv.mem = k.mem := by
  unfold Core.healthEv; dsimp only; split <;> simp

@[simp] theorem Core.laserEvent_mem (k : Core) (on cause : Nat) : (k.laserEvent on cause).mem = k.mem := by
  simp [Core.laserEvent]

@[simp] theorem Core.hopEvent_mem (k : Core) (n entry refused g p st t : Nat) :
    (k.hopEvent n entry refused g p st t).mem = k.mem := by simp [Core.hopEvent]

@[simp] theorem Core.hopWithdraw_mem (k : Core) (n : Nat) : (k.hopWithdraw n).mem = k.mem := by
  simp [Core.hopWithdraw, apply_ite Core.mem]

@[simp] theorem Core.hopEnd_mem (k : Core) (n st t : Nat) : (k.hopEnd n st t).mem = k.mem := by
  unfold Core.hopEnd; split <;> simp

@[simp] theorem Core.hopDrop_mem (k : Core) (n : Nat) : (k.hopDrop n).mem = k.mem := by simp [Core.hopDrop]

@[simp] theorem Core.hopsDenied_mem (k : Core) : k.hopsDenied.mem = k.mem :=
  foldl_mem (fun k n => by split <;> simp) _ k

@[simp] theorem Core.lsafeSet_mem (k : Core) (cause : Nat) : (k.lsafeSet cause).mem = k.mem := by
  unfold Core.lsafeSet
  split
  · rfl
  · rw [Core.hopsDenied_mem, Core.laserEvent_mem]
    exact foldl_mem (fun k n => k.setOptic_mem n _) _ _

@[simp] theorem Core.lsafeRel_mem (k : Core) (cause : Nat) : (k.lsafeRel cause).mem = k.mem := by
  unfold Core.lsafeRel
  split
  · rfl
  · rw [Core.laserEvent_mem]
    exact foldl_mem (fun k n => k.setOptic_mem n _) _ _

@[simp] theorem Core.rebase_mem (k : Core) (n : Nat) : (k.rebase n).mem = k.mem := by simp [Core.rebase]

@[simp] theorem Core.clearExpel_mem (k : Core) (n : Nat) : (k.clearExpel n).mem = k.mem := by simp [Core.clearExpel]

@[simp] theorem Core.opcCmd_mem (k : Core) (cmd n : Nat) : (k.opcCmd cmd n).1.mem = k.mem := by
  unfold Core.opcCmd; split <;> simp

@[simp] theorem Core.maccWrite_mem (k : Core) (v : Nat) : (k.maccWrite v).1.mem = k.mem := by
  unfold Core.maccWrite
  split
  · simp
  · split <;> simp

@[simp] theorem Core.accDoneEv_mem (k : Core) (ack : Bool) (data : Nat) : (k.accDoneEv ack data).mem = k.mem := by
  unfold Core.accDoneEv
  split
  · simp
  · split <;> split <;> simp

@[simp] theorem Core.opcWrite_mem (k : Core) (a v : Nat) : (k.opcWrite a v).1.mem = k.mem := by
  simp [Core.opcWrite, apply_ite Core.mem, apply_ite Prod.fst]

@[simp] theorem hopWrite_mem (k : Core) (w v : Nat) : (hopWrite k w v).1.mem = k.mem := by
  unfold hopWrite; split <;> simp

/-! ### Machine/Hbc.lean -/

@[simp] theorem Core.setHbmSvc_mem (k : Core) (m : Nat) : (k.setHbmSvc m).mem = k.mem := by simp [Core.setHbmSvc]

@[simp] theorem Core.faultSlice_mem (k : Core) (j : Nat) : (k.faultSlice j).mem = k.mem := by simp [Core.faultSlice]

@[simp] theorem Core.loseCopies_mem (k : Core) (j : Nat) : (k.loseCopies j).mem = k.mem :=
  foldl_mem (fun k g => k.setGrp_mem g _) _ k

@[simp] theorem Core.retire_mem (k : Core) (s j cause : Nat) : (k.retire s j cause).mem = k.mem := by
  unfold Core.retire; split <;> simp

@[simp] theorem Core.memEvent_mem (k : Core) (src sram scrub a : Nat) : (k.memEvent src sram scrub a).mem = k.mem := by
  simp [Core.memEvent]

@[simp] theorem Core.killEntry_mem (k : Core) (win w : Nat) : (k.killEntry win w).mem = k.mem := by simp [Core.killEntry]

@[simp] theorem Core.sramRegion_mem (k : Core) (a : Nat) : (k.sramRegion a).mem = k.mem := by
  unfold Core.sramRegion; dsimp only
  (repeat' split) <;> simp

@[simp] theorem Core.hbmCe_mem (k : Core) (a bg bank row : Nat) : (k.hbmCe a bg bank row).mem = k.mem := by
  simp [Core.hbmCe]

@[simp] theorem Core.fifoParity_mem (k : Core) (sub : Nat) : (k.fifoParity sub).mem = k.mem := by simp [Core.fifoParity]

@[simp] theorem Core.scrubLate_mem (k : Core) (sram : Bool) : (k.scrubLate sram).mem = k.mem := by
  simp [Core.scrubLate, apply_ite Core.mem]

@[simp] theorem Core.clearPeriod_mem (k : Core) : k.clearPeriod.mem = k.mem := by simp [Core.clearPeriod]

@[simp] theorem Core.scrubMove_mem (k : Core) (sram : Bool) (a : Nat) : (k.scrubMove sram a).mem = k.mem := by
  unfold Core.scrubMove
  split
  · split <;> simp
  · dsimp only
    split <;> simp

@[simp] theorem Core.controllerEv_mem (k : Core) (s : Nat) : (k.controllerEv s).mem = k.mem := by
  unfold Core.controllerEv; split <;> simp

/-! ### Machine/Locus.lean -/

@[simp] theorem State.flushALim_mem (s : State) (l : Lim) : (s.flushALim l).core.mem = s.core.mem := by
  simp [State.flushALim]

@[simp] theorem State.emitALim_mem (s : State) (src code key iv lo w : Nat) (l : List (Nat × Nat × Nat)) :
    (s.emitALim src code key iv lo w l).core.mem = s.core.mem := by
  unfold State.emitALim
  split
  · simp
  · split
    · simp
    · split <;> simp

@[simp] theorem Core.moveQueues_mem (k : Core) : k.moveQueues.mem = k.mem := by
  refine foldl_mem (fun k q => ?_) _ k
  split
  · rfl
  · split
    · rfl
    · rw [foldl_mem (fun k p => k.updChunk_mem _ _ _)]
      simp

@[simp] theorem Core.requeueChurn_mem (k : Core) (churn : Nat) : (k.requeueChurn churn).mem = k.mem :=
  foldl_mem (fun k p => by simp) _ k

@[simp] theorem Core.requeueCore_mem (k : Core) (cn : Nat) : (k.requeueCore cn).mem = k.mem := by
  unfold Core.requeueCore
  split
  · simp
  · split <;> simp

@[simp] theorem Core.unitOut_mem (k : Core) (u : Nat) : (k.unitOut u).mem = k.mem := by
  unfold Core.unitOut; split <;> simp

@[simp] theorem Core.unitIn_mem (k : Core) (u : Nat) : (k.unitIn u).mem = k.mem := by
  unfold Core.unitIn; split <;> simp

@[simp] theorem State.quarEvent_mem (s : State) (u what bin cls : Nat) :
    (s.quarEvent u what bin cls).core.mem = s.core.mem := by simp [State.quarEvent]

@[simp] theorem State.putBack_mem (s : State) (u : Nat) : (s.putBack u).core.mem = s.core.mem := by
  unfold State.putBack; split <;> simp

/-! ### Machine/Sites.lean -/

@[simp] theorem Core.siteSwapEvent_mem (k : Core) (c refused auto site : Nat) :
    (k.siteSwapEvent c refused auto site).mem = k.mem := by simp [Core.siteSwapEvent]

@[simp] theorem Core.setSiteCur_mem (k : Core) (c auto site : Nat) : (k.setSiteCur c auto site).mem = k.mem := by
  simp [Core.setSiteCur]

@[simp] theorem Core.sepochWrite_mem (k : Core) (v : Nat) : (k.sepochWrite v).1.mem = k.mem := by
  unfold Core.sepochWrite
  dsimp only
  split
  · simp
  · split <;> simp

@[simp] theorem Core.sepochIdleEv_mem (k : Core) (v : Nat) : (k.sepochIdleEv v).mem = k.mem := by
  unfold Core.sepochIdleEv; dsimp only; split <;> simp

@[simp] theorem Core.sepochTt_mem (k : Core) (c : Nat) : (k.sepochTt c).1.mem = k.mem := by
  unfold Core.sepochTt
  dsimp only
  split
  · simp
  · split <;> simp

@[simp] theorem srtWrite_mem (k : Core) (w v : Nat) : (srtWrite k w v).1.mem = k.mem := by
  unfold srtWrite; dsimp only; split <;> simp

@[simp] theorem Core.autoEv_mem (k : Core) : k.autoEv.mem = k.mem := by
  unfold Core.autoEv
  dsimp only
  split
  · split <;> simp
  · simp

@[simp] theorem Core.partJob_mem (k : Core) (s e : Nat) : (k.partJob s e).mem = k.mem := by
  unfold Core.partJob
  dsimp only
  split
  · split <;> simp
  · simp

@[simp] theorem Core.partEvent_mem (k : Core) (s on : Nat) : (k.partEvent s on).mem = k.mem := by simp [Core.partEvent]

@[simp] theorem Core.sendLedgers_mem (k : Core) (e : Nat) : (k.sendLedgers e).mem = k.mem := by simp [Core.sendLedgers]

@[simp] theorem Core.startRecon_mem (k : Core) (e : Nat) : (k.startRecon e).mem = k.mem := by simp [Core.startRecon]

@[simp] theorem Core.tellDiverged_mem (k : Core) (e : Nat) : (k.tellDiverged e).mem = k.mem := by simp [Core.tellDiverged]

@[simp] theorem Core.endRecon_mem (k : Core) (e div : Nat) : (k.endRecon e div).mem = k.mem := by
  unfold Core.endRecon; split <;> simp

@[simp] theorem Core.reconChk_mem (k : Core) (e : Nat) : (k.reconChk e).mem = k.mem := by
  unfold Core.reconChk
  split
  · dsimp only
    split <;> simp
  · dsimp only
    split <;> simp

@[simp] theorem Core.ledgerIn_mem (k : Core) (g e s npart : Nat) : (k.ledgerIn g e s npart).mem = k.mem := by
  unfold Core.ledgerIn
  split
  · split <;> simp
  · dsimp only
    split <;> simp

@[simp] theorem Core.ledgerEv_mem (k : Core) (g : Nat) : (k.ledgerEv g).mem = k.mem := by
  unfold Core.ledgerEv
  split
  case h_1 => rfl
  case h_2 h => dsimp only; split <;> simp [Core.gccHead_mem h]

@[simp] theorem Core.ledgerResendEv_mem (k : Core) (e : Nat) : (k.ledgerResendEv e).mem = k.mem := by
  unfold Core.ledgerResendEv; split <;> simp

@[simp] theorem Core.ledgerTmoEv_mem (k : Core) (e : Nat) : (k.ledgerTmoEv e).mem = k.mem := by
  unfold Core.ledgerTmoEv
  split
  · dsimp only
    split <;> simp
  · dsimp only
    split <;> simp

@[simp] theorem Core.reconEv_mem (k : Core) (s : Nat) : (k.reconEv s).mem = k.mem := by
  unfold Core.reconEv; dsimp only; split <;> simp

@[simp] theorem jobWrite_mem (k : Core) (w v : Nat) : (jobWrite k w v).1.mem = k.mem := by
  simp [jobWrite, apply_ite Core.mem, apply_ite Prod.fst]

/-! ### Machine/Timetable.lean -/

@[simp] theorem Core.setSegRun_mem (k : Core) (g : Nat) (r : SegRun) : (k.setSegRun g r).mem = k.mem := (rfl)

@[simp] theorem Core.segStart_mem (g : Nat) (k : Core) : (Core.segStart g k).mem = k.mem := by simp [Core.segStart]

@[simp] theorem Core.segEnable_mem (k : Core) (g : Nat) : (k.segEnable g).1.mem = k.mem := by simp [Core.segEnable]

@[simp] theorem Core.shardTake_mem (k : Core) (b tt t : Nat) : (k.shardTake b tt t).mem = k.mem := by simp [Core.shardTake]

@[simp] theorem Core.segFired_mem (k : Core) (g e : Nat) : (k.segFired g e).mem = k.mem := by
  unfold Core.segFired; dsimp only; split <;> simp

@[simp] theorem Core.noteFire_mem (k : Core) (t : Nat) : (k.noteFire t).mem = k.mem := by
  unfold Core.noteFire; dsimp only; split <;> simp

@[simp] theorem Core.refuseEntry_mem (k : Core) (e typ st cycle t : Nat) :
    (k.refuseEntry e typ st cycle t).mem = k.mem := by simp [Core.refuseEntry]

@[simp] theorem Core.fireEv_mem (k : Core) (e typ : Nat) (act : Core → Nat → Nat → Nat → Core × Nat)
    (ha : ∀ k g t c, (act k g t c).1.mem = k.mem) : (k.fireEv e typ act).mem = k.mem := by
  unfold Core.fireEv
  split
  · rfl
  · dsimp only
    split
    · rfl
    · split
      · simp [ha]
      · split <;> simp [ha]

@[simp] theorem Core.slotclassTt_mem (k : Core) (g pat t : Nat) : (k.slotclassTt g pat t).1.mem = k.mem := by
  unfold Core.slotclassTt; split <;> simp

@[simp] theorem Core.epochTt_mem (k : Core) (c : Nat) : (k.epochTt c).1.mem = k.mem := by
  unfold Core.epochTt
  dsimp only
  split
  · simp
  · split <;> simp

@[simp] theorem Core.segEndEv_mem (k : Core) (g : Nat) : (k.segEndEv g).mem = k.mem := by
  unfold Core.segEndEv; dsimp only; split <;> split <;> simp

@[simp] theorem entWrite_mem (k : Core) (w v : Nat) : (entWrite k w v).1.mem = k.mem := by
  unfold entWrite; split <;> simp

@[simp] theorem segWrite_mem (k : Core) (w v : Nat) : (segWrite k w v).1.mem = k.mem := by
  unfold segWrite; split <;> simp

@[simp] theorem patWrite_mem (k : Core) (w v : Nat) : (patWrite k w v).1.mem = k.mem := by
  simp [patWrite, apply_ite Core.mem, apply_ite Prod.fst]

@[simp] theorem shdWrite_mem (k : Core) (w v : Nat) : (shdWrite k w v).1.mem = k.mem := by
  unfold shdWrite; split <;> simp

@[simp] theorem Core.hopAnnounce_mem (k : Core) (n i g0 : Nat) : (k.hopAnnounce n i g0).mem = k.mem := by
  unfold Core.hopAnnounce; dsimp only; split <;> split <;> simp

@[simp] theorem Core.hopRefuse_mem (k : Core) (e n i st cycle t : Nat) : (k.hopRefuse e n i st cycle t).mem = k.mem := by
  simp [Core.hopRefuse]

@[simp] theorem Core.hopNoticeEv_mem (k : Core) (e : Nat) : (k.hopNoticeEv e).mem = k.mem := by
  unfold Core.hopNoticeEv
  split
  · simp
  · split
    · simp
    · dsimp only
      split
      · simp
      · split <;> simp

@[simp] theorem Core.hopReadEv_mem (k : Core) (n idx : Nat) : (k.hopReadEv n idx).mem = k.mem := by
  unfold Core.hopReadEv
  dsimp only
  split
  · simp
  · split
    · simp
    · split
      · simp
      · split <;> simp

@[simp] theorem Core.hopBegin_mem (k : Core) (n : Nat) : (k.hopBegin n).mem = k.mem := by
  unfold Core.hopBegin; dsimp only; split <;> simp

@[simp] theorem Core.hopTtEv_mem (k : Core) (e : Nat) : (k.hopTtEv e).mem = k.mem := by
  unfold Core.hopTtEv
  split
  · simp
  · split
    · simp
    · dsimp only
      split
      · simp
      · split
        · simp
        · split
          · simp
          · split <;> simp

@[simp] theorem Core.hopGuardEv_mem (k : Core) (n : Nat) : (k.hopGuardEv n).mem = k.mem := by
  unfold Core.hopGuardEv
  dsimp only
  split
  · simp
  · split <;> split <;> simp

@[simp] theorem Core.hopFallEv_mem (k : Core) (n : Nat) : (k.hopFallEv n).mem = k.mem := by
  unfold Core.hopFallEv
  dsimp only
  split
  · simp
  · split <;> simp

@[simp] theorem Core.hopWindowEv_mem (k : Core) (n : Nat) : (k.hopWindowEv n).mem = k.mem := by
  unfold Core.hopWindowEv; dsimp only; split <;> simp

@[simp] theorem Core.hopsDrop_mem (k : Core) (g : Nat) : (k.hopsDrop g).mem = k.mem := by
  simp [Core.hopsDrop, apply_ite Core.mem]

@[simp] theorem Core.segDisable_mem (k : Core) (g : Nat) : (k.segDisable g).1.mem = k.mem := by
  unfold Core.segDisable; split <;> simp

@[simp] theorem Core.ttxCmd_mem (k : Core) (cmd bank g : Nat) : (k.ttxCmd cmd bank g).1.mem = k.mem := by
  unfold Core.ttxCmd; split <;> simp

@[simp] theorem Core.ttxWrite_mem (k : Core) (a v : Nat) : (k.ttxWrite a v).1.mem = k.mem := by
  unfold Core.ttxWrite
  split
  · simp
  · split <;> simp

/-! ### Machine/Start.lean -/

@[simp] theorem State.setPst_mem (s : State) (p : PState) (n : Nat) : (s.setPst p n).core.mem = s.core.mem := by
  unfold State.setPst; dsimp only; split <;> simp

@[simp] theorem State.setBoot_mem (s : State) (b : Boot) : (s.setBoot b).core.mem = s.core.mem := by simp [State.setBoot]

@[simp] theorem State.setPwr_mem (s : State) (p : Pwr) : (s.setPwr p).core.mem = s.core.mem := by simp [State.setPwr]

@[simp] theorem State.journal_mem (s : State) (step mark status arg : Nat) :
    (s.journal step mark status arg).core.mem = s.core.mem := by simp [State.journal]

@[simp] theorem Core.holdFn_mem (k : Core) (c : Nat) : (k.holdFn c).mem = k.mem := by simp [Core.holdFn, apply_ite Core.mem]

@[simp] theorem State.enterStep_mem (s : State) (n : Nat) : (s.enterStep n).core.mem = s.core.mem := by
  simp [State.enterStep, apply_ite Core.mem, apply_ite State.core]

@[simp] theorem State.resumeStep_mem (s : State) : s.resumeStep.core.mem = s.core.mem := by
  unfold State.resumeStep
  dsimp only
  split
  · split <;> simp
  · simp

@[simp] theorem Core.afterReset_mem (k : Core) : k.afterReset.mem = {} := Core.wr_mem _ _ _

@[simp] theorem State.cutWrites_mem (s : State) : s.cutWrites.core.mem = s.core.mem := by simp [State.cutWrites]

@[simp] theorem State.powerDownEnd_mem (s : State) : s.powerDownEnd.core.mem = s.core.mem := by
  unfold State.powerDownEnd
  split
  · simp
  · split
    · simp
    · dsimp only
      split
      · simp
      · split <;> simp

/-! ### Machine/Mop.lean -/

@[simp] theorem State.mopEnd_mem (s : State) (op : Nat) (forced : Bool) : (s.mopEnd op forced).core.mem = s.core.mem := by
  simp [State.mopEnd]

@[simp] theorem Core.cutAccess_mem (k : Core) : k.cutAccess.mem = k.mem := by
  unfold Core.cutAccess; split <;> simp

@[simp] theorem State.mopLaser_mem (s : State) (cause : Nat) (forced : Bool) :
    (s.mopLaser cause forced).core.mem = s.core.mem := by simp [State.mopLaser]

@[simp] theorem State.putResult_mem (s : State) (w : Nat) (l : List Nat) : (s.putResult w l).core.mem = s.core.mem := by
  simp [State.putResult]

@[simp] theorem State.mopPower_mem (s : State) : s.mopPower.core.mem = s.core.mem := by
  unfold State.mopPower
  rw [State.mopEnd_mem, State.putResult_mem]

@[simp] theorem State.mopEvents_mem (s : State) : s.mopEvents.core.mem = s.core.mem := by
  unfold State.mopEvents
  rw [State.mopEnd_mem, State.putResult_mem]

@[simp] theorem State.mopJournal_mem (s : State) : s.mopJournal.core.mem = s.core.mem := by simp [State.mopJournal]

@[simp] theorem State.mopRefuse_mem (s : State) (st : Nat) : (s.mopRefuse st).core.mem = s.core.mem := by
  simp [State.mopRefuse]

@[simp] theorem State.mopArm_mem (s : State) (op : Nat) : (s.mopArm op).core.mem = s.core.mem := by simp [State.mopArm]

@[simp] theorem State.debugEvent_mem (s : State) (byLock : Bool) : (s.debugEvent byLock).core.mem = s.core.mem := by
  simp [State.debugEvent]

@[simp] theorem State.debugLock_mem (s : State) : s.debugLock.core.mem = s.core.mem := by simp [State.debugLock]

/-! ### Machine/Otp.lean -/

@[simp] theorem State.otpCmd_mem (s : State) (cmd : Nat) : (s.otpCmd cmd).1.core.mem = s.core.mem := by simp [State.otpCmd]

@[simp] theorem State.newKek_mem (s : State) (k : BitVec 256) : (s.newKek k).core.mem = s.core.mem := by
  unfold State.newKek; dsimp only; split <;> simp

@[simp] theorem State.otpApply_mem (s : State) (cmd : Nat) (d : List Nat) : (s.otpApply cmd d).core.mem = s.core.mem := by
  unfold State.otpApply
  split
  · simp
  · simp
  · simp
  · dsimp only
    split <;> simp
  · simp
  · simp
  · simp

/-! ### Machine/Nvm.lean -/

@[simp] theorem State.nvmCmd_mem (s : State) (cmd slot page : Nat) : (s.nvmCmd cmd slot page).1.core.mem = s.core.mem := by
  unfold State.nvmCmd
  split
  · dsimp only
    split <;> simp
  · dsimp only
    split <;> simp

@[simp] theorem State.bootWrote_mem (r : State × Nat) : (State.bootWrote r).core.mem = r.1.core.mem := rfl

/-! ### Machine/Power.lean -/

@[simp] theorem State.quEnd_mem (s : State) : s.quEnd.core.mem = s.core.mem := by
  unfold State.quEnd
  dsimp only
  split
  · simp
  · split <;> simp

@[simp] theorem State.thermalEvent_mem (s : State) (n t on : Nat) : (s.thermalEvent n t on).core.mem = s.core.mem := by
  simp [State.thermalEvent]

@[simp] theorem State.stepEvent_mem (s : State) (n on : Nat) : (s.stepEvent n on).core.mem = s.core.mem := by
  simp [State.stepEvent]

@[simp] theorem State.stepLeave_mem (s : State) : s.stepLeave.core.mem = s.core.mem := by
  unfold State.stepLeave; split <;> simp

@[simp] theorem State.tripAgain_mem (s : State) : s.tripAgain.core.mem = s.core.mem := by
  unfold State.tripAgain; dsimp only; split <;> simp

@[simp] theorem State.tripRelease_mem (s : State) : s.tripRelease.core.mem = s.core.mem := by
  unfold State.tripRelease; dsimp only; split <;> simp

@[simp] theorem State.stepStep_mem (s : State) : s.stepStep.core.mem = s.core.mem := by
  unfold State.stepStep
  dsimp only
  split
  · simp
  · split <;> simp

@[simp] theorem State.monitors_mem (s : State) : s.monitors.core.mem = s.core.mem := by simp [State.monitors]

@[simp] theorem State.stepEnd_mem (s : State) : s.stepEnd.core.mem = s.core.mem := by
  unfold State.stepEnd
  split
  · rfl
  · split <;> simp

@[simp] theorem State.clockEvent_mem (s : State) : s.clockEvent.core.mem = s.core.mem := by simp [State.clockEvent]

@[simp] theorem Core.seqReset_mem (k : Core) (i : Nat) : (k.seqReset i).mem = k.mem := (rfl)

@[simp] theorem Core.routerFresh_mem (k : Core) : k.routerFresh.mem = k.mem := (rfl)

@[simp] theorem State.pwrSt_mem (r : State × Nat) : (State.pwrSt r).core.mem = r.1.core.mem := rfl

/-! ### Machine/Telemetry.lean -/

@[simp] theorem Core.tlmFlag_mem (k : Core) : k.tlmFlag.mem = k.mem := by simp [Core.tlmFlag]

@[simp] theorem Core.tlmDrop_mem (k : Core) (typ : Nat) (alert : Bool) : (k.tlmDrop typ alert).mem = k.mem := by
  unfold Core.tlmDrop; split <;> simp

@[simp] theorem Core.tlmPush_mem (k : Core) (typ : Nat) (body : List Byte) : (k.tlmPush typ body).mem = k.mem := by
  simp [Core.tlmPush, apply_ite Core.mem]

@[simp] theorem Core.datagram_mem (k : Core) : k.datagram.mem = k.mem := by
  unfold Core.datagram
  dsimp only
  split
  · simp
  · split <;> simp

@[simp] theorem Core.tlmRx_mem (k : Core) (f : TlmFrame) : (k.tlmRx f).mem = k.mem := by
  unfold Core.tlmRx
  split
  · simp
  · split <;> simp
  · simp

@[simp] theorem Core.tlmLink_mem (k : Core) (up : Bool) : (k.tlmLink up).mem = k.mem := (rfl)

@[simp] theorem Core.tlmOptics_mem (k : Core) (n : Nat) : (k.tlmOptics n).mem = k.mem := by
  unfold Core.tlmOptics; split <;> simp

@[simp] theorem Core.tlmWrite_mem (k : Core) (a v : Nat) : (k.tlmWrite a v).1.mem = k.mem := by
  simp [Core.tlmWrite, apply_ite Core.mem, apply_ite Prod.fst]

@[simp] theorem Core.logWrite_mem (k : Core) (e : Event) : (k.logWrite e).mem = k.mem := by simp [Core.logWrite]

@[simp] theorem Core.logged_mem (k : Core) (e : Event) : (k.logged e).mem = k.mem := by
  simp [Core.logged, apply_ite Core.mem]

@[simp] theorem Core.logLost_mem (k : Core) : k.logLost.mem = k.mem := by
  unfold Core.logLost; split <;> simp

@[simp] theorem State.logNext_mem (s : State) : s.logNext.core.mem = s.core.mem := by
  unfold State.logNext
  split
  · simp
  · split <;> simp

@[simp] theorem State.logStart_mem (s : State) : s.logStart.core.mem = s.core.mem := by simp [State.logStart]

@[simp] theorem sevWrite_mem (k : Core) (w v : Nat) : (sevWrite k w v).1.mem = k.mem := by
  unfold sevWrite; split <;> simp

@[simp] theorem Core.asterRequest_mem (k : Core) (t : Nat) (mgmt : Bool) : (k.asterRequest t mgmt).1.mem = k.mem := by
  unfold Core.asterRequest
  split
  · simp
  · split
    · split <;> simp
    · simp

@[simp] theorem Core.asterCmd_mem (k : Core) (cmd : Nat) : (k.asterCmd cmd).1.mem = k.mem := by
  unfold Core.asterCmd
  split
  · simp
  · split <;> simp
  · simp

@[simp] theorem State.asterLatch_mem (s : State) : s.asterLatch.core.mem = s.core.mem := by
  unfold State.asterLatch
  dsimp only
  split
  · simp
  · split <;> simp

@[simp] theorem State.asterDone_mem (s : State) : s.asterDone.core.mem = s.core.mem := by
  unfold State.asterDone; split <;> simp

@[simp] theorem State.stewardRestart_mem (s : State) (sub : Nat) : (s.stewardRestart sub).core.mem = s.core.mem := by
  unfold State.stewardRestart
  split
  · simp
  · split <;> simp

@[simp] theorem State.rateEmit_mem (s : State) (code src key : Nat) : (s.rateEmit code src key).core.mem = s.core.mem := by
  unfold State.rateEmit
  split
  · simp
  · split <;> simp

/-! ### Machine/Time.lean -/

@[simp] theorem Core.stepTime_mem (k : Core) (v : Int) : (k.stepTime v).mem = k.mem := (rfl)

@[simp] theorem Core.steer_mem (k : Core) (v : Int) (iv : Nat) : (k.steer v iv).mem = k.mem := (rfl)

@[simp] theorem Core.follow_mem (k : Core) (v : Int) (port : Option Nat) (iv : Nat) : (k.follow v port iv).mem = k.mem := by
  simp [Core.follow, apply_ite Core.mem]

@[simp] theorem Core.acquire_mem (k : Core) (line : Bool) : (k.acquire line).mem = k.mem := by
  unfold Core.acquire; split <;> simp

@[simp] theorem Core.refSample_mem (k : Core) (v : Int) (iv : Nat) : (k.refSample v iv).mem = k.mem := by
  simp [Core.refSample, apply_ite Core.mem]

@[simp] theorem Core.lineOffset_mem (k : Core) (v : Int) (n : Nat) : (k.lineOffset v n).mem = k.mem := by
  simp [Core.lineOffset, apply_ite Core.mem]

@[simp] theorem Core.syncUse_mem (k : Core) : k.syncUse.mem = k.mem := by
  unfold Core.syncUse; dsimp only; split <;> simp

@[simp] theorem Core.ptpSelect_mem (k : Core) : k.ptpSelect.mem = k.mem := by
  unfold Core.ptpSelect; dsimp only; split <;> simp

@[simp] theorem Core.ptpIn_mem (k : Core) (m : PtpMsg) : (k.ptpIn m).mem = k.mem := by
  unfold Core.ptpIn
  split
  · simp
  · split
    · dsimp only
      split <;> simp
    · dsimp only
      split <;> simp
  · dsimp only
    split <;> simp
  · simp
  · dsimp only
    split <;> simp

@[simp] theorem Core.ppsEdge_mem (k : Core) : k.ppsEdge.mem = k.mem := by
  unfold Core.ppsEdge
  split
  · simp
  · dsimp only
    split <;> simp

@[simp] theorem Core.ppsOutEv_mem (k : Core) : k.ppsOutEv.mem = k.mem := by
  unfold Core.ppsOutEv
  dsimp only
  split
  · split <;> simp
  · simp

@[simp] theorem Core.todArm_mem (k : Core) (v : Nat) : (k.todArm v).1.mem = k.mem := by
  unfold Core.todArm
  split
  · simp
  · split <;> simp

@[simp] theorem Core.ttSampleEv_mem (k : Core) : k.ttSampleEv.mem = k.mem := by
  unfold Core.ttSampleEv
  split
  · simp
  · split
    · simp
    · dsimp only
      split
      · simp
      · split
        · simp
        · split
          · simp
          · split <;> simp

@[simp] theorem Core.sourceTmoEv_mem (k : Core) : k.sourceTmoEv.mem = k.mem := by
  simp [Core.sourceTmoEv, apply_ite Core.mem]

@[simp] theorem Core.holdEv_mem (k : Core) : k.holdEv.mem = k.mem := by
  unfold Core.holdEv; dsimp only; split <;> simp

@[simp] theorem Core.timeStop_mem (k : Core) : k.timeStop.mem = k.mem := by simp [Core.timeStop]

@[simp] theorem Core.timeCmd_mem (k : Core) (cmd : Nat) : (k.timeCmd cmd).1.mem = k.mem := by
  unfold Core.timeCmd; split <;> simp

@[simp] theorem Core.tbsWrite_mem (k : Core) (a v : Nat) : (k.tbsWrite a v).1.mem = k.mem := by
  simp [Core.tbsWrite, apply_ite Core.mem, apply_ite Prod.fst]

/-! ### Machine/Access.lean -/

@[simp] theorem winPut_mem (win : Nat) (k : Core) (w v : Nat) : (winPut win k w v).1.mem = k.mem := by
  unfold winPut
  simp only [apply_ite (fun f : Core → Nat → Nat → Core × Nat => (f k w v).1.mem)]
  simp

@[simp] theorem winSeen_mem (win : Nat) (k : Core) (w : Nat) : (winSeen win k w).mem = k.mem := by
  unfold winSeen
  split
  · simp
  · split <;> simp

@[simp] theorem Core.winFetch_mem (k : Core) (win words : Nat) (mg : Bool) : (k.winFetch win words mg).1.mem = k.mem := by
  unfold Core.winFetch; dsimp only; split <;> simp

@[simp] theorem State.aonFetch_mem (s : State) (win words : Nat) (mg : Bool) :
    (s.aonFetch win words mg).1.core.mem = s.core.mem := by
  unfold State.aonFetch; dsimp only; split <;> simp

@[simp] theorem State.latchHigh_mem (s : State) (a i : Nat) : (s.latchHigh a i).core.mem = s.core.mem := by
  simp [State.latchHigh, apply_ite Core.mem, apply_ite State.core]

@[simp] theorem State.readHigh_mem (s : State) (a i : Nat) : (s.readHigh a i).1.core.mem = s.core.mem := by
  unfold State.readHigh; split <;> split <;> simp

@[simp] theorem State.clearRead_mem (s : State) (a : Nat) : (s.clearRead a).core.mem = s.core.mem := by
  unfold State.clearRead; split <;> simp

@[simp] theorem State.readReg_mem (s : State) (a : Nat) (mg : Bool) : (s.readReg a mg).1.core.mem = s.core.mem := by
  unfold State.readReg; dsimp only
  (repeat' split) <;> simp

@[simp] theorem Core.marginWrite_mem (k : Core) (v : Nat) : (k.marginWrite v).1.mem = k.mem := by
  unfold Core.marginWrite; split <;> simp

@[simp] theorem Core.lcdWrite_mem (k : Core) (a v : Nat) : (k.lcdWrite a v).1.mem = k.mem := by
  unfold Core.lcdWrite
  split
  · simp
  · split <;> simp

@[simp] theorem Core.mgtWrite_mem (k : Core) (a v : Nat) : (k.mgtWrite a v).1.mem = k.mem := by
  simp [Core.mgtWrite, apply_ite Core.mem, apply_ite Prod.fst]

@[simp] theorem State.putStat_mem (s : State) (a st : Nat) : (s.putStat a st).core.mem = s.core.mem := by
  unfold State.putStat
  split
  · rfl
  · split <;> simp

/-! ### Machine/Boot.lean -/

@[simp] theorem Core.setSvc_mem (k : Core) (f : Svc → Svc) : (k.setSvc f).mem = k.mem := (rfl)

@[simp] theorem Core.stepDies_mem (k : Core) (x : Nat) : (k.stepDies x).mem = k.mem := by simp [Core.stepDies]

@[simp] theorem State.stepImage_mem (s : State) : s.stepImage.1.core.mem = s.core.mem := by
  unfold State.stepImage; dsimp only; split <;> simp

@[simp] theorem State.stepHbm_mem (s : State) (r : StepResult) : (s.stepHbm r).1.core.mem = s.core.mem := by
  unfold State.stepHbm
  split
  · dsimp only
    split <;> simp
  · dsimp only
    split <;> simp

@[simp] theorem State.stepSram_mem (s : State) (r : StepResult) : (s.stepSram r).1.core.mem = s.core.mem := by
  unfold State.stepSram; dsimp only; split <;> simp

@[simp] theorem State.laneValues_mem (s : State) (typ base per ports alt : Nat) :
    (s.laneValues typ base per ports alt).core.mem = s.core.mem := by simp [State.laneValues]

@[simp] theorem State.stepFabric_mem (s : State) (r : StepResult) : (s.stepFabric r).core.mem = s.core.mem := by
  simp [State.stepFabric]

@[simp] theorem State.stepLine_mem (s : State) (r : StepResult) : (s.stepLine r).core.mem = s.core.mem := by
  simp [State.stepLine]

@[simp] theorem Core.stepBuses_mem (k : Core) (x : Nat) : (k.stepBuses x).mem = k.mem :=
  foldl_mem (fun k n => k.setOptic_mem n _) _ k

@[simp] theorem Core.endMargin_mem (k : Core) : k.endMargin.mem = k.mem :=
  foldl_mem (fun k n => k.setOptic_mem n _) _ _

@[simp] theorem Core.portMargin_mem (k : Core) (l : List Margin) (n : Nat) : (k.portMargin l n).mem = k.mem := by
  simp [Core.portMargin, apply_ite Core.mem]

@[simp] theorem Core.stepMargin_mem (k : Core) (r : StepResult) : (k.stepMargin r).mem = k.mem := by simp [Core.stepMargin]

@[simp] theorem State.stepKeys_mem (s : State) : s.stepKeys.core.mem = s.core.mem := by simp [State.stepKeys]

@[simp] theorem State.stepPlace_mem (s : State) : s.stepPlace.core.mem = s.core.mem := by simp [State.stepPlace]

@[simp] theorem State.bootStepEvent_mem (s : State) (n mark st arg : Nat) :
    (s.bootStepEvent n mark st arg).core.mem = s.core.mem := by simp [State.bootStepEvent]

@[simp] theorem Core.skipUnits_mem (k : Core) (n : Nat) : (k.skipUnits n).mem = k.mem := by
  unfold Core.skipUnits; split <;> simp

/-! ### Machine/Descriptor.lean -/

@[simp] theorem Core.descAudit_mem (k : Core) (c st : Nat) : (k.descAudit c st).mem = k.mem := by
  unfold Core.descAudit; split <;> simp

@[simp] theorem State.descRefuse_mem (s : State) (src c st : Nat) : (s.descRefuse src c st).core.mem = s.core.mem := by
  unfold State.descRefuse; split <;> simp

@[simp] theorem Core.descReply_mem (k : Core) (c bootNum dseq done st : Nat) :
    (k.descReply c bootNum dseq done st).mem = k.mem := by
  unfold Core.descReply; dsimp only; split <;> simp

/-! ### Machine/MgmtCmd.lean -/

@[simp] theorem State.setMgt_mem (s : State) (f : Mgt → Mgt) : (s.setMgt f).core.mem = s.core.mem := by simp [State.setMgt]

@[simp] theorem State.answer_mem (s : State) (p : Path) (st : Nat) (data : Option Word) (gen : Option Nat) :
    (s.answer p st data gen).core.mem = s.core.mem := by simp [State.answer]

@[simp] theorem State.countMgt_mem (s : State) (a : Nat) : (s.countMgt a).core.mem = s.core.mem := by simp [State.countMgt]

@[simp] theorem State.badAccess_mem (s : State) (p : Path) (a st : Nat) : (s.badAccess p a st).core.mem = s.core.mem := by
  simp [State.badAccess]

@[simp] theorem State.executed_mem (s : State) (p : Path) : (s.executed p).core.mem = s.core.mem := by simp [State.executed]

@[simp] theorem State.refuseFrame_mem (s : State) (p : Path) (a st : Nat) (data : Option Word) (gen : Option Nat) :
    (s.refuseFrame p a st data gen).core.mem = s.core.mem := by
  unfold State.refuseFrame; split <;> simp

@[simp] theorem State.mgmtRead_mem (s : State) (p : Path) (a : Nat) : (s.mgmtRead p a).core.mem = s.core.mem := by
  unfold State.mgmtRead
  split
  · simp
  · dsimp only
    split <;> simp

@[simp] theorem State.shadowHigh_mem (s : State) (a : Nat) : (s.shadowHigh a).1.core.mem = s.core.mem := by
  unfold State.shadowHigh; split <;> simp

@[simp] theorem State.shadowLow_mem (s : State) (a : Nat) : (s.shadowLow a).1.core.mem = s.core.mem := by
  simp [State.shadowLow]

@[simp] theorem State.shadowHist_mem (s : State) : s.shadowHist.1.core.mem = s.core.mem := by
  unfold State.shadowHist; dsimp only; split <;> simp

@[simp] theorem State.shadowReg_mem (s : State) (a : Nat) : (s.shadowReg a).1.core.mem = s.core.mem := by
  unfold State.shadowReg
  split
  · simp
  · split <;> simp

@[simp] theorem State.shadowRead_mem (s : State) (p : Path) (a : Nat) : (s.shadowRead p a).core.mem = s.core.mem := by
  simp [State.shadowRead, apply_ite Core.mem, apply_ite State.core]

@[simp] theorem State.frameAbort_mem (s : State) : s.frameAbort.core.mem = s.core.mem := by
  unfold State.frameAbort; split <;> simp

@[simp] theorem State.frameOpcode_mem (s : State) (p : Path) (a : Nat) : (s.frameOpcode p a).core.mem = s.core.mem := by
  unfold State.frameOpcode; split <;> simp

@[simp] theorem State.frameBusy_mem (s : State) (p : Path) : (s.frameBusy p).core.mem = s.core.mem := by
  unfold State.frameBusy; split <;> simp

@[simp] theorem State.frameCrc_mem (s : State) (p : Path) : (s.frameCrc p).core.mem = s.core.mem := by
  unfold State.frameCrc; split <;> simp

@[simp] theorem State.setDa_mem (s : State) (da : Nat) : (s.setDa da).core.mem = s.core.mem := by simp [State.setDa]

@[simp] theorem State.ccc_mem (s : State) (c : Ccc) : (s.ccc c).core.mem = s.core.mem := by
  unfold State.ccc
  split
  · rfl
  · cases c
    case entdaa => dsimp only; split <;> simp
    case setdasa => dsimp only; split <;> simp
    all_goals simp

/-! ### Machine/Step.lean -/

@[simp] theorem State.withFetchWord_mem (s : State) (nbits w : Nat) : (s.withFetchWord nbits w).core.mem = s.core.mem := by
  unfold State.withFetchWord; split <;> simp

/-! ### Safety.lean -/

@[simp] theorem State.blind_mem (s : State) : s.blind.core.mem = s.core.mem := by simp [State.blind]

end Sys2Proof.Machine
end

section
/-!
PROOFS. The memory's canonical form: the operations that store data keep it, so does what calls them, and a reset leaves the
memory empty; from them, that every step keeps it. One lemma per operation that may store, in the order of the model's files.
-/

namespace Sys2Proof.Machine

open Sys2Proof

/-- Work on a list, each part of which keeps the canonical form, keeps it. -/
theorem foldl_wf {α : Type} {f : Core → α → Core} (hf : ∀ k a, Memory.wf k.mem → Memory.wf (f k a).mem) (l : List α)
    (k : Core)
    (h : Memory.wf k.mem) : Memory.wf (l.foldl f k).mem := by
  induction l generalizing k with
  | nil => exact h
  | cons a l ih => exact ih _ (hf k a h)

/-- The same of work on the whole state. -/
theorem foldl_core_wf {α : Type} {f : State → α → State} (hf : ∀ s a, Memory.wf s.core.mem → Memory.wf (f s a).core.mem)
    (l : List α)
    (s : State) (h : Memory.wf s.core.mem) : Memory.wf (l.foldl f s).core.mem := by
  induction l generalizing s with
  | nil => exact h
  | cons a l ih => exact ih _ (hf s a h)

@[simp] theorem Memory.wf_empty : Memory.wf {} := rfl

/-! ### A choice between two that have it -/

@[simp] theorem Core.wf_ite {p : Prop} [Decidable p] {k k' : Core} (h : Memory.wf k.mem) (h' : Memory.wf k'.mem) :
    Memory.wf (if p then k else k').mem := by
  split
  · exact h
  · exact h'

@[simp] theorem Core.wf_ite_fst {α : Type} {p : Prop} [Decidable p] {r r' : Core × α} (h : Memory.wf r.1.mem)
    (h' : Memory.wf r'.1.mem) : Memory.wf (if p then r else r').1.mem := by
  split
  · exact h
  · exact h'

@[simp] theorem State.wf_ite {p : Prop} [Decidable p] {s s' : State} (h : Memory.wf s.core.mem)
    (h' : Memory.wf s'.core.mem) :
    Memory.wf (if p then s else s').core.mem := by
  split
  · exact h
  · exact h'

@[simp] theorem State.wf_ite_fst {α : Type} {p : Prop} [Decidable p] {r r' : State × α} (h : Memory.wf r.1.core.mem)
    (h' : Memory.wf r'.1.core.mem) : Memory.wf (if p then r else r').1.core.mem := by
  split
  · exact h
  · exact h'

/-! ### Machine/Ctx.lean -/

@[simp] theorem Core.wheyStore_wf {k : Core} (flow c : Nat) (v e : List Nat) (hm : Memory.wf k.mem) :
    Memory.wf (k.wheyStore flow c v e).mem := by simp [Core.wheyStore, hm, Memory.wf_memPut]

/-! ### Machine/Flows.lean -/

@[simp] theorem Core.takePacket_wf {k : Core} (p : Packet) (f id off : Nat) (hm : Memory.wf k.mem) :
    Memory.wf (k.takePacket p f id off).mem := by
  rw [Core.takePacket]
  simp [apply_ite Core.mem, hm, Memory.wf_memPut]

@[simp] theorem Core.acceptPkt_wf {k : Core} (p : Packet) (hm : Memory.wf k.mem) : Memory.wf (k.acceptPkt p).mem := by
  rw [Core.acceptPkt]
  simp [apply_ite Core.mem, apply_ite Memory.wf, hm]

@[simp] theorem Core.packetEv_wf {k : Core} (hm : Memory.wf k.mem) : Memory.wf k.packetEv.mem := by
  rw [Core.packetEv]
  split
  · simp [hm]
  · split <;> simp [hm]

/-! ### Machine/Collective.lean -/

@[simp] theorem Core.rankDone_wf {k : Core} (x st : Nat) (hm : Memory.wf k.mem) : Memory.wf (k.rankDone x st).mem := by
  rw [Core.rankDone]
  split
  · simp [hm]
  · simp [apply_ite Core.mem, apply_ite Memory.wf, hm, Memory.wf_memPut]

@[simp] theorem Core.collDone_wf {k : Core} (x : Nat) (hm : Memory.wf k.mem) : Memory.wf (k.collDone x).mem := by
  rw [Core.collDone]
  simp [apply_ite Core.mem, hm]

@[simp] theorem Core.progress_wf {k : Core} (x : Nat) (hm : Memory.wf k.mem) : Memory.wf (k.progress x).mem := by
  rw [Core.progress]
  split
  · simp [hm]
  · simp [apply_ite Core.mem, apply_ite Memory.wf, hm]
  · simp [hm]

@[simp] theorem Core.chunkNoResult_wf {k : Core} (x c st : Nat) (hm : Memory.wf k.mem) :
    Memory.wf (k.chunkNoResult x c st).mem := by simp [Core.chunkNoResult, hm]

@[simp] theorem Core.chunkFail_wf {k : Core} (x c st : Nat) (hm : Memory.wf k.mem) :
    Memory.wf (k.chunkFail x c st).mem := by
  rw [Core.chunkFail]
  split <;> simp [hm]

@[simp] theorem Core.settle_wf {k : Core} (hm : Memory.wf k.mem) : Memory.wf k.settle.mem := by
  unfold Core.settle
  exact foldl_wf (fun _ p hk => Core.chunkFail_wf p.1 p.2.1 p.2.2 hk) _ _ hm

/-! ### Machine/Reduce.lean -/

@[simp] theorem Core.tryNonOwner_wf {k : Core} (x c : Nat) (hm : Memory.wf k.mem) : Memory.wf (k.tryNonOwner x c).mem := by
  rw [Core.tryNonOwner]
  split
  · simp [hm]
  · split
    · simp [hm]
    · split
      · simp [hm]
      · split
        · dsimp only
          split <;> simp [hm]
        · dsimp only
          split
          · simp [hm]
          · split <;> simp [hm]
          · simp [hm]

@[simp] theorem Core.quantChunk_wf {k : Core} (x : Nat) (h : Chunk) (n : Nat) (hm : Memory.wf k.mem) :
    Memory.wf (k.quantChunk x h n).1.mem := by simp [Core.quantChunk, hm]

@[simp] theorem Core.stageDone_wf {k : Core} (x : Nat) (h0 : Chunk) (line : List Byte) (ptr : Nat) (hm : Memory.wf k.mem) :
    Memory.wf (k.stageDone x h0 line ptr).mem := by simp [Core.stageDone, hm]

@[simp] theorem Core.stageEv_wf {k : Core} (x c : Nat) (hm : Memory.wf k.mem) : Memory.wf (k.stageEv x c).mem := by
  have hbuf : ∀ r, Memory.wf (k.takeBuffer r).1.mem := fun r => by simp [hm]
  unfold Core.stageEv
  dsimp only
  split
  · exact hm
  · split
    · exact hm
    · split
      · exact hbuf _
      · split
        · exact Core.stageDone_wf _ _ _ _ (Core.quantChunk_wf _ _ _ (hbuf _))
        · exact Core.stageDone_wf _ _ _ _ (hbuf _)
        · exact Core.stageDone_wf _ _ _ _ (hbuf _)

@[simp] theorem Core.failValues_wf {k : Core} (x : Nat) (h : Chunk) (st churn : Nat) (hm : Memory.wf k.mem) :
    Memory.wf (k.failValues x h st churn).mem := by
  rw [Core.failValues]
  split
  · simp [hm]
  · split <;> simp [hm]

@[simp] theorem Core.tryDecide_wf {k : Core} (x c churn : Nat) (hm : Memory.wf k.mem) :
    Memory.wf (k.tryDecide x c churn).mem := by
  unfold Core.tryDecide
  split
  · exact hm
  · split
    · exact hm
    · split
      · exact Core.failValues_wf _ _ _ _ hm
      · split
        · exact Core.failValues_wf _ _ _ _ hm
        · simpa using hm

@[simp] theorem Core.slotFinal_wf {k : Core} (x c s : Nat) (hm : Memory.wf k.mem) : Memory.wf (k.slotFinal x c s).mem := by
  simp [Core.slotFinal, hm]

@[simp] theorem Core.slotElems_wf {k : Core} (x c s : Nat) (e : List Elem) (hm : Memory.wf k.mem) :
    Memory.wf (k.slotElems x c s e).mem := by
  rw [Core.slotElems]
  split <;> simp [hm]

@[simp] theorem Core.feedLocal_wf {k : Core} (x c : Nat) (hm : Memory.wf k.mem) : Memory.wf (k.feedLocal x c).mem := by
  rw [Core.feedLocal]
  split
  · simp [hm]
  · dsimp only
    split <;> simp [hm]

@[simp] theorem Core.takeChunk_wf {k : Core} (x c : Nat) (hm : Memory.wf k.mem) : Memory.wf (k.takeChunk x c).mem := by
  rw [Core.takeChunk]
  split <;> simp [hm]

@[simp] theorem Core.feedAgain_wf {k : Core} (x c s : Nat) (hm : Memory.wf k.mem) : Memory.wf (k.feedAgain x c s).mem := by
  simp [Core.feedAgain, hm]

@[simp] theorem Core.slotStream_wf {k : Core} (x c s inv item : Nat) (d : List Byte) (hm : Memory.wf k.mem) :
    Memory.wf (k.slotStream x c s inv item d).mem := by
  rw [Core.slotStream]
  split
  · simp [hm]
  · dsimp only
    split
    · simp [hm]
    · split <;> simp [hm]

@[simp] theorem Core.slotVerified_wf {k : Core} (x c s inv item : Nat) (hm : Memory.wf k.mem) :
    Memory.wf (k.slotVerified x c s inv item).mem := by simp [Core.slotVerified, hm]

@[simp] theorem Core.slotGone_wf {k : Core} (x c s : Nat) (e : Option (List Elem)) (hm : Memory.wf k.mem) :
    Memory.wf (k.slotGone x c s e).mem := by
  unfold Core.slotGone
  extract_lets z bad k₁ held k₂
  have h₁ : Memory.wf k₁.mem := by simpa [k₁] using hm
  have h₂ : k₂.mem = k₁.mem := foldl_mem (fun k p => k.patAgain_mem _ _ _) _ _
  split
  · exact Core.chunkFail_wf _ _ _ (by simpa using h₁)
  · split
    · exact h₁
    · exact foldl_wf (fun _ s hk => Core.feedAgain_wf _ _ _ hk) _ _ (by rwa [h₂])

@[simp] theorem Core.givePat_wf {k : Core} (churn : Nat) (p : Nat × Nat × Nat) (hm : Memory.wf k.mem) :
    Memory.wf (k.givePat churn p).mem := by
  unfold Core.givePat
  refine Core.tryDecide_wf _ _ _ (foldl_wf (fun _ s hk => Core.feedAgain_wf _ _ _ hk) _ _ (Core.takeChunk_wf _ _ ?_))
  simpa using hm

@[simp] theorem Core.patTakeEv_wf {k : Core} (churn : Nat) (hm : Memory.wf k.mem) : Memory.wf (k.patTakeEv churn).mem := by
  rw [Core.patTakeEv]
  split
  · simp [hm]
  · split
    · simp [hm]
    · split
      · simp [hm]
      · dsimp only
        split <;> simp [hm]

@[simp] theorem Core.release_wf {k : Core} (x c churn : Nat) (hm : Memory.wf k.mem) :
    Memory.wf (k.release x c churn).mem := by
  rw [Core.release]
  split
  · exact hm
  · refine Core.progress_wf _ ?_
    simp only [apply_ite Core.mem, Core.chunkEnd_mem, Core.setCf_mem, Core.updChunk_mem, Core.sendResult_mem,
      Core.rankTake_mem, Core.emit_mem, ite_self]
    exact hm

@[simp] theorem Core.roundPat_wf {k : Core} (x c p churn : Nat) (hm : Memory.wf k.mem) :
    Memory.wf (k.roundPat x c p churn).mem := by
  rw [Core.roundPat]
  split
  · simp [hm]
  · dsimp only
    split
    · simp [hm]
    · split
      · simp [apply_ite Core.mem, apply_ite Memory.wf, hm, Memory.wf_memPut]
      · simp [hm]

@[simp] theorem Core.patRoundEv_wf {k : Core} (churn : Nat) (hm : Memory.wf k.mem) :
    Memory.wf (k.patRoundEv churn).mem := by
  rw [Core.patRoundEv]
  split <;> simp [hm]

@[simp] theorem Core.checkEv_wf {k : Core} (x c : Nat) (hm : Memory.wf k.mem) : Memory.wf (k.checkEv x c).mem := by
  rw [Core.checkEv]
  split
  · simp [hm]
  · simp [apply_ite Core.mem, apply_ite Memory.wf, hm]

@[simp] theorem Core.resultVerified_wf {k : Core} (x c : Nat) (d : List Byte) (hm : Memory.wf k.mem) :
    Memory.wf (k.resultVerified x c d).mem := by
  rw [Core.resultVerified]
  split
  · simp [hm]
  · split
    · simp [hm]
    · split
      · simp [apply_ite Core.mem, hm, Memory.wf_memPut]
      · simp [hm]

@[simp] theorem Core.statusVerified_wf {k : Core} (x c st : Nat) (hm : Memory.wf k.mem) :
    Memory.wf (k.statusVerified x c st).mem := by
  unfold Core.statusVerified
  split
  · exact hm
  · split
    · exact hm
    · split
      · exact Core.chunkFail_wf _ _ _ hm
      · exact Core.chunkNoResult_wf _ _ _ hm

@[simp] theorem Core.chunkTimeEv_wf {k : Core} (x c : Nat) (hm : Memory.wf k.mem) : Memory.wf (k.chunkTimeEv x c).mem := by
  rw [Core.chunkTimeEv]
  split
  · simp [hm]
  · simp [apply_ite Core.mem, apply_ite Memory.wf, hm]

@[simp] theorem Core.chunkRelEv_wf {k : Core} (x c : Nat) (hm : Memory.wf k.mem) : Memory.wf (k.chunkRelEv x c).mem := by
  rw [Core.chunkRelEv]
  split
  · simp [hm]
  · simp [apply_ite Core.mem, apply_ite Memory.wf, hm]

@[simp] theorem Core.itemWhole_wf {k : Core} (i : RxItem) (hm : Memory.wf k.mem) : Memory.wf (k.itemWhole i).mem := by
  unfold Core.itemWhole
  split
  · exact hm
  · refine Core.tryNonOwner_wf _ _ ?_
    split <;> simpa using hm

@[simp] theorem Core.afterPartition_wf {k : Core} (hm : Memory.wf k.mem) : Memory.wf k.afterPartition.mem := by
  unfold Core.afterPartition
  exact foldl_wf (fun _ p hk => Core.tryNonOwner_wf _ _ (by simpa using hk)) _ _ hm

/-! ### Machine/Transform.lean -/

@[simp] theorem Core.gStaged_wf {k : Core} (x c : Nat) (hm : Memory.wf k.mem) : Memory.wf (k.gStaged x c).mem := by
  simp [Core.gStaged, hm]

@[simp] theorem Core.skimmed_wf {k : Core} (s : XSeg) (hm : Memory.wf k.mem) : Memory.wf (k.skimmed s).mem := by
  rw [Core.skimmed]
  split
  · simp [hm]
  · simp [hm]
  · split <;> simp [hm, Memory.wf_memPut]
  · simp [hm]

@[simp] theorem Core.skimEv_wf {k : Core} (u : Nat) (hm : Memory.wf k.mem) : Memory.wf (k.skimEv u).mem := by
  rw [Core.skimEv]
  split
  · simp [hm]
  · split
    · simp [hm]
    · dsimp only
      split <;> simp [hm]

@[simp] theorem Core.msgArrived_wf {k : Core} (m : RxMsg) (d : List Byte) (psn : List (Nat × Nat)) (hm : Memory.wf k.mem) :
    Memory.wf (k.msgArrived m d psn).mem := by simp [Core.msgArrived, hm, Memory.wf_memPut]

@[simp] theorem Core.pressDone_wf {k : Core} (b : XBlk) (hm : Memory.wf k.mem) : Memory.wf (k.pressDone b).mem := by
  rw [Core.pressDone]
  split
  · simp [hm]
  · split
    · simp [hm]
    · split <;> simp [hm]
    · split <;> simp [hm]
    · simp [hm]

@[simp] theorem Core.pressEv_wf {k : Core} (tile : Nat) (hm : Memory.wf k.mem) : Memory.wf (k.pressEv tile).mem := by
  rw [Core.pressEv]
  split
  · simp [hm]
  · split
    · simp [hm]
    · split <;> simp [hm]

@[simp] theorem Core.sendPhat_wf (n d : Nat) {k : Core} (hm : Memory.wf k.mem) : Memory.wf (Core.sendPhat n d k).mem := by
  induction n generalizing k with
  | zero => exact hm
  | succ n ih =>
    unfold Core.sendPhat
    dsimp only
    split
    · exact hm
    · split
      · simpa using hm
      · exact ih (by simp [hm, Memory.wf_memPut])

@[simp] theorem Core.orthoEv_wf {k : Core} (d : Nat) (hm : Memory.wf k.mem) : Memory.wf (k.orthoEv d).mem := by
  unfold Core.orthoEv
  extract_lets k₁
  have h₁ : Memory.wf k₁.mem := by unfold k₁; split <;> simp [hm]
  split
  · exact Core.sendPhat_wf _ _ h₁
  · exact h₁

/-! ### Machine/Cipher.lean -/

@[simp] theorem Core.subDone_wf {k : Core} (x c s : Nat) (e : Option (List Elem)) (hm : Memory.wf k.mem) :
    Memory.wf (k.subDone x c s e).mem := by simp [Core.subDone, hm]

@[simp] theorem Core.msgTry_wf {k : Core} (m : RxMsg) (hm : Memory.wf k.mem) : Memory.wf (k.msgTry m).mem := by
  rw [Core.msgTry]
  split
  · simp [hm]
  · split
    · simp [hm]
    · dsimp only
      split
      · simp [hm]
      · split <;> simp [hm]

@[simp] theorem Core.msgVerified_wf {k : Core} (f base inv item : Nat) (h d : List Byte) (hm : Memory.wf k.mem) :
    Memory.wf (k.msgVerified f base inv item h d).mem := by
  rw [Core.msgVerified]
  split <;> split <;> simp [hm]

@[simp] theorem Core.reqRefused_wf {k : Core} (r : Req) (st cntReg : Nat) (hm : Memory.wf k.mem) :
    Memory.wf (k.reqRefused r st cntReg).mem := by
  rw [Core.reqRefused]
  split
  · split <;> simp [hm]
  · split
    · simp [apply_ite Core.mem, apply_ite Memory.wf, hm]
    · split
      · simp [hm]
      · split <;> simp [hm]

@[simp] theorem Core.reqRun_wf {k : Core} (r : Req) (cn : Nat) (hm : Memory.wf k.mem) : Memory.wf (k.reqRun r cn).mem := by
  rw [Core.reqRun]
  split
  · simp [hm]
  · split
    · simp [hm]
    · split <;> split <;> simp [hm]

@[simp] theorem Core.dispatchEv_wf {k : Core} (cn : Nat) (hm : Memory.wf k.mem) : Memory.wf (k.dispatchEv cn).mem := by
  rw [Core.dispatchEv]
  split
  · simp [hm]
  · split
    · simp [hm]
    · split <;> simp [hm]

@[simp] theorem Core.decryptOk_wf {k : Core} (x : Run) (hm : Memory.wf k.mem) : Memory.wf (k.decryptOk x).mem := by
  have hdel : ∀ i, Memory.wf (k.setDels i 0).mem := fun i => by simp [hm]
  unfold Core.decryptOk
  split
  · exact Core.msgVerified_wf _ _ _ _ _ _ hm
  · split
    · exact hm
    · refine Core.slotVerified_wf _ _ _ _ _ ?_
      split
      · exact Core.slotStream_wf _ _ _ _ _ _ (hdel _)
      · exact hdel _
  · exact Core.resultVerified_wf _ _ _ (hdel _)
  · exact Core.statusVerified_wf _ _ _ (hdel _)
  · exact hm

@[simp] theorem Core.completeEv_wf {k : Core} (cn : Nat) (hm : Memory.wf k.mem) : Memory.wf (k.completeEv cn).mem := by
  rw [Core.completeEv]
  split
  · simp [hm]
  · split
    · simp [hm]
    · split
      · dsimp only
        split <;> simp [hm]
      · simp [hm]
    · simp [hm]

/-! ### Machine/LineGroup.lean -/

@[simp] theorem Core.segIn_wf {k : Core} (g : Nat) (p : RxPart) (hm : Memory.wf k.mem) : Memory.wf (k.segIn g p).mem := by
  rw [Core.segIn]
  split
  · simp [hm]
  · split
    · simp [hm]
    · split
      · simp [hm]
      · dsimp only
        split
        · simp [hm]
        · split <;> simp [hm]

@[simp] theorem Core.parseCells_wf (g gseq pos ke : Nat) (pay : List Byte) (n : Nat) {k : Core} (c : Nat)
    (hm : Memory.wf k.mem) :
    Memory.wf (Core.parseCells g gseq pos ke pay n k c).mem := by
  induction n generalizing k c with
  | zero => exact hm
  | succ n ih =>
    unfold Core.parseCells
    dsimp only
    split
    · exact hm
    · split
      · exact ih _ hm
      · split
        · simpa using hm
        · split
          · exact ih _ (Core.segIn_wf _ _ (by simpa using hm))
          · simpa using hm

@[simp] theorem Core.parseFrame_wf {k : Core} (g gseq pos : Nat) (fr : Option (Nat × Nat × List Byte))
    (hm : Memory.wf k.mem) :
    Memory.wf (k.parseFrame g gseq pos fr).mem := by
  unfold Core.parseFrame
  dsimp only
  split
  · split <;> simpa using hm
  · split
    · split
      · exact hm
      · exact Core.parseCells_wf _ _ _ _ _ _ _ (by simpa using hm)
    · split
      · exact Core.parseCells_wf _ _ _ _ _ _ _ hm
      · split
        · exact Core.parseCells_wf _ _ _ _ _ _ _ (by simpa using hm)
        · split
          · exact Core.parseCells_wf _ _ _ _ _ _ _ (Core.segIn_wf _ _ (by simpa using hm))
          · simpa using hm

@[simp] theorem Core.gapRows_wf {k : Core} (g n : Nat) (hm : Memory.wf k.mem) : Memory.wf (k.gapRows g n).mem := by
  rw [Core.gapRows]
  split
  · simp [hm]
  · simp [apply_ite Core.mem, hm]

@[simp] theorem Core.rowOut_wf {k : Core} (g : Nat) (r : RxRow) (hm : Memory.wf k.mem) : Memory.wf (k.rowOut g r).mem := by
  unfold Core.rowOut
  extract_lets x k₁ m k₂ svc y k₃ k₄ frame vec pvec dp pq erased lost got ok fixed k₅ k₆ k₇
  have h₂ : k₂.mem = k.mem := by unfold k₂; split <;> simp [k₁]
  have h₄ : k₄.mem = k.mem := by unfold k₄; split <;> simp [k₃, h₂]
  have h₅ : k₅.mem = k.mem := by unfold k₅; split <;> simp [h₄]
  have h₇ : k₇.mem = k.mem := by
    unfold k₇
    split
    · exact h₅
    · split <;> simp [k₆, h₅]
  exact foldl_wf (fun _ p hk => Core.parseFrame_wf _ _ _ _ hk) _ _ (by rwa [h₇])

@[simp] theorem Core.rowEv_wf {k : Core} (g : Nat) (hm : Memory.wf k.mem) : Memory.wf (k.rowEv g).mem := by
  rw [Core.rowEv]
  split
  · simp [hm]
  · split
    · simp [apply_ite Core.mem, apply_ite Memory.wf, hm]
    · simp [hm]

/-! ### Machine/Hbc.lean -/

@[simp] theorem Core.hbcCmd_wf {k : Core} (cmd s p : Nat) (hm : Memory.wf k.mem) : Memory.wf (k.hbcCmd cmd s p).1.mem := by
  rw [Core.hbcCmd]
  split <;> simp [hm]

@[simp] theorem Core.hbcWrite_wf {k : Core} (a v : Nat) (hm : Memory.wf k.mem) : Memory.wf (k.hbcWrite a v).1.mem := by
  simp [Core.hbcWrite, hm]

@[simp] theorem Core.sramUe_wf {k : Core} (a scrub : Nat) (hm : Memory.wf k.mem) : Memory.wf (k.sramUe a scrub).mem := by
  simp [Core.sramUe, hm]

@[simp] theorem Core.hbmUe_wf {k : Core} (a scrub bg bank row : Nat) (hm : Memory.wf k.mem) :
    Memory.wf (k.hbmUe a scrub bg bank row).mem := by simp [Core.hbmUe, hm]

@[simp] theorem Core.scrubEv_wf {k : Core} (sram : Bool) (found : ScrubFind) (hm : Memory.wf k.mem) :
    Memory.wf (k.scrubEv sram found).mem := by
  rw [Core.scrubEv]
  split
  · simp [hm]
  · split <;> simp [hm]

@[simp] theorem Core.remapEv_wf {k : Core} (s p bg bank row : Nat) (ue repaired : Bool) (hm : Memory.wf k.mem) :
    Memory.wf (k.remapEv s p bg bank row ue repaired).mem := by simp [Core.remapEv, hm]

/-! ### Machine/Locus.lean -/

@[simp] theorem State.takeOut_wf {s : State} (u : Nat) (hm : Memory.wf s.core.mem) : Memory.wf (s.takeOut u).core.mem := by
  rw [State.takeOut]
  split
  · simp [hm]
  · simp [apply_ite Core.mem, apply_ite Memory.wf, hm]

@[simp] theorem State.quarantine_wf {s : State} (u bin cls : Nat) (hm : Memory.wf s.core.mem) :
    Memory.wf (s.quarantine u bin cls).core.mem := by simp [State.quarantine, hm]

@[simp] theorem State.due_wf {s : State} (u bin cls : Nat) (hm : Memory.wf s.core.mem) :
    Memory.wf (s.due u bin cls).core.mem := by
  rw [State.due]
  split <;> simp [hm]

@[simp] theorem State.locusError_wf {s : State} (u : Nat) (ue : Bool) (cls : Nat) (hm : Memory.wf s.core.mem) :
    Memory.wf (s.locusError u ue cls).core.mem := by simp [State.locusError, hm]

@[simp] theorem State.unitError_wf {s : State} (u : Nat) (e : Option Err) (hm : Memory.wf s.core.mem) :
    Memory.wf (s.unitError u e).core.mem := by
  cases e with
  | none => exact hm
  | some e => exact State.locusError_wf _ _ _ hm

@[simp] theorem State.recordSuspects_wf {s : State} (hm : Memory.wf s.core.mem) : Memory.wf s.recordSuspects.core.mem := by
  unfold State.recordSuspects
  exact foldl_core_wf (fun _ u hs => by simpa using State.locusError_wf u false _ hs) _ _ hm

@[simp] theorem State.soak_wf {s : State} (u : Nat) (err : Bool) (hm : Memory.wf s.core.mem) :
    Memory.wf (s.soak u err).core.mem := by
  rw [State.soak]
  split <;> simp [hm]

@[simp] theorem State.elcCmd_wf {s : State} (cmd u : Nat) (hm : Memory.wf s.core.mem) :
    Memory.wf (s.elcCmd cmd u).1.core.mem := by
  rw [State.elcCmd]
  split
  · simp [hm]
  · split
    · simp [hm]
    · split <;> simp [hm]

/-! ### Machine/Sites.lean -/

@[simp] theorem Core.partEv_wf {k : Core} (s : Nat) (hm : Memory.wf k.mem) : Memory.wf (k.partEv s).mem := by
  unfold Core.partEv
  dsimp only
  split
  · exact hm
  · refine Core.settle_wf ?_
    rw [Core.lineRefresh_mem]
    refine Core.afterPartition_wf ?_
    rw [Core.partEvent_mem, foldl_mem (fun k e => k.partJob_mem s e)]
    simpa using hm

/-! ### Machine/Timetable.lean -/

@[simp] theorem Core.startTt_wf {k : Core} (e g t c : Nat) (hm : Memory.wf k.mem) :
    Memory.wf (k.startTt e g t c).1.mem := by simp [Core.startTt, hm]

/-! ### Machine/Start.lean -/

@[simp] theorem Core.holdFns_wf {k : Core} (p : Nat → Bool) (hm : Memory.wf k.mem) : Memory.wf (k.holdFns p).mem := by
  unfold Core.holdFns
  refine Core.settle_wf ?_
  rwa [foldl_mem (fun k c => k.holdFn_mem c)]

@[simp] theorem State.quStep_wf {s : State} (hm : Memory.wf s.core.mem) : Memory.wf s.quStep.core.mem := by
  rw [State.quStep]
  split
  · split
    · dsimp only
      split <;> simp [hm]
    · dsimp only
      split <;> simp [hm]
  · split <;> simp [hm]
  · simp [hm]
  · simp [hm]
  · simp [hm]

@[simp] theorem State.quRun_wf {s : State} (hm : Memory.wf s.core.mem) : Memory.wf s.quRun.core.mem := by
  unfold State.quRun
  exact State.quStep_wf (State.quStep_wf (State.quStep_wf (State.quStep_wf hm)))

@[simp] theorem State.quStart_wf {s : State} (hm : Memory.wf s.core.mem) : Memory.wf s.quStart.core.mem := by
  simp [State.quStart, hm]

@[simp] theorem State.beginStep_wf {s : State} (n : Nat) (hm : Memory.wf s.core.mem) :
    Memory.wf (s.beginStep n).core.mem := by
  rw [State.beginStep]
  split <;> simp [hm]

@[simp] theorem State.openStart_wf {s : State} (warm : Bool) (hm : Memory.wf s.core.mem) :
    Memory.wf (s.openStart warm).core.mem := by simp [State.openStart, hm]

@[simp] theorem State.resetCore_wf (s : State) : Memory.wf s.resetCore.core.mem := by simp [State.resetCore]

@[simp] theorem State.warmBoot_wf (s : State) : Memory.wf s.warmBoot.core.mem := State.openStart_wf _ s.resetCore_wf

@[simp] theorem State.coldBoot_wf (s : State) (power : Bool) : Memory.wf (s.coldBoot power).core.mem := by
  unfold State.coldBoot
  exact State.openStart_wf _ Memory.wf_empty

@[simp] theorem State.powerDown_wf (s : State) (p : PState) : Memory.wf (s.powerDown p).core.mem := by simp [State.powerDown]

@[simp] theorem State.powerFail_wf {s : State} (hm : Memory.wf s.core.mem) : Memory.wf s.powerFail.core.mem := by
  simp [State.powerFail, hm]

/-! ### Machine/Mop.lean -/

@[simp] theorem State.mopZeroize_wf {s : State} (forced : Bool) (hm : Memory.wf s.core.mem) :
    Memory.wf (s.mopZeroize forced).core.mem := by simp [State.mopZeroize, hm]

@[simp] theorem State.mopHardReset_wf (s : State) : Memory.wf s.mopHardReset.core.mem := by simp [State.mopHardReset]

@[simp] theorem State.mopWrite_wf {s : State} (op : Nat) (hm : Memory.wf s.core.mem) :
    Memory.wf (s.mopWrite op).core.mem := by
  unfold State.mopWrite
  split
  · split
    · exact State.mopZeroize_wf _ hm
    · simpa using hm
  · simpa using hm
  · split
    · exact s.mopHardReset_wf
    · simpa using hm
  all_goals simpa using hm

@[simp] theorem State.dbgEnter_wf {s : State} (hm : Memory.wf s.core.mem) : Memory.wf s.dbgEnter.core.mem := by
  rw [State.dbgEnter]
  split <;> simp [hm]

/-! ### Machine/Otp.lean -/

@[simp] theorem State.otpDone_wf {s : State} (hm : Memory.wf s.core.mem) : Memory.wf s.otpDone.core.mem := by
  rw [State.otpDone]
  split <;> simp [hm]

/-! ### Machine/Nvm.lean -/

@[simp] theorem State.nvmDone_wf {s : State} (hm : Memory.wf s.core.mem) : Memory.wf s.nvmDone.core.mem := by
  rw [State.nvmDone]
  split <;> simp [hm]

@[simp] theorem State.bootCtrl_wf {s : State} (v : Nat) (hm : Memory.wf s.core.mem) :
    Memory.wf (s.bootCtrl v).1.core.mem := by
  rw [State.bootCtrl]
  split <;> simp [hm]

/-! ### Machine/Power.lean -/

@[simp] theorem State.inputAlarm_wf {s : State} (rail mv pw : Nat) (hm : Memory.wf s.core.mem) :
    Memory.wf (s.inputAlarm rail mv pw).core.mem := by simp [State.inputAlarm, hm]

@[simp] theorem State.inputLost_wf {s : State} (hm : Memory.wf s.core.mem) : Memory.wf s.inputLost.core.mem := by
  simp [State.inputLost, hm]

@[simp] theorem State.enRise_wf {s : State} (hm : Memory.wf s.core.mem) : Memory.wf s.enRise.core.mem := by
  rw [State.enRise]
  split <;> simp [hm]

@[simp] theorem State.enFall_wf {s : State} (hm : Memory.wf s.core.mem) : Memory.wf s.enFall.core.mem := by
  rw [State.enFall]
  split
  · simp [hm]
  · dsimp only
    split <;> simp [hm]

@[simp] theorem State.quRequest_wf {s : State} (hm : Memory.wf s.core.mem) : Memory.wf s.quRequest.core.mem := by
  rw [State.quRequest]
  split <;> simp [hm]

@[simp] theorem State.tripNow_wf (s : State) : Memory.wf s.tripNow.core.mem := by simp [State.tripNow]

@[simp] theorem State.thresholdStep_wf {s : State} (g t : Nat) (hm : Memory.wf s.core.mem) :
    Memory.wf (s.thresholdStep g t).core.mem := by
  rw [State.thresholdStep]
  split
  · simp [hm]
  · dsimp only
    split
    · split <;> simp [hm]
    · split
      · simp [hm]
      · split <;> simp [hm]

@[simp] theorem State.thermalSample_wf {s : State} (temps : List (Option Int)) (hm : Memory.wf s.core.mem) :
    Memory.wf (s.thermalSample temps).core.mem := by
  unfold State.thermalSample
  dsimp only
  rw [State.tripRelease_mem, State.tripAgain_mem]
  exact foldl_core_wf (fun _ i hs => State.thresholdStep_wf _ _ hs) _ _ (by simpa using hm)

@[simp] theorem Core.pllReset_wf {k : Core} (i : Nat) (hm : Memory.wf k.mem) : Memory.wf (k.pllReset i).mem := by
  rw [Core.pllReset]
  simp [apply_ite Core.mem, apply_ite Memory.wf, hm]

@[simp] theorem State.pllLoss_wf {s : State} (i : Nat) (hm : Memory.wf s.core.mem) : Memory.wf (s.pllLoss i).core.mem := by
  simp [State.pllLoss, hm]

@[simp] theorem State.pwrWrite_wf {s : State} (a v : Nat) (hm : Memory.wf s.core.mem) :
    Memory.wf (s.pwrWrite a v).1.core.mem := by
  rw [State.pwrWrite]
  split <;> simp [hm]

/-! ### Machine/Expand.lean -/

@[simp] theorem Core.expanded_wf {k : Core} (s : XSeg) (hm : Memory.wf k.mem) : Memory.wf (k.expanded s).mem := by
  rw [Core.expanded]
  split
  · split <;> simp [hm]
  · simp [hm]
  · simp [hm]
  · simp [hm]

@[simp] theorem Core.expandEv_wf {k : Core} (u : Nat) (hm : Memory.wf k.mem) : Memory.wf (k.expandEv u).mem := by
  rw [Core.expandEv]
  split
  · exact hm
  · split
    · exact hm
    · extract_lets x k₁ k₂ r k₃
      have h₂ : k₂.mem = k.mem := by unfold k₂; split <;> simp [k₁]
      have hr : r.1.mem = k.mem := by unfold r; split <;> simp [h₂]
      have h₃ : Memory.wf k₃.mem := by simpa [k₃, hr] using hm
      split
      · exact h₃
      · split
        · exact h₃
        · split
          · exact Core.expanded_wf _ h₃
          · exact h₃

/-! ### Machine/UnitCmd.lean -/

@[simp] theorem State.unitWork_wf {s : State} (u : Nat) (err : Option Err) (busy : Core → Bool) {redo work : Core → Core}
    (hr : ∀ k, Memory.wf k.mem → Memory.wf (redo k).mem) (hw : ∀ k, Memory.wf k.mem → Memory.wf (work k).mem)
    (hm : Memory.wf s.core.mem) : Memory.wf (s.unitWork u err busy redo work).core.mem := by
  unfold State.unitWork
  dsimp only
  have herr := State.unitError_wf u err hm
  split
  · exact hm
  · split
    · rw [State.onCore_mem]; exact hw _ herr
    · rw [State.onCore_mem]; exact hr _ herr

@[simp] theorem Core.serveResume_wf {k : Core} (hm : Memory.wf k.mem) : Memory.wf k.serveResume.mem := by
  rw [Core.serveResume]
  split
  · simp [hm]
  · split <;> simp [hm]
  · simp [hm]

/-! ### Machine/Access.lean -/

@[simp] theorem Core.blockWrite_wf {k : Core} (a v : Nat) (hm : Memory.wf k.mem) : Memory.wf (k.blockWrite a v).1.mem := by
  have hhbc := Core.hbcWrite_wf a v hm
  unfold Core.blockWrite
  repeat' with_reducible apply Core.wf_ite_fst
  all_goals simp [hm, hhbc]

@[simp] theorem Core.regWrite_wf {k : Core} (r : RegRow) (a v : Nat) (mg : Bool) (hm : Memory.wf k.mem) :
    Memory.wf (k.regWrite r a v mg).1.mem := by
  unfold Core.regWrite
  split
  · simpa using hm
  · rw [Core.winWrite_mem _ _ _ _ _ (winPut_mem _)]; exact hm
  · split
    · exact Core.blockWrite_wf _ _ hm
    · exact hm

@[simp] theorem State.aonWrite_wf {s : State} (a v : Nat) (hm : Memory.wf s.core.mem) :
    Memory.wf (s.aonWrite a v).1.core.mem := by
  rw [State.aonWrite]
  split
  · simp [hm]
  · split
    · simp [hm]
    · split
      · simp [hm]
      · split
        · simp [hm]
        · split
          · simp [hm]
          · split <;> simp [hm]

@[simp] theorem State.writeReg_wf {s : State} (a v : Nat) (mg : Bool) (hm : Memory.wf s.core.mem) :
    Memory.wf (s.writeReg a v mg).1.core.mem := by
  rw [State.writeReg]
  split
  · simp [hm]
  · split
    · split <;> simp [hm]
    · simp [hm]

/-! ### Machine/Records.lean -/

@[simp] theorem State.recWrite_wf {s : State} (a v : Nat) (hm : Memory.wf s.core.mem) :
    Memory.wf (s.recWrite a v).1.core.mem := by simp [State.recWrite, hm]

@[simp] theorem State.recWin_wf {s : State} (d : Nat) (l : List Nat) (hm : Memory.wf s.core.mem) :
    Memory.wf (s.recWin d l).1.core.mem := by
  induction l generalizing s with
  | nil => exact hm
  | cons v l ih =>
    unfold State.recWin
    dsimp only
    have hw := State.recWrite_wf d v hm
    split
    · exact ih hw
    · exact hw

@[simp] theorem State.applyRec_wf {s : State} (r : Rcd) (due : Option Nat) (hm : Memory.wf s.core.mem) :
    Memory.wf (s.applyRec r due).1.core.mem := by
  cases r with
  | reg a v => exact State.recWrite_wf a v hm
  | win a w l =>
    unfold State.applyRec
    dsimp only
    split
    · exact hm
    · exact State.recWin_wf _ _ (State.recWrite_wf _ _ hm)
  | wait a m v t =>
    cases due <;>
      simpa only [State.applyRec, apply_ite Prod.fst, apply_ite State.core, apply_ite Core.mem, State.readReg_mem,
        ite_self] using hm
  | bad => exact hm

@[simp] theorem State.runRecs_wf (chk : State → Rcd → Nat) (n : Nat) {s : State} (r : RecRun) (hm : Memory.wf s.core.mem) :
    Memory.wf (State.runRecs chk n s r).1.core.mem := by
  induction n generalizing s r with
  | zero => exact hm
  | succ n ih =>
    unfold State.runRecs
    split
    · exact hm
    · exact ih _ hm
    · dsimp only
      have hrec := fun x => State.applyRec_wf x r.due hm
      split
      · exact hm
      · split
        · exact hrec _
        · split
          · exact hrec _
          · split
            · exact ih _ (hrec _)
            · exact hrec _

/-! ### Machine/Boot.lean -/

@[simp] theorem State.stepRecs_wf {s : State} (n : Nat) (hm : Memory.wf s.core.mem) :
    Memory.wf (s.stepRecs n).1.core.mem := by
  unfold State.stepRecs
  dsimp only
  have hrun := State.runRecs_wf anyTarget (s.aon.boot.recs.getD { lists := s.stepLists n }).fuel
    (s.aon.boot.recs.getD { lists := s.stepLists n }) hm
  split
  · simpa using hrun
  · split
    · exact hrun
    · simpa using hrun

@[simp] theorem State.stepWork_wf {s : State} (n : Nat) (r : StepResult) (hm : Memory.wf s.core.mem) :
    Memory.wf (s.stepWork n r).1.core.mem := by
  have hrecs := fun m => State.stepRecs_wf m hm
  have hplace := State.stepRecs_wf 12 (s := if s.aon.boot.recs.isSome then s else s.stepPlace) (by split <;> simp [hm])
  unfold State.stepWork
  dsimp only
  split
  · exact hm
  · split
    case h_8 => split <;> simp [hrecs]
    case h_11 => split <;> simpa using hplace
    case h_13 => split <;> simp [hrecs]
    all_goals simp [hm]

@[simp] theorem State.bootUp_wf {s : State} (hm : Memory.wf s.core.mem) : Memory.wf s.bootUp.core.mem := by
  simp [State.bootUp, hm]

@[simp] theorem State.afterStep_wf {s : State} (n : Nat) (hm : Memory.wf s.core.mem) :
    Memory.wf (s.afterStep n).core.mem := by
  rw [State.afterStep]
  split <;> simp [hm]

@[simp] theorem State.stepFail_wf {s : State} (n st arg : Nat) (hard : Bool) (hm : Memory.wf s.core.mem) :
    Memory.wf (s.stepFail n st arg hard).core.mem := by
  rw [State.stepFail]
  split <;> simp [hm]

@[simp] theorem State.stepComplete_wf {s : State} (r : StepResult) (hm : Memory.wf s.core.mem) :
    Memory.wf (s.stepComplete r).core.mem := by
  rw [State.stepComplete]
  split
  · simp [hm]
  · dsimp only
    split
    · simp [hm]
    · split <;> simp [hm]

@[simp] theorem State.stepExpires_wf {s : State} (x : Nat) (hm : Memory.wf s.core.mem) :
    Memory.wf (s.stepExpires x).core.mem := by simp [State.stepExpires, hm]

/-! ### Machine/HbcCmd.lean -/

@[simp] theorem State.scrubStep_wf {s : State} (sram : Bool) (found : ScrubFind) (hm : Memory.wf s.core.mem) :
    Memory.wf (s.scrubStep sram found).core.mem := by
  have hev : Memory.wf (s.onCore (fun k => k.scrubEv sram found)).core.mem := by
    rw [State.onCore_mem]; exact Core.scrubEv_wf _ _ hm
  unfold State.scrubStep
  dsimp only
  split
  · exact State.locusError_wf _ _ _ hev
  · exact State.locusError_wf _ _ _ hev
  · exact hev

@[simp] theorem State.memErr_wf {s : State} (e : MemErr) (hm : Memory.wf s.core.mem) : Memory.wf (s.memErr e).core.mem := by
  rw [State.memErr]
  split <;> split <;> simp [hm]

@[simp] theorem State.memErrs_wf {s : State} (e : Option MemErr) (hm : Memory.wf s.core.mem) :
    Memory.wf (s.memErrs e).core.mem := by
  cases e with
  | none => exact hm
  | some e =>
    simp only [State.memErrs]
    split
    · exact State.memErr_wf e hm
    · exact hm

@[simp] theorem State.rowRead_wf {s : State} (stack pc bg bank row : Nat) (found : List MemErr) (hm : Memory.wf s.core.mem) :
    Memory.wf (s.rowRead stack pc bg bank row found).core.mem := by
  unfold State.rowRead
  refine foldl_core_wf (fun s e hs => ?_) found s hm
  split
  · exact State.memErr_wf _ hs
  · exact hs

@[simp] theorem State.remap_wf {s : State} (stack pc bg bank row : Nat) (found : List MemErr) (repaired : Bool)
    (hm : Memory.wf s.core.mem) : Memory.wf (s.remap stack pc bg bank row found repaired).core.mem := by
  rw [State.remap]
  split
  · dsimp only
    split <;> simp [hm]
  · simp [hm]

/-! ### Machine/Descriptor.lean -/

@[simp] theorem State.descRun_wf {s : State} (d : DescRun) (hm : Memory.wf s.core.mem) :
    Memory.wf (s.descRun d).core.mem := by
  have hrun := State.runRecs_wf (descLimit d.ctrl) d.recs.fuel d.recs hm
  unfold State.descRun
  dsimp only
  split
  · exact hrun
  · rw [State.onCore_mem]
    split <;> simpa using hrun

@[simp] theorem State.descStep_wf {s : State} (hm : Memory.wf s.core.mem) : Memory.wf s.descStep.core.mem := by
  rw [State.descStep]
  split
  · simp [hm]
  · split
    · simp [hm]
    · dsimp only
      split
      · simp [hm]
      · split <;> simp [hm]

/-! ### Machine/MgmtCmd.lean -/

@[simp] theorem State.mgmtWrite_wf {s : State} (p : Path) (a v : Nat) (hm : Memory.wf s.core.mem) :
    Memory.wf (s.mgmtWrite p a v).core.mem := by
  rw [State.mgmtWrite]
  split <;> simp [hm]

/-! ### Machine/Tick.lean -/

@[simp] theorem State.idle_wf {s : State} (hm : Memory.wf s.core.mem) : Memory.wf s.idle.core.mem := by
  have htick : Memory.wf ((s.tick 8).onCore (fun k => (List.range 16).foldl Core.hopBegin k.shapersTick)).core.mem := by
    rw [State.onCore_mem, foldl_mem Core.hopBegin_mem, Core.shapersTick_mem, State.tick_mem]; exact hm
  unfold State.idle
  dsimp only
  have hdown := State.quRun_wf htick
  rw [← State.powerDownEnd_mem] at hdown
  split
  · exact State.warmBoot_wf _
  · exact hdown

/-! ### Commands -/

theorem State.mgmt_wf {s : State} (stat : Nat) {f : Core → Core × Nat} (hm : Memory.wf s.core.mem)
    (hf : Memory.wf (f s.core).1.mem) : Memory.wf (s.mgmt stat f).core.mem := by
  unfold State.mgmt
  split
  · simpa using hf
  · exact hm

theorem onCore_wf {s : State} {f : Core → Core} (hf : Memory.wf (f s.core).mem) : Memory.wf (s.onCore f).core.mem := by
  rwa [State.onCore_mem]

theorem Core.fireEv_wf {k : Core} (e typ : Nat) {act : Core → Nat → Nat → Nat → Core × Nat}
    (ha : ∀ k g t c, Memory.wf k.mem → Memory.wf (act k g t c).1.mem) (hm : Memory.wf k.mem) :
    Memory.wf (k.fireEv e typ act).mem := by
  unfold Core.fireEv
  split
  · exact hm
  · dsimp only
    split
    · exact hm
    · split
      · exact ha _ _ _ _ (by simpa using hm)
      · split
        · rw [Core.cnt_mem]; exact ha _ _ _ _ (by simpa using hm)
        · rw [Core.refuseEntry_mem]; exact ha _ _ _ _ (by simpa using hm)

theorem State.windowDataAccess_keeps_wf {s : State} (p : Path) (a : Word) (w : Option Word) (hm : Memory.wf s.core.mem) :
    Completes (.windowDataAccess p a w) s (fun t => Memory.wf t.core.mem) := by
  cases w with
  | none => exact .of_exec (exec_windowDataAccess_read s p a) (by simpa using hm)
  | some v => exact .of_exec (exec_windowDataAccess_write s p a v) (State.mgmtWrite_wf _ _ _ hm)

theorem State.routerPacketRx_keeps_wf {s : State} (n : Fin 33) (par : Option (Fin 18)) (mem : Option MemErr)
    (hm : Memory.wf s.core.mem) :
    Completes (.routerPacketRx n par mem) s (fun t => Memory.wf t.core.mem) := by
  unfold Completes
  rw [exec_routerPacketRx, execRouterPacketRx]
  split
  · cases par <;> exact ⟨_, rfl, by simp [hm]⟩
  · exact ⟨s, rfl, hm⟩

theorem State.packetAccept_keeps_wf {s : State} (mem : Option MemErr) (hm : Memory.wf s.core.mem) :
    Completes (.packetAccept mem) s (fun t => Memory.wf t.core.mem) := by
  have hexec : exec (.packetAccept mem) s = execPacketAccept s mem := rfl
  unfold Completes
  rw [hexec, execPacketAccept]
  split
  · exact ⟨s, rfl, hm⟩
  · exact ⟨_, rfl, onCore_wf (Core.settle_wf (Core.packetEv_wf (State.memErrs_wf mem hm)))⟩

theorem State.patTake_keeps_wf {s : State} (u : Fin 256) (mem : Option MemErr) (hm : Memory.wf s.core.mem) :
    Completes (.patTake u mem) s (fun t => Memory.wf t.core.mem) := by
  have hexec : exec (.patTake u mem) s = execPatTake u s mem := rfl
  unfold Completes
  rw [hexec, execPatTake]
  split
  · exact ⟨_, rfl, onCore_wf (Core.settle_wf (Core.patTakeEv_wf _ (State.memErrs_wf mem hm)))⟩
  · exact ⟨s, rfl, hm⟩

theorem State.cipherComplete_keeps_wf {s : State} (u : Fin 160) (e : Option Err) (hm : Memory.wf s.core.mem) :
    Completes (.cipherComplete u e) s (fun t => Memory.wf t.core.mem) := by
  refine .of_exec rfl ?_
  rw [State.alertChk_mem, State.drainEvents_mem]
  refine State.recordSuspects_wf ?_
  rw [State.keySettle_mem]
  exact State.unitWork_wf _ _ _ (fun _ hk => hk) (fun _ hk => Core.settle_wf (Core.completeEv_wf _ hk)) hm

theorem State.hbmControllerFault_keeps_wf {s : State} (n : Fin 8) (hm : Memory.wf s.core.mem) :
    Completes (.hbmControllerFault n) s (fun t => Memory.wf t.core.mem) :=
  .of_exec rfl (by simp [hm])

theorem State.mopArmExpire_keeps_wf {s : State} (hm : Memory.wf s.core.mem) :
    Completes .mopArmExpire s (fun t => Memory.wf t.core.mem) := by
  refine ⟨_, rfl, ?_⟩
  split
  · exact State.wf_ite hm hm
  · exact hm

/-- Every command is one call of the operations above. -/
theorem exec_wf (c : Instr) (s : State) (hm : Memory.wf s.core.mem) : ∃ t, exec c s = .next t ∧ Memory.wf t.core.mem := by
  cases c with
  -- events of the core alone
  | linkTrained | linkStateTimeout | fpcDrainTimeout | linkBlockTx | linkBlockRx | ackTimeout | laneLoss | escTimeout
  | epochIdle | flowDrainTimeout | nackTimeout | resendTimeout | cmplAckRx | cmplNackRx | ctrlMsgBad
  | custodyRecordOpen | chunkGrant | chunkStaged | heldContribTimeout | rxstageRerequest | chunkTimeout
  | chunkReleaseTimeout | parkTimeout | ctxDrainTimeout | abortRx | rankOrthonormalize | bufferRequestServed
  | heldKeyRetire | rekeyReadyRx | rekeyRetiredRx | cipherDispatch | itemHandover | schSelect | schDrainTimeout
  | gateTakeover | queueSample | ttSample | sourceTimeout | holdoverLimit | segmentEnd | ttNop | ttSlotclass
  | ttGate | ttEpoch | ttKeyswitch | ttDecode | ttHop | ttShard | ttAster | ttSiteEpoch | linePortOn
  | lineTrainTimeout | laneMarkerRx | frameTx | frameRx | rawDefectSet | rawDefectClear | sdsfWindowEnd
  | defectDeclared | defectCleared | pmSecond | groupOn | groupStartTimeout | positionReady | addAnnounce
  | addTimeout | rowRx | gccHeadTimeout | retryTimeout | retryFramesRx | retrySegmentRx | retryGoneRx
  | retryCopyExpire | marginRx | stepLedgerRx | moduleInterrupt | moduleBringupDone | modulePoll | fadeSample
  | marginSend | spareAddRetry | hopNotice | hopReadback | hopGuardEnd | hopStrobeFall | hopWindowEnd | healthScore
  | siteEpochIdle | siteAutoSwitch | sitePartition | siteReconnect | ledgerResend | ledgerTmo | datagramSend
  | tlmFrameRx | tlmLinkChange | ppsOutRise | genHoldExpire | moduleAccessDone =>
    exact ⟨_, rfl, onCore_wf (by simp [hm])⟩
  -- commands to a block of the core, and words of its tables
  | fpcPortEnable | fpcPortDisable | epochWclose | epochSetCur | flowEnable | flowDisable | recordClose
  | cleCtxEnable | cleCtxDisable | cleStart | xfmSetEnc | xfmInvalidate | poolEnable | poolDisable | bpmAlloc
  | bpmFree | hbcRetire | keyLoad | keySwitch | keyRetire | keyZeroize | gclArm | gclDisarm | hclear | timeXferEnable
  | timeXferDisable | todArm | segmentEnable | segmentDisable | shardCmd | linePortEnable | linePortDisable
  | groupEnable | groupDisable | groupAdd | groupRemove | groupCancel | lsafeSet | lsafeRel | rebase | clearExpel
  | moduleAccess | siteEpochWclose | siteEpochSetCur | asterSchedule | asterCancel =>
    exact ⟨_, rfl, State.mgmt_wf _ hm (by simp [hm])⟩
  | rtTblWrite | circTblWrite | flowCtxWrite | recordOpen | cleCtxWrite | tableLoad | rankDescWrite | srtTblWrite
  | jobEntryWrite =>
    exact ⟨_, rfl, by simp [hm]⟩
  | ttStart e =>
    exact ⟨_, rfl, onCore_wf (Core.fireEv_wf _ _ (fun _ _ _ _ hk => Core.startTt_wf _ _ _ _ hk) hm)⟩
  -- management frames
  | registerWrite => exact ⟨_, rfl, State.mgmtWrite_wf _ _ _ hm⟩
  | windowDataAccess p a w => exact State.windowDataAccess_keeps_wf p a w hm
  | rcRead | lowWordRead | mgmtFrameAbort | mgmtReservedOpcode | mgmtFrameBusy | commandCrcWrong | i3cCcc | shadowRead =>
    exact ⟨_, rfl, by simp [hm]⟩
  -- events, the log and the telemetry
  | stewardRestart | eventRateEmit | eventLogWrite | asterLatch | asterDone => exact ⟨_, rfl, by simp [hm]⟩
  -- packets and the work of a unit, with the errors they meet
  | routerPacketRx n par mem => exact State.routerPacketRx_keeps_wf n par mem hm
  | packetAccept mem => exact State.packetAccept_keeps_wf mem hm
  | patTake u mem => exact State.patTake_keeps_wf u mem hm
  | patRound | skimBlock | expandBlock | pressBlock =>
    exact ⟨_, rfl, State.unitWork_wf _ _ _ (fun _ hk => by simp [hk]) (fun _ hk => by simp [hk]) hm⟩
  | checksumCheck => exact ⟨_, rfl, State.recordSuspects_wf (onCore_wf (by simp [hm]))⟩
  | cipherComplete u e => exact State.cipherComplete_keeps_wf u e hm
  | keyLoadDone => exact ⟨_, rfl, by simp [hm]⟩
  | descriptorRx => exact ⟨_, rfl, State.descStep_wf hm⟩
  -- memory
  | scrubStep => exact ⟨_, rfl, State.scrubStep_wf _ _ hm⟩
  | rowRemap => exact ⟨_, rfl, State.remap_wf _ _ _ _ _ _ _ hm⟩
  | hbmControllerFault n => exact State.hbmControllerFault_keeps_wf n hm
  -- time
  | ptpMessageRx | ppsInEdge => exact ⟨_, rfl, State.wf_ite (by simp [hm]) hm⟩
  -- the router's switch, the start, the flash and the OTP banks
  | routerEnable | routerDisable => exact ⟨_, rfl, by simp [hm]⟩
  | powerOn | coldReset => exact ⟨_, rfl, s.coldBoot_wf _⟩
  | bootWarm => exact ⟨_, rfl, State.bootCtrl_wf _ hm⟩
  | bootStepComplete => exact ⟨_, rfl, State.stepComplete_wf _ hm⟩
  | bootStepLimit => exact ⟨_, rfl, State.stepExpires_wf _ hm⟩
  | nvmErase | nvmProgram | nvmVerify => exact ⟨_, rfl, by simp [hm]⟩
  | nvmCommandDone => exact ⟨_, rfl, State.nvmDone_wf hm⟩
  | otpSite | otpRollbackInc | otpKekFirst | otpKekNext | otpLinemask | otpDebugLock | otpRootHash =>
    exact ⟨_, rfl, by simp [hm]⟩
  | otpWriteDone => exact ⟨_, rfl, State.otpDone_wf hm⟩
  -- Marigold's operations
  | mopArm => exact ⟨_, rfl, by simp [hm]⟩
  | mopArmExpire => exact State.mopArmExpire_keeps_wf hm
  | zeroize | laserSafe | hardReset | readPower | readEvents | readJournal => exact ⟨_, rfl, State.mopWrite_wf _ hm⟩
  | zeroizeNAssert => exact ⟨_, rfl, State.mopZeroize_wf true hm⟩
  | dbgEnter => exact ⟨_, rfl, State.dbgEnter_wf hm⟩
  -- power and temperature
  | pwrEnRise => exact ⟨_, rfl, State.enRise_wf hm⟩
  | pwrEnFall => exact ⟨_, rfl, State.enFall_wf hm⟩
  | prsntNRelease => exact ⟨_, rfl, State.wf_ite (State.powerFail_wf hm) hm⟩
  | inputUndervoltage | inputOvervoltage | inputOvercurrent => exact ⟨_, rfl, State.wf_ite (State.inputLost_wf hm) hm⟩
  | inputAlarm => exact ⟨_, rfl, State.inputAlarm_wf _ _ _ hm⟩
  | quiesceRequest => exact ⟨_, rfl, State.quRequest_wf hm⟩
  | quiesceEnd => exact ⟨_, rfl, by simp [hm]⟩
  | quiesceTimeout => exact ⟨_, rfl, State.quRun_wf hm⟩
  | thermalSample => exact ⟨_, rfl, State.thermalSample_wf _ hm⟩
  | tempStepEnd => exact ⟨_, rfl, by simp [hm]⟩
  | refclkLoss => exact ⟨_, rfl, State.mopHardReset_wf _⟩
  | pllUnlock => exact ⟨_, rfl, State.pllLoss_wf _ hm⟩
  | pllLock => exact ⟨_, rfl, by simp [hm]⟩
  | locusCountClear => exact ⟨_, rfl, State.wf_ite hm hm⟩
  | soakPass => exact ⟨_, rfl, State.soak_wf _ _ hm⟩
  | elcQuarantine | elcRelease => exact ⟨_, rfl, State.elcCmd_wf _ _ hm⟩

/-- Settles O58: a step runs a command or lets a tick pass; both keep the canonical form. -/
theorem memoryStaysCanonical : Obligations.MemoryStaysCanonical := by
  intro s t hstep hm
  unfold step at hstep
  split at hstep
  · rw [← Host.Outcome.next.inj hstep]
    exact State.idle_wf hm
  · next c rest _ =>
    obtain ⟨u, hu, hwf⟩ := exec_wf c { s with pending := rest } hm
    rw [← Host.Outcome.next.inj (hu.symm.trans hstep)]
    exact hwf

end Sys2Proof.Machine
end

section
/-!
PROOFS. Buffer pools (07_buffers_memory R201 to R209): a pool's start, drain and buffers, lending, return, and the request a
pool serves.
-/

namespace Sys2Proof.Machine

open Sys2Proof

/-! ### Cells of a sparse map -/

theorem mem_of_lookupCell_ne {α : Type} {d : α} {a : Nat} : ∀ {l : List (Nat × α)}, lookupCell d a l ≠ d →
    (a, lookupCell d a l) ∈ l
  | [], h => absurd rfl h
  | (j, v) :: l, h => by
    by_cases hj : j = a
    · simp [lookupCell, hj]
    · rw [lookupCell, if_neg hj] at h ⊢
      exact List.mem_cons_of_mem _ (mem_of_lookupCell_ne h)

/-- A key that does not read as the default stands in a cell. -/
theorem mem_cells_of_get_ne {α : Type} {m : SMap α} {d : α} {a : Nat} (h : m.get d a ≠ d) : (a, m.get d a) ∈ m.cells :=
  mem_of_lookupCell_ne h

theorem get_foldl_clear (l : List (Nat × Nat)) : ∀ (m : SMap Nat) (a : Nat),
    (l.foldl (fun (m : SMap Nat) (c : Nat × Nat) => m.set 0 c.1 0) m).get 0 a =
      if a ∈ l.map Prod.fst then 0 else m.get 0 a := by
  induction l with
  | nil => exact fun m a => by simp
  | cons c l ih =>
    intro m a
    rw [List.foldl_cons, ih, SMap.get_set, List.map_cons]
    by_cases hl : a ∈ l.map Prod.fst
    · rw [if_pos hl, if_pos (List.mem_cons_of_mem _ hl)]
    · rw [if_neg hl]
      simp only [List.mem_cons, hl, or_false]

/-! ### The buffers lent and free -/

section
variable (k : Core) {p : Nat}

theorem Core.lent_of_same {k k' : Core} (hb : k'.bpm = k.bpm) (ht : k'.tbl = k.tbl) (p : Nat) : k'.lent p = k.lent p := by
  simp only [Core.lent, Core.pool, Core.tb, hb, ht]

theorem Core.pool_of_tbl {k k' : Core} (ht : k'.tbl = k.tbl) (p : Nat) : k'.pool p = k.pool p := by
  simp only [Core.pool, Core.tb, ht]

/-- An address of the pool that reads as lent is among its lent buffers. -/
theorem Core.mem_lent {a : Nat} (hp : (k.pool p).holds a = true) (ha : k.bpm.alloc.get 0 a ≠ 0) :
    a ∈ (k.lent p).map Prod.fst :=
  List.mem_map.2 ⟨_, List.mem_filter.2 ⟨mem_cells_of_get_ne ha, hp⟩, rfl⟩

theorem Core.holds_of_mem_lent {a : Nat} (h : a ∈ (k.lent p).map Prod.fst) : (k.pool p).holds a = true := by
  obtain ⟨c, hc, rfl⟩ := List.mem_map.1 h
  exact (List.mem_filter.1 hc).2

theorem bufSize_pos (n : Nat) : 0 < bufSize n := by
  unfold bufSize
  split <;> decide

/-- The addresses of the pool's buffers, lent or free. -/
def PoolCfg.bufs (c : PoolCfg) : List Nat := (List.range c.count).map (fun i => c.addr + i * bufSize c.size)

theorem Core.freeBufs_eq : k.freeBufs p = (k.pool p).bufs.filter (fun a => k.bpm.alloc.get 0 a == 0) := rfl

theorem PoolCfg.bufs_nodup (c : PoolCfg) : c.bufs.Nodup :=
  List.Nodup.map (fun _ _ h => Nat.eq_of_mul_eq_mul_right (bufSize_pos _) (Nat.add_left_cancel h)) List.nodup_range

theorem PoolCfg.holds_of_mem_bufs {c : PoolCfg} {a : Nat} (h : a ∈ c.bufs) : c.holds a = true := by
  obtain ⟨i, hi, rfl⟩ := List.mem_map.1 h
  have hlt := Nat.mul_lt_mul_of_pos_right (List.mem_range.1 hi) (bufSize_pos c.size)
  exact decide_eq_true ⟨Nat.le_add_right _ _, Nat.add_lt_add_left hlt _⟩

/-- A pool with fewer buffers lent than it has has a free one. -/
theorem Core.freeBufs_ne_nil (h : (k.lent p).length < (k.pool p).count) : k.freeBufs p ≠ [] := by
  intro hnil
  rw [k.freeBufs_eq, List.filter_eq_nil_iff] at hnil
  have hsub : (k.pool p).bufs ⊆ (k.lent p).map Prod.fst := fun a ha =>
    k.mem_lent (PoolCfg.holds_of_mem_bufs ha) (by simpa using hnil a ha)
  have hle := ((k.pool p).bufs_nodup.subperm hsub).length_le
  simp only [PoolCfg.bufs, List.length_map, List.length_range] at hle
  omega

theorem Core.freeBufs_ne_nil_of_mayTake {o : Nat} (hon : k.fst (.pool p) = .on) (h : k.mayTake p o = true) :
    k.freeBufs p ≠ [] := by
  simp only [Core.mayTake, Core.poolFree, hon, decide_eq_true_eq] at h
  exact k.freeBufs_ne_nil (by omega)

/-- Lending takes a free buffer, whichever (R206). -/
theorem Core.lend_takes_free (o : Nat) (h : k.freeBufs p ≠ []) : ∃ a ∈ k.freeBufs p, (k.lend p o).2 = addrPtr a ∧
    (k.lend p o).1.bpm = { k.bpm with alloc := k.bpm.alloc.set 0 a (o + 1), rr := k.bpm.rr.set 0 p ((o + 1) % 64) } := by
  have hlt : Config.freeBuffer k.free % (k.freeBufs p).length < (k.freeBufs p).length :=
    Nat.mod_lt _ (List.length_pos_of_ne_nil h)
  refine ⟨_, ?_, rfl, rfl⟩
  rw [List.getD_eq_getElem _ _ hlt]
  exact List.getElem_mem hlt

theorem Core.bufWork_lend (p o : Nat) : k.BufWork (k.lend p o).1 := ⟨⟨_, _, _, rfl⟩, Core.onlyRegs_of_regs rfl⟩

/-! ### A pool's function -/

theorem Core.onlyParts_setFst_pool {l : List Part} (hl : Part.fns ∈ l) (p : Nat) (n : FState) (st : Nat) :
    k.onlyParts l (k.setFst (.pool p) n st) := by
  intro q hq
  cases q
  case fns => exact absurd hl hq
  case cle => exact k.setFst_pool_cle n st
  all_goals simp [Part.same]

/-- A pool starts with every buffer free (R203). -/
theorem Core.alloc_poolStart (p a : Nat) :
    (Core.poolStart p k).bpm.alloc.get 0 a = if (k.pool p).holds a then 0 else k.bpm.alloc.get 0 a := by
  have hstart : (Core.poolStart p k).bpm.alloc =
      (k.lent p).foldl (fun (m : SMap Nat) (c : Nat × Nat) => m.set 0 c.1 0) k.bpm.alloc := by
    rw [Core.poolStart, Core.setFst_bpm]
  rw [hstart, get_foldl_clear]
  by_cases hm : a ∈ (k.lent p).map Prod.fst
  · rw [if_pos hm, if_pos (k.holds_of_mem_lent hm)]
  · rw [if_neg hm]
    by_cases hh : (k.pool p).holds a = true
    · have h0 : k.bpm.alloc.get 0 a = 0 := by_contra fun hne => hm (k.mem_lent hh hne)
      rw [if_pos hh, h0]
    · rw [if_neg hh]

theorem Core.only_poolStart {l : List Part} {r : List Nat} (hf : Part.fns ∈ l) (hb : Part.bpm ∈ l) (p : Nat) :
    k.onlyParts l (Core.poolStart p k) ∧ k.onlyRegs r (Core.poolStart p k) :=
  ⟨Core.onlyParts_trans (Core.onlyParts_bpm hb _) (Core.onlyParts_setFst_pool _ hf _ _ _),
    Core.onlyRegs_trans (Core.onlyRegs_of_regs rfl) (Core.onlyRegs_setFst _ _ _)⟩

theorem Core.poolCmd_enable (h : k.fst (.pool p) = .off)
    (hck : Core.poolCheck p (k.setFst (.pool p) .starting stOk) = stOk) :
    k.poolCmd 1 p = (Core.poolStart p (k.setFst (.pool p) .starting stOk), stOk) := by
  unfold Core.poolCmd Core.fnEnable Core.fnStart
  rw [h]
  exact if_pos hck

theorem Core.poolCmd_disable (h : k.fst (.pool p) = .on) :
    k.poolCmd 2 p = (Core.poolChk p (k.setFst (.pool p) .draining stOk), stOk) := by
  have hcmd : k.poolCmd 2 p = k.fnDisable (.pool p) (Core.poolChk p) id := rfl
  rw [hcmd, Core.fnDisable, h]

/-! ### A drain that may have ended (R209) -/

theorem Core.poolChk_of_lent (h : k.lent p ≠ []) : Core.poolChk p k = k := by
  rw [Core.poolChk, if_neg (by simpa using h)]

theorem Core.poolChk_of_all_back (h : k.lent p = []) :
    Core.poolChk p k = k.fnDrained (.pool p) stOk (Core.poolCheck p) (Core.poolStart p) := by
  rw [Core.poolChk, if_pos (by simpa using h)]

/-- The pool's start with every buffer back changes no buffer. -/
theorem Core.poolStart_bpm (h : k.lent p = []) : (Core.poolStart p k).bpm = k.bpm := by
  rw [Core.poolStart, Core.setFst_bpm, h]
  rfl

/-- The end of a drain, and the start that may follow it, change no buffer. -/
theorem Core.poolChk_bpm : (Core.poolChk p k).bpm = k.bpm := by
  by_cases hl : k.lent p = []
  · rw [k.poolChk_of_all_back hl]
    refine (Core.fnDrained_keeps (P := fun k' => k'.bpm = k.bpm ∧ k'.tbl = k.tbl)
      (fun _ _ _ h => ⟨(Core.setFst_bpm _ _ _ _).trans h.1, (Core.setFst_tbl _ _ _ _).trans h.2⟩)
      (fun _ _ h => ⟨(Core.setFn_bpm _ _ _).trans h.1, (Core.setFn_tbl _ _ _).trans h.2⟩)
      (fun k' h => ⟨?_, ?_⟩) ⟨rfl, rfl⟩ _ _).1
    · exact (k'.poolStart_bpm ((Core.lent_of_same h.1 h.2 p).trans hl)).trans h.1
    · rw [Core.poolStart, Core.setFst_tbl]
      exact h.2
  · rw [k.poolChk_of_lent hl]

theorem Core.onlyRegs_poolChk (r : List Nat) (p : Nat) : k.onlyRegs r (Core.poolChk p k) := by
  by_cases hl : k.lent p = []
  · rw [k.poolChk_of_all_back hl]
    exact Core.fnDrained_keeps (P := k.onlyRegs r) (fun _ _ _ h => Core.onlyRegs_trans h (Core.onlyRegs_setFst _ _ _))
      (fun _ _ h => Core.onlyRegs_trans h (Core.onlyRegs_setFn _ _))
      (fun k' h => Core.onlyRegs_trans h (k'.only_poolStart (l := [.fns, .bpm]) (by simp) (by simp) p).2)
      (Core.onlyRegs_refl _ _) _ _
  · rw [k.poolChk_of_lent hl]
    exact Core.onlyRegs_refl _ _

/-- An ON pool disabled with no ENABLE pending. -/
theorem Core.poolChk_disabled (hpend : (k.fn (.pool p)).pend = false) :
    (Core.poolChk p (k.setFst (.pool p) .draining stOk)).fst (.pool p) = (if k.lent p = [] then .off else .draining) ∧
      k.onlyParts [.fns] (Core.poolChk p (k.setFst (.pool p) .draining stOk)) := by
  have hlent : (k.setFst (.pool p) .draining stOk).lent p = k.lent p :=
    Core.lent_of_same (Core.setFst_bpm _ _ _ _) (Core.setFst_tbl _ _ _ _) p
  have hdrain := k.onlyParts_setFst_pool (l := [.fns]) (by simp) p .draining stOk
  by_cases hl : k.lent p = []
  · rw [if_pos hl, Core.poolChk_of_all_back _ (hlent.trans hl),
      Core.fnDrained_of_no_pend _ (Core.fst_setFst_same _ _ _ _) (by rw [Core.fn_setFst_same]; exact hpend)]
    exact ⟨Core.fst_setFn_pend _ _ _ _ _, Core.onlyParts_trans hdrain (Core.onlyParts_trans
      (Core.onlyParts_setFst_pool _ (by simp) _ _ _) (Core.onlyParts_setFn (by simp) _ _))⟩
  · rw [if_neg hl, Core.poolChk_of_lent _ (by rw [hlent]; exact hl)]
    exact ⟨Core.fst_setFst_same _ _ _ _, hdrain⟩

/-! ### A buffer given back (R208) -/

theorem Core.ptrCheck_lt (ptr owner : Nat) : k.ptrCheck ptr owner < 256 := by
  unfold Core.ptrCheck
  dsimp only
  split
  · decide
  split
  · decide
  split
  · decide
  split
  · decide
  split <;> decide

/-- A pointer that passes the checks lies in a pool. -/
theorem Core.poolOf_of_ptrCheck {ptr owner : Nat} (h : k.ptrCheck ptr owner = stOk) : ∃ p, k.poolOf (ptrAddr ptr) = some p := by
  cases hp : k.poolOf (ptrAddr ptr) with
  | some p => exact ⟨p, rfl⟩
  | none =>
    unfold Core.ptrCheck at h
    dsimp only at h
    rw [hp] at h
    split at h
    · exact absurd h (by decide)
    · have hrange : stRange = stOk := h
      exact absurd hrange (by decide)

/-- The return of a pointer that passes the checks frees its buffer alone. -/
theorem Core.returnBuf_ok {ptr owner : Nat} (h : k.ptrCheck ptr owner = stOk) :
    (k.returnBuf ptr owner).2 = stOk ∧
      (k.returnBuf ptr owner).1.bpm = { k.bpm with alloc := k.bpm.alloc.set 0 (ptrAddr ptr) 0 } ∧
      ∀ r, k.onlyRegs r (k.returnBuf ptr owner).1 := by
  obtain ⟨p, hp⟩ := k.poolOf_of_ptrCheck h
  have hret : k.returnBuf ptr owner =
      (Core.poolChk p { k with bpm := { k.bpm with alloc := k.bpm.alloc.set 0 (ptrAddr ptr) 0 } }, stOk) := by
    rw [Core.returnBuf, if_pos h, hp]
  rw [hret]
  exact ⟨rfl, Core.poolChk_bpm _, fun r => Core.onlyRegs_trans (Core.onlyRegs_of_regs rfl) (Core.onlyRegs_poolChk _ r p)⟩

/-- One that fails them is counted and reported. -/
theorem Core.returnBuf_bad {ptr owner : Nat} (h : k.ptrCheck ptr owner ≠ stOk) :
    ∃ src, k.returnBuf ptr owner = ((k.cnt Reg.BPM_BADRET_CNT).emitLim src 0x0601 0 64 30
      [(107, 102, owner), (101, 94, k.ptrCheck ptr owner), (63, 0, ptr)], k.ptrCheck ptr owner) := by
  rw [Core.returnBuf, if_neg h]
  exact ⟨_, rfl⟩

end

/-! ### The pool manager's commands -/

/-- A write to the pool manager's block that leaves `k` with the status `st`. -/
theorem State.mgmt_bpmCmd {s t : State} {f : Core → Core × Nat} {k : Core} {st : Nat} (ha : s.answers = true)
    (hk : f s.core = (k, st)) (hst : st < 256) (ht : t = s.mgmt Reg.BPM_STAT f) :
    t.core.bpm = k.bpm ∧ t.core.fns = k.fns ∧ (∀ a, ¬ evReg a → a ≠ Reg.BPM_STAT → t.core.rd a = k.rd a) ∧
      t.core.fd Reg.BPM_STAT 7 0 = st ∧
      ∀ (l : List Part) (r : List Nat), Reg.BPM_STAT ∈ r → s.core.onlyParts l k → s.core.onlyRegs r k → s.only l r t := by
  have hk1 : (f s.core).1 = k := congrArg Prod.fst hk
  subst ht
  refine ⟨by rw [State.mgmt_bpm _ ha, hk1], by rw [State.mgmt_fns _ ha, hk1], fun a he hs => ?_, ?_,
    fun l r hr hp hg => State.only_mgmt s ha _ f hr (hk1 ▸ hp) (hk1 ▸ hg)⟩
  · rw [State.rd_mgmt _ ha _ _ he hs, hk1]
  · rw [State.mgmt_status _ ha _ _ (by simp [evReg]), hk, Nat.mod_eq_of_lt hst]

/-- ENABLE of an OFF pool that passes its checks. -/
theorem State.poolEnable_starts {p : Fin 64} {s t : State} (ha : s.answers = true) (h : s.core.fst (.pool p) = .off)
    (hck : Core.poolCheck p (s.core.setFst (.pool p) .starting stOk) = stOk)
    (ht : t = s.mgmt Reg.BPM_STAT (fun k => k.poolCmd 1 p)) :
    t.core.fst (.pool p) = .on ∧
      (∀ a, t.core.bpm.alloc.get 0 a = if (s.core.pool p).holds a then 0 else s.core.bpm.alloc.get 0 a) ∧
      t.core.fd Reg.BPM_STAT 7 0 = stOk ∧ s.only [.fns, .bpm] [Reg.BPM_STAT] t := by
  obtain ⟨hbpm, hfns, -, hst, honly⟩ := State.mgmt_bpmCmd ha (s.core.poolCmd_enable h hck) (by decide) ht
  have hstart := (s.core.setFst (.pool p) .starting stOk).only_poolStart (l := [.fns, .bpm]) (r := [Reg.BPM_STAT])
    (by simp) (by simp) p
  refine ⟨?_, fun a => ?_, hst, honly _ _ (by simp) ?_ ?_⟩
  · rw [Core.fst_of_fns hfns]
    exact Core.fst_setFst_same _ _ _ _
  · rw [hbpm, Core.alloc_poolStart, Core.pool_of_tbl (Core.setFst_tbl _ _ _ _), Core.setFst_bpm]
  · exact Core.onlyParts_trans (Core.onlyParts_setFst_pool _ (by simp) _ _ _) hstart.1
  · exact Core.onlyRegs_trans (Core.onlyRegs_setFst _ _ _) hstart.2

/-- DISABLE of an ON pool. -/
theorem State.poolDisable_drains {p : Fin 64} {s t : State} (ha : s.answers = true) (h : s.core.fst (.pool p) = .on)
    (hpend : (s.core.fn (.pool p)).pend = false) (ht : t = s.mgmt Reg.BPM_STAT (fun k => k.poolCmd 2 p)) :
    t.core.fst (.pool p) = (if s.core.lent p = [] then .off else .draining) ∧
      t.core.fd Reg.BPM_STAT 7 0 = stOk ∧ s.only [.fns] [Reg.BPM_STAT] t := by
  obtain ⟨-, hfns, -, hst, honly⟩ := State.mgmt_bpmCmd ha (s.core.poolCmd_disable h) (by decide) ht
  obtain ⟨hfst, hparts⟩ := s.core.poolChk_disabled hpend
  exact ⟨(Core.fst_of_fns hfns _).trans hfst, hst, honly _ _ (by simp) hparts
    (Core.onlyRegs_trans (Core.onlyRegs_setFst _ _ _) (Core.onlyRegs_poolChk _ _ _))⟩

/-- ALLOC for an owner that may take a buffer (R207). -/
theorem State.bpmAlloc_lends {p o : Fin 64} {s t : State} (ha : s.answers = true) (h : s.core.fst (.pool p) = .on)
    (hm : s.core.mayTake p o = true) (ht : t = s.mgmt Reg.BPM_STAT (fun k => k.allocCmd p o)) :
    (∃ a ∈ s.core.freeBufs p,
        t.core.bpm.alloc = s.core.bpm.alloc.set 0 a (o.val + 1) ∧ t.core.bpm.rr = s.core.bpm.rr.set 0 p ((o.val + 1) % 64) ∧
        t.core.rd Reg.BPM_ALLOC_PTR_LO = addrPtr a % 2 ^ 32 ∧ t.core.rd Reg.BPM_ALLOC_PTR_HI = addrPtr a / 2 ^ 32 % 2 ^ 32) ∧
      t.core.fd Reg.BPM_STAT 7 0 = stOk ∧
      s.only [.bpm, .free] [Reg.BPM_ALLOC_PTR_LO, Reg.BPM_ALLOC_PTR_HI, Reg.BPM_STAT] t := by
  have hcmd : s.core.allocCmd p o = (((s.core.lend p o).1.wr Reg.BPM_ALLOC_PTR_LO (s.core.lend p o).2).wr
      Reg.BPM_ALLOC_PTR_HI ((s.core.lend p o).2 >>> 32), stOk) := by
    rw [Core.allocCmd, h]
    exact if_pos hm
  obtain ⟨hbpm, -, hrd, hst, honly⟩ := State.mgmt_bpmCmd ha hcmd (by decide) ht
  obtain ⟨a, hfree, hptr, hlend⟩ := s.core.lend_takes_free o (s.core.freeBufs_ne_nil_of_mayTake h hm)
  have hwork := s.core.bufWork_lend p o
  rw [Core.wr_bpm, Core.wr_bpm, hlend] at hbpm
  refine ⟨⟨a, hfree, by rw [hbpm], by rw [hbpm], ?_, ?_⟩, hst, honly _ _ (by simp) ?_ ?_⟩
  · rw [hrd _ (by unfold evReg; decide) (by decide), Core.rd_wr_ne _ (by decide), Core.rd_wr_same, hptr]
  · rw [hrd _ (by unfold evReg; decide) (by decide), Core.rd_wr_same, hptr, Nat.shiftRight_eq_div_pow]
  · exact Core.onlyParts_trans (hwork.parts (by simp) (by simp))
      (Core.onlyParts_trans (Core.onlyParts_wr _ _) (Core.onlyParts_wr _ _))
  · exact Core.onlyRegs_trans (Core.onlyRegs_of_regs rfl)
      (Core.onlyRegs_trans (Core.onlyRegs_wr (by simp) _) (Core.onlyRegs_wr (by simp) _))

/-- ALLOC for an owner that may not. -/
theorem State.bpmAlloc_busy {p o : Fin 64} {s t : State} (ha : s.answers = true) (h : s.core.fst (.pool p) = .on)
    (hm : s.core.mayTake p o = false) (ht : t = s.mgmt Reg.BPM_STAT (fun k => k.allocCmd p o)) :
    t.core.fd Reg.BPM_STAT 7 0 = stBusy ∧
      t.core.rd Reg.BPM_ALLOC_BUSY_CNT = min (s.core.rd Reg.BPM_ALLOC_BUSY_CNT + 1) (2 ^ 32 - 1) ∧
      s.only [] [Reg.BPM_ALLOC_BUSY_CNT, Reg.BPM_STAT] t := by
  have hcmd : s.core.allocCmd p o = (s.core.cnt Reg.BPM_ALLOC_BUSY_CNT, stBusy) := by
    rw [Core.allocCmd, h]
    exact if_neg (by simp [hm])
  obtain ⟨-, -, hrd, hst, honly⟩ := State.mgmt_bpmCmd ha hcmd (by decide) ht
  refine ⟨hst, ?_, honly _ _ (by simp) (Core.onlyParts_cnt _) (Core.onlyRegs_cnt (by simp))⟩
  rw [hrd _ (by unfold evReg; decide) (by decide), Core.rd_cnt_same]

/-- FREE of a pointer that passes the checks. -/
theorem State.bpmFree_frees {ptr owner : Nat} {s t : State} {f : Core → Core × Nat} (ha : s.answers = true)
    (hf : f s.core = s.core.returnBuf ptr owner) (h : s.core.ptrCheck ptr owner = stOk) (ht : t = s.mgmt Reg.BPM_STAT f) :
    t.core.bpm.alloc.get 0 (ptrAddr ptr) = 0 ∧
      (∀ a, a ≠ ptrAddr ptr → t.core.bpm.alloc.get 0 a = s.core.bpm.alloc.get 0 a) ∧
      t.core.fd Reg.BPM_STAT 7 0 = stOk ∧ s.only [.bpm, .fns] [Reg.BPM_STAT] t := by
  obtain ⟨hok, hret, hregs⟩ := s.core.returnBuf_ok h
  have hk : f s.core = ((s.core.returnBuf ptr owner).1, stOk) := by rw [hf, ← hok]
  obtain ⟨hbpm, -, -, hst, honly⟩ := State.mgmt_bpmCmd ha hk (by decide) ht
  rw [hret] at hbpm
  refine ⟨?_, fun a hne => ?_, hst, honly _ _ (by simp) (s.core.returned_returnBuf ptr owner).parts (hregs _)⟩
  · rw [hbpm]
    exact SMap.get_set_same _ _ _ _
  · rw [hbpm]
    exact SMap.get_set_ne _ _ _ hne _

/-- FREE of one that does not. -/
theorem State.bpmFree_refused {ptr owner : Nat} {s t : State} {f : Core → Core × Nat} (ha : s.answers = true)
    (hf : f s.core = s.core.returnBuf ptr owner) (h : s.core.ptrCheck ptr owner ≠ stOk) (ht : t = s.mgmt Reg.BPM_STAT f) :
    t.core.fd Reg.BPM_STAT 7 0 = s.core.ptrCheck ptr owner ∧
      t.core.rd Reg.BPM_BADRET_CNT = min (s.core.rd Reg.BPM_BADRET_CNT + 1) (2 ^ 32 - 1) ∧
      s.only [] [Reg.BPM_BADRET_CNT, Reg.BPM_STAT] t := by
  obtain ⟨src, hret⟩ := s.core.returnBuf_bad h
  obtain ⟨-, -, hrd, hst, honly⟩ := State.mgmt_bpmCmd ha (hf.trans hret) (s.core.ptrCheck_lt ptr owner) ht
  refine ⟨hst, ?_, honly _ _ (by simp) ?_ ?_⟩
  · rw [hrd _ (by unfold evReg; decide) (by decide), Core.rd_emitLim _ _ _ _ _ _ _ (by unfold evReg; decide),
      Core.rd_cnt_same]
  · exact Core.onlyParts_trans (Core.onlyParts_cnt _) (Core.onlyParts_emitLim _ _ _ _ _ _)
  · exact Core.onlyRegs_trans (Core.onlyRegs_cnt (by simp)) (Core.onlyRegs_emitLim _ _ _ _ _ _)

/-! ### The request a pool serves (R206, R25) -/

section
variable {k : Core} {p o : Nat} {r : BufReq}

/-- The request served is the owner's, and the pool would serve it. -/
theorem Core.waitServable_spec {below : Bool} (h : k.waitServable p o below = some r) :
    r.owner = o ∧ k.servePool r = some p := by
  unfold Core.waitServable at h
  split at h
  · exact absurd h (by simp)
  · have hmem := (List.mem_filter.1 (List.mem_of_find?_eq_some h)).2
    have hserve := List.find?_some h
    exact ⟨by simpa using hmem, by simpa using hserve⟩

theorem Core.pickPool_spec {size mem : Nat} (h : k.pickPool o size mem = some p) :
    k.fst (.pool p) = .on ∧ k.mayTake p o = true := by
  have hp := List.find?_some h
  simp only [Bool.and_eq_true, Core.isOn, beq_iff_eq] at hp
  obtain ⟨⟨⟨hon, -⟩, -⟩, hm⟩ := hp
  exact ⟨hon, hm⟩

theorem Core.servePool_spec (h : k.servePool r = some p) : k.fst (.pool p) = .on ∧ k.mayTake p r.owner = true := by
  unfold Core.servePool at h
  split at h
  next q hq =>
    obtain rfl := Option.some.inj h
    exact Core.pickPool_spec hq
  next =>
    split at h
    · exact Core.pickPool_spec h
    · exact absurd h (by simp)

/-- The first owner below its minimum from the rotating pointer on is served before the others. -/
theorem Core.poolPick_below (hpick : rrPick 64 (k.bpm.rr.get 0 p) (fun o => (k.waitServable p o true).isSome) = some o)
    (h : k.waitServable p o true = some r) : k.poolPick p = some r := by
  simp only [Core.poolPick, hpick, Option.bind_some, h]

/-- The first of a range to have a value. -/
theorem findSome_range {α : Type} {f : Nat → Option α} {n m : Nat} {x : α} (hm : m < n) (hlow : ∀ j, j < m → f j = none)
    (h : f m = some x) : (List.range n).findSome? f = some x := by
  obtain ⟨d, rfl⟩ := Nat.exists_eq_add_of_lt hm
  have hnone : (List.range m).findSome? f = none := List.findSome?_eq_none_iff.2 fun j hj => hlow j (List.mem_range.1 hj)
  rw [Nat.add_assoc, List.range_add, List.findSome?_append, hnone, List.range_succ_eq_map]
  simp [h]

/-- The core after pool `p` serves request `r`. -/
def Core.served (k : Core) (p : Nat) (r : BufReq) : Core :=
  { (k.lend p r.owner).1 with bpm := { (k.lend p r.owner).1.bpm with
      waits := k.bpm.waits.filter (fun x => decide (x.user ≠ r.user))
      granted := k.bpm.granted ++ [(r.user, (k.lend p r.owner).2)] } }

theorem Core.bufWork_served (p : Nat) (r : BufReq) : k.BufWork (k.served p r) :=
  ⟨⟨_, _, _, rfl⟩, Core.onlyRegs_of_regs rfl⟩

/-- The lowest-numbered pool that can serve a request serves it. -/
theorem Core.serveWait_of_pick (hp : p < 64) (hlow : ∀ q, q < p → k.poolPick q = none) (h : k.poolPick p = some r) :
    k.serveWait = k.served p r := by
  have hfind : (List.range 64).findSome? (fun p => (k.poolPick p).map (fun r => (p, r))) = some (p, r) :=
    findSome_range hp (fun q hq => by rw [hlow q hq]; rfl) (by rw [h]; rfl)
  rw [Core.serveWait, hfind]
  rfl

/-- A request for staging is served, and no user goes on at once. -/
theorem Core.serveResume_stage {x c : Nat} (hp : p < 64) (hlow : ∀ q, q < p → k.poolPick q = none)
    (h : k.poolPick p = some r) (hu : r.user = .stage x c) : k.serveResume = k.served p r := by
  have hgr : ((k.served p r).bpm.granted.drop k.bpm.granted.length).map Prod.fst = [.stage x c] := by
    rw [← hu]
    simp [Core.served]
  rw [Core.serveResume, Core.serveWait_of_pick hp hlow h, hgr]

end

/-- BUFFER_REQUEST_SERVED, of an owner below its minimum that asks for staging. -/
theorem State.bufferRequestServed_serves {o p x c : Nat} {r : BufReq} {s t : State} (hp : p < 64)
    (hlow : ∀ q, q < p → s.core.poolPick q = none)
    (hpick : rrPick 64 (s.core.bpm.rr.get 0 p) (fun o => (s.core.waitServable p o true).isSome) = some o)
    (hw : s.core.waitServable p o true = some r) (hu : r.user = .stage x c) (hq : s.core.cle.failQ = [])
    (ht : t = s.onCore (fun k => k.serveResume.settle)) :
    t.core.bpm.waits = s.core.bpm.waits.filter (fun q => decide (q.user ≠ r.user)) ∧
      (∃ a ∈ s.core.freeBufs p, t.core.bpm.granted = s.core.bpm.granted ++ [(r.user, addrPtr a)] ∧
        t.core.bpm.alloc = s.core.bpm.alloc.set 0 a (o + 1)) ∧
      t.core.bpm.rr = s.core.bpm.rr.set 0 p ((o + 1) % 64) ∧ s.only [.bpm, .free] [] t := by
  obtain ⟨rfl, hserve⟩ := Core.waitServable_spec hw
  obtain ⟨hon, hm⟩ := Core.servePool_spec hserve
  have hk : s.core.serveResume = s.core.served p r := Core.serveResume_stage hp hlow (Core.poolPick_below hpick hw) hu
  obtain ⟨a, hfree, hptr, hlend⟩ := s.core.lend_takes_free r.owner (s.core.freeBufs_ne_nil_of_mayTake hon hm)
  have hset : s.core.serveResume.settle = s.core.served p r := by
    rw [hk, Core.settle_of_no_failure ((congrArg Cle.failQ (Core.bufWork_served p r).cle).trans hq)]
  have hbpm : t.core.bpm = (s.core.served p r).bpm := by rw [ht, State.onCore_bpm, hset]
  have hserved : (s.core.served p r).bpm = { s.core.bpm with
      alloc := s.core.bpm.alloc.set 0 a (r.owner + 1), rr := s.core.bpm.rr.set 0 p ((r.owner + 1) % 64)
      waits := s.core.bpm.waits.filter (fun q => decide (q.user ≠ r.user))
      granted := s.core.bpm.granted ++ [(r.user, addrPtr a)] } := by
    rw [Core.served, hlend, hptr]
  rw [hbpm, hserved, ht]
  refine ⟨rfl, ⟨a, hfree, rfl, rfl⟩, rfl, State.only_onCore _ _ ?_ ?_⟩
  · rw [hset]
    exact (Core.bufWork_served p r).parts (by simp) (by simp)
  · rw [hset]
    exact Core.onlyRegs_of_regs rfl

/-- Settles O19, clause by clause: a pool's start and drain, lending and returning by management, and the request for
staging that the lowest pool able to serve one serves. -/
theorem poolsAndBuffers : Obligations.PoolsAndBuffers := by
  unfold Obligations.PoolsAndBuffers
  refine ⟨?enable, ?disable, ?alloc, ?busy, ?free, ?refused, ?served⟩
  case enable => exact fun p s ha h hck => .of_exec rfl (State.poolEnable_starts ha h hck rfl)
  case disable => exact fun p s ha h hpend => .of_exec rfl (State.poolDisable_drains ha h hpend rfl)
  case alloc => exact fun p o s ha h hm => .of_exec rfl (State.bpmAlloc_lends ha h hm rfl)
  case busy => exact fun p o s ha h hm => .of_exec rfl (State.bpmAlloc_busy ha h hm rfl)
  case free => exact fun v ptr s ha hp h => .of_exec rfl (State.bpmFree_frees ha (by rw [hp, Core.freeCmd]) h rfl)
  case refused => exact fun v ptr s ha hp h => .of_exec rfl (State.bpmFree_refused ha (by rw [hp, Core.freeCmd]) h rfl)
  case served =>
    exact fun o p x c r s hp hlow hpick hw hu hq =>
      .of_exec rfl (State.bufferRequestServed_serves hp hlow hpick hw hu hq rfl)

end Sys2Proof.Machine
end

section
/-!
PROOFS. Deep memory (07_buffers_memory R213 to R218): a slice retired, an SRAM word scrubbed, a row remapped, a controller's
fault.
-/

namespace Sys2Proof.Machine

open Sys2Proof

/-! ### A bit cleared -/

theorem testBit_sub_two_pow {m i : Nat} (h : m.testBit i = true) {j : Nat} (hj : j ≠ i) :
    (m - 2 ^ i).testBit j = m.testBit j := by
  have hle : 2 ^ i ≤ m := Nat.ge_two_pow_of_testBit h
  rcases Nat.lt_or_gt_of_ne hj with hlt | hgt
  · rw [← Nat.testBit_two_pow_add_gt hlt, Nat.add_sub_cancel' hle]
  · obtain ⟨d, rfl⟩ := Nat.exists_eq_add_of_lt hgt
    have hodd : m / 2 ^ i % 2 = 1 := by simpa [Nat.testBit_eq_decide_div_mod_eq] using h
    have hsub : (m - 2 ^ i) / 2 ^ i = m / 2 ^ i - 1 := by simpa using Nat.sub_mul_div m (2 ^ i) 1
    have hhigh : (m - 2 ^ i) / 2 ^ (i + 1) = m / 2 ^ (i + 1) := by
      rw [Nat.pow_succ, ← Nat.div_div_eq_div_mul, ← Nat.div_div_eq_div_mul, hsub]
      generalize m / 2 ^ i = q at hodd
      omega
    have hplace : i + d + 1 = d + (i + 1) := by omega
    rw [hplace, ← Nat.testBit_div_two_pow, ← Nat.testBit_div_two_pow, hhigh]

theorem testBit_sub_two_pow_self {m i : Nat} (h : m.testBit i = true) : (m - 2 ^ i).testBit i = false := by
  have := testBit_setBit_false m i
  rwa [setBit, if_neg (by decide), if_pos h] at this

theorem testBit_setBit_true (m i : Nat) : (setBit m i true).testBit i = true := by
  rw [setBit, if_pos rfl, Nat.testBit_or, Nat.testBit_two_pow_self, Bool.or_true]

/-! ### What the parts of a retirement leave (R217) -/

section
variable {k : Core} {l : List Part}

theorem Core.onlyParts_lgrp (h : Part.lgrp ∈ l) (m : SMap LGroup) : k.onlyParts l { k with lgrp := m } := by
  intro q hq
  cases q
  case lgrp => exact absurd h hq
  all_goals rfl

theorem Core.onlyParts_lport (h : Part.lport ∈ l) (m : SMap LPort) : k.onlyParts l { k with lport := m } := by
  intro q hq
  cases q
  case lport => exact absurd h hq
  all_goals rfl

theorem Core.onlyParts_svc (h : Part.svc ∈ l) (v : Svc) : k.onlyParts l { k with svc := v } := by
  intro q hq
  cases q
  case svc => exact absurd h hq
  all_goals rfl

theorem Core.onlyParts_hbc (h : Part.hbc ∈ l) (b : Hbc) : k.onlyParts l { k with hbc := b } := by
  intro q hq
  cases q
  case hbc => exact absurd h hq
  all_goals rfl

theorem Core.onlyParts_setGrp (h : Part.lgrp ∈ l) (g : Nat) (x : LGroup) : k.onlyParts l (k.setGrp g x) :=
  Core.onlyParts_lgrp h _

/-- A property that each part of a work keeps, the work keeps, a result carried along. -/
theorem foldl_fst_keeps {α β : Type} {P : Core → Prop} {f : Core × β → α → Core × β} (hf : ∀ a x, P a.1 → P (f a x).1)
    (xs : List α) (a : Core × β) (h : P a.1) : P (xs.foldl f a).1 := by
  induction xs generalizing a with
  | nil => exact h
  | cons x xs ih => exact ih _ (hf a x h)

theorem Core.onlyParts_place (h : Part.lgrp ∈ l) (g p d : Nat) : k.onlyParts l (k.place g p d).1 := by
  unfold Core.place
  split
  · exact Core.onlyParts_setGrp h _ _
  · split
    · exact Core.onlyParts_refl _ _
    · exact Core.onlyParts_emit _ _ _

theorem Core.onlyParts_setSkew (h : Part.lport ∈ l) (g p : Nat) (bad : Bool) : k.onlyParts l (k.setSkew g p bad) := by
  unfold Core.setSkew
  split
  · exact Core.onlyParts_refl _ _
  · dsimp only
    split
    · exact Core.onlyParts_refl _ _
    · exact Core.onlyParts_lport h _

theorem Core.onlyParts_skewCheck (hg : Part.lgrp ∈ l) (hp : Part.lport ∈ l) (g : Nat) : k.onlyParts l (k.skewCheck g) := by
  unfold Core.skewCheck
  split
  · exact Core.onlyParts_refl _ _
  · extract_lets ready r x
    have hr : k.onlyParts l r.1 := by
      refine foldl_fst_keeps (P := k.onlyParts l) (fun a q ha => ?_) _ _ (Core.onlyParts_refl _ _)
      refine Core.onlyParts_trans ha (Core.onlyParts_trans ?_ (Core.onlyParts_setSkew hp _ _ _))
      split
      · exact Core.onlyParts_refl _ _
      · split
        · exact Core.onlyParts_refl _ _
        · exact Core.onlyParts_place hg _ _ _
    split
    · exact Core.onlyParts_trans hr (Core.onlyParts_setGrp hg _ _)
    · exact hr

theorem Core.onlyParts_loseCopies (h : Part.lgrp ∈ l) (j : Nat) : k.onlyParts l (k.loseCopies j) :=
  Core.onlyParts_foldl (fun _ _ => Core.onlyParts_setGrp h _ _) _ _

theorem Core.onlyParts_fnFault_pool (h : Part.fns ∈ l) (p st : Nat) : k.onlyParts l (k.fnFault (.pool p) st) := by
  unfold Core.fnFault
  split
  · exact Core.onlyParts_refl _ _
  · exact Core.onlyParts_refl _ _
  · exact Core.onlyParts_trans (Core.onlyParts_setFst_pool _ h _ _ _) (Core.onlyParts_setFn h _ _)

end

/-! ### The live flows -/

section
variable {k : Core} {p : Nat}

/-- The cells a live flow's function stands in. -/
def FnCell.live (c : Nat × Fn) : Prop := 0x10000 ≤ c.1 ∧ c.1 < 0x14000 ∧ c.2.fst ≠ .off

theorem Core.liveFlows_eq_nil : k.liveFlows = [] ↔ ∀ c ∈ k.fns.cells, ¬ FnCell.live c := by
  rw [Core.liveFlows, List.filterMap_eq_nil_iff]
  refine forall₂_congr fun c _ => ?_
  simp [FnCell.live]

theorem Core.liveFlows_of_fns {k k' : Core} (h : k'.fns = k.fns) : k'.liveFlows = k.liveFlows := by
  rw [Core.liveFlows, h, Core.liveFlows]

/-- A pool's function is no flow's. -/
theorem Core.liveFlows_setFn_pool (hp : p < 64) (x : Fn) (h : k.liveFlows = []) : (k.setFn (.pool p) x).liveFlows = [] := by
  rw [Core.liveFlows_eq_nil] at h ⊢
  intro c hc hlive
  have hcell : c = ((FnId.pool p).code, x) ∨ c ∈ k.fns.cells := by
    simp only [Core.setFn, SMap.set] at hc
    split at hc
    · exact .inr (eraseCell_subset _ _ c hc)
    · exact (insertCell_mem _ _ _ c hc).imp_right (eraseCell_subset _ _ c)
  rcases hcell with rfl | hmem
  · obtain ⟨hlo, hhi, -⟩ := hlive
    simp only [FnId.code] at hlo hhi
    omega
  · exact h c hmem hlive

theorem Core.setFst_pool_fns (p : Nat) (n : FState) (st : Nat) :
    (k.setFst (.pool p) n st).fns = (k.setFn (.pool p) { k.fn (.pool p) with fst := n, since := k.now }).fns := by
  have h : k.setFst (.pool p) n st = (k.setFn (.pool p) { k.fn (.pool p) with fst := n, since := k.now }).emit (0x3000 + p)
    0x0600 [(93, 91, n.code), (90, 88, (k.fst (.pool p)).code), (7, 0, st)] := rfl
  rw [h, Core.emit_fns]

theorem Core.liveFlows_fnFault_pool (hp : p < 64) (st : Nat) (h : k.liveFlows = []) :
    (k.fnFault (.pool p) st).liveFlows = [] := by
  unfold Core.fnFault
  split
  · exact h
  · exact h
  · refine Core.liveFlows_setFn_pool hp _ ?_
    rw [Core.liveFlows_of_fns (Core.setFst_pool_fns p _ _)]
    exact Core.liveFlows_setFn_pool hp _ h

/-- The faults of pools leave no flow live and change the functions alone. -/
theorem Core.foldl_fnFault_pool {l : List Part} (hf : Part.fns ∈ l) (st : Nat) : ∀ (ps : List Nat) (k : Core),
    (∀ p ∈ ps, p < 64) → k.liveFlows = [] →
      (ps.foldl (fun (k : Core) p => k.fnFault (.pool p) st) k).liveFlows = [] ∧
        k.onlyParts l (ps.foldl (fun (k : Core) p => k.fnFault (.pool p) st) k)
  | [], k, _, hk => ⟨hk, Core.onlyParts_refl _ _⟩
  | p :: ps, k, hlt, hk => by
    obtain ⟨hlive, honly⟩ := Core.foldl_fnFault_pool hf st ps (k.fnFault (.pool p) st)
      (fun q hq => hlt q (List.mem_cons_of_mem _ hq)) (Core.liveFlows_fnFault_pool (hlt p List.mem_cons_self) st hk)
    exact ⟨hlive, Core.onlyParts_trans (Core.onlyParts_fnFault_pool hf _ _) honly⟩

/-- With no flow live, the fault of a slice meets its pools alone. -/
theorem Core.onlyParts_faultSlice {l : List Part} (hf : Part.fns ∈ l) (hr : Part.free ∈ l) (h : k.liveFlows = []) (j : Nat) :
    k.onlyParts l (k.faultSlice j) := by
  unfold Core.faultSlice
  extract_lets st k₁
  obtain ⟨hlive, honly⟩ := Core.foldl_fnFault_pool hf st
    ((List.range 64).filter (fun p => k.poolLive p && (k.pool p).mem == 1 &&
      k.meetsSlice (k.pool p).base (k.pool p).bytes j)) k.fresh
    (fun p hp => List.mem_range.1 (List.mem_filter.1 hp).1) h
  have hk₁ : k₁.liveFlows = [] := hlive
  rw [hk₁]
  exact Core.onlyParts_trans (Core.onlyParts_free hr _) honly

end

/-! ### A slice retired (R217) -/

section
variable {k : Core} {st j cause : Nat}

/-- The deep memory's record of a slice retired for a pseudo-channel of stack `st`. -/
def Hbc.marked (b : Hbc) (st j cause : Nat) : Hbc :=
  { b with retired := b.retired.set 0 j cause, pcCause := b.pcCause.set 0 (32 * st + j) cause }

theorem Core.sliceOn_of_retired (h : k.hbc.retired.get 0 j ≠ 0) : k.sliceOn j = false := by simp [Core.sliceOn, h]

/-- Retiring a slice in service, no flow live, marks it in the deep memory's record and leaves the collective engine. -/
theorem Core.retire_marks (h0 : k.hbc.retired.get 0 j = 0) (hs : k.hbmStacks ≠ 0) (hl : k.liveFlows = []) :
    (k.retire st j cause).hbc = k.hbc.marked st j cause ∧ (k.retire st j cause).cle = k.cle := by
  have hparts : Core.onlyParts [.fns, .free, .lgrp, .lport, .svc] { k with hbc := k.hbc.marked st j cause }
      (k.retire st j cause) := by
    unfold Core.retire
    rw [if_neg (by simp [h0, hs])]
    extract_lets _ k₁ k₂ k₃
    have h₂ : Core.onlyParts [.fns, .free, .lgrp, .lport, .svc] k₁ k₂ :=
      Core.onlyParts_trans (Core.onlyParts_svc (by simp) _) (Core.onlyParts_faultSlice (k := k₁.setHbmSvc k₁.svc.stackSet)
        (by simp) (by simp) hl j)
    have h₃ : Core.onlyParts [.fns, .free, .lgrp, .lport, .svc] k₂ k₃ :=
      Core.onlyParts_trans (Core.onlyParts_loseCopies (by simp) j)
        (Core.onlyParts_foldl (fun _ _ => Core.onlyParts_skewCheck (by simp) (by simp) _) _ _)
    exact Core.onlyParts_trans h₂ (Core.onlyParts_trans h₃ (Core.onlyParts_emit _ _ _))
  exact ⟨hparts .hbc (by decide), hparts .cle (by decide)⟩

theorem Core.retire_settled (h0 : k.hbc.retired.get 0 j = 0) (hs : k.hbmStacks ≠ 0) (hl : k.liveFlows = [])
    (hq : k.cle.failQ = []) : (k.retire st j cause).settle.hbc = k.hbc.marked st j cause := by
  obtain ⟨hhbc, hcle⟩ := Core.retire_marks (st := st) (cause := cause) h0 hs hl
  rw [Core.settle_of_no_failure ((congrArg Cle.failQ hcle).trans hq), hhbc]

/-- What a slice marked retired shows. -/
theorem Core.marked_shows {k' : Core} (h : k'.hbc = k.hbc.marked st j cause) (hc : cause ≠ 0) :
    k'.hbc.retired.get 0 j = cause ∧ k'.sliceOn j = false ∧
      (∀ i, i ≠ j → k'.hbc.retired.get 0 i = k.hbc.retired.get 0 i) ∧ k'.hbc.pcCause.get 0 (32 * st + j) = cause := by
  have hj : k'.hbc.retired.get 0 j = cause := by
    rw [h]
    exact SMap.get_set_same _ _ _ _
  refine ⟨hj, Core.sliceOn_of_retired (hj ▸ hc), fun i hi => ?_, ?_⟩
  · rw [h]
    exact SMap.get_set_ne _ _ _ hi _
  · rw [h]
    exact SMap.get_set_same _ _ _ _

end

/-- HBC_RETIRE of a pseudo-channel of a stack in service. -/
theorem State.hbcRetire_retires {k : Fin 8} {j : Fin 32} {s t : State} (ha : s.answers = true)
    (hk : bitAt s.core.svc.stackSet k = true) (h0 : s.core.hbc.retired.get 0 j = 0) (hs : s.core.hbmStacks ≠ 0)
    (hl : s.core.liveFlows = []) (hq : s.core.cle.failQ = []) (ht : t = s.mgmt Reg.HBC_STAT (fun c => c.hbcCmd 1 k j)) :
    t.core.hbc.retired.get 0 j = 4 ∧ t.core.sliceOn j = false ∧
      (∀ i, i ≠ j.val → t.core.hbc.retired.get 0 i = s.core.hbc.retired.get 0 i) ∧
      t.core.hbc.pcCause.get 0 (32 * k.val + j.val) = 4 ∧ t.core.fd Reg.HBC_STAT 7 0 = stOk ∧ s.outsideStands t := by
  have hcmd : s.core.hbcCmd 1 k j = ((s.core.retire k j 4).settle, stOk) := by simp [Core.hbcCmd, hk]
  have hhbc : t.core.hbc = s.core.hbc.marked k j 4 := by
    rw [ht, State.mgmt_hbc _ ha, hcmd]
    exact Core.retire_settled h0 hs hl hq
  obtain ⟨hret, hoff, hother, hpc⟩ := Core.marked_shows hhbc (by decide)
  refine ⟨hret, hoff, hother, hpc, ?_, ?_⟩
  · rw [ht, State.mgmt_status _ ha _ _ (by unfold evReg; decide), hcmd]
    rfl
  · rw [ht]
    exact State.outsideStands_mgmt _ _ _

/-- HBC_RETIRE of a stack not in service. -/
theorem State.hbcRetire_refused {k : Fin 8} {j : Fin 32} {s t : State} (ha : s.answers = true)
    (hk : bitAt s.core.svc.stackSet k = false) (ht : t = s.mgmt Reg.HBC_STAT (fun c => c.hbcCmd 1 k j)) :
    t.core.fd Reg.HBC_STAT 7 0 = stRange ∧ s.only [] [Reg.HBC_STAT] t := by
  have hcmd : s.core.hbcCmd 1 k j = (s.core, stRange) := by simp [Core.hbcCmd, hk]
  rw [ht]
  refine ⟨?_, State.only_mgmt s ha _ _ (by simp) ?_ ?_⟩
  · rw [State.mgmt_status _ ha _ _ (by unfold evReg; decide), hcmd]
    rfl
  · rw [hcmd]
    exact Core.onlyParts_refl _ _
  · rw [hcmd]
    exact Core.onlyRegs_refl _ _

/-! ### A scrub step over SRAM (R213 to R215) -/

theorem get_foldl_set_true {w : Nat} (l : List Nat) : ∀ m : SMap Bool, (w ∈ l ∨ m.get false w = true) →
    (l.foldl (fun (m : SMap Bool) w => m.set false w true) m).get false w = true := by
  induction l with
  | nil => exact fun m h => h.resolve_left (by simp)
  | cons v l ih =>
    intro m h
    refine ih _ ?_
    rcases h with h | h
    · rcases List.mem_cons.1 h with rfl | hl
      · exact .inr (SMap.get_set_same _ _ _ _)
      · exact .inl hl
    · refine .inr ?_
      rw [SMap.get_set]
      split
      · rfl
      · exact h

theorem memWords_ne_nil (a : Nat) {n : Nat} (hn : 0 < n) : memWords a n ≠ [] := by
  have hw : 0 < memWord a := by
    unfold memWord
    split <;> decide
  have hpos : 0 < (a % memWord a + n + memWord a - 1) / memWord a := Nat.div_pos (by omega) hw
  simp only [memWords, ne_eq, List.map_eq_nil_iff, List.range_eq_nil]
  omega

section
variable {k : Core}

/-- Memory poisoned reads as poisoned. -/
theorem Core.psnIn_setPsn (a : Nat) {n : Nat} (hn : 0 < n) : (k.setPsn a n true).psnIn a n = true := by
  obtain ⟨w, hw⟩ := List.exists_mem_of_ne_nil _ (memWords_ne_nil a hn)
  exact List.any_eq_true.2 ⟨w, hw, get_foldl_set_true _ _ (.inl hw)⟩

theorem Core.psnIn_of_psn {k k' : Core} (h : k'.psn = k.psn) (a n : Nat) : k'.psnIn a n = k.psnIn a n := by
  unfold Core.psnIn; rw [h]

/-- A pass that is late logs it once, and moves nothing. -/
theorem Core.scrubLate_sram (l : List Part) (r : List Nat) (hl : Part.hbc ∈ l) : k.onlyParts l (k.scrubLate true) ∧
    k.onlyRegs r (k.scrubLate true) ∧ (k.scrubLate true).hbc.sramPos = k.hbc.sramPos := by
  unfold Core.scrubLate
  extract_lets t period late
  split
  · exact ⟨Core.onlyParts_refl _ _, Core.onlyRegs_refl _ _, rfl⟩
  · refine ⟨Core.onlyParts_trans (Core.onlyParts_hbc hl _) (Core.onlyParts_emit _ _ _),
      Core.onlyRegs_trans (Core.onlyRegs_of_regs rfl) (Core.onlyRegs_emit _ _ _), ?_⟩
    rw [Core.emit_hbc]
    rfl

/-- The scrubber goes on to the next word of SRAM, or starts over. -/
theorem Core.scrubMove_sram (a : Nat) (l : List Part) (hl : Part.hbc ∈ l) : k.onlyParts l (k.scrubMove true a) ∧
    (k.scrubMove true a).regs = k.regs ∧
    (k.scrubMove true a).hbc.sramPos = if a + 8 < 65536 * k.svc.sram then a + 8 else 0 := by
  unfold Core.scrubMove
  rw [if_pos rfl]
  split
  · exact ⟨Core.onlyParts_hbc hl _, rfl, rfl⟩
  · exact ⟨Core.onlyParts_hbc hl _, rfl, rfl⟩

/-- What follows the error a scrub step over SRAM met. -/
theorem Core.scrubNext_sram (a : Nat) (l : List Part) (r : List Nat) (hl : Part.hbc ∈ l) :
    k.onlyParts l ((k.scrubLate true).scrubMove true a) ∧ k.onlyRegs r ((k.scrubLate true).scrubMove true a) ∧
      ((k.scrubLate true).scrubMove true a).hbc.sramPos = (if a + 8 < 65536 * k.svc.sram then a + 8 else 0) ∧
      ((k.scrubLate true).scrubMove true a).psn = k.psn := by
  obtain ⟨hlate, hregs, -⟩ := k.scrubLate_sram [.hbc] r (by simp)
  obtain ⟨hmove, hmregs, hpos⟩ := (k.scrubLate true).scrubMove_sram a [.hbc] (by simp)
  have honly := Core.onlyParts_trans hlate hmove
  refine ⟨Core.onlyParts_mono (by simpa using hl) honly, Core.onlyRegs_trans hregs (Core.onlyRegs_of_regs hmregs), ?_,
    honly .psn (by decide)⟩
  have hsvc : (k.scrubLate true).svc = k.svc := hlate .svc (by decide)
  rw [hpos, hsvc]

theorem Core.scrubAt_sram (h : k.svc.sram ≠ 0) : k.scrubAt true = some k.hbc.sramPos := by simp [Core.scrubAt, h]

theorem Core.scrubEv_sram_corrected (h : k.svc.sram ≠ 0) (c bg bank row : Nat) :
    k.scrubEv true (.corrected c bg bank row) =
      ((k.cnt Reg.HBC_SRAM_CE_CNT).scrubLate true).scrubMove true k.hbc.sramPos := by
  rw [Core.scrubEv, Core.scrubAt_sram h]

/-- An uncorrectable word outside the fixed regions is counted, shown and poisoned. -/
def Core.poisonedAt (k : Core) (a : Nat) : Core :=
  ((k.cnt Reg.HBC_SRAM_UE_CNT).wr Reg.HBC_SRAM_LAST_UE a).setPsn a 8 true

theorem Core.scrubEv_sram_uncorrectable (h : k.svc.sram ≠ 0) (ha : 0x3400000 ≤ k.hbc.sramPos) (c bg bank row : Nat) :
    k.scrubEv true (.uncorrectable c bg bank row) =
      ((k.poisonedAt k.hbc.sramPos).scrubLate true).scrubMove true k.hbc.sramPos := by
  have hue : k.sramUe k.hbc.sramPos 1 = k.poisonedAt k.hbc.sramPos := by
    rw [Core.sramUe, if_neg (Nat.not_lt.2 ha), Core.poisonedAt]
  rw [Core.scrubEv, Core.scrubAt_sram h]
  simp only [hue]

end

/-- SCRUB_STEP over a corrected word of SRAM. -/
theorem State.scrubStep_corrected {c bg bank row : Nat} {s t : State} (h : s.core.svc.sram ≠ 0)
    (ht : t = s.scrubStep true (.corrected c bg bank row)) :
    t.core.rd Reg.HBC_SRAM_CE_CNT = min (s.core.rd Reg.HBC_SRAM_CE_CNT + 1) (2 ^ 32 - 1) ∧
      t.core.hbc.sramPos = (if s.core.hbc.sramPos + 8 < 65536 * s.core.svc.sram then s.core.hbc.sramPos + 8 else 0) ∧
      s.only [.hbc] [Reg.HBC_SRAM_CE_CNT] t := by
  have hev := Core.scrubEv_sram_corrected h c bg bank row
  have hstep : t = s.onCore (fun k => k.scrubEv true (.corrected c bg bank row)) := ht
  obtain ⟨hparts, hregs, hpos, -⟩ := (s.core.cnt Reg.HBC_SRAM_CE_CNT).scrubNext_sram s.core.hbc.sramPos [.hbc] [] (by simp)
  rw [hstep]
  refine ⟨?_, ?_, State.only_onCore _ _ ?_ ?_⟩
  · rw [State.rd_onCore _ _ (by unfold evReg; decide), hev, hregs _ (by simp) (by decide) (by decide), Core.rd_cnt_same]
  · rw [State.onCore_hbc, hev, hpos, Core.cnt_svc]
  · rw [hev]
    exact Core.onlyParts_trans (Core.onlyParts_cnt _) hparts
  · rw [hev]
    exact Core.onlyRegs_trans (Core.onlyRegs_cnt (by simp)) (Core.onlyRegs_mono (by simp) hregs)

/-- SCRUB_STEP over an uncorrectable word of SRAM outside the fixed regions. -/
theorem State.scrubStep_uncorrectable {c bg bank row : Nat} {s t : State} (h : s.core.svc.sram ≠ 0)
    (ha : 0x3400000 ≤ s.core.hbc.sramPos) (ht : t = s.scrubStep true (.uncorrectable c bg bank row)) :
    t.core.rd Reg.HBC_SRAM_UE_CNT = min (s.core.rd Reg.HBC_SRAM_UE_CNT + 1) (2 ^ 32 - 1) ∧
      t.core.rd Reg.HBC_SRAM_LAST_UE = s.core.hbc.sramPos % 2 ^ 32 ∧ t.core.psnIn s.core.hbc.sramPos 8 = true ∧
      s.only [.hbc, .psn] [Reg.HBC_SRAM_UE_CNT, Reg.HBC_SRAM_LAST_UE] t := by
  have hev := Core.scrubEv_sram_uncorrectable h ha c bg bank row
  have hstep : t = s.onCore (fun k => k.scrubEv true (.uncorrectable c bg bank row)) := ht
  obtain ⟨hparts, hregs, -, hpsn⟩ :=
    (s.core.poisonedAt s.core.hbc.sramPos).scrubNext_sram s.core.hbc.sramPos [.hbc, .psn] [] (by simp)
  have hreg : ∀ b, (s.core.poisonedAt s.core.hbc.sramPos).rd b =
      ((s.core.cnt Reg.HBC_SRAM_UE_CNT).wr Reg.HBC_SRAM_LAST_UE s.core.hbc.sramPos).rd b :=
    fun b => Core.rd_of_regs (Core.setPsn_regs _ _ _ _) b
  rw [hstep]
  refine ⟨?_, ?_, ?_, State.only_onCore _ _ ?_ ?_⟩
  · rw [State.rd_onCore _ _ (by unfold evReg; decide), hev, hregs _ (by simp) (by decide) (by decide), hreg,
      Core.rd_wr_ne _ (by decide), Core.rd_cnt_same]
  · rw [State.rd_onCore _ _ (by unfold evReg; decide), hev, hregs _ (by simp) (by decide) (by decide), hreg,
      Core.rd_wr_same]
  · rw [Core.psnIn_of_psn (State.onCore_psn _ _), hev, Core.psnIn_of_psn hpsn]
    exact Core.psnIn_setPsn _ (by decide)
  · rw [hev]
    exact Core.onlyParts_trans (Core.onlyParts_trans (Core.onlyParts_cnt _) (Core.onlyParts_trans (Core.onlyParts_wr _ _)
      (Core.onlyParts_psn _ (by simp) _))) hparts
  · rw [hev]
    exact Core.onlyRegs_trans (Core.onlyRegs_trans (Core.onlyRegs_cnt (by simp)) (Core.onlyRegs_trans
      (Core.onlyRegs_wr (by simp) _) (Core.onlyRegs_of_regs rfl))) (Core.onlyRegs_mono (by simp) hregs)

/-! ### A row remapped (R216) -/

section
variable {k : Core} {st p bg bank row : Nat}

/-- The row's errors are forgotten, and a remap of it is due no longer. -/
def Core.rowSettled (k : Core) (r : Nat) : Core :=
  { k with hbc := { k.hbc with rowDue := k.hbc.rowDue.set 0 r 0, rowCe := k.hbc.rowCe.set [] r [] } }

theorem Core.onlyParts_rowSettled {l : List Part} (h : Part.hbc ∈ l) (r : Nat) : k.onlyParts l (k.rowSettled r) :=
  Core.onlyParts_hbc h _

@[simp] theorem Core.rowSettled_regs (r : Nat) : (k.rowSettled r).regs = k.regs := (rfl)

theorem Core.rowSettled_retired (r : Nat) : (k.rowSettled r).hbc.retired = k.hbc.retired := rfl

theorem Core.remapDue_of_settled {k' : Core} (h : k'.hbc = (k.rowSettled (rowKey st p bg bank row)).hbc) :
    k'.remapDue st p bg bank row = false := by
  have hdue : k'.hbc.rowDue.get 0 (rowKey st p bg bank row) = 0 := by
    rw [h]
    exact SMap.get_set_same _ _ _ _
  simp [Core.remapDue, hdue]

theorem Core.retired_of_remapDue (h : k.remapDue st p bg bank row = true) : k.hbc.retired.get 0 p = 0 := by
  simp only [Core.remapDue, Bool.and_eq_true, beq_iff_eq] at h
  exact h.1.2

theorem not_evReg_stackStat (k : Fin 8) : ¬ evReg (Reg.HBC_S_STAT k) := by
  have hk := k.isLt
  rintro (h | h) <;> simp only [Reg.HBC_S_STAT, Reg.EVL_DROP_CNT, Reg.MGT_ALERT_STAT] at h <;> omega

/-- A row repaired is counted in its pseudo-channel's word and its stack. -/
theorem Core.remapEv_repairs (k : Core) (st : Fin 8) (p bg bank row : Nat) (ue : Bool) :
    (k.remapEv st p bg bank row ue true).hbc = (k.rowSettled (rowKey st p bg bank row)).hbc ∧
      (k.remapEv st p bg bank row ue true).fd (Reg.HBC_S_STAT st) 23 16 = min (k.fd (Reg.HBC_S_STAT st) 23 16 + 1) 255 ∧
      k.onlyParts [.tbl, .hbc] (k.remapEv st p bg bank row ue true) ∧
      k.onlyRegs [Reg.HBC_S_STAT st] (k.remapEv st p bg bank row ue true) := by
  obtain ⟨v, e, hev⟩ : ∃ v e, k.remapEv st p bg bank row ue true =
      (((k.rowSettled (rowKey st p bg bank row)).tbw (Reg.HBC_S_PC_TBL st) p v).wrf (Reg.HBC_S_STAT st) 23 16
        (satAdd 8 (k.fd (Reg.HBC_S_STAT st) 23 16) 1)).emit (pcSrc st p) 0x0701 e := by
    rw [Core.remapEv, if_pos rfl]
    exact ⟨_, _, rfl⟩
  rw [hev]
  refine ⟨?_, ?_, ?_, ?_⟩
  · rw [Core.emit_hbc, Core.wrf_hbc, Core.tbw_hbc]
  · have hsat : satAdd 8 (k.fd (Reg.HBC_S_STAT st) 23 16) 1 % 2 ^ (23 + 1 - 16) =
        min (k.fd (Reg.HBC_S_STAT st) 23 16 + 1) 255 := by
      rw [satAdd]
      omega
    rw [Core.fd, Core.rd_emit _ _ _ _ (not_evReg_stackStat st), ← Core.fd, Core.fd_wrf_same _ _ _ _ _ (by omega) (by omega), hsat]
  · exact Core.onlyParts_trans (Core.onlyParts_rowSettled (by simp) _) (Core.onlyParts_trans
      (Core.onlyParts_tbw (by simp) _ _ _) (Core.onlyParts_trans (Core.onlyParts_wrf _ _ _ _) (Core.onlyParts_emit _ _ _)))
  · have hregs : ((k.rowSettled (rowKey st p bg bank row)).tbw (Reg.HBC_S_PC_TBL st) p v).regs = k.regs := by simp
    exact Core.onlyRegs_trans (Core.onlyRegs_of_regs hregs) (Core.onlyRegs_trans (Core.onlyRegs_wrf (by simp) _ _ _)
      (Core.onlyRegs_emit _ _ _))

/-- A row without a repair resource retires its slice. -/
theorem Core.remapEv_retires (hdue : k.remapDue st p bg bank row = true) (hs : k.hbmStacks ≠ 0) (hl : k.liveFlows = [])
    (hq : k.cle.failQ = []) (ue : Bool) :
    (k.remapEv st p bg bank row ue false).hbc = (k.rowSettled (rowKey st p bg bank row)).hbc.marked st p 1 := by
  have hev : k.remapEv st p bg bank row ue false = ((k.rowSettled (rowKey st p bg bank row)).retire st p 1).settle := by
    rw [Core.remapEv, if_neg (by decide)]
    rfl
  have h0 : (k.rowSettled (rowKey st p bg bank row)).hbc.retired.get 0 p = 0 := by
    rw [Core.rowSettled_retired]
    exact Core.retired_of_remapDue hdue
  rw [hev]
  exact Core.retire_settled h0 hs hl hq

end

/-- A row due for it, and still due after what reading it met, is remapped, and the flash keeps a record. -/
theorem State.remap_due {st p bg bank row : Nat} {found : List MemErr} {repaired : Bool} {s r : State}
    (hs : s.core.remapDue st p bg bank row = true) (hr : r = s.rowRead st p bg bank row found)
    (h : r.core.remapDue st p bg bank row = true) : ∃ ue,
      (s.remap st p bg bank row found repaired).core = (r.onCore (fun k => k.remapEv st p bg bank row ue repaired)).core ∧
      (s.remap st p bg bank row found repaired).nvm.remaps = r.nvm.remaps ++
          [(32 * st + p, bg % 16 * 2 ^ 24 + bank % 16 * 2 ^ 20 + row % 2 ^ 20, repaired.toNat)] := by
  subst hr
  refine ⟨decide (s.core.hbc.rowDue.get 0 (rowKey st p bg bank row) = 2), ?_⟩
  rw [State.remap, if_pos hs]
  simp only [h, if_true, State.onCore_nvm, and_self]

/-- ROW_REMAP of a row that is repaired. -/
theorem State.rowRemap_repairs {k : Fin 8} {j : Fin 32} {bg bank row : Nat} {found : List MemErr} {s r t : State}
    (hs : s.core.remapDue k j bg bank row = true) (hr : r = s.rowRead k j bg bank row found)
    (h : r.core.remapDue k j bg bank row = true) (ht : t = s.remap k j bg bank row found true) :
    t.core.remapDue k j bg bank row = false ∧
      t.core.fd (Reg.HBC_S_STAT k) 23 16 = min (r.core.fd (Reg.HBC_S_STAT k) 23 16 + 1) 255 ∧
      t.nvm.remaps = r.nvm.remaps ++ [(32 * k.val + j.val, bg % 16 * 2 ^ 24 + bank % 16 * 2 ^ 20 + row % 2 ^ 20, 1)] ∧
      r.core.onlyParts [.tbl, .hbc] t.core ∧ r.core.onlyRegs [Reg.HBC_S_STAT k] t.core := by
  obtain ⟨ue, hcore, hnvm⟩ := State.remap_due (repaired := true) hs hr h
  obtain ⟨hhbc, hfd, hparts, hregs⟩ := r.core.remapEv_repairs k j bg bank row ue
  obtain ⟨-, honlyP, honlyR⟩ := State.only_onCore r (fun c => c.remapEv k j bg bank row ue true) hparts hregs
  rw [ht, hcore, hnvm]
  refine ⟨Core.remapDue_of_settled (k := r.core) ?_, ?_, rfl, honlyP, honlyR⟩
  · rw [State.onCore_hbc, hhbc]
  · rw [Core.fd, State.rd_onCore _ _ (not_evReg_stackStat k), ← Core.fd, hfd]

/-- ROW_REMAP of a row that no repair resource is left for. -/
theorem State.rowRemap_retires {k : Fin 8} {j : Fin 32} {bg bank row : Nat} {found : List MemErr} {s r t : State}
    (hs : s.core.remapDue k j bg bank row = true) (hr : r = s.rowRead k j bg bank row found)
    (h : r.core.remapDue k j bg bank row = true) (hstk : r.core.hbmStacks ≠ 0) (hl : r.core.liveFlows = [])
    (hq : r.core.cle.failQ = []) (ht : t = s.remap k j bg bank row found false) :
    t.core.hbc.retired.get 0 j = 1 ∧ t.core.sliceOn j = false ∧
      (∀ i, i ≠ j.val → t.core.hbc.retired.get 0 i = r.core.hbc.retired.get 0 i) ∧
      t.nvm.remaps = r.nvm.remaps ++ [(32 * k.val + j.val, bg % 16 * 2 ^ 24 + bank % 16 * 2 ^ 20 + row % 2 ^ 20, 0)] := by
  obtain ⟨ue, hcore, hnvm⟩ := State.remap_due (repaired := false) hs hr h
  have hhbc : t.core.hbc = (r.core.rowSettled (rowKey k j bg bank row)).hbc.marked k j 1 := by
    rw [ht, hcore, State.onCore_hbc, Core.remapEv_retires h hstk hl hq]
  obtain ⟨hret, hoff, hother, -⟩ := Core.marked_shows (k := r.core.rowSettled (rowKey k j bg bank row)) hhbc (by decide)
  exact ⟨hret, hoff, hother, by rw [ht, hnvm]; rfl⟩

/-! ### A controller's fault (R218) -/

section
variable {k : Core} {st : Nat}

/-- The core after the fault of stack `st`'s controller: HBC faulted, HBM poisoned, the stack out of service. -/
def Core.controllerFaulted (k : Core) (st : Nat) : Core :=
  (({ k.fnFault .hbc (Config.freeField k.free % 19) with
      hbc := { (k.fnFault .hbc (Config.freeField k.free % 19)).hbc with allPoison := true } } : Core).fresh).setHbmSvc
    ((k.fnFault .hbc (Config.freeField k.free % 19)).svc.stackSet - 2 ^ st)

theorem Core.controllerEv_hit (h : bitAt k.svc.stackSet st = true) (hon : k.isOn .hbc = true) :
    k.controllerEv st = k.controllerFaulted st := by
  rw [Core.controllerEv, if_neg (by simp [h, hon])]
  rfl

/-- The fault of the HBC function changes that function alone; it logs no event of its own. -/
theorem Core.fnFault_hbc_spec (hon : k.isOn .hbc = true) (v : Nat) : (k.fnFault .hbc v).fst .hbc = .faulted ∧
    k.onlyParts [.fns] (k.fnFault .hbc v) ∧ (k.fnFault .hbc v).regs = k.regs := by
  have hfst : k.fst .hbc = .on := by simpa [Core.isOn] using hon
  rw [k.fnFault_of_live (by simp [hfst]) (by simp [hfst])]
  exact ⟨Core.fst_setFn_pend _ _ _ _ _, Core.onlyParts_trans (Core.onlyParts_setFn (by simp) _ _)
    (Core.onlyParts_setFn (by simp) _ _), rfl⟩

theorem Core.controllerFaulted_spec (hon : k.isOn .hbc = true) : (k.controllerFaulted st).fst .hbc = .faulted ∧
    (k.controllerFaulted st).hbc.allPoison = true ∧ (k.controllerFaulted st).svc.stackSet = k.svc.stackSet - 2 ^ st ∧
    k.onlyParts [.fns, .hbc, .svc, .free] (k.controllerFaulted st) ∧ (k.controllerFaulted st).regs = k.regs := by
  obtain ⟨hfst, hparts, hregs⟩ := k.fnFault_hbc_spec hon (Config.freeField k.free % 19)
  have hsvc : (k.fnFault .hbc (Config.freeField k.free % 19)).svc = k.svc := hparts .svc (by decide)
  unfold Core.controllerFaulted
  refine ⟨hfst, rfl, by rw [hsvc]; rfl, ?_, hregs⟩
  exact Core.onlyParts_trans (Core.onlyParts_mono (by simp) hparts) (Core.onlyParts_trans (Core.onlyParts_hbc (by simp) _)
    (Core.onlyParts_trans (Core.onlyParts_free (by simp) _) (Core.onlyParts_svc (by simp) _)))

end

/-- What the fault of a stack's controller leaves the core, HBC ON and the stack in service. -/
theorem State.controllerFault_core {k : Fin 8} {s u : State} (hk : bitAt s.core.svc.stackSet k = true)
    (hon : s.core.isOn .hbc = true) (hq : s.core.cle.failQ = [])
    (hu : u = s.onCore (fun c => (c.controllerEv k).settle)) :
    u.core.fst .hbc = .faulted ∧ u.core.hbc.allPoison = true ∧ bitAt u.core.svc.stackSet k = false ∧
      (∀ j : Fin 8, j ≠ k → bitAt u.core.svc.stackSet j = bitAt s.core.svc.stackSet j) ∧
      s.core.onlyParts [.fns, .hbc, .svc, .free] u.core ∧ s.core.onlyRegs [] u.core := by
  obtain ⟨hfst, hpoison, hset, hparts, hregs⟩ := Core.controllerFaulted_spec (st := k) hon
  have hcle : (s.core.controllerFaulted k).cle = s.core.cle := hparts .cle (by decide)
  have hev : (s.core.controllerEv k).settle = s.core.controllerFaulted k := by
    rw [Core.controllerEv_hit hk hon, Core.settle_of_no_failure ((congrArg Cle.failQ hcle).trans hq)]
  have hfns : u.core.fns = (s.core.controllerFaulted k).fns := by rw [hu, State.onCore_fns, hev]
  have hstk : u.core.svc.stackSet = s.core.svc.stackSet - 2 ^ k.val := by rw [hu, State.onCore_svc, hev, hset]
  obtain ⟨-, honlyP, honlyR⟩ := State.only_onCore (l := [.fns, .hbc, .svc, .free]) (r := []) s
    (fun c => (c.controllerEv k).settle) (by rw [hev]; exact hparts) (by rw [hev]; exact Core.onlyRegs_of_regs hregs)
  rw [← hu] at honlyP honlyR
  refine ⟨(Core.fst_of_fns hfns _).trans hfst, ?_, ?_, fun j hj => ?_, honlyP, honlyR⟩
  · rw [hu, State.onCore_hbc, hev, hpoison]
  · rw [hstk]
    exact testBit_sub_two_pow_self hk
  · rw [hstk]
    exact testBit_sub_two_pow hk fun h => hj (Fin.ext h)

/-- HBM_CONTROLLER_FAULT of a stack in service while HBC is ON has a warm boot follow that leaves the stack out. -/
theorem exec_hbmControllerFault {k : Fin 8} {s : State} (hk : bitAt s.core.svc.stackSet k = true)
    (hon : s.core.isOn .hbc = true) : ∃ u : State, u = s.onCore (fun c => (c.controllerEv k).settle) ∧
      exec (.hbmControllerFault k) s =
        .next (u.setBoot { u.aon.boot with badStack := setBit u.aon.boot.badStack k true, warmDue := true }) := by
  refine ⟨_, rfl, ?_⟩
  have harm : exec (.hbmControllerFault k) s = execHbmControllerFault k s := rfl
  rw [harm, execHbmControllerFault, hk, hon]
  rfl

theorem State.setBoot_core (u : State) (b : Boot) : (u.setBoot b).core = u.core := rfl

theorem State.setBoot_boot (u : State) (b : Boot) : (u.setBoot b).aon.boot = b := rfl

/-- HBM_CONTROLLER_FAULT of a stack in service while HBC is ON. -/
theorem State.hbmControllerFault_faults {k : Fin 8} {s : State} (hk : bitAt s.core.svc.stackSet k = true)
    (hon : s.core.isOn .hbc = true) (hq : s.core.cle.failQ = []) : Completes (.hbmControllerFault k) s (fun t =>
      t.core.fst .hbc = .faulted ∧ t.core.hbc.allPoison = true ∧ bitAt t.core.svc.stackSet k = false ∧
      (∀ j : Fin 8, j ≠ k → bitAt t.core.svc.stackSet j = bitAt s.core.svc.stackSet j) ∧
      bitAt t.aon.boot.badStack k = true ∧ t.aon.boot.warmDue = true ∧
      s.core.onlyParts [.fns, .hbc, .svc, .free] t.core ∧ s.core.onlyRegs [] t.core) := by
  obtain ⟨u, hu, hexec⟩ := exec_hbmControllerFault hk hon
  obtain ⟨hfst, hpoison, hout, hother, honlyP, honlyR⟩ := State.controllerFault_core hk hon hq hu
  clear hu
  refine .of_exec hexec ?_
  rw [State.setBoot_core, State.setBoot_boot]
  exact ⟨hfst, hpoison, hout, hother, testBit_setBit_true _ _, rfl, honlyP, honlyR⟩

/-- Settles O20, clause by clause: retirement by management, a scrub step over SRAM, a row remapped or its slice retired,
and a controller's fault. -/
theorem deepMemoryErrorsAndRetirement : Obligations.DeepMemoryErrorsAndRetirement := by
  unfold Obligations.DeepMemoryErrorsAndRetirement
  refine ⟨?retires, ?refused, ?corrected, ?uncorrectable, ?repairs, ?unrepaired, ?faults⟩
  case retires => exact fun k j s ha hk h0 hs hl hq => .of_exec rfl (State.hbcRetire_retires ha hk h0 hs hl hq rfl)
  case refused => exact fun k j s ha hk => .of_exec rfl (State.hbcRetire_refused ha hk rfl)
  case corrected => exact fun c bg bank row s h => .of_exec rfl (State.scrubStep_corrected h rfl)
  case uncorrectable => exact fun c bg bank row s h ha => .of_exec rfl (State.scrubStep_uncorrectable h ha rfl)
  case repairs => exact fun k j bg bank row found s r hs hr h => .of_exec rfl (State.rowRemap_repairs hs hr h rfl)
  case unrepaired =>
    exact fun k j bg bank row found s r hs hr h hstk hl hq => .of_exec rfl (State.rowRemap_retires hs hr h hstk hl hq rfl)
  case faults => exact fun k s hk hon hq => State.hbmControllerFault_faults hk hon hq

end Sys2Proof.Machine
end

section
/-!
PROOFS. AES-GCM in counter mode undoes itself (08_cipher R225): the key stream depends on key and IV alone, so the text is
XORed with the same blocks twice. Nothing here is about the block cipher but the 16 bytes its answer has; that the function
is the standard's GCM is presumed (assumption log 13).
-/

namespace Sys2Proof.Machine

open Sys2Proof

theorem length_aesEnc (ks : List Nat) (blk : List Byte) : (aesEnc ks blk).length = 16 := length_beBytes _ _

theorem length_xorBytes {a b : List Byte} (h : a.length ≤ b.length) : (xorBytes a b).length = a.length := by
  rw [xorBytes, List.length_zipWith, Nat.min_eq_left h]

/-- XOR with a block that is long enough undoes itself. -/
theorem xorBytes_xorBytes {a b : List Byte} (h : a.length ≤ b.length) : xorBytes (xorBytes a b) b = a := by
  refine List.ext_getElem (by rw [length_xorBytes (by rwa [length_xorBytes h]), length_xorBytes h]) fun i _ _ => ?_
  simp only [xorBytes, List.getElem_zipWith, BitVec.xor_assoc, BitVec.xor_self, BitVec.xor_zero]

section
variable (ks : List Nat) (iv : List Byte)

/-- The first block, or what there is of it, and the rest. -/
theorem gcmCtrs_succ {l : List Byte} (h : l ≠ []) (n i : Nat) : gcmCtrs ks iv (n + 1) i l =
    xorBytes (l.take 16) (aesEnc ks (gcmCtr iv i)) ++ gcmCtrs ks iv n (i + 1) (l.drop 16) := by
  simp [gcmCtrs, h]

theorem length_take_le_aesEnc (l blk : List Byte) : (l.take 16).length ≤ (aesEnc ks blk).length := by
  rw [length_aesEnc]; exact List.length_take_le _ _

theorem length_gcmCtrs : ∀ (n i : Nat) (l : List Byte), l.length ≤ 16 * n → (gcmCtrs ks iv n i l).length = l.length
  | 0, _, l, h => by
    obtain rfl := List.eq_nil_of_length_eq_zero (by omega : l.length = 0)
    rfl
  | n + 1, i, [], _ => rfl
  | n + 1, i, b :: l, h => by
    have hd : ((b :: l).drop 16).length ≤ 16 * n := by rw [List.length_drop]; omega
    rw [gcmCtrs_succ ks iv (List.cons_ne_nil b l), List.length_append, length_xorBytes (length_take_le_aesEnc ks _ _),
      length_gcmCtrs n (i + 1) _ hd, ← List.length_append, List.take_append_drop]

/-- Counter mode a second time gives the text back: each block meets the same block of key stream. -/
theorem gcmCtrs_gcmCtrs : ∀ (n i : Nat) (l : List Byte), l.length ≤ 16 * n → gcmCtrs ks iv n i (gcmCtrs ks iv n i l) = l
  | 0, _, l, h => (List.eq_nil_of_length_eq_zero (by omega : l.length = 0)).symm
  | n + 1, i, [], _ => rfl
  | n + 1, i, b :: l, h => by
    have hd : ((b :: l).drop 16).length ≤ 16 * n := by rw [List.length_drop]; omega
    have hlen := length_gcmCtrs ks iv (n + 1) i (b :: l) h
    have hne : gcmCtrs ks iv (n + 1) i (b :: l) ≠ [] := List.ne_nil_of_length_pos (by rw [hlen]; exact Nat.succ_pos _)
    have hx := length_xorBytes (length_take_le_aesEnc ks (b :: l) (gcmCtr iv i))
    have hr := length_gcmCtrs ks iv n (i + 1) _ hd
    have ih := gcmCtrs_gcmCtrs n (i + 1) _ hd
    have hxx := xorBytes_xorBytes (length_take_le_aesEnc ks (b :: l) (gcmCtr iv i))
    rw [gcmCtrs_succ ks iv hne, gcmCtrs_succ ks iv (List.cons_ne_nil b l)]
    rw [List.length_take] at hx
    rw [List.length_drop] at hr
    generalize xorBytes ((b :: l).take 16) (aesEnc ks (gcmCtr iv i)) = x at hx hxx ⊢
    generalize gcmCtrs ks iv n (i + 1) ((b :: l).drop 16) = r at hr ih ⊢
    have hcut : (x ++ r).take 16 = x ∧ (x ++ r).drop 16 = r := by
      by_cases hfull : 16 ≤ (b :: l).length
      · exact ⟨List.take_left' (by omega), List.drop_left' (by omega)⟩
      · obtain rfl := List.eq_nil_of_length_eq_zero (by omega : r.length = 0)
        rw [List.append_nil]
        exact ⟨List.take_of_length_le (by omega), List.drop_eq_nil_of_le (by omega)⟩
    rw [hcut.1, hcut.2, hxx, ih, List.take_append_drop]

end

/-- Settles O53: the tag is computed anew over the same ciphertext, and counter mode undoes itself. -/
theorem cipherRoundTrip : Obligations.CipherRoundTrip := by
  unfold Obligations.CipherRoundTrip
  intro key iv aad pt _
  have hlen : (gcmEncrypt key iv aad pt).1.length = pt.length := length_gcmCtrs _ iv _ 1 pt (by omega)
  refine ⟨hlen, Prod.ext ?text (decide_eq_true rfl)⟩
  simp only [gcmDecrypt, hlen]
  exact gcmCtrs_gcmCtrs _ iv _ 1 pt (by omega)

end Sys2Proof.Machine
end

section
/-!
PROOFS. Reads and key material (08_cipher R228). XFM_CST_TBL shows the reference count of a table bank (06_compression R186,
R193): how many blocks of its generation the gateway holds. The model counts the blocks of segments still encrypted in
receive staging by what their key makes of them (`Core.itemPlain`), so that window's words depend on the key: the count tells
two keys apart.
-/

namespace Sys2Proof.Machine

open Sys2Proof

/-- A block of a LOSSLESS segment as its header shows it: MODE 1, generation 0, 16 B. -/
def codedBlock : List Byte := [0x40, 0, 0, 16] ++ List.replicate 12 0

/-- The second invocation of a message of flow 0, whole in receive staging: `codedBlock` encrypted under key 0. -/
def stagedBlock : RxItem :=
  let h := segHdr tMsg 1 0 16 0 (msgPlace 0 0 0)
  { id := 0, hdr := h, ct := (gcmEncrypt 0 (shIv h) (hdrAad h) codedBlock).1, ke := 0, g := 0, gseq := 0, pos := 0, cell := 0
    t := 0, done := true }

/-- The same message's first invocation, verified: an index table whose first block stands at offset 0, no other. -/
def indexedMessage : RxMsg :=
  { flow := 0, base := 0, size := 784, cmpl := 0, ptr := 0
    raw := [(0, List.replicate 3 0 ++ List.replicate 765 0xFF)] }

/-- Key slot 0, the slot of the LOSSLESS flow 0, holds `key`; bank 0 of class 0 is valid. -/
def stagedUnder (key : BitVec 256) : State :=
  let k : Core :=
    { fcs := { rxMsgs := [indexedMessage] }
      cle := { rx := [stagedBlock] }
      xfm := { banks := ({} : SMap Bank).set {} 0 { valid := true } }
      cip := { slots := { cells := [(0, { p0 := { loaded := true, key := key } })] } } }
  { State.reset with core := k.setFctx 0 0x28 (2 * 2 ^ 48) }

/-- The states differ in the key alone. -/
theorem blind_stagedUnder (key key' : BitVec 256) : (stagedUnder key).blind = (stagedUnder key').blind := rfl

/-- Under the block's own key the bank state word counts one reference, and the bank is not free. -/
theorem readReg_stagedUnder_zero : ((stagedUnder 0).readReg (Reg.XFM_CST_TBL + 4) true).2.1 = 0x80000001 := by decide +kernel

/-- Under another key the same ciphertext is no block of the generation: no reference, and the bank is free. -/
theorem readReg_stagedUnder_one : ((stagedUnder 1).readReg (Reg.XFM_CST_TBL + 4) true).2.1 = 0xA0000000 := by decide +kernel

/-- Refutes O60: a read of XFM_CST_TBL tells key 0 from key 1, by the references a staged segment's plaintext holds. -/
theorem not_keysCannotBeRead : ¬ Obligations.KeysCannotBeRead := by
  unfold Obligations.KeysCannotBeRead
  intro h
  have he := congrArg Prod.fst (h _ _ (Reg.XFM_CST_TBL + 4) true (blind_stagedUnder 0 1))
  rw [readReg_stagedUnder_zero, readReg_stagedUnder_one] at he
  exact absurd he (by decide)

end Sys2Proof.Machine
end

section
/-!
PROOFS. Key slots (08_cipher R227 to R248): what a slot reads after a position of it is set, and what the key commands'
operations do to the slots: a position switched to, one retired, a key loaded, a slot zeroized.
-/

namespace Sys2Proof.Machine

open Sys2Proof

/-! ### Positions of a slot -/

@[simp] theorem KeySlot.pos_setPos_same (x : KeySlot) (p : Nat) (y : KeyPos) : (x.setPos p y).pos p = y := by
  unfold KeySlot.setPos KeySlot.pos
  split <;> rfl

/-- The other position stands. -/
@[simp] theorem KeySlot.pos_setPos_other (x : KeySlot) (p : Nat) (y : KeyPos) : (x.setPos p y).pos (1 - p) = x.pos (1 - p) := by
  obtain rfl | rfl | h : p = 0 ∨ p = 1 ∨ 1 - p = 0 ∧ p ≠ 0 := by omega
  · rfl
  · rfl
  · rw [KeySlot.setPos, if_neg h.2, h.1]; rfl

section
variable (k : Core) {l : List Part} {r : List Nat}

@[simp] theorem Core.kslot_setKslot_same (i : Nat) (x : KeySlot) : (k.setKslot i x).kslot i = x := SMap.get_set_same _ _ _ _

theorem Core.kslot_setKslot_ne {i j : Nat} (h : j ≠ i) (x : KeySlot) : (k.setKslot i x).kslot j = k.kslot j :=
  SMap.get_set_ne _ _ _ h _

theorem Core.kslot_of_cip {k k' : Core} (h : k'.cip = k.cip) (i : Nat) : k'.kslot i = k.kslot i := by
  unfold Core.kslot; rw [h]

theorem Core.onlyParts_setKslot (h : Part.cip ∈ l) (i : Nat) (x : KeySlot) : k.onlyParts l (k.setKslot i x) :=
  k.onlyParts_cip h _

theorem Core.onlyRegs_setKslot (i : Nat) (x : KeySlot) : k.onlyRegs r (k.setKslot i x) := Core.onlyRegs_of_regs rfl

/-! ### Audit records and key messages -/

@[simp] theorem Core.audit_cip (slot owner op st keyId flow : Nat) : (k.audit slot owner op st keyId flow).cip = k.cip :=
  Core.emit_cip _ _ _ _

theorem Core.onlyParts_audit (slot owner op st keyId flow : Nat) : k.onlyParts l (k.audit slot owner op st keyId flow) :=
  Core.onlyParts_emit _ _ _

theorem Core.onlyRegs_audit (slot owner op st keyId flow : Nat) : k.onlyRegs r (k.audit slot owner op st keyId flow) :=
  Core.onlyRegs_emit _ _ _

/-- A message to a site changes its group's queue alone. -/
theorem Core.gccTo_eq (s : Nat) (m : List Byte) : ∃ g, k.gccTo s m = { k with lgrp := g } := by
  unfold Core.gccTo
  split
  · exact ⟨_, rfl⟩
  · exact ⟨_, rfl⟩

theorem Core.keyMsg_eq (typ i keyId pos : Nat) : ∃ g, k.keyMsg typ i keyId pos = { k with lgrp := g } := by
  unfold Core.keyMsg
  generalize k.keyPeers i = ps
  have hfold : ∀ (ps : List Nat) (c : Core), (∃ g, c = { k with lgrp := g }) → ∃ g,
      ps.foldl (fun (k : Core) s => k.gccTo s ([byte typ, byte k.mySite] ++ beBytes 4 keyId ++ [byte pos] ++ List.replicate 9 0)) c =
        { k with lgrp := g } := by
    intro ps
    induction ps with
    | nil => exact fun _ h => h
    | cons p ps ih =>
      rintro c ⟨g, rfl⟩
      rw [List.foldl_cons]
      obtain ⟨g', hg'⟩ := Core.gccTo_eq { k with lgrp := g } p
        ([byte typ, byte ({ k with lgrp := g } : Core).mySite] ++ beBytes 4 keyId ++ [byte pos] ++ List.replicate 9 0)
      exact ih _ ⟨g', hg'⟩
  exact hfold ps k ⟨k.lgrp, rfl⟩

theorem Core.keyMsg_cip (typ i keyId pos : Nat) : (k.keyMsg typ i keyId pos).cip = k.cip := by
  obtain ⟨g, h⟩ := k.keyMsg_eq typ i keyId pos
  rw [h]

theorem Core.onlyParts_keyMsg (h : Part.lgrp ∈ l) (typ i keyId pos : Nat) : k.onlyParts l (k.keyMsg typ i keyId pos) := by
  obtain ⟨g, hg⟩ := k.keyMsg_eq typ i keyId pos
  rw [hg]
  exact Core.onlyParts_lgrp h g

theorem Core.onlyRegs_keyMsg (typ i keyId pos : Nat) : k.onlyRegs r (k.keyMsg typ i keyId pos) := by
  obtain ⟨g, hg⟩ := k.keyMsg_eq typ i keyId pos
  rw [hg]
  exact Core.onlyRegs_of_regs rfl

/-! ### SWITCH (R244) -/

/-- Slot `i` after a SWITCH to position `pos`: it is the transmit position, the other one is held if it has a key. -/
def Core.switched (i pos : Nat) : KeySlot :=
  let x := k.kslot i
  { (x.setPos (1 - pos) { x.pos (1 - pos) with held := (x.pos (1 - pos)).loaded, lastArr := k.now }).setPos pos
      { x.pos pos with held := false } with txPos := pos, ready := 0 }

/-- The checks of a SWITCH to a loaded position that is not the transmit position are passed by its peers. -/
theorem Core.switchCheck_eq {i pos : Nat} (hl : ((k.kslot i).pos pos).loaded = true) (htx : (k.kslot i).txPos ≠ pos) :
    k.switchCheck i pos = if k.peersIn i (k.kslot i).ready then stOk else stBusy := by
  unfold Core.switchCheck
  simp only [hl, htx, Bool.not_true, Bool.false_eq_true, if_false]
  cases k.peersIn i (k.kslot i).ready <;> rfl

theorem Core.switchNow_switches {i pos : Nat} (tt : Bool) (hl : ((k.kslot i).pos pos).loaded = true)
    (htx : (k.kslot i).txPos ≠ pos) (hp : k.peersIn i (k.kslot i).ready = true) :
    (k.switchNow i pos tt).2 = stOk ∧ (k.switchNow i pos tt).1.cip = (k.setKslot i (k.switched i pos)).cip ∧
      k.onlyParts [.cip] (k.switchNow i pos tt).1 ∧ k.onlyRegs [] (k.switchNow i pos tt).1 := by
  have hst : k.switchCheck i pos = stOk := by rw [k.switchCheck_eq hl htx, hp]; rfl
  have hnow : ∃ e, k.switchNow i pos tt = (((k.setKslot i (k.switched i pos)).emit 0x48B0 0x0901 e).audit i (k.kslot i).owner 2
      stOk ((k.kslot i).pos pos).keyId 0x3FFF, stOk) := by
    unfold Core.switchNow
    simp only [hst, htx, ne_eq, not_true_eq_false, if_false]
    exact ⟨_, rfl⟩
  obtain ⟨e, hnow⟩ := hnow
  rw [hnow]
  refine ⟨rfl, by rw [Core.audit_cip, Core.emit_cip], ?_, ?_⟩
  · exact Core.onlyParts_trans (k.onlyParts_setKslot (by simp) _ _)
      (Core.onlyParts_trans (Core.onlyParts_emit _ _ _) (Core.onlyParts_audit _ _ _ _ _ _ _))
  · exact Core.onlyRegs_trans (k.onlyRegs_setKslot _ _)
      (Core.onlyRegs_trans (Core.onlyRegs_emit _ _ _) (Core.onlyRegs_audit _ _ _ _ _ _ _))

/-! ### RETIRE (R245) -/

/-- Slot `i` after the retirement of position `pos`: the position keeps its key's KEY_ID alone. -/
def Core.retired (i pos : Nat) : KeySlot :=
  let x := k.kslot i
  { x.setPos pos { prevId := (x.pos pos).keyId } with ackWait := !(k.keyPeers i).isEmpty && !k.peersIn i x.rack }

theorem Core.retirePos_retires (i pos : Nat) (cmd : Bool) :
    (k.retirePos i pos cmd).cip = (k.setKslot i (k.retired i pos)).cip ∧ k.onlyParts [.cip, .lgrp] (k.retirePos i pos cmd) ∧
      k.onlyRegs [] (k.retirePos i pos cmd) := by
  have h : ∃ e, k.retirePos i pos cmd = (((k.setKslot i (k.retired i pos)).keyMsg 0x32 i ((k.kslot i).pos pos).keyId pos).emit
      0x48B0 0x0902 e).audit i (k.kslot i).owner 3 stOk ((k.kslot i).pos pos).keyId 0x3FFF := ⟨_, rfl⟩
  obtain ⟨e, h⟩ := h
  rw [h]
  refine ⟨by rw [Core.audit_cip, Core.emit_cip, Core.keyMsg_cip], ?_, ?_⟩
  · exact Core.onlyParts_trans (k.onlyParts_setKslot (by simp) _ _) (Core.onlyParts_trans (Core.onlyParts_keyMsg _ (by simp) _ _ _ _)
      (Core.onlyParts_trans (Core.onlyParts_emit _ _ _) (Core.onlyParts_audit _ _ _ _ _ _ _)))
  · exact Core.onlyRegs_trans (k.onlyRegs_setKslot _ _) (Core.onlyRegs_trans (Core.onlyRegs_keyMsg _ _ _ _ _)
      (Core.onlyRegs_trans (Core.onlyRegs_emit _ _ _) (Core.onlyRegs_audit _ _ _ _ _ _ _)))

end

end Sys2Proof.Machine
end

section
/-!
PROOFS. The key commands (08_cipher R227 to R248): LOAD and its end, SWITCH, RETIRE, ZEROIZE, the end of a hold, key messages
received.
-/

namespace Sys2Proof.Machine

open Sys2Proof

/-! ### A key loaded (R230, R232) -/

/-- A LOAD_SEQ taken changes the flash's ledger and the cipher's counters, no slot. -/
theorem State.takeSeq_eq {s u : State} {q : Nat} (h : s.takeSeq = some (u, q)) :
    ∃ v c, u = { s with nvm := v, core := { s.core with cip := c } } ∧ c.slots = s.core.cip.slots := by
  unfold State.takeSeq at h
  dsimp only at h
  split at h
  · obtain ⟨rfl, -⟩ := Prod.mk.inj (Option.some.inj h)
    exact ⟨_, _, rfl, rfl⟩
  split at h
  · exact absurd h (by simp)
  · obtain ⟨rfl, -⟩ := Prod.mk.inj (Option.some.inj h)
    exact ⟨_, _, rfl, rfl⟩

/-- The position a blob loads under LOAD_SEQ `q`. -/
def KeyBlob.position (b : KeyBlob) (q : Nat) : KeyPos :=
  { loaded := true, key := b.key, salt := b.salt, keyId := b.keyId, loadSeq := q }

/-- A LOAD's running state cleared, its blob too. -/
def Core.loadCleared (k : Core) : Core := { k with cip := { k.cip with blob := [], kcmd := none } }

/-- A LOAD that passes its checks puts the blob's key into its position, whatever it notes beside in the slot. -/
theorem State.loadKey_loads {s u : State} {i pos q : Nat} {blob : List Byte} {b : KeyBlob}
    (hc : s.loadCheck i pos blob = (stOk, some b)) (hq : s.takeSeq = some (u, q)) :
    ∃ x k, x.pos pos = b.position q ∧ k.cip = (u.core.setKslot i x).cip ∧ u.core.onlyParts [.cip, .lgrp] k ∧
      u.core.onlyRegs [] k ∧ s.loadKey i pos blob = ({ u with core := k.loadCleared }, stOk) := by
  let x' : KeySlot := (s.core.kslot i).setPos pos (b.position q)
  let x : KeySlot := if (s.core.kslot i).empty then
      { x' with owner := b.owner, purpose := b.purpose, txPos := pos, ackWait := false, rack := 0 }
    else { x' with rack := 0, ackWait := u.core.ackOpen i }
  have hx : x.pos pos = b.position q := by
    have hx' : x'.pos pos = b.position q := KeySlot.pos_setPos_same _ _ _
    unfold x
    split <;> exact hx'
  let k := ((u.core.setKslot i x).emit 0x48B0 0x0900 [(107, 96, i), (95, 95, pos), (63, 32, b.keyId), (31, 0, q)]).audit i b.owner 1
    stOk b.keyId 0x3FFF
  have hcip : k.cip = (u.core.setKslot i x).cip := by unfold k; rw [Core.audit_cip, Core.emit_cip]
  have hparts : u.core.onlyParts [.cip, .lgrp] k := Core.onlyParts_trans (Core.onlyParts_setKslot _ (by simp) _ _)
    (Core.onlyParts_trans (Core.onlyParts_emit _ _ _) (Core.onlyParts_audit _ _ _ _ _ _ _))
  have hregs : u.core.onlyRegs [] k := Core.onlyRegs_trans (Core.onlyRegs_setKslot _ _ _)
    (Core.onlyRegs_trans (Core.onlyRegs_emit _ _ _) (Core.onlyRegs_audit _ _ _ _ _ _ _))
  have hload : s.loadKey i pos blob =
      ({ u with core := (if x.txPos ≠ pos then k.keyMsg 0x31 i b.keyId pos else k).loadCleared }, stOk) := by
    unfold State.loadKey
    simp only [hc, hq]
    rfl
  refine ⟨x, if x.txPos ≠ pos then k.keyMsg 0x31 i b.keyId pos else k, hx, ?_, ?_, ?_, hload⟩
  all_goals split
  · rw [Core.keyMsg_cip, hcip]
  · exact hcip
  · exact Core.onlyParts_trans hparts (Core.onlyParts_keyMsg _ (by simp) _ _ _ _)
  · exact hparts
  · exact Core.onlyRegs_trans hregs (Core.onlyRegs_keyMsg _ _ _ _ _)
  · exact hregs

/-- The checks of a LOAD either refuse it with a status, or give the key it takes. -/
theorem State.loadCheck_cases (s : State) (i pos : Nat) (blob : List Byte) :
    (∃ st, st ≠ stOk ∧ st < 256 ∧ s.loadCheck i pos blob = (st, none)) ∨ ∃ b, s.loadCheck i pos blob = (stOk, some b) := by
  unfold State.loadCheck
  dsimp only
  split
  · exact .inl ⟨_, by decide, by decide, rfl⟩
  split
  · exact .inl ⟨_, by decide, by decide, rfl⟩
  split
  · exact .inl ⟨_, by decide, by decide, rfl⟩
  split
  · exact .inl ⟨_, by decide, by decide, rfl⟩
  split
  · exact .inl ⟨_, by decide, by decide, rfl⟩
  split
  · exact .inl ⟨_, by decide, by decide, rfl⟩
  split
  · exact .inl ⟨_, by decide, by decide, rfl⟩
  split
  · exact .inl ⟨_, by decide, by decide, rfl⟩
  · exact .inr ⟨_, rfl⟩

/-- A LOAD that fails its checks ends with their status; no slot changes. -/
theorem State.loadKey_refused {s : State} {i pos st : Nat} {blob : List Byte} (h : s.loadCheck i pos blob = (st, none))
    (hne : st ≠ stOk) : ∃ k, k.cip = s.core.cip ∧ s.core.onlyParts [.cip] k ∧ s.core.onlyRegs [Reg.CIP_UNWRAP_CNT] k ∧
      s.loadKey i pos blob = ({ s with core := k.loadCleared }, st) := by
  have hcount : ∀ (p : Prop) [Decidable p] (e : List (Nat × Nat × Nat)),
      (if p then (s.core.cnt Reg.CIP_UNWRAP_CNT).emit 0x48B0 0x0908 e else s.core).cip = s.core.cip ∧
      s.core.onlyParts [.cip] (if p then (s.core.cnt Reg.CIP_UNWRAP_CNT).emit 0x48B0 0x0908 e else s.core) ∧
      s.core.onlyRegs [Reg.CIP_UNWRAP_CNT] (if p then (s.core.cnt Reg.CIP_UNWRAP_CNT).emit 0x48B0 0x0908 e else s.core) := by
    intro p _ e
    split
    · exact ⟨by rw [Core.emit_cip, Core.cnt_cip], Core.onlyParts_trans (Core.onlyParts_cnt _) (Core.onlyParts_emit _ _ _),
        Core.onlyRegs_trans (Core.onlyRegs_cnt (by simp)) (Core.onlyRegs_emit _ _ _)⟩
    · exact ⟨rfl, Core.onlyParts_refl _ _, Core.onlyRegs_refl _ _⟩
  unfold State.loadKey
  simp only [h, if_neg hne]
  refine ⟨_, ?_, ?_, ?_, rfl⟩
  · exact (Core.audit_cip _ _ _ _ _ _ _).trans (hcount _ _).1
  · exact Core.onlyParts_trans (hcount _ _).2.1 (Core.onlyParts_audit _ _ _ _ _ _ _)
  · exact Core.onlyRegs_trans (hcount _ _).2.2 (Core.onlyRegs_audit _ _ _ _ _ _ _)

/-! ### What a command leaves -/

section
variable {s u t : State} {l : List Part} {r : List Nat}

theorem State.only_drained (h : s.only l r u) : s.only l r u.drainEvents.alertChk := by
  obtain ⟨hout, hparts, hregs⟩ := h
  refine ⟨?_, fun p hp => Part.same_alert p (Part.same_drain p (hparts p hp)), fun a ha h1 h2 => ?_⟩
  · simpa [State.outsideStands] using hout
  · rw [State.rd_alertChk, State.rd_drainEvents]
    exact hregs a ha h1 h2

/-- A write to the cipher's block that leaves `k` with the status `st`. -/
theorem State.mgmt_cipCmd {f : Core → Core × Nat} {k : Core} {st : Nat} (ha : s.answers = true) (hk : f s.core = (k, st))
    (hst : st < 256) (ht : t = s.mgmt Reg.CIP_STAT f) :
    t.core.cip = k.cip ∧ t.core.fd Reg.CIP_STAT 7 0 = st ∧
      ∀ (l : List Part) (r : List Nat), Reg.CIP_STAT ∈ r → s.core.onlyParts l k → s.core.onlyRegs r k → s.only l r t := by
  have hk1 : (f s.core).1 = k := congrArg Prod.fst hk
  subst ht
  refine ⟨by rw [State.mgmt_cip _ ha, hk1], ?_, fun l r hr hp hg => State.only_mgmt s ha _ f hr (hk1 ▸ hp) (hk1 ▸ hg)⟩
  rw [State.mgmt_status _ ha _ _ (by simp [evReg]), hk, Nat.mod_eq_of_lt hst]

end

/-! ### LOAD (R230, R231) -/

section
variable {s t : State}

theorem State.keyLoad_taken {i p : Nat} (ha : s.answers = true) (hb : s.core.kbusy = false)
    (ht : t = s.mgmt Reg.CIP_STAT (fun k => k.keyCmd 1 i p)) :
    t.core.cip.kcmd = some { slot := i, pos := p, status := stOk } ∧ t.core.cip.slots = s.core.cip.slots ∧
      t.core.fd Reg.CIP_STAT 7 0 = stOk ∧ s.only [.cip] [Reg.CIP_STAT] t := by
  have hk : s.core.keyCmd 1 i p =
      ({ s.core with cip := { s.core.cip with kcmd := some { slot := i, pos := p, status := stOk } } }, stOk) := by
    simp [Core.keyCmd, hb]
  obtain ⟨hcip, hst, honly⟩ := State.mgmt_cipCmd ha hk (by decide) ht
  exact ⟨by rw [hcip], by rw [hcip], hst, honly _ _ (by simp) (Core.onlyParts_cip _ (by simp) _) (Core.onlyRegs_of_regs rfl)⟩

theorem State.keyLoad_busy {i p : Nat} (ha : s.answers = true) (hb : s.core.kbusy = true)
    (ht : t = s.mgmt Reg.CIP_STAT (fun k => k.keyCmd 1 i p)) :
    t.core.fd Reg.CIP_STAT 7 0 = stBusy ∧ s.only [] [Reg.CIP_STAT] t := by
  have hk : s.core.keyCmd 1 i p =
      (s.core.audit i (s.core.kslot i).owner 1 stBusy ((s.core.kslot i).pos p).keyId 0x3FFF, stBusy) := by
    simp [Core.keyCmd, hb]
  obtain ⟨-, hst, honly⟩ := State.mgmt_cipCmd ha hk (by decide) ht
  exact ⟨hst, honly _ _ (by simp) (Core.onlyParts_audit _ _ _ _ _ _ _) (Core.onlyRegs_audit _ _ _ _ _ _ _)⟩

end

section
variable {s t : State} {c : KCmd}

/-- The core after a LOAD's end that left `k` with the status `st`. -/
theorem Core.loadEnded {k : Core} {st : Nat} {l : List Part} {r : List Nat} {k₀ : Core} (hl : Part.cip ∈ l)
    (hr : Reg.CIP_STAT ∈ r) (hst : st < 256) (hp : k₀.onlyParts l k) (hg : k₀.onlyRegs r k) :
    (k.loadCleared.wrf Reg.CIP_STAT 7 0 st).cip = { k.cip with blob := [], kcmd := none } ∧
      (k.loadCleared.wrf Reg.CIP_STAT 7 0 st).fd Reg.CIP_STAT 7 0 = st ∧
      k₀.onlyParts l (k.loadCleared.wrf Reg.CIP_STAT 7 0 st) ∧ k₀.onlyRegs r (k.loadCleared.wrf Reg.CIP_STAT 7 0 st) := by
  refine ⟨rfl, ?_, ?_, ?_⟩
  · rw [Core.fd_wrf_same _ _ _ _ _ (by decide) (by decide)]
    exact Nat.mod_eq_of_lt hst
  · exact Core.onlyParts_trans hp (Core.onlyParts_trans (k.onlyParts_cip hl _) (Core.onlyParts_wrf _ _ _ _))
  · exact Core.onlyRegs_trans hg (Core.onlyRegs_trans (Core.onlyRegs_of_regs (k' := k.loadCleared) rfl) (Core.onlyRegs_wrf hr _ _ _))

theorem State.loadDone_ends (hc : s.core.cip.kcmd = some c) (hw : s.core.cip.writes.any (fun w => w.op == .load) = false)
    (h : (s.loadCheck c.slot c.pos (padTo 64 s.core.cip.blob)).1 = stOk → s.core.slotBusy c.slot = false) {k : Core} {u : State}
    {st : Nat} (hload : s.loadKey c.slot c.pos (padTo 64 s.core.cip.blob) = ({ u with core := k.loadCleared }, st)) :
    s.loadDone = { u with core := k.loadCleared.wrf Reg.CIP_STAT 7 0 st } := by
  have hwait : ¬ ((s.loadCheck c.slot c.pos (padTo 64 s.core.cip.blob)).1 = stOk ∧ s.core.slotBusy c.slot = true) := by
    rintro ⟨hok, hb⟩
    rw [h hok] at hb
    exact absurd hb (by decide)
  rw [State.loadDone, hc]
  simp only [hw, Bool.false_eq_true, if_false, if_neg hwait]
  rw [State.loadEnd, hc]
  simp only [hload]

theorem State.loadDone_loads {b : KeyBlob} {u : State} {q : Nat} (hc : s.core.cip.kcmd = some c)
    (hw : s.core.cip.writes.any (fun w => w.op == .load) = false) (hb : s.core.slotBusy c.slot = false)
    (hck : s.loadCheck c.slot c.pos (padTo 64 s.core.cip.blob) = (stOk, some b)) (hq : s.takeSeq = some (u, q))
    (ht : t = s.loadDone.drainEvents.alertChk) :
    (t.core.kslot c.slot).pos c.pos = b.position q ∧ t.nvm = u.nvm ∧
      (∀ j, j ≠ c.slot → t.core.kslot j = s.core.kslot j) ∧ t.core.cip.kcmd = none ∧ t.core.cip.blob = [] ∧
      t.core.fd Reg.CIP_STAT 7 0 = stOk ∧ s.core.onlyParts [.cip, .lgrp] t.core ∧ s.core.onlyRegs [Reg.CIP_STAT] t.core := by
  obtain ⟨x, k, hx, hcip, hparts, hregs, hload⟩ := State.loadKey_loads hck hq
  obtain ⟨v, d, rfl, hd⟩ := State.takeSeq_eq hq
  obtain ⟨hcip', hst, hp, hg⟩ := Core.loadEnded (l := [.cip, .lgrp]) (r := [Reg.CIP_STAT]) (by simp) (by simp) (by decide : stOk < 256)
    (Core.onlyParts_trans (s.core.onlyParts_cip (by simp) d) hparts)
    (Core.onlyRegs_trans (Core.onlyRegs_of_regs rfl) (Core.onlyRegs_mono (by simp) hregs))
  have hdone := State.loadDone_ends hc hw (fun _ => hb) hload
  subst ht
  have hslot : ∀ j, s.loadDone.drainEvents.alertChk.core.kslot j = (({ s.core with cip := d } : Core).setKslot c.slot x).kslot j :=
    fun j => by
      rw [Core.kslot_of_cip ((State.alertChk_cip _).trans (State.drainEvents_cip _)), hdone]
      unfold Core.kslot
      rw [hcip', hcip]
  refine ⟨?_, ?_, fun j hj => ?_, ?_, ?_, ?_, fun p hl => ?_, fun a ha h1 h2 => ?_⟩
  · rw [hslot, Core.kslot_setKslot_same, hx]
  · rw [State.alertChk_nvm, State.drainEvents_nvm, hdone]
  · rw [hslot, Core.kslot_setKslot_ne _ hj]
    unfold Core.kslot
    rw [hd]
  · rw [State.alertChk_cip, State.drainEvents_cip, hdone, hcip']
  · rw [State.alertChk_cip, State.drainEvents_cip, hdone, hcip']
  · rw [Core.fd, State.rd_alertChk, State.rd_drainEvents, hdone]
    exact hst
  · exact Part.same_alert p (Part.same_drain p (hdone ▸ hp p hl))
  · rw [State.rd_alertChk, State.rd_drainEvents, hdone]
    exact hg a ha h1 h2

theorem State.loadDone_waits (hc : s.core.cip.kcmd = some c) (hw : s.core.cip.writes.any (fun w => w.op == .load) = false)
    (hb : s.core.slotBusy c.slot = true) (hck : (s.loadCheck c.slot c.pos (padTo 64 s.core.cip.blob)).1 = stOk)
    (ht : t = s.loadDone.drainEvents.alertChk) :
    t.core.cip = { s.core.cip with writes := s.core.cip.writes ++ [{ slot := c.slot, pos := c.pos, op := .load }] } ∧
      s.only [.cip] [] t := by
  have hdone : s.loadDone = { s with core := s.core.slotWait c.slot c.pos .load } := by
    rw [State.loadDone, hc]
    simp only [hw, Bool.false_eq_true, if_false, hck, hb, and_self, if_true]
  subst ht
  refine ⟨by rw [State.alertChk_cip, State.drainEvents_cip, hdone]; rfl, State.only_drained ?_⟩
  rw [hdone]
  exact State.only_of_core (s.core.onlyParts_cip (by simp) _) (Core.onlyRegs_of_regs rfl)

theorem State.loadDone_refuses (hc : s.core.cip.kcmd = some c) (hw : s.core.cip.writes.any (fun w => w.op == .load) = false)
    (hck : (s.loadCheck c.slot c.pos (padTo 64 s.core.cip.blob)).2 = none) (ht : t = s.loadDone.drainEvents.alertChk) :
    t.core.cip.slots = s.core.cip.slots ∧ t.core.cip.kcmd = none ∧ t.core.cip.blob = [] ∧
      t.core.fd Reg.CIP_STAT 7 0 = (s.loadCheck c.slot c.pos (padTo 64 s.core.cip.blob)).1 ∧
      s.only [.cip] [Reg.CIP_STAT, Reg.CIP_UNWRAP_CNT] t := by
  obtain ⟨st, hne, hlt, hst⟩ | ⟨b, hok⟩ := s.loadCheck_cases c.slot c.pos (padTo 64 s.core.cip.blob)
  case inr => rw [hok] at hck; exact absurd hck (by simp)
  obtain ⟨k, hcip, hparts, hregs, hload⟩ := State.loadKey_refused hst hne
  obtain ⟨hcip', hfd, hp, hg⟩ := Core.loadEnded (l := [.cip]) (r := [Reg.CIP_STAT, Reg.CIP_UNWRAP_CNT]) (by simp) (by simp) hlt hparts
    (Core.onlyRegs_mono (by simp) hregs)
  have hdone := State.loadDone_ends hc hw (fun h => absurd (by rw [hst] at h; exact h) hne) hload
  have hcip'' : s.loadDone.drainEvents.alertChk.core.cip = { s.core.cip with blob := [], kcmd := none } := by
    rw [State.alertChk_cip, State.drainEvents_cip, hdone, hcip', hcip]
  subst ht
  refine ⟨by rw [hcip''], by rw [hcip''], by rw [hcip''], ?_, State.only_drained ?_⟩
  · rw [Core.fd, State.rd_alertChk, State.rd_drainEvents, hdone, hst]
    exact hfd
  · rw [hdone]
    exact State.only_of_core hp hg

end

end Sys2Proof.Machine
end

section
/-!
PROOFS. SWITCH, RETIRE, the end of a hold and key messages as commands (08_cipher R231, R243 to R245).
-/

namespace Sys2Proof.Machine

open Sys2Proof

/-! ### SWITCH -/

section
variable {s t : State} {i p : Nat}

theorem Core.keySwitch_of_idle {k : Core} (tt : Bool) (h : tt = true ∨ k.kbusy = false) : k.keySwitch i p tt =
    if k.switchCheck i p = stOk ∧ (k.kslot i).txPos ≠ p ∧ k.slotBusy i = true then (k.slotWait i p (.switch tt), stOk)
    else k.switchNow i p tt := by
  have hidle : ¬ (!tt && k.kbusy) = true := by
    rcases h with rfl | h
    · simp
    · simp [h]
  unfold Core.keySwitch
  exact if_neg hidle

theorem State.keySwitch_waits (ha : s.answers = true) (hb : s.core.kbusy = false)
    (hl : ((s.core.kslot i).pos p).loaded = true) (htx : (s.core.kslot i).txPos ≠ p)
    (hp : s.core.peersIn i (s.core.kslot i).ready = true) (hbusy : s.core.slotBusy i = true)
    (ht : t = s.mgmt Reg.CIP_STAT (fun k => k.keyCmd 2 i p)) :
    t.core.cip = { s.core.cip with writes := s.core.cip.writes ++ [{ slot := i, pos := p, op := .switch false }] } ∧
      t.core.fd Reg.CIP_STAT 7 0 = stOk ∧ s.only [.cip] [Reg.CIP_STAT] t := by
  have hck : s.core.switchCheck i p = stOk := by rw [s.core.switchCheck_eq hl htx, hp]; rfl
  have hk : s.core.keyCmd 2 i p = (s.core.slotWait i p (.switch false), stOk) :=
    (Core.keySwitch_of_idle false (.inr hb)).trans (if_pos ⟨hck, htx, hbusy⟩)
  obtain ⟨hcip, hst, honly⟩ := State.mgmt_cipCmd ha hk (by decide) ht
  exact ⟨hcip, hst, honly _ _ (by simp) (s.core.onlyParts_cip (by simp) _) (Core.onlyRegs_of_regs rfl)⟩

/-- A slot after a SWITCH: what its two positions and its transmit position read. -/
theorem Core.switched_reads (k : Core) (i p : Nat) : (k.switched i p).txPos = p ∧ (k.switched i p).ready = 0 ∧
    (k.switched i p).pos p = { (k.kslot i).pos p with held := false } ∧
    (p < 2 → ((k.switched i p).pos (1 - p)).held = ((k.kslot i).pos (1 - p)).loaded ∧
      ((k.switched i p).pos (1 - p)).key = ((k.kslot i).pos (1 - p)).key) := by
  refine ⟨rfl, rfl, KeySlot.pos_setPos_same _ _ _, fun _ => ?_⟩
  have hother : (k.switched i p).pos (1 - p) =
      { (k.kslot i).pos (1 - p) with held := ((k.kslot i).pos (1 - p)).loaded, lastArr := k.now } :=
    (KeySlot.pos_setPos_other _ _ _).trans (KeySlot.pos_setPos_same _ _ _)
  rw [hother]
  exact ⟨rfl, rfl⟩

theorem State.keySwitch_switches (hlt : p < 2) (ha : s.answers = true) (hb : s.core.kbusy = false)
    (hl : ((s.core.kslot i).pos p).loaded = true) (htx : (s.core.kslot i).txPos ≠ p)
    (hp : s.core.peersIn i (s.core.kslot i).ready = true) (hbusy : s.core.slotBusy i = false)
    (ht : t = s.mgmt Reg.CIP_STAT (fun k => k.keyCmd 2 i p)) :
    (t.core.kslot i).txPos = p ∧ (t.core.kslot i).ready = 0 ∧
      (t.core.kslot i).pos p = { (s.core.kslot i).pos p with held := false } ∧
      ((t.core.kslot i).pos (1 - p)).held = ((s.core.kslot i).pos (1 - p)).loaded ∧
      ((t.core.kslot i).pos (1 - p)).key = ((s.core.kslot i).pos (1 - p)).key ∧
      (∀ j, j ≠ i → t.core.kslot j = s.core.kslot j) ∧ t.core.fd Reg.CIP_STAT 7 0 = stOk ∧ s.only [.cip] [Reg.CIP_STAT] t := by
  obtain ⟨hok, hcip, hparts, hregs⟩ := Core.switchNow_switches (k := s.core) false hl htx hp
  have hk : s.core.keyCmd 2 i p = ((s.core.switchNow i p false).1, stOk) :=
    ((Core.keySwitch_of_idle false (.inr hb)).trans (if_neg fun h => by rw [hbusy] at h; exact absurd h.2.2 (by decide))).trans
      (Prod.ext rfl hok)
  obtain ⟨hcip', hst, honly⟩ := State.mgmt_cipCmd ha hk (by decide) ht
  have hslot : ∀ j, t.core.kslot j = (s.core.setKslot i (s.core.switched i p)).kslot j :=
    Core.kslot_of_cip (hcip'.trans hcip)
  obtain ⟨htx', hready, hpos, hother⟩ := s.core.switched_reads i p
  obtain ⟨hheld, hkey⟩ := hother hlt
  rw [hslot i, Core.kslot_setKslot_same]
  exact ⟨htx', hready, hpos, hheld, hkey, fun j hj => by rw [hslot j, Core.kslot_setKslot_ne _ hj], hst,
    honly _ _ (by simp) hparts (Core.onlyRegs_mono (by simp) hregs)⟩

theorem State.keySwitch_empty (ha : s.answers = true) (hb : s.core.kbusy = false)
    (hl : ((s.core.kslot i).pos p).loaded = false) (ht : t = s.mgmt Reg.CIP_STAT (fun k => k.keyCmd 2 i p)) :
    t.core.fd Reg.CIP_STAT 7 0 = stSlot ∧ s.only [] [Reg.CIP_STAT] t := by
  have hck : s.core.switchCheck i p = stSlot := by simp [Core.switchCheck, hl]
  have hne : stSlot ≠ stOk := by decide
  have hnow : s.core.switchNow i p false =
      (s.core.audit i (s.core.kslot i).owner 2 stSlot ((s.core.kslot i).pos p).keyId 0x3FFF, stSlot) := by
    unfold Core.switchNow
    simp only [hck, ne_eq, hne, not_false_eq_true, if_true, Bool.false_eq_true, if_false]
  have hk := ((Core.keySwitch_of_idle (i := i) (p := p) (k := s.core) false (.inr hb)).trans
    (if_neg fun h => hne (hck.symm.trans h.1))).trans hnow
  obtain ⟨-, hst, honly⟩ := State.mgmt_cipCmd ha hk (by decide) ht
  exact ⟨hst, honly _ _ (by simp) (Core.onlyParts_audit _ _ _ _ _ _ _) (Core.onlyRegs_audit _ _ _ _ _ _ _)⟩

/-! ### RETIRE and the end of a hold -/

theorem Core.retired_pos (k : Core) (i p : Nat) : (k.retired i p).pos p = { prevId := ((k.kslot i).pos p).keyId } ∧
    (k.retired i p).pos (1 - p) = (k.kslot i).pos (1 - p) :=
  ⟨KeySlot.pos_setPos_same _ _ _, KeySlot.pos_setPos_other _ _ _⟩

theorem State.keyRetire_retires (ha : s.answers = true) (hb : s.core.kbusy = false) (hbusy : s.core.slotBusy i = false)
    (hl : ((s.core.kslot i).pos p).loaded = true) (hh : ((s.core.kslot i).pos p).held = false)
    (htx : (s.core.kslot i).txPos ≠ p) (ht : t = s.mgmt Reg.CIP_STAT (fun k => k.keyCmd 3 i p)) :
    (t.core.kslot i).pos p = { prevId := ((s.core.kslot i).pos p).keyId } ∧
      (t.core.kslot i).pos (1 - p) = (s.core.kslot i).pos (1 - p) ∧
      (∀ j, j ≠ i → t.core.kslot j = s.core.kslot j) ∧ t.core.fd Reg.CIP_STAT 7 0 = stOk ∧
      s.only [.cip, .lgrp] [Reg.CIP_STAT] t := by
  have hk : s.core.keyCmd 3 i p = (s.core.retirePos i p true, stOk) := by
    have hnow : s.core.retireNow i p = (s.core.retirePos i p true, stOk) := by
      simp [Core.retireNow, hl, hh, htx]
    change s.core.keyRetire i p = _
    rw [Core.keyRetire]
    simp [hb, hbusy, hnow]
  obtain ⟨hcip, hparts, hregs⟩ := s.core.retirePos_retires i p true
  obtain ⟨hcip', hst, honly⟩ := State.mgmt_cipCmd ha hk (by decide) ht
  have hslot : ∀ j, t.core.kslot j = (s.core.setKslot i (s.core.retired i p)).kslot j :=
    Core.kslot_of_cip (hcip'.trans hcip)
  obtain ⟨hpos, hother⟩ := s.core.retired_pos i p
  rw [hslot i, Core.kslot_setKslot_same]
  exact ⟨hpos, hother, fun j hj => by rw [hslot j, Core.kslot_setKslot_ne _ hj], hst,
    honly _ _ (by simp) hparts (Core.onlyRegs_mono (by simp) hregs)⟩

theorem State.heldKeyRetire_retires (hl : ((s.core.kslot i).pos p).loaded = true) (hh : ((s.core.kslot i).pos p).held = true)
    (hover : ((s.core.kslot i).pos p).lastArr + s.core.keyHold ≤ s.core.now) (hbusy : s.core.slotBusy i = false)
    (ht : t = s.onCore (fun k => k.heldRetireEv i p)) :
    (t.core.kslot i).pos p = { prevId := ((s.core.kslot i).pos p).keyId } ∧
      (∀ j, j ≠ i → t.core.kslot j = s.core.kslot j) ∧ s.only [.cip, .lgrp] [] t := by
  have hev : s.core.heldRetireEv i p = s.core.retirePos i p false := by
    simp [Core.heldRetireEv, Core.heldNow, hbusy, hh, hl, hover]
  obtain ⟨hcip, hparts, hregs⟩ := s.core.retirePos_retires i p false
  have hslot : ∀ j, t.core.kslot j = (s.core.setKslot i (s.core.retired i p)).kslot j :=
    Core.kslot_of_cip (by rw [ht, State.onCore_cip, hev, hcip])
  rw [hslot i, Core.kslot_setKslot_same]
  exact ⟨(s.core.retired_pos i p).1, fun j hj => by rw [hslot j, Core.kslot_setKslot_ne _ hj],
    ht ▸ State.only_onCore s _ (hev ▸ hparts) (hev ▸ hregs)⟩

end

/-! ### Key messages received -/

theorem setBit_true_idem (m i : Nat) : setBit (setBit m i true) i true = setBit m i true := by
  simp [setBit]

/-- A bit of `read`, a mask of a key slot, set in each slot of a list: the slots of the list hold it, whatever else `upd` puts
beside it, and only the slots change. -/
theorem Core.foldl_setKslot_bit {l : List Part} {r : List Nat} (hl : Part.cip ∈ l) (read : KeySlot → Nat) (site : Nat)
    (upd : Core → Nat → KeySlot) (hupd : ∀ k i, read (upd k i) = setBit (read (k.kslot i)) site true) (is : List Nat) (k : Core) :
    (∀ i, read ((is.foldl (fun k i => k.setKslot i (upd k i)) k).kslot i) =
      if i ∈ is then setBit (read (k.kslot i)) site true else read (k.kslot i)) ∧
    (is.foldl (fun k i => k.setKslot i (upd k i)) k).lgrp = k.lgrp ∧
    k.onlyParts l (is.foldl (fun k i => k.setKslot i (upd k i)) k) ∧
    k.onlyRegs r (is.foldl (fun k i => k.setKslot i (upd k i)) k) := by
  induction is generalizing k with
  | nil => exact ⟨fun i => by simp, rfl, Core.onlyParts_refl _ _, Core.onlyRegs_refl _ _⟩
  | cons j is ih =>
    obtain ⟨hread, hlgrp, hparts, hregs⟩ := ih (k.setKslot j (upd k j))
    refine ⟨fun i => ?_, hlgrp, Core.onlyParts_trans (k.onlyParts_setKslot hl _ _) hparts,
      Core.onlyRegs_trans (k.onlyRegs_setKslot _ _) hregs⟩
    rw [List.foldl_cons, hread]
    by_cases hij : i = j
    · subst hij
      rw [Core.kslot_setKslot_same, hupd, setBit_true_idem]
      simp
    · rw [Core.kslot_setKslot_ne _ hij]
      simp [hij]

section
variable {s t : State} {g : Nat} {m : List Byte × Nat} {rest : List (List Byte × Nat)}

theorem Core.grp_setGrp_same (k : Core) (g : Nat) (x : LGroup) : (k.setGrp g x).grp g = x := SMap.get_set_same _ _ _ _

/-- The first message of group `g`'s queue taken from it. -/
def Core.gccTaken (k : Core) (g : Nat) (rest : List (List Byte × Nat)) : Core := k.setGrp g { k.grp g with gccIn := rest }

theorem Core.rekeyEv_eq {k : Core} {typ : Nat} (hin : (k.grp g).gccIn = m :: rest) (hm : byteAt m.1 0 = typ) :
    k.rekeyEv g typ = if typ = 0x31 then (k.gccTaken g rest).rekeyReady m.1 else (k.gccTaken g rest).rekeyRetired m.1 := by
  have hhead : k.gccHead g [typ] = some (m.1, k.gccTaken g rest) := by
    simp [Core.gccHead, hin, hm, Core.gccTaken]
  unfold Core.rekeyEv
  rw [hhead]

/-- What a key message leaves, `k'` being the core after what it does once it is taken from its group's queue. -/
theorem State.rekey_leaves {k' : Core} (hlgrp : k'.lgrp = (s.core.gccTaken g rest).lgrp)
    (hparts : (s.core.gccTaken g rest).onlyParts [.cip, .lgrp] k')
    (hregs : (s.core.gccTaken g rest).onlyRegs [Reg.CIP_KMSG_CNT] k') {typ : Nat} (hev : s.core.rekeyEv g typ = k')
    (ht : t = s.onCore (fun k => k.rekeyEv g typ)) :
    (t.core.grp g).gccIn = rest ∧ t.core.cip = k'.cip ∧ t.core.rd Reg.CIP_KMSG_CNT = k'.rd Reg.CIP_KMSG_CNT ∧
      s.only [.cip, .lgrp] [Reg.CIP_KMSG_CNT] t := by
  refine ⟨?_, by rw [ht, State.onCore_cip, hev], by rw [ht, State.rd_onCore _ _ (by unfold evReg; decide), hev],
    ht ▸ State.only_onCore s _ (hev ▸ ?_) (hev ▸ ?_)⟩
  · have hgrp : t.core.grp g = (s.core.gccTaken g rest).grp g := by
      unfold Core.grp
      rw [ht, State.onCore_lgrp, hev, hlgrp]
    rw [hgrp, Core.gccTaken, Core.grp_setGrp_same]
  · exact Core.onlyParts_trans (k' := s.core.gccTaken g rest) (Core.onlyParts_setGrp (by simp) _ _) hparts
  · exact Core.onlyRegs_trans (k' := s.core.gccTaken g rest) (Core.onlyRegs_of_regs rfl) hregs

/-- A key message's bit set in the slots of `is`, or the message counted when no slot has its key. -/
theorem Core.keyMessage_effect (read : KeySlot → Nat) (site : Nat) (upd : Core → Nat → KeySlot)
    (hupd : ∀ k i, read (upd k i) = setBit (read (k.kslot i)) site true) (is : List Nat) (k k' : Core)
    (hk : k' = if is.isEmpty then k.cnt Reg.CIP_KMSG_CNT else is.foldl (fun k i => k.setKslot i (upd k i)) k) :
    (∀ i ∈ is, read (k'.kslot i) = setBit (read (k.kslot i)) site true) ∧
      (is = [] → k'.cip = k.cip ∧ k'.rd Reg.CIP_KMSG_CNT = min (k.rd Reg.CIP_KMSG_CNT + 1) (2 ^ 32 - 1)) ∧
      k'.lgrp = k.lgrp ∧ k.onlyParts [.cip, .lgrp] k' ∧ k.onlyRegs [Reg.CIP_KMSG_CNT] k' := by
  cases is with
  | nil =>
    subst hk
    exact ⟨fun i hi => absurd hi (by simp), fun _ => ⟨Core.cnt_cip _ _, Core.rd_cnt_same _ _⟩, Core.cnt_lgrp _ _, Core.onlyParts_cnt _,
      Core.onlyRegs_cnt (by simp)⟩
  | cons j is =>
    obtain ⟨hread, hlgrp, hparts, hregs⟩ := Core.foldl_setKslot_bit (l := [.cip, .lgrp]) (r := [Reg.CIP_KMSG_CNT]) (by simp) read site
      upd hupd (j :: is) k
    subst hk
    exact ⟨fun i hi => (hread i).trans (if_pos hi), fun h => absurd h (by simp), hlgrp, hparts, hregs⟩

/-- A slot in which the readiness of a site is noted. -/
def Core.readyNoted (site : Nat) (k : Core) (i : Nat) : KeySlot := { k.kslot i with ready := setBit (k.kslot i).ready site true }

/-- A slot in which a site's retirement is noted. -/
def Core.rackNoted (site : Nat) (k : Core) (i : Nat) : KeySlot :=
  { k.kslot i with
    rack := setBit (k.kslot i).rack site true
    ackWait := k.ackOpen i && !k.peersIn i (setBit (k.kslot i).rack site true) }

theorem State.rekeyReadyRx_notes {is : List Nat} (hin : (s.core.grp g).gccIn = m :: rest) (hm : byteAt m.1 0 = 0x31)
    (his : is = s.core.slotsWhere (fun p => p.loaded && p.keyId == beNat (slice m.1 2 4)))
    (ht : t = s.onCore (fun k => k.rekeyEv g 0x31)) :
    (t.core.grp g).gccIn = rest ∧
      (∀ i ∈ is, (t.core.kslot i).ready = setBit (s.core.kslot i).ready (byteAt m.1 1 % 16) true) ∧
      (is = [] → t.core.cip = s.core.cip ∧
        t.core.rd Reg.CIP_KMSG_CNT = min (s.core.rd Reg.CIP_KMSG_CNT + 1) (2 ^ 32 - 1)) ∧
      s.only [.cip, .lgrp] [Reg.CIP_KMSG_CNT] t := by
  subst his
  have hev := (Core.rekeyEv_eq hin hm).trans (if_pos rfl)
  obtain ⟨hread, hnone, hlgrp, hparts, hregs⟩ := Core.keyMessage_effect KeySlot.ready (byteAt m.1 1 % 16)
    (Core.readyNoted (byteAt m.1 1 % 16)) (fun _ _ => rfl) _ (s.core.gccTaken g rest) ((s.core.gccTaken g rest).rekeyReady m.1) rfl
  obtain ⟨hgcc, hcip, hrd, honly⟩ := State.rekey_leaves hlgrp hparts hregs hev ht
  exact ⟨hgcc, fun i hi => (congrArg KeySlot.ready (Core.kslot_of_cip hcip i)).trans (hread i hi),
    fun h => ⟨hcip.trans (hnone h).1, hrd.trans (hnone h).2⟩, honly⟩

theorem State.rekeyRetiredRx_notes {is : List Nat} (hin : (s.core.grp g).gccIn = m :: rest) (hm : byteAt m.1 0 = 0x32)
    (his : is = s.core.slotsWhere (fun p => (p.loaded && p.keyId == beNat (slice m.1 2 4)) ||
      (!p.loaded && p.prevId == beNat (slice m.1 2 4) && beNat (slice m.1 2 4) != 0)))
    (ht : t = s.onCore (fun k => k.rekeyEv g 0x32)) :
    (t.core.grp g).gccIn = rest ∧
      (∀ i ∈ is, (t.core.kslot i).rack = setBit (s.core.kslot i).rack (byteAt m.1 1 % 16) true) ∧
      (is = [] → t.core.cip = s.core.cip ∧
        t.core.rd Reg.CIP_KMSG_CNT = min (s.core.rd Reg.CIP_KMSG_CNT + 1) (2 ^ 32 - 1)) ∧
      s.only [.cip, .lgrp] [Reg.CIP_KMSG_CNT] t := by
  subst his
  have hev := (Core.rekeyEv_eq hin hm).trans (if_neg (by decide))
  obtain ⟨hread, hnone, hlgrp, hparts, hregs⟩ := Core.keyMessage_effect KeySlot.rack (byteAt m.1 1 % 16)
    (Core.rackNoted (byteAt m.1 1 % 16)) (fun _ _ => rfl) _ (s.core.gccTaken g rest) ((s.core.gccTaken g rest).rekeyRetired m.1) rfl
  obtain ⟨hgcc, hcip, hrd, honly⟩ := State.rekey_leaves hlgrp hparts hregs hev ht
  exact ⟨hgcc, fun i hi => (congrArg KeySlot.rack (Core.kslot_of_cip hcip i)).trans (hread i hi),
    fun h => ⟨hcip.trans (hnone h).1, hrd.trans (hnone h).2⟩, honly⟩

end

end Sys2Proof.Machine
end

section
/-!
PROOFS. ZEROIZE of a slot without users (08_cipher R248): its requests end, the slot is cleared, and who uses the slot is read as
before.
-/

namespace Sys2Proof.Machine

open Sys2Proof

/-! ### The live flows after a buffer's return -/

section
variable {k k' : Core} {p : Nat}

theorem Core.mem_liveFlows {f : Nat} : f ∈ k.liveFlows ↔ ∃ c ∈ k.fns.cells, FnCell.live c ∧ c.1 - 0x10000 = f := by
  simp [Core.liveFlows, FnCell.live]

theorem Core.liveFlows_lt {f : Nat} (h : f ∈ k.liveFlows) : f < 0x4000 := by
  obtain ⟨c, -, ⟨hlo, hhi, -⟩, hf⟩ := Core.mem_liveFlows.1 h
  omega

/-- No flow lives in `k'` that does not in `k`. -/
def Core.liveWithin (k k' : Core) : Prop := ∀ f ∈ k'.liveFlows, f ∈ k.liveFlows

theorem Core.liveWithin_of_fns (h : k'.fns = k.fns) : k.liveWithin k' := fun f hf => by rwa [Core.liveFlows_of_fns h] at hf

theorem Core.liveWithin_trans {k'' : Core} (h : k.liveWithin k') (h' : k'.liveWithin k'') : k.liveWithin k'' :=
  fun f hf => h f (h' f hf)

theorem Core.liveWithin_setFn_pool (hp : p < 64) (x : Fn) : k.liveWithin (k.setFn (.pool p) x) := by
  intro f hf
  obtain ⟨c, hc, hlive, hcf⟩ := Core.mem_liveFlows.1 hf
  have hcell : c = ((FnId.pool p).code, x) ∨ c ∈ k.fns.cells := by
    simp only [Core.setFn, SMap.set] at hc
    split at hc
    · exact .inr (eraseCell_subset _ _ c hc)
    · exact (insertCell_mem _ _ _ c hc).imp_right (eraseCell_subset _ _ c)
  rcases hcell with rfl | hmem
  · obtain ⟨hlo, -, -⟩ := hlive
    simp only [FnId.code] at hlo
    omega
  · exact Core.mem_liveFlows.2 ⟨c, hmem, hlive, hcf⟩

theorem Core.liveWithin_setFst_pool (hp : p < 64) (n : FState) (st : Nat) : k.liveWithin (k.setFst (.pool p) n st) :=
  Core.liveWithin_trans (Core.liveWithin_setFn_pool hp _) (Core.liveWithin_of_fns (Core.setFst_pool_fns p n st))

theorem Core.liveWithin_bpm (b : Bpm) : k.liveWithin { k with bpm := b } := fun _ h => h

theorem Core.liveWithin_poolChk (hp : p < 64) : k.liveWithin (Core.poolChk p k) := by
  unfold Core.poolChk
  split
  · exact Core.fnDrained_keeps (P := k.liveWithin) (fun _ _ _ h => Core.liveWithin_trans h (Core.liveWithin_setFst_pool hp _ _))
      (fun _ _ h => Core.liveWithin_trans h (Core.liveWithin_setFn_pool hp _))
      (fun _ h => Core.liveWithin_trans h (Core.liveWithin_trans (Core.liveWithin_bpm _) (Core.liveWithin_setFst_pool hp _ _)))
      (fun _ hf => hf) _ _
  · exact fun _ hf => hf

theorem Core.liveWithin_returnBuf (ptr owner : Nat) : k.liveWithin (k.returnBuf ptr owner).1 := by
  unfold Core.returnBuf
  dsimp only
  split
  · split
    next hp => exact Core.liveWithin_trans (Core.liveWithin_bpm _) (Core.liveWithin_poolChk (k.poolOf_lt hp))
    next => exact fun _ hf => hf
  · exact Core.liveWithin_of_fns ((Core.emitLim_fns _ _ _ _ _ _ _).trans (Core.cnt_fns _ _))

theorem Core.liveWithin_giveBack (ptr : Option Nat) (owner : Nat) : k.liveWithin (k.giveBack ptr owner) := by
  cases ptr with
  | none => exact fun _ hf => hf
  | some p => exact Core.liveWithin_returnBuf p owner

theorem Core.liveWithin_foldl {α : Type} {g : Core → α → Core} (hg : ∀ (k : Core) a, k.liveWithin (g k a)) (l : List α) :
    k.liveWithin (l.foldl g k) := by
  induction l generalizing k with
  | nil => exact fun _ hf => hf
  | cons a l ih => exact Core.liveWithin_trans (hg k a) ih

theorem Core.liveWithin_dropReq (f : BufUser → Bool) : k.liveWithin (k.dropReq f) :=
  Core.liveWithin_trans (Core.liveWithin_bpm _) (Core.liveWithin_foldl (fun _ _ => Core.liveWithin_giveBack _ _) _)

theorem Core.liveWithin_dropItem (i : RxItem) : k.liveWithin (k.dropItem i) :=
  have hrx : k.liveWithin (k.withRx (k.cle.rx.filter (fun j => j.id != i.id))) := fun _ hf => hf
  Core.liveWithin_trans hrx (Core.liveWithin_trans (Core.liveWithin_dropReq _) (Core.liveWithin_giveBack _ _))

end

/-! ### What the end of a request leaves -/

/-- What the end of requests in flight leaves: of the cipher all but its cores, the flows' words, the chunk failures, and no flow
that did not live. -/
structure Core.Ends (k k' : Core) : Prop where
  cip : ∃ c, k'.cip = { k.cip with cores := c }
  live : k.liveWithin k'
  words : ∀ f off, f < 0x4000 → off < 0x100 → k'.fctx f off = k.fctx f off
  failQ : k'.cle.failQ = k.cle.failQ
  parts : k.onlyParts [.cip, .frt, .tbl, .cle, .bpm, .fns] k'
  regs : k.onlyRegs [Reg.BPM_BADRET_CNT] k'

section
variable {k k' k'' : Core}

theorem Core.Ends.refl (k : Core) : k.Ends k :=
  ⟨⟨_, rfl⟩, fun _ h => h, fun _ _ _ _ => rfl, rfl, Core.onlyParts_refl _ _, Core.onlyRegs_refl _ _⟩

theorem Core.Ends.trans (h : k.Ends k') (h' : k'.Ends k'') : k.Ends k'' where
  cip := by
    obtain ⟨c, hc⟩ := h.cip
    obtain ⟨c', hc'⟩ := h'.cip
    exact ⟨c', by rw [hc', hc]⟩
  live := Core.liveWithin_trans h.live h'.live
  words f off hf ho := (h'.words f off hf ho).trans (h.words f off hf ho)
  failQ := h'.failQ.trans h.failQ
  parts := Core.onlyParts_trans h.parts h'.parts
  regs := Core.onlyRegs_trans h.regs h'.regs

theorem Core.ends_foldl {α : Type} {g : Core → α → Core} (l : List α) (hg : ∀ a ∈ l, ∀ k : Core, k.Ends (g k a)) :
    k.Ends (l.foldl g k) := by
  induction l generalizing k with
  | nil => exact .refl k
  | cons a l ih => exact (hg a List.mem_cons_self k).trans (ih fun b hb => hg b (List.mem_cons_of_mem _ hb))

variable (k)

/-- A word of the table of failed requests is no flow's. -/
theorem Core.ends_tbw_lastErr {w : Nat} (hw : w < 32) (v : Nat) : k.Ends (k.tbw Reg.CIP_LASTERR_TBL w v) where
  cip := ⟨_, rfl⟩
  live := fun _ h => h
  words f off hf ho := by
    have hne : ∀ i, i < 2 ^ 24 → tkey Reg.FCS_CTX_TBL i ≠ tkey Reg.CIP_LASTERR_TBL w := fun i hi => by
      simp only [tkey, Reg.FCS_CTX_TBL, Reg.CIP_LASTERR_TBL]; omega
    simp only [Core.fctx, Core.tbn]
    rw [Core.tb_tbw_ne _ (hne _ (by omega)), Core.tb_tbw_ne _ (hne _ (by omega))]
  failQ := rfl
  parts := Core.onlyParts_tbw (by simp) _ _ _
  regs := Core.onlyRegs_of_regs rfl

theorem Core.ends_lastErr (r : Req) (st : Nat) : k.Ends (k.lastErr r st) := by
  refine .trans (Core.ends_foldl _ fun w hw k => ?_) (Core.ends_tbw_lastErr _ (by decide) _)
  have h8 : w.2 < 8 := (List.snd_lt_of_mem_zipIdx hw).trans_eq rfl
  exact (k.ends_tbw_lastErr (by omega) _).trans (Core.ends_tbw_lastErr _ (by omega) _)

theorem Core.ends_itemGone (v : Nat) : k.Ends (k.itemGone v) :=
  ⟨⟨_, rfl⟩, fun _ h => h, fun _ _ _ _ => rfl, rfl, Core.onlyParts_frt (by simp) _, Core.onlyRegs_of_regs rfl⟩

theorem Core.ends_dropItem (i : RxItem) : k.Ends (k.dropItem i) := by
  have h := k.returned_dropItem i
  refine ⟨⟨k.cip.cores, h.parts .cip (by decide)⟩, Core.liveWithin_dropItem i, fun f off _ _ => Core.fctx_of_tbl h.tbl f off,
    (congrArg Cle.failQ h.cle).trans rfl, ?_, fun a h1 h2 h3 => h.regs a h1 h2 h3⟩
  exact Core.onlyParts_trans (Core.onlyParts_cle (by simp) _) (Core.onlyParts_mono (by simp) h.parts)

/-- A core's request ends with ST_SLOT: recorded, its producer told. -/
def Core.runEnded (n : Nat) (x : Run) : Core :=
  let k := ({ k with cip := { k.cip with cores := k.cip.cores.set none n none } } : Core).lastErr x.req stSlot
  if x.req.op = 1 then k.itemGone x.req.ver
  else match x.req.use with
    | .msgIn _ _ _ i => k.againItem true i
    | _ => k

theorem Core.ends_againItem (id : Nat) : k.Ends (k.againItem true id) := by
  unfold Core.againItem
  split
  · exact .refl k
  · exact k.ends_dropItem _

theorem Core.ends_cores (c : SMap (Option Run)) : k.Ends { k with cip := { k.cip with cores := c } } :=
  ⟨⟨_, rfl⟩, fun _ h => h, fun _ _ _ _ => rfl, rfl, k.onlyParts_cip (by simp) _, Core.onlyRegs_of_regs rfl⟩

theorem Core.itemGone_cip (v : Nat) : (k.itemGone v).cip = k.cip := rfl

theorem Core.lastErr_cip (r : Req) (st : Nat) : (k.lastErr r st).cip = k.cip := by
  have hfold : ∀ (l : List (Nat × Nat)) (k : Core), (l.foldl (fun (k : Core) w =>
      (k.tbw Reg.CIP_LASTERR_TBL (2 * w.2) w.1).tbw Reg.CIP_LASTERR_TBL (2 * w.2 + 1) (w.1 >>> 32)) k).cip = k.cip := by
    intro l
    induction l with
    | nil => exact fun _ => rfl
    | cons w l ih => exact fun k => (ih _).trans rfl
  exact (Core.tbw_cip _ _ _ _).trans (hfold _ _)

theorem Core.againItem_cip (id : Nat) : (k.againItem true id).cip = k.cip := by
  unfold Core.againItem
  split
  · rfl
  · exact (k.returned_dropItem _).parts .cip (by decide)

theorem Core.ends_runEnded (n : Nat) (x : Run) : k.Ends (k.runEnded n x) := by
  refine (k.ends_cores (k.cip.cores.set none n none)).trans (.trans (Core.ends_lastErr _ x.req stSlot) ?_)
  unfold Core.runEnded
  dsimp only
  split
  · exact Core.ends_itemGone _ _
  · split
    · exact Core.ends_againItem _ _
    · exact .refl _

theorem Core.runEnded_cores (n : Nat) (x : Run) : (k.runEnded n x).cip.cores = k.cip.cores.set none n none := by
  unfold Core.runEnded
  dsimp only
  split
  · rw [Core.itemGone_cip, Core.lastErr_cip]
  · split
    · rw [Core.againItem_cip, Core.lastErr_cip]
    · rw [Core.lastErr_cip]

/-- The end of core `n`'s request if `which` names it, counted. -/
def Core.endRun (which : Req → Bool) (a : Core × Nat) (n : Nat) : Core × Nat :=
  match a.1.cip.cores.get none n with
  | some x => if which x.req then (a.1.runEnded n x, a.2 + 1) else a
  | none => a

theorem Core.endRuns_eq (which : Req → Bool) : k.endRuns which = (List.range 160).foldl (Core.endRun which) (k, 0) := rfl

end

section
variable {which : Req → Bool}

/-- One core looked at: what runs after it ran before, and core `n` runs nothing that `which` names. -/
theorem Core.ends_endRun (a : Core × Nat) (n : Nat) : a.1.Ends (Core.endRun which a n).1 ∧
    ∀ m x, (Core.endRun which a n).1.cip.cores.get none m = some x →
      a.1.cip.cores.get none m = some x ∧ (m = n → which x.req = false) := by
  unfold Core.endRun
  split
  next y hy =>
    split
    next hw =>
      refine ⟨Core.ends_runEnded _ n y, fun m x hx => ?_⟩
      rw [Core.runEnded_cores] at hx
      by_cases hm : m = n
      · rw [hm, SMap.get_set_same] at hx
        exact absurd hx (by simp)
      · rw [SMap.get_set_ne _ _ _ hm] at hx
        exact ⟨hx, fun h => absurd h hm⟩
    next hw =>
      refine ⟨.refl _, fun m x hx => ⟨hx, fun h => ?_⟩⟩
      rw [h, hy] at hx
      rw [← Option.some.inj hx]
      exact Bool.eq_false_iff.2 hw
  next hn => exact ⟨.refl _, fun m x hx => ⟨hx, fun h => by rw [h, hn] at hx; exact absurd hx (by simp)⟩⟩

theorem Core.ends_foldl_endRun (ns : List Nat) (a : Core × Nat) : a.1.Ends (ns.foldl (Core.endRun which) a).1 ∧
    ∀ m x, (ns.foldl (Core.endRun which) a).1.cip.cores.get none m = some x →
      a.1.cip.cores.get none m = some x ∧ (m ∈ ns → which x.req = false) := by
  induction ns generalizing a with
  | nil => exact ⟨.refl _, fun m x hx => ⟨hx, fun h => absurd h (by simp)⟩⟩
  | cons n ns ih =>
    obtain ⟨hends, hruns⟩ := Core.ends_endRun (which := which) a n
    obtain ⟨hends', hruns'⟩ := ih (Core.endRun which a n)
    refine ⟨hends.trans hends', fun m x hx => ?_⟩
    obtain ⟨hmid, hin⟩ := hruns' m x hx
    obtain ⟨hold, heq⟩ := hruns m x hmid
    exact ⟨hold, fun h => (List.mem_cons.1 h).elim heq hin⟩

theorem Core.ends_endRuns (k : Core) : k.Ends (k.endRuns which).1 ∧
    ∀ n x, n < 160 → (k.endRuns which).1.cip.cores.get none n = some x → which x.req = false := by
  obtain ⟨hends, hruns⟩ := Core.ends_foldl_endRun (which := which) (List.range 160) (k, 0)
  rw [Core.endRuns_eq]
  exact ⟨hends, fun n x hn hx => (hruns n x hx).2 (List.mem_range.2 hn)⟩

end

/-! ### Who uses a slot -/

section
variable {k k' : Core} {i : Nat}

/-- A slot no live flow uses is used by none after the end of requests, nor is it a group's. -/
theorem Core.Ends.users (h : k.Ends k') : (k.slotFlows i = [] → k'.slotFlows i = []) ∧ k'.slotGroups i = k.slotGroups i := by
  constructor
  · simp only [Core.slotFlows, List.filter_eq_nil_iff]
    intro hnone f hf
    have hlt := Core.liveFlows_lt hf
    have hkind : k'.fKind f = k.fKind f := by
      unfold Core.fKind Core.ff; rw [h.words f 0 hlt (by decide)]
    have hslot : k'.fKeySlot f = k.fKeySlot f := by
      unfold Core.fKeySlot Core.ff; rw [h.words f 0x28 hlt (by decide)]
    rw [hkind, hslot]
    exact hnone f (h.live f hf)
  · unfold Core.slotGroups
    refine List.filter_congr fun g hg => ?_
    have hlt : g < 8 := List.mem_range.1 hg
    have hrd : k'.rd (Reg.CIP_G_SLOT g) = k.rd (Reg.CIP_G_SLOT g) := by
      refine h.regs _ ?_ ?_ ?_ <;> simp [Reg.CIP_G_SLOT, Reg.BPM_BADRET_CNT, Reg.EVL_DROP_CNT, Reg.MGT_ALERT_STAT] <;> omega
    unfold Core.gSlot Core.fd
    rw [hrd]

/-- With no user, a zeroized slot faults nothing. -/
theorem Core.faultUsers_none (hf : k.slotFlows i = []) (hg : k.slotGroups i = []) : k.faultUsers i = k := by
  unfold Core.faultUsers
  simp [hf, hg]

end

end Sys2Proof.Machine
end

section
/-!
PROOFS. ZEROIZE as a command, and the key commands together (08_cipher R227 to R248).
-/

namespace Sys2Proof.Machine

open Sys2Proof

theorem Core.kslot_of_slots {k k' : Core} (h : k'.cip.slots = k.cip.slots) (i : Nat) : k'.kslot i = k.kslot i := by
  unfold Core.kslot; rw [h]

section
variable (k : Core)

/-- A LOAD cancelled: no LOAD runs, and of the cipher only what a LOAD keeps has changed. -/
theorem Core.cancelLoad_keeps : (∃ b w, k.cancelLoad.cip = { k.cip with kcmd := none, blob := b, writes := w }) ∧
    k.onlyParts [.cip] k.cancelLoad ∧ k.onlyRegs [Reg.CIP_STAT] k.cancelLoad := by
  unfold Core.cancelLoad
  split
  next hnone =>
    refine ⟨⟨k.cip.blob, k.cip.writes, ?_⟩, Core.onlyParts_refl _ _, Core.onlyRegs_refl _ _⟩
    rw [← hnone]
  next c _ =>
    let u : Core := { k with cip := { k.cip with kcmd := none, blob := [], writes := k.cip.writes.filter (fun w => w.op != .load) } }
    have hregs : k.onlyRegs [Reg.CIP_STAT] u := Core.onlyRegs_of_regs rfl
    refine ⟨⟨_, _, (Core.audit_cip _ _ _ _ _ _ _).trans (Core.wrf_cip u _ _ _ _)⟩, ?_, ?_⟩
    · exact Core.onlyParts_trans (k' := u) (k.onlyParts_cip (by simp) _)
        (Core.onlyParts_trans (Core.onlyParts_wrf _ _ _ _) (Core.onlyParts_audit _ _ _ _ _ _ _))
    · exact Core.onlyRegs_trans hregs (Core.onlyRegs_trans (Core.onlyRegs_wrf (by simp) _ _ _) (Core.onlyRegs_audit _ _ _ _ _ _ _))

/-- The core whose slot `i` is cleared, no LOAD running and no write of the slot waiting. -/
def Core.slotCleared (i : Nat) : Core :=
  let k := k.cancelLoad
  ({ k with cip := { k.cip with writes := k.cip.writes.filter (fun w => w.slot != i) } } : Core).setKslot i {}

theorem Core.slotCleared_keeps (i : Nat) : (k.slotCleared i).kslot i = {} ∧ (∀ j, j ≠ i → (k.slotCleared i).kslot j = k.kslot j) ∧
    (k.slotCleared i).cip.kcmd = none ∧ k.onlyParts [.cip] (k.slotCleared i) ∧ k.onlyRegs [Reg.CIP_STAT] (k.slotCleared i) := by
  obtain ⟨⟨b, w, hcip⟩, hparts, hregs⟩ := k.cancelLoad_keeps
  let u : Core := { k.cancelLoad with cip := { k.cancelLoad.cip with writes := k.cancelLoad.cip.writes.filter (fun w => w.slot != i) } }
  have hu : k.slotCleared i = u.setKslot i {} := rfl
  have huregs : k.cancelLoad.onlyRegs [Reg.CIP_STAT] u := Core.onlyRegs_of_regs rfl
  refine ⟨Core.kslot_setKslot_same _ _ _, fun j hj => ?_, congrArg Cip.kcmd hcip, ?_, ?_⟩
  · rw [hu, Core.kslot_setKslot_ne _ hj]
    have hslots : k.cancelLoad.cip.slots = k.cip.slots := by rw [hcip]
    exact Core.kslot_of_slots hslots j
  · exact Core.onlyParts_trans hparts (Core.onlyParts_trans (k' := u) (Core.onlyParts_cip _ (by simp) _)
      (Core.onlyParts_setKslot _ (by simp) _ _))
  · exact Core.onlyRegs_trans hregs (Core.onlyRegs_trans huregs (Core.onlyRegs_setKslot _ _ _))

/-- The users of a slot stand while functions, tables and the groups' registers do. -/
theorem Core.slotCleared_users (i j : Nat) : (k.slotCleared i).slotFlows j = k.slotFlows j ∧
    (k.slotCleared i).slotGroups j = k.slotGroups j := by
  obtain ⟨-, -, -, hparts, hregs⟩ := k.slotCleared_keeps i
  have hff : ∀ f off hi lo, (k.slotCleared i).ff f off hi lo = k.ff f off hi lo := Core.ff_of_tbl (hparts .tbl (by decide))
  constructor
  · unfold Core.slotFlows Core.fKind Core.fKeySlot
    rw [Core.liveFlows_of_fns (hparts .fns (by decide))]
    simp only [hff]
  · unfold Core.slotGroups
    refine List.filter_congr fun g hg => ?_
    have hlt : g < 8 := List.mem_range.1 hg
    have hrd : (k.slotCleared i).rd (Reg.CIP_G_SLOT g) = k.rd (Reg.CIP_G_SLOT g) := by
      refine hregs _ ?_ ?_ ?_ <;> simp [Reg.CIP_G_SLOT, Reg.CIP_STAT, Reg.EVL_DROP_CNT, Reg.MGT_ALERT_STAT] <;> omega
    unfold Core.gSlot Core.fd
    rw [hrd]

/-- An event and an audit record logged end no request. -/
theorem Core.ends_logged (src id : Nat) (e : List (Nat × Nat × Nat)) (slot owner op st keyId flow : Nat) :
    k.Ends ((k.emit src id e).audit slot owner op st keyId flow) ∧
      ((k.emit src id e).audit slot owner op st keyId flow).cip = k.cip := by
  have hp : ∀ l, k.onlyParts l ((k.emit src id e).audit slot owner op st keyId flow) := fun l =>
    Core.onlyParts_trans (Core.onlyParts_emit _ _ _) (Core.onlyParts_audit _ _ _ _ _ _ _)
  have hr : k.onlyRegs [Reg.BPM_BADRET_CNT] ((k.emit src id e).audit slot owner op st keyId flow) :=
    Core.onlyRegs_trans (Core.onlyRegs_emit _ _ _) (Core.onlyRegs_audit _ _ _ _ _ _ _)
  generalize (k.emit src id e).audit slot owner op st keyId flow = w at hp hr
  have hcip : w.cip = k.cip := hp [] .cip (by decide)
  have hcle : w.cle = k.cle := hp [] .cle (by decide)
  have htbl : w.tbl = k.tbl := hp [] .tbl (by decide)
  exact ⟨⟨⟨k.cip.cores, by rw [hcip]⟩, Core.liveWithin_of_fns (hp [] .fns (by decide)),
    fun f off _ _ => Core.fctx_of_tbl htbl f off, by rw [hcle], hp _, hr⟩, hcip⟩

theorem Core.zeroizeSlot_clears {i : Nat} (hf : k.slotFlows i = []) (hg : k.slotGroups i = []) :
    (k.zeroizeSlot i).kslot i = {} ∧ (∀ j, j ≠ i → (k.zeroizeSlot i).kslot j = k.kslot j) ∧
      (∀ n x, n < 160 → (k.zeroizeSlot i).cip.cores.get none n = some x → x.req.slot ≠ i) ∧ (k.zeroizeSlot i).cip.kcmd = none ∧
      (k.zeroizeSlot i).cle.failQ = k.cle.failQ ∧ k.onlyParts [.cip, .frt, .tbl, .cle, .bpm, .fns] (k.zeroizeSlot i) ∧
      k.onlyRegs [Reg.CIP_STAT, Reg.BPM_BADRET_CNT] (k.zeroizeSlot i) := by
  obtain ⟨hclear, hothers, hkcmd, hparts, hregs⟩ := k.slotCleared_keeps i
  obtain ⟨hflows, hgroups⟩ := k.slotCleared_users i i
  obtain ⟨hends, hruns⟩ := (k.slotCleared i).ends_endRuns (which := fun q => q.slot == i)
  obtain ⟨e, o, id, hz⟩ : ∃ e o id, k.zeroizeSlot i =
      ((((k.slotCleared i).endRuns (fun q => q.slot == i)).1.emit 0x48B0 0x0903 e).audit i o 4 stOk id 0x3FFF).faultUsers i :=
    ⟨_, _, _, rfl⟩
  generalize ((k.slotCleared i).endRuns (fun q => q.slot == i)).1 = v at hends hruns hz
  obtain ⟨hlog, hcores⟩ := v.ends_logged 0x48B0 0x0903 e i o 4 stOk id 0x3FFF
  generalize (v.emit 0x48B0 0x0903 e).audit i o 4 stOk id 0x3FFF = w at hlog hcores hz
  have hall := hends.trans hlog
  have hw : k.zeroizeSlot i = w :=
    hz.trans (Core.faultUsers_none (hall.users.1 (hflows.trans hf)) (hall.users.2.trans (hgroups.trans hg)))
  obtain ⟨c, hcip⟩ := hall.cip
  have hslots : ∀ j, w.kslot j = (k.slotCleared i).kslot j := Core.kslot_of_slots (by rw [hcip])
  have hcle : (k.slotCleared i).cle = k.cle := hparts .cle (by decide)
  rw [hw]
  refine ⟨(hslots i).trans hclear, fun j hj => (hslots j).trans (hothers j hj), fun n x hn hx => ?_, ?_, ?_, ?_, ?_⟩
  · rw [hcores] at hx
    simpa using hruns n x hn hx
  · rw [hcip]; exact hkcmd
  · rw [hall.failQ, hcle]
  · exact Core.onlyParts_trans (Core.onlyParts_mono (by simp) hparts) hall.parts
  · exact Core.onlyRegs_trans (Core.onlyRegs_mono (by simp) hregs) (Core.onlyRegs_mono (by simp) hall.regs)

end

theorem State.keyZeroize_clears {s t : State} {i : Nat} (ha : s.answers = true) (hf : s.core.slotFlows i = [])
    (hg : s.core.slotGroups i = []) (hq : s.core.cle.failQ = [])
    (ht : t = s.mgmt Reg.CIP_STAT (fun k => let r := k.keyCmd 4 i 0; (r.1.settle, r.2))) :
    t.core.kslot i = {} ∧ (∀ j, j ≠ i → t.core.kslot j = s.core.kslot j) ∧
      (∀ (n : Fin 160) (x : Run), t.core.cip.cores.get none n = some x → x.req.slot ≠ i) ∧
      t.core.cip.kcmd = none ∧ t.core.fd Reg.CIP_STAT 7 0 = stOk ∧
      s.only [.cip, .frt, .tbl, .cle, .bpm, .fns] [Reg.CIP_STAT, Reg.BPM_BADRET_CNT] t := by
  obtain ⟨hclear, hothers, hruns, hkcmd, hfail, hparts, hregs⟩ := s.core.zeroizeSlot_clears hf hg
  have hk : (fun k : Core => let r := k.keyCmd 4 i 0; (r.1.settle, r.2)) s.core = (s.core.zeroizeSlot i, stOk) :=
    Prod.ext (Core.settle_of_no_failure (hfail.trans hq)) rfl
  obtain ⟨hcip, hst, honly⟩ := State.mgmt_cipCmd ha hk (by decide) ht
  have hslots := Core.kslot_of_cip hcip
  exact ⟨(hslots i).trans hclear, fun j hj => (hslots j).trans (hothers j hj), fun n x hx => hruns n x n.isLt (by rwa [hcip] at hx),
    by rw [hcip, hkcmd], hst, honly _ _ (by simp) hparts hregs⟩

/-- Settles O21: each key command by what it does to its slot, whose other state stands. -/
theorem keySlotsLoadedSwitchedRetired : Obligations.KeySlotsLoadedSwitchedRetired := by
  unfold Obligations.KeySlotsLoadedSwitchedRetired
  refine ⟨fun i p s ha hb => ?_, fun i p s ha hb => ?_, fun c b u q s hc hw hb hck hq => ?_, fun c s hc hw hb hck => ?_,
    fun c s hc hw hck => ?_, fun i p s ha hb hl htx hp hbusy => ?_, fun i p s ha hb hl htx hp hbusy => ?_,
    fun i p s ha hb hl => ?_, fun i p s ha hb hbusy hl hh htx => ?_, fun i s ha hf hg hq => ?_,
    fun i p s hl hh hover hbusy => ?_, fun g m rest s hin hm => ?_, fun g m rest s hin hm => ?_⟩
  · exact Completes.of_exec rfl (State.keyLoad_taken ha hb rfl)
  · exact Completes.of_exec rfl (State.keyLoad_busy ha hb rfl)
  · obtain ⟨hpos, hrest⟩ := State.loadDone_loads hc hw hb hck hq rfl
    refine Completes.of_exec rfl ?_
    rw [hpos]
    exact ⟨rfl, rfl, rfl, rfl, rfl, rfl, hrest⟩
  · exact Completes.of_exec rfl (State.loadDone_waits hc hw hb hck rfl)
  · exact Completes.of_exec rfl (State.loadDone_refuses hc hw hck rfl)
  · exact Completes.of_exec rfl (State.keySwitch_waits ha hb hl htx hp hbusy rfl)
  · exact Completes.of_exec rfl (State.keySwitch_switches p.isLt ha hb hl htx hp hbusy rfl)
  · exact Completes.of_exec rfl (State.keySwitch_empty ha hb hl rfl)
  · exact Completes.of_exec rfl (State.keyRetire_retires ha hb hbusy hl hh htx rfl)
  · exact Completes.of_exec rfl (State.keyZeroize_clears ha hf hg hq rfl)
  · exact Completes.of_exec rfl (State.heldKeyRetire_retires hl hh hover hbusy rfl)
  · exact Completes.of_exec rfl (State.rekeyReadyRx_notes hin hm rfl rfl)
  · exact Completes.of_exec rfl (State.rekeyRetiredRx_notes hin hm rfl rfl)

end Sys2Proof.Machine
end

section
/-!
PROOFS. A request taken by a cipher core (08_cipher R233 to R237): the head of a queue taken, the run or the refusal of a request.
-/

namespace Sys2Proof.Machine

open Sys2Proof

/-! ### The head of a queue taken (R235) -/

section
variable {k : Core} {n q : Nat} {r : Req} {rest : List Req}

/-- The core after the head of queue `q` is taken: `rest` stays, a producer that waits moves up, the rotation goes on. -/
def Core.headTaken (k : Core) (q : Nat) (rest : List Req) : Core :=
  { k.fillReqQ q rest with cip := { (k.fillReqQ q rest).cip with rr := (q + 1) % 16 } }

theorem Core.headTaken_reqQ : (k.headTaken q rest).reqQ q = (rest ++ k.cip.qwait.get [] q).take 256 := SMap.get_set_same _ _ _ _

theorem Core.onlyParts_headTaken : k.onlyParts [.cip] (k.headTaken q rest) := k.onlyParts_cip (by simp) _

theorem Core.onlyRegs_headTaken {l : List Nat} : k.onlyRegs l (k.headTaken q rest) := Core.onlyRegs_of_regs rfl

theorem Core.dispatchEv_eq (hs : bitAt k.svc.ciph n = true) (hfree : k.cip.cores.get none n = none)
    (hp : rrPick 16 k.cip.rr k.queueReady = some q) (hr : k.reqQ q = r :: rest) :
    k.dispatchEv n = if (k.reqCheck r).1 = stOk then (k.headTaken q rest).reqRun r n
      else (k.headTaken q rest).reqRefused r (k.reqCheck r).1 (k.reqCheck r).2 := by
  unfold Core.dispatchEv
  simp only [hs, hfree, hp, hr, Bool.not_true, Option.isSome_none, Bool.or_self, Bool.false_eq_true, if_false]
  rfl

end

/-! ### A request that runs -/

/-- Core `n` runs `x`. -/
def Core.runPut (k : Core) (n : Nat) (x : Run) : Core := { k with cip := { k.cip with cores := k.cip.cores.set none n (some x) } }

section
variable (k : Core) {l : List Part} {rs : List Nat} {n : Nat} {r : Req}

theorem Core.onlyParts_runPut (x : Run) : k.onlyParts [.cip] (k.runPut n x) := k.onlyParts_cip (by simp) _

theorem Core.onlyRegs_runPut (x : Run) : k.onlyRegs rs (k.runPut n x) := Core.onlyRegs_of_regs rfl

/-- A slot after one more use of its transmit position. -/
def Core.slotUsed (i : Nat) : KeySlot :=
  let s := k.kslot i
  s.setPos s.txPos { s.pos s.txPos with used := (s.pos s.txPos).used + 1 }

theorem Core.useKey_uses (i : Nat) : (k.useKey i).cip = (k.setKslot i (k.slotUsed i)).cip ∧ k.onlyParts [.cip] (k.useKey i) ∧
    k.onlyRegs rs (k.useKey i) := by
  have hp : k.onlyParts [.cip] (k.setKslot i (k.slotUsed i)) := k.onlyParts_setKslot (by simp) _ _
  have hr : k.onlyRegs rs (k.setKslot i (k.slotUsed i)) := k.onlyRegs_setKslot _ _
  unfold Core.useKey
  dsimp only
  split
  · exact ⟨Core.emit_cip _ _ _ _, Core.onlyParts_trans hp (Core.onlyParts_emit _ _ _), Core.onlyRegs_trans hr (Core.onlyRegs_emit _ _ _)⟩
  · exact ⟨rfl, hp, hr⟩

/-- Blocks that arrive touch the banks of their class. -/
theorem Core.genArrived_eq (cls t : Nat) (bs : List (List Byte)) : ∃ x, k.genArrived cls t bs = { k with xfm := x } := by
  induction bs generalizing k with
  | nil => exact ⟨k.xfm, rfl⟩
  | cons b bs ih =>
    obtain ⟨x, hx⟩ : ∃ x, k.genArrived cls t [b] = { k with xfm := x } := by
      simp only [Core.genArrived, List.foldl_cons, List.foldl_nil]
      split
      · split
        · exact ⟨_, rfl⟩
        · exact ⟨k.xfm, rfl⟩
      · exact ⟨k.xfm, rfl⟩
    obtain ⟨y, hy⟩ := ih (k.genArrived cls t [b])
    exact ⟨y, hy.trans (by rw [hx])⟩

/-- An arrival noted reaches the staged items and the banks. -/
theorem Core.noteItem_eq (id t : Nat) : ∃ l x, k.noteItem id t = { k with cle := { k.cle with rx := l }, xfm := x } := by
  unfold Core.noteItem
  split
  · exact ⟨k.cle.rx, k.xfm, rfl⟩
  split
  · exact ⟨k.cle.rx, k.xfm, rfl⟩
  dsimp only
  split
  · exact ⟨k.cle.rx, k.xfm, rfl⟩
  split
  · obtain ⟨x, hx⟩ := Core.genArrived_eq (k := { k with cle := { k.cle with
      rx := k.cle.rx.map (fun i => if i.id = id then { i with noted := true } else i) } }) _ _ _
    exact ⟨_, x, hx⟩
  · exact ⟨_, k.xfm, rfl⟩

theorem Core.noteItem_keeps (id t : Nat) : (k.noteItem id t).cip = k.cip ∧ (k.noteItem id t).cle.failQ = k.cle.failQ ∧
    k.onlyParts [.cle, .xfm] (k.noteItem id t) ∧ k.onlyRegs rs (k.noteItem id t) := by
  obtain ⟨l, x, h⟩ := k.noteItem_eq id t
  rw [h]
  have hcle : k.onlyParts [.cle, .xfm] { k with cle := { k.cle with rx := l } } := Core.onlyParts_cle (by simp) _
  exact ⟨rfl, rfl, Core.onlyParts_trans hcle (Core.onlyParts_xfm (l := [.cle, .xfm]) (by simp) _), Core.onlyRegs_of_regs rfl⟩

/-- An encryption run again keeps its position and IV. -/
theorem Core.reqRun_again (h1 : r.op = 1) (hiv : r.iv ≠ []) : ∃ x, k.reqRun r n = k.runPut n x ∧ x.req = r := by
  unfold Core.reqRun
  simp only [h1, hiv, ne_eq, not_false_eq_true, and_self, if_true]
  exact ⟨_, rfl, rfl⟩

/-- An encryption not run before takes the transmit position and its next IV. -/
theorem Core.reqRun_first (h1 : r.op = 1) (hiv : r.iv = []) : ∃ x, k.reqRun r n = (k.useKey r.slot).runPut n x ∧
    x.req.slot = r.slot ∧ x.req.op = r.op ∧ x.req.iv = k.ivOf ((k.kslot r.slot).pos (k.kslot r.slot).txPos) ∧
    x.pos = (k.kslot r.slot).txPos := by
  unfold Core.reqRun
  simp only [h1, hiv, ne_eq, not_true_eq_false, and_false, if_false, if_true]
  exact ⟨_, rfl, rfl, rfl, rfl, rfl⟩

/-- A decryption runs, its item's arrival noted. -/
theorem Core.reqRun_decrypts (h1 : r.op ≠ 1) (h3 : r.op ≠ 3) : ∃ x, x.req = r ∧ (k.reqRun r n).cip = (k.runPut n x).cip ∧
    (k.reqRun r n).cle.failQ = k.cle.failQ ∧ k.onlyParts [.cip, .cle, .xfm] (k.reqRun r n) ∧ k.onlyRegs rs (k.reqRun r n) := by
  obtain ⟨x, hx, hk⟩ : ∃ x, x.req = r ∧ k.reqRun r n = match r.use.item? with
      | some id => (k.runPut n x).noteItem id (((k.runPut n x).itemById id |>.map (·.t)).getD 0)
      | none => k.runPut n x := by
    unfold Core.reqRun
    simp only [h1, false_and, if_false]
    split
    · next h _ => exact absurd h h3
    · exact ⟨_, rfl, rfl⟩
  have hp : k.onlyParts [.cip, .cle, .xfm] (k.runPut n x) := Core.onlyParts_mono (by simp) (k.onlyParts_runPut x)
  refine ⟨x, hx, ?_⟩
  rw [hk]
  split
  · obtain ⟨hcip, hq, hnp, hnr⟩ := (k.runPut n x).noteItem_keeps (rs := rs) _ _
    exact ⟨hcip, hq, Core.onlyParts_trans hp (Core.onlyParts_mono (by simp) hnp), Core.onlyRegs_trans (k.onlyRegs_runPut x) hnr⟩
  · exact ⟨rfl, rfl, hp, k.onlyRegs_runPut x⟩

end

end Sys2Proof.Machine
end

section
/-!
PROOFS. CIPHER_DISPATCH and CIPHER_COMPLETE (08_cipher R233 to R238).
-/

namespace Sys2Proof.Machine

open Sys2Proof

/-! ### CIPHER_DISPATCH of a request that passes its checks -/

section
variable {s t : State} {n q : Nat} {r : Req} {rest : List Req}

/-- What a request that runs leaves of the core `k` it was dispatched in: core `n` runs it, an encryption not run before under the
transmit position and its next IV, one use more counted. -/
structure Core.RunBegun (k : Core) (r : Req) (n : Nat) (k' : Core) : Prop where
  runs : ∃ x, k'.cip.cores = k.cip.cores.set none n (some x) ∧ x.req.slot = r.slot ∧ x.req.op = r.op ∧
    (r.op = 1 → r.iv = [] → x.req.iv = k.ivOf ((k.kslot r.slot).pos (k.kslot r.slot).txPos) ∧ x.pos = (k.kslot r.slot).txPos ∧
      ((k'.kslot r.slot).pos x.pos).used = ((k.kslot r.slot).pos x.pos).used + 1)
  queues : k'.cip.queues = k.cip.queues ∧ k'.cip.rr = k.cip.rr
  failQ : k'.cle.failQ = k.cle.failQ
  encrypts : r.op = 1 → k.onlyParts [.cip] k'
  parts : k.onlyParts [.cip, .cle, .xfm] k'
  regs : k.onlyRegs [] k'

theorem Core.runBegun_reqRun (k : Core) (h3 : r.op ≠ 3) : k.RunBegun r n (k.reqRun r n) := by
  by_cases h1 : r.op = 1
  · by_cases hiv : r.iv = []
    · obtain ⟨x, hk, hslot, hop, hxiv, hpos⟩ := k.reqRun_first (n := n) h1 hiv
      obtain ⟨hcip, hp, hr⟩ := k.useKey_uses (rs := []) r.slot
      have hparts := Core.onlyParts_trans hp ((k.useKey r.slot).onlyParts_runPut (n := n) x)
      have hused : ((((k.useKey r.slot).runPut n x).kslot r.slot).pos x.pos).used = ((k.kslot r.slot).pos x.pos).used + 1 := by
        have hs : ((k.useKey r.slot).runPut n x).kslot r.slot = k.slotUsed r.slot :=
          (Core.kslot_of_cip hcip r.slot).trans (k.kslot_setKslot_same _ _)
        rw [hs, hpos, Core.slotUsed, KeySlot.pos_setPos_same]
      have hcores : ((k.useKey r.slot).runPut n x).cip.cores = k.cip.cores.set none n (some x) :=
        (congrArg (fun c : Cip => c.cores.set none n (some x)) hcip).trans rfl
      have hqueues : ((k.useKey r.slot).runPut n x).cip.queues = k.cip.queues := (congrArg Cip.queues hcip).trans rfl
      have hrr : ((k.useKey r.slot).runPut n x).cip.rr = k.cip.rr := (congrArg Cip.rr hcip).trans rfl
      have hcle : ((k.useKey r.slot).runPut n x).cle = k.cle := hparts .cle (by decide)
      rw [hk]
      exact ⟨⟨x, hcores, hslot, hop, fun _ _ => ⟨hxiv, hpos, hused⟩⟩,
        ⟨hqueues, hrr⟩, by rw [hcle], fun _ => hparts,
        Core.onlyParts_mono (by simp) hparts, Core.onlyRegs_trans hr (Core.onlyRegs_runPut _ _)⟩
    · obtain ⟨x, hk, hx⟩ := k.reqRun_again (n := n) h1 hiv
      rw [hk]
      exact ⟨⟨x, rfl, by rw [hx], by rw [hx], fun _ h => absurd h hiv⟩, ⟨rfl, rfl⟩, rfl, fun _ => k.onlyParts_runPut x,
        Core.onlyParts_mono (by simp) (k.onlyParts_runPut x), k.onlyRegs_runPut x⟩
  · obtain ⟨x, hx, hcip, hq, hp, hr⟩ := k.reqRun_decrypts (n := n) (rs := []) h1 h3
    exact ⟨⟨x, by rw [hcip]; rfl, by rw [hx], by rw [hx], fun h => absurd h h1⟩, ⟨by rw [hcip]; rfl, by rw [hcip]; rfl⟩, hq,
      fun h => absurd h h1, hp, hr⟩

theorem State.cipherDispatch_runs (hs : bitAt s.core.svc.ciph n = true) (hfree : s.core.cip.cores.get none n = none)
    (hp : rrPick 16 s.core.cip.rr s.core.queueReady = some q) (hr : s.core.reqQ q = r :: rest)
    (hck : (s.core.reqCheck r).1 = stOk) (h3 : r.op ≠ 3) (hq : s.core.cle.failQ = [])
    (ht : t = s.onCore (fun k => (k.dispatchEv n).settle)) :
    t.core.reqQ q = (rest ++ s.core.cip.qwait.get [] q).take 256 ∧ t.core.cip.rr = (q + 1) % 16 ∧
      (∃ x, t.core.cip.cores.get none n = some x ∧ x.req.slot = r.slot ∧ x.req.op = r.op ∧
        (r.op = 1 → r.iv = [] →
          x.req.iv = s.core.ivOf ((s.core.kslot r.slot).pos (s.core.kslot r.slot).txPos) ∧
          x.pos = (s.core.kslot r.slot).txPos ∧
          ((t.core.kslot r.slot).pos x.pos).used = ((s.core.kslot r.slot).pos x.pos).used + 1)) ∧
      (∀ m, m ≠ n → t.core.cip.cores.get none m = s.core.cip.cores.get none m) ∧
      (r.op = 1 → s.only [.cip] [] t) ∧ s.only [.cip, .cle, .xfm] [] t := by
  have hev := (Core.dispatchEv_eq hs hfree hp hr).trans (if_pos hck)
  have hrun := (s.core.headTaken q rest).runBegun_reqRun (n := n) h3
  generalize (s.core.headTaken q rest).reqRun r n = k at hev hrun
  obtain ⟨⟨x, hcores, hslot, hop, hfirst⟩, ⟨hqueues, hrr⟩, hfail, henc, hparts, hregs⟩ := hrun
  obtain ⟨-, -, -, -, -, honly⟩ := State.onCore_settle hev (hfail.trans hq) ht
  have hcip : t.core.cip = k.cip := by
    rw [ht, State.onCore_cip, hev, Core.settle_of_no_failure (hfail.trans hq)]
  have hregs' : s.core.onlyRegs [] k := Core.onlyRegs_trans Core.onlyRegs_headTaken hregs
  refine ⟨?_, by rw [hcip, hrr]; rfl, ⟨x, ?_, hslot, hop, fun h1 hiv => ?_⟩, fun m hm => ?_, fun h1 => ?_, ?_⟩
  · unfold Core.reqQ
    rw [hcip, hqueues]
    exact Core.headTaken_reqQ
  · rw [hcip, hcores, SMap.get_set_same]
  · rw [Core.kslot_of_cip hcip]
    exact hfirst h1 hiv
  · rw [hcip, hcores, SMap.get_set_ne _ _ _ hm]
    rfl
  · exact honly _ _ (Core.onlyParts_trans Core.onlyParts_headTaken (henc h1)) hregs'
  · exact honly _ _ (Core.onlyParts_trans (Core.onlyParts_mono (by simp) Core.onlyParts_headTaken) hparts) hregs'

end

/-! ### CIPHER_DISPATCH of an encryption that fails its checks -/

section
variable {s t : State} {n q : Nat} {r : Req} {rest : List Req}

/-- The checks let a request pass, or name the counter that takes it. -/
theorem Core.reqCheck_cases (k : Core) (r : Req) : (k.reqCheck r).1 = stOk ∨
    (k.reqCheck r).2 ∈ [Reg.CIP_SLOT_CNT, Reg.CIP_NOKEY_CNT, Reg.CIP_LEN_CNT] := by
  unfold Core.reqCheck
  dsimp only
  generalize (if r.op = 1 ∧ r.iv = [] then (k.kslot r.slot).txPos else r.epoch) = pos
  split
  · exact .inr (by simp)
  split
  · exact .inr (by simp)
  split
  · exact .inr (by simp)
  split
  · exact .inr (by simp)
  split
  · exact .inr (by simp)
  · exact .inl rfl

theorem Core.onlyTbl_lastErr (k : Core) (r : Req) (st : Nat) : k.OnlyTbl (k.lastErr r st) := by
  have hfold : ∀ (l : List (Nat × Nat)) (k : Core), k.OnlyTbl (l.foldl (fun (k : Core) w =>
      (k.tbw Reg.CIP_LASTERR_TBL (2 * w.2) w.1).tbw Reg.CIP_LASTERR_TBL (2 * w.2 + 1) (w.1 >>> 32)) k) := by
    intro l
    induction l with
    | nil => exact fun k => .refl k
    | cons w l ih => exact fun k => Core.OnlyTbl.trans ⟨_, rfl⟩ (ih _)
  exact (hfold _ k).trans ⟨_, rfl⟩

/-- A refused encryption is counted and recorded, events logged, and its item leaves its version. -/
theorem Core.reqRefused_eq (k : Core) (h1 : r.op = 1) (st a : Nat) : ∃ k' : Core,
    ((k.cnt a).lastErr r st).onlyParts [] k' ∧ ((k.cnt a).lastErr r st).onlyRegs [] k' ∧ k.reqRefused r st a = k'.itemGone r.ver := by
  have haudit : ∀ (u : Core) (o id : Nat), u.onlyParts [] (if st = stSlot then u.audit r.slot o 5 st id r.flow else u) ∧
      u.onlyRegs [] (if st = stSlot then u.audit r.slot o 5 st id r.flow else u) := by
    intro u o id
    split
    · exact ⟨Core.onlyParts_audit _ _ _ _ _ _ _, Core.onlyRegs_audit _ _ _ _ _ _ _⟩
    · exact ⟨Core.onlyParts_refl _ _, Core.onlyRegs_refl _ _⟩
  unfold Core.reqRefused
  simp only [if_pos h1]
  generalize (k.cnt a).lastErr r st = u
  obtain ⟨hp, hr⟩ := haudit u (k.kslot r.slot).owner ((k.kslot r.slot).pos (k.kslot r.slot).txPos).keyId
  refine ⟨_, ?_, ?_, rfl⟩
  · split
    · split
      · exact Core.onlyParts_trans hp (Core.onlyParts_emitLim _ _ _ _ _ _)
      · exact hp
    · exact hp
  · split
    · split
      · exact Core.onlyRegs_trans hr (Core.onlyRegs_emitLim _ _ _ _ _ _)
      · exact hr
    · exact hr

theorem Core.reqRefused_encryption (k : Core) (h1 : r.op = 1) (st : Nat) {a : Nat} (ha : ¬ evReg a) :
    (k.reqRefused r st a).cip = k.cip ∧ (k.reqRefused r st a).cle = k.cle ∧
      (k.reqRefused r st a).rd a = min (k.rd a + 1) (2 ^ 32 - 1) ∧ k.onlyParts [.tbl, .frt] (k.reqRefused r st a) ∧
      k.onlyRegs [a] (k.reqRefused r st a) := by
  obtain ⟨k', hp, hr, hk⟩ := k.reqRefused_eq h1 st a
  have htbl := (k.cnt a).onlyTbl_lastErr r st
  have hgone : k'.onlyParts [.tbl, .frt] (k'.itemGone r.ver) := Core.onlyParts_frt (by simp) _
  have hparts : k.onlyParts [.tbl, .frt] (k'.itemGone r.ver) := Core.onlyParts_trans (Core.onlyParts_cnt _)
    (Core.onlyParts_trans (htbl.onlyParts (by simp)) (Core.onlyParts_trans (Core.onlyParts_mono (by simp) hp) hgone))
  have hregs : (k.cnt a).onlyRegs [] (k'.itemGone r.ver) :=
    Core.onlyRegs_trans htbl.onlyRegs (Core.onlyRegs_trans hr (Core.onlyRegs_of_regs rfl))
  have hrd : (k'.itemGone r.ver).rd a = (k.cnt a).rd a := by
    unfold evReg at ha
    push Not at ha
    exact hregs a (by simp) ha.1 ha.2
  rw [hk]
  exact ⟨hparts .cip (by decide), hparts .cle (by decide), hrd.trans (k.rd_cnt_same a), hparts,
    Core.onlyRegs_trans (Core.onlyRegs_cnt (by simp)) (Core.onlyRegs_mono (by simp) hregs)⟩

theorem State.cipherDispatch_refuses (hs : bitAt s.core.svc.ciph n = true) (hfree : s.core.cip.cores.get none n = none)
    (hp : rrPick 16 s.core.cip.rr s.core.queueReady = some q) (hr : s.core.reqQ q = r :: rest)
    (hck : (s.core.reqCheck r).1 ≠ stOk) (h1 : r.op = 1) (hq : s.core.cle.failQ = [])
    (ht : t = s.onCore (fun k => (k.dispatchEv n).settle)) :
    t.core.reqQ q = (rest ++ s.core.cip.qwait.get [] q).take 256 ∧ t.core.cip.cores = s.core.cip.cores ∧
      t.core.rd (s.core.reqCheck r).2 = min (s.core.rd (s.core.reqCheck r).2 + 1) (2 ^ 32 - 1) ∧
      s.only [.cip, .tbl, .frt] [(s.core.reqCheck r).2] t := by
  have hev := (Core.dispatchEv_eq hs hfree hp hr).trans (if_neg hck)
  have ha : ¬ evReg (s.core.reqCheck r).2 := by
    have hmem := (s.core.reqCheck_cases r).resolve_left hck
    simp only [List.mem_cons, List.not_mem_nil, or_false] at hmem
    rcases hmem with h | h | h <;> rw [h] <;> unfold evReg <;> decide
  obtain ⟨hcip, hcle, hrd, hparts, hregs⟩ := (s.core.headTaken q rest).reqRefused_encryption h1 (s.core.reqCheck r).1 ha
  generalize (s.core.headTaken q rest).reqRefused r (s.core.reqCheck r).1 (s.core.reqCheck r).2 = k at hev hcip hcle hrd hparts hregs
  have hfail : k.cle.failQ = [] := by rw [hcle]; exact hq
  obtain ⟨-, -, -, -, hrds, honly⟩ := State.onCore_settle hev hfail ht
  have hcip' : t.core.cip = (s.core.headTaken q rest).cip := by
    rw [ht, State.onCore_cip, hev, Core.settle_of_no_failure hfail, hcip]
  refine ⟨?_, by rw [hcip']; rfl, (hrds _ ha).trans hrd, honly _ _ ?_ (Core.onlyRegs_trans Core.onlyRegs_headTaken hregs)⟩
  · unfold Core.reqQ
    rw [hcip']
    exact Core.headTaken_reqQ
  · exact Core.onlyParts_trans (Core.onlyParts_mono (by simp) Core.onlyParts_headTaken) (Core.onlyParts_mono (by simp) hparts)

end

/-! ### CIPHER_COMPLETE of an encryption -/

section
variable (k : Core) {a n : Nat}

/-- A 64-bit counter advanced. -/
theorem Core.rd_cum (a n : Nat) : (k.cum a n).rd a + 2 ^ 32 * (k.cum a n).rd (a + 4) =
    min (k.rd a + 2 ^ 32 * k.rd (a + 4) + n) (2 ^ 64 - 1) := by
  unfold Core.cum
  dsimp only
  rw [Core.rd_wr_same, Core.rd_wr_ne _ (by omega), Core.rd_wr_same]
  generalize hv : satAdd 64 (k.rd a + 2 ^ 32 * k.rd (a + 4)) n = v
  have hsat : v = min (k.rd a + 2 ^ 32 * k.rd (a + 4) + n) (2 ^ 64 - 1) := hv.symm
  have hshift : v >>> 32 = v / 2 ^ 32 := Nat.shiftRight_eq_div_pow _ _
  rw [hshift]
  omega

theorem Core.onlyRegs_cum {r : List Nat} (h : a ∈ r) (h' : a + 4 ∈ r) (n : Nat) : k.onlyRegs r (k.cum a n) :=
  Core.onlyRegs_trans (Core.onlyRegs_wr h _) (Core.onlyRegs_wr h' _)

theorem Core.onlyParts_cum {l : List Part} (a n : Nat) : k.onlyParts l (k.cum a n) :=
  Core.onlyParts_trans (Core.onlyParts_wr _ _) (Core.onlyParts_wr _ _)

/-- A core freed, an invocation counted. -/
def Core.runOver (n : Nat) : Core :=
  ({ k with cip := { k.cip with cores := k.cip.cores.set none n none } } : Core).cum Reg.CIP_INV_LO 1

theorem Core.completeEv_encryption {x : Run} (hx : k.cip.cores.get none n = some x) (h1 : x.req.op = 1) :
    k.completeEv n = (k.runOver n).handItem x := by
  unfold Core.completeEv
  rw [hx]
  dsimp only
  rw [h1]
  rfl

theorem Core.onlyParts_runOver_handItem (n : Nat) (x : Run) : k.onlyParts [.cip] ((k.runOver n).handItem x) :=
  Core.onlyParts_trans (k.onlyParts_cip (by simp) _) (Core.onlyParts_trans (Core.onlyParts_cum _ _ _) (Core.onlyParts_cip _ (by simp) _))

theorem Core.onlyRegs_runOver (n : Nat) : k.onlyRegs [Reg.CIP_INV_LO, Reg.CIP_INV_LO + 4] (k.runOver n) :=
  Core.onlyRegs_trans (k' := { k with cip := { k.cip with cores := k.cip.cores.set none n none } }) (Core.onlyRegs_of_regs rfl)
    (Core.onlyRegs_cum _ (by simp) (by simp) _)

end

theorem State.keySettle_none {s : State} (h : s.core.cip.writes = []) : s.keySettle = s := by
  unfold State.keySettle
  rw [h]
  rfl

theorem State.recordSuspects_eq {s : State} (h : s.core.cle.suspects = []) : s.recordSuspects = s := by
  have hcle : ({ s.core.cle with suspects := [] } : Cle) = s.core.cle := by rw [← h]
  rw [State.recordSuspects_none h, hcle]

theorem State.cipherComplete_encryption {s t : State} {n : Fin 160} {x : Run} (hx : s.core.cip.cores.get none n = some x)
    (h1 : x.req.op = 1) (hu : s.core.unitOn (336 + n.val) = true) (hq : s.core.cle.failQ = []) (hsus : s.core.cle.suspects = [])
    (hw : s.core.cip.writes = []) (ht : t = ((s.unitWork (336 + n.val) none (fun k => k.cipherBusy n) (fun k => k)
      (fun k => (k.completeEv n).settle)).keySettle.recordSuspects.drainEvents.alertChk)) :
    t.core.cip.cores.get none n = none ∧
      (∃ i : Item, t.core.cip.hand.get [] x.req.g = s.core.cip.hand.get [] x.req.g ++ [i] ∧ i.ct = x.out ∧
        i.hdr = x.req.hdr ∧ i.ke = x.pos ∧ i.q = s.core.fQueue (shFlow x.req.hdr)) ∧
      t.core.rd Reg.CIP_INV_LO + 2 ^ 32 * t.core.rd (Reg.CIP_INV_LO + 4) =
        min (s.core.rd Reg.CIP_INV_LO + 2 ^ 32 * s.core.rd (Reg.CIP_INV_LO + 4) + 1) (2 ^ 64 - 1) ∧
      s.only [.cip] [Reg.CIP_INV_LO, Reg.CIP_INV_LO + 4] t := by
  have hev : (s.core.completeEv n).settle = (s.core.runOver n).handItem x := by
    rw [Core.completeEv_encryption _ hx h1]
    exact Core.settle_of_no_failure hq
  have hbusy : s.core.cipherBusy n = true := by
    unfold Core.cipherBusy
    rw [hx]
    rfl
  rw [State.unitWork_without_error _ _ hbusy hu] at ht
  have hcip : (s.onCore (fun k => (k.completeEv n).settle)).core.cip = ((s.core.runOver n).handItem x).cip := by
    rw [State.onCore_cip, hev]
  have hcle : (s.onCore (fun k => (k.completeEv n).settle)).core.cle = s.core.cle := by
    rw [State.onCore_cle, hev]
    rfl
  rw [State.keySettle_none (by rw [hcip]; exact hw), State.recordSuspects_eq (by rw [hcle]; exact hsus)] at ht
  have honly : s.only [.cip] [Reg.CIP_INV_LO, Reg.CIP_INV_LO + 4] (s.onCore (fun k => (k.completeEv n).settle)) :=
    State.only_onCore s _ (hev ▸ s.core.onlyParts_runOver_handItem n x)
      (hev ▸ Core.onlyRegs_trans (s.core.onlyRegs_runOver n) (Core.onlyRegs_of_regs rfl))
  have hcip' : t.core.cip = ((s.core.runOver n).handItem x).cip := by
    rw [ht, State.alertChk_cip, State.drainEvents_cip, hcip]
  have hrd : ∀ a, ¬ evReg a → t.core.rd a = (s.core.runOver n).rd a := fun a ha => by
    rw [ht, State.rd_alertChk, State.rd_drainEvents, State.rd_onCore _ _ ha, hev]
    rfl
  refine ⟨?_, ?_, ?_, ht ▸ State.only_drained honly⟩
  · rw [hcip']
    exact SMap.get_set_same _ _ _ _
  · rw [hcip']
    exact ⟨_, SMap.get_set_same _ _ _ _, rfl, rfl, rfl, rfl⟩
  · rw [hrd _ (by unfold evReg; decide), hrd _ (by unfold evReg; decide)]
    exact Core.rd_cum _ _ _

/-- Settles O22: a request that passes its checks runs on the core that takes it, one that fails them is counted, and an encryption
that ends is handed over. -/
theorem cipherRequests : Obligations.CipherRequests := by
  unfold Obligations.CipherRequests
  refine ⟨fun n q r rest s hs hfree hp hr hck h3 hq => ?_, fun n q r rest s hs hfree hp hr hck h1 hq => ?_,
    fun n x s hx h1 hu hq hsus hw => ?_⟩
  · exact Completes.of_exec rfl (State.cipherDispatch_runs hs hfree hp hr hck h3 hq rfl)
  · exact Completes.of_exec rfl (State.cipherDispatch_refuses hs hfree hp hr hck h1 hq rfl)
  · exact Completes.of_exec rfl (State.cipherComplete_encryption hx h1 hu hq hsus hw rfl)

end Sys2Proof.Machine
end

section
/-!
PROOFS. An entry of the timetable that fires (10_timetable_time R285 to R288): its segment goes on, the firing is noted, and what
the entry does is counted as fired or refused.
-/

namespace Sys2Proof.Machine

open Sys2Proof

section
variable (k : Core) {e typ g t : Nat}

/-- The core after entry `e` of segment `g` is taken at time `t`, before its action. -/
def Core.entryFired (g e t : Nat) : Core := (k.segFired g e).noteFire t

theorem Core.segFired_eq (g e : Nat) : ∃ a, k.segFired g e = { k with ttx := { k.ttx with segs := a } } := by
  unfold Core.segFired
  dsimp only
  split
  · exact ⟨_, rfl⟩
  · exact ⟨_, rfl⟩

theorem Core.noteFire_eq (t : Nat) : ∃ m, k.noteFire t =
    { k with regs := m, ttx := { k.ttx with recent := (t :: k.ttx.recent).take 64 } } := by
  unfold Core.noteFire
  dsimp only
  split
  · exact ⟨_, rfl⟩
  · exact ⟨k.regs, rfl⟩

theorem Core.onlyRegs_noteFire (t : Nat) : k.onlyRegs [Reg.TTX_LATE_CNT] (k.noteFire t) := by
  have hnote : k.onlyRegs [Reg.TTX_LATE_CNT] { k with ttx := { k.ttx with recent := (t :: k.ttx.recent).take 64 } } :=
    Core.onlyRegs_of_regs rfl
  unfold Core.noteFire
  dsimp only
  split
  · exact Core.onlyRegs_trans hnote (Core.onlyRegs_cnt (by simp))
  · exact hnote

/-- An entry taken changes its segment's place, the recent firings and the count of late ones. -/
theorem Core.entryFired_eq (g e t : Nat) : ∃ m a, k.entryFired g e t =
    { k with regs := m, ttx := { k.ttx with segs := a, recent := (t :: k.ttx.recent).take 64 } } := by
  obtain ⟨a, ha⟩ := k.segFired_eq g e
  obtain ⟨m, hm⟩ := (k.segFired g e).noteFire_eq t
  exact ⟨m, a, hm.trans (by rw [ha])⟩

theorem Core.onlyRegs_entryFired (g e t : Nat) : k.onlyRegs [Reg.TTX_LATE_CNT] (k.entryFired g e t) := by
  obtain ⟨a, ha⟩ := k.segFired_eq g e
  have hregs : (k.segFired g e).regs = k.regs := by rw [ha]
  exact Core.onlyRegs_trans (Core.onlyRegs_of_regs hregs) (Core.onlyRegs_noteFire _ t)

theorem Core.onlyParts_entryFired {l : List Part} (hl : Part.ttx ∈ l) (g e t : Nat) : k.onlyParts l (k.entryFired g e t) := by
  obtain ⟨m, a, h⟩ := k.entryFired_eq g e t
  rw [h]
  intro p hp
  cases p
  case ttx => exact absurd hl hp
  all_goals rfl

theorem Core.entryFired_recent (g e t : Nat) : (k.entryFired g e t).ttx.recent = (t :: k.ttx.recent).take 64 := by
  obtain ⟨m, a, h⟩ := k.entryFired_eq g e t
  rw [h]

theorem Core.entryFired_segs (g e t : Nat) : (k.entryFired g e t).ttx.segs = (k.segFired g e).ttx.segs := by
  obtain ⟨m, h⟩ := (k.segFired g e).noteFire_eq t
  rw [Core.entryFired, h]

/-! What an action reads stands while its entry is taken. -/

theorem Core.entryFired_entArg (g e t n hi lo : Nat) : (k.entryFired g e t).entArg n hi lo = k.entArg n hi lo := by
  obtain ⟨m, a, h⟩ := k.entryFired_eq g e t
  rw [h]; rfl

theorem Core.entryFired_tb (g e t win w : Nat) : (k.entryFired g e t).tb win w = k.tb win w := by
  obtain ⟨m, a, h⟩ := k.entryFired_eq g e t
  rw [h]; rfl

theorem Core.entryFired_isOn (g e t : Nat) (i : FnId) : (k.entryFired g e t).isOn i = k.isOn i := by
  obtain ⟨m, a, h⟩ := k.entryFired_eq g e t
  rw [h]; rfl

theorem Core.entryFired_pats (g e t : Nat) : (k.entryFired g e t).ttx.pats = k.ttx.pats := by
  obtain ⟨m, a, h⟩ := k.entryFired_eq g e t
  rw [h]

theorem Core.entryFired_sch (g e t : Nat) : (k.entryFired g e t).sch = k.sch := by
  obtain ⟨m, a, h⟩ := k.entryFired_eq g e t
  rw [h]

theorem Core.entryFired_frt (g e t : Nat) : (k.entryFired g e t).frt = k.frt := by
  obtain ⟨m, a, h⟩ := k.entryFired_eq g e t
  rw [h]

theorem Core.entryFired_cip (g e t : Nat) : (k.entryFired g e t).cip = k.cip := by
  obtain ⟨m, a, h⟩ := k.entryFired_eq g e t
  rw [h]

theorem Core.entryFired_xfm (g e t : Nat) : (k.entryFired g e t).xfm = k.xfm := by
  obtain ⟨m, a, h⟩ := k.entryFired_eq g e t
  rw [h]

theorem Core.entryFired_mgt (g e t : Nat) : (k.entryFired g e t).mgt = k.mgt := by
  obtain ⟨m, a, h⟩ := k.entryFired_eq g e t
  rw [h]

theorem Core.entryFired_gclOk (g e t h b : Nat) : (k.entryFired g e t).gclOk h b = k.gclOk h b := by
  obtain ⟨m, a, heq⟩ := k.entryFired_eq g e t
  rw [heq]; rfl

/-- What fires does its action in the core in which it is taken. -/
theorem Core.fireEv_fires (hf : k.fires e typ g t) (act : Core → Nat → Nat → Nat → Core × Nat) : k.fireEv e typ act =
    let r := act (k.entryFired g e t) g t (k.segRun g).cycle
    if typ = tyNop then r.1
    else if r.2 = stOk ∨ r.2 = stOrder then r.1.cnt Reg.TTX_FIRED_CNT
    else r.1.refuseEntry e typ r.2 (k.segRun g).cycle t := by
  obtain ⟨⟨o, hnext⟩, htyp, hdue⟩ := hf
  have hnot : ¬ (e ≠ e ∨ k.entType e ≠ typ ∨ k.gns < t) := by simp [htyp, Nat.not_lt.2 hdue]
  unfold Core.fireEv
  rw [hnext]
  exact if_neg hnot

end

/-! ### An entry that fires as a command -/

section
variable {s t : State} {k : Core} {e typ g t₀ st : Nat} {act : Core → Nat → Nat → Nat → Core × Nat} {l : List Part}

/-- Entry and action as one step, whatever follows the action. -/
theorem State.entry_leaves {k' : Core} {r : List Nat} (hev : s.core.fireEv e typ act = k')
    (hl : Part.ttx ∈ l) (hp : (s.core.entryFired g e t₀).onlyParts l k') (hr : (s.core.entryFired g e t₀).onlyRegs r k')
    (hlate : Reg.TTX_LATE_CNT ∈ r) (hsegs : k'.ttx.segs = (s.core.entryFired g e t₀).ttx.segs)
    (ht : t = s.onCore (fun k => k.fireEv e typ act)) :
    t.core.segRun g = (s.core.segFired g e).segRun g ∧ (∀ a, ¬ evReg a → t.core.rd a = k'.rd a) ∧ s.only l r t := by
  refine ⟨?_, fun a ha => by rw [ht, State.rd_onCore _ _ ha, hev], ht ▸ State.only_onCore s _ (hev ▸ ?_) (hev ▸ ?_)⟩
  · unfold Core.segRun
    rw [ht, State.onCore_ttx, hev, hsegs, Core.entryFired_segs]
  · exact Core.onlyParts_trans (Core.onlyParts_entryFired _ hl g e t₀) hp
  · exact Core.onlyRegs_trans (Core.onlyRegs_mono (by simpa using hlate) (Core.onlyRegs_entryFired _ g e t₀)) hr

/-- An entry whose action is done counts as fired. -/
theorem State.entry_done (hf : s.core.fires e typ g t₀) (hne : typ ≠ tyNop)
    (hact : act (s.core.entryFired g e t₀) g t₀ (s.core.segRun g).cycle = (k, stOk)) (hl : Part.ttx ∈ l)
    (hp : (s.core.entryFired g e t₀).onlyParts l k) (hr : (s.core.entryFired g e t₀).onlyRegs [] k)
    (hsegs : k.ttx.segs = (s.core.entryFired g e t₀).ttx.segs) (ht : t = s.onCore (fun k => k.fireEv e typ act)) :
    s.core.fireEv e typ act = k.cnt Reg.TTX_FIRED_CNT ∧
      t.core.rd Reg.TTX_FIRED_CNT = min (s.core.rd Reg.TTX_FIRED_CNT + 1) (2 ^ 32 - 1) ∧
      t.core.segRun g = (s.core.segFired g e).segRun g ∧ s.only l [Reg.TTX_LATE_CNT, Reg.TTX_FIRED_CNT] t := by
  have hev : s.core.fireEv e typ act = k.cnt Reg.TTX_FIRED_CNT := by
    rw [Core.fireEv_fires _ hf]
    dsimp only
    rw [hact, if_neg hne, if_pos (.inl rfl)]
  obtain ⟨hseg, hrd, honly⟩ := State.entry_leaves (r := [Reg.TTX_LATE_CNT, Reg.TTX_FIRED_CNT]) hev hl
    (Core.onlyParts_trans hp (Core.onlyParts_cnt _))
    (Core.onlyRegs_trans (Core.onlyRegs_mono (by simp) hr) (Core.onlyRegs_cnt (by simp))) (by simp) (by rw [Core.cnt_ttx, hsegs]) ht
  refine ⟨hev, ?_, hseg, honly⟩
  have hsame : k.rd Reg.TTX_FIRED_CNT = s.core.rd Reg.TTX_FIRED_CNT :=
    (hr _ (by simp) (by decide) (by decide)).trans (Core.onlyRegs_entryFired _ g e t₀ _ (by decide) (by decide) (by decide))
  rw [hrd _ (by unfold evReg; decide), Core.rd_cnt_same, hsame]

/-- An entry whose action is refused counts as refused. -/
theorem State.entry_refused (hf : s.core.fires e typ g t₀) (hne : typ ≠ tyNop)
    (hact : act (s.core.entryFired g e t₀) g t₀ (s.core.segRun g).cycle = (k, st)) (hst : st ≠ stOk) (hst' : st ≠ stOrder)
    (hl : Part.ttx ∈ l) (hp : (s.core.entryFired g e t₀).onlyParts l k) (hr : (s.core.entryFired g e t₀).onlyRegs [] k)
    (hsegs : k.ttx.segs = (s.core.entryFired g e t₀).ttx.segs) (ht : t = s.onCore (fun k => k.fireEv e typ act)) :
    s.core.fireEv e typ act = k.refuseEntry e typ st (s.core.segRun g).cycle t₀ ∧
      t.core.rd Reg.TTX_REFUSED_CNT = min (s.core.rd Reg.TTX_REFUSED_CNT + 1) (2 ^ 32 - 1) ∧
      t.core.segRun g = (s.core.segFired g e).segRun g ∧ s.only l [Reg.TTX_LATE_CNT, Reg.TTX_REFUSED_CNT] t := by
  have hev : s.core.fireEv e typ act = k.refuseEntry e typ st (s.core.segRun g).cycle t₀ := by
    rw [Core.fireEv_fires _ hf]
    dsimp only
    rw [hact, if_neg hne, if_neg (by rintro (h | h); exacts [hst h, hst' h])]
  obtain ⟨hseg, hrd, honly⟩ := State.entry_leaves (r := [Reg.TTX_LATE_CNT, Reg.TTX_REFUSED_CNT]) hev hl
    (Core.onlyParts_trans hp (Core.onlyParts_trans (Core.onlyParts_cnt _) (Core.onlyParts_emit _ _ _)))
    (Core.onlyRegs_trans (Core.onlyRegs_mono (by simp) hr) (Core.onlyRegs_trans (Core.onlyRegs_cnt (by simp))
      (Core.onlyRegs_emit _ _ _))) (by simp) (by rw [Core.refuseEntry, Core.emit_ttx, Core.cnt_ttx, hsegs]) ht
  refine ⟨hev, ?_, hseg, honly⟩
  have hsame : k.rd Reg.TTX_REFUSED_CNT = s.core.rd Reg.TTX_REFUSED_CNT :=
    (hr _ (by simp) (by decide) (by decide)).trans (Core.onlyRegs_entryFired _ g e t₀ _ (by decide) (by decide) (by decide))
  rw [hrd _ (by unfold evReg; decide), Core.refuseEntry, Core.rd_emit _ _ _ _ (by unfold evReg; decide), Core.rd_cnt_same, hsame]

end

end Sys2Proof.Machine
end

section
/-!
PROOFS. The timetable's entries by kind (10_timetable_time R286 to R291; R86, R187, R244, R264, R390, R455 of the units they act
on).
-/

namespace Sys2Proof.Machine

open Sys2Proof

section
variable {s t : State} {e g t₀ : Nat}

/-! ### NOP and SLOTCLASS -/

theorem State.ttNop_fires (hf : s.core.fires e tyNop g t₀)
    (ht : t = s.onCore (fun k => k.fireEv e tyNop (fun k _ _ _ => (k, stOk)))) :
    t.core.segRun g = (s.core.segFired g e).segRun g ∧ t.core.ttx.recent = (t₀ :: s.core.ttx.recent).take 64 ∧
      s.only [.ttx] [Reg.TTX_LATE_CNT] t := by
  have hev : s.core.fireEv e tyNop (fun k _ _ _ => (k, stOk)) = s.core.entryFired g e t₀ := by
    rw [Core.fireEv_fires _ hf]
    dsimp only
    rw [if_pos rfl]
  obtain ⟨hseg, -, honly⟩ := State.entry_leaves (l := [.ttx]) (r := [Reg.TTX_LATE_CNT]) hev (by simp) (Core.onlyParts_refl _ _)
    (Core.onlyRegs_refl _ _) (by simp) rfl ht
  exact ⟨hseg, by rw [ht, State.onCore_ttx, hev, Core.entryFired_recent], honly⟩

/-- The pattern run of a group to which `pat` is given from slot `slot` on. -/
def PatRun.given (p : PatRun) (pat slot : Nat) : PatRun :=
  if slot ≤ p.base then { p with cur := pat, base := slot } else { cur := pat, base := slot, prev := p.cur, prevBase := p.base }

theorem PatRun.given_cur (p : PatRun) (pat slot : Nat) : (p.given pat slot).cur = pat ∧ (p.given pat slot).base = slot := by
  unfold PatRun.given
  split <;> exact ⟨rfl, rfl⟩

/-- The core with group `h`'s pattern given. -/
def Core.patGiven (k : Core) (h pat slot : Nat) : Core :=
  { k with ttx := { k.ttx with pats := k.ttx.pats.set {} h ((k.curPat h).given pat slot) } }

theorem Core.slotclassTt_eq (k : Core) (h pat t : Nat) : k.slotclassTt h pat t =
    if !k.isOn (.group h) || !bitAt (k.tb Reg.TTX_PAT_TBL (8 * pat + 4)) 31 then (k, stRange)
    else (k.patGiven h pat ((25 * t + 32767) / 32768), stOk) := rfl

theorem Core.onlyParts_ttx {k : Core} {l : List Part} (h : Part.ttx ∈ l) (x : Ttx) : k.onlyParts l { k with ttx := x } := by
  intro p hp
  cases p
  case ttx => exact absurd h hp
  all_goals rfl

theorem Core.only_patGiven (k : Core) (h pat slot : Nat) :
    k.onlyParts [.ttx] (k.patGiven h pat slot) ∧ k.onlyRegs [] (k.patGiven h pat slot) :=
  ⟨Core.onlyParts_ttx (by simp) _, Core.onlyRegs_of_regs rfl⟩

theorem Core.patGiven_segs (k : Core) (h pat slot : Nat) : (k.patGiven h pat slot).ttx.segs = k.ttx.segs := rfl

theorem State.ttSlotclass_gives (hf : s.core.fires e tySlotclass g t₀) (hon : s.core.isOn (.group (s.core.entArg e 46 44)) = true)
    (hpat : bitAt (s.core.tb Reg.TTX_PAT_TBL (8 * s.core.entArg e 43 40 + 4)) 31 = true)
    (ht : t = s.onCore (fun k => k.fireEv e tySlotclass (fun k _ t _ => k.slotclassTt (k.entArg e 46 44) (k.entArg e 43 40) t))) :
    t.core.rd Reg.TTX_FIRED_CNT = min (s.core.rd Reg.TTX_FIRED_CNT + 1) (2 ^ 32 - 1) ∧
      t.core.segRun g = (s.core.segFired g e).segRun g ∧ (t.core.curPat (s.core.entArg e 46 44)).cur = s.core.entArg e 43 40 ∧
      (t.core.curPat (s.core.entArg e 46 44)).base = (25 * t₀ + 32767) / 32768 ∧
      s.only [.ttx] [Reg.TTX_LATE_CNT, Reg.TTX_FIRED_CNT] t := by
  generalize hslot : (25 * t₀ + 32767) / 32768 = slot
  have hact : (s.core.entryFired g e t₀).slotclassTt ((s.core.entryFired g e t₀).entArg e 46 44)
      ((s.core.entryFired g e t₀).entArg e 43 40) t₀ =
      ((s.core.entryFired g e t₀).patGiven (s.core.entArg e 46 44) (s.core.entArg e 43 40) slot, stOk) := by
    rw [Core.slotclassTt_eq, hslot, Core.entryFired_entArg, Core.entryFired_entArg, Core.entryFired_isOn, Core.entryFired_tb, hon, hpat]
    rfl
  obtain ⟨hev, hrd, hseg, honly⟩ := State.entry_done (l := [.ttx])
    (k := (s.core.entryFired g e t₀).patGiven (s.core.entArg e 46 44) (s.core.entArg e 43 40) slot) hf (by decide) (by exact hact)
    (by simp) (Core.only_patGiven _ _ _ _).1 (Core.only_patGiven _ _ _ _).2 (Core.patGiven_segs _ _ _ _) ht
  have hcur : t.core.curPat (s.core.entArg e 46 44) =
      ((s.core.entryFired g e t₀).curPat (s.core.entArg e 46 44)).given (s.core.entArg e 43 40) slot := by
    unfold Core.curPat
    rw [ht, State.onCore_ttx, hev, Core.cnt_ttx]
    exact SMap.get_set_same _ _ _ _
  obtain ⟨hp, hb⟩ := PatRun.given_cur ((s.core.entryFired g e t₀).curPat (s.core.entArg e 46 44)) (s.core.entArg e 43 40) slot
  rw [hcur]
  exact ⟨hrd, hseg, hp, hb, honly⟩

theorem State.ttSlotclass_refused (hf : s.core.fires e tySlotclass g t₀)
    (hbad : s.core.isOn (.group (s.core.entArg e 46 44)) = false ∨
      bitAt (s.core.tb Reg.TTX_PAT_TBL (8 * s.core.entArg e 43 40 + 4)) 31 = false)
    (ht : t = s.onCore (fun k => k.fireEv e tySlotclass (fun k _ t _ => k.slotclassTt (k.entArg e 46 44) (k.entArg e 43 40) t))) :
    t.core.rd Reg.TTX_REFUSED_CNT = min (s.core.rd Reg.TTX_REFUSED_CNT + 1) (2 ^ 32 - 1) ∧
      t.core.segRun g = (s.core.segFired g e).segRun g ∧ t.core.ttx.pats = s.core.ttx.pats ∧
      s.only [.ttx] [Reg.TTX_LATE_CNT, Reg.TTX_REFUSED_CNT] t := by
  have hact : (s.core.entryFired g e t₀).slotclassTt ((s.core.entryFired g e t₀).entArg e 46 44)
      ((s.core.entryFired g e t₀).entArg e 43 40) t₀ = (s.core.entryFired g e t₀, stRange) := by
    rw [Core.slotclassTt_eq, Core.entryFired_entArg, Core.entryFired_entArg, Core.entryFired_isOn, Core.entryFired_tb]
    refine if_pos ?_
    rcases hbad with h | h <;> simp [h]
  obtain ⟨hev, hrd, hseg, honly⟩ := State.entry_refused (l := [.ttx]) hf (by decide) (by exact hact) (by decide) (by decide) (by simp)
    (Core.onlyParts_refl _ _) (Core.onlyRegs_refl _ _) rfl ht
  refine ⟨hrd, hseg, ?_, honly⟩
  rw [ht, State.onCore_ttx, hev, Core.refuseEntry, Core.emit_ttx, Core.cnt_ttx, Core.entryFired_pats]

/-! ### START -/

/-- A START whose checks pass and whose predecessor is satisfied, nothing being parked, enters RUN; no context fails with it. -/
theorem Core.startTt_enters {k : Core} {e g t c x q : Nat} (hx : x = k.entArg e 51 40)
    (hq : q = (fld (k.entB e) 63 32 + c * k.segStride g) % 2 ^ 32) (hfail : k.cle.failQ = []) (hpark : k.cle.park = [])
    (hP : (k.rkBy Core.rkP x).isSome = false) (hQ : (k.rkBy Core.rkQ x).isSome = false)
    (hck : k.startCheck x q (fld (k.entB e) 31 20) = stOk)
    (hpred : k.predOk (fld (k.entB e) 31 20) ((q + 2 ^ 32 - fld (k.entB e) 19 8) % 2 ^ 32) = true) :
    ∃ k', k.startTt e g t c = (k', stOk) ∧ k'.phase x = 3 ∧ k'.cSeq x = q ∧
      k'.cStep x = (k.segStep0 g + c) % 2 ^ 32 ∧ k.onlyParts [.fns, .cle, .tbl, .site, .xfm] k' ∧ k.onlyRegs [] k' := by
  have hxlt : x < 4096 := hx ▸ fld_lt _ 51 40
  have hqlt : q < 2 ^ 32 := hq ▸ Nat.mod_lt _ (by decide)
  have hstep : (k.segStep0 g + c) % 2 ^ 32 < 2 ^ 32 := Nat.mod_lt _ (by decide)
  generalize hdue : (if k.entArg e 59 52 = 0 then none else some (slotOf t + 16 * k.entArg e 59 52)) = due
  obtain ⟨hph, hword, -, hpk, hfq, hparts, hregs⟩ := k.enterRun_spec x q _ (fld (k.entB e) 31 20)
    ((q + 2 ^ 32 - fld (k.entB e) 19 8) % 2 ^ 32) ((k.shardElems x).getD 0) due (r := []) hxlt hqlt hstep rfl
  have hgo := k.startGo_enters x q ((k.segStep0 g + c) % 2 ^ 32) _ _ due hpred (hpk.trans hpark)
  generalize k.enterRun x q ((k.segStep0 g + c) % 2 ^ 32) (fld (k.entB e) 31 20) ((q + 2 ^ 32 - fld (k.entB e) 19 8) % 2 ^ 32)
    ((k.shardElems x).getD 0) due = u at hph hword hpk hfq hparts hregs hgo
  have hlast := Core.only_fnLast (k := u) (l := [.fns, .cle, .tbl, .site, .xfm]) (r := []) (by simp) (.ctx x) stOk
  have hstart : k.startTt e g t c = (u.fnLast (.ctx x) stOk, stOk) := by
    unfold Core.startTt Core.startCtx
    simp only [← hx, ← hq, hdue, hP, hQ, hck, hgo, Bool.or_self, Bool.false_eq_true, if_false, if_true]
    rw [Core.settle_of_no_failure (by rw [Core.fnLast_cle, hfq, hfail])]
  refine ⟨_, hstart, ?_, ?_, ?_, Core.onlyParts_trans hparts hlast.1, Core.onlyRegs_trans hregs hlast.2⟩
  · exact (Core.phase_of_runs (congrArg Cle.runs (Core.fnLast_cle _ _ _)) x).trans hph
  · exact (Core.cf_of_tbl (Core.fnLast_tbl _ _ _) _ _ _ _).trans ((Core.cf_of_cc hword 63 32).trans (by rw [fld_eq]; omega))
  · exact (Core.cf_of_tbl (Core.fnLast_tbl _ _ _) _ _ _ _).trans ((Core.cf_of_cc hword 31 0).trans (by rw [fld_eq]; omega))

theorem Core.startTt_entryFired_enters {k : Core} {e g t x q : Nat} (hx : x = k.entArg e 51 40)
    (hq : q = (fld (k.entB e) 63 32 + (k.segRun g).cycle * k.segStride g) % 2 ^ 32) (hfail : k.cle.failQ = [])
    (hpark : k.cle.park = []) (hP : (k.rkBy Core.rkP x).isSome = false) (hQ : (k.rkBy Core.rkQ x).isSome = false)
    (hck : k.startCheck x q (fld (k.entB e) 31 20) = stOk)
    (hpred : k.predOk (fld (k.entB e) 31 20) ((q + 2 ^ 32 - fld (k.entB e) 19 8) % 2 ^ 32) = true) :
    ∃ k', (k.entryFired g e t).startTt e g t (k.segRun g).cycle = (k', stOk) ∧ k'.phase x = 3 ∧ k'.cSeq x = q ∧
      k'.cStep x = (k.segStep0 g + (k.segRun g).cycle) % 2 ^ 32 ∧
      (k.entryFired g e t).onlyParts [.fns, .cle, .tbl, .site, .xfm] k' ∧ (k.entryFired g e t).onlyRegs [] k' := by
  obtain ⟨m, a, h⟩ := k.entryFired_eq g e t
  rw [h]
  exact Core.startTt_enters hx hq hfail hpark hP hQ hck hpred

theorem State.ttStart_enters {x q : Nat} (hf : s.core.fires e tyStart g t₀) (hx : x = s.core.entArg e 51 40)
    (hq : q = (fld (s.core.entB e) 63 32 + (s.core.segRun g).cycle * s.core.segStride g) % 2 ^ 32) (hfail : s.core.cle.failQ = [])
    (hpark : s.core.cle.park = []) (hP : (s.core.rkBy Core.rkP x).isSome = false) (hQ : (s.core.rkBy Core.rkQ x).isSome = false)
    (hck : s.core.startCheck x q (fld (s.core.entB e) 31 20) = stOk)
    (hpred : s.core.predOk (fld (s.core.entB e) 31 20) ((q + 2 ^ 32 - fld (s.core.entB e) 19 8) % 2 ^ 32) = true)
    (ht : t = s.onCore (fun k => k.fireEv e tyStart (fun k g t c => k.startTt e g t c))) :
    t.core.rd Reg.TTX_FIRED_CNT = min (s.core.rd Reg.TTX_FIRED_CNT + 1) (2 ^ 32 - 1) ∧
      t.core.segRun g = (s.core.segFired g e).segRun g ∧ t.core.phase x = 3 ∧ t.core.cSeq x = q ∧
      t.core.cStep x = (s.core.segStep0 g + (s.core.segRun g).cycle) % 2 ^ 32 ∧ s.outsideStands t := by
  obtain ⟨k', hk, hph, hseq, hstep, hp, hr⟩ := Core.startTt_entryFired_enters (t := t₀) hx hq hfail hpark hP hQ hck hpred
  have hsegs : k'.ttx.segs = (s.core.entryFired g e t₀).ttx.segs := congrArg Ttx.segs (hp .ttx (by decide))
  obtain ⟨hev, hrd, hseg, hout, -, -⟩ := State.entry_done (l := [.ttx, .fns, .cle, .tbl, .site, .xfm]) hf (by decide) (by exact hk)
    (by simp) (Core.onlyParts_mono (by simp) hp) hr hsegs ht
  have htbl : t.core.tbl = k'.tbl := by rw [ht, State.onCore_tbl, hev, Core.cnt_tbl]
  have hcle : t.core.cle = k'.cle := by rw [ht, State.onCore_cle, hev, Core.cnt_cle]
  exact ⟨hrd, hseg, (Core.phase_of_runs (congrArg Cle.runs hcle) x).trans hph, (Core.cf_of_tbl htbl _ _ _ _).trans hseq,
    (Core.cf_of_tbl htbl _ _ _ _).trans hstep, hout⟩

/-! ### GATE -/

theorem Core.onlyParts_sch {k : Core} {l : List Part} (h : Part.sch ∈ l) (x : SMap SchG) : k.onlyParts l { k with sch := x } := by
  intro p hp
  cases p
  case sch => exact absurd h hp
  all_goals rfl

/-- A gate list that is not active and stands the rules becomes active from time `t`. -/
theorem Core.gateTt_switches (k : Core) {h b : Nat} (t : Nat) (hact : (k.schg h).act.map Prod.fst ≠ some b)
    (hok : k.gclOk h b = true) : ∃ k', k.gateTt h b t = (k', stOk) ∧ (k'.schg h).act = some (b, t) ∧ k'.ttx = k.ttx ∧
      k.onlyParts [.ttx, .sch] k' ∧ k.onlyRegs [] k' := by
  let x : SchG := { k.schg h with act := some (b, t), armed := if (k.schg h).armed == some b then none else (k.schg h).armed }
  have hgate : k.gateTt h b t = ((k.setSchg h x).gateEvent h b 0 1 t, stOk) := by
    have hother : ((k.schg h).act.map (·.1) == some b) = false := by simpa using hact
    unfold Core.gateTt
    simp only [hother, hok, Bool.not_true, Bool.false_eq_true, if_false, if_true]
    rfl
  refine ⟨_, hgate, ?_, ?_, ?_, ?_⟩
  · have hset : (k.setSchg h x).schg h = x := SMap.get_set_same _ _ _ _
    unfold Core.schg at hset ⊢
    rw [Core.gateEvent, Core.emit_sch, hset]
  · rw [Core.gateEvent, Core.emit_ttx]
    rfl
  · exact Core.onlyParts_trans (k' := k.setSchg h x) (Core.onlyParts_sch (by simp) _) (Core.onlyParts_emit _ _ _)
  · exact Core.onlyRegs_trans (k' := k.setSchg h x) (Core.onlyRegs_of_regs rfl) (Core.onlyRegs_emit _ _ _)

theorem State.ttGate_switches {h b : Nat} (hf : s.core.fires e tyGate g t₀) (hh : h = s.core.entArg e 42 40)
    (hb : b = s.core.entArg e 43 43) (hact' : (s.core.schg h).act.map Prod.fst ≠ some b) (hok : s.core.gclOk h b = true)
    (ht : t = s.onCore (fun k => k.fireEv e tyGate (fun k _ t _ => k.gateTt (k.entArg e 42 40) (k.entArg e 43 43) t))) :
    t.core.rd Reg.TTX_FIRED_CNT = min (s.core.rd Reg.TTX_FIRED_CNT + 1) (2 ^ 32 - 1) ∧
      t.core.segRun g = (s.core.segFired g e).segRun g ∧ (t.core.schg h).act = some (b, t₀) ∧
      s.only [.ttx, .sch] [Reg.TTX_LATE_CNT, Reg.TTX_FIRED_CNT] t := by
  subst hh hb
  have hsch : (s.core.entryFired g e t₀).schg (s.core.entArg e 42 40) = s.core.schg (s.core.entArg e 42 40) := by
    unfold Core.schg; rw [Core.entryFired_sch]
  obtain ⟨k', hk, hnow, httx, hp, hr⟩ := (s.core.entryFired g e t₀).gateTt_switches t₀ (by rw [hsch]; exact hact')
    ((Core.entryFired_gclOk _ _ _ _ _ _).trans hok)
  obtain ⟨hev, hrd, hseg, honly⟩ := State.entry_done (l := [.ttx, .sch]) hf (by decide)
    (by rw [Core.entryFired_entArg, Core.entryFired_entArg]; exact hk) (by simp) hp hr (by rw [httx]) ht
  refine ⟨hrd, hseg, ?_, honly⟩
  unfold Core.schg at hnow ⊢
  rw [ht, State.onCore_sch, hev, Core.cnt_sch, hnow]

/-! ### EPOCH and SITE_EPOCH -/

/-- Version `v` is the fabric's current one. -/
def Core.epochSet (k : Core) (v : Nat) : Core :=
  { k with frt := { k.frt with ep := { k.frt.ep with cur := v, idle := setBit k.frt.ep.idle v false } } }

theorem Core.epochTt_takes (k : Core) {v : Nat} (hv : bitAt k.frt.ep.wopen v = false) : ∃ k', k.epochTt v = (k', stOk) ∧
    k'.frt.ep.cur = v ∧ k'.ttx = k.ttx ∧ k.onlyParts [.ttx, .frt] k' ∧ k.onlyRegs [] k' := by
  unfold Core.epochTt
  dsimp only
  split
  next h => exact ⟨k, rfl, h.symm, rfl, Core.onlyParts_refl _ _, Core.onlyRegs_refl _ _⟩
  next h =>
    rw [hv, if_neg (by decide)]
    refine ⟨_, rfl, ?_, ?_, ?_, ?_⟩
    · rw [Core.emit_frt]
    · rw [Core.emit_ttx]
    · exact Core.onlyParts_trans (k' := k.epochSet v) (Core.onlyParts_frt (by simp) _) (Core.onlyParts_emit _ _ _)
    · exact Core.onlyRegs_trans (k' := k.epochSet v) (Core.onlyRegs_of_regs rfl) (Core.onlyRegs_emit _ _ _)

theorem Core.epochTt_refuses (k : Core) {v : Nat} (hv : bitAt k.frt.ep.wopen v = true) (hne : v ≠ k.frt.ep.cur) :
    k.epochTt v = (k.emit 0x1000 0x0202 [(1, 1, 1), (0, 0, v)], stBusy) := by
  unfold Core.epochTt
  simp only [hne, hv, if_false, if_true]

theorem Core.sepochTt_takes (k : Core) {v : Nat} (hv : bitAt k.frt.sep.wopen v = false) : ∃ k', k.sepochTt v = (k', stOk) ∧
    k'.frt.sep.cur = v ∧ k'.ttx = k.ttx ∧ k.onlyParts [.ttx, .frt] k' ∧ k.onlyRegs [] k' := by
  unfold Core.sepochTt
  dsimp only
  split
  next h => exact ⟨k, rfl, h.symm, rfl, Core.onlyParts_refl _ _, Core.onlyRegs_refl _ _⟩
  next h =>
    rw [hv, if_neg (by decide)]
    let u : Core := { k with frt := { k.frt with sep := { k.frt.sep with cur := v, idle := setBit k.frt.sep.idle v false } } }
    have hu : k.setSiteCur v 0 0 = u.siteSwapEvent v 0 0 0 := rfl
    rw [hu]
    refine ⟨_, rfl, ?_, ?_, ?_, ?_⟩
    · rw [Core.siteSwapEvent, Core.emit_frt]
    · rw [Core.siteSwapEvent, Core.emit_ttx]
    · exact Core.onlyParts_trans (k' := u) (Core.onlyParts_frt (by simp) _) (Core.onlyParts_emit _ _ _)
    · exact Core.onlyRegs_trans (k' := u) (Core.onlyRegs_of_regs rfl) (Core.onlyRegs_emit _ _ _)

theorem State.ttEpoch_takes {v : Nat} (hf : s.core.fires e tyEpoch g t₀) (hv : v = s.core.entArg e 40 40)
    (hopen : bitAt s.core.frt.ep.wopen v = false)
    (ht : t = s.onCore (fun k => k.fireEv e tyEpoch (fun k _ _ _ => k.epochTt (k.entArg e 40 40)))) :
    t.core.rd Reg.TTX_FIRED_CNT = min (s.core.rd Reg.TTX_FIRED_CNT + 1) (2 ^ 32 - 1) ∧
      t.core.segRun g = (s.core.segFired g e).segRun g ∧ t.core.frt.ep.cur = v ∧
      s.only [.ttx, .frt] [Reg.TTX_LATE_CNT, Reg.TTX_FIRED_CNT] t := by
  subst hv
  obtain ⟨k', hk, hcur, httx, hp, hr⟩ := (s.core.entryFired g e t₀).epochTt_takes (v := s.core.entArg e 40 40)
    (by rw [Core.entryFired_frt]; exact hopen)
  obtain ⟨hev, hrd, hseg, honly⟩ := State.entry_done (l := [.ttx, .frt]) hf (by decide) (by rw [Core.entryFired_entArg]; exact hk)
    (by simp) hp hr (by rw [httx]) ht
  exact ⟨hrd, hseg, by rw [ht, State.onCore_frt, hev, Core.cnt_frt, hcur], honly⟩

theorem State.ttEpoch_refused {v : Nat} (hf : s.core.fires e tyEpoch g t₀) (hv : v = s.core.entArg e 40 40)
    (hopen : bitAt s.core.frt.ep.wopen v = true) (hne : v ≠ s.core.frt.ep.cur)
    (ht : t = s.onCore (fun k => k.fireEv e tyEpoch (fun k _ _ _ => k.epochTt (k.entArg e 40 40)))) :
    t.core.rd Reg.TTX_REFUSED_CNT = min (s.core.rd Reg.TTX_REFUSED_CNT + 1) (2 ^ 32 - 1) ∧
      t.core.segRun g = (s.core.segFired g e).segRun g ∧ t.core.frt.ep.cur = s.core.frt.ep.cur ∧
      s.only [.ttx] [Reg.TTX_LATE_CNT, Reg.TTX_REFUSED_CNT] t := by
  subst hv
  have hk := (s.core.entryFired g e t₀).epochTt_refuses (v := s.core.entArg e 40 40)
    (by rw [Core.entryFired_frt]; exact hopen) (by rw [Core.entryFired_frt]; exact hne)
  obtain ⟨hev, hrd, hseg, honly⟩ := State.entry_refused (l := [.ttx]) hf (by decide) (by rw [Core.entryFired_entArg]; exact hk)
    (by decide) (by decide) (by simp) (Core.onlyParts_emit _ _ _) (Core.onlyRegs_emit _ _ _) (by rw [Core.emit_ttx]) ht
  exact ⟨hrd, hseg, by rw [ht, State.onCore_frt, hev, Core.refuseEntry, Core.emit_frt, Core.cnt_frt, Core.emit_frt,
    Core.entryFired_frt], honly⟩

theorem State.ttSiteEpoch_takes {v : Nat} (hf : s.core.fires e tySiteEpoch g t₀) (hv : v = s.core.entArg e 40 40)
    (hopen : bitAt s.core.frt.sep.wopen v = false)
    (ht : t = s.onCore (fun k => k.fireEv e tySiteEpoch (fun k _ _ _ => k.sepochTt (k.entArg e 40 40)))) :
    t.core.rd Reg.TTX_FIRED_CNT = min (s.core.rd Reg.TTX_FIRED_CNT + 1) (2 ^ 32 - 1) ∧
      t.core.segRun g = (s.core.segFired g e).segRun g ∧ t.core.frt.sep.cur = v ∧
      s.only [.ttx, .frt] [Reg.TTX_LATE_CNT, Reg.TTX_FIRED_CNT] t := by
  subst hv
  obtain ⟨k', hk, hcur, httx, hp, hr⟩ := (s.core.entryFired g e t₀).sepochTt_takes (v := s.core.entArg e 40 40)
    (by rw [Core.entryFired_frt]; exact hopen)
  obtain ⟨hev, hrd, hseg, honly⟩ := State.entry_done (l := [.ttx, .frt]) hf (by decide) (by rw [Core.entryFired_entArg]; exact hk)
    (by simp) hp hr (by rw [httx]) ht
  exact ⟨hrd, hseg, by rw [ht, State.onCore_frt, hev, Core.cnt_frt, hcur], honly⟩

end

end Sys2Proof.Machine
end

section
/-!
PROOFS. KEYSWITCH, DECODE, SHARD and ASTER entries (08_cipher R244, 06_compression R187, 10_timetable_time R291, 16_management
R455), and the timetable's entries together.
-/

namespace Sys2Proof.Machine

open Sys2Proof

/-! ### The peers of a slot -/

/-- A slot's peers are read from functions, tables and two registers of each group. -/
theorem Core.peersIn_of_reads {k k' : Core} (hfns : k'.fns = k.fns) (htbl : k'.tbl = k.tbl)
    (hslot : ∀ g, g < 8 → k'.rd (Reg.CIP_G_SLOT g) = k.rd (Reg.CIP_G_SLOT g))
    (hpeer : ∀ g, g < 8 → k'.rd (Reg.LFR_G_CFG g) = k.rd (Reg.LFR_G_CFG g)) (i mask : Nat) : k'.peersIn i mask = k.peersIn i mask := by
  have hff : ∀ f off hi lo, k'.ff f off hi lo = k.ff f off hi lo := Core.ff_of_tbl htbl
  have hflows : k'.slotFlows i = k.slotFlows i := by
    unfold Core.slotFlows
    rw [Core.liveFlows_of_fns hfns]
    simp only [hff]
  have hgroups : k'.slotGroups i = k.slotGroups i := by
    unfold Core.slotGroups Core.gSlot Core.fd
    exact List.filter_congr fun g hg => by rw [hslot g (List.mem_range.1 hg)]
  have hpeers : (k.slotGroups i).map k'.gPeer = (k.slotGroups i).map k.gPeer := by
    refine List.map_congr_left fun g hg => ?_
    have hlt : g < 8 := List.mem_range.1 (List.mem_filter.1 hg).1
    unfold Core.gPeer Core.fd
    rw [hpeer g hlt]
  have hsites : k'.fPeerSite = k.fPeerSite := funext fun f => hff f 0 50 47
  unfold Core.peersIn Core.keyPeers
  rw [hflows, hgroups, hpeers, hsites]

theorem Core.entryFired_peersIn (k : Core) (g e t i mask : Nat) : (k.entryFired g e t).peersIn i mask = k.peersIn i mask := by
  have hp := k.onlyParts_entryFired (l := [.ttx]) (by simp) g e t
  refine Core.peersIn_of_reads (hp .fns (by decide)) (hp .tbl (by decide)) (fun h hh => ?_) (fun h hh => ?_) i mask
  · exact k.onlyRegs_entryFired g e t _ (by simp [Reg.CIP_G_SLOT, Reg.TTX_LATE_CNT]; omega)
      (by simp [Reg.CIP_G_SLOT, Reg.EVL_DROP_CNT]; omega) (by simp [Reg.CIP_G_SLOT, Reg.MGT_ALERT_STAT]; omega)
  · exact k.onlyRegs_entryFired g e t _ (by simp [Reg.LFR_G_CFG, Reg.TTX_LATE_CNT]; omega)
      (by simp [Reg.LFR_G_CFG, Reg.EVL_DROP_CNT]; omega) (by simp [Reg.LFR_G_CFG, Reg.MGT_ALERT_STAT]; omega)

section
variable {s t : State} {e g t₀ : Nat}

theorem Core.entryFired_kslot (k : Core) (g e t i : Nat) : (k.entryFired g e t).kslot i = k.kslot i :=
  Core.kslot_of_cip (k.entryFired_cip g e t) i

theorem Core.entryFired_slotBusy (k : Core) (g e t i : Nat) : (k.entryFired g e t).slotBusy i = k.slotBusy i := by
  unfold Core.slotBusy
  rw [Core.entryFired_cip]

/-! ### KEYSWITCH -/

/-- A key switched by the timetable: no key command is looked at. -/
theorem Core.keySwitch_tt (k : Core) {i p : Nat} (hl : ((k.kslot i).pos p).loaded = true) (htx : (k.kslot i).txPos ≠ p)
    (hpeers : k.peersIn i (k.kslot i).ready = true) (hbusy : k.slotBusy i = false) :
    ∃ k', k.keySwitch i p true = (k', stOk) ∧ k'.kslot i = k.switched i p ∧ k'.ttx = k.ttx ∧ k.onlyParts [.ttx, .cip] k' ∧
      k.onlyRegs [] k' := by
  obtain ⟨hok, hcip, hparts, hregs⟩ := Core.switchNow_switches (k := k) true hl htx hpeers
  have hnow : k.keySwitch i p true = k.switchNow i p true :=
    (Core.keySwitch_of_idle true (.inl rfl)).trans (if_neg fun h => by rw [hbusy] at h; exact absurd h.2.2 (by decide))
  exact ⟨_, hnow.trans (Prod.ext rfl hok), (Core.kslot_of_cip hcip i).trans (k.kslot_setKslot_same _ _), hparts .ttx (by decide),
    Core.onlyParts_mono (by simp) hparts, hregs⟩

theorem Core.keySwitch_tt_refused (k : Core) {i p : Nat} (hl : ((k.kslot i).pos p).loaded = true) (htx : (k.kslot i).txPos ≠ p)
    (hpeers : k.peersIn i (k.kslot i).ready = false) : ∃ k', k.keySwitch i p true = (k', stBusy) ∧ k.onlyParts [] k' ∧
      k.onlyRegs [] k' := by
  have hck : k.switchCheck i p = stBusy := by rw [k.switchCheck_eq hl htx, hpeers]; rfl
  have hne : stBusy ≠ stOk := by decide
  have hnow : ∃ ev o id, k.switchNow i p true = ((k.emit 0x48B0 0x0901 ev).audit i o 2 stBusy id 0x3FFF, stBusy) := by
    unfold Core.switchNow
    simp only [hck, ne_eq, hne, not_false_eq_true, if_true]
    exact ⟨_, _, _, rfl⟩
  obtain ⟨ev, o, id, hnow⟩ := hnow
  refine ⟨_, ((Core.keySwitch_of_idle true (.inl rfl)).trans (if_neg fun h => hne (hck.symm.trans h.1))).trans hnow, ?_, ?_⟩
  · exact Core.onlyParts_trans (Core.onlyParts_emit _ _ _) (Core.onlyParts_audit _ _ _ _ _ _ _)
  · exact Core.onlyRegs_trans (Core.onlyRegs_emit _ _ _) (Core.onlyRegs_audit _ _ _ _ _ _ _)

theorem State.ttKeyswitch_switches {i p : Nat} (hf : s.core.fires e tyKeyswitch g t₀) (hi : i = s.core.entArg e 51 40)
    (hpos : p = s.core.entArg e 52 52) (hl : ((s.core.kslot i).pos p).loaded = true) (htx : (s.core.kslot i).txPos ≠ p)
    (hpeers : s.core.peersIn i (s.core.kslot i).ready = true) (hbusy : s.core.slotBusy i = false)
    (ht : t = s.onCore (fun k => k.fireEv e tyKeyswitch (fun k _ _ _ => k.keySwitch (k.entArg e 51 40) (k.entArg e 52 52) true))) :
    t.core.rd Reg.TTX_FIRED_CNT = min (s.core.rd Reg.TTX_FIRED_CNT + 1) (2 ^ 32 - 1) ∧
      t.core.segRun g = (s.core.segFired g e).segRun g ∧ (t.core.kslot i).txPos = p ∧ (t.core.kslot i).ready = 0 ∧
      ((t.core.kslot i).pos (1 - p)).held = ((s.core.kslot i).pos (1 - p)).loaded ∧
      s.only [.ttx, .cip] [Reg.TTX_LATE_CNT, Reg.TTX_FIRED_CNT] t := by
  have hp2 : p < 2 := hpos ▸ fld_lt _ 52 52
  have hks := s.core.entryFired_kslot g e t₀ i
  obtain ⟨k', hk, hslot, httx, hp, hr⟩ := (s.core.entryFired g e t₀).keySwitch_tt (i := i) (p := p) (by rw [hks]; exact hl)
    (by rw [hks]; exact htx) (by rw [hks, Core.entryFired_peersIn]; exact hpeers) (by rw [Core.entryFired_slotBusy]; exact hbusy)
  obtain ⟨hev, hrd, hseg, honly⟩ := State.entry_done (l := [.ttx, .cip]) hf (by decide)
    (by rw [Core.entryFired_entArg, Core.entryFired_entArg, ← hi, ← hpos]; exact hk) (by simp) hp hr (by rw [httx]) ht
  have hslot' : t.core.kslot i = (s.core.entryFired g e t₀).switched i p := by
    rw [← hslot]
    exact Core.kslot_of_cip (by rw [ht, State.onCore_cip, hev, Core.cnt_cip]) i
  obtain ⟨htx', hready, -, hother⟩ := (s.core.entryFired g e t₀).switched_reads i p
  rw [hslot']
  exact ⟨hrd, hseg, htx', hready, (hother hp2).1.trans (by rw [hks]), honly⟩

theorem State.ttKeyswitch_refused {i p : Nat} (hf : s.core.fires e tyKeyswitch g t₀) (hi : i = s.core.entArg e 51 40)
    (hpos : p = s.core.entArg e 52 52) (hl : ((s.core.kslot i).pos p).loaded = true) (htx : (s.core.kslot i).txPos ≠ p)
    (hpeers : s.core.peersIn i (s.core.kslot i).ready = false)
    (ht : t = s.onCore (fun k => k.fireEv e tyKeyswitch (fun k _ _ _ => k.keySwitch (k.entArg e 51 40) (k.entArg e 52 52) true))) :
    t.core.rd Reg.TTX_REFUSED_CNT = min (s.core.rd Reg.TTX_REFUSED_CNT + 1) (2 ^ 32 - 1) ∧
      t.core.segRun g = (s.core.segFired g e).segRun g ∧ (t.core.kslot i).txPos = (s.core.kslot i).txPos ∧
      s.only [.ttx] [Reg.TTX_LATE_CNT, Reg.TTX_REFUSED_CNT] t := by
  have hks := s.core.entryFired_kslot g e t₀ i
  obtain ⟨k', hk, hp, hr⟩ := (s.core.entryFired g e t₀).keySwitch_tt_refused (i := i) (p := p) (by rw [hks]; exact hl)
    (by rw [hks]; exact htx) (by rw [hks, Core.entryFired_peersIn]; exact hpeers)
  have httx : k'.ttx = (s.core.entryFired g e t₀).ttx := hp .ttx (by decide)
  have hcip : k'.cip = (s.core.entryFired g e t₀).cip := hp .cip (by decide)
  obtain ⟨hev, hrd, hseg, honly⟩ := State.entry_refused (l := [.ttx]) hf (by decide)
    (by rw [Core.entryFired_entArg, Core.entryFired_entArg, ← hi, ← hpos]; exact hk) (by decide) (by decide) (by simp)
    (Core.onlyParts_mono (by simp) hp) hr (by rw [httx]) ht
  refine ⟨hrd, hseg, ?_, honly⟩
  have hslot : t.core.kslot i = s.core.kslot i := Core.kslot_of_cip
    (by rw [ht, State.onCore_cip, hev, Core.refuseEntry, Core.emit_cip, Core.cnt_cip, hcip, Core.entryFired_cip]) i
  rw [hslot]

/-! ### DECODE, SHARD and ASTER -/

theorem Core.setEnc_selects (k : Core) {c b : Nat} (hb : b < 2) (hv : (k.bank c b).valid = true) :
    ∃ k', k.setEnc c b = (k', stOk) ∧ (k'.bank c b).enc = true ∧ (k'.bank c (1 - b)).enc = false ∧ k'.ttx = k.ttx ∧
      k.onlyParts [.ttx, .xfm] k' ∧ k.onlyRegs [] k' := by
  have hk : k.setEnc c b = _ := k.clsCmd_setEnc c b hv
  obtain ⟨hset, hclear, -⟩ := k.encSet_banks c b hb
  obtain ⟨hp, hr⟩ := k.only_encSet c b (l := [.ttx, .xfm]) (r := []) (by simp)
  have httx : (k.encSet c b).ttx = k.ttx := rfl
  generalize k.encSet c b = u at hk hset hclear hp hr httx
  have hbank : ∀ (code id : Nat) (ev : List (Nat × Nat × Nat)) (b' : Nat), (u.emit code id ev).bank c b' = u.bank c b' :=
    fun _ _ _ _ => by unfold Core.bank; rw [Core.emit_xfm]
  exact ⟨_, hk, by rw [hbank, hset], by rw [hbank, hclear], by rw [Core.emit_ttx, httx],
    Core.onlyParts_trans hp (Core.onlyParts_emit _ _ _), Core.onlyRegs_trans hr (Core.onlyRegs_emit _ _ _)⟩

theorem State.ttDecode_selects {c b : Nat} (hf : s.core.fires e tyDecode g t₀) (hc : c = s.core.entArg e 43 40)
    (hb : b = s.core.entArg e 44 44) (hv : (s.core.bank c b).valid = true)
    (ht : t = s.onCore (fun k => k.fireEv e tyDecode (fun k _ _ _ => k.setEnc (k.entArg e 43 40) (k.entArg e 44 44)))) :
    t.core.rd Reg.TTX_FIRED_CNT = min (s.core.rd Reg.TTX_FIRED_CNT + 1) (2 ^ 32 - 1) ∧
      t.core.segRun g = (s.core.segFired g e).segRun g ∧ (t.core.bank c b).enc = true ∧ (t.core.bank c (1 - b)).enc = false ∧
      s.only [.ttx, .xfm] [Reg.TTX_LATE_CNT, Reg.TTX_FIRED_CNT] t := by
  have hb2 : b < 2 := hb ▸ fld_lt _ 44 44
  have hvalid : ((s.core.entryFired g e t₀).bank c b).valid = true := by
    unfold Core.bank at hv ⊢
    rw [Core.entryFired_xfm, hv]
  obtain ⟨k', hk, hset, hclear, httx, hp, hr⟩ := (s.core.entryFired g e t₀).setEnc_selects hb2 hvalid
  obtain ⟨hev, hrd, hseg, honly⟩ := State.entry_done (l := [.ttx, .xfm]) hf (by decide)
    (by rw [Core.entryFired_entArg, Core.entryFired_entArg, ← hc, ← hb]; exact hk) (by simp) hp hr (by rw [httx]) ht
  have hbank : ∀ b', t.core.bank c b' = k'.bank c b' := fun b' => by
    unfold Core.bank
    rw [ht, State.onCore_xfm, hev, Core.cnt_xfm]
  exact ⟨hrd, hseg, by rw [hbank, hset], by rw [hbank, hclear], honly⟩

/-- Shard map bank `b` selected. -/
def Core.shardSet (k : Core) (b : Nat) : Core := { k with ttx := { k.ttx with shard := some b } }

theorem Core.only_shardSet (k : Core) (b : Nat) : k.onlyParts [.ttx] (k.shardSet b) ∧ k.onlyRegs [] (k.shardSet b) ∧
    (k.shardSet b).ttx.segs = k.ttx.segs := ⟨Core.onlyParts_ttx (by simp) _, Core.onlyRegs_of_regs rfl, rfl⟩

theorem State.ttShard_selects (hf : s.core.fires e tyShard g t₀)
    (ht : t = s.onCore (fun k => k.fireEv e tyShard (fun k _ t _ => (k.shardTake (k.entArg e 40 40) 1 t, stOk)))) :
    t.core.rd Reg.TTX_FIRED_CNT = min (s.core.rd Reg.TTX_FIRED_CNT + 1) (2 ^ 32 - 1) ∧
      t.core.segRun g = (s.core.segFired g e).segRun g ∧ t.core.ttx.shard = some (s.core.entArg e 40 40) ∧
      s.only [.ttx] [Reg.TTX_LATE_CNT, Reg.TTX_FIRED_CNT] t := by
  obtain ⟨hp, hr, hsegs⟩ := (s.core.entryFired g e t₀).only_shardSet (s.core.entArg e 40 40)
  have hk : ∃ ev, (s.core.entryFired g e t₀).shardTake (s.core.entArg e 40 40) 1 t₀ =
      ((s.core.entryFired g e t₀).shardSet (s.core.entArg e 40 40)).emit 0x6802 0x0D04 ev := ⟨_, rfl⟩
  obtain ⟨ev, hk⟩ := hk
  obtain ⟨hev, hrd, hseg, honly⟩ := State.entry_done (l := [.ttx]) hf (by decide)
    (by rw [Core.entryFired_entArg, hk]) (by simp)
    (Core.onlyParts_trans hp (Core.onlyParts_emit _ _ _)) (Core.onlyRegs_trans hr (Core.onlyRegs_emit _ _ _))
    (by rw [Core.emit_ttx, hsegs]) ht
  refine ⟨hrd, hseg, ?_, honly⟩
  rw [ht, State.onCore_ttx, hev, Core.cnt_ttx, Core.emit_ttx]
  rfl

theorem Core.onlyParts_mgt {k : Core} {l : List Part} (h : Part.mgt ∈ l) (x : Mgt) : k.onlyParts l { k with mgt := x } := by
  intro p hp
  cases p
  case mgt => exact absurd h hp
  all_goals rfl

theorem State.onCore_asterT (s : State) (f : Core → Core) : (s.onCore f).core.mgt.asterT = (f s.core).mgt.asterT := by
  have h : Part.same .mgt (f s.core) (s.onCore f).core :=
    Part.same_capCheck .mgt _ (Part.same_alert .mgt (Part.same_drain .mgt rfl))
  unfold Part.same at h
  dsimp only at h
  rw [← h]

theorem State.ttAster_schedules (hf : s.core.fires e tyAster g t₀) (hnone : s.core.mgt.asterT = none)
    (ht : t = s.onCore (fun k => k.fireEv e tyAster (fun k _ t _ => k.asterRequest t false))) :
    t.core.rd Reg.TTX_FIRED_CNT = min (s.core.rd Reg.TTX_FIRED_CNT + 1) (2 ^ 32 - 1) ∧
      t.core.segRun g = (s.core.segFired g e).segRun g ∧ t.core.mgt.asterT = some t₀ ∧
      s.only [.ttx, .mgt] [Reg.TTX_LATE_CNT, Reg.TTX_FIRED_CNT] t := by
  have hk : ∃ k' : Core, (s.core.entryFired g e t₀).asterRequest t₀ false = (k', stOk) ∧ k'.mgt.asterT = some t₀ ∧
      k'.ttx = (s.core.entryFired g e t₀).ttx ∧ (s.core.entryFired g e t₀).onlyParts [.ttx, .mgt] k' ∧
      (s.core.entryFired g e t₀).onlyRegs [] k' := by
    have hmgt : (s.core.entryFired g e t₀).mgt.asterT = none := by rw [Core.entryFired_mgt, hnone]
    generalize s.core.entryFired g e t₀ = u at hmgt
    have hreq : u.asterRequest t₀ false = ({ u with mgt := { u.mgt with asterT := some t₀ } }, stOk) := by
      simp [Core.asterRequest, hmgt]
    exact ⟨_, hreq, rfl, rfl, Core.onlyParts_mgt (by simp) _, Core.onlyRegs_of_regs rfl⟩
  obtain ⟨k', hk, haster, httx, hp, hr⟩ := hk
  obtain ⟨hev, hrd, hseg, honly⟩ := State.entry_done (l := [.ttx, .mgt]) hf (by decide) (by exact hk) (by simp) hp hr (by rw [httx]) ht
  exact ⟨hrd, hseg, by rw [ht, State.onCore_asterT, hev, Core.cnt_mgt, haster], honly⟩

end

/-- Settles O27: an entry that is next and due takes its segment on and does its kind's action in the core it leaves. -/
theorem timetableEntriesFire : Obligations.TimetableEntriesFire := by
  unfold Obligations.TimetableEntriesFire
  refine ⟨fun e g t₀ s hf => ?nop, fun e g t₀ s hf hon hpat => ?slotclass, fun e g t₀ s hf hbad => ?slotclassRefused,
    fun e g t₀ x q s hf hx hq hfail hpark hP hQ hck hpred => ?start, fun e g t₀ h b s hf hh hb hact hok => ?gate,
    fun e g t₀ v s hf hv hopen => ?epoch, fun e g t₀ v s hf hv hopen hne => ?epochRefused,
    fun e g t₀ i p s hf hi hp hl htx hpeers hbusy => ?keyswitch, fun e g t₀ i p s hf hi hp hl htx hpeers => ?keyswitchRefused,
    fun e g t₀ c b s hf hc hb hv => ?decode, fun e g t₀ s hf => ?shard, fun e g t₀ s hf hnone => ?aster,
    fun e g t₀ v s hf hv hopen => ?siteEpoch⟩
  case nop => exact Completes.of_exec rfl (State.ttNop_fires hf rfl)
  case slotclass => exact Completes.of_exec rfl (State.ttSlotclass_gives hf hon hpat rfl)
  case slotclassRefused => exact Completes.of_exec rfl (State.ttSlotclass_refused hf hbad rfl)
  case start => exact Completes.of_exec rfl (State.ttStart_enters hf hx hq hfail hpark hP hQ hck hpred rfl)
  case gate => exact Completes.of_exec rfl (State.ttGate_switches hf hh hb hact hok rfl)
  case epoch => exact Completes.of_exec rfl (State.ttEpoch_takes hf hv hopen rfl)
  case epochRefused => exact Completes.of_exec rfl (State.ttEpoch_refused hf hv hopen hne rfl)
  case keyswitch => exact Completes.of_exec rfl (State.ttKeyswitch_switches hf hi hp hl htx hpeers hbusy rfl)
  case keyswitchRefused => exact Completes.of_exec rfl (State.ttKeyswitch_refused hf hi hp hl htx hpeers rfl)
  case decode => exact Completes.of_exec rfl (State.ttDecode_selects hf hc hb hv rfl)
  case shard => exact Completes.of_exec rfl (State.ttShard_selects hf rfl)
  case aster => exact Completes.of_exec rfl (State.ttAster_schedules hf hnone rfl)
  case siteEpoch => exact Completes.of_exec rfl (State.ttSiteEpoch_takes hf hv hopen rfl)

end Sys2Proof.Machine
end
